-- ==== Sys2Proof/Word.lean ====
section
/-! DEFINITION. The words of the TN6440 and their plainest arithmetic (R6, R7, R14). -/

namespace Sys2Proof

/-- One byte of a memory, a frame or a record. -/
abbrev Byte := BitVec 8
/-- One 32-bit register, mailbox or engine word. -/
abbrev Word := BitVec 32
/-- One two-word register: a T64 stamp, a sequence number (R13). -/
abbrev DWord := BitVec 64

/-- A counter that saturates at all ones (R14). -/
def satInc {w : Nat} (x : BitVec w) : BitVec w := if x = BitVec.allOnes w then x else x + 1

/-- A saturating counter advanced `n` times at once. -/
def satAdd {w : Nat} (x : BitVec w) (n : Nat) : BitVec w :=
  if x.toNat + n < 2 ^ w then BitVec.ofNat w (x.toNat + n) else BitVec.allOnes w

/-- One bit as a number. -/
def bit (b : Bool) : Nat := if b then 1 else 0

end Sys2Proof
end

