-- ==== Sys2Proof/Syntax.lean ====
section
/-! DEFINITION. The commands of the TN6440: one constructor for each row of the opcode table, with
the operands the spec gives the event. The docstring of a constructor is its row's summary. -/

namespace Sys2Proof

/-- A request to Sage as it is read (Table 3-3): the requester (0 to 31 the engines, 32 the host),
its tag, the body words after word 0, and bits 7:0 of word 0, which a request leaves 0. -/
structure Req where
  src  : Fin 33
  tag  : Byte
  body : List Word
  low  : Byte := 0
deriving DecidableEq, Repr

/-- What the crypto unit finds about a signed thing (R64, R98, R102): its signature verifies under the named
key; its digest matches; the owner certificate entry that names the key carries a signature that verifies.
SM2 and SM3 are other standards (log 5). -/
structure Verdict where
  sig    : Bool
  digest : Bool
  cert   : Bool := true
deriving DecidableEq, Repr

/-- An instruction of a Polnil engine as it is fetched: the engine and the word (R319). -/
structure Issue where
  eng  : Fin 32
  word : Word
deriving DecidableEq, Repr

/-- A servo sample (Table 4-3): offset in 2^-16 ns, path_delay in 250 ps units. -/
structure Sample where
  stamp      : DWord
  offset     : DWord
  pathDelay  : Word
  port       : BitVec 16
  offValid   : Bool
  pdValid    : Bool
  newRef     : Bool
deriving DecidableEq, Repr

/-- UTC data that a time source supplies with a sample (R118): the TAI - UTC offset where it gives
one, and the leap flags. -/
structure UtcInfo where
  offset : Option Byte
  leap61 : Bool
  leap59 : Bool
deriving DecidableEq, Repr

/-- A decoded IRIG-B frame (R141): whether parity and position markers are right, its second as
seconds since 1970 in its own time scale, the IEEE 1344 time offset in seconds, leap bits, daylight saving and time
quality, and the stamp of the on-time marker. -/
structure IrigFrame where
  valid   : Bool
  second  : Nat
  zone    : Int
  leap    : UtcInfo
  dst     : Bool := false
  quality : BitVec 4 := 0
  stamp   : DWord
deriving DecidableEq, Repr

/-- What the PCS reports of a frame beside its bytes: a code error inside it, and of the RS-FEC codewords it lies in
how many were corrected and how many could not be (R154, R156). -/
structure Pcs where
  sym  : Bool := false
  corr : Nat := 0
  unc  : Nat := 0
deriving DecidableEq, Repr

/-- A received preemption fragment (R166): the start of a frame with its stamp, a continuation, the
end of the frame with its FCS, a fragment with a bad SMD or frame count or a missing or bad mCRC, or
a verify frame of the partner. -/
inductive Frag where
  | start (b : List Byte) (stamp : DWord)
  | next (b : List Byte)
  | last (b : List Byte)
  | badSmd
  | badMcrc
  | verify
deriving DecidableEq, Repr

/-- One adjacency of a link-state advertisement (R244). -/
structure Adj where
  port : Fin 4
  peer : DWord
  cost : BitVec 16
  rate : Bool
deriving DecidableEq, Repr

/-- A link-state advertisement (R244): key ID, incarnation, sequence number, address and claim state
(1 tentative, 2 held; `fixed` when static), time priority, qualified bit, adjacencies. -/
structure Lsa where
  id    : DWord
  inc   : Word
  seq   : Word
  addr  : BitVec 12
  claim : BitVec 2
  fixed : Bool
  prio  : Byte
  qual  : Bool
  adj   : List Adj
deriving DecidableEq, Repr

/-- The payload of a HELLO (Table 8-3), with whether its header is right (R237) and its source
address, first octet lowest. -/
structure HelloMsg where
  hdrOk    : Bool
  mac      : BitVec 48
  fabricId : Word
  keyId    : DWord
  serial   : DWord
  addr     : BitVec 12
  claim    : BitVec 2
  lc       : Byte
  port     : Byte
deriving DecidableEq, Repr

/-- An ADMIT frame as Sage finds it (R240, Table 8-4): the last one of the handshake or not, whether
the certificate and the handshake signature verify, and the peer's owner root hash. -/
structure AdmitMsg where
  hdrOk : Bool
  last  : Bool
  cert  : Bool
  sig   : Bool
  owner : BitVec 256
deriving DecidableEq, Repr

/-- A TIME frame (R252, R253): a delay request, a response with the four stamps of its exchange, a
SYNC with its ingress stamp, a FOLLOW_UP with SYNC's egress stamp and the parent's own offset from the reference. -/
inductive TimeMsg where
  | request
  | response (t1 t2 t3 t4 : DWord)
  | sync (ingress : DWord)
  | followUp (egress offset : DWord)
deriving DecidableEq, Repr

/-- A CAN frame as the protocol carries it (R408, R412): base identifiers in bits 10:0. -/
structure CanMsg where
  id   : BitVec 29
  ide  : Bool
  rtr  : Bool := false
  fdf  : Bool := false
  brs  : Bool := false
  esi  : Bool := false
  /-- the res bit of an FD frame is recessive (Table 14-1) -/
  res  : Bool := false
  data : List Byte
deriving DecidableEq, Repr

/-- Errors of a channel by kind (R420, Tables 14-9 and 14-10), arbitration loss with them. -/
inductive CanErrKind where
  | arbitration | bitRecessive | bitDominant | stuff | crc | form | ack
deriving DecidableEq, Repr

/-- A detected error: its kind, whether it lies in the data phase, whether the channel is sending,
whether ISO 11898-1 gives it its special step of the counters (a sender's TEC unchanged, a receiver's
REC + 8), and whether it lies in the control, data or CRC field (R423). -/
structure CanErr where
  kind      : CanErrKind
  dataPhase : Bool
  sending   : Bool
  special   : Bool
  field     : Bool
deriving DecidableEq, Repr

/-- The condition of R384 that an epoch fails at its deadline. -/
inductive CommitMiss where
  | signature | ecc | journal | previous
deriving DecidableEq, Repr

/-- Where an uncorrectable word stands (Tables 12-1 and 12-3), with what its outcome needs: frames dropped while
an entry is rewritten, the other copy damaged too. -/
inductive EccAt where
  | bank (e : Fin 32) (line : Fin 6144)
  | packet (fid : Option Nat)
  | journal (k : Fin 16) (free : Bool)
  | sageBank (both : Bool)
  | learned (addr : BitVec 48) (vid : BitVec 12)
  | table (drops : Nat)
  | hotCache
  | capture (slot : Fin 6553)
  | portStat (p : Fin 68) (snap : Bool) (i : Nat)
  | blockStat (i : Fin 9)
  | mailbox (n : Fin 64) (home : Bool) (i : Fin 8)
  | schedule (u : Fin 80) (copyBad : Bool)
  | service (off : Nat)
  | dramPoint (p : BitVec 23)
deriving DecidableEq, Repr

/-- A DRAM island failure: it begins, retraining clears it, or 100 ms have passed (Table 13-5). -/
inductive DramEvent where
  | failed | cleared | overdue
deriving DecidableEq, Repr

/-- Fatal errors that no other command reports (Table 13-6). -/
inductive FatalCause where
  | alwaysOn | inconsistent
deriving DecidableEq, Repr

/-- The sentinel values of an island over a planning interval (Table 16-1): worst current-period and floor-period
slack in ps, ring-oscillator degradation in ppm, charge budget in percent, the four array margins, Tj in 0.25 °C
now and at its highest, supply in mV. -/
structure Sentinel where
  island : Fin 46
  cur    : Int
  floor  : Int
  ppm    : BitVec 16
  em     : Fin 101
  sram   : Word
  tj     : BitVec 16
  tjHigh : BitVec 16
  supply : BitVec 16
deriving DecidableEq, Repr

/-- What the planner finds after an increment (R457, R458): acknowledged with a good PEC after at most one
retry, in LINEAR16; the readback; the regulator's status byte; supply and floor-period slack of each island. -/
structure RailCheck where
  ack      : Bool
  /-- VOUT_MODE of a PMBus regulator is LINEAR16 -/
  linear   : Bool := true
  readback : BitVec 16
  status   : Byte
  islands  : List (Fin 46 × BitVec 16 × Int)
deriving DecidableEq, Repr

/-- The reference clocks as the always-on island finds them, and the frequency of REFCLK_B in Hz as measured
against REFCLK_A (R54, R75). -/
structure Clocks where
  a  : Bool
  b  : Bool
  hz : Nat
deriving DecidableEq, Repr

/-- A trained PCIe link (R518). -/
structure PcieLink where
  width : BitVec 4
  speed : BitVec 4
deriving DecidableEq, Repr

/-- What start-up finds about a slot: header and trailer read after at most one repeat, every later read too
(R69), digest and signature, and the crypto unit's findings on the personalities it references (check 17). -/
structure SlotFind where
  head : Bool
  body : Bool
  v    : Verdict
  pers : Bool
deriving DecidableEq, Repr

/-- An NVM device as its SFDP tables describe it: bytes, and octal DDR support (R57). -/
structure NvmDev where
  size  : Nat
  octal : Bool
deriving DecidableEq, Repr

/-- What the SFDP search finds (R57): the device on XSPI_CS0_N, and on XSPI_CS1_N the signature word read there
with the device that follows it, where anything answers. -/
structure NvmFind where
  cs0 : NvmDev := { size := 0x4000000, octal := true }
  cs1 : Option (Word × NvmDev) := none
deriving DecidableEq, Repr

/-- What start-up finds (Table 2-2): the NVM devices; the two directory copies read; the signatures of kernel
copies 0 and 1; both slots; the device key reconstructed; DRAM trained within its attempts; ledger slots that
cannot be read; the writes of PORT.MDIO, by their index in the record, that receive no turnaround response at first,
and again when they are repeated; the PCIe link, when it trains; and the time from the
end of the reset to READY in microseconds. -/
structure BootFind where
  nvm    : NvmFind := {}
  dir0   : Bool
  dir1   : Bool
  kern0  : Bool
  kern1  : Bool
  a      : SlotFind
  b      : SlotFind
  puf    : Bool
  dram   : Bool
  ledger : List (Fin 64)
  mdio   : List (Nat × Bool)
  link   : Option PcieLink
  micros : Word
deriving DecidableEq, Repr

/-- A byte address in one of the two windows of the PCIe function (R487). -/
inductive BarAddr where
  | bar0 (a : BitVec 26)
  | bar2 (a : BitVec 28)
deriving DecidableEq, Repr

/-- The commands, in the order of spec/opcode_table.json. -/
inductive Instr where
  /-- POR_N_ASSERT: POR_N held low for 1 µs causes a cold reset with cause 0x0, zeroes DEV_RST_COUNT and deasserts READY. (R44) -/
  | porNAssert
  /-- SUPPLY_MONITOR_RESET: A rail below its monitor threshold for 1 µs resets the device with cause 0x1 and holds the reset until every rail recovers. (R512) -/
  | supplyMonitorReset (rail : Fin 10) (mv : Nat)
  /-- THERMAL_TRIP: An island sensor above the trip point asserts THERMTRIP_N and holds a reset with cause 0x2 until every sensor reads below the release point. (R522) -/
  | thermalTrip (tj : Int)
  /-- THERMAL_RELEASE: Every sensor reading below the release point ends the thermal reset and releases THERMTRIP_N. (R522) -/
  | thermalRelease (x : Clocks) (tj : Int)
  /-- WARM_N_ASSERT: WARM_N held low for 1 µs causes a warm reset with cause 0x3. (R44) -/
  | warmNAssert
  /-- SAGE_WATCHDOG_EXPIRY: No service of the always-on watchdog for 100 ms latches a fatal record and resets the device with cause 0x5. (R44) -/
  | sageWatchdogExpiry
  /-- PE_PERST_N_ASSERT: PE_PERST_N resets only the PCIe link, configuration space, MSI-X table, PBA and IRQ_VSTATE, and counts in DEV_LINK.perst_count. (R486) -/
  | pePerstNAssert
  /-- PE_PERST_N_RELEASE: Release of PE_PERST_N lets link training begin, once start-up step 4 has also passed. (R518) -/
  | pePerstNRelease (link : Option PcieLink)
  /-- TRST_N_ASSERT: TRST_N resets only the JTAG TAP. (R45) -/
  | trstNAssert
  /-- POR_N_RELEASE: Release of POR_N starts the always-on stage: REFCLK_A check, PLL lock, OTP sense, life-cycle decode and REFCLK_B measurement. (R51) -/
  | porNRelease (x : Clocks)
  /-- RESET_CLOCK_CHECK: While neither reference clock is present, the always-on island checks both clocks every 1 ms and keeps the device in reset. (R54) -/
  | resetClockCheck (x : Clocks)
  /-- REFCLK_A_ABSENT_TIMEOUT: With REFCLK_A absent at release, start-up proceeds on REFCLK_B after 10 ms. (R54) -/
  | refclkAAbsentTimeout
  /-- WIPE_COMPLETE: Completion of the wipe in every bank lets Sage begin its ROM start-up. (R48) -/
  | wipeComplete (f : BootFind)
  /-- WIPE_TIMEOUT: A bank not reporting wipe completion within 60 µs holds every other island in reset, asserts FAULT_N and ALARM_N, and repeats the wipe every 10 ms. (R49) -/
  | wipeTimeout
  /-- ALARM_HOLD_END: ALARM_N deasserts once hold_ms has passed since its last cause cleared. (R76) -/
  | alarmHoldEnd
  /-- VOTER_DISAGREEMENT: A Sage core that disagrees with the majority is resynchronised, or fenced into duplex operation after three disagreements within 1 s; a disagreement in duplex operation is fatal. (R78) -/
  | voterDisagreement (core : Fin 3)
  /-- TRNG_HEALTH_FAIL: A failed TRNG health test restarts the TRNG, and three consecutive failed restarts raise a fatal error. (R81) -/
  | trngHealthFail (restarted : Bool)
  /-- REQUEST_BODY_TIMEOUT: A host request whose announced body words do not arrive within 1 ms of word 0 is discarded without a response. (R499) -/
  | requestBodyTimeout
  /-- REQUEST_RESERVED_CLASS: A request of reserved class 0xE or 0xF, or of an unknown operation, returns UNKNOWN. (R91) -/
  | requestReservedClass (q : Req) (code : BitVec 12)
  /-- SAGE_RESPONSE_DELIVER: A response or notice waiting in the Sage bank is posted once the reader's queue has room. (R501) -/
  | sageResponseDeliver (n : Fin 64)
  /-- CHALLENGE: Operation 0x001 returns a fresh 16-byte nonce and the serial, superseding the requester's previous nonce. (R101) -/
  | challenge (q : Req)
  /-- ATTESTATION: Operation 0x002 returns an attestation report signed by the device identity key. (R103) -/
  | attestation (q : Req)
  /-- TABLE_EDIT_CORE: Operation 0x101 applies age_s and the capture fields of SW.CORE without a generation and restarts the capture ring. (R207) -/
  | tableEditCore (q : Req)
  /-- TABLE_EDIT_PORT: Operation 0x102 edits one SW.PORT instance as a new generation. (R207) -/
  | tableEditPort (q : Req)
  /-- TABLE_EDIT_RED: Operation 0x103 edits one SW.RED profile as a new generation. (R207) -/
  | tableEditRed (q : Req)
  /-- TABLE_EDIT_METER: Operation 0x104 edits one meter as a new generation and refills its buckets. (R207) -/
  | tableEditMeter (q : Req)
  /-- TABLE_EDIT_VLAN: Operation 0x105 edits one VLAN entry as a new generation. (R207) -/
  | tableEditVlan (q : Req)
  /-- TABLE_EDIT_FDB: Operation 0x106 adds, replaces or deletes forwarding-database entries as a new generation. (R207) -/
  | tableEditFdb (q : Req)
  /-- TABLE_EDIT_MCAST: Operation 0x107 edits one multicast group as a new generation. (R207) -/
  | tableEditMcast (q : Req)
  /-- TABLE_EDIT_RULE: Operation 0x108 edits one classifier rule as a new generation. (R207) -/
  | tableEditRule (q : Req)
  /-- TABLE_EDIT_BATCH: Operation 0x1FF applies a batch of SW records as one generation, or none of them. (R207) -/
  | tableEditBatch (q : Req)
  /-- LINK_COST_SET: Request 0x201 sets a fabric link cost, originates an LSA and triggers recomputation. (R255) -/
  | linkCostSet (q : Req)
  /-- DEVICE_EXCLUDE: Request 0x202 excludes a device from, or restores it to, the device's own paths. (R255) -/
  | deviceExclude (q : Req)
  /-- ROUTE_RECOMPUTE: Request 0x203 recomputes paths at once without waiting for spf_hold_ms. (R255) -/
  | routeRecompute (q : Req)
  /-- KEY_SIGN: Request 0x301 returns an SM2 signature made with a granted key slot. (R305) -/
  | keySign (q : Req) (tagOk : Bool)
  /-- KEY_EXCHANGE: Request 0x302 performs an SM2 key agreement and returns the own point and the shared secret. (R305) -/
  | keyExchange (q : Req) (tagOk : Bool) (onCurve : Bool)
  /-- KEY_EXPORT: Request 0x303 writes an exportable symmetric key into the requester's bulk area. (R305) -/
  | keyExport (q : Req) (tagOk : Bool)
  /-- TIME_STEP_REQUEST: Request 0x401 steps device time by a signed amount in FREERUN or ACQUIRE. (R135) -/
  | timeStepRequest (q : Req)
  /-- TIME_SET_REQUEST: Request 0x402 sets device time in FREERUN and records the change as a step. (R135) -/
  | timeSetRequest (q : Req)
  /-- UTC_OFFSET_SET: Request 0x403 sets TIME_UTC while the active source is none or Jabex. (R135) -/
  | utcOffsetSet (q : Req)
  /-- SCHEDULE_LOAD: Request 0x501 loads the inactive schedule bank in scheduler and guardian and verifies it by CRC read-back. (R229) -/
  | scheduleLoad (q : Req)
  /-- SCHEDULE_SWAP_REQUEST: Request 0x502 accepts a swap of the named ports or channels at their next common boundary. (R229) -/
  | scheduleSwapRequest (q : Req)
  /-- SCHEDULE_SWAP: At the common cycle boundary or matrix-cycle start, the schedule banks swap, SWAP is logged and the swap request answers DONE. (R230) -/
  | scheduleSwap (chan : Option (Fin 16))
  /-- CHIVE_PROGRAM_WRITE: Request 0x510 copies the active bank into the inactive one and writes a CHIVE.PROG body over it. (R444) -/
  | chiveProgramWrite (q : Req)
  /-- CHIVE_RESTART_REQUEST: Request 0x511 schedules a restart of the named Chive groups at time R. (R444) -/
  | chiveRestartRequest (q : Req)
  /-- PERSONALITY_RESTART: Request 0x601 schedules a restart of an instance at its cluster's next epoch boundary. (R301) -/
  | personalityRestart (q : Req)
  /-- PERSONALITY_STOP: Request 0x602 stops an instance and discards its outbox. (R302) -/
  | personalityStop (q : Req)
  /-- PERSONALITY_START: Request 0x603 starts a stopped instance as in a restart. (R301) -/
  | personalityStart (q : Req)
  /-- INSTANCE_RESTART: At the epoch boundary the engine stops, its queues are flushed, its bank is rebuilt, subscriptions are refreshed and the engine is released at entry_pc. (R301) -/
  | instanceRestart (e : Fin 32) (ok : Bool)
  /-- STORE_APPEND_OPEN: Request 0x610 opens an append of a personality entry to the store. (R300) -/
  | storeAppendOpen (q : Req)
  /-- STORE_APPEND_WRITE: Request 0x611 writes part of the LZ4 block of the open entry. (R300) -/
  | storeAppendWrite (q : Req)
  /-- STORE_APPEND_COMMIT: Request 0x612 reads the entry back, checks it under R294 and writes its trailer. (R300) -/
  | storeAppendCommit (q : Req) (v : Verdict) (vpkSig : Bool) (nvmOk : Bool)
  /-- STORE_ENTRY_REMOVE: Request 0x613 programs a store entry's live word to 0. (R292) -/
  | storeEntryRemove (q : Req)
  /-- STORE_ERASE: Request 0x614 erases the whole personality store and rewrites its header. (R300) -/
  | storeErase (q : Req) (v : Verdict)
  /-- NVM_WRITE_COMPLETE: Completion of an accepted NVM write returns the final status and posts notice 0xF02 on MB57. (R502) -/
  | nvmWriteComplete (ok : Bool)
  /-- QUOTA_CHANGE: Request 0x709 sets one SW.QUOTA instance, which takes effect in one cycle. (R208) -/
  | quotaChange (q : Req)
  /-- POINT_GRANT_SET: Request 0x801 adds or replaces a point grant, effective at each running cluster's next epoch start. (R265) -/
  | pointGrantSet (q : Req)
  /-- POINT_GRANT_REMOVE: Request 0x802 removes a point grant at each cluster's next epoch start. (R265) -/
  | pointGrantRemove (q : Req)
  /-- POINT_SUBSTITUTE: Request 0x803 substitutes a point's value and quality, delivers it from source 4 and writes SOE kind 7. (R272) -/
  | pointSubstitute (q : Req)
  /-- POINT_SUBSTITUTE_END: Request 0x804 ends a substitution and writes SOE kind 7 again. (R272) -/
  | pointSubstituteEnd (q : Req)
  /-- SUBSCRIPTION_APPEND: Request 0x805 appends subscription entries to their lists, all or none. (R287) -/
  | subscriptionAppend (q : Req)
  /-- SUBSCRIPTION_REMOVE: Request 0x806 removes the first matching subscription entry of each item, all or none. (R287) -/
  | subscriptionRemove (q : Req)
  /-- IMAGE_WRITE_OPEN: Request 0x901 checks a new image header and erases the slot not selected at start-up. (R503) -/
  | imageWriteOpen (q : Req)
  /-- IMAGE_WRITE_DATA: Request 0x902 programs image bytes in ascending order and reads them back. (R503) -/
  | imageWriteData (q : Req) (nvmOk : Bool)
  /-- IMAGE_WRITE_COMMIT: Request 0x903 checks the whole image under R64 and writes its trailer. (R503) -/
  | imageWriteCommit (q : Req) (v : Verdict) (pers : Bool) (nvmOk : Bool)
  /-- IMAGE_WRITE_CLOSE: Request 0x904 closes the open image write without a commit marker. (R503) -/
  | imageWriteClose (q : Req)
  /-- IMAGE_WRITE_STATUS: Request 0x905 returns the state of the image write and the bytes written. (R503) -/
  | imageWriteStatus (q : Req)
  /-- IMAGE_WRITE_ABANDON: An open image write is abandoned after 60 s idle or an NVM failure, and notice 0xF04 is posted. (R504) -/
  | imageWriteAbandon (nvm : Bool)
  /-- LIFECYCLE_PROVISION: Operation 0xA01 burns owner slot 0 and the PROVISIONED fuses, then a cold reset follows. (R106) -/
  | lifecycleProvision (q : Req)
  /-- LIFECYCLE_OPERATIONAL: Operation 0xA02 moves PROVISIONED to OPERATIONAL under an owner certificate. (R106) -/
  | lifecycleOperational (q : Req) (v : Verdict)
  /-- LIFECYCLE_SERVICE_ENTRY: Operation 0xA03 burns a SERVICE entry fuse. (R106) -/
  | lifecycleServiceEntry (q : Req) (v : Verdict)
  /-- LIFECYCLE_SERVICE_EXIT: Operation 0xA04 burns a SERVICE exit fuse and returns to OPERATIONAL. (R106) -/
  | lifecycleServiceExit (q : Req)
  /-- LIFECYCLE_RETIRE: Operation 0xA05 burns the RETIRED group and erases the key, certificate and personality regions. (R108) -/
  | lifecycleRetire (q : Req) (v : Verdict)
  /-- OWNER_ROTATE: Operation 0xA06 burns the next owner slot and revokes the current one without a reset. (R106) -/
  | ownerRotate (q : Req) (v : Verdict)
  /-- LIFECYCLE_COLD_RESET: Within 10 ms of DONE of a life-cycle transition, Sage performs a cold reset with cause 0x6. (R95) -/
  | lifecycleColdReset
  /-- DEBUG_UNLOCK: Operation 0xB01 opens a debug scope for a duration, only in SERVICE. (R109) -/
  | debugUnlock (q : Req) (v : Verdict)
  /-- DEBUG_LOCK: Operation 0xB02 closes the open debug scope. (R109) -/
  | debugLock (q : Req)
  /-- DEBUG_SCOPE_EXPIRY: The end of the unlock duration closes the debug scope. (R109) -/
  | debugScopeExpiry
  /-- RESET_REQUEST: Request 0xC01 returns DONE and schedules a warm reset with cause 0x7. (R505) -/
  | resetRequest (q : Req)
  /-- REQUESTED_WARM_RESET: Within 1 ms of DONE of 0xC01, the device performs a warm reset with cause 0x7. (R505) -/
  | requestedWarmReset
  /-- KEY_IMPORT: A class 0xD request imports a key encrypted to the device identity key into a key-material slot. (R99) -/
  | keyImport (q : Req) (op : Byte) (keyLen : Option (BitVec 8))
  /-- OWNER_CERTIFICATE_WRITE: A class 0xD request writes the owner certificate region. (R106) -/
  | ownerCertificateWrite (q : Req) (op : Byte)
  /-- REFCLK_A_LOSS: No REFCLK_A edge for 100 ns moves the time island to REFCLK_B holdover, or is fatal when REFCLK_B is bad. (R119) -/
  | refclkALoss
  /-- REFCLK_A_RESTORE: REFCLK_A present and in tolerance for 1 s returns the time island to it. (R120) -/
  | refclkARestore
  /-- REFCLK_B_LOSS: Loss of REFCLK_B moves the guardian to its ring oscillator. (R223) -/
  | refclkBLoss
  /-- SERVO_SAMPLE: A servo sample from the active source updates the link delay, the servo state, TIME_FREQ or a step post, and the TT offset rule. (R130) -/
  | servoSample (source : Fin 4) (m : Sample) (utc : Option UtcInfo)
  /-- SERVO_STEP_APPLY: Sage applies or discards a posted servo step within 20 µs and writes a time-step record to the SOE ring. (R132) -/
  | servoStepApply
  /-- SOURCE_LOSS_TIMEOUT: No valid sample for loss_s moves the servo to FREERUN or HOLDOVER, or switches to the secondary source. (R131) -/
  | sourceLossTimeout
  /-- LEAP_SECOND: At the end of the last minute with a leap flag set, utc_offset changes by 1 and the flag clears. (R118) -/
  | leapSecond
  /-- PPS_OUT_EDGE: The PPS engine drives PPS_OUT high at a whole TAI second and low pps_width_ms later. (R448) -/
  | ppsOutEdge (rise : Bool)
  /-- PPS_IN_EDGE: A rising PPS_IN edge is stamped and sets TIME_PPS_OFS or serves as the IRIG-B on-time marker. (R140) -/
  | ppsInEdge (stamp : DWord)
  /-- PPS_IN_TIMEOUT: No PPS_IN edge for 2 s sets TIME_STATUS.pps_bad. (R140) -/
  | ppsInTimeout
  /-- IRIG_B_FRAME: A decoded IRIG-B frame yields one servo sample or is discarded and counted in TIME_IRIG_ERR. (R141) -/
  | irigBFrame (f : IrigFrame)
  /-- IRIG_B_LOSS_TIMEOUT: No valid IRIG-B frame for loss_s sets TIME_STATUS.irig_bad. (R141) -/
  | irigBLossTimeout
  /-- AUTONEGOTIATION_ATTEMPT: An in-band control word resolves the port speed, or keeps the port down on half duplex or an unsupported speed. (R148) -/
  | autonegotiationAttempt (p : Fin 64) (speed : Fin 4) (full : Bool)
  /-- LINK_UP: PCS sync and auto-negotiation held for 10 ms bring the link up and trigger the calibration measurement. (R149) -/
  | linkUp (p : Fin 68) (sdRx : BitVec 16) (sdTx : BitVec 16)
  /-- LINK_DOWN: PCS sync lost for 50 µs brings the link down and discards every frame queued for the port. (R150) -/
  | linkDown (p : Fin 68)
  /-- LANE_FAULT: A SerDes or PCS fault brings down every port of the lane and sets lane_fault. (R151) -/
  | laneFault (lane : Fin 20)
  /-- HIGH_BER: PCS high BER on a fabric port sets hi_ber and takes the port down. (R154) -/
  | highBer (p : Fin 4)
  /-- FRAME_CLASSIFY: Once a frame's first 64 B have arrived, a pipeline parses it and resolves its VLAN, rule, context, destinations, class and colour. (R179) -/
  | frameClassify (p : Fin 64) (head : List Byte) (len : Nat) (prp : Bool) (raw : DWord)
  /-- FRAME_RECEIVE_END: The end of reception gives the frame its outcome, counts it and admits it to store-and-forward destinations and cluster queues or abandons its decision. (R156) -/
  | frameReceiveEnd (p : Fin 68) (b : List Byte) (pcs : Pcs) (raw : DWord)
  /-- FDB_AGE_OUT: A learned entry not matched as a source for age_s is removed. (R181) -/
  | fdbAgeOut (addr : BitVec 48) (vid : BitVec 12)
  /-- PAUSE_FRAME: A received PAUSE frame pauses the non-exempt classes or is counted without effect. (R162) -/
  | pauseFrame (p : Fin 64) (quanta : BitVec 16)
  /-- PFC_FRAME: A received PFC frame pauses the named enabled classes or is counted without effect. (R162) -/
  | pfcFrame (p : Fin 64) (classes : BitVec 8) (quanta : List (BitVec 16))
  /-- PAUSE_QUANTA_EXPIRY: The end of a class's pause quanta ends its pause. (R162) -/
  | pauseQuantaExpiry (p : Fin 64) (classes : BitVec 8)
  /-- PAUSE_WATCHDOG: A port continuously paused for wd_ms has every pause ended and a holdoff started. (R163) -/
  | pauseWatchdog (p : Fin 64)
  /-- PAUSE_HOLDOFF_END: The end of holdoff_ms lets pause frames take effect again. (R163) -/
  | pauseHoldoffEnd (p : Fin 64)
  /-- VERIFY_ATTEMPT: A preemption verify exchange is sent after link up and repeated at 10 ms up to 3 attempts before verify fails. (R164) -/
  | verifyAttempt (p : Fin 64) (responds : Bool)
  /-- FRAGMENT_RECEIVE: A preemption fragment is reassembled, or its frame is dropped on a bad SMD, frame count or mCRC. (R166) -/
  | fragmentReceive (p : Fin 64) (x : Frag)
  /-- DD_ENTRY_AGE_OUT: A duplicate-discard entry ages out dd_age_ms after its creation. (R169) -/
  | ddEntryAgeOut (pair : Fin 32) (addr : BitVec 48) (seq : BitVec 16)
  /-- SUPERVISION_FRAME_SEND: Each PRP or HSR pair sends a supervision frame every sup_ms. (R167) -/
  | supervisionFrameSend (pair : Fin 32)
  /-- CELL_ARRIVAL: A cell arrives at an output and is acknowledged, negatively acknowledged on a CRC failure, or discarded as a duplicate. (R190) -/
  | cellArrival (inp : Fin 37) (out : Fin 85) (seq : Nat) (crcGood : Bool)
  /-- CELL_ACK_TIMEOUT: No acknowledgement within 1 µs makes the input re-send the cell on the next working plane. (R190) -/
  | cellAckTimeout (inp : Fin 37) (out : Fin 85) (seq : Nat)
  /-- PLANE_TEST_FAIL: A plane that fails its idle-slot test pattern is retired. (R191) -/
  | planeTestFail (plane : Fin 5)
  /-- FRAME_TRANSMIT_START: An egress port starts the highest-priority eligible frame that passes the gate and guard checks. (R194) -/
  | frameTransmitStart (p : Fin 68)
  /-- FRAME_TRANSMIT_END: The last byte of a frame leaves its port, counters update and the buffer is freed with the last copy. (R172) -/
  | frameTransmitEnd (p : Fin 68) (frag : Option Nat)
  /-- GUARDIAN_DEADLINE_DROP: A time-triggered frame still queued deadline_us after entering its queue is dropped with verdict 0x0B. (R214) -/
  | guardianDeadlineDrop (p : Fin 64) (c : Fin 8)
  /-- GATE_ENTRY_BOUNDARY: The end of a gate entry's duration moves the port to the next entry's gate state. (R211) -/
  | gateEntryBoundary (p : Fin 64)
  /-- TT_RESUME: At a qualifying cycle boundary a stopped or listen-only port resumes its time-triggered classes. (R222) -/
  | ttResume (p : Fin 64)
  /-- GUARD_CUT: A transmission still running at close - g/2 is cut by the guardian and the port enters listen-only. (R221) -/
  | guardCut (p : Fin 64)
  /-- GUARDIAN_COMPARE: Every 10 µs the guardian aligns G to device time, or closes every transmitter when they disagree beyond sync_tol. (R220) -/
  | guardianCompare (diff : Int)
  /-- GUARDIAN_REARM: After 100 ms of qualified time since a disagreement, Sage re-arms the guardian, unless a third disagreement within 10 s has closed it until reset. (R224) -/
  | guardianRearm
  /-- GUARD_ECC: An uncorrectable error in the guardian's schedule copy closes that unit until Sage reloads it. (R223) -/
  | guardEcc (u : Fin 80)
  /-- INSTANT_ISSUE: An instant generator issues a SAMPLE or LATCH at t mod period = phase to its consumers. (R218) -/
  | instantIssue (j : Fin 8)
  /-- REFERENCE_MESSAGE_SEND: A potential time master sends the reference message at each basic-cycle start. (R226) -/
  | referenceMessageSend (c : Fin 16) (edge : DWord)
  /-- COLD_START: A potential master that has heard no reference for 2 basic cycles sends the first reference message. (R227) -/
  | coldStart (c : Fin 16) (edge : DWord)
  /-- REF_LOST: A follower that misses an expected reference by more than 8 NTU stops sending in exclusive windows. (R227) -/
  | refLost (c : Fin 16)
  /-- CAN_GUARD_CUT: A CAN message still running at its window end is cut and the channel enters listen-only. (R228) -/
  | canGuardCut (c : Fin 16)
  /-- HELLO_SEND: Each fabric port whose lane is up sends a HELLO every 100 ms. (R240) -/
  | helloSend (n : Fin 4)
  /-- HELLO: A received HELLO refreshes the neighbour and may begin admission. (R240) -/
  | hello (n : Fin 4) (m : HelloMsg)
  /-- ADMIT: An ADMIT frame advances the admission handshake, which ends with a link key or a stranger port. (R240) -/
  | admitFrame (n : Fin 4) (m : AdmitMsg)
  /-- ADMISSION_TIMEOUT: An admission not completed within 50 ms fails with reason 7. (R241) -/
  | admissionTimeout (n : Fin 4)
  /-- STRANGER_RETRY: A stranger port retries admission every 10 s while HELLOs are heard. (R241) -/
  | strangerRetry (n : Fin 4)
  /-- NEIGHBOUR_LOSS: 300 ms without a HELLO loses an admitted neighbour and originates a new LSA. (R242) -/
  | neighbourLoss (n : Fin 4)
  /-- LSA: A received LSA with a verified tag replaces the stored one and is flooded when newer. (R244) -/
  | lsa (n : Fin 4) (tagOk : Bool) (hdrOk : Bool) (l : Lsa)
  /-- LSA_ORIGINATE: A device originates its LSA every 30 s. (R244) -/
  | lsaOriginate
  /-- LSA_AGE_OUT: An LSA not refreshed for 120 s is removed from the database. (R244) -/
  | lsaAgeOut (id : DWord)
  /-- CLAIM_HELD: A tentative dynamic address claim becomes held after 500 ms without conflict. (R243) -/
  | claimHeld
  /-- PATH_COMPUTATION: After spf_hold_ms Sage computes node-disjoint path pairs and installs all routes at once. (R245) -/
  | pathComputation
  /-- DATA_FRAME: A received CTX or PNT frame is forwarded on its route, delivered, or dropped as misrouted. (R237) -/
  | dataFrame (n : Fin 4) (head : List Byte) (ctx : BitVec 12) (raw : DWord)
  /-- STREAM_WINDOW_FREE: A stream window with no accepted frame for 10 s is freed. (R248) -/
  | streamWindowFree (src : DWord) (stream : BitVec 10)
  /-- FABRIC_EGRESS_DISCARD: A CTX or PNT frame that has waited 4 ms in a fabric egress queue is discarded. (R249) -/
  | fabricEgressDiscard (n : Fin 4) (c : Fin 8)
  /-- PNT_BATCH_SEND: A PNT stream sends its staged updates after batch_ns or when 64 updates are waiting. (R250) -/
  | pntBatchSend (st : Fin 1024)
  /-- DELAY_EXCHANGE: Every 125 ms a delay exchange with each admitted neighbour sets TIME_LINK_DELAY. (R252) -/
  | delayExchange (n : Fin 4) (t1 : DWord) (t2 : DWord) (t3 : DWord) (t4 : DWord)
  /-- SYNC_SEND: A time parent sends SYNC then FOLLOW_UP to each child every 62.5 ms. (R253) -/
  | syncSend (n : Fin 4)
  /-- TIME: A received TIME frame (delay request, response, SYNC or FOLLOW_UP) is checked by its tag and yields a delay or a servo sample. (R253) -/
  | time (n : Fin 4) (tagOk : Bool) (hdrOk : Bool) (m : TimeMsg)
  /-- FOLLOW_UP_TIMEOUT: A FOLLOW_UP not received within 10 ms of its SYNC discards that SYNC. (R253) -/
  | followUpTimeout (n : Fin 4)
  /-- POINT_UPDATE: The point engine judges an admitted update through its filters and delivers, holds, suppresses or blocks it. (R269) -/
  | pointUpdate (src : Fin 36)
  /-- POINT_GET: The point engine returns a point's value, quality and stamp to a GET. (R268) -/
  | pointGet (src : Fin 32)
  /-- DP_HOLD_EXPIRY: A double-point hold timer expires and delivers the held intermediate state. (R270) -/
  | dpHoldExpiry (p : Fin 8388608)
  /-- CHATTER_RELEASE: A chatter release timer expires and delivers the rest value with oscillatory clear. (R271) -/
  | chatterRelease (p : Fin 8388608)
  /-- WINDOW_CLOSE: A reporting window closes at its end plus grace_us and delivers each filled slot once. (R281) -/
  | windowClose (w : Fin 65)
  /-- PENDING_DELIVERY_WRITE: As a full queue gains space, pending entries are written with coalesced set. (R278) -/
  | pendingDeliveryWrite (q : Fin 1088)
  /-- DELIVERY_WRITE: A delivery is written into its subscriber or host queue by DMA in an idle bank cycle. (R277) -/
  | deliveryWrite (q : Fin 36)
  /-- PNT_SOE_RD_WRITE: A host write of PNT_SOE_RD consumes SOE records, clamped to the write count. (R274) -/
  | pntSoeRdWrite (hi : Bool) (w : Word)
  /-- PNT_HQ_RD_WRITE: A host write of a host queue read count frees entries in that queue. (R277) -/
  | pntHqRdWrite (q : Fin 4) (w : Word)
  /-- CAN_FRAME_RECEIVE: A received CAN frame is stamped, matched to a receive object, buffered and turned into a point update. (R412) -/
  | canFrameReceive (c : Fin 16) (m : CanMsg) (edge : DWord)
  /-- CAN_TRANSMIT_COMPLETE: A transmit object's frame completes, writing its status and stamp. (R417) -/
  | canTransmitComplete (c : Fin 16) (delay : BitVec 8)
  /-- CAN_ERROR: A detected bus error updates TEC and REC and may enter warning, error passive or bus-off. (R420) -/
  | canError (c : Fin 16) (e : CanErr)
  /-- BUS_OFF_RECOVERY_COMPLETE: After 128 occurrences of 11 recessive bits, TEC and REC clear and pending objects are offered. (R421) -/
  | busOffRecoveryComplete (c : Fin 16)
  /-- CAN_RECOVER: A write of CANn_CTRL.recover starts bus-off recovery. (R421) -/
  | canRecover (c : Fin 16)
  /-- CAN_COUNTER_CLEAR: A write of CANn_CTRL.clear sets every channel counter to 0. (R421) -/
  | canCounterClear (c : Fin 16)
  /-- WAKE_REQ: A write of CANn_CTRL.wake_req sets host_keep and is a wake event. (R425) -/
  | wakeReq (c : Fin 16)
  /-- SLEEP_OK: A write of CANn_CTRL.sleep_ok clears host_keep. (R425) -/
  | sleepOk (c : Fin 16)
  /-- CAN_CANCEL: A write of CANn_CANCEL cancels a pending object, or is refused once its SOF is on the bus. (R418) -/
  | canCancel (c : Fin 16) (k : Fin 64)
  /-- CAN_TX_REQ: A write of CANn_TX_REQ makes a host-triggered transmit object pending. (R416) -/
  | canTxReq (c : Fin 16) (k : Fin 64)
  /-- CAN_OBJ_SEL: A write of CANn_OBJ_SEL selects or releases a receive buffer. (R413) -/
  | canObjSel (c : Fin 16) (valid : Bool) (k : Fin 64)
  /-- CAN_OBJ_DATA_WRITE: A host write of object data is dropped while the object is pending or in transmission. (R416) -/
  | canObjDataWrite (c : Fin 16) (i : Fin 16) (w : Word)
  /-- CAN_PERIOD_TRIGGER: A period trigger reads the bound point and makes a transmit object pending. (R416) -/
  | canPeriodTrigger (c : Fin 16) (k : Fin 64)
  /-- CAN_RX_TIMEOUT: A supervised receive object without a matching frame for timeout_ms PUTs its value as invalid and oldData. (R415) -/
  | canRxTimeout (c : Fin 16) (k : Fin 64)
  /-- NM_FRAME_SEND: Each nm_ms the channel sends its network-management frame with stay-awake as its local requests give. (R425) -/
  | nmFrameSend (c : Fin 16) (edge : DWord)
  /-- SLEEP_COMMAND: A coordinator that has heard no stay-awake for timeout_n × nm_ms sends the sleep command and enters PREPARE. (R426) -/
  | sleepCommand (c : Fin 16) (edge : DWord)
  /-- SLEEP_COMMIT: At commit instant C the channel enters SLEEP or QUIET and drives the sleep pattern. (R426) -/
  | sleepCommit (c : Fin 16)
  /-- SLEEP_PATTERN_END: At the end of gts_us the transceiver sleeps, or a latched wake moves the channel to WAKING. (R427) -/
  | sleepPatternEnd (c : Fin 16)
  /-- WAKE_EVENT: A wake event aborts PREPARE before C, is latched during sleep, or ends SLEEP or QUIET. (R427) -/
  | wakeEvent (c : Fin 16) (bus : Bool) (nm : Bool) (stamp : DWord)
  /-- WAKE_SETTLE_END: After wake_settle_ms the channel enters AWAKE and sends an NM frame with wake and stay-awake. (R426) -/
  | wakeSettleEnd (c : Fin 16) (edge : DWord)
  /-- MAX_AWAKE_EXPIRY: A coordinator awake for max_awake_s records the keepers and sends a forced sleep command. (R428) -/
  | maxAwakeExpiry (c : Fin 16) (edge : DWord)
  /-- PIN_EDGE: A raw edge on a pin is stamped with T64. (R435) -/
  | pinEdge (p : Fin 65) (level : Bool) (stamp : DWord)
  /-- FILTERED_CHANGE: A raw level stable for filter_us changes the filtered level and enters the change queue. (R436) -/
  | filteredChange (pins : List (Fin 65))
  /-- TIMED_CHANGE_APPLY: A pending timed pin change is applied when device time reaches its deadline. (R441) -/
  | timedChangeApply (e : Fin 32)
  /-- CHIVE_GROUP_RESTART: At time R a Chive group stops, swaps banks and restarts every engine at its entry. (R443) -/
  | chiveGroupRestart (g : Fin 8)
  /-- CHIVE_GCTRL_RESTART: A write of CHIVE_GCTRLg.restart requests a group restart at least 10 µs later. (R444) -/
  | chiveGctrlRestart (g : Fin 8)
  /-- CHIVE_IN_POP: A write of CHIVE_ECTRLn.pop removes the head of the engine's IN FIFO. (R438) -/
  | chiveInPop (e : Fin 32)
  /-- CHIVE_OUT_WRITE: A write of CHIVE_OUTn appends a word to the OUT FIFO or is dropped when full. (R438) -/
  | chiveOutWrite (e : Fin 32) (w : Word)
  /-- LINE_FRAME_CLOSE: A serial line idle for idle_bits closes the received frame into the cluster queue or discards it. (R446) -/
  | lineFrameClose (l : Fin 16)
  /-- LINE_CHARACTER: The line assembler takes a received character word and checks start, parity and stop bits. (R446) -/
  | lineCharacter (l : Fin 16)
  /-- PULSE_END: A binary output pulse ends pulse_ms after the latest activating delivery. (R450) -/
  | pulseEnd (p : Fin 64)
  /-- BINARY_OUTPUT_DELIVERY: A Chive output delivery drives its pin at once, starts a pulse, or waits for a LATCH. (R450) -/
  | binaryOutputDelivery (n : Fin 64)
  /-- SETV: Chive SETV loads an immediate half of a register. (R439) -/
  | setv (e : Fin 32)
  /-- CHIVE_ADD: Chive ALU ADD adds two registers. (R439) -/
  | chiveAdd (e : Fin 32)
  /-- CHIVE_SUB: Chive ALU SUB subtracts two registers. (R439) -/
  | chiveSub (e : Fin 32)
  /-- CHIVE_ADDI: Chive ALU ADDI adds an immediate. (R439) -/
  | chiveAddi (e : Fin 32)
  /-- CHIVE_SUBI: Chive ALU SUBI subtracts an immediate. (R439) -/
  | chiveSubi (e : Fin 32)
  /-- CHIVE_AND: Chive ALU AND of two registers. (R439) -/
  | chiveAnd (e : Fin 32)
  /-- CHIVE_OR: Chive ALU OR of two registers. (R439) -/
  | chiveOr (e : Fin 32)
  /-- CHIVE_XOR: Chive ALU XOR of two registers. (R439) -/
  | chiveXor (e : Fin 32)
  /-- CHIVE_MOV: Chive ALU MOV copies a register. (R439) -/
  | chiveMov (e : Fin 32)
  /-- SHRI: Chive ALU SHRI shifts a register right by an immediate. (R439) -/
  | shri (e : Fin 32)
  /-- SHLI: Chive ALU SHLI shifts a register left by an immediate. (R439) -/
  | shli (e : Fin 32)
  /-- CHIVE_ORI: Chive ALU ORI ORs an immediate into a register. (R439) -/
  | chiveOri (e : Fin 32)
  /-- LDK: Chive ALU LDK loads the engine constant K. (R439) -/
  | ldk (e : Fin 32)
  /-- CHIVE_ANDI: Chive ALU ANDI ANDs an immediate into a register. (R439) -/
  | chiveAndi (e : Fin 32)
  /-- DRIVE_LEVEL: Chive DRIVE mode 0 sets a pin level, at once or timed. (R439) -/
  | driveLevel (e : Fin 32)
  /-- DRIVE_DIRECTION: Chive DRIVE mode 1 sets a pin direction. (R439) -/
  | driveDirection (e : Fin 32)
  /-- DRIVE_PPS_OUT: Chive DRIVE mode 2 sets PPS_OUT in G7. (R439) -/
  | drivePpsOut (e : Fin 32)
  /-- DRIVE_INDEXED: Chive DRIVE mode 3 sets the level of the pin named in a register. (R439) -/
  | driveIndexed (e : Fin 32)
  /-- SENSE_SHIFT: Chive SENSE kind 0 shifts a pin level into a register. (R439) -/
  | senseShift (e : Fin 32)
  /-- SENSE_LEVEL: Chive SENSE kind 1 loads a pin level. (R439) -/
  | senseLevel (e : Fin 32)
  /-- SENSE_ALL: Chive SENSE kind 2 loads the levels of local pins 9 to 0. (R439) -/
  | senseAll (e : Fin 32)
  /-- TIME_ADD: Chive TIME kind 0 adds a register to deadline T. (R439) -/
  | timeAdd (e : Fin 32)
  /-- TIME_NOW: Chive TIME kind 1 sets T to device time plus an immediate. (R439) -/
  | timeNow (e : Fin 32)
  /-- TIME_FROM_STAMP: Chive TIME kind 2 sets T from stamp E plus a register. (R439) -/
  | timeFromStamp (e : Fin 32)
  /-- TIME_READ: Chive TIME kind 3 copies T into a register. (R439) -/
  | timeRead (e : Fin 32)
  /-- TIME_WRITE: Chive TIME kind 4 sets T from a register. (R439) -/
  | timeWrite (e : Fin 32)
  /-- AWAIT_TIME: Chive AWAIT kind 0 stalls until device time reaches T. (R440) -/
  | awaitTime (e : Fin 32)
  /-- AWAIT_LEVEL: Chive AWAIT kind 1 stalls until a pin level equals pol. (R440) -/
  | awaitLevel (e : Fin 32)
  /-- AWAIT_EDGE: Chive AWAIT kind 2 stalls until an edge latches on a pin. (R440) -/
  | awaitEdge (e : Fin 32)
  /-- AWAIT_FLAG: Chive AWAIT kind 3 stalls until a group flag is set, optionally clearing it. (R440) -/
  | awaitFlag (e : Fin 32)
  /-- AWAIT_INSTANT: Chive AWAIT kind 4 stalls until a queued SAMPLE or LATCH instant and takes its T64. (R440) -/
  | awaitInstant (e : Fin 32)
  /-- AWAIT_CHANGE: Chive AWAIT kind 5 stalls until a change-queue entry for a masked pin and removes it. (R440) -/
  | awaitChange (e : Fin 32)
  /-- AWAIT_OUT_FIFO: Chive AWAIT kind 6 stalls until the OUT FIFO is not empty. (R440) -/
  | awaitOutFifo (e : Fin 32)
  /-- CHIVE_BRANCH: Chive BRANCH jumps when its condition holds. (R439) -/
  | chiveBranch (e : Fin 32)
  /-- STAMP: Chive STAMP copies device time or a pin's last edge into E, optionally clearing the edge latches. (R439) -/
  | stamp (e : Fin 32)
  /-- XFER_TAKE: Chive XFER take reads the OUT FIFO head, stalling or continuing when empty. (R439) -/
  | xferTake (e : Fin 32)
  /-- XFER_GIVE: Chive XFER give passes a word with E and eid to the IN FIFO or its sink. (R438) -/
  | xferGive (e : Fin 32)
  /-- FLAG_SET: Chive FLAG op 0 sets a group flag. (R439) -/
  | flagSet (e : Fin 32)
  /-- FLAG_CLEAR: Chive FLAG op 1 clears a group flag. (R439) -/
  | flagClear (e : Fin 32)
  /-- FLAG_SIG: Chive FLAG op 2 sets CHIVE_EVENT.sig. (R439) -/
  | flagSig (e : Fin 32)
  /-- CHIVE_RESERVED_OPCODE: A Chive instruction with opcode 10 to 15 faults the engine. (R439) -/
  | chiveReservedOpcode (e : Fin 32)
  /-- ADD: Polnil ALU ADD. (R321) -/
  | add (i : Issue)
  /-- SUB: Polnil ALU SUB computes rs1 - rs2. (R321) -/
  | sub (i : Issue)
  /-- AND: Polnil ALU AND. (R321) -/
  | and (i : Issue)
  /-- OR: Polnil ALU OR. (R321) -/
  | or (i : Issue)
  /-- XOR: Polnil ALU XOR. (R321) -/
  | xor (i : Issue)
  /-- ANDN: Polnil ALU ANDN computes rs1 AND NOT rs2. (R321) -/
  | andn (i : Issue)
  /-- SLL: Polnil ALU SLL shifts left by register. (R321) -/
  | sll (i : Issue)
  /-- SRL: Polnil ALU SRL shifts right logically by register. (R321) -/
  | srl (i : Issue)
  /-- SRA: Polnil ALU SRA shifts right arithmetically by register. (R321) -/
  | sra (i : Issue)
  /-- ROR: Polnil ALU ROR rotates right by register. (R321) -/
  | ror (i : Issue)
  /-- MIN: Polnil ALU MIN, signed. (R321) -/
  | min (i : Issue)
  /-- MAX: Polnil ALU MAX, signed. (R321) -/
  | max (i : Issue)
  /-- MINU: Polnil ALU MINU, unsigned. (R321) -/
  | minu (i : Issue)
  /-- MAXU: Polnil ALU MAXU, unsigned. (R321) -/
  | maxu (i : Issue)
  /-- MUL: Polnil ALU MUL gives the low 32 bits with a 3-cycle result latency. (R321) -/
  | mul (i : Issue)
  /-- MULH: Polnil ALU MULH gives the signed high 32 bits. (R321) -/
  | mulh (i : Issue)
  /-- MULHU: Polnil ALU MULHU gives the unsigned high 32 bits. (R321) -/
  | mulhu (i : Issue)
  /-- DIV: Polnil ALU DIV is a signed division in 18 cycles with defined results for zero and overflow. (R321) -/
  | div (i : Issue)
  /-- DIVU: Polnil ALU DIVU is an unsigned division. (R321) -/
  | divu (i : Issue)
  /-- REM: Polnil ALU REM gives the remainder with the sign of the dividend. (R321) -/
  | rem (i : Issue)
  /-- REMU: Polnil ALU REMU gives the unsigned remainder. (R321) -/
  | remu (i : Issue)
  /-- CLZ: Polnil ALU CLZ counts leading zeros. (R321) -/
  | clz (i : Issue)
  /-- CTZ: Polnil ALU CTZ counts trailing zeros. (R321) -/
  | ctz (i : Issue)
  /-- POPC: Polnil ALU POPC counts set bits. (R321) -/
  | popc (i : Issue)
  /-- BSWAP: Polnil ALU BSWAP reverses byte order. (R321) -/
  | bswap (i : Issue)
  /-- ADDI: Polnil ADDI adds a sign-extended immediate. (R320) -/
  | addi (i : Issue)
  /-- ANDI: Polnil ANDI ANDs a zero-extended immediate. (R320) -/
  | andi (i : Issue)
  /-- ORI: Polnil ORI ORs a zero-extended immediate. (R320) -/
  | ori (i : Issue)
  /-- XORI: Polnil XORI XORs a zero-extended immediate. (R320) -/
  | xori (i : Issue)
  /-- SHI: Polnil SHI shifts or rotates by an immediate amount. (R320) -/
  | shi (i : Issue)
  /-- LIL: Polnil LIL loads a zero-extended 16-bit immediate. (R320) -/
  | lil (i : Issue)
  /-- LIH: Polnil LIH loads the upper 16 bits of a register. (R320) -/
  | lih (i : Issue)
  /-- CMP: Polnil CMP writes a predicate from a register compare. (R322) -/
  | cmp (i : Issue)
  /-- CMPI: Polnil CMPI writes a predicate from an immediate compare. (R322) -/
  | cmpi (i : Issue)
  /-- PLOG: Polnil PLOG combines two predicates. (R320) -/
  | plog (i : Issue)
  /-- LDB: Polnil LDB loads a sign-extended byte from the bank. (R320) -/
  | ldb (i : Issue)
  /-- LDBU: Polnil LDBU loads a zero-extended byte. (R320) -/
  | ldbu (i : Issue)
  /-- LDH: Polnil LDH loads a sign-extended halfword. (R320) -/
  | ldh (i : Issue)
  /-- LDHU: Polnil LDHU loads a zero-extended halfword. (R320) -/
  | ldhu (i : Issue)
  /-- LDW: Polnil LDW loads a word. (R320) -/
  | ldw (i : Issue)
  /-- STB: Polnil STB stores a byte, logging the line to the undo log on its first write in the epoch. (R320) -/
  | stb (i : Issue)
  /-- STH: Polnil STH stores a halfword. (R320) -/
  | sth (i : Issue)
  /-- STW: Polnil STW stores a word. (R320) -/
  | stw (i : Issue)
  /-- AADD: Polnil AADD atomically adds to a bank word and returns its old value. (R353) -/
  | aadd (i : Issue)
  /-- ASWAP: Polnil ASWAP atomically swaps a bank word. (R353) -/
  | aswap (i : Issue)
  /-- BR: Polnil BR branches by a word offset. (R323) -/
  | br (i : Issue)
  /-- CALL: Polnil CALL writes the return address to w31 and branches. (R323) -/
  | call (i : Issue)
  /-- JR: Polnil JR jumps to a register target. (R323) -/
  | jr (i : Issue)
  /-- JALR: Polnil JALR links and jumps to a register target. (R323) -/
  | jalr (i : Issue)
  /-- RETI: Polnil RETI restores pc, predicates and loop state and sets gie. (R340) -/
  | reti (i : Issue)
  /-- LOOP: Polnil LOOP opens a block loop level or skips the block when N is 0. (R325) -/
  | loop (i : Issue)
  /-- REP_I: Polnil REP.I repeats the following string instruction, interruptible after any iteration. (R328) -/
  | repI (i : Issue) (next : Word)
  /-- REP_A: Polnil REP.A repeats the following string instruction at most 64 times without interruption. (R328) -/
  | repA (i : Issue) (next : Word)
  /-- SMOV: Polnil SMOV copies string elements. (R327) -/
  | smov (i : Issue)
  /-- SFIL: Polnil SFIL fills string elements. (R327) -/
  | sfil (i : Issue)
  /-- SCMP: Polnil SCMP compares strings and writes a predicate. (R327) -/
  | scmp (i : Issue)
  /-- SSCN: Polnil SSCN scans for an element and writes a predicate. (R327) -/
  | sscn (i : Issue)
  /-- SCRC: Polnil SCRC updates a reflected CRC with one byte per iteration. (R329) -/
  | scrc (i : Issue)
  /-- SBER: Polnil SBER decodes one BER identifier and length. (R330) -/
  | sber (i : Issue)
  /-- PUT: Polnil PUT issues a point update as a cluster output and takes an operation tag. (R331) -/
  | put (i : Issue)
  /-- GET: Polnil GET issues a point read and takes an operation tag. (R331) -/
  | get (i : Issue)
  /-- TXQ: Polnil TXQ issues a frame, stream frame, servo sample or serial frame as a cluster output. (R332) -/
  | txq (i : Issue)
  /-- RXQ: Polnil RXQ posts a standing receive request. (R333) -/
  | rxq (i : Issue)
  /-- DMA: Polnil DMA issues a window transfer. (R334) -/
  | dma (i : Issue)
  /-- PUT_COMPLETION: A PUT completes with its reply code written and its opdone bit set. (R331) -/
  | putCompletion (e : Fin 32) (tag : Fin 16)
  /-- GET_COMPLETION: A GET completes with value, quality and stamp written. (R331) -/
  | getCompletion (e : Fin 32) (tag : Fin 16)
  /-- TXQ_COMPLETION: A TXQ completes with its status and stamp when its frame or sample has left or been refused. (R332) -/
  | txqCompletion (e : Fin 32) (tag : Fin 16)
  /-- RXQ_COMPLETION: An RXQ completes when the next frame has been copied from the cluster receive queue into its buffer. (R333) -/
  | rxqCompletion (e : Fin 32)
  /-- DMA_COMPLETION: A DMA completes with its status written. (R334) -/
  | dmaCompletion (e : Fin 32) (tag : Fin 16) (bad : Bool)
  /-- OPWAIT: Polnil OPWAIT waits for a completed tag in a mask and frees it. (R331) -/
  | opwait (i : Issue)
  /-- MPOST: Polnil MPOST posts a mailbox word as a cluster output. (R335) -/
  | mpost (i : Issue)
  /-- MRECV: Polnil MRECV takes a word from the engine's inbound queue. (R335) -/
  | mrecv (i : Issue)
  /-- MLOCK: Polnil MLOCK reads a mailbox lock, claiming it when free. (R363) -/
  | mlock (i : Issue)
  /-- MUNLK: Polnil MUNLK releases a mailbox lock through the outbox. (R365) -/
  | munlk (i : Issue)
  /-- MSTAT: Polnil MSTAT reads a mailbox's inbound and outbound counts. (R335) -/
  | mstat (i : Issue)
  /-- MAILBOX_OUTPUT_ARRIVAL: An MPOST or MUNLK that has left the outbox acts on its queue or lock at the host island. (R335) -/
  | mailboxOutputArrival (e : Fin 32)
  /-- RDTIME: Polnil RDTIME reads device time, journaled. (R336) -/
  | rdtime (i : Issue)
  /-- RAND: Polnil RAND reads TRNG output, journaled. (R336) -/
  | rand (i : Issue)
  /-- WDS: Polnil WDS restarts the engine watchdog. (R336) -/
  | wds (i : Issue)
  /-- WAIT: Polnil WAIT waits for an enabled pending interrupt. (R336) -/
  | wait (i : Issue)
  /-- FENCE: Polnil FENCE waits until stores are visible to fetch and outputs are in the outbox. (R336) -/
  | fence (i : Issue)
  /-- BREAK: Polnil BREAK raises the BREAK trap. (R336) -/
  | brk (i : Issue)
  /-- CSRR: Polnil CSRR reads a CSR. (R339) -/
  | csrr (i : Issue)
  /-- CSRW: Polnil CSRW writes a CSR's RW fields or clears W1C bits. (R339) -/
  | csrw (i : Issue)
  /-- CSRS: Polnil CSRS sets bits in a CSR. (R339) -/
  | csrs (i : Issue)
  /-- CSRC: Polnil CSRC clears bits in a CSR. (R339) -/
  | csrc (i : Issue)
  /-- INST_POP: A write of inst_pop removes the oldest queued instant. (R339) -/
  | instPop (i : Issue)
  /-- TIMER_ARM: A write of tcmp_lo arms the engine timer. (R339) -/
  | timerArm (i : Issue)
  /-- RESERVED_MAJOR: An instruction with a reserved major traps to EMUL. (R320) -/
  | reservedMajor (i : Issue)
  /-- INTERRUPT_ENTRY: An enabled pending interrupt is taken between retirements. (R340) -/
  | interruptEntry (e : Fin 32)
  /-- ENGINE_TIMER: Device time reaching the armed tcmp raises the TIMER interrupt and disarms it. (R340) -/
  | engineTimer (e : Fin 32)
  /-- WATCHDOG_EXPIRY: watchdog_ms without WDS reports a stuck engine, and the instance is restarted. (R376) -/
  | watchdogExpiry (e : Fin 32)
  /-- WDW: Half of watchdog_ms without WDS sets the WDW interrupt. (R337) -/
  | wdw (e : Fin 32)
  /-- DEBUG_HALT: ENG_DBG_CTRL.halt halts the engine at its next retirement within an open debug scope. (R347) -/
  | debugHalt (e : Fin 32)
  /-- DEBUG_STEP: ENG_DBG_CTRL.step retires one instruction and halts again. (R347) -/
  | debugStep (e : Fin 32)
  /-- DEBUG_RESUME: ENG_DBG_CTRL.resume resumes a debug halt. (R347) -/
  | debugResume (e : Fin 32)
  /-- OUTBOX_RELEASE: In SPECULATE release an output leaves the outbox after its signature compare, or is suppressed in replay. (R37) -/
  | outboxRelease (e : Fin 32) (bad : Bool)
  /-- EPOCH_END: An epoch ends at the first retirement boundary after epoch_us, or closes early, and the next epoch starts with any changed grants. (R377) -/
  | epochEnd (k : Fin 16) (busy : Fin 101) (early : Bool)
  /-- EPOCH_COMMIT: An epoch whose conditions hold commits, releasing COMMIT outputs and freeing its journal, undo area and retained frames. (R384) -/
  | epochCommit (k : Fin 16)
  /-- COMMIT_DEADLINE_MISS: An epoch not committable 200 ns after its end triggers a rollback. (R385) -/
  | commitDeadlineMiss (k : Fin 16) (why : CommitMiss)
  /-- SIGNATURE_MISMATCH: Twin signatures that differ report an engine fault and start a rollback. (R312) -/
  | signatureMismatch (k : Fin 16)
  /-- PLAUSIBILITY_FAIL: A failed plausibility check reports a logic fault and starts a rollback. (R375) -/
  | plausibilityFail (e : Fin 32)
  /-- RESTORE_COMPLETE: After restore and self-test, the fault is judged transient, an engine is fenced, or it is fatal, and replay begins. (R386) -/
  | restoreComplete (k : Fin 16) (lo : Bool) (hi : Bool)
  /-- REPLAY_END: Replay reaching the detection count closes the replayed epoch for commit. (R386) -/
  | replayEnd (k : Fin 16) (busy : Fin 101)
  /-- ECC_CORRECTABLE: A correctable ECC error returns corrected data and rewrites the word. (R355) -/
  | eccCorrectable (m : Fin 38)
  /-- ECC_UNCORRECTABLE: An uncorrectable ECC error has the outcome of its memory, including bank repair, rollback or restart. (R357) -/
  | eccUncorrectable (w : EccAt)
  /-- SCRUB_LATE: A scrub pass not complete after 60 s is counted and continues. (R356) -/
  | scrubLate
  /-- BANK_STARVE: A bank request waiting 2,048 cycles is counted in MBX_STARVE. (R352) -/
  | bankStarve (n : Fin 32) (cycles : Word)
  /-- FATAL_ERROR: A fatal error closes transmitters, stops engines, asserts FAULT_N and assembles and offers the dump. (R397) -/
  | fatalError (x : Option FatalCause)
  /-- DUMP_NVM_WRITE_COMPLETE: The dump is committed to the NVM slot with the trailer last. (R397) -/
  | dumpNvmWriteComplete
  /-- FATAL_RESET: After the dump write and release or offer_ms, the device resets with cause 0x4. (R397) -/
  | fatalReset
  /-- FATAL_RECORD_LATCH: For reasons 0x04 and 0x0E, or when Sage cannot finish within 10 s, the always-on island latches a fatal record and resets. (R398) -/
  | fatalRecordLatch
  /-- REASON_ONLY_DUMP_WRITE: After READY, Sage ROM writes a reason-only dump from the latched fatal record. (R398) -/
  | reasonOnlyDumpWrite
  /-- DUMP_COPY_COMPLETE: After READY a committed dump is copied to DRAM and DUMP_STATUS.state reads 2. (R402) -/
  | dumpCopyComplete
  /-- DUMP_ERASE_COMPLETE: Erasure of the dump region completes and sets DUMP_EVENT.cleared. (R402) -/
  | dumpEraseComplete
  /-- DUMP_CLEAR: DUMP_CTRL.clear in state 2 starts erasure of the dump region. (R403) -/
  | dumpClear
  /-- DUMP_RELEASE: DUMP_CTRL.release in state 1 permits the fatal reset before offer_ms. (R397) -/
  | dumpRelease
  /-- PLANNING_CYCLE: Every 600 s the planner latches sentinels, updates models and sets steps, assist and rails. (R461) -/
  | planningCycle (l : List Sentinel) (eyes : List (Fin 20 × Byte × BitVec 16))
  /-- RAIL_SETTLE: After settle_us the planner checks readback and supplies before the next increment, or freezes the rail. (R457) -/
  | railSettle (r : Fin 3) (x : RailCheck)
  /-- FAST_GUARD_TRIP: A canary slack below canary_guard_ps drops the island to step 0 or raises its rail by 10 mV. (R460) -/
  | fastGuardTrip (i : Fin 46) (slack : Int)
  /-- STEP_DEFER_APPLY: A step change deferred by rollback or replay takes effect within 1 µs after replay completes. (R22) -/
  | stepDeferApply (k : Fin 16)
  /-- PMB_ALERT: PMB_ALERT_N makes the planner read STATUS_WORD and freeze a failed rail. (R458) -/
  | pmbAlert (l : List (Fin 3 × Bool × Byte))
  /-- LEDGER_WRITE_COMPLETE: A ledger record is erased and programmed into its slot within 1 s, or the failure is counted. (R468) -/
  | ledgerWriteComplete (ok : Bool)
  /-- MBN_TX_WRITE: A host write of MBn_TX posts a word, or is dropped when the queue is full. (R360) -/
  | mbnTxWrite (n : Fin 64) (w : Word)
  /-- MBN_POP: MBn_CTRL.pop removes the head word of the host's inbound queue. (R361) -/
  | mbnPop (n : Fin 64)
  /-- MBN_LOCK_READ: A host read of MBn_LOCK claims the lock when free or returns the owner. (R363) -/
  | mbnLockRead (n : Fin 64)
  /-- MBN_LOCK_RELEASE: A host write of 1 to MBn_LOCK releases the lock it owns. (R364) -/
  | mbnLockRelease (n : Fin 64)
  /-- HOST_RESET: MBX_CTRL.host_reset resets master 32 on every mailbox. (R368) -/
  | hostReset
  /-- MAILBOX_LOCK_BREAK: A lock of MB58 to MB61 held for 1 ms is released by Sage and the partial request is discarded. (R366) -/
  | mailboxLockBreak (n : Fin 64)
  /-- PORT_STAT_SNAP: PORT_STAT_CTRL.snap copies all 96 counters into the snapshot. (R174) -/
  | portStatSnap (n : Fin 68)
  /-- PORT_STAT_CLEAR: PORT_STAT_CTRL.clear sets all 96 counters to 0. (R174) -/
  | portStatClear (n : Fin 68)
  /-- CAPTURE_READ_ADVANCE: A host write of SW_CAP_RD consumes capture records and frees the ring in stop mode. (R206) -/
  | captureReadAdvance (w : Word)
  /-- IRQ_VARM: A write of IRQ_VARM arms vectors. (R494) -/
  | irqVarm (hi : Bool) (w : Word)
  /-- MSI_X_MESSAGE: A pending, armed and unmasked vector sends one MSI-X message and disarms. (R494) -/
  | msiXMessage (v : Fin 64)
  /-- POWER_STATE_CHANGE: A move to D3hot withholds messages, and a return to D0 sends each pending armed vector. (R486) -/
  | powerStateChange (d3hot : Bool)
  /-- WIDE_REGISTER_READ: A read of the lowest word of a wide register captures the whole value for its higher words. (R13) -/
  | wideRegisterRead (addr : BarAddr) (len : BitVec 12)
  /-- REGISTER_WRITE: A BAR0 write to a register without its own row acts under its access code, or is dropped and counted as a write violation. (R9) -/
  | registerWrite (addr : BarAddr) (data : List Byte)
  /-- SUPPLY_MONITOR_RELEASE: Once every rail has been above its threshold plus 10 mV for 1 ms, the supply-monitor reset ends and the cold always-on stage begins. (R512) -/
  | supplyMonitorRelease (x : Clocks) (mv : List Nat)
  /-- HOLDOVER_MAX_EXPIRY: When HOLDOVER has lasted longer than holdover_max_s, time stops being qualified, time-triggered classes are held and a new LSA is originated. (R215) -/
  | holdoverMaxExpiry
  /-- SELF_REF_STEP_HOLD_END: On a self_ref device, 1 ms after a step time becomes qualified again, which changes the qualified bit and originates a new LSA. (R215) -/
  | selfRefStepHoldEnd
  /-- TIME_UNLOCKED_ALARM: While TIME.SOURCE names a primary, the TIME summary alarm becomes active when the servo is still in FREERUN or ACQUIRE 120 s after READY. (R142) -/
  | timeUnlockedAlarm
  /-- TT_UNQUALIFIED_ALARM: With a TT.GATE record, the TT summary alarm becomes active once time has been unqualified for more than 120 s after READY. (R233) -/
  | ttUnqualifiedAlarm
  /-- THROTTLE_ALARM: The PNT summary alarm becomes active once throttle has read 1 for 100 ms without interruption. (R288) -/
  | throttleAlarm
  /-- REFCLK_B_RESTORE: The return of REFCLK_B should move the guardian back from its ring oscillator and clear clk_src and the TT alarm. (R223) -/
  | refclkBRestore
  /-- TIME_MARK: At each TT.CAN time mark, the channel's trigger makes its object pending or opens its window, and the guardian compares its count with the channel's cycle time. (R228) -/
  | timeMark (c : Fin 16) (k : Fin 64) (diff : Int)
  /-- ARBITRATION: At each arbitration on an idle bus, the channel offers its highest-priority pending object and drives its SOF, after which a cancel is refused. (R417) -/
  | arbitration (c : Fin 16) (edge : DWord)
  /-- DRAM_ISLAND_FAILURE: A DRAM island failure starts retraining; point updates outside the hot cache wait meanwhile, and a failure not cleared within 100 ms is fatal with reason 0x0A. (R395) -/
  | dramIslandFailure (x : DramEvent)
  /-- PCIE_CONFIGURATION_WRITE: A host configuration write of MSI-X Enable, the function mask or Bus Master Enable can release a pending armed vector's message within 1 µs. (R494) -/
  | pcieConfigurationWrite (msixEn : Bool) (fnMask : Bool) (busMaster : Bool)
  /-- JTAG_TAP_INSTRUCTION: A JTAG TAP instruction executes when it is boundary scan or its scope is open, and is refused otherwise. (R105) -/
  | jtagTapInstruction (code : Nat) (boundaryScan : Bool)
deriving DecidableEq, Repr

end Sys2Proof
end

