-- ==== Sys2Proof/Config.lean ====
section
/-! DEFINITION. The free values: what the spec leaves to a random draw, to another standard or to
silence. None has a body, so nothing can be proved about the value it takes. -/

namespace Sys2Proof.Free

/-- Draw `n` of conditioned TRNG output, as a word (R81, R336). -/
opaque word : Nat → Word
/-- Draw `n` of 16 bytes, a challenge nonce (R101). -/
opaque nonce : Nat → BitVec 128
/-- Byte `i` of the bytes of draw `n`: signatures, shared secrets, wrapped keys, whose standards
the spec only names (R96, R99, R305). -/
opaque byte : Nat → Nat → Byte
/-- SM3 (GB/T 32905), another standard's function of the bytes (R96). -/
opaque sm3 : List Byte → BitVec 256
/-- SM3 of the ROM kernel, and of the kernel that a kernel region holds (Table 3-9, R61): which of the region's
bytes are the kernel is not stated. -/
opaque romKernelDigest : BitVec 256
opaque kernelDigest : List Byte → BitVec 256
/-- SM3 of the ROM image of SRV (R293). -/
opaque srvDigest : BitVec 256
/-- The public key x‖y of the device identity key, derived from the PUF (R82). -/
opaque devicePub : List Byte
/-- A 128-bit DRAM key of draw `n`, and the SM4-XTS encryption of a 64-byte unit under the two keys with a tweak
(R86). -/
opaque key128 : Nat → BitVec 128
opaque sm4Xts : BitVec 128 → BitVec 128 → Nat → List Byte → List Byte
/-- The bank section of the SRV personality in ROM, and its first instruction (R293). -/
opaque srvImage : List Byte
opaque srvEntry : Word
/-- The LZ4 block a list of bytes compresses to and expands from (R60, R400). -/
opaque lz4Pack : List Byte → List Byte
opaque lz4Expand : List Byte → List Byte

/-- The running signature after another instruction, from the one before, pc, the registers and the bank: the
folding function is not given (R312). -/
opaque fold : DWord → Word → List (Nat × Word) → List (Nat × Byte) → DWord

/-- Local time minus UTC in seconds and daylight saving, for the IRIG-B output of a device without an IRIG-B input,
and the time quality it sends, by whether the servo is locked: no rule gives their source (R141). -/
opaque localZone : Int
opaque localDst : Bool
opaque irigQuality : Bool → Nat

/-- The idle time of a serial line in bit times where PERS.SERIAL gives none and its personality has no default
(Table 10-14). -/
opaque idleBits : Nat → Nat

/-- The payload of an ADMIT, LSA or TIME frame (kinds 3, 4 and 5) as a function of its fields, and the SM4-GCM tag of
covered bytes under the link key of draw `n`: neither a layout nor a nonce is given (R236, R240, R244, R252, R253). -/
opaque ctlPayload : Nat → List Nat → List Byte
opaque gcmTag : Nat → List Byte → BitVec 128

/-- The bytes of dump section `typ` that holds the given values: where they stand in it is not stated (Table 13-10). -/
opaque dumpSection : Nat → List Nat → List Byte
/-- Byte `i` of the SM2 signature whose nonce is derived from the device key and the digest (R401). -/
opaque detSign : BitVec 256 → Nat → Byte

/-- The part is of the extended grade (-EA), an ordering option (R2, R524). -/
opaque extendedGrade : Bool

/-- `len` bytes of draw `n`. -/
def bytes (n len : Nat) : List Byte := (List.range len).map (byte n)

/-- A 256-bit digest as its 32 bytes, first byte most significant (R7). -/
def digestBytes (d : BitVec 256) : List Byte :=
  (List.range 32).map (fun i => BitVec.ofNat 8 (d.toNat / 2 ^ (248 - 8 * i)))

/-- The first 8 bytes of a digest as they stand in a key_id field (R96). -/
def keyId (d : BitVec 256) : DWord :=
  BitVec.ofNat 64 ((digestBytes d).take 8 |>.foldr (fun b a => b.toNat + 256 * a) 0)

/-- The device key ID (R96). -/
def deviceKeyId : DWord := keyId (sm3 devicePub)

end Sys2Proof.Free
end

