-- ==== Sys2Proof/Machine/Tab.lean ====
section
/-! DEFINITION. Finite tables over Nat keys and byte memories in one canonical form. -/

namespace Sys2Proof

/-- A table over Nat keys, keys strictly rising. A key that is not listed holds the table's
default, which each reader names: a register file of the spec starts as the empty table. -/
abbrev Tab (α : Type) := List (Nat × α)

namespace Tab
variable {α : Type}

/-- What key `k` holds; `d` where the table lists nothing. -/
def get (d : α) : Tab α → Nat → α
  | [], _ => d
  | (j, v) :: t, k => if j = k then v else get d t k

/-- `get` for a table that may hold nothing at a key. -/
def find? : Tab α → Nat → Option α
  | [], _ => none
  | (j, v) :: t, k => if j = k then some v else find? t k

/-- Key `k` set to `v`. -/
def set : Tab α → Nat → α → Tab α
  | [], k, v => [(k, v)]
  | (j, w) :: t, k, v =>
    if k < j then (k, v) :: (j, w) :: t
    else if j = k then (k, v) :: t
    else (j, w) :: set t k v

/-- Key `k` changed by `f`. -/
def upd (d : α) (t : Tab α) (k : Nat) (f : α → α) : Tab α := set t k (f (get d t k))

/-- Key `k` removed, so that it holds the default again. -/
def del : Tab α → Nat → Tab α
  | [], _ => []
  | (j, v) :: t, k => if j = k then del t k else (j, v) :: del t k

/-- The keys listed. -/
def keys (t : Tab α) : List Nat := t.map Prod.fst

end Tab

/-- A byte memory: the bytes that differ from what an unlisted address reads as. -/
abbrev Mem := List Host.Cell

namespace Mem

/-- The byte at `a`; an unlisted address reads as `d` (0 after the wipe, R48; 0xFF for erased
NOR flash, R63). -/
def read (d : Byte) : Mem → Nat → Byte
  | [], _ => d
  | (j, b) :: m, a => if j = a then b else read d m a

/-- The byte at `a` set to `b`; the form stays canonical: addresses strictly rising and no entry
equal to `d`. -/
def write (d : Byte) : Mem → Nat → Byte → Mem
  | [], a, b => if b = d then [] else [(a, b)]
  | (j, c) :: m, a, b =>
    if a < j then (if b = d then (j, c) :: m else (a, b) :: (j, c) :: m)
    else if j = a then (if b = d then m else (a, b) :: m)
    else (j, c) :: write d m a b

/-- The bytes `bs` stored from `a` upward. -/
def writeBytes (d : Byte) (m : Mem) (a : Nat) : List Byte → Mem
  | [] => m
  | b :: bs => writeBytes d (write d m a b) (a + 1) bs

/-- The `n` bytes from `a` upward. -/
def readBytes (d : Byte) (m : Mem) (a : Nat) : Nat → List Byte
  | 0 => []
  | n + 1 => read d m a :: readBytes d m (a + 1) n

/-- The addresses from `lo` up to but not including `hi` back at `d`. -/
def clearRange : Mem → Nat → Nat → Mem
  | [], _, _ => []
  | (j, b) :: m, lo, hi => if lo ≤ j ∧ j < hi then clearRange m lo hi else (j, b) :: clearRange m lo hi

/-- Every listed address is above `a`. -/
def above (a : Nat) : Mem → Bool
  | [] => true
  | (j, _) :: _ => decide (a < j)

/-- The canonical form of a memory whose unlisted addresses read as `d`. -/
def wf (d : Byte) : Mem → Bool
  | [] => true
  | (j, b) :: m => above j m && decide (b ≠ d) && wf d m

end Mem
end Sys2Proof
end

