-- ==== Sys2Proof/Machine/Bits.lean ====
section
/-! DEFINITION. Bit fields, byte order (R6, R7) and the checksums the spec names. -/

namespace Sys2Proof

/-- Bits `hi` down to `lo` of a number (R6). -/
def bits (x hi lo : Nat) : Nat := x / 2 ^ lo % 2 ^ (hi + 1 - lo)

/-- Bit `i` of a number. -/
def tst (x i : Nat) : Bool := x / 2 ^ i % 2 == 1

/-- A field value placed at bit `lo`. -/
def at_ (v lo : Nat) : Nat := v * 2 ^ lo

/-- A word as the sum of its placed fields. -/
def fields (l : List (Nat × Nat)) : Nat := l.foldl (fun a p => a + p.1 * 2 ^ p.2) 0

/-- `n` little-endian bytes as a number (R7). -/
def leNat : List Byte → Nat
  | [] => 0
  | b :: bs => b.toNat + 256 * leNat bs

/-- Bytes in wire order (most significant first) as a number. -/
def beNat (l : List Byte) : Nat := l.foldl (fun a b => a * 256 + b.toNat) 0

/-- A number as `n` little-endian bytes (R7). -/
def leBytes : Nat → Nat → List Byte
  | 0, _ => []
  | n + 1, x => BitVec.ofNat 8 x :: leBytes n (x / 256)

/-- A number as `n` bytes, most significant first. -/
def beBytes (n x : Nat) : List Byte := (leBytes n x).reverse

/-- `n` bytes of a list from `off` as a little-endian number; bytes beyond the end read 0. -/
def rdLE (l : List Byte) (off n : Nat) : Nat := leNat ((l.drop off).take n)

/-- Byte `i` of a list, 0 beyond its end. -/
def byteAt (l : List Byte) (i : Nat) : Nat := (l.getD i 0).toNat

/-- `n` bytes of a list from `off` in wire order. -/
def rdBE (l : List Byte) (off n : Nat) : Nat := beNat ((l.drop off).take n)

/-- A list with the bytes from `off` replaced by `bs`. -/
def splice (l : List Byte) (off : Nat) (bs : List Byte) : List Byte :=
  l.take off ++ bs ++ l.drop (off + bs.length)

/-- A signed reading of a `w`-bit number. -/
def toSigned (w x : Nat) : Int := (BitVec.ofNat w x).toInt

/-- A signed number as a `w`-bit one, modulo 2^w. -/
def ofSigned (w : Nat) (x : Int) : Nat := (BitVec.ofInt w x).toNat

/-- An integer held between two bounds. -/
def clampInt (lo hi x : Int) : Int := if x < lo then lo else if hi < x then hi else x

/-- One bit step of a reflected CRC. -/
def crcStep {w : Nat} (poly x : BitVec w) : BitVec w :=
  if x.getLsbD 0 then (x >>> 1) ^^^ poly else x >>> 1

/-- A reflected CRC advanced by one byte. -/
def crcByte {w : Nat} (poly x : BitVec w) (b : Byte) : BitVec w :=
  let y := x ^^^ b.setWidth w
  crcStep poly (crcStep poly (crcStep poly (crcStep poly
    (crcStep poly (crcStep poly (crcStep poly (crcStep poly y)))))))

/-- A reflected CRC register advanced over bytes. -/
def crcBytes {w : Nat} (poly x : BitVec w) (bs : List Byte) : BitVec w := bs.foldl (crcByte poly) x

/-- CRC-32C (Castagnoli): reflected polynomial 0x82F6_3B78, initial and final all ones.
PRESUMED (log 2): the spec names the CRC and does not give its parameters. -/
def crc32c (bs : List Byte) : Word := ~~~ crcBytes (0x82F63B78 : Word) 0xFFFFFFFF bs

/-- The IEEE 802.3 frame CRC: reflected polynomial 0xEDB8_8320, initial and final all ones.
PRESUMED (log 2). -/
def crc32 (bs : List Byte) : Word := ~~~ crcBytes (0xEDB88320 : Word) 0xFFFFFFFF bs

/-- The positions 0 to n − 1 whose bit is 1 in a mask. -/
def maskBits (n x : Nat) : List Nat := (List.range n).filter (tst x)

/-- The smallest multiple of `k` that is at least `n`. -/
def roundUp (n k : Nat) : Nat := (n + k - 1) / k * k

/-- ceil(n / k). -/
def ceilDiv (n k : Nat) : Nat := (n + k - 1) / k

/-- A list element changed in place. -/
def setAt {α : Type} (l : List α) (i : Nat) (f : α → α) : List α :=
  l.zipIdx.map (fun p => if p.2 = i then f p.1 else p.1)

/-- The first element that meets `p` removed, with the element. -/
def takeFirst {α : Type} (p : α → Bool) : List α → Option (α × List α)
  | [] => none
  | a :: l => if p a then some (a, l) else
    match takeFirst p l with
    | some (b, r) => some (b, a :: r)
    | none => none

end Sys2Proof
end

