-- ==== Sys2Proof/Machine/FloatCmp.lean ====
section
/-! DEFINITION. The IEEE 754 comparisons of the change test (R261, Table 9-3). -/

namespace Sys2Proof

/-- A binary floating-point datum: NaN, an infinity by sign, or an integer multiple of 2^-1074. -/
inductive Flt where
  | nan
  | inf (neg : Bool)
  | fin (v : Int)
deriving DecidableEq, Repr

/-- A binary32 or binary64 pattern: `e` exponent bits, `m` fraction bits. -/
def Flt.decode (e m x : Nat) : Flt :=
  let neg := tst x (e + m)
  let ex := bits x (e + m - 1) m
  let fr := x % 2 ^ m
  let bias := 2 ^ (e - 1) - 1
  if ex = 2 ^ e - 1 then (if fr = 0 then .inf neg else .nan)
  else
    let mag := if ex = 0 then fr * 2 ^ (1074 + 1 - bias - m) else (2 ^ m + fr) * 2 ^ (1074 + ex - bias - m)
    .fin (if neg then -(mag : Int) else mag)

def Flt.of32 (x : Nat) : Flt := Flt.decode 8 23 (x % 2 ^ 32)
def Flt.of64 (x : Nat) : Flt := Flt.decode 11 52 (x % 2 ^ 64)

/-- A magnitude rounded to the 53 bits of binary64, ties to even; none: infinite. -/
def round53 (x : Nat) : Option Nat :=
  let n := if x = 0 then 0 else x.log2 + 1
  let y := if n ≤ 53 then x
    else
      let sh := n - 53
      let q := x / 2 ^ sh
      let r := x % 2 ^ sh
      let q := if 2 ^ (sh - 1) < r || (r = 2 ^ (sh - 1) && q % 2 = 1) then q + 1 else q
      q * 2 ^ sh
  if 2 ^ (1024 + 1074) ≤ y then none else some y

/-- |new − old| > deadband, the difference taken in binary64; a change to or from NaN is a change,
one NaN to another is not; +0 and −0 are equal. -/
def Flt.changed (new old deadband : Flt) : Bool :=
  match new, old with
  | .nan, .nan => false
  | .nan, _ => true
  | _, .nan => true
  | .inf a, .inf b => a != b && deadband != .inf false
  | .inf _, .fin _ => deadband != .inf false
  | .fin _, .inf _ => deadband != .inf false
  | .fin a, .fin b =>
    match round53 (a - b).natAbs, deadband with
    | some d, .fin z => decide (z < (d : Int))
    | none, .fin _ => true
    | _, _ => false

end Sys2Proof
end

