-- ==== Sys2Proof/Machine/State/Time.lean ====
section
/-! DEFINITION. State of the time island (spec/04). -/

namespace Sys2Proof.Machine

/-- Servo states, Table 4-4, in the encoding of TIME_STATUS.state. -/
inductive ServoState where
  | freerun | acquire | locked | holdover
deriving DecidableEq, Repr

/-- An exact fraction, in lowest terms (R130 computes in real numbers). -/
structure Frac where
  num : Int := 0
  den : Nat := 1
deriving DecidableEq, Repr

/-- The residence of a Sync or Pdelay_Resp that a two-step transparent clock sent: its sourcePortIdentity and
sequenceId as 12 bytes, its egress port, the residence in units of 250 ps (R137). -/
structure TcHeld where
  key  : List Byte
  port : Nat
  res  : Int
deriving DecidableEq, Repr

structure TimeBlk where
  /-- Device time, T64, units of 250 ps, and its 48-bit fraction (R114). -/
  t        : DWord := 0
  frac     : BitVec 48 := 0
  ppsBad   : Bool := false
  irigBad  : Bool := false
  stepped  : Bool := false
  onRefb   : Bool := false
  /-- Active source: 0 none, 1 PTP, 2 IRIG-B, 3 Jabex (Table 4-8). -/
  src      : Nat := 0
  st       : ServoState := .freerun
  utc      : Byte := 0
  leap61   : Bool := false
  leap59   : Bool := false
  freq     : DWord := 0
  offset   : DWord := 0
  stepLast : DWord := 0
  stepCount : Word := 0
  outlier  : Word := 0
  refaLoss : Word := 0
  irigErr  : Word := 0
  srcDrop  : Word := 0
  calShift : Word := 0
  /-- TIME_HOLDOVER_S of the last HOLDOVER, and the entry of the present one. -/
  holdoverS : Word := 0
  holdAt   : Nat := 0
  ppsOfs   : Word := 0
  kp       : BitVec 16 := 0x8000
  ki       : BitVec 16 := 0x2000
  lockThr  : Word := 100
  stepThr  : Word := 10000
  /-- sd_rx and sd_tx of each port; ext_rx and ext_tx at key port × 4 + speed (R122, R526). -/
  sdRx     : Tab (BitVec 16) := []
  sdTx     : Tab (BitVec 16) := []
  extRx    : Tab (BitVec 16) := []
  extTx    : Tab (BitVec 16) := []
  linkDelay : Tab Word := []
  tcHeld   : List TcHeld := []
  /-- Servo internals (R130, R131). -/
  integ    : Frac := {}
  intReset : Bool := true
  lastStamp : DWord := 0
  runLow   : Nat := 0
  runMid   : Nat := 0
  runOut   : Nat := 0
  freqs    : List Int := []
  /-- A sample has entered R130 since the servo last entered FREERUN. -/
  entered  : Bool := false
  /-- The step posted to Sage and not yet applied: its offset (R132). -/
  posted   : Option Int := none
  /-- Last valid sample of the active source, of the secondary, and the start and last sample of
  the primary's uninterrupted run while the secondary is active (R133). -/
  validAt  : Nat := 0
  secAt    : Option Nat := none
  priFrom  : Option Nat := none
  priLast  : Nat := 0
  /-- Consecutive PPS_IN edges within the limit; the last edge's stamp (R140). -/
  ppsGood  : Nat := 0
  ppsStamp : DWord := 0
  /-- IRIG-B input: the second of the last frame with good parity and markers; the time offset, daylight saving
  and time quality of the last valid frame (R141). -/
  irigLast : Option Nat := none
  irigZone : Int := 0
  irigDst  : Bool := false
  irigQual : Nat := 0
  /-- the pulses since the last frame: class (3 for an error) and rising stamp (R447) -/
  irigPulses : List (Nat × DWord) := []
  /-- On the model's own clock: the last valid IRIG-B frame, the last PPS_IN edge. -/
  irigAt   : Nat := 0
  ppsAt    : Nat := 0
  /-- Device time of the last rise of PPS_OUT (R139). -/
  ppsUp    : DWord := 0
  /-- More than 120 s have passed since READY (R142). -/
  late     : Bool := false
deriving DecidableEq, Repr

end Sys2Proof.Machine
end

