-- ==== Sys2Proof/Machine/State/Age.lean ====
section
/-! DEFINITION. State of the ageing sentinels and the margin planner (spec/16). -/

namespace Sys2Proof.Machine

/-- An island as the planner knows it (Table 16-7). `v0`, `b` and `sens` are exact; the registers show
them as `v0Reg`, `bReg` and `sensReg`. -/
structure AgeIsland where
  step    : Nat := 0
  assist  : Nat := 3
  guard   : Bool := false
  curPs   : Byte := 0
  floorPs : Byte := 0
  /-- the worst floor-period slack of the last interval, or that after the last rail change, in ps -/
  slack   : Int := 0
  sens    : Frac := { num := 2, den := 1 }
  v0      : Frac := {}
  b       : Frac := {}
  sensReg : Byte := 32
  v0Reg   : BitVec 16 := 0
  bReg    : BitVec 16 := 0
  roPpm   : BitVec 16 := 0
  emPct   : Byte := 0
  sram    : Word := 0
  life    : BitVec 16 := 0xFFFF
  supply  : BitVec 16 := 0
  tj      : BitVec 16 := 0
  /-- the step that waits for the rail change of this cycle (R459) -/
  stepNext : Option Nat := none
  /-- highest Tj of the interval + 40 °C, for the ledger -/
  tjHigh   : Byte := 0
deriving DecidableEq, Repr

/-- A rail: 0 VDD_ENG, 1 VDD_SW, 2 VDD_SOC. -/
structure AgeRail where
  set      : Nat := 0
  readback : BitVec 16 := 0
  frozen   : Bool := false
  ceiling  : Bool := false
  alert    : Bool := false
  status   : Byte := 0
  /-- the setpoint of the change under way (R457) -/
  target   : Option Nat := none
  /-- the setpoint before the change under way; when its last increment was made, on the model's own clock -/
  from_    : Nat := 0
  incrAt   : Nat := 0
deriving DecidableEq, Repr

structure AgeBlk where
  event    : BitVec 9 := 0
  irqEn    : BitVec 9 := 0
  planned  : Bool := false
  ledgerOk : Bool := false
  limit    : Nat := 0
  life     : BitVec 16 := 0xFFFF
  /-- powered age of the last ledger record, in minutes; the time since the reset comes on top -/
  ageBase  : Nat := 0
  stepDefer : Word := 0
  guardTrip : Word := 0
  planCount : Word := 0
  railFail : Word := 0
  ledgerFail : Word := 0
  ledgerSeq : DWord := 0
  /-- the sequence number of the next record, and the record being written -/
  nextSeq  : Nat := 0
  /-- device time of the cycle being applied -/
  cycle    : Option DWord := none
  /-- device time at which the last cycle began -/
  began    : Option DWord := none
  write    : Option (List Byte) := none
  island   : Tab AgeIsland := []
  rail     : Tab AgeRail := []
  /-- AGE_EYEl as raw words -/
  eye      : Tab Word := []
deriving DecidableEq, Repr

end Sys2Proof.Machine
end

