-- ==== Sys2Proof/Machine/State/Point.lean ====
section
/-! DEFINITION. State of the point engine (spec/09). -/

namespace Sys2Proof.Machine

/-- A point record (Table 9-2). -/
structure Point where
  value    : DWord := 0
  stamp    : DWord := 0
  quality  : Word := 0
  typ      : Nat := 0
  hot      : Bool := false
  subst    : Bool := false
  blocked  : Bool := false
  held     : Bool := false
  profile  : Nat := 0
  chatCount : Nat := 0
  chatStart : Word := 0
  /-- Substitution has ended; the next accepted update counts as a change of quality (R272). -/
  postSub  : Bool := false
deriving DecidableEq, Repr

/-- Where an update comes from: the src code of Table 9-4, the identity of Table 9-6, and for an
engine the operation tag that awaits the reply. -/
structure PntSrc where
  src : Nat
  id  : Nat := 0
  fab : Nat := 0
  tag : Option Nat := none
deriving DecidableEq, Repr

/-- An update as one operation (R263). -/
structure Update where
  point   : Nat
  value   : DWord
  quality : Word
  stamp   : DWord
  force   : Bool := false
  from_   : PntSrc
deriving DecidableEq, Repr

/-- An operation waiting in an input FIFO (R284). -/
inductive PntOp where
  | upd (u : Update)
  | get (e tag point : Nat)
  /-- Sage's substitution, with the requester and the tag of its request (R272). -/
  | subst (point : Nat) (value : DWord) (quality : Word) (src : Nat) (tag : Byte)
deriving DecidableEq, Repr

/-- A subscription entry (Table 9-8) of a point. -/
structure SubEntry where
  point   : Nat
  kind    : Nat
  trigger : Nat
  target  : Nat
  tag     : Word
  window  : Nat
  slot    : Nat
deriving DecidableEq, Repr

/-- A delivery made for an entry and not yet written (R275, Table 9-9). -/
structure Delivery where
  entry   : Nat
  /-- 0 to 31 engine queue, 32 to 35 host queue, 64 + n fabric stream n. -/
  queue   : Nat
  point   : Nat
  quality : Word
  value   : DWord
  stamp   : DWord
  tag     : Word
  window  : Nat
  coal    : Bool := false
  /-- when it was staged for a fabric stream (R250) -/
  at_     : Nat := 0
deriving DecidableEq, Repr

/-- A timer (R270, R271): the held double-point state, or a chatter release. -/
structure PTimer where
  deadline : DWord
  release  : Bool
  value    : DWord := 0
  quality  : Word := 0
  stamp    : DWord := 0
deriving DecidableEq, Repr

/-- A filled window slot (R281). -/
structure Slot where
  entry   : Nat
  k       : Int
  quality : Word
  value   : DWord
  stamp   : DWord
deriving DecidableEq, Repr

/-- An SOE record (Table 9-6). -/
structure SoeRec where
  stamp   : DWord
  value   : DWord
  point   : Nat
  kind    : Nat
  quality : Word
  source  : Word
  count   : Word
deriving DecidableEq, Repr

/-- A point grant (Table 9-19). -/
structure PGrant where
  engines : Nat
  base    : Nat
  count   : Nat
  rights  : Nat
deriving DecidableEq, Repr

structure PntBlk where
  enabled  : Bool := false
  points   : Tab Point := []
  subs     : Tab SubEntry := []
  /-- Entries of each point in list order (R275). -/
  lists    : Tab (List Nat) := []
  /-- Entries whose pending bit is set (R278). -/
  pend     : List Nat := []
  timers   : Tab PTimer := []
  slots    : Tab Slot := []
  /-- The lowest window not yet closed, per PNT.WINDOW instance (R280). -/
  winNext  : Tab Int := []
  /-- Instants of generators 0 to 7 with consumer bit 3: number and time, oldest first. -/
  instants : Tab (List (Nat × DWord)) := []
  /-- Input FIFOs: E0 to E31, 32 CAN, 33 Chive, 34 fabric, 35 Sage (R284). -/
  fifo     : Tab (List PntOp) := []
  waiting  : List Delivery := []
  /-- Staging queues of the fabric streams (R276, R250). -/
  stage    : Tab (List Delivery) := []
  /-- Deliveries to Chive outputs not yet used, by pin (R276). -/
  outs     : Tab DWord := []
  soe      : Tab SoeRec := []
  soeWr    : DWord := 0
  soeRd    : DWord := 0
  soeLevel : Nat := 0
  event    : BitVec 9 := 0
  irqEn    : BitVec 9 := 0
  rateMs   : Nat := 0
  rateCur  : Nat := 0
  rateLast : Nat := 0
  updates  : Word := 0
  changes  : Word := 0
  delivs   : Word := 0
  coalesced : Word := 0
  unused   : Word := 0
  blockedC : Word := 0
  stale    : Word := 0
  dpSupp   : Word := 0
  chatter  : Word := 0
  timerFull : Word := 0
  throttleC : Word := 0
  late     : Word := 0
  soeLost  : Word := 0
  throttled : Bool := false
  thrLong  : Bool := false
  hqWr     : Tab Word := []
  hqRd     : Tab Word := []
  hqDepth  : Tab Nat := []
  hqIrq    : Tab Nat := []
  hqFull   : Tab Word := []
  sqWr     : Tab Word := []
  sqFull   : Tab Word := []
  /-- Grants accepted, by PNT.GRANT instance, and the grants each engine acts under (R265). -/
  grants   : Tab PGrant := []
  clGrants : Tab (Tab PGrant) := []
  /-- Grant requests awaiting their DONE: source, code, tag, clusters still to pass (R265). -/
  grantReq : List (Nat × Nat × Byte × List Nat) := []
deriving DecidableEq, Repr

end Sys2Proof.Machine
end

