-- ==== Sys2Proof/Machine/State/Can.lean ====
section
/-! DEFINITION. State of the CAN FD channels (spec/14). -/

namespace Sys2Proof.Machine

/-- Power states, Table 14-4. -/
inductive CanPower where
  | awake | prepare | sleep | quiet | waking
deriving DecidableEq, Repr

/-- A message object (R412 to R418, R423). -/
structure CanObj where
  /-- receive buffers: the frame and its stamp -/
  cur     : Option (CanMsg × DWord) := none
  shadow  : Option (CanMsg × DWord) := none
  /-- transmit data as the host and the triggers have written it -/
  data    : List Byte := []
  pending : Bool := false
  since   : DWord := 0
  /-- the point's value and quality at the last trigger, and those of the last transmission -/
  val     : Option (DWord × Word) := none
  sent    : Option (DWord × Word) := none
  status  : Nat := 0
  stamp   : DWord := 0
  /-- a cancel refused while the frame was on the bus (R418) -/
  cancel  : Bool := false
  clash   : Nat := 0
  /-- the last value PUT, an update that waits for the FIFO, the supervision expired (R414, R415) -/
  lastVal : Option DWord := none
  wait    : Option Update := none
  timedOut : Bool := false
  /-- on the model's own clock: the last frame matched (R415), the last period trigger (R416) -/
  lastAt  : Nat := 0
  perAt   : Option Nat := none
deriving DecidableEq, Repr

/-- An entry of a relay queue (R422): the object it came from and its frame. -/
structure CanRelay where
  chan  : Nat
  obj   : Nat
  msg   : CanMsg
  since : DWord
  val   : Option (DWord × Word)
deriving DecidableEq, Repr

/-- What a channel sends: an own object or a relay entry. -/
inductive CanWhat where
  | obj (k : Nat)
  | relay (chan obj : Nat)
deriving DecidableEq, Repr

/-- The frame on the bus, with its SOF stamp. -/
structure CanTx where
  what  : CanWhat
  msg   : CanMsg
  since : DWord
  val   : Option (DWord × Word)
  stamp : DWord
deriving DecidableEq, Repr

structure CanChan where
  ps       : CanPower := .awake
  hostKeep : Bool := false
  /-- keep_point as last read (R425) -/
  keepNow  : Bool := false
  busOff   : Bool := false
  recovering : Bool := false
  tec      : Nat := 0
  rec_     : Nat := 0
  lec      : Nat := 0
  dataPhase : Bool := false
  event    : BitVec 17 := 0
  irqEn    : BitVec 17 := 0
  tdcv     : Byte := 0
  clashId  : BitVec 29 := 0
  clashIde : Bool := false
  clashT   : DWord := 0
  recov    : Word := 0
  keeper   : DWord := 0
  nmFirst  : Option Nat := none
  wake     : BitVec 3 := 0
  /-- a wake latched at or after C that has not ended the sleep yet (R427) -/
  wakeDue  : Bool := false
  cnt      : Tab Word := []
  selValid : Bool := false
  sel      : BitVec 6 := 0
  obj      : Tab CanObj := []
  relay    : List CanRelay := []
  tx       : Option CanTx := none
  /-- recovery has completed and no object has been offered since; the first one offered (R421) -/
  recFirst : Bool := false
  recObj   : Option Nat := none
  /-- commit instant of the prepare phase, and whether it is forced (R426, R428) -/
  commitAt : DWord := 0
  forced   : Bool := false
  /-- the sleep pattern is driven -/
  gts      : Bool := false
  /-- when each node was last heard with stay-awake, on the model's own clock -/
  heard    : Tab Nat := []
  awakeAt  : Nat := 0
  /-- a local request holds, and when the last one ended (R426) -/
  held     : Bool := false
  heldAt   : Nat := 0
  /-- the last moment of NM_FRAME_SEND, the entry into WAKING -/
  nmAt     : Option Nat := none
  wakingAt : Nat := 0
  /-- the last frame sent (model's own output) -/
  out      : Option (CanMsg × DWord) := none
deriving DecidableEq, Repr

end Sys2Proof.Machine
end

