-- ==== Sys2Proof/Machine/State/Engine.lean ====
section
/-! DEFINITION. State of the Polnil engines, their clusters and Rosemary (spec/10, 11, 13). -/

namespace Sys2Proof.Machine

/-- ENG_STATUS.state, Table 11-14. -/
inductive EngState where
  | stopped | running | wait | recover | dbgHalt | trapHalt | fenced
deriving DecidableEq, Repr

/-- One instant of an engine's or Chive engine's queue (R218, Table 11-10). -/
structure Instant where
  gen  : Nat
  /-- false SAMPLE, true LATCH -/
  latch : Bool
  qual : Bool
  at_  : DWord
deriving DecidableEq, Repr

/-- Kinds of operation (R331 to R334). -/
inductive OpKind where
  | put | get | txq | rxq | dma
deriving DecidableEq, Repr

/-- An operation whose tag is busy: its kind, block address and the block as judged at issue. -/
structure Op where
  kind : OpKind
  blk  : Nat
  desc : List Byte
deriving DecidableEq, Repr

/-- Loop state (R324). -/
structure Loops where
  lc0 : Word := 0
  ls0 : Word := 0
  le0 : Word := 0
  lc1 : Word := 0
  ls1 : Word := 0
  le1 : Word := 0
  depth : Nat := 0
deriving DecidableEq, Repr

/-- The part of an engine that Rosemary checkpoints at a commit and restores (R386): registers,
predicates, CSRs, tags, the outbox sequence number. -/
structure EngCore where
  pc     : Word := 0
  /-- w1 to w31; w0 reads 0 (R314). -/
  w      : Tab Word := []
  /-- p0 is bit 0 and reads 1 (R315). -/
  pr     : BitVec 8 := 1
  loops  : Loops := {}
  gie    : Bool := false
  exc    : Bool := false
  tvec   : Word := 0
  epc    : Word := 0
  ecause : Word := 0
  einst  : Word := 0
  eaddr  : Word := 0
  epr    : BitVec 8 := 0
  eloops : Loops := {}
  ien    : Word := 0
  /-- Edge bits of ipend; the level bits are computed (Table 11-11). -/
  ipend  : Word := 0
  tcmp   : DWord := 0
  timerArmed : Bool := false
  insts  : List Instant := []
  ret    : DWord := 0
  retCap : Option Word := none
  opdone : BitVec 16 := 0
  ops    : Tab Op := []
  /-- RXQ tags in issue order (R333). -/
  rxqs   : List Nat := []
  /-- A REP prefix governs the next instruction: `some true` REP.I, `some false` REP.A (R328). -/
  rep    : Option Bool := none
  /-- Next outbox sequence number (R392). -/
  seq    : Word := 0
deriving DecidableEq, Repr

/-- A Polnil engine; a twin pair is held under its lower number (R312, R389). -/
structure Eng where
  st       : EngState := .stopped
  core     : EngCore := {}
  /-- The running signature of a twin pair, equal in both until a mismatch (R312). -/
  sig      : DWord := 0
  lastPc   : Word := 0
  lastCause : Byte := 0
  lastEpc  : Word := 0
  lastAddr : Word := 0
  traps    : Word := 0
  emul     : Word := 0
  accViol  : Word := 0
  stalls   : Word := 0
  instLost : Word := 0
  wdog     : Word := 0
  opsPeak  : Nat := 0
  /-- WDW has been set since the last WDS or release (R337). -/
  wdwSet   : Bool := false
  /-- When the watchdog last started over, moved on by every debug halt, and when the last halt began (R337,
  R347). -/
  wdsAt    : Nat := 0
  haltAt   : Nat := 0
  /-- Highest outbox sequence number that has left, plus 1 (R392). -/
  left     : Nat := 0
  /-- Instance running or stopped under PERS.INST (R297, R302), and its restart count. -/
  bound    : Bool := false
  restarts : BitVec 16 := 0
  restarted : Bool := false
  /-- The value last written to the status point (R299). -/
  status   : Nat := 0
  /-- A debug halt requested, to be taken at the next retirement (R347). -/
  haltReq  : Bool := false
  stepReq  : Bool := false
  /-- The TXQ frames handed on, waiting for completion: tag and status (Table 11-7). -/
  txDone   : List (Nat × Nat × Option DWord) := []
  /-- PUT replies on their way: tag and reply code. -/
  putDone  : List (Nat × Nat) := []
  /-- GET replies on their way: tag and the bytes written from block offset 4. -/
  getDone  : List (Nat × List Byte) := []
  /-- Write DMAs whose bytes have reached their window. -/
  dmaDone  : List Nat := []
  /-- The present instruction waits for outbox room and the stall has been counted (R346). -/
  stalled  : Bool := false
deriving DecidableEq, Repr

/-- An output of a cluster (R36, R391). -/
inductive Output where
  | frame    (tag : Nat) (desc : List Byte)
  | put      (tag : Nat) (desc : List Byte)
  | post     (mb : Nat) (word : Word)
  | unlock   (mb : Nat)
  | dmaWrite (tag : Nat) (desc : List Byte)
deriving DecidableEq, Repr

/-- An outbox entry: engine, sequence number, epoch, output. -/
structure OutEntry where
  eng   : Nat
  seq   : Nat
  epoch : Word
  out   : Output
deriving DecidableEq, Repr

/-- An event journal entry (Tables 13-2 and 13-3). `writes` are the bank bytes the input brings:
those of its payload, or of the frame retained in the packet buffer (R381). -/
structure JEntry where
  eng     : Nat := 0
  count   : Nat := 0
  kind    : Nat
  tag     : Nat := 0
  inline  : Nat := 0
  payload : List Byte := []
  writes  : List (Nat × List Byte) := []
deriving DecidableEq, Repr

/-- A frame waiting in a cluster receive queue (R196, R333). -/
structure RxFrame where
  /-- the frame in the packet buffer that is charged for it -/
  fid    : Nat := 0
  ctx    : Nat
  bytes  : List Byte
  port   : Nat
  cls    : Nat
  colour : Nat := 0
  jab    : Bool := false
  stamp  : DWord
deriving DecidableEq, Repr

/-- An undo line: engine, line number, the 64 bytes before the epoch's first write (R382). -/
structure UndoLine where
  eng   : Nat
  line  : Nat
  bytes : List Byte
deriving DecidableEq, Repr

/-- REC_CSTATk.state, Table 13-15. -/
inductive RecState where
  | running | stopped | restore | replay | degraded | failed
deriving DecidableEq, Repr

/-- A request to stop, start or restart an instance at the next epoch boundary (R301, R302). -/
inductive InstReq where
  | restart | stop | start
deriving DecidableEq, Repr

/-- A cluster and its Rosemary state (spec/13). -/
structure Cluster where
  st       : RecState := .running
  epoch    : Word := 0
  epochAt  : Nat := 0
  epochUs  : BitVec 7 := 8
  spareLo  : Nat := 8
  spareHi  : Nat := 8
  jdamage  : Bool := false
  fencedLo : Bool := false
  fencedHi : Bool := false
  commits  : Word := 0
  busyLast : Nat := 0
  busyPeak : Nat := 0
  rolls    : Word := 0
  /-- Journal and undo area of the epoch awaiting commit and of the running epoch (R379, R383). -/
  jPrev    : List JEntry := []
  jCur     : List JEntry := []
  undoPrev : List UndoLine := []
  undoCur  : List UndoLine := []
  /-- The epoch before the running one has ended and awaits commit (R384). -/
  awaiting : Bool := false
  endedAt  : Nat := 0
  endLo    : EngCore := {}
  endHi    : EngCore := {}
  ckptLo   : EngCore := {}
  ckptHi   : EngCore := {}
  outbox   : List OutEntry := []
  /-- T64 of the last commit (Table 13-10). -/
  commitT  : DWord := 0
  /-- A fault under recovery: class, engine and detail for the log, detection counts, time of detection on the model's own clock and as
  device time. -/
  faultClass : Nat := 0
  faultEng : Nat := 0xFF
  faultDetail : Word := 0
  detLo    : DWord := 0
  detHi    : DWord := 0
  detAt    : Nat := 0
  detT     : DWord := 0
  /-- The replayed epoch has closed and awaits its commit (R388). -/
  closing  : Bool := false
  /-- A mismatch reported in this recovery: the first one's count (R388). -/
  mismatch : Option DWord := none
  /-- Grants the cluster acts under in the epoch awaiting commit and in the running one (R265). -/
  grantsPrev : Tab PGrant := []
  grantsCur  : Tab PGrant := []
  /-- The engine of a CAPACITY cluster under recovery; none: the whole cluster. -/
  recEng   : Option Nat := none
  /-- Journal entries not yet presented in replay. -/
  replayJ  : List JEntry := []
  /-- Lines of the banks that failed: engine, line, time (R390). -/
  lineFails : List (Nat × Nat × Nat) := []
  instReq  : List (Nat × InstReq × Option (Nat × Byte)) := []
  stepDue  : Option Nat := none
  /-- Inputs that arrived during a recovery and wait (Table 1-3). -/
  late     : List JEntry := []
  /-- The cluster receive queue, oldest first, and the frames retained for the epoch awaiting
  commit and the running epoch (R381). -/
  rx       : List RxFrame := []
  keepPrev : List RxFrame := []
  keepCur  : List RxFrame := []
  /-- Busy percentage of the epoch awaiting commit (REC_BUSYk). -/
  busyNext : Nat := 0
deriving DecidableEq, Repr

/-- One fault log entry (R404). -/
structure FaultEntry where
  stamp   : DWord
  cls     : Nat
  island  : Nat
  eng     : Nat
  outcome : Nat
  detail  : Word
deriving DecidableEq, Repr

/-- The fatal sequence (Table 13-7) and the always-on island's fatal record (R398). -/
structure FatalRec where
  reason : Nat
  island : Nat
  stamp  : DWord
  rst    : Word
deriving DecidableEq, Repr

/-- REC and DUMP blocks (Tables 13-12 to 13-15). -/
structure RecBlk where
  event    : BitVec 6 := 0
  irqEn    : BitVec 6 := 0
  suppress : Word := 0
  rollback : Word := 0
  fence    : Word := 0
  repair   : Word := 0
  remap    : Word := 0
  early    : Word := 0
  outside  : Word := 0
  tblDrop  : Word := 0
  outageMax : Word := 0
  logWr    : Word := 0
  logRd    : Word := 0
  log      : Tab FaultEntry := []
  clusters : Tab Cluster := []
  /-- The fatal error being handled. -/
  fatal    : Option FatalRec := none
  /-- The fatal record latched in the always-on island (R398). -/
  latched  : Option FatalRec := none
  dumpState : BitVec 2 := 0
  dumpReason : Byte := 0
  dumpUnsigned : Bool := false
  dumpWritten : Bool := false
  dumpPresent : Bool := false
  dumpEvent : BitVec 3 := 0
  dumpIrqEn : BitVec 3 := 0
  dumpLen  : Word := 0
  dumpLost : Word := 0
  dumpRel  : Bool := false
  /-- When the fatal error was detected, and when its dump was offered (Table 13-7). -/
  fatalAt  : Nat := 0
  offerAt  : Nat := 0
  /-- The bytes the DUMP window shows, from byte 0 of the dump region. -/
  dumpWin  : Mem := []
  /-- The erasure of the dump region has not completed (R399, R402). -/
  erasing  : Bool := false
  /-- Time of a DRAM island failure under retraining (Table 13-5). -/
  dramFailAt : Option Nat := none
deriving DecidableEq, Repr

/-- A personality placed at start-up (R294, R295): the engine it serves and its entry's fields. -/
structure Placed where
  eng     : Nat
  code    : Nat
  version : Nat
  bankLen : Nat
  tableLen : Nat
  entryPc : Nat
  digest  : List Byte
  /-- DRAM addresses of the bank and table sections (R295). -/
  bankAt  : Nat
  tableAt : Nat
deriving DecidableEq, Repr

/-- A store append in progress (Table 10-9). -/
structure Append where
  total  : Nat
  off    : Nat
  done   : Nat
  commit : Bool
deriving DecidableEq, Repr

/-- Engines and instances (spec/10, 11). -/
structure Engines where
  eng     : Tab Eng := []
  placed  : List Placed := []
  append  : Option Append := none
  /-- Mailbox acts that have left an outbox and not yet reached the host island (R335). -/
  mbActs  : List (Nat × Output) := []
deriving DecidableEq, Repr

end Sys2Proof.Machine
end

