-- ==== Sys2Proof/Machine/State/Chive.lean ====
section
/-! DEFINITION. State of the Chive engines, pins and serial lines (spec/15). -/

namespace Sys2Proof.Machine

/-- CHIVE_ESTATn.state (Table 15-9). -/
inductive CeState where
  | idle | running | stalled | faulted | stopped
deriving DecidableEq, Repr

/-- What a DRIVE changes: the level or the direction of pin p, or the output stage's level. -/
inductive PinChange where
  | level (p : Nat) (v : Bool)
  | direction (p : Nat) (v : Bool)
  | stage (p : Nat) (v : Bool)
deriving DecidableEq, Repr

/-- A word in an IN FIFO, with its stamp and pin. -/
structure CeIn where
  word : Word
  e    : DWord
  eid  : BitVec 7
deriving DecidableEq, Repr

/-- The configuration of an engine that a restart brings into force (R444). -/
structure CeCfg where
  k    : Word
  po   : BitVec 3
  prog : BitVec 4
  sink : BitVec 4
  div  : BitVec 16
  point : Nat
deriving DecidableEq, Repr

/-- An engine (Table 15-1). -/
structure CeEng where
  st    : CeState := .idle
  g     : Tab Word := []
  k     : Word := 0
  po    : BitVec 3 := 0
  t     : Word := 0
  e     : DWord := 0
  eid   : BitVec 7 := 0
  pc    : Nat := 0
  /-- the pending timed change: its deadline and the change (R441) -/
  timed : Option (Word × PinChange) := none
  inF   : List CeIn := []
  outF  : List Word := []
  /-- instants queued, oldest first: LATCH, and the T64 (R437) -/
  insts : List (Bool × DWord) := []
  fault : Word := 0
  outLost : BitVec 16 := 0
  inLost : BitVec 16 := 0
  prog  : BitVec 4 := 0
  sink  : BitVec 4 := 0
  div   : BitVec 16 := 0
  point : Nat := 0
  /-- the serial line a UART program serves -/
  line  : Nat := 0
  next  : Option CeCfg := none
  /-- the last edge that the time island loaded for a PPS or IRIG-B output program, and its level (R448) -/
  edgeAt : DWord := 0
  edgeUp : Bool := false
deriving DecidableEq, Repr

/-- A filtered change in a group's queue (R436). -/
structure CeChange where
  pin   : Nat
  level : Bool
  stamp : DWord
deriving DecidableEq, Repr

/-- A restart that is due: its time, keep, and the request that asked for it (R443, R444). -/
structure CeRestart where
  at_  : DWord
  keep : Bool
  req  : Option (Nat × Byte)
deriving DecidableEq, Repr

/-- A group (R432 to R444). The banks hold word w of bank b at 48b + w. -/
structure CeGroup where
  started : Bool := false
  gdiv  : BitVec 4 := 0
  keep  : Bool := false
  bank  : Nat := 0
  store : Tab (BitVec 24) := []
  /-- entry tables of bank 0 and bank 1 -/
  entry0 : Word := 0xFFFFFFFF
  entry1 : Word := 0xFFFFFFFF
  restart : Option CeRestart := none
  flags : Byte := 0
  queue : List CeChange := []
  fqLost : Word := 0
  samp  : BitVec 10 := 0
  sampT : DWord := 0
  late  : Word := 0
deriving DecidableEq, Repr

/-- A pin: 0 to 63 PIO, 64 PPS_IN, 65 PPS_OUT. -/
structure CePin where
  raw   : Bool := false
  out   : Bool := false
  drive : Bool := false
  filtered : Bool := false
  rise  : DWord := 0
  fall  : DWord := 0
  /-- the last raw edge on the model's own clock -/
  edgeAt : Nat := 0
  /-- the last edge was a rising one; edges since the last STAMP with clr -/
  lastRise : Bool := false
  riseLatch : Bool := false
  fallLatch : Bool := false
  func  : BitVec 4 := 0
  invert : Bool := false
  filterUs : BitVec 16 := 0
  /-- output stage: the pulse runs; the level that waits for a LATCH (R450) -/
  pulse : Bool := false
  pulseAt : Nat := 0
  waits : Option Bool := none
  /-- point stage: the level last given; the stamp of an even pin's change whose partner changed in
  the same cycle (R449) -/
  given : Bool := false
  merge : List DWord := []
deriving DecidableEq, Repr

/-- A frame that a line sends: its engine and tag, the words still to pass to the TX engine. -/
structure LineTx where
  eng   : Nat
  tag   : Nat
  words : List Word
deriving DecidableEq, Repr

/-- A serial line (R446). -/
structure Line where
  rx    : List Byte := []
  rxOn  : Bool := false
  flagged : Bool := false
  rxStamp : DWord := 0
  nRx   : Word := 0
  nTx   : Word := 0
  nErr  : Word := 0
  /-- the end of the last character received and of the last frame sent; when de_pio went high -/
  rxEnd : DWord := 0
  txEnd : DWord := 0
  de    : Bool := false
  deAt  : DWord := 0
  txq   : List LineTx := []
  cur   : Option LineTx := none
  /-- the stamp of the first start bit of the frame being sent -/
  first : Option DWord := none
deriving DecidableEq, Repr

structure ChvBlk where
  event : BitVec 5 := 0
  irqEn : BitVec 5 := 0
  eng   : Tab CeEng := []
  group : Tab CeGroup := []
  pin   : Tab CePin := []
  line  : Tab Line := []
deriving DecidableEq, Repr

end Sys2Proof.Machine
end

