-- ==== Sys2Proof/Machine/State/Core.lean ====
section
/-! DEFINITION. State of reset, start-up, Sage, mailboxes, memories and the host interface
(spec/02, 03, 12, 18). A field's docstring names the rule that gives it. -/

namespace Sys2Proof.Machine

/-- Reset causes, Table 2-1. -/
inductive Cause where
  | por | supply | thermal | warm | fatal | watchdog | lifeCycle | request
deriving DecidableEq, Repr

/-- Where the device stands between a reset and READY (Table 2-2). -/
inductive Stage where
  /-- a reset source still holds the device -/
  | held
  /-- neither reference clock is present (R54) -/
  | clockWait
  /-- REFCLK_A absent, its 10 ms wait running (R54) -/
  | refWait
  /-- the wipe runs (R48) -/
  | wiping
  /-- a bank did not report the wipe; it is repeated (R49) -/
  | wipeFailed
  /-- READY has been asserted -/
  | running
  /-- the fatal sequence of Table 13-7 runs -/
  | fatalSeq
deriving DecidableEq, Repr

/-- Life-cycle states, in the encoding of DEV_STATUS.lc_state (Table 2-19). -/
inductive LifeCycle where
  | blank | provisioned | operational | service | retired
deriving DecidableEq, Repr

/-- Reset, start-up and DEV start-up registers (spec/02). -/
structure Sys where
  stage      : Stage := .wiping
  /-- POR_N, supply monitor and thermal trip hold their reset (R44, R512, R522). -/
  porHeld    : Bool := false
  supplyHeld : Bool := false
  thermHeld  : Bool := false
  /-- READY has been asserted since the last reset (R55). -/
  up         : Bool := false
  cause      : Cause := .por
  rstCount   : Word := 0
  ready      : Bool := false
  faultPin   : Bool := false
  /-- ALARM_N asserted, its hold time included; when its last cause cleared, while it is held (R76). -/
  alarmPin   : Bool := false
  alarmAt    : Option Nat := none
  lc         : LifeCycle := .blank
  nvmQuad    : Bool := false
  kernelRom  : Bool := false
  /-- The kernel copy that runs when it is not the ROM kernel (R61). -/
  kernelCopy : Nat := 0
  refbBad    : Bool := false
  dramFail   : Bool := false
  cfgUnsigned : Bool := false
  cfgDefault : Bool := false
  cfgSlot    : Bool := false
  reasonA    : Byte := 0
  reasonB    : Byte := 0
  defCause   : Byte := 0
  cfgSeq     : DWord := 0
  bootTime   : Word := 0
  cfgSkipped : Word := 0
  /-- Reference clocks present, and the measured REFCLK_B frequency in Hz (R54, R75). -/
  refA       : Bool := true
  refB       : Bool := true
  refbHz     : Nat := 25000000
  /-- The MDIO frames that start-up has sent, oldest first: the 8 bytes of each write, a repeat as a second one
  (R152). -/
  mdio       : List (List Byte) := []
  /-- Time since the reset in units of 250 ps, never stepped (model's own clock, log 4). -/
  mono       : Nat := 0
  /-- That clock at READY (R142, R227, R233). -/
  readyAt    : Nat := 0
  /-- The draws that stand for the two DRAM SM4 keys, discarded by the wipe (R48, R86). -/
  dramKey    : Option (Nat × Nat) := none
  /-- Draws of free values taken so far (model's own, log 3). -/
  draws      : Nat := 0
deriving DecidableEq, Repr

/-- OTP (Table 3-7). The factory part is the board's: log 12. -/
structure Otp where
  prov     : Byte := 0
  oper     : Byte := 0
  retd     : Byte := 0
  entry    : Nat := 0
  exit     : Nat := 0
  serial   : DWord := 0
  mac      : BitVec 48 := 0
  /-- Owner root hash slots burned so far, slot 0 first (SM3 values). -/
  owners   : List (BitVec 256) := []
  revoked  : BitVec 4 := 0
  /-- SM3 of the vendor root key and of the device certificate, and the PUF helper data. -/
  vendorRoot : BitVec 256 := 0
  devCert  : BitVec 256 := 0
  puf      : BitVec 4096 := 0
deriving DecidableEq, Repr

/-- An outstanding challenge (R101). -/
structure Nonce where
  value : BitVec 128
  taken : Nat
  used  : Bool
deriving DecidableEq, Repr

/-- A request accepted and awaiting its final response (R92, R93). -/
structure Flight where
  src  : Nat
  code : Nat
  tag  : Byte
deriving DecidableEq, Repr

/-- An accepted NVM write whose completion gives the final response (Table 3-5, R502). -/
inductive NvmKind where
  | imgErase | imgCommit | keyImport | ownerCert | append | storeErase
deriving DecidableEq, Repr

/-- The NVM write in progress: its request, the place and the bytes it programs. -/
structure NvmJob where
  kind  : NvmKind
  src   : Nat
  code  : Nat
  tag   : Byte
  off   : Nat
  bytes : List Byte
deriving DecidableEq, Repr

/-- A response that waits for room in its mailbox: mailbox, requester, words (R111, R501). -/
structure SageReply where
  mb  : Nat
  src : Nat
  ws  : List Word
deriving DecidableEq, Repr

/-- Sage (spec/03). -/
structure Sage where
  coreActive : BitVec 3 := 7
  duplex     : Bool := false
  pufFail    : Bool := false
  /-- Voter disagreements of the last second: core and time (R79). -/
  disagree   : List (Nat × Nat) := []
  vote       : Word := 0
  accViol    : Word := 0
  reqRefused : Word := 0
  scope      : BitVec 2 := 0
  unlockEnd  : Nat := 0
  trngFails  : Nat := 0
  /-- Nonce of each requester: 0 to 31 the engines, 32 the host (R101). -/
  nonces     : Tab Nonce := []
  flights    : List Flight := []
  /-- Responses waiting in the Sage bank, oldest first (R111, R501). -/
  waiting    : List SageReply := []
  /-- The mailbox at which the next turn begins: 0 MB56, 1 to 4 MB58 to MB61 (R93). -/
  turn       : Nat := 0
  /-- The owner certificate region was valid when it was last read (R98, R106). -/
  certsOk    : Bool := false
  /-- Notices waiting for MB57, oldest first (R502). -/
  notices    : List (List Word) := []
  /-- The NVM write accepted and in progress. -/
  job        : Option NvmJob := none
  /-- A life-cycle cold reset or a requested warm reset is due (R95, R505). -/
  coldDue    : Bool := false
  warmDue    : Bool := false
  /-- The last TAP instruction that executed (R105). -/
  tap        : Nat := 0
deriving DecidableEq, Repr

/-- One mailbox word with its hardware source tag (R89, R358); `bad` marks a word lost to an
uncorrectable error, discarded at the head (Table 12-3). -/
structure MbWord where
  src  : Nat
  word : Word
  bad  : Bool := false
deriving DecidableEq, Repr

/-- One mailbox (R358 to R370, Tables 12-9 and 12-10). -/
structure Mbox where
  toHome   : List MbWord := []
  fromHome : List MbWord := []
  /-- Masters that posted into a queue since it was last empty (R361). -/
  postTo   : List Nat := []
  postFrom : List Nat := []
  lock     : Option Nat := none
  lockAt   : Nat := 0
  event    : BitVec 4 := 0
  irqEn    : BitVec 4 := 0
  discard  : Word := 0
  ovf      : Word := 0
  refused  : Word := 0
  home     : Byte := 0xFF
  farReader : Byte := 0xFF
  far      : BitVec 36 := 0
deriving DecidableEq, Repr

/-- The MBX block (Tables 12-7 and 12-8). -/
structure MbxBlk where
  mb        : Tab Mbox := []
  event     : BitVec 4 := 0
  irqEn     : BitVec 4 := 0
  scrubLate : Word := 0
  starve    : Tab Word := []
  wait      : Tab Word := []
  eccCorr   : Tab Word := []
  eccUnc    : Tab Word := []
deriving DecidableEq, Repr

/-- The byte memories. Unlisted NVM bytes read 0xFF (erased, R63), all others 0 (R48). -/
structure Mems where
  /-- NVM offset (R57). -/
  nvm   : Mem := []
  /-- Engine bank n, byte a, at key n × 0x6_0000 + a (Table 12-1). -/
  bank  : Mem := []
  /-- Service memory (Table 12-2). -/
  svc   : Mem := []
  /-- Capture memory (R206). -/
  cap   : Mem := []
  /-- External DRAM (R86). -/
  dram  : Mem := []
deriving DecidableEq, Repr

/-- One MSI-X table entry (R491); the mask is 1 at reset. -/
structure MsixEntry where
  addr : DWord := 0
  data : Word := 0
  mask : Bool := true
deriving DecidableEq, Repr

/-- An image write in progress (R503, R504). -/
structure ImgWrite where
  total  : Nat
  header : List Byte
  done   : Nat
  /-- the opening, or the last 0x902 or 0x903 from the host, on the model's own clock (R504) -/
  at_    : Nat
  /-- the slot erasure has completed -/
  erased : Bool
  /-- the trailer is being checked and written -/
  commit : Bool
deriving DecidableEq, Repr

/-- Host island: PCIe function, interrupt tree, DEV registers (spec/18). -/
structure HostIf where
  devEvent  : BitVec 6 := 0
  devIrqEn  : BitVec 6 := 0
  wrviol    : Word := 0
  wrviolAddr : BitVec 26 := 0
  scratch   : Word := 0
  irqEn     : BitVec 14 := 0
  pinEn     : BitVec 14 := 0
  armed     : DWord := 0xFFFFFFFFFFFFFFFF
  vmap      : Tab (BitVec 6) := []
  msgCount  : Word := 0
  msix      : Tab MsixEntry := []
  fnMask    : Bool := false
  busMaster : Bool := false
  msixEn    : Bool := false
  d3hot     : Bool := false
  perst     : Bool := false
  perstCount : BitVec 16 := 0
  dlActive  : Bool := false
  width     : BitVec 4 := 0
  speed     : BitVec 4 := 0
  /-- Values captured by reads of wide registers, by the lowest word's address (R13). -/
  capture   : Tab Nat := []
  /-- The bytes that the last BAR0 read returned, and the last interrupt message sent: address and data
  (model's own outputs). -/
  readData  : List Byte := []
  message   : Option (DWord × Word) := none
  /-- An image write in progress (R503). -/
  img       : Option ImgWrite := none
deriving DecidableEq, Repr

/-- One applied Flaza record (Table 2-8). -/
structure Rec where
  typ   : Nat
  ver   : Nat
  flags : Nat
  inst  : Nat
  body  : List Byte
deriving DecidableEq, Repr

/-- One region of the NVM directory in use (Table 2-5). -/
structure Region where
  typ  : Nat
  inst : Nat
  off  : Nat
  size : Nat
deriving DecidableEq, Repr

/-- The configuration in force (spec/02): the applied records, the directory, the image. -/
structure Config where
  recs    : List Rec := []
  dir     : List Region := []
  /-- digest field of the applied image's trailer; 0 under factory defaults -/
  digest  : List Byte := []
  /-- NVM sizes found by SFDP on the two chip selects (R57), and octal support. -/
  nvmSize : Nat := 0x4000000
  octal   : Bool := true
deriving DecidableEq, Repr

end Sys2Proof.Machine
end

