-- ==== Sys2Proof/Machine/State/Fabric.lean ====
section
/-! DEFINITION. State of the Jabex fabric (spec/08). -/

namespace Sys2Proof.Machine

/-- FAB_PSTATn.state of a port that may take a neighbour (Table 8-10); discovery and disabled are read from the
configuration. -/
inductive FabState where
  | admitting | admitted | stranger
deriving DecidableEq, Repr

/-- One fabric port's neighbour (R240 to R242). -/
structure FabPort where
  st       : FabState := .admitting
  reason   : Nat := 0
  peerId   : DWord := 0
  peerAddr : Nat := 0
  peerMac  : BitVec 48 := 0
  peerLc   : Nat := 0
  cost     : BitVec 16 := 100
  admitFail : Word := 0
  /-- the handshake that runs, with its HELLO's fabric_id -/
  shake    : Option Word := none
  /-- the last HELLO named this fabric_id (R241) -/
  heard    : Option Word := none
  /-- the draw that stands for the link key (R240) -/
  key      : Option Nat := none
  /-- a SYNC that awaits its FOLLOW_UP: its ingress stamp (R253) -/
  sync     : Option DWord := none
  /-- the neighbour's own offset from the reference, as its last FOLLOW_UP gave it (R253) -/
  refOfs   : DWord := 0
deriving DecidableEq, Repr

/-- Routes of a stream as lists of port numbers (R245). -/
structure Route where
  a : List Nat := []
  b : List Nat := []
deriving DecidableEq, Repr

/-- A stream window of a receiver (R248): the source by key ID, or by its address where no claim binds
it. -/
structure StreamWin where
  src    : DWord
  stream : Nat
  inc    : Byte
  h      : Word
  bitmap : DWord
  at_    : DWord
deriving DecidableEq, Repr

structure FabBlk where
  /-- when the own LSA was last originated (R244) -/
  lsaAt    : Nat := 0
  event   : BitVec 5 := 0
  irqEn   : BitVec 5 := 0
  /-- own address, claim state (0 none, 1 tentative, 2 held, 3 lost), conflict -/
  addr    : Nat := 0
  claim   : Nat := 0
  conflict : Bool := false
  inc     : Word := 0
  lsaSeq  : Word := 0
  port    : Tab FabPort := []
  db      : List Lsa := []
  exclude : List Nat := []
  routes  : Tab Route := []
  /-- a database change awaits its computation (R245) -/
  spfDue  : Bool := false
  seqs    : Tab Word := []
  sent    : Tab Word := []
  windows : List StreamWin := []
  /-- updates of PNT frames that wait at the service port (R284) -/
  wait    : List Update := []
  /-- the time parent: key ID of the neighbour that gave the last sample (R254) -/
  parent  : Option DWord := none
  dup     : Word := 0
  late    : Word := 0
  misroute : Word := 0
  hdrErr  : Word := 0
  authFail : Word := 0
  grantViol : Word := 0
  unreach : Word := 0
  strangerDrop : Word := 0
  routeInstall : Word := 0
deriving DecidableEq, Repr

end Sys2Proof.Machine
end

