-- ==== Sys2Proof/Machine/State/Port.lean ====
section
/-! DEFINITION. State of the station and fabric ports and of the PRP and HSR pairs (spec/05). -/

namespace Sys2Proof.Machine

/-- PORT_LINK.verify, Table 5-10. -/
inductive Verify where
  | off | verifying | active | failed
deriving DecidableEq, Repr

/-- A transmission under way: the copy of frame `fid` in class `cls`, its egress stamp,
and whether the guardian has cut it. -/
structure TxNow where
  fid   : Nat
  cls   : Nat
  stamp : DWord
  cut   : Bool := false
  /-- device time at which this fragment began; bytes that had left when the driver was cut (R221) -/
  from_ : DWord := 0
  cutLen : Nat := 0
  /-- the schedule bank in force at the start, whose end limit holds (R230) -/
  bank  : Nat := 0
  /-- bytes sent in earlier fragments; where this fragment must end before its run closes, the bytes it may carry
  (R213) -/
  sent  : Nat := 0
  lim   : Option Nat := none
deriving DecidableEq, Repr

/-- A MAC port: index 0 to 63 for P0 to P63, 64 to 67 for F0 to F3. The CFG registers are raw words
of Tables 5-7 to 5-14. -/
structure Port where
  cfg     : Word := 0xC0C00000
  maxLen  : BitVec 16 := 1518
  /-- writes of max_len, oldest first: device time, and the value before it (R159) -/
  maxHist : List (DWord × BitVec 16) := []
  lane    : BitVec 3 := 0
  pauseWd : Word := 0x00640014
  pair    : BitVec 16 := 0
  own     : BitVec 48 := 0
  filt    : Tab DWord := []
  /-- A lane whose MDIO writes failed twice stays disabled (R152). -/
  mdioFail : Bool := false
  up      : Bool := false
  laneFault : Bool := false
  duplexFail : Bool := false
  anDone  : Bool := false
  hiBer   : Bool := false
  /-- speed code of PORT_LINK, and the code at which the link was last up (R526) -/
  speed   : Nat := 0
  lastUp  : Option Nat := none
  verify  : Verify := .off
  verifyTries : Nat := 0
  /-- classes paused now; the holdoff of the pause watchdog (R163) -/
  paused  : BitVec 8 := 0
  holdoff : Bool := false
  /-- when the port became paused, when its holdoff began, and until when each class is paused (R162, R163) -/
  pausedAt : Nat := 0
  holdAt  : Nat := 0
  till    : Tab Nat := []
  event   : BitVec 6 := 0
  irqEn   : BitVec 6 := 0
  half    : BitVec 96 := 0
  stat    : Tab Word := []
  snap    : Tab Word := []
  fecCorr : Word := 0
  fecUnc  : Word := 0
  /-- the frame in reception, once classified; beside it a preemptable frame between its fragments (R166) -/
  rx      : Option Nat := none
  rxp     : Option Nat := none
  /-- fragments of the preemptable frame in reassembly (R166) and its first fragment's stamp -/
  frag    : Option (List Byte × DWord) := none
  tx      : Option TxNow := none
  /-- the bytes of the last frame sent, FCS included (model's own output) -/
  out     : List Byte := []
  /-- a preemptable frame interrupted between two fragments (R213, R165) -/
  held    : Option TxNow := none
deriving DecidableEq, Repr

/-- A duplicate-discard entry (R169). -/
structure DdEntry where
  src : BitVec 48
  seq : BitVec 16
  /-- when it was created -/
  at_ : Nat := 0
deriving DecidableEq, Repr

/-- A PRP or HSR pair (R167 to R171). -/
structure Pair where
  dd    : List DdEntry := []
  evict : Word := 0
  /-- sequence number of the next frame this node sends on the pair -/
  seq   : BitVec 16 := 0
  supSeq : BitVec 16 := 0
  /-- when the last supervision frame was sent (R167) -/
  supAt  : Nat := 0
  /-- node table and RedBox proxy node table (Table 5-4) -/
  nodes : List (BitVec 48) := []
  proxies : List (BitVec 48) := []
deriving DecidableEq, Repr

end Sys2Proof.Machine
end

