-- ==== Sys2Proof/Machine/State/Switch.lean ====
section
/-! DEFINITION. State of the switch core (spec/06). -/

namespace Sys2Proof.Machine

/-- A destination of a frame that has not judged it yet, with what its generation gives it there
(R203): the forwarding mode and the RED profile of the frame's class and colour. -/
structure Dest where
  port : Nat
  ct   : Bool := false
  prof : Nat := 0
  /-- min, max, max_p and w of SW.RED -/
  red  : List Byte := []
deriving DecidableEq, Repr

/-- What a Jabex header gives its frame (R237): delivered here, or forwarded on a fabric port; its kind, source address,
stream, incarnation and sequence number, and the context that its stream names. -/
structure JabRx where
  here   : Bool
  port   : Nat
  kind   : Nat
  src    : Nat
  stream : Nat
  inc    : Byte
  seq    : Word
  ctx    : Nat
deriving DecidableEq, Repr

/-- A frame in flight (R203): from classification until its last copy leaves or is dropped. -/
structure Frame where
  /-- 0 to 67 a port, 68 + k cluster k, 84 the service port -/
  src    : Nat
  stamp  : DWord
  gen    : BitVec 16
  /-- the bytes known so far, without the FCS; `len` counts the FCS (R155) -/
  bytes  : List Byte
  len    : Nat
  cls    : Nat
  colour : Nat
  ctx    : Option Nat := none
  vid    : Nat := 0
  rule   : Option Nat := none
  capRule : Bool := false
  /-- the FCS a received frame carried -/
  fcs    : List Byte := []
  jab    : Option JabRx := none
  /-- a supervision frame of the device's own (R171) -/
  sup    : Bool := false
  /-- the copy that left last was pushed out (R199) -/
  pushed : Bool := false
  /-- PRP trailer or HSR header present on reception; pairs and sequence numbers of a frame that the
  device sends on a pair -/
  red    : Bool := false
  pairSeq : List (Nat × BitVec 16) := []
  /-- (source, VID) to learn when reception ends good -/
  learn  : Option (BitVec 48 × Nat) := none
  dests  : List Dest := []
  ended  : Bool := false
  bad    : Bool := false
  /-- at most this many bytes of a bad frame leave before the stomped FCS (R157) -/
  stompAt : Nat := 0
  /-- copies queued or in transmission, and the pool charge held -/
  copies : Nat := 0
  pool   : Nat := 0
  /-- verdict inputs: some copy admitted, sent or delivered; codes of the refusals so far -/
  admitted : Bool := false
  refused : List Nat := []
  delivered : Bool := false
  ctUsed : Bool := false
  stomped : Bool := false
  edge    : Bool := false
  egress : Option (Nat × DWord) := none
  /-- engine and tag of a TXQ that awaits the frame's transmission (R332) -/
  txq    : Option (Nat × Nat) := none
  /-- offset of the PTP header of a one-step frame (R137, R332) -/
  ptp    : Option Nat := none
  /-- the egress stamp of an earlier copy of the same TXQ (Jabex path pairs) -/
  first  : Option DWord := none
deriving DecidableEq, Repr

/-- A copy of a frame in a class queue: its charge, and the time it entered on the model's own
clock (R214). -/
structure Copy where
  fid   : Nat
  cells : Nat
  since : Nat
  ct    : Bool := false
deriving DecidableEq, Repr

/-- A forwarding database entry (R181). -/
structure FdbEntry where
  addr   : BitVec 48
  vid    : Nat
  kind   : Nat
  dest   : Nat
  static : Bool
  /-- the last frame that matched it as a source, on the model's own clock -/
  seen   : Nat := 0
deriving DecidableEq, Repr

/-- The two buckets of a meter in 1/32,000,000 byte, and the time of their last update. -/
structure MeterSt where
  tc : Nat
  tp : Nat
  at_ : Nat
deriving DecidableEq, Repr

/-- Per-port switch registers and settings (Table 6-10, Table 6-14); fabric ports are 64 to 67. -/
structure SwPort where
  pcfg    : Word := 0x00010706
  mode    : BitVec 16 := 0
  floodMc : Bool := true
  pcp     : List Byte := [0, 1, 2, 3, 4, 5, 6, 7]
  /-- RED profile of class c and colour k at 3c + k -/
  red     : List Byte := [0, 0, 1, 0, 0, 1, 0, 0, 1, 0, 0, 1, 0, 0, 1, 0, 0, 1, 0, 0, 1, 0, 0, 1]
  learnMax : Nat := 0
  pushed  : Word := 0
  dropLink : Word := 0
  dropQuota : Word := 0
  dropRed : Word := 0
  dropGuard : Word := 0
deriving DecidableEq, Repr

/-- A cell that its output has not acknowledged (R190): input, output, sequence number, its frame, the plane through
which it was sent last, and the planes on which it failed. -/
structure CellTx where
  inp   : Nat
  out   : Nat
  seq   : Nat
  fid   : Nat
  plane : Nat
  tried : List Nat := []
deriving DecidableEq, Repr

/-- The switch core. -/
structure SwBlk where
  event    : BitVec 5 := 0
  irqEn    : BitVec 5 := 0
  gen      : BitVec 16 := 0
  working  : BitVec 5 := 0b01111
  retired  : BitVec 5 := 0
  spare    : Nat := 4
  /-- Failures of each plane within the last 1 ms (R191). -/
  fails    : Tab (List Nat) := []
  cells    : List CellTx := []
  /-- The next cell slot (log 127), and the next sequence number from input i to output o at 85i + o (R189). -/
  slot     : Nat := 0
  cellSeq  : Tab Nat := []
  cellRetry : Word := 0
  cellDup  : Word := 0
  cellLost : Word := 0
  planeRetire : Word := 0
  genBusy  : Word := 0
  localNoctx : Word := 0
  learnFull : Word := 0
  staticViol : Word := 0
  capCtrl  : Word := 0
  capWr    : Word := 0
  capRd    : Word := 0
  capLost  : Word := 0
  capPage  : Word := 0
  /-- SW.CORE: age_s and the capture filters (Tables 6-12 and 6-13), with frames matched so far. -/
  ageS     : Nat := 300
  filters  : List (List Byte) := []
  capSeen  : Tab Nat := []
  port     : Tab SwPort := []
  /-- SW_QCFGn_c at 8n + c and SW_PMAXn, as raw words; absent: the reset values. -/
  qcfg     : Tab Word := []
  pmax     : Tab (BitVec 16) := []
  /-- SW.RED, SW.METER, SW.VLAN, SW.MCAST and SW.RULE entries of the current generation. -/
  tables   : List Rec := []
  fdb      : List FdbEntry := []
  meters   : Tab MeterSt := []
  /-- RED average of queue 8n + c in 1/256 cell (R198). -/
  avg      : Tab Nat := []
  /-- Class queues at 8n + c, oldest first. -/
  queue    : Tab (List Copy) := []
  frames   : Tab Frame := []
  nextFid  : Nat := 0
  /-- Edit pool slots held by versions that older generations still reference (R204). -/
  editHeld : List (Nat × List (BitVec 16)) := []
  crqDrop  : Tab Word := []
deriving DecidableEq, Repr

end Sys2Proof.Machine
end

