-- ==== Sys2Proof/Machine/State/Tt.lean ====
section
/-! DEFINITION. State of the time-triggered schedules and the Foxglove guardian (spec/07). -/

namespace Sys2Proof.Machine

/-- A guarded port (Table 7-7). -/
structure TtPort where
  /-- stopped by the offset rule (R216) -/
  stopped : Bool := false
  /-- consecutive accepted samples with |θ| ≤ g/4 since the stop, and device time at the fourth -/
  good    : Nat := 0
  goodAt  : DWord := 0
  /-- listen-only (R221, R224) and device time of the cut -/
  listen  : Bool := false
  cutAt   : DWord := 0
  /-- closed by an error of the guardian copy, since cutAt; open again at a cycle boundary (R223) -/
  ecc     : Bool := false
  /-- device time at which Sage has reloaded the guardian's copy after an error (R223) -/
  reloadAt : DWord := 0
  index   : Nat := 0
  cuts    : Word := 0
  holds   : Word := 0
  stops   : Word := 0
deriving DecidableEq, Repr

/-- A time-triggered CAN channel (R225 to R228). -/
structure TtChan where
  /-- REF_LOST or waiting for a first reference (R227) -/
  stopped : Bool := true
  listen  : Bool := false
  ecc     : Bool := false
  /-- a valid reference has been heard since the channel was enabled, or since a cut -/
  heard   : Bool := false
  /-- cycle count of the last reference, the priority of its sender, and its SOF stamp -/
  count   : Nat := 0
  prio    : Option Nat := none
  refAt   : DWord := 0
  /-- the guardian's own stamp of the last reference SOF, in G (R228); closed by a disagreement (R224) -/
  gRef    : Int := 0
  dis     : Bool := false
  /-- this channel sent the last reference -/
  master  : Bool := false
  /-- the current trigger -/
  index   : Nat := 0
  /-- the window now open: its trigger -/
  window  : Option Nat := none
  cuts    : Word := 0
  holds   : Word := 0
  lost    : Word := 0
deriving DecidableEq, Repr

/-- A log entry (Table 7-8). -/
structure TtLog where
  stamp : DWord
  unit_ : Nat
  code  : Nat
  index : Nat
  value : Word
deriving DecidableEq, Repr

/-- An accepted 0x502 that awaits its boundary (R229, R230). -/
structure TtSwap where
  src   : Nat
  tag   : Byte
  /-- units still to swap: 0 to 63 ports, 0x80 + k channels -/
  units : List Nat
  at_   : DWord
deriving DecidableEq, Repr

structure TtBlk where
  /-- Schedule bank b of unit u at key 2u + b: the TT.GATE or TT.CAN body, in the scheduler and the
  guardian alike (R220, R229). Ports are units 0 to 63, channels 0x80 to 0x8F. -/
  bank     : Tab (List Byte) := []
  active   : Tab Nat := []
  /-- Ports that swapped lately: the instant until which both banks must open a class (R230). -/
  bothTill : Tab DWord := []
  port     : Tab TtPort := []
  chan     : Tab TtChan := []
  swap     : Option TtSwap := none
  /-- G − D in 250 ps units (R220); a step applies to both. -/
  gOff     : Int := 0
  gsync    : Word := 0
  /-- The last guardian compare passed. -/
  cmpOk    : Bool := true
  disagree : Bool := false
  /-- Times of the disagreements of the last 10 s on the model's own clock (R224). -/
  disAt    : List Nat := []
  guardFail : Bool := false
  ring     : Bool := false
  event    : BitVec 5 := 0
  irqEn    : BitVec 5 := 0
  log      : Tab TtLog := []
  logWr    : Word := 0
  logRd    : Word := 0
  instSkip : Word := 0
  /-- The last instant that each generator issued: its value and number; device time after the last step (R219). -/
  last     : Tab (DWord × Nat) := []
  stepTo   : Option DWord := none
  /-- The last step, on the model's own clock (R215). -/
  stepAt   : Option Nat := none
  /-- The qualification last seen, and since when on the model's own clock (R224). -/
  wasQual  : Bool := false
  qualAt   : Nat := 0
  /-- The qualified bit of the LSA has changed (R244). -/
  lsaDue   : Bool := false
  /-- Unqualified for more than 120 s after READY with a TT.GATE record (R233). -/
  unqLong  : Bool := false
  /-- Words of the time and guardian islands waiting in their handshake FIFOs for MB62 (R360). -/
  wait62   : List (Nat × Word) := []
deriving DecidableEq, Repr

end Sys2Proof.Machine
end

