-- ==== Sys2Proof/Machine/State.lean ====
section
/-! DEFINITION. The state of the TN6440 and its value after reset. -/

namespace Sys2Proof.Machine

/-- The device: its blocks, and the commands that wait, first in, first out. -/
structure State where
  sys   : Sys := {}
  otp   : Otp := {}
  sage  : Sage := {}
  mbx   : MbxBlk := {}
  mem   : Mems := {}
  host  : HostIf := {}
  cfg   : Config := {}
  engs  : Engines := {}
  rmy   : RecBlk := {}
  time  : TimeBlk := {}
  pnt   : PntBlk := {}
  tt    : TtBlk := {}
  ports : Tab Port := []
  pairs : Tab Pair := []
  sw    : SwBlk := {}
  fab   : FabBlk := {}
  can   : Tab CanChan := []
  chv   : ChvBlk := {}
  age   : AgeBlk := {}
  pending : List Instr := []
deriving DecidableEq, Repr

/-- Why a step stops. No command of this device stops it: every listed event has an effect. -/
inductive Fault where
  /-- Raised by no command; the spec gives no stop (safe). -/
  | none
deriving DecidableEq, Repr

/-- Why a command has no meaning. -/
inductive Refusal where
  /-- A command of the table whose meaning is not written yet (safe). -/
  | notModelled (mnemonic : String)
deriving DecidableEq, Repr

/-- The machine right after reset (R15). -/
def State.reset : State := {}

/-- The outcome of one command. -/
abbrev Out := Host.Outcome State Fault Refusal

end Sys2Proof.Machine
end

