-- ==== Sys2Proof/Machine/Ops.lean ====
section
/-! DEFINITION. Shared operations: configuration look-ups, counters, the banks with their undo
log, mailboxes, requests to Sage, the fault log and the fatal sequence. -/

namespace Sys2Proof

/-- Body word `i`, word 0 not counted, so that the spec's "word 1" is index 1. -/
def Req.word (c : Req) (i : Nat) : Nat := (c.body.getD (i - 1) 0).toNat

/-- Words i and i + 1 of a request as one 64-bit number. -/
def Req.dword (c : Req) (i : Nat) : DWord := BitVec.ofNat 64 (c.word i + c.word (i + 1) * 2 ^ 32)

end Sys2Proof

namespace Sys2Proof.Machine

/-! ### Configuration (R62, R35, R39) -/

/-- The applied record of a type and instance. -/
def State.rec? (s : State) (typ inst : Nat) : Option Rec :=
  s.cfg.recs.find? (fun r => r.typ == typ && r.inst == inst)

/-- An `n`-byte field of an applied record; `d` when the record is absent. -/
def State.fld (s : State) (typ inst off n d : Nat) : Nat :=
  match s.rec? typ inst with
  | some r => rdLE r.body off n
  | none => d

/-- The applied records of a type, in image order. -/
def State.recsOf (s : State) (typ : Nat) : List Rec := s.cfg.recs.filter (fun r => r.typ == typ)

/-- The device-wide profile: 0 ASSURE, 1 SWIFT, 2 CAPACITY (R35). -/
def State.profile (s : State) : Nat := s.fld 0x0102 0 0 1 0

/-- The effective profile of cluster `k` (R39). -/
def State.cprofile (s : State) (k : Nat) : Nat :=
  let c := s.fld 0x0102 0 (4 + k) 1 0xFF
  if c = 0xFF then s.profile else c

/-- Cluster `k` runs a twin pair (Table 1-4). -/
def State.twin (s : State) (k : Nat) : Bool := s.cprofile k != 2

/-- Outputs of cluster `k` wait for the commit (R36). -/
def State.commitRel (s : State) (k : Nat) : Bool := s.cprofile k == 0

/-- The number a twin pair is held under: its lower engine (Table 12-4, R389). -/
def State.lead (s : State) (e : Nat) : Nat := if s.twin (e / 2) then e / 2 * 2 else e

/-! ### Free values -/

/-- One more free value drawn (log 3). -/
def State.draw (s : State) : State := { s with sys := { s.sys with draws := s.sys.draws + 1 } }

/-! ### Intervals on the model's own clock, units of 250 ps (log 4) -/

def us (n : Nat) : Nat := n * 4000
def ms (n : Nat) : Nat := n * 4000000
def sec (n : Nat) : Nat := n * 4000000000

/-! ### Gates -/

/-- READY has been asserted and no fatal sequence runs: commands of the running device act. -/
def State.running (s : State) : Bool := s.sys.stage == .running

/-! ### Counters of Sage (R84, R92) -/

/-- A refused request or a dropped post (R87, R92). -/
def State.countRefused (s : State) : State :=
  { s with sage := { s.sage with reqRefused := satInc s.sage.reqRefused },
           host := { s.host with devEvent := s.host.devEvent ||| 4 } }

/-- An access violation (R84). -/
def State.countViol (s : State) : State :=
  { s with sage := { s.sage with accViol := satInc s.sage.accViol },
           host := { s.host with devEvent := s.host.devEvent ||| 8 } }

/-- A write refused in the current state (R498). -/
def State.wrViol (s : State) (addr : Nat) : State :=
  { s with host := { s.host with
      wrviol := satInc s.host.wrviol, wrviolAddr := BitVec.ofNat 26 addr,
      devEvent := s.host.devEvent ||| 2 } }

/-! ### NVM (R57 to R63) -/

def State.region? (s : State) (typ inst : Nat) : Option Region :=
  s.cfg.dir.find? (fun r => r.typ == typ && r.inst == inst)

def State.nvmByte (s : State) (a : Nat) : Byte := Mem.read 0xFF s.mem.nvm a
def State.nvmBytes (s : State) (a n : Nat) : List Byte := Mem.readBytes 0xFF s.mem.nvm a n
def State.nvmLE (s : State) (a n : Nat) : Nat := leNat (s.nvmBytes a n)

/-- Bytes programmed into erased NVM. -/
def State.nvmWrite (s : State) (a : Nat) (bs : List Byte) : State :=
  { s with mem := { s.mem with nvm := Mem.writeBytes 0xFF s.mem.nvm a bs } }

/-- A range of the NVM erased (R63). -/
def State.nvmErase (s : State) (a n : Nat) : State :=
  { s with mem := { s.mem with nvm := Mem.clearRange s.mem.nvm a (a + n) } }

/-- A region of the directory erased, if there is one. -/
def State.eraseRegion (s : State) (typ inst : Nat) : State :=
  match s.region? typ inst with
  | some r => s.nvmErase r.off r.size
  | none => s

/-- An NVM write under way: a range erased first, then bytes programmed one after the other (R47, R63). -/
structure NvmPart where
  at_  : Nat
  size : Nat
  prog : List (Nat × Byte) := []

/-- Bytes to program from an address on. -/
def progAt (a : Nat) (bs : List Byte) : List (Nat × Byte) := bs.zipIdx.map (fun p => (a + p.2, p.1))

/-- An NVM write abandoned: how much of the erasure, and after the whole of it how many bytes, were done at the
next page boundary is a free value (R47). -/
def State.cutWrite (s : State) (p : NvmPart) : State :=
  let d := s.sys.draws
  let e := (Free.word d).toNat % (p.size + 1)
  let n := if e = p.size then (Free.word (d + 1)).toNat % (p.prog.length + 1) else 0
  let t := (p.prog.take n).foldl (fun s b => s.nvmWrite b.1 [b.2]) (s.nvmErase p.at_ e)
  { t with sys := { t.sys with draws := d + 2 } }

/-- What the NVM write of a job consists of. -/
def State.jobPart (s : State) (j : NvmJob) : NvmPart :=
  let whole (typ : Nat) : NvmPart :=
    match s.region? typ 0 with
    | some r => { at_ := r.off, size := r.size, prog := progAt j.off j.bytes }
    | none => { at_ := j.off, size := 0 }
  match j.kind with
  | .imgErase => { at_ := j.off, size := leNat j.bytes }
  | .imgCommit | .append => { at_ := j.off, size := 0, prog := progAt j.off j.bytes }
  | .keyImport => { at_ := j.off, size := 256, prog := progAt j.off j.bytes }
  | .ownerCert => whole 7
  | .storeErase => whole 3

/-- The NVM write in progress abandoned (R47, R397). -/
def State.cutJob (s : State) : State :=
  match s.sage.job with
  | some j => ({ s with sage := { s.sage with job := none } } : State).cutWrite (s.jobPart j)
  | none => s

/-! ### Engines and clusters -/

def State.eng (s : State) (e : Nat) : Eng := s.engs.eng.get {} e
def State.setEng (s : State) (e : Nat) (v : Eng) : State :=
  { s with engs := { s.engs with eng := s.engs.eng.set e v } }
def State.core (s : State) (e : Nat) : EngCore := (s.eng e).core
def State.setCore (s : State) (e : Nat) (c : EngCore) : State :=
  s.setEng e { s.eng e with core := c }
def State.cl (s : State) (k : Nat) : Cluster := s.rmy.clusters.get {} k
def State.setCl (s : State) (k : Nat) (c : Cluster) : State :=
  { s with rmy := { s.rmy with clusters := s.rmy.clusters.set k c } }

/-- The engine's cluster replays (R386 step 4). -/
def State.replaying (s : State) (e : Nat) : Bool :=
  let c := s.cl (e / 2)
  c.st == .replay && (c.recEng == none || c.recEng == some e)

/-- The engine's cluster is in restore or replay: inputs wait (Table 1-3). -/
def State.recovering (s : State) (e : Nat) : Bool :=
  let c := s.cl (e / 2)
  (c.st == .stopped || c.st == .restore || c.st == .replay) && (c.recEng == none || c.recEng == some e)

/-! ### Engine banks (R348, R382) -/

/-- Size of an engine bank (Table 12-1). -/
def bankSize : Nat := 0x60000

def State.bankByte (s : State) (e a : Nat) : Byte := Mem.read 0 s.mem.bank (e * bankSize + a)
def State.bankBytes (s : State) (e a n : Nat) : List Byte :=
  Mem.readBytes 0 s.mem.bank (e * bankSize + a) n

/-- The line of `a` copied into the undo log before its first write in the epoch (R382). -/
def State.undoLine (s : State) (e line : Nat) : State :=
  let c := s.cl (e / 2)
  if c.undoCur.any (fun u => u.eng == e && u.line == line) then s
  else s.setCl (e / 2)
    { c with undoCur := c.undoCur ++ [{ eng := e, line := line, bytes := s.bankBytes e (line * 64) 64 }] }

/-- The bank bytes themselves. -/
def State.bankPut (s : State) (e a : Nat) (bs : List Byte) : State :=
  { s with mem := { s.mem with bank := Mem.writeBytes 0 s.mem.bank (e * bankSize + a) bs } }

/-- Bytes stored in a bank, every line first copied into the undo log (R382). A twin pair's two
banks hold the same bytes and are held once (R312). -/
def State.bankStore (s : State) (e a : Nat) (bs : List Byte) : State :=
  let lines := (List.range ((a % 64 + bs.length + 63) / 64)).map (· + a / 64)
  (lines.foldl (fun s l => s.undoLine e l) s).bankPut e a bs

/-! ### Inputs of an engine and the event journal (R344, R379) -/

/-- Bytes a journal entry takes: the header and the payload (R379). -/
def JEntry.size (j : JEntry) : Nat := 16 + j.payload.length

/-- The operation of a tag has completed: its opdone bit is set (R331). -/
def State.opDone (s : State) (e tag : Nat) : State :=
  let c := s.core e
  s.setCore e { c with opdone := c.opdone ||| BitVec.ofNat 16 (2 ^ tag),
                       rxqs := c.rxqs.filter (· ≠ tag) }

/-- The edge bits of ipend among a set raised (Table 11-11). -/
def State.irqBits (s : State) (e bits : Nat) : State :=
  let c := s.core e
  s.setCore e { c with ipend := c.ipend ||| BitVec.ofNat 32 bits,
                       timerArmed := c.timerArmed && !tst bits 1 }

/-- An instant enters the queue of 16; a further one is discarded and counted (R339). -/
def State.instPush (s : State) (e : Nat) (i : Instant) : State :=
  let g := s.eng e
  if 16 ≤ g.core.insts.length then s.setEng e { g with instLost := satInc g.instLost }
  else s.setEng e { g with core := { g.core with insts := g.core.insts ++ [i] } }

/-- The fields of an instant in a journal payload. -/
def Instant.pack (i : Instant) : List Byte :=
  leBytes 4 i.gen ++ leBytes 4 (bit i.latch) ++ leBytes 8 (bit i.qual)

/-- An input becomes visible to its engine: the bank bytes it brings, then its effect on the
engine's registers. -/
def State.applyInput (s : State) (j : JEntry) : State :=
  let e := j.eng
  let s := j.writes.foldl (fun s w => s.bankStore e w.1 w.2) s
  match j.kind with
  | 0x02 | 0x04 | 0x05 | 0x06 | 0x07 => s.opDone e j.tag
  | 0x03 => s.irqBits e 16
  | 0x01 =>
    let c := s.cl (e / 2)
    let g := if j.inline % 2 ^ 32 = c.epoch.toNat then c.grantsCur else c.grantsPrev
    { s with pnt := { s.pnt with clGrants := s.pnt.clGrants.set e g } }
  | 0x0A => s.instPush e { gen := rdLE j.payload 0 4, latch := rdLE j.payload 4 4 = 1,
                           qual := rdLE j.payload 8 8 = 1, at_ := BitVec.ofNat 64 j.inline }
  | 0x0B => s.irqBits e (j.inline % 2 ^ 32)
  | _ => s

/-- An entry written to the journal at the engine's present count (R379). -/
def State.journal (s : State) (j : JEntry) : State :=
  let c := s.cl (j.eng / 2)
  s.setCl (j.eng / 2) { c with
    jCur := c.jCur ++ [{ j with count := (s.core j.eng).ret.toNat % 2 ^ 48 }] }

/-- An input arrives: it is journaled and becomes visible, or waits while the cluster recovers
(Table 1-3). -/
def State.input (s : State) (j : JEntry) : State :=
  if s.recovering j.eng then
    let c := s.cl (j.eng / 2)
    s.setCl (j.eng / 2) { c with late := c.late ++ [j] }
  else (s.journal j).applyInput j

/-- Edge bit `b` of ipend set, journaled with kind 0x0B (Table 13-3). A subscriber delivery is an
entry of its own. -/
def State.raiseIpend (s : State) (e b : Nat) : State :=
  s.input { eng := s.lead e, kind := 0x0B, inline := 2 ^ b }

/-! ### Mailboxes (R358 to R370) -/

/-- The grant of MBn at reset and without a HOST.MBOX record (R359, R373). -/
def mboxDefault (n : Nat) : Mbox :=
  if n < 32 then
    if n % 2 = 0 then { home := BitVec.ofNat 8 n, far := BitVec.ofNat 36 (2 ^ 33) } else {}
  else if n < 56 then {}
  else if n = 56 then { home := 33, farReader := 32, far := BitVec.ofNat 36 (2 ^ 32) }
  else if n = 57 then { home := 33, farReader := 32 }
  else if n < 62 then { home := 33, far := BitVec.ofNat 36 (0xFF * 2 ^ ((n - 58) * 8)) }
  else if n = 62 then { home := 33, far := BitVec.ofNat 36 (3 * 2 ^ 34) }
  else { home := 33 }

def State.mb (s : State) (n : Nat) : Mbox := s.mbx.mb.get (mboxDefault n) n
def State.setMb (s : State) (n : Nat) (m : Mbox) : State :=
  { s with mbx := { s.mbx with mb := s.mbx.mb.set n m } }

/-- The master ID a mailbox act carries: a twin pair acts as its lower number (Table 12-4). -/
def State.master (s : State) (e : Nat) : Nat := s.lead e

/-- The reader of a queue has been reset and does not run again yet (R369): a stopped or halted
engine. The host runs again at once (log 20). -/
def State.readerDown (s : State) (m : Nat) : Bool :=
  m < 32 && ((s.eng m).st == .stopped || (s.eng m).st == .trapHalt)

/-- The non-empty or empty interrupt delivered to a master (R361). -/
def State.mbIrq (s : State) (n m b : Nat) : State :=
  if m < 32 then s.raiseIpend m b
  else if m = 32 then
    let x := s.mb n
    s.setMb n { x with event := x.event ||| (if b = 5 then 1 else 2) }
  else s

def State.mbIrqAll (s : State) (n b : Nat) (ms : List Nat) : State :=
  ms.foldl (fun s m => s.mbIrq n m b) s

/-- A queue of a mailbox. -/
def Mbox.q (m : Mbox) (home : Bool) : List MbWord := if home then m.toHome else m.fromHome
def Mbox.setQ (m : Mbox) (home : Bool) (q : List MbWord) : Mbox :=
  if home then { m with toHome := q } else { m with fromHome := q }
def Mbox.posters (m : Mbox) (home : Bool) : List Nat := if home then m.postTo else m.postFrom
def Mbox.setPosters (m : Mbox) (home : Bool) (l : List Nat) : Mbox :=
  if home then { m with postTo := l } else { m with postFrom := l }
/-- The master that reads a queue (R358). -/
def Mbox.reader (m : Mbox) (home : Bool) : Nat := if home then m.home.toNat else m.farReader.toNat

/-- A word posted into a queue with room (R360); a queue whose reader is reset discards it
(R369). The reader of an empty queue gets the non-empty interrupt (R361). -/
def State.mbPost (s : State) (n : Nat) (home : Bool) (src : Nat) (w : Word) : State :=
  let m := s.mb n
  if s.readerDown (m.reader home) then s.setMb n { m with discard := satInc m.discard }
  else
    let was := m.q home
    let m := (m.setQ home (was ++ [{ src := src, word := w }]))
    let m := m.setPosters home (if (m.posters home).contains src then m.posters home
                                else m.posters home ++ [src])
    let s := s.setMb n m
    if was.isEmpty then s.mbIrq n (m.reader home) 5 else s

/-- A queue has room for `k` words (8 each, R358). -/
def State.mbRoom (s : State) (n : Nat) (home : Bool) (k : Nat) : Bool :=
  ((s.mb n).q home).length + k ≤ 8

/-- Damaged words at the head are discarded in place of their delivery (Table 12-3). -/
def Mbox.dropBad (m : Mbox) (home : Bool) : Mbox :=
  let q := m.q home
  let n := (q.takeWhile (·.bad)).length
  { m.setQ home (q.drop n) with discard := satAdd m.discard n }

/-- The head word taken from a queue; the empty interrupt goes to every poster when it was the
last (R361). -/
def State.mbTake (s : State) (n : Nat) (home : Bool) : Option MbWord × State :=
  let m := (s.mb n).dropBad home
  match m.q home with
  | [] => (none, s.setMb n m)
  | w :: q =>
    let m := (m.setQ home q).dropBad home
    if (m.q home).isEmpty then
      let ps := m.posters home
      (some w, (s.setMb n (m.setPosters home [])).mbIrqAll n 6 ps)
    else (some w, s.setMb n m)

/-- `k` words taken. -/
def State.mbTakeN (s : State) (n : Nat) (home : Bool) : Nat → State
  | 0 => s
  | k + 1 => ((s.mbTake n home).2).mbTakeN n home k

/-- A queue flushed because its reader was reset (R369). -/
def State.mbFlush (s : State) (n : Nat) (home : Bool) : State :=
  let m := s.mb n
  let ps := m.posters home
  let m := { (m.setQ home []).setPosters home [] with
             discard := satAdd m.discard (m.q home).length }
  (s.setMb n m).mbIrqAll n 6 ps

/-- The part of a Sage mailbox's queue that is an incomplete request at its end: the words after
the last complete request (R367). -/
def incompleteTail : Nat → List MbWord → List MbWord
  | 0, q => q
  | _ + 1, [] => []
  | f + 1, w :: q =>
    let n := bits w.word.toNat 19 16
    if q.length < n then w :: q else incompleteTail f (q.drop n)

/-- Requests of a Sage mailbox whose body words are missing are discarded and counted (R367). -/
def State.dropIncomplete (s : State) (n : Nat) : State :=
  let m := s.mb n
  let t := incompleteTail 9 m.toHome
  if t.isEmpty then s
  else (s.setMb n { m with toHome := m.toHome.take (m.toHome.length - t.length) }).countRefused

/-- A lock released by Sage or by a reset of its holder (R366, R370). -/
def State.breakLock (s : State) (n : Nat) : State :=
  let m := s.mb n
  let s := s.setMb n { m with lock := none, event := m.event ||| 4 }
  if 58 ≤ n ∧ n ≤ 61 then s.dropIncomplete n else s

/-- A master reset for the mailboxes (R368 to R370). -/
def State.resetMaster (s : State) (id : Nat) : State :=
  (List.range 64).foldl (fun s n =>
    let m := s.mb n
    let s := if m.home.toNat = id then s.mbFlush n true else s
    let s := if m.farReader.toNat = id then s.mbFlush n false else s
    if (s.mb n).lock = some id then s.breakLock n else s) s

/-- A lock read by a master: the value returned and the state (R363). -/
def State.lockRead (s : State) (n id : Nat) : Nat × State :=
  let m := s.mb n
  match m.lock with
  | none => (0, s.setMb n { m with lock := some id, lockAt := s.sys.mono })
  | some o => if o = id then (0, s) else (o + 1, s)

/-- A release by a master; by one that is not the owner it is only counted (R364). -/
def State.lockRelease (s : State) (n id : Nat) : State :=
  let m := s.mb n
  if m.lock = some id then s.setMb n { m with lock := none }
  else s.setMb n { m with refused := satInc m.refused }

/-! ### Requests to Sage (R87 to R95) -/

/-- The mailbox of a requester (Table 3-2). -/
def reqMb (src : Nat) : Nat := if src = 32 then 56 else 58 + src / 8

/-- Word 0 of a request or response (Table 3-3). -/
def word0 (code len tag status : Nat) : Word :=
  BitVec.ofNat 32 (code * 2 ^ 20 + len * 2 ^ 16 + tag * 2 ^ 8 + status)

/-- The reply mailbox of an engine (R88, R110). -/
def State.replyMb (s : State) (e : Nat) : Nat :=
  match s.rec? 0x0E01 0 with
  | some r => bits (rdLE r.body (4 + 4 * e) 4) 21 16
  | none => e

/-- Words posted one after the other by Sage. -/
def State.sagePost (s : State) (n : Nat) (home : Bool) (ws : List Word) : State :=
  ws.foldl (fun s w => s.mbPost n home 33 w) s

/-- A response to `src` goes to its mailbox when that has room for all of it and nothing older waits for the
same mailbox; otherwise it waits in the Sage bank (R111, R501). -/
def State.sendWords (s : State) (n : Nat) (home : Bool) (src : Nat) (ws : List Word) : State :=
  if s.mbRoom n home ws.length && !(s.sage.waiting.any (fun p => p.mb == n)) then s.sagePost n home ws
  else { s with sage := { s.sage with waiting := s.sage.waiting ++ [{ mb := n, src := src, ws := ws }] } }

/-- The mailbox and the queue of a requester's responses. -/
def State.replyTo (s : State) (src : Nat) : Nat × Bool :=
  if src = 32 then (56, false) else (s.replyMb src, (s.mb (s.replyMb src)).home.toNat != 33)

/-- A response of Sage to a requester. -/
def State.respond (s : State) (src code : Nat) (tag : Byte) (status : Nat) (body : List Word) : State :=
  let ws := word0 code body.length tag.toNat status :: body
  s.sendWords (s.replyTo src).1 (s.replyTo src).2 src ws

/-- A refusal leaves all state unchanged but the count (R92). -/
def State.refuse (s : State) (c : Req) (code status : Nat) (body : List Word := []) : State :=
  (s.respond c.src.val code c.tag status body).countRefused

/-- DONE. -/
def State.finish (s : State) (c : Req) (code : Nat) (body : List Word := []) : State :=
  s.respond c.src.val code c.tag 0x00 body

/-- ACCEPTED; the request stays in flight until its final response (R93). -/
def State.accept (s : State) (c : Req) (code : Nat) : State :=
  let s := s.respond c.src.val code c.tag 0x01 []
  { s with sage := { s.sage with flights := s.sage.flights ++ [{ src := c.src.val, code := code, tag := c.tag }] } }

/-- A request whose one response comes later: in flight until then (R93). -/
def State.hold (s : State) (q : Req) (code : Nat) : State :=
  { s with sage := { s.sage with
      flights := s.sage.flights ++ [{ src := q.src.val, code := code, tag := q.tag }] } }

/-- The final response of an accepted request. -/
def State.final (s : State) (src code : Nat) (tag : Byte) (status : Nat) (body : List Word) : State :=
  let s := { s with sage := { s.sage with
    flights := s.sage.flights.filter (fun f => !(f.src == src && f.code == code && f.tag == tag)) } }
  let s := s.respond src code tag status body
  if status = 0 then s else s.countRefused

/-- The classes a requester may use (R110): SEC.POLICY, else the default by personality. -/
def State.classes (s : State) (src : Nat) : Nat :=
  match s.rec? 0x0E01 0 with
  | some r => if src = 32 then rdLE r.body 0 4 else bits (rdLE r.body (4 + 4 * src) 4) 13 0
  | none =>
    if src = 32 then 0x3FF7
    else
      let code := s.fld 0x0801 src 0 1 0
      if code = 0x0C then 0x3E01 else if code = 0x0B then 0x0019 else 0x0009

/-- The words of a request as its requester posts them (Table 3-3). -/
def reqWords (c : Req) (code : Nat) : List Word :=
  word0 code c.body.length c.tag.toNat c.low.toNat :: c.body

/-- The words that stand in a Sage mailbox, damaged ones at the head dropped. -/
def State.sageQueue (s : State) (n : Nat) : List MbWord := ((s.mb n).dropBad true).toHome

/-- The words of the request stand at the head of its mailbox. -/
def State.atHead (s : State) (c : Req) (code : Nat) : Bool :=
  let q := (s.sageQueue (reqMb c.src.val)).take (reqWords c code).length
  q.map (·.word) == reqWords c code && q.all (fun w => w.src == c.src.val && !w.bad)

/-- A whole request stands at the head of Sage mailbox `n`. -/
def State.asking (s : State) (n : Nat) : Bool :=
  match s.sageQueue n with
  | [] => false
  | w :: q => decide (bits w.word.toNat 19 16 ≤ q.length)

/-- The mailboxes of the round, by turn (R93). -/
def sageBox (i : Nat) : Nat := if i = 0 then 56 else 57 + i

/-- The turn at which a requester's mailbox is served. -/
def reqTurn (src : Nat) : Nat := if src = 32 then 0 else 1 + src / 8

/-- The round has come to turn `i`: no mailbox before it in the round holds a whole request (R93). -/
def State.turnAt (s : State) (i : Nat) : Bool :=
  (((List.range 5).map (fun k => (s.sage.turn + k) % 5)).takeWhile (· != i)).all (fun j => !s.asking (sageBox j))

/-- Requests accepted whose final response is still to come, and responses that wait, of one requester. -/
def State.owed (s : State) (src : Nat) : Nat := (s.sage.flights.filter (fun f => f.src == src)).length
def State.waits (s : State) (src : Nat) : List SageReply := s.sage.waiting.filter (fun r => r.src == src)

/-- A response is final: its status is not ACCEPTED. -/
def SageReply.final (r : SageReply) : Bool := (r.ws.headD 0).toNat % 256 != 1

/-- Requests of one requester in flight: until their final response has been posted (R93). -/
def State.inFlight (s : State) (src : Nat) : Nat := s.owed src + ((s.waits src).filter SageReply.final).length

/-- The Sage bank can hold the response of one more request: no more than four of a requester wait there, and
the 0x14 of a fifth request only leaves when it can be posted at once (R93, R111; DESIGN CHOICE, log 135). -/
def State.canHold (s : State) (src : Nat) : Bool :=
  decide ((s.waits src).length + s.owed src < 4) ||
  ((s.waits src).isEmpty && s.mbRoom (s.replyTo src).1 (s.replyTo src).2 1 &&
    !(s.sage.waiting.any (fun p => p.mb == (s.replyTo src).1)))

/-- Sage serves the request now: nothing stands before it in its mailbox, the round has come to that mailbox,
and its response can be held (R93, R111). A command whose mailbox is empty carries its words itself (log 21). -/
def State.reqDue (s : State) (c : Req) (code : Nat) : Bool :=
  ((s.sageQueue (reqMb c.src.val)).isEmpty || s.atHead c code) && s.turnAt (reqTurn c.src.val) &&
  s.canHold c.src.val

/-- Sage reads the request: its words leave the mailbox where they stand there, and the round goes on. -/
def State.fetchReq (s : State) (c : Req) (code : Nat) : State :=
  let s := if s.atHead c code then s.mbTakeN (reqMb c.src.val) true (reqWords c code).length else s
  { s with sage := { s.sage with turn := (reqTurn c.src.val + 1) % 5 } }

/-- The checks common to every request: permission by class, four in flight, the reserved bits of word 0 and
the number of body words; `none` when they pass. Their order is the model's (log 22). -/
def State.reqCheck (s : State) (c : Req) (code words : Nat) : Option Nat :=
  if !(tst (s.classes c.src.val) (code / 256)) then some 0x10
  else if 4 ≤ s.inFlight c.src.val then some 0x14
  else if c.low ≠ 0 || c.body.length ≠ words then some 0x12
  else none

/-- A request served: fetched, checked, then acted on by `f`; refused with the status a check or
`f` gives. One that Sage does not serve yet stays as it is. -/
def State.serve (s : State) (c : Req) (code words : Nat) (f : State → State ⊕ Nat) : State :=
  if !s.reqDue c code then s else
  let s := s.fetchReq c code
  match s.reqCheck c code words with
  | some st => s.refuse c code st
  | none =>
    match f s with
    | .inl t => t
    | .inr st => s.refuse c code st

/-- Size of a requester's bulk area (R90). -/
def bulkSize (src : Nat) : Nat := if src = 32 then 0x10000 else bankSize

/-- A bulk descriptor lies in the requester's area, both parts multiples of 4 (R90). -/
def bulkOk (src off len : Nat) : Bool := off % 4 == 0 && len % 4 == 0 && off + len ≤ bulkSize src

/-- The bulk payload, copied into the Sage bank before any check (R90, R500). -/
def State.bulkRead (s : State) (src off len : Nat) : List Byte :=
  if src = 32 then Mem.readBytes 0 s.mem.svc (0x4000 + off) len
  else s.bankBytes (s.lead src) off len

/-- Data returned in the bulk area, before the response that announces them (R500). In an engine's bank they are
part of the response and journaled with it, so that a replay receives them again (R94; the entry's kind, 0, is
the model's, log 143). -/
def State.bulkWrite (s : State) (src off : Nat) (bs : List Byte) : State :=
  if src = 32 then { s with mem := { s.mem with svc := Mem.writeBytes 0 s.mem.svc (0x4000 + off) bs } }
  else s.input { eng := s.lead src, kind := 0, payload := bs, writes := [(off, bs)] }

/-- A notice on MB57, tag 0 and status 0 (R502): up to 16 wait, the oldest is discarded for a
seventeenth. -/
def State.notice (s : State) (code : Nat) (body : List Word) : State :=
  let ws := word0 code body.length 0 0 :: body
  if s.sage.notices.isEmpty && s.mbRoom 57 false ws.length then s.sagePost 57 false ws
  else if s.sage.notices.length < 16 then
    { s with sage := { s.sage with notices := s.sage.notices ++ [ws] } }
  else
    let m := s.mb 57
    let s := s.setMb 57 { m with discard := satInc m.discard }
    { s with sage := { s.sage with notices := s.sage.notices.drop 1 ++ [ws] } }

/-! ### Fault log and fatal errors (R396 to R405) -/

/-- One fault log entry (R404) with the T64 of detection. -/
def State.logFaultAt (s : State) (stamp : DWord) (cls island eng outcome : Nat) (detail : Word) : State :=
  let e : FaultEntry := { stamp := stamp, cls := cls, island := island, eng := eng,
                          outcome := outcome, detail := detail }
  let wr := s.rmy.logWr + 1
  let half := (wr - s.rmy.logRd).toNat = 32
  { s with rmy := { s.rmy with
      log := s.rmy.log.set (s.rmy.logWr.toNat % 64) e, logWr := wr,
      event := if half then s.rmy.event ||| 32 else s.rmy.event } }

/-- A fault handled as it is detected: logged before its outcome takes effect (R405). -/
def State.logFault (s : State) (cls island eng outcome : Nat) (detail : Word) : State :=
  s.logFaultAt s.time.t cls island eng outcome detail

/-- A fault outside the listed classes (R395). -/
def State.outsideFault (s : State) (island outcome : Nat) (detail : Word) : State :=
  let s := s.logFault 10 island 0xFF outcome detail
  { s with rmy := { s.rmy with outside := satInc s.rmy.outside, event := s.rmy.event ||| 8 } }

/-- Every engine stopped (Table 13-7 step 2). -/
def State.stopEngines (s : State) : State :=
  { s with engs := { s.engs with
      eng := s.engs.eng.map (fun p => (p.1, { p.2 with st := .stopped })) } }

/-- Every transmitter closed, CAN channels off the bus, every PIO an input and PPS_OUT low, every Chive
engine stopped (Table 13-7 step 2, R432, Table 15-9). -/
def State.closeOutputs (s : State) : State :=
  { s with
    ports := s.ports.map (fun p => (p.1, { p.2 with tx := none, held := none })),
    can := s.can.map (fun p => (p.1, { p.2 with tx := none, gts := false })),
    chv := { s.chv with
      eng := s.chv.eng.map (fun p => (p.1, { p.2 with st := .stopped })),
      pin := s.chv.pin.map (fun p => (p.1, if p.1 < 64 then { p.2 with out := false }
                                           else if p.1 = 65 then { p.2 with raw := false, drive := false } else p.2)),
      line := s.chv.line.map (fun p => (p.1, { p.2 with de := false })) } }

/-- A fatal error detected: logged, transmitters closed, engines stopped, READY deasserted,
FAULT_N asserted (Table 13-7 steps 1 and 2). -/
def State.fatal (s : State) (reason island cls : Nat) (eng : Nat := 0xFF) (detail : Word := 0) : State :=
  if s.sys.stage == .fatalSeq then s
  else
    let s := s.logFault cls island eng 5 detail
    let s := s.stopEngines.closeOutputs.cutJob
    { s with
      rmy := { s.rmy with fatal := some { reason := reason, island := island, stamp := s.time.t,
                                          rst := s.sys.rstCount }, fatalAt := s.sys.mono },
      sys := { s.sys with stage := .fatalSeq, ready := false, faultPin := true },
      engs := { s.engs with append := none }, host := { s.host with img := none } }

end Sys2Proof.Machine
end

