-- ==== Sys2Proof/Machine/Views.lean ====
section
/-! DEFINITION. What is read from the state: ports, schedules, the time and fabric views, and the summary
alarms of the blocks (R142, R175, R209, R233, R257). -/

namespace Sys2Proof.Machine

/-- Life-cycle state as DEV_STATUS encodes it (Table 2-19). -/
def LifeCycle.code : LifeCycle → Nat
  | .blank => 0 | .provisioned => 1 | .operational => 2 | .service => 3 | .retired => 4

/-- A port at reset: PORT_CFG and FPORT_CFG differ (Tables 5-7 and 5-8). -/
def portDefault (n : Nat) : Port := if n < 64 then {} else { cfg := 0 }

def State.port (s : State) (n : Nat) : Port := s.ports.get (portDefault n) n

def State.setPort (s : State) (n : Nat) (p : Port) : State := { s with ports := s.ports.set n p }

def Port.enabled (p : Port) : Bool := tst p.cfg.toNat 0

/-- The PORT part of the SW and PORT summary alarm (R175). -/
def State.portAlarm (s : State) : Bool :=
  (List.range 68).any (fun n =>
    let p := s.port n
    p.enabled && (p.laneFault || p.duplexFail || p.verify == .failed))

def State.tport (s : State) (n : Nat) : TtPort := s.tt.port.get {} n

def State.tchan (s : State) (k : Nat) : TtChan := s.tt.chan.get {} k

/-- Bank `b` of a unit; empty where nothing is loaded. -/
def State.ttBank (s : State) (u b : Nat) : List Byte := s.tt.bank.get [] (2 * u + b)

def State.ttActive (s : State) (u : Nat) : Nat := s.tt.active.get 0 u

/-- The schedule in force of a unit. -/
def State.sched (s : State) (u : Nat) : List Byte := s.ttBank u (s.ttActive u)

/-- The port has a TT.GATE schedule: the guardian guards it (R221). -/
def State.guarded (s : State) (n : Nat) : Bool := n < 64 && !(s.sched n).isEmpty

def State.selfRef (s : State) : Bool := tst (s.fld 0x0501 0 4 1 0) 0

/-- HOLDOVER has lasted no longer than holdover_max_s; no step was applied in the last 1 ms (R215). -/
def State.holdoverOk (s : State) : Bool := s.sys.mono ≤ s.time.holdAt + sec (s.fld 0x0501 0 2 2 0)
def State.stepClear (s : State) : Bool := s.tt.stepAt.all (fun t => decide (t + ms 1 ≤ s.sys.mono))

/-- Time is qualified (R215). -/
def State.qualified (s : State) : Bool :=
  s.time.st == .locked || (s.time.st == .holdover && s.holdoverOk) || (s.selfRef && s.stepClear)

/-- A channel runs TT.CAN (R225). -/
def State.ttCan (s : State) (k : Nat) : Bool := k < 16 && !(s.sched (0x80 + k)).isEmpty

/-- TT_CSTATk.state (Table 7-7). -/
def State.cstate (s : State) (k : Nat) : Nat :=
  if !s.ttCan k then 0
  else
    let c := s.tchan k
    if c.listen || c.ecc || s.tt.disagree || s.tt.guardFail then 3
    else if c.stopped then 2 else 1

/-- The TT summary alarm (R233). A port that only waits for qualified time counts after 120 s, by
its own clause. -/
def State.ttAlarm (s : State) : Bool :=
  (List.range 64).any (fun n => s.guarded n &&
    (let p := s.tport n; p.stopped || p.listen || p.ecc)) ||
  (List.range 16).any (fun k => s.ttCan k && (s.cstate k == 2 || s.cstate k == 3)) ||
  s.tt.ring || s.tt.disagree || s.tt.guardFail ||
  (s.tt.unqLong && !s.qualified && (List.range 64).any s.guarded)

def State.primary (s : State) : Nat := s.fld 0x0401 0 0 1 0

def State.secondary (s : State) : Nat := s.fld 0x0401 0 1 1 0

/-- The TIME summary alarm (R142). -/
def State.timeAlarm (s : State) : Bool :=
  let t := s.time
  t.st == .holdover || ((t.st == .freerun || t.st == .acquire) && t.late && s.primary != 0) ||
  t.onRefb || t.ppsBad || t.irigBad

/-- The switch-core part of the SW and PORT summary alarm (R209, R192). -/
def State.swDegraded (s : State) : Bool := (maskBits 5 s.sw.working.toNat).length == 3

def State.swAlarm (s : State) : Bool := s.sw.retired != 0 || s.swDegraded || s.sw.event.getLsbD 1

def State.fport (s : State) (n : Nat) : FabPort := s.fab.port.get {} n

/-- FAB.NODE is present; under factory defaults it is not (R242). -/
def State.fabNode (s : State) : Bool := (s.rec? 0x0601 0).isSome

/-- The port runs admission: FAB.PORT mode 1 with FAB.NODE present (R240, R242). -/
def State.fabMode (s : State) (n : Nat) : Bool := s.fabNode && s.fld 0x0603 n 0 1 0 == 1

def State.admitted (s : State) (n : Nat) : Bool := s.fabMode n && (s.fport n).st == .admitted

/-- FAB_PSTATn.state (Table 8-10). -/
def State.fabState (s : State) (n : Nat) : Nat :=
  if !(s.port (64 + n)).enabled then 0
  else if !s.fabMode n then 1
  else match (s.fport n).st with
    | .admitting => 2 | .admitted => 3 | .stranger => 4

/-- FAB_SSTATs.state: 0 unused, 1 dual, 2 single, 3 unreachable. -/
def State.streamState (s : State) (n : Nat) : Nat :=
  if (s.rec? 0x0604 n).isNone then 0
  else
    let r := s.fab.routes.get {} n
    if r.a.isEmpty then 3 else if r.b.isEmpty then 2 else 1

def State.fabDegraded (s : State) : Bool := (s.recsOf 0x0604).any (fun r => s.streamState r.inst == 2)

def State.fabUnreach (s : State) : Bool := (s.recsOf 0x0604).any (fun r => s.streamState r.inst == 3)

/-- The least elements of a list under a measure. -/
def leastBy {α : Type} (f : α → Nat × Nat) (l : List α) : List α :=
  l.foldl (fun acc x => match acc with
    | [] => [x]
    | y :: _ =>
      let a := f x
      let b := f y
      if a.1 < b.1 || (a.1 == b.1 && a.2 < b.2) then [x]
      else if a == b then acc ++ [x] else acc) []

/-- The reference's LSA: qualified, lowest priority below 255, then lowest address. -/
def State.timeRef (s : State) : Option Lsa :=
  (leastBy (fun (l : Lsa) => (l.prio.toNat, l.addr.toNat))
    (s.fab.db.filter (fun l => l.qual && l.prio != 255))).head?

def State.refAddr (s : State) : Nat := match s.timeRef with | some l => l.addr.toNat | none => 0

/-- TIME.SOURCE names Jabex. -/
def State.usesJabex (s : State) : Bool := s.primary == 3 || s.secondary == 3

/-- The FAB summary alarm (R257). -/
def State.fabAlarm (s : State) : Bool :=
  (List.range 4).any (fun n => s.fabState n == 4) || s.fab.conflict || s.fabDegraded || s.fabUnreach ||
  (s.usesJabex && s.refAddr == 0)

/-! ### CAN, Chive, REC, AGE and PNT summary alarms -/

/-- The PNT summary alarm (R288). -/
def State.pntAlarm (s : State) : Bool :=
  s.pnt.thrLong || s.pnt.event.getLsbD 5 || s.pnt.event.getLsbD 6

/-- busy_limit (Table 13-16). -/
def State.busyLimit (s : State) : Nat := s.fld 0x0B01 0 0x12 1 60

/-- An engine is fenced; an instance failed (Table 13-14). -/
def State.recDegraded (s : State) : Bool := s.rmy.clusters.any (fun p => p.2.fencedLo || p.2.fencedHi)
def State.recFailed (s : State) : Bool := s.engs.eng.any (fun p => p.2.status == 4)

/-- The REC summary alarm (R407). -/
def State.recAlarm (s : State) : Bool :=
  s.recDegraded || s.recFailed || s.rmy.event.getLsbD 4 || s.rmy.event.getLsbD 3 ||
  (s.rmy.event.getLsbD 2 && s.busyLimit ≤ 60) || s.rmy.dumpPresent || s.rmy.dumpLost != 0

def State.chan (s : State) (c : Nat) : CanChan := s.can.get {} c

/-- The mode of a channel: 0 disabled, 1 normal, 2 listen-only, 3 restricted (R419, R431). -/
def State.canMode (s : State) (c : Nat) : Nat := s.fld 0x0901 c 0 1 0

/-- Objects of channel `c` wait in a relay queue (R422). -/
def State.relayActive (s : State) (c : Nat) : Bool :=
  (List.range 16).any (fun d => (s.chan d).relay.any (fun r => r.chan == c))

def CanChan.warn (x : CanChan) : Bool := 96 ≤ x.tec || 96 ≤ x.rec_
def CanChan.passive (x : CanChan) : Bool := 128 ≤ x.tec || 128 ≤ x.rec_

/-- CANn_STATUS.alarm (R430). -/
def State.canAlarmOf (s : State) (c : Nat) : Bool :=
  let x := s.chan c
  s.canMode c != 0 && (x.busOff || x.passive || s.relayActive c || x.event.getLsbD 12 ||
    (x.event.getLsbD 6 && s.fld 0x0901 c 0x10 1 0 == 1))

def State.canAlarm (s : State) : Bool := (List.range 16).any s.canAlarmOf

/-- The CHIVE summary alarm (R451). -/
def State.chvAlarm (s : State) : Bool :=
  s.chv.eng.any (fun p => p.2.st == .faulted) || s.chv.event.getLsbD 1

/-- The AGE summary alarm (R470). -/
def State.ageAlarm (s : State) : Bool :=
  s.age.rail.any (fun p => p.2.frozen || p.2.ceiling) || s.age.event.toNat / 4 != 0

end Sys2Proof.Machine
end

