-- ==== Sys2Proof/Machine/PointOps.lean ====
section
/-! DEFINITION. The point engine's judgement of an update, the SOE ring, fan-out, windows and
deliveries (R259 to R282). -/

namespace Sys2Proof.Machine

/-! ### Records and profiles -/

/-- PNT.RANGE that holds point `p` (Table 9-17). -/
def State.pntRange (s : State) (p : Nat) : Option Rec :=
  (s.recsOf 0x0702).find? (fun r => rdLE r.body 0 4 ≤ p && p < rdLE r.body 0 4 + rdLE r.body 4 4)

/-- The record of a point that no update has changed: as initialised from its range (R260). -/
def State.initPoint (s : State) (p : Nat) : Point :=
  match s.pntRange p with
  | none => {}
  | some r => { quality := BitVec.ofNat 32 (rdLE r.body 12 4), typ := rdLE r.body 8 1,
                profile := rdLE r.body 9 1, hot := tst (rdLE r.body 10 1) 0 }

/-- The record of a point (Table 9-2). -/
def State.point (s : State) (p : Nat) : Point :=
  match s.pnt.points.find? p with
  | some r => r
  | none => s.initPoint p

def State.setPoint (s : State) (p : Nat) (r : Point) : State :=
  { s with pnt := { s.pnt with points := s.pnt.points.set p r } }

/-- A field of the PNT.FILTER profile; 0 for profile 0 and where a profile is absent (R269). -/
def State.filt (s : State) (prof off n : Nat) : Nat :=
  if prof = 0 then 0 else s.fld 0x0703 prof off n 0

/-- Value bits beyond the type's width (R261). -/
def normValue (typ : Nat) (v : DWord) : DWord :=
  match typ with
  | 1 => (v.setWidth 1).setWidth 64
  | 2 => (v.setWidth 2).setWidth 64
  | 3 => (v.setWidth 32).signExtend 64
  | 4 | 6 | 10 => (v.setWidth 32).setWidth 64
  | 9 => (v.setWidth 8).setWidth 64
  | _ => v

/-- The change test of Table 9-3; `db` is the profile's deadband field. -/
def valueChanged (typ : Nat) (new old : DWord) (db : Nat) : Bool :=
  match typ with
  | 3 | 5 => decide (toSigned 64 db < ((new.toInt - old.toInt).natAbs : Int))
  | 4 => decide ((db : Int) < (((new.toNat : Int) - old.toNat).natAbs : Int))
  | 6 => Flt.changed (.of32 new.toNat) (.of32 old.toNat) (.of64 db)
  | 7 => Flt.changed (.of64 new.toNat) (.of64 old.toNat) (.of64 db)
  | 8 => decide (db < (new - old).toNat)
  | 11 => true
  | _ => new != old

/-- Quality bits 13:0 (R262). -/
def qlow (q : Word) : Word := q &&& 0x3FFF

/-- A quality word as the engine stores it: bits 13:0 and acc from the source, src set (R262). -/
def storeQuality (q : Word) (src : Nat) : Word :=
  (q &&& 0xFF003FFF) ||| BitVec.ofNat 32 (src * 2 ^ 16)

/-! ### SOE ring (R273, R274) -/

def State.soeSize (s : State) : Nat := s.fld 0x0701 0 0 4 0

/-- The SOE ring is in use (R259, Table 9-13). -/
def State.soeOn (s : State) : Bool := s.pnt.enabled && s.soeSize != 0

/-- One SOE record appended; the ring always wraps (R274). -/
def State.soeAppend (s : State) (kind point : Nat) (stamp value : DWord) (q : Word) (source : Nat) :
    State :=
  if !s.soeOn then s
  else
    let p := s.pnt
    let n := s.soeSize
    let r : SoeRec := { stamp := stamp, value := value, point := point, kind := kind, quality := q,
                        source := BitVec.ofNat 32 source, count := p.soeWr.setWidth 32 }
    let full := tst (s.fld 0x0701 0 8 1 0) 0 && p.soeRd.toNat + n ≤ p.soeWr.toNat
    let wr := p.soeWr + 1
    let level := p.soeLevel ≠ 0 && (wr - p.soeRd).toNat = p.soeLevel
    { s with pnt := { p with
        soe := p.soe.set (p.soeWr.toNat % n) r, soeWr := wr,
        soeLost := if full then satInc p.soeLost else p.soeLost,
        event := p.event ||| (if full then 32 else 0) ||| (if level then 16 else 0) } }

/-- Field 0x18 of an SOE record: the source identity (Table 9-6). -/
def PntSrc.ident (f : PntSrc) : Nat := f.id + f.fab * 2 ^ 8

/-- An SOE record of kinds 0 to 5 under the point's profile: soe 1 writes kinds 0, 2, 4 and 5,
soe 2 every kind (R273). -/
def State.soeKind (s : State) (prof kind point : Nat) (stamp value : DWord) (q : Word) (f : PntSrc) :
    State :=
  let soe := s.filt prof 11 1
  if soe = 2 || (soe = 1 && (kind = 0 || kind = 2 || kind = 4 || kind = 5)) then
    s.soeAppend kind point stamp value q f.ident
  else s

/-- The time-step record (R132, Table 9-6 kind 6). -/
def State.soeStep (s : State) (step : Int) : State :=
  s.soeAppend 6 0 s.time.t (BitVec.ofInt 64 step) 0 0

/-! ### Queues and deliveries (R275 to R279) -/

/-- The engine of the instance that owns a context (Table 10-5). -/
def State.ctxOwner (s : State) (ctx : Nat) : Option Nat :=
  match (s.recsOf 0x0802).find? (fun r =>
    rdLE r.body 0 2 ≤ ctx && ctx < rdLE r.body 0 2 + rdLE r.body 2 2) with
  | some r => some (s.lead (rdLE r.body 4 1))
  | none => none

/-- The queue an entry's deliveries go to: 0 to 31 engines, 32 to 35 host, 64 + n streams. -/
def State.entryQueue (s : State) (e : SubEntry) : Option Nat :=
  match e.kind with
  | 0 => s.ctxOwner e.target
  | 1 => if s.pnt.hqDepth.get 0 e.target = 0 then none else some (32 + e.target)
  | 3 => some (64 + e.target)
  | _ => none

/-- Depth of a queue (Table 9-20); a stream's staging queue holds 256 (R276). -/
def State.queueDepth (s : State) (q : Nat) : Nat :=
  if q < 32 then s.fld 0x0705 q 4 2 0
  else if q < 64 then s.pnt.hqDepth.get 0 (q - 32)
  else 256

/-- Byte offset of an engine's subscriber queue in its bank (Table 9-20). -/
def State.sqOffset (s : State) (e : Nat) : Nat := s.fld 0x0705 e 0 4 0

/-- Entries written and not yet consumed (R277). -/
def State.queueUsed (s : State) (q : Nat) : Nat :=
  if q < 32 then
    (s.pnt.sqWr.get 0 q - BitVec.ofNat 32 (leNat (s.bankBytes q (s.sqOffset q + 4) 4))).toNat
  else if q < 64 then (s.pnt.hqWr.get 0 (q - 32) - s.pnt.hqRd.get 0 (q - 32)).toNat
  else (s.pnt.stage.get [] (q - 64)).length

/-- Write count minus read count equals depth (R278). -/
def State.queueFull (s : State) (q : Nat) : Bool := s.queueDepth q ≤ s.queueUsed q

/-- The queue is in the pending state: an entry of it is pending (R278). -/
def State.queuePending (s : State) (q : Nat) : Bool :=
  s.pnt.pend.any (fun i => match s.pnt.subs.find? i with
    | some e => s.entryQueue e == some q
    | none => false)

/-- Numbers kept in ascending order without repeats. -/
def insNat (n : Nat) : List Nat → List Nat
  | [] => [n]
  | m :: l => if n < m then n :: m :: l else if n = m then m :: l else m :: insNat n l

/-- A delivery that meets a full queue is coalesced: its pending bit, the counters and the event. One that
meets a queue which is pending, and not full, only sets its pending bit (R278). -/
def State.coalesce (s : State) (i q : Nat) : State :=
  let p := s.pnt
  let full := s.queueFull q
  { s with pnt := { p with
      pend := insNat i p.pend,
      coalesced := if full then satInc p.coalesced else p.coalesced,
      event := if full then p.event ||| 256 else p.event,
      sqFull := if full && q < 32 then p.sqFull.upd 0 q satInc else p.sqFull,
      hqFull := if full && 32 ≤ q && q < 64 then p.hqFull.upd 0 (q - 32) satInc else p.hqFull } }

/-- The 32 bytes of a delivery record (Table 9-9); `w` is the queue's write count. -/
def Delivery.bytes (d : Delivery) (w : Word) : List Byte :=
  leBytes 4 (d.point + bit d.coal * 2 ^ 23 + d.window * 2 ^ 25) ++ leBytes 4 d.quality.toNat ++
  leBytes 8 d.value.toNat ++ leBytes 8 d.stamp.toNat ++ leBytes 4 d.tag.toNat ++ leBytes 4 w.toNat

/-- throttle (R285). -/
def State.throttle (s : State) : Bool :=
  s.pnt.fifo.any (fun q => 32 ≤ q.2.length) || 4096 ≤ s.pnt.waiting.length

/-- The throttle latch brought up to date: each rise is counted (R285). -/
def State.pntSettle (s : State) : State :=
  let t := s.throttle
  { s with pnt := { s.pnt with
      throttled := t, thrLong := s.pnt.thrLong && t,
      throttleC := if t && !s.pnt.throttled then satInc s.pnt.throttleC else s.pnt.throttleC,
      event := if t && !s.pnt.throttled then s.pnt.event ||| 128 else s.pnt.event } }

/-- A delivery made for entry `i`: to the waiting list, the Chive output, or the stream's staging
queue (R276). -/
def State.deliver (s : State) (i : Nat) (e : SubEntry) (quality : Word) (value stamp : DWord)
    (window : Nat) (coal : Bool := false) : State :=
  if e.kind = 2 then
    { s with pnt := { s.pnt with outs := s.pnt.outs.set e.target value, delivs := satInc s.pnt.delivs } }
  else match s.entryQueue e with
  | none => s
  | some q =>
    let d : Delivery := { entry := i, queue := q, point := e.point, quality := quality, value := value,
                          stamp := stamp, tag := e.tag, window := window, coal := coal }
    if 64 ≤ q then
      if s.queuePending q || s.queueFull q then s.coalesce i q
      else { s with pnt := { s.pnt with stage := s.pnt.stage.upd [] (q - 64) (· ++ [{ d with at_ := s.sys.mono }]),
                                        delivs := satInc s.pnt.delivs } }
    else State.pntSettle { s with pnt := { s.pnt with waiting := s.pnt.waiting ++ [d] } }

/-! ### Reporting windows (R280 to R282) -/

/-- A window of instance `w`: its number, start and end in device time units. -/
structure Win where
  k     : Int
  start : Int
  stop  : Int

/-- The window of instance `w` that contains time `x` (R280). -/
def State.winOf (s : State) (w : Nat) (x : Int) : Option Win :=
  let src := s.fld 0x0706 w 0 1 0
  if src = 0 then
    let per : Int := (s.fld 0x0706 w 4 4 1000 * 4000 : Nat)
    let ph : Int := (s.fld 0x0706 w 8 4 0 * 4000 : Nat)
    let k := (x - ph) / per
    some { k := k, start := ph + k * per, stop := ph + (k + 1) * per }
  else
    let l := s.pnt.instants.get [] (src - 1)
    match (l.zip (l.drop 1)).find? (fun p => (p.1.2.toNat : Int) ≤ x && x < (p.2.2.toNat : Int)) with
    | some p => some { k := (p.1.1 : Nat), start := (p.1.2.toNat : Nat), stop := (p.2.2.toNat : Nat) }
    | none =>
      match l.getLast? with
      | some a => if (a.2.toNat : Int) ≤ x then
          some { k := (a.1 : Nat), start := (a.2.toNat : Nat), stop := (2 ^ 64 : Nat) } else none
      | none => none

/-- grace_us of a window in time units. -/
def State.winGrace (s : State) (w : Nat) : Int := (s.fld 0x0706 w 12 4 0 * 4000 : Nat)

/-- `s` lies within `a` of an edge of the window (R128). -/
def Win.edge (w : Win) (st : Int) (a : Nat) : Bool :=
  (st - w.start).natAbs ≤ a || (st - w.stop).natAbs ≤ a

/-- `st` lies within `a` of an edge of the windows of instance `w` (R128): of the window that contains it or,
before the first one, of an instant. -/
def State.nearEdge (s : State) (w : Nat) (st : Int) (a : Nat) : Bool :=
  match s.winOf w st with
  | some ws => ws.edge st a
  | none => (s.pnt.instants.get [] (s.fld 0x0706 w 0 1 0 - 1)).any (fun p => (st - (p.2.toNat : Int)).natAbs ≤ a)

/-- A change for a windowed entry put into its slot (R281). After a backward step of device time the window
that contains the moment may have closed: the lowest window not yet closed then takes its place (R282). -/
def State.slotFill (s : State) (i : Nat) (e : SubEntry) (quality : Word) (value stamp : DWord) : State :=
  let now : Int := (s.time.t.toNat : Nat)
  let st : Int := (stamp.toNat : Nat)
  let acc := (quality >>> 24).toNat
  match s.winOf e.window now with
  | none => s
  | some wp =>
    let kp := max wp.k (s.pnt.winNext.get wp.k e.window)
    let edge := s.nearEdge e.window st acc
    let put (s : State) (k : Int) (late : Bool) : State :=
      let q := quality ||| (if late then 0x8000 else 0) ||| (if edge then 0x4000 else 0)
      let key := e.slot * 2 + (k % 2).toNat
      { s with pnt := { s.pnt with
          slots := s.pnt.slots.set key { entry := i, k := k, quality := q, value := value, stamp := stamp },
          late := if late then satInc s.pnt.late else s.pnt.late } }
    match s.winOf e.window st with
    | none => put s kp (st < now)
    | some ws =>
      let closed := ws.stop + s.winGrace e.window ≤ now || ws.k < s.pnt.winNext.get ws.k e.window
      if closed then put s kp true
      else if ws.k ≤ kp then put s ws.k false
      else put s kp false

/-- Every window of instance `w` whose close lies at or before device time closes, in ascending k:
each filled slot is delivered once and emptied (R281, R282). -/
def State.windowClose (s : State) (w : Nat) : State :=
  let now : Int := (s.time.t.toNat : Nat)
  match s.winOf w (now - s.winGrace w) with
  | none => s
  | some cur =>
    let due := s.pnt.slots.filter (fun p =>
      (match s.pnt.subs.find? p.2.entry with
        | some e => e.window == w
        | none => false) && decide (p.2.k < cur.k))
    let due := due.mergeSort (fun a b => decide (a.2.k ≤ b.2.k))
    let s := { s with pnt := { s.pnt with
      slots := s.pnt.slots.filter (fun p => !(due.any (fun d => d.1 == p.1))),
      winNext := s.pnt.winNext.set w (max cur.k (s.pnt.winNext.get cur.k w)) } }
    due.foldl (fun s d =>
      match s.pnt.subs.find? d.2.entry with
      | some e => s.deliver d.2.entry e d.2.quality d.2.value d.2.stamp w
      | none => s) s

/-! ### Fan-out (R275) -/

/-- The point's list walked in order: a delivery for each entry whose trigger matches. -/
def State.fanOut (s : State) (p : Nat) (valChg qualChg : Bool) (quality : Word) (value stamp : DWord) :
    State :=
  let trig := bit valChg + 2 * bit qualChg
  (s.pnt.lists.get [] p).foldl (fun s i =>
    match s.pnt.subs.find? i with
    | some e =>
      if e.trigger &&& trig ≠ 0 then
        if e.window = 0 then s.deliver i e quality value stamp 0
        else s.slotFill i e quality value stamp
      else s
    | none => s) s

/-! ### Judgement (R269 to R272) -/

/-- Reply codes of Table 9-5. -/
inductive Reply where
  | change | noChange | held | suppressed | blocked | unused | stale
deriving DecidableEq, Repr

def Reply.code : Reply → Nat
  | .change => 0 | .noChange => 1 | .held => 2 | .suppressed => 3 | .blocked => 4 | .unused => 5
  | .stale => 6

/-- deliver_change: the record written, an SOE record of the kind, the fan-out (R269). -/
def State.deliverChange (s : State) (p : Nat) (valChg qualChg : Bool) (value : DWord) (q : Word)
    (stamp : DWord) (kind : Nat) (f : PntSrc) : State :=
  let r := s.point p
  let s := s.setPoint p { r with value := value, quality := q, stamp := stamp, postSub := false }
  let s := s.soeKind r.profile kind p stamp value q f
  let s := { s with pnt := { s.pnt with changes := satInc s.pnt.changes } }
  s.fanOut p valChg qualChg q value stamp

/-- A timer can be taken (65,536 in all, Table 9-1). -/
def State.timerFree (s : State) : Bool := s.pnt.timers.length < 65536

def State.timerFullEvent (s : State) : State :=
  { s with pnt := { s.pnt with timerFull := satInc s.pnt.timerFull, event := s.pnt.event ||| 64 } }

/-- The timers of a point: its held state at key 2p, its chatter release at 2p + 1. -/
def State.heldTimer (s : State) (p : Nat) : Option PTimer := s.pnt.timers.find? (2 * p)
def State.relTimer (s : State) (p : Nat) : Option PTimer := s.pnt.timers.find? (2 * p + 1)
def State.setTimer (s : State) (k : Nat) (t : PTimer) : State :=
  { s with pnt := { s.pnt with timers := s.pnt.timers.set k t } }
def State.delTimer (s : State) (k : Nat) : State :=
  { s with pnt := { s.pnt with timers := s.pnt.timers.del k } }

/-- The chatter block released: the rest value delivered with oscillatory clear and the acc of the update it
came from, from source 5, SOE kind 5; chatter_count becomes 0 (R262, R271). -/
def State.releaseChatter (s : State) (p : Nat) : State :=
  match s.relTimer p with
  | none => s
  | some t =>
    let r := s.point p
    let s := (s.delTimer (2 * p + 1)).setPoint p { r with blocked := false, chatCount := 0 }
    let q := storeQuality ((r.quality &&& 0x00FFFFDF) ||| (t.quality &&& 0xFF000000)) 5
    s.deliverChange p true true r.value q r.stamp 5 { src := 5 }

/-- A time interval in ms, in time units. -/
def msU (n : Nat) : DWord := BitVec.ofNat 64 (n * 4000000)

/-- A stamp lies at or beyond chatter_start + chatter_ms (R271). chatter_start holds 32 bits in units of
2^20 (Table 9-2), so its full time is the one of those that the record's stamp lies nearest to. -/
def chatterOpens (r : Point) (ms : Nat) (stamp : DWord) : Bool :=
  let last : Nat := r.stamp.toNat / 2 ^ 20
  let start : Int := (last : Int) - ((BitVec.ofNat 32 last) - r.chatStart).toInt
  decide (start + (ceilDiv (ms * 4000000) (2 ^ 20) : Nat) ≤ ((stamp.toNat / 2 ^ 20 : Nat) : Int))

/-- A blocked point's release timer keeps the quality of the update whose value waits (R262). -/
def State.keepAcc (s : State) (p : Nat) (q : Word) : State :=
  match s.relTimer p with
  | some t => s.setTimer (2 * p + 1) { t with quality := q }
  | none => s

/-- The SOE kind 2 of a held value's release that begins a block, whose delivery writes kind 4 (R270, R271). -/
def State.soeRelease (s : State) (kind : Nat) (prof : Nat) (u : Update) (q : Word) : State :=
  if kind = 2 then s.soeKind prof 2 u.point u.stamp u.value q u.from_ else s

/-- The chatter filter and the delivery (R271); called when the value or the quality changes. The
delivery's SOE record is of kind `kind`, of kind 4 where a block begins. -/
def State.chatter (s : State) (p : Nat) (u : Update) (valChg qualChg : Bool) (kind : Nat) : Reply × State :=
  let r := s.point p
  let n := s.filt r.profile 10 1
  let q := storeQuality u.quality u.from_.src
  if n = 0 then (.change, s.deliverChange p valChg qualChg u.value q u.stamp kind u.from_)
  else if r.blocked then
    if valChg then
      let s := s.setPoint p { r with value := u.value, stamp := u.stamp }
      let s := s.setTimer (2 * p + 1)
        { deadline := u.stamp + msU (s.filt r.profile 16 4), release := true, quality := u.quality }
      (.suppressed, s.soeKind r.profile 3 p u.stamp u.value q u.from_)
    else if (qlow q ||| 0x20) = (qlow r.quality ||| 0x20) then (.noChange, s)
    else (.change, (s.keepAcc p u.quality).deliverChange p false true u.value (q ||| 0x20) u.stamp kind u.from_)
  else if !valChg then (.change, s.deliverChange p false qualChg u.value q u.stamp kind u.from_)
  else
    let now := (u.stamp >>> 20).setWidth 32
    let open_ := r.chatCount = 0 || chatterOpens r (s.filt r.profile 12 2) u.stamp
    let cnt := if open_ then 1 else min 255 (r.chatCount + 1)
    let s := s.setPoint p { r with chatCount := cnt, chatStart := if open_ then now else r.chatStart }
    if cnt < n then (.change, s.deliverChange p true qualChg u.value q u.stamp kind u.from_)
    else if !s.timerFree then
      (.change, s.timerFullEvent.deliverChange p true qualChg u.value q u.stamp kind u.from_)
    else
      let s := { s with pnt := { s.pnt with chatter := satInc s.pnt.chatter } }
      let s := s.setTimer (2 * p + 1)
        { deadline := u.stamp + msU (s.filt r.profile 16 4), release := true, quality := u.quality }
      let s := (s.setPoint p { s.point p with blocked := true }).soeRelease kind r.profile u (q ||| 0x20)
      (.change, s.deliverChange p true true u.value (q ||| 0x20) u.stamp 4 u.from_)

/-- The held double-point state released: delivered as a change from source 5, SOE kind 2 (R270). It
counts as a change of value in the chatter filter (R271, Table 9-11 step 6). -/
def State.releaseHeld (s : State) (p : Nat) : State :=
  match s.heldTimer p with
  | none => s
  | some t =>
    let r := s.point p
    let s := (s.delTimer (2 * p)).setPoint p { r with held := false }
    (s.chatter p { point := p, value := t.value, quality := t.quality, stamp := t.stamp, from_ := { src := 5 } }
      (t.value != r.value) (qlow t.quality != qlow r.quality || r.postSub) 2).2

/-- An update judged after the double-point filter has had its say (R269). -/
def State.judgeRest (s : State) (p : Nat) (u : Update) : Reply × State :=
  let r := s.point p
  let valChg := valueChanged r.typ u.value r.value (s.filt r.profile 0 8)
  let qualChg := qlow u.quality != qlow r.quality || r.postSub
  if !valChg && !qualChg then (.noChange, s) else s.chatter p u valChg qualChg 0

/-- The double-point filter (R270). -/
def State.judgeDp (s : State) (p : Nat) (u : Update) : Reply × State :=
  let r := s.point p
  let hold := s.filt r.profile 8 2
  if hold = 0 then s.judgeRest p u
  else
    let s := match s.heldTimer p with
      | some t => if t.deadline ≤ u.stamp then s.releaseHeld p else s
      | none => s
    let r := s.point p
    if r.held then
      if u.value = 0 then
        let s := match s.heldTimer p with
          | some t => s.setTimer (2 * p) { t with quality := u.quality }
          | none => s
        (.noChange, s)
      else
        let s := (s.delTimer (2 * p)).setPoint p { r with held := false }
        match s.judgeRest p u with
        | (.noChange, s) =>
          (.suppressed, ({ s with pnt := { s.pnt with dpSupp := satInc s.pnt.dpSupp } }).soeKind
            r.profile 3 p u.stamp u.value (storeQuality u.quality u.from_.src) u.from_)
        | x => x
    else if u.value = 0 && r.value ≠ 0 then
      if s.timerFree then
        let s := s.setTimer (2 * p)
          { deadline := u.stamp + msU hold, release := false, quality := u.quality, stamp := u.stamp }
        let s := s.setPoint p { r with held := true }
        (.held, s.soeKind r.profile 1 p u.stamp 0 (storeQuality u.quality u.from_.src) u.from_)
      else s.timerFullEvent.judgeRest p u
    else s.judgeRest p u

/-- What the point engine adds to an update of a CAN channel or a Chive input at admission: acc of
Table 4-2, and clock_unq while time is not qualified (R262, R263). -/
def State.admitQuality (s : State) (u : Update) : Update :=
  if u.from_.src = 1 || u.from_.src = 2 then
    { u with quality := (u.quality &&& 0xFFFFFF) ||| BitVec.ofNat 32 ((if u.from_.src = 1 then 64 else 4) * 2 ^ 24)
                        ||| (if s.qualified then 0 else 0x2000) }
  else u

/-- The counts of an update admitted: the total, and those of the present and the last millisecond. Timer
expiries and substitutions are updates too (R284). -/
def State.countUpdate (s : State) : State :=
  let ms := s.time.t.toNat / 4000000
  let b := s.pnt
  { s with pnt := { b with
    updates := satInc b.updates, rateMs := ms,
    rateCur := if ms = b.rateMs then b.rateCur + 1 else 1,
    rateLast := if ms = b.rateMs then b.rateLast else if ms = b.rateMs + 1 then b.rateCur else 0 } }

/-- R269: an update judged against its point's record. -/
def State.judge (s : State) (u : Update) : Reply × State :=
  let u := s.admitQuality u
  let p := u.point
  let s := s.countUpdate
  let r := s.point p
  if !s.pnt.enabled || r.typ = 0 then
    (.unused, { s with pnt := { s.pnt with unused := satInc s.pnt.unused } })
  else if r.subst && u.from_.src ≠ 4 then
    (.blocked, { s with pnt := { s.pnt with blockedC := satInc s.pnt.blockedC } })
  else if tst (s.filt r.profile 20 1) 0 && u.stamp.toNat < r.stamp.toNat then
    (.stale, { s with pnt := { s.pnt with stale := satInc s.pnt.stale } })
  else
    let u := { u with value := normValue r.typ u.value }
    if r.typ = 11 || u.force then
      let q := storeQuality u.quality u.from_.src
      (.change, s.deliverChange p true (qlow q != qlow r.quality || r.postSub) u.value q u.stamp 0 u.from_)
    else if r.typ = 2 then s.judgeDp p u
    else s.judgeRest p u

/-- An operation of Sage enters its input FIFO; those beyond 64 wait in Sage behind it (R284). -/
def State.sageOp (s : State) (o : PntOp) : State :=
  State.pntSettle { s with pnt := { s.pnt with fifo := s.pnt.fifo.upd [] 35 (· ++ [o]) } }

/-- The instance state put to a status point by Sage (R299): source 4, stamped now. -/
def State.sagePut (s : State) (p : Nat) (v : Nat) : State :=
  s.sageOp (.upd { point := p, value := BitVec.ofNat 64 v, quality := 0, stamp := s.time.t, from_ := { src := 4 } })

/-- An operation enters a source's input FIFO of 64 (R284); false when it is full. -/
def State.pntPush (s : State) (src : Nat) (o : PntOp) : Bool × State :=
  let q := s.pnt.fifo.get [] src
  if 64 ≤ q.length then (false, s)
  else (true, State.pntSettle { s with pnt := { s.pnt with fifo := s.pnt.fifo.set src (q ++ [o]) } })

end Sys2Proof.Machine
end

