-- ==== Sys2Proof/Machine/Dram.lean ====
section
/-! DEFINITION. External DRAM as windows and views read it: the point engine's regions (Table 9-1)
shown in their layouts, every other address from the byte memory. -/

namespace Sys2Proof.Machine

/-- A point record in the layout of Table 9-2. -/
def State.pointBytes (s : State) (p : Nat) : List Byte :=
  let r := s.point p
  let l := s.pnt.lists.get [] p
  leBytes 8 r.value.toNat ++ leBytes 8 r.stamp.toNat ++ leBytes 4 r.quality.toNat ++
  leBytes 1 (r.typ + 16 * bit r.hot + 32 * bit r.subst + 64 * bit r.blocked + 128 * bit r.held) ++
  leBytes 1 r.profile ++ leBytes 1 r.chatCount ++ [0] ++
  leBytes 4 (l.headD 0xFFFFFF + l.length * 2 ^ 24) ++ leBytes 4 r.chatStart.toNat

/-- A point record taken back from its bytes; the list a point holds is not written this way. -/
def Point.ofBytes (r : Point) (b : List Byte) : Point :=
  let t := rdLE b 0x14 1
  { r with
    value := BitVec.ofNat 64 (rdLE b 0 8), stamp := BitVec.ofNat 64 (rdLE b 8 8),
    quality := BitVec.ofNat 32 (rdLE b 0x10 4), typ := t % 16, hot := tst t 4, subst := tst t 5,
    blocked := tst t 6, held := tst t 7, profile := rdLE b 0x15 1, chatCount := rdLE b 0x16 1,
    chatStart := BitVec.ofNat 32 (rdLE b 0x1C 4) }

/-- A subscription entry in the layout of Table 9-8; an unused entry reads 0. -/
def State.subBytes (s : State) (i : Nat) : List Byte :=
  match s.pnt.subs.find? i with
  | none => List.replicate 16 0
  | some e =>
    let next := ((s.pnt.lists.get [] e.point).dropWhile (· ≠ i)).getD 1 0xFFFFFF
    leBytes 4 next ++ leBytes 1 e.kind ++ leBytes 1 e.trigger ++ leBytes 2 e.target ++
    leBytes 4 e.tag.toNat ++ leBytes 1 e.window ++ [0] ++ leBytes 2 e.slot

/-- Eight pending bits as a byte (Table 9-1). -/
def State.pendByte (s : State) (a : Nat) : Byte :=
  BitVec.ofNat 8 (fields ((List.range 8).map (fun b => (bit (s.pnt.pend.contains (8 * a + b)), b))))

/-- An SOE record in the layout of Table 9-6. -/
def SoeRec.bytes (r : SoeRec) : List Byte :=
  leBytes 8 r.stamp.toNat ++ leBytes 8 r.value.toNat ++
  leBytes 4 (r.point + r.kind * 2 ^ 23) ++ leBytes 4 r.quality.toNat ++
  leBytes 4 r.source.toNat ++ leBytes 4 r.count.toNat

/-- The record at a place of the SOE ring. -/
def State.soeBytes (s : State) (j : Nat) : List Byte :=
  match s.pnt.soe.find? j with
  | some r => r.bytes
  | none => List.replicate 32 0

def SoeRec.ofBytes (b : List Byte) : SoeRec :=
  { stamp := BitVec.ofNat 64 (rdLE b 0 8), value := BitVec.ofNat 64 (rdLE b 8 8),
    point := rdLE b 0x10 4 % 2 ^ 23, kind := rdLE b 0x10 4 / 2 ^ 23,
    quality := BitVec.ofNat 32 (rdLE b 0x14 4), source := BitVec.ofNat 32 (rdLE b 0x18 4),
    count := BitVec.ofNat 32 (rdLE b 0x1C 4) }

/-- Where the SOE ring ends. -/
def State.soeEnd (s : State) : Nat := 0x20800000 + 32 * s.soeSize

/-- A DRAM byte. The layouts of the timer table and of the window slots are not stated: their
bytes are free values. -/
def State.dramByte (s : State) (a : Nat) : Byte :=
  if a < 0x10000000 then (s.pointBytes (a / 32)).getD (a % 32) 0
  else if a < 0x20000000 then (s.subBytes ((a - 0x10000000) / 16)).getD (a % 16) 0
  else if a < 0x20200000 then s.pendByte (a - 0x20000000)
  else if a < 0x20800000 then Free.byte s.sys.draws a
  else if a < s.soeEnd then (s.soeBytes ((a - 0x20800000) / 32)).getD (a % 32) 0
  else Mem.read 0 s.mem.dram a

/-- What stands on the DRAM devices for the 64-byte unit `u`: the contents of the unit, encrypted under the two
keys drawn at start-up with the unit's number, the physical address divided by 64, as tweak (R86). Every read
through the DRAM island decrypts it again, so the model's memory holds the contents; before start-up has drawn the
keys no unit holds any. -/
def State.dramUnit (s : State) (u : Nat) : Option (List Byte) :=
  s.sys.dramKey.map (fun k =>
    Free.sm4Xts (Free.key128 k.1) (Free.key128 k.2) u ((List.range 64).map (fun i => s.dramByte (64 * u + i))))

def State.dramBytes (s : State) (a n : Nat) : List Byte :=
  (List.range n).map (fun i => s.dramByte (a + i))

/-- A byte stored in DRAM: a point record or an SOE record takes it in its layout; the other
regions of the point engine are its own and keep their structure (log 30). -/
def State.dramPut (s : State) (a : Nat) (b : Byte) : State :=
  if a < 0x10000000 then
    s.setPoint (a / 32) ((s.point (a / 32)).ofBytes (splice (s.pointBytes (a / 32)) (a % 32) [b]))
  else if a < 0x20800000 then s
  else if a < s.soeEnd then
    let j := (a - 0x20800000) / 32
    let r := SoeRec.ofBytes (splice (s.soeBytes j) (a % 32) [b])
    { s with pnt := { s.pnt with soe := s.pnt.soe.set j r } }
  else { s with mem := { s.mem with dram := Mem.write 0 s.mem.dram a b } }

def State.dramStore (s : State) (a : Nat) (bs : List Byte) : State :=
  bs.zipIdx.foldl (fun s p => s.dramPut (a + p.2) p.1) s

/-! ### Windows (R112, R334, R349, R380) -/

/-- A window as an engine sees it. -/
structure Window where
  dram : Bool
  base : Nat
  size : Nat
  rw   : Bool

/-- The window an engine is granted under a number; 0xFE is its personality's table section. -/
def State.window? (s : State) (e n : Nat) : Option Window :=
  if n = 0xFE then
    match s.engs.placed.find? (fun p => p.eng == e) with
    | some p => if p.tableLen = 0 then none
                else some { dram := true, base := p.tableAt, size := p.tableLen, rw := false }
    | none => none
  else match s.rec? 0x0E02 n with
  | some r =>
    if tst (rdLE r.body 4 4) e then
      some { dram := rdLE r.body 0 1 = 1, base := rdLE r.body 8 4, size := rdLE r.body 12 4,
             rw := rdLE r.body 1 1 = 1 }
    else none
  | none => none

/-- Bytes read through a window. -/
def State.winRead (s : State) (w : Window) (off n : Nat) : List Byte :=
  if w.dram then s.dramBytes (w.base + off) n
  else Mem.readBytes 0 s.mem.svc (0x164000 + w.base + off) n

/-- Bytes written through a window. -/
def State.winWrite (s : State) (w : Window) (off : Nat) (bs : List Byte) : State :=
  if w.dram then s.dramStore (w.base + off) bs
  else { s with mem := { s.mem with svc := Mem.writeBytes 0 s.mem.svc (0x164000 + w.base + off) bs } }

/-- A window is volatile (R380); the spill ring is `spill` bytes long (R206). -/
def State.volatile (s : State) (w : Window) : Bool :=
  w.rw || (w.dram && (decide (w.base < s.soeEnd) ||
    (decide (w.base < 0x48800000 + s.fld 0x0301 0 6 2 0 * 2 ^ 20) && decide (0x48800000 < w.base + w.size))))

end Sys2Proof.Machine
end

