-- ==== Sys2Proof/Machine/Alarm.lean ====
section
/-! DEFINITION. The summary alarms and ALARM_N (R76). -/

namespace Sys2Proof.Machine

/-- The DEV summary alarm (R76). -/
def State.devAlarm (s : State) : Bool :=
  s.sys.refbBad || s.sys.cfgUnsigned || s.sys.dramFail || s.sys.kernelRom

/-- DEV_ALARM_SRC bits 9:0: the summary alarms, whatever alarm_enable holds (Table 18-7). -/
def State.alarmSrc (s : State) : Nat :=
  fields [(bit s.devAlarm, 0), (bit s.timeAlarm, 1), (bit s.ttAlarm, 2), (bit s.fabAlarm, 3),
    (bit s.pntAlarm, 4), (bit s.canAlarm, 5), (bit s.chvAlarm, 6), (bit s.recAlarm, 7),
    (bit s.ageAlarm, 8), (bit (s.portAlarm || s.swAlarm), 9)]

/-- A cause of ALARM_N holds (R76). -/
def State.alarmCause (s : State) : Bool :=
  s.sys.faultPin || s.sys.cfgDefault ||
  (s.alarmSrc &&& s.fld 0x0105 0 0 4 0x3FF) % 1024 != 0

/-- hold_ms of DEV.ALARM (Table 2-17). -/
def State.holdMs (s : State) : Nat := s.fld 0x0105 0 4 2 100

/-- ALARM_N brought up to date after a command: asserted with a cause, held hold_ms after its last
cause clears; DEV_EVENT.alarm on assertion (R76, Table 18-7). -/
def State.settle (s : State) : State :=
  let c := s.alarmCause
  let pin := c || (s.sys.alarmPin && s.holdMs != 0)
  { s with
    sys := { s.sys with
      alarmPin := pin
      alarmAt := if c then none else match s.sys.alarmAt with
        | some t => some t
        | none => if s.sys.alarmPin then some s.sys.mono else none },
    host := { s.host with devEvent :=
      if pin && !s.sys.alarmPin then s.host.devEvent ||| 1 else s.host.devEvent } }

/-- The outcome of a command that has its effect: the next state, ALARM_N settled. -/
def State.done (s : State) : Out := .next s.settle

end Sys2Proof.Machine
end

