-- ==== Sys2Proof/Machine/Mailbox.lean ====
section
/-! DEFINITION. Banks, ECC counters and the host side of the mailboxes (spec/12). -/

namespace Sys2Proof.Machine

/-- ECC_CORRECTABLE: corrected data, the word rewritten, counted (R355). -/
def execEccCorrectable (m : Fin 38) (s : State) : Out :=
  .next { s with mbx := { s.mbx with
    eccCorr := s.mbx.eccCorr.upd 0 m satInc, event := s.mbx.event ||| 2 } }

/-- SCRUB_LATE (R356). -/
def execScrubLate (s : State) : Out :=
  .next { s with mbx := { s.mbx with
    scrubLate := satInc s.mbx.scrubLate, event := s.mbx.event ||| 8 } }

/-- BANK_STARVE: a request has waited `cycles` for an idle cycle of bank `n`; from 2,048 on it is
counted once; MBX_WAITn keeps the longest wait (R352). -/
def execBankStarve (n : Fin 32) (cycles : Word) (s : State) : Out :=
  let w := s.mbx.wait.get 0 n
  let s := { s with mbx := { s.mbx with
    wait := if w.toNat < cycles.toNat then s.mbx.wait.set n cycles else s.mbx.wait } }
  if 2048 ≤ cycles.toNat then
    .next { s with mbx := { s.mbx with
      starve := s.mbx.starve.upd 0 n satInc, event := s.mbx.event ||| 1 } }
  else .next s

/-! ### The host as master 32 (R359 to R364) -/

/-- The queue a master posts into: true to_home (R358). `none`: the mailbox is not granted to it. -/
def Mbox.outQ (m : Mbox) (id : Nat) : Option Bool :=
  if m.home.toNat = id then some false else if tst m.far.toNat id then some true else none

/-- The queue a master reads (R358). -/
def Mbox.inQ (m : Mbox) (id : Nat) : Option Bool :=
  if m.home.toNat = id then some true else if m.farReader.toNat = id then some false else none

/-- The mailbox is granted to a master in any part (R359). -/
def Mbox.granted (m : Mbox) (id : Nat) : Bool := (m.outQ id).isSome || (m.inQ id).isSome

/-- A mailbox act that has left the outbox meets a full queue: its word waits at the head of its engine's outbox,
and the engine's later outputs behind it (R360). -/
def State.mbStuck (s : State) (p : Nat × Output) : Bool :=
  match p.2 with
  | .post n _ =>
    match (s.mb n).outQ p.1 with
    | none => false
    | some home => !s.mbRoom n home 1 && !s.readerDown ((s.mb n).reader home)
  | _ => false

/-- A host write outside its grant (R359): refused by Sage on a Sage mailbox, else counted. -/
def State.hostRefusedWrite (s : State) (n : Nat) : State :=
  if 56 ≤ n then s.countRefused
  else
    let m := s.mb n
    s.setMb n { m with refused := satInc m.refused }

/-- A host write of MBn_TX (R360). -/
def State.hostPost (s : State) (n : Nat) (w : Word) : State :=
  match (s.mb n).outQ 32 with
  | none => s.hostRefusedWrite n
  | some home =>
    if s.mbRoom n home 1 then s.mbPost n home 32 w
    else
      let m := s.mb n
      s.setMb n { m with ovf := satInc m.ovf, event := m.event ||| 8 }

/-- MBN_TX_WRITE. -/
def execMbnTxWrite (n : Fin 64) (w : Word) (s : State) : Out :=
  if s.sys.up then (s.hostPost n w).done else .next s

/-- A host write of 1 to MBn_CTRL.pop (R361, Table 12-10); no effect when empty. -/
def State.hostPop (s : State) (n : Nat) : State :=
  match (s.mb n).inQ 32 with
  | none => s.hostRefusedWrite n
  | some home => (s.mbTake n home).2

/-- MBN_POP. -/
def execMbnPop (n : Fin 64) (s : State) : Out :=
  if s.sys.up then (s.hostPop n).done else .next s

/-- A host read of MBn_LOCK: the value and the state (R363, R359). -/
def State.hostLockRead (s : State) (n : Nat) : Nat × State :=
  if (s.mb n).granted 32 then s.lockRead n 32
  else
    let m := s.mb n
    (0, s.setMb n { m with refused := satInc m.refused })

/-- MBN_LOCK_READ: the value goes to the host. -/
def execMbnLockRead (n : Fin 64) (s : State) : Out :=
  if s.sys.up then
    let r := s.hostLockRead n
    .next { r.2 with host := { r.2.host with readData := leBytes 4 r.1 } }
  else .next { s with host := { s.host with readData := leBytes 4 0 } }

/-- A host write of 1 to MBn_LOCK bit 0 (R364). -/
def State.hostLockRelease (s : State) (n : Nat) : State :=
  if (s.mb n).granted 32 then s.lockRelease n 32 else s.hostRefusedWrite n

/-- MBN_LOCK_RELEASE. -/
def execMbnLockRelease (n : Fin 64) (s : State) : Out :=
  if s.sys.up then (s.hostLockRelease n).done else .next s

/-- HOST_RESET: master 32 reset on every mailbox (R368 to R370). -/
def execHostReset (s : State) : Out :=
  if s.sys.up then (s.resetMaster 32).done else .next s

/-- MAILBOX_LOCK_BREAK: a lock of MB58 to MB61 held for 1 ms is released by Sage (R366). -/
def execMailboxLockBreak (n : Fin 64) (s : State) : Out :=
  if s.running && 58 ≤ n.val && n.val ≤ 61 && (s.mb n).lock.isSome &&
      (s.mb n).lockAt + ms 1 ≤ s.sys.mono then
    ((s.breakLock n).countRefused).done
  else .next s

end Sys2Proof.Machine
end

