-- ==== Sys2Proof/Machine/EngineOps.lean ====
section
/-! DEFINITION. What every Polnil instruction shares: registers, conditions, the end test of loops,
traps, retirement, the presentation of journaled inputs in replay, and issue (R314 to R346). -/

namespace Sys2Proof.Machine

/-! ### Registers and predicates -/

/-- w0 reads 0 (R314). -/
def EngCore.r (c : EngCore) (i : Nat) : Nat := if i = 0 then 0 else (c.w.get 0 i).toNat

/-- A register written modulo 2^32; writes to w0 are discarded (R314). -/
def EngCore.setR (c : EngCore) (i v : Nat) : EngCore :=
  if i = 0 then c else { c with w := c.w.set i (BitVec.ofNat 32 v) }

/-- p0 reads true (R315). -/
def EngCore.p (c : EngCore) (k : Nat) : Bool := k = 0 || tst c.pr.toNat k

/-- A predicate written; writes to p0 are discarded (R315). -/
def EngCore.setP (c : EngCore) (k : Nat) (v : Bool) : EngCore :=
  if k = 0 then c
  else { c with pr := (c.pr &&& ~~~ BitVec.ofNat 8 (2 ^ k)) ||| BitVec.ofNat 8 (bit v * 2 ^ k) }

/-- The condition of bits 31:28 holds (R316). -/
def EngCore.cond (c : EngCore) (w : Nat) : Bool := c.p (bits w 30 28) != tst w 31

/-- An `n`-bit field as a signed number, modulo 2^32. -/
def sext (n x : Nat) : Nat := ofSigned 32 (toSigned n x)

/-! ### Pending interrupts (Table 11-11) -/

/-- ipend: the edge bits and RXQ as held, INSTANT and OPDONE by level. -/
def EngCore.ipendNow (c : EngCore) : Nat :=
  (c.ipend ||| BitVec.ofNat 32 (bit (!c.insts.isEmpty) + 4 * bit (c.opdone != 0))).toNat

/-- Interrupts pending and enabled. -/
def EngCore.pendEn (c : EngCore) : Nat := c.ipendNow &&& c.ien.toNat

/-! ### Loops (R324 to R326) -/

/-- Level 0 ends: level 1 moves to level 0 and ldepth decreases (R326). -/
def Loops.pop (l : Loops) : Loops :=
  { l with lc0 := l.lc1, ls0 := l.ls1, le0 := l.le1, depth := l.depth - 1 }

/-- The end test at address `a`: the loop state after it and, where a block repeats, the address
it continues at (R326). -/
def endTest : Nat → Loops → Nat → Loops × Option Nat
  | 0, l, _ => (l, none)
  | f + 1, l, a =>
    if l.depth ≠ 0 && l.le0.toNat == a then
      if 1 < l.lc0.toNat then ({ l with lc0 := l.lc0 - 1 }, some l.ls0.toNat)
      else endTest f l.pop a
    else (l, none)

/-! ### Who executes -/

/-- The recovery position of an engine has not been reached (R386 step 5). -/
def State.beforeDet (s : State) (e : Nat) : Bool :=
  let c := s.cl (e / 2)
  (s.core e).ret.toNat < (if e % 2 = 1 then c.detHi else c.detLo).toNat

/-- Undo lines that an epoch of cluster `k` may log for an engine (R383). -/
def State.undoLimit (s : State) (k : Nat) : Nat := if s.twin k then 1536 else 768

/-- The running epoch of cluster `k` can take `j` more journal bytes and `u` more undo lines of an engine (R379,
R383). -/
def State.epochRoom (s : State) (k j u : Nat) : Bool :=
  let c := s.cl k
  (c.jCur.map JEntry.size).foldl (· + ·) j ≤ 32768 &&
  [2 * k, 2 * k + 1].all (fun e => (c.undoCur.filter (fun l => l.eng == e)).length + u ≤ s.undoLimit k)

/-- Outputs of the running epoch in the outbox. -/
def Cluster.epochOuts (c : Cluster) : Nat := (c.outbox.filter (fun o => o.epoch == c.epoch)).length

/-- In COMMIT release an epoch takes 128 outbox entries (R378, R391). -/
def State.outShare (s : State) (k : Nat) : Bool := !s.commitRel k || decide ((s.cl k).epochOuts < 128)

/-- A limit of the running epoch would be exceeded by what may come next, at most the 8,192 B of a volatile read
DMA, the lines that the 65,536 B of a read DMA touch, or one output (R378; DESIGN CHOICE, log 159). -/
def State.epochTight (s : State) (k : Nat) : Bool := !s.epochRoom k 8208 1025 || !s.outShare k

/-- The engine retires instructions now: running, its cluster neither stopped nor restoring, a
replay not past the count of the fault (R301, R302, R342, R347, R386, R389), and its epoch can log what one
instruction reads and writes, one entry and the lines of a REP.A (R378). -/
def State.canExec (s : State) (e : Nat) : Bool :=
  s.running && e == s.lead e && ((s.eng e).st == .running || (s.eng e).st == .wait) &&
  (if s.recovering e then s.replaying e && s.beforeDet e else s.epochRoom (e / 2) 16 6)

/-! ### Replay (R386 step 4, R387) -/

/-- Kinds of entry that an instruction takes itself (Table 13-3). -/
def JEntry.taken (j : JEntry) : Bool := j.kind == 0x08 || j.kind == 0x09

/-- The next entry of engine `e`, if it stands first among that engine's entries. -/
def State.nextEntry (s : State) (e : Nat) : Option JEntry :=
  (s.cl (e / 2)).replayJ.find? (fun j => j.eng == e)

def State.dropEntry (s : State) (e : Nat) : State :=
  let c := s.cl (e / 2)
  match takeFirst (fun j => j.eng == e) c.replayJ with
  | some p => s.setCl (e / 2) { c with replayJ := p.2 }
  | none => s

/-- A read DMA from a stable window is read again; data that differ are fatal (R380). -/
def State.presentOne (s : State) (j : JEntry) : State :=
  if j.kind = 0x06 then
    match (s.core j.eng).ops.find? j.tag with
    | some o =>
      match s.window? j.eng (rdLE o.desc 0 1) with
      | some w =>
        let d := s.winRead w (rdLE o.desc 4 4) (rdLE o.desc 12 4)
        if crc32c d = BitVec.ofNat 32 (j.inline / 2 ^ 32) then
          s.applyInput { j with writes := (rdLE o.desc 8 4, d) :: j.writes }
        else s.fatal 0x03 (30 + j.eng / 2) 10 j.eng
      | none => s.applyInput j
    | none => s.applyInput j
  else s.applyInput j

/-- Every journaled input due at the engine's count is presented, in the order in which it became
visible. -/
def State.present (s : State) (e : Nat) : Nat → State
  | 0 => s
  | f + 1 =>
    if s.replaying e then
      match s.nextEntry e with
      | some j =>
        if j.count ≤ (s.core e).ret.toNat && !j.taken then ((s.dropEntry e).presentOne j).present e f
        else s
      | none => s
    else s

/-- All inputs due at the present count. -/
def State.presentAll (s : State) (e : Nat) : State := s.present e (s.cl (e / 2)).replayJ.length

/-- A value the engine reads at once: journaled when first read, taken from the journal in replay
(R126, R344). -/
def State.readInput (s : State) (e kind : Nat) (live : State → Nat × State) : Nat × State :=
  if s.replaying e then
    match s.nextEntry e with
    | some j => if j.kind = kind then (j.inline, s.dropEntry e) else (0, s)
    | none => (0, s)
  else
    let (v, s) := live s
    (v, s.journal { eng := e, kind := kind, inline := v })

/-! ### Grants (R265) -/

/-- An engine of the cluster runs, so that the cluster runs epochs (R265). -/
def State.clusterRuns (s : State) (k : Nat) : Bool :=
  [2 * k, 2 * k + 1].any (fun e => (s.eng e).st == .running || (s.eng e).st == .wait)

/-- Grant requests whose last running cluster has passed its epoch start are answered (R265). -/
def State.grantSettle (s : State) : State :=
  let l := s.pnt.grantReq.map (fun r => (r.1, r.2.1, r.2.2.1, r.2.2.2.filter s.clusterRuns))
  let s := { s with pnt := { s.pnt with grantReq := l.filter (fun r => !r.2.2.2.isEmpty) } }
  (l.filter (fun r => r.2.2.2.isEmpty)).foldl (fun s r => s.final r.1 r.2.1 r.2.2.1 0 []) s

/-! ### Retirement (R343) -/

/-- The instruction at pc retires; `next` is where it goes when it jumps, else the end test
applies. A requested debug halt takes effect here (R347), so that no grant
change waits for the cluster (R265), and the twin pair's signature goes on (R312). -/
def State.retire (s : State) (e : Nat) (next : Option Nat) : State :=
  let g := s.eng e
  let c := g.core
  let a := c.pc.toNat
  let (l, t) := match next with
    | some t => (c.loops, t)
    | none =>
      let (l, r) := endTest 3 c.loops a
      (l, r.getD (a + 4))
  let halts := g.haltReq || g.stepReq
  let s := s.setEng e { g with
    core := { c with loops := l, pc := BitVec.ofNat 32 t, ret := c.ret + 1 }
    lastPc := c.pc, stalled := false
    sig := if s.twin (e / 2) then Free.fold g.sig c.pc c.w s.mem.bank else g.sig
    st := if halts then .dbgHalt else if g.st == .wait then .running else g.st
    haltReq := false, stepReq := false, haltAt := if halts then s.sys.mono else g.haltAt }
  if halts then s.grantSettle else s

/-- WAIT ends once an enabled interrupt is pending: it retires (R336). -/
def State.wake (s : State) (e : Nat) : State :=
  if (s.eng e).st == .wait && (s.core e).pendEn != 0 then s.retire e none else s

/-! ### Traps (R340 to R342) -/

/-- Where epc points: the REP prefix of a governed string instruction, else pc (R328, R340). -/
def EngCore.epcAt (c : EngCore) : Word := if c.rep.isSome then c.pc - 4 else c.pc

/-- Entry of a trap or interrupt (R340 steps 1 to 4). -/
def EngCore.enter (c : EngCore) (cause inst addr : Nat) : EngCore :=
  { c with
    epc := c.epcAt, epr := c.pr, eloops := c.loops, loops := { c.loops with depth := 0 },
    gie := false, exc := true, ecause := BitVec.ofNat 32 cause, einst := BitVec.ofNat 32 inst,
    eaddr := BitVec.ofNat 32 addr, rep := none,
    pc := c.tvec + BitVec.ofNat 32 (32 * cause) }

/-- The outbox entries of an engine discarded (R301 step 1, R302). -/
def State.dropOutbox (s : State) (e : Nat) : State :=
  let c := s.cl (e / 2)
  s.setCl (e / 2) { c with outbox := c.outbox.filter (fun o => o.eng != e) }

/-- The instance state of an engine, written to its status point by Sage (R299). -/
def State.statusPoint (s : State) (e v : Nat) : State :=
  let p := s.fld 0x0801 e 4 4 0xFFFFFFFF
  let s := s.setEng e { s.eng e with status := v }
  if p = 0xFFFFFFFF then s else s.sagePut p v

/-- A double trap: the engine halts and is treated as a stopped instance (R342, R368). -/
def State.doubleTrap (s : State) (e : Nat) : State :=
  let s := s.setEng e { s.eng e with st := .trapHalt }
  let s := s.dropOutbox e
  let s := s.resetMaster e
  (s.statusPoint e 4).grantSettle

/-- A trap: recorded in the ENG registers, then entered, or the halt of a double trap. Counters
outside the engine are not advanced again in replay (log 31). -/
def State.trap (s : State) (e cause inst addr : Nat) : State :=
  let live := !s.replaying e
  let g := s.eng e
  let g := { g with lastCause := BitVec.ofNat 8 cause, lastEpc := g.core.epcAt,
                    lastAddr := BitVec.ofNat 32 addr }
  let g := if live then { g with traps := satInc g.traps,
                                 emul := if cause = 2 then satInc g.emul else g.emul,
                                 accViol := if cause = 3 then satInc g.accViol else g.accViol } else g
  let s := s.setEng e g
  let s := if live && cause == 3 then s.countViol else s
  if g.core.exc then s.doubleTrap e
  else s.setCore e (g.core.enter cause inst addr)

/-! ### Issue (R316, R317, R319, R320) -/

/-- Causes of Table 11-11. -/
abbrev cILLEGAL := 1
abbrev cEMUL := 2
abbrev cACCESS := 3
abbrev cMISALIGN := 4
abbrev cLOOPERR := 5
abbrev cREPCNT := 6
abbrev cOPFULL := 7
abbrev cBREAK := 8

/-- End of an engine's address space (R317). -/
abbrev bankEnd := 0x60000

/-- What an instruction does once its condition holds. -/
inductive Eff where
  /-- It retires; the end test applies. -/
  | go (s : State)
  /-- It retires and continues at an address, without end test. -/
  | jump (s : State) (t : Nat)
  /-- It traps: cause and eaddr. -/
  | trap (s : State) (cause addr : Nat)
  /-- It waits; nothing has retired. -/
  | stall (s : State)

/-- A row of the opcode map: the major opcode, the words of the row within the major, the reserved
selectors of the major, the words with a field that must be zero or is out of range, and the words
that are ILLEGAL in the engine's present state: every ILLEGAL comes before the condition (R316). -/
structure Row where
  major : Nat
  is    : Nat → Bool := fun _ => true
  rsv   : Nat → Bool := fun _ => false
  bad   : Nat → Bool := fun _ => false
  badIn : EngCore → Nat → Bool := fun _ _ => false

/-- The state an instruction's outcome leads to. -/
def Eff.state (e w : Nat) : Eff → State
  | .go t => t.retire e none
  | .jump t a => t.retire e (some a)
  | .trap t cause addr => t.trap e cause (if cause = 1 || cause = 2 || cause = 8 then w else 0) addr
  | .stall t => t

/-- An instruction issued: the fetch checks, ILLEGAL at decode, the condition, then `f`. A word of
another row is not this instruction and has no effect; nor has an instruction of an engine that does
not execute (log 32). -/
def State.issue (s : State) (i : Issue) (row : Row) (f : State → Nat → Nat → Eff) : State :=
  let e := i.eng.val
  let w := i.word.toNat
  if !s.canExec e then s
  else
    let s := (s.presentAll e).wake e
    let g := s.eng e
    let pc := g.core.pc.toNat
    if !(g.st == .running) then s
    else if bankEnd ≤ pc then s.trap e cACCESS 0 pc
    else if pc % 4 ≠ 0 then s.trap e cMISALIGN 0 pc
    else if bits w 27 22 ≠ row.major then s
    else if row.rsv w then s.trap e cILLEGAL w 0
    else if !row.is w then s
    else if bits w 31 28 = 8 || row.bad w || row.badIn g.core w then s.trap e cILLEGAL w 0
    else if !g.core.cond w then
      (s.setCore e { g.core with rep := none }).retire e none
    else (f s e w).state e w

/-- The outcome of an instruction command. -/
def State.instr (s : State) (i : Issue) (row : Row) (f : State → Nat → Nat → Eff) : Out :=
  (s.issue i row f).done

/-! ### Fields (Table 11-1) -/

abbrev fRd (w : Nat) : Nat := bits w 21 17
abbrev fRs1 (w : Nat) : Nat := bits w 16 12
abbrev fRs2 (w : Nat) : Nat := bits w 11 7
abbrev fFn (w : Nat) : Nat := bits w 6 0
abbrev fImm12 (w : Nat) : Nat := bits w 11 0

/-- The result written to rd, nothing else. -/
def State.putR (s : State) (e rd v : Nat) : Eff := .go (s.setCore e ((s.core e).setR rd v))

end Sys2Proof.Machine
end

