-- ==== Sys2Proof/Machine/Point.lean ====
section
/-! DEFINITION. The point engine's commands: class 0x8 requests, updates and reads at the FIFO heads,
timers, windows and the writing of deliveries (R265 to R288). -/

namespace Sys2Proof.Machine

/-! ### Class 0x8 requests (Table 9-10) -/

/-- A class 0x8 request: 0x15 while the point engine is disabled (R287). -/
def State.pntServe (s : State) (q : Req) (code words : Nat) (f : State → State ⊕ Nat) : State :=
  s.serve q code words (fun s => if s.pnt.enabled then f s else .inr 0x15)

/-- A grant change waits for the epoch starts of the running clusters (R265); DONE follows. -/
def State.grantWait (s : State) (q : Req) (code : Nat) : State :=
  let fl : Flight := { src := q.src.val, code := code, tag := q.tag }
  let r := (q.src.val, code, q.tag, (List.range 16).filter s.clusterRuns)
  let s : State := { s with sage := { s.sage with flights := s.sage.flights ++ [fl] },
                            pnt := { s.pnt with grantReq := s.pnt.grantReq ++ [r] } }
  s.grantSettle

/-- A PNT.GRANT body within Table 9-19. -/
def grantOk (b : List Byte) : Bool :=
  rdLE b 4 4 < 2 ^ 23 && 1 ≤ rdLE b 8 4 && rdLE b 4 4 + rdLE b 8 4 ≤ 2 ^ 23 &&
  1 ≤ rdLE b 12 1 && rdLE b 12 1 ≤ 3 && rdLE b 13 3 == 0

/-- A PNT.GRANT body as a grant. -/
def PGrant.ofBytes (b : List Byte) : PGrant :=
  { engines := rdLE b 0 4, base := rdLE b 4 4, count := rdLE b 8 4, rights := rdLE b 12 1 }

/-- POINT_GRANT_SET (0x801). -/
def execPointGrantSet (q : Req) (s : State) : Out :=
  if s.running then
    (s.pntServe q 0x801 3 (fun s =>
      let b := s.bulkRead q.src.val (q.word 2) (q.word 3)
      if 1023 < q.word 1 || q.word 3 ≠ 16 || !bulkOk q.src.val (q.word 2) (q.word 3) || !grantOk b then
        .inr 0x12
      else .inl (State.grantWait { s with pnt := { s.pnt with
        grants := s.pnt.grants.set (q.word 1) (.ofBytes b) } } q 0x801))).done
  else .next s

/-- POINT_GRANT_REMOVE (0x802). -/
def execPointGrantRemove (q : Req) (s : State) : Out :=
  if s.running then
    (s.pntServe q 0x802 1 (fun s =>
      if (s.pnt.grants.find? (q.word 1)).isNone then .inr 0x12
      else .inl (State.grantWait { s with pnt := { s.pnt with
        grants := s.pnt.grants.del (q.word 1) } } q 0x802))).done
  else .next s

/-- A point of type 0, or no point. -/
def State.unusedPoint (s : State) (p : Nat) : Bool := 2 ^ 23 ≤ p || (s.point p).typ == 0

/-- The point an operation is about. -/
def PntOp.point : PntOp → Nat
  | .upd u => u.point
  | .get _ _ p => p
  | .subst p _ _ _ _ => p

/-- The record of a point can be reached: with a DRAM island failure under retraining, points outside the hot
cache wait (R283, Table 1-3). -/
def State.pointReady (s : State) (p : Nat) : Bool := s.rmy.dramFailAt.isNone || (s.point p).hot

/-- A substitution applied: value and quality written with substituted set, stamped now, SOE kind 7,
delivered as a change from source 4 (R272). It is an update (R284). -/
def State.substitute (s : State) (p : Nat) (v : DWord) (q : Word) : State :=
  let s := s.countUpdate
  let r := s.point p
  let q := storeQuality ((q &&& 0x3FFF) ||| 0x400) 4
  let v := normValue r.typ v
  let s := s.setPoint p { r with value := v, quality := q, stamp := s.time.t, subst := true,
                                 postSub := false }
  let s := s.soeAppend 7 p s.time.t v q 0
  let s := { s with pnt := { s.pnt with changes := satInc s.pnt.changes } }
  s.fanOut p true (qlow q != qlow r.quality) q v s.time.t

/-- POINT_SUBSTITUTE (0x803): the substitution enters Sage's FIFO of the point engine; DONE follows when it has
been applied (R272, R284). -/
def execPointSubstitute (q : Req) (s : State) : Out :=
  if s.running then
    (s.pntServe q 0x803 4 (fun s =>
      if s.unusedPoint (q.word 1) then .inr 0x12
      else .inl ((s.hold q 0x803).sageOp (.subst (q.word 1) (BitVec.ofNat 64 (q.word 2 + q.word 3 * 2 ^ 32))
        (BitVec.ofNat 32 (q.word 4)) q.src.val q.tag)))).done
  else .next s

/-- The end of a substitution: SOE kind 7 with the value unchanged; the next accepted update counts
as a change of quality (R272). -/
def State.substEnd (s : State) (p : Nat) : State :=
  let r := s.point p
  (s.setPoint p { r with subst := false, postSub := true }).soeAppend 7 p s.time.t r.value r.quality 0

/-- Nothing of Sage's for the point waits in its FIFO, and the record can be reached (R283, R284). -/
def State.sageFree (s : State) (p : Nat) : Bool :=
  s.pointReady p && !(s.pnt.fifo.get [] 35).any (fun o => o.point == p)

/-- POINT_SUBSTITUTE_END (0x804): it waits behind what Sage has still to put to the same point, and while the
record cannot be reached. -/
def execPointSubstituteEnd (q : Req) (s : State) : Out :=
  if s.running && (!s.pnt.enabled || s.sageFree (q.word 1)) then
    (s.pntServe q 0x804 1 (fun s =>
      if 2 ^ 23 ≤ q.word 1 || !(s.point (q.word 1)).subst then .inr 0x12
      else .inl ((s.substEnd (q.word 1)).finish q 0x804))).done
  else .next s

/-- An entry in the PNT.SUB layout (Table 9-22). -/
def SubEntry.ofBytes (b : List Byte) : SubEntry :=
  { point := rdLE b 0 4, kind := rdLE b 4 1, trigger := rdLE b 5 1, target := rdLE b 6 2,
    tag := BitVec.ofNat 32 (rdLE b 8 4), window := rdLE b 12 1, slot := rdLE b 14 2 }

/-- `n` items of `k` bytes. -/
def chunks (k : Nat) (b : List Byte) : Nat → List (List Byte)
  | 0 => []
  | n + 1 => b.take k :: chunks k (b.drop k) n

/-- An entry within the ranges of Table 9-22 (R289). -/
def State.subOk (s : State) (b : List Byte) : Bool :=
  let e := SubEntry.ofBytes b
  !s.unusedPoint e.point && 1 ≤ e.trigger && e.trigger ≤ 3 && rdLE b 13 1 == 0 && rdLE b 16 4 == 0 &&
  (match e.kind with
    | 0 => decide (e.target < 4096)
    | 1 => decide (e.target < 4)
    | 2 => decide (e.target < 64) && e.window == 0
    | 3 => decide (e.target < 1024)
    | _ => false) &&
  (if e.window = 0 then e.slot == 0 else (s.rec? 0x0706 e.window).isSome)

/-- The lowest entry number not in use, from `n` upward. -/
def freeEntry (t : Tab SubEntry) (n : Nat) : Nat :=
  match t with
  | [] => n
  | p :: t => if p.1 = n then freeEntry t (n + 1) else n

/-- One entry appended to its point's list; none when the table, the list or its slot pair is
taken (0x18). -/
def State.subAppend (s : State) (e : SubEntry) : Option State :=
  let p := s.pnt
  let i := freeEntry p.subs 0
  let l := p.lists.get [] e.point
  if 2 ^ 24 ≤ i || 255 ≤ l.length ||
     (e.window ≠ 0 && p.subs.any (fun x => x.2.window ≠ 0 && x.2.slot == e.slot)) then none
  else some { s with pnt := { p with subs := p.subs.set i e, lists := p.lists.set e.point (l ++ [i]) } }

/-- All entries appended, or none. -/
def State.subAppendAll (s : State) : List SubEntry → Option State
  | [] => some s
  | e :: l => match s.subAppend e with
    | some t => t.subAppendAll l
    | none => none

/-- A bulk list of 1 to 4,096 items of `k` bytes. -/
def bulkItems (src off len k : Nat) : Bool :=
  bulkOk src off len && len % k == 0 && 1 ≤ len / k && len / k ≤ 4096

/-- SUBSCRIPTION_APPEND (0x805). -/
def execSubscriptionAppend (q : Req) (s : State) : Out :=
  if s.running then
    (s.pntServe q 0x805 2 (fun s =>
      let len := q.word 2
      if !bulkItems q.src.val (q.word 1) len 20 then .inr 0x12
      else
        let items := chunks 20 (s.bulkRead q.src.val (q.word 1) len) (len / 20)
        if !items.all s.subOk then .inr 0x12
        else match s.subAppendAll (items.map SubEntry.ofBytes) with
          | some t => .inl (t.finish q 0x805)
          | none => .inr 0x18)).done
  else .next s

/-- Entry `i` out of its list, the table, the pending bitmap and its slots. -/
def State.subDrop (s : State) (i : Nat) : State :=
  let p := s.pnt
  match p.subs.find? i with
  | none => s
  | some e =>
    { s with pnt := { p with
        subs := p.subs.del i, lists := p.lists.upd [] e.point (·.filter (· ≠ i)),
        pend := p.pend.filter (· ≠ i), slots := p.slots.filter (fun x => x.2.entry != i) } }

/-- The first entry of an item's point with its kind and target removed (0x806). -/
def State.subRemove (s : State) (b : List Byte) : Option State :=
  let hit (i : Nat) : Bool := match s.pnt.subs.find? i with
    | some e => e.kind == rdLE b 4 1 && e.target == rdLE b 6 2
    | none => false
  match (s.pnt.lists.get [] (rdLE b 0 4)).find? hit with
  | some i => some (s.subDrop i)
  | none => none

def State.subRemoveAll (s : State) : List (List Byte) → Option State
  | [] => some s
  | b :: l => match s.subRemove b with
    | some t => t.subRemoveAll l
    | none => none

/-- SUBSCRIPTION_REMOVE (0x806). -/
def execSubscriptionRemove (q : Req) (s : State) : Out :=
  if s.running then
    (s.pntServe q 0x806 2 (fun s =>
      let len := q.word 2
      if !bulkItems q.src.val (q.word 1) len 8 then .inr 0x12
      else match s.subRemoveAll (chunks 8 (s.bulkRead q.src.val (q.word 1) len) (len / 8)) with
        | some t => .inl (t.finish q 0x806)
        | none => .inr 0x12)).done
  else .next s

/-! ### Updates and reads (R267, R268, R284) -/

/-- The first operation of a source's input FIFO whose record can be reached, and the rest: operations on
other points wait in the pipeline and hold up none behind them (R283, R284, Table 1-3). -/
def State.fifoTake (s : State) (src : Nat) : Option (PntOp × List PntOp) :=
  takeFirst (fun o => s.pointReady o.point) (s.pnt.fifo.get [] src)

/-- The FIFO of a source as it stands after an operation has been taken. -/
def State.fifoPut (s : State) (src : Nat) (l : List PntOp) : State :=
  { s with pnt := { s.pnt with fifo := s.pnt.fifo.set src l } }

/-- A PUT's reply on its way to the engine (R267). -/
def State.putReply (s : State) (e tag code : Nat) : State :=
  let g := s.eng e
  s.setEng e { g with putDone := g.putDone ++ [(tag, code)] }

/-- An update of a PNT frame that waits at the service port enters the fabric FIFO (R284). -/
def State.drainFab (s : State) : State :=
  match s.fab.wait with
  | [] => s
  | u :: rest =>
    let (ok, t) := s.pntPush 34 (.upd u)
    if ok then { t with fab := { t.fab with wait := rest } } else s

/-- The first update that waits in a CAN object, in ascending channel and object number (R414). -/
def State.canWaiting (s : State) : Option (Nat × Nat × Update) :=
  (s.can.flatMap (fun c => c.2.obj.filterMap (fun o => o.2.wait.map (fun u => (c.1, o.1, u))))).head?

/-- It enters the CAN FIFO as room frees. -/
def State.drainCan (s : State) : State :=
  match s.canWaiting with
  | none => s
  | some (c, k, u) =>
    let (ok, t) := s.pntPush 32 (.upd u)
    if ok then
      let x := t.can.get {} c
      let o := x.obj.get {} k
      { t with can := t.can.set c { x with obj := x.obj.set k { o with wait := none } } }
    else s

/-- POINT_UPDATE: the next update of a source's FIFO is judged: E0 to E31, 32 CAN, 33 Chive, 34 fabric, 35 Sage,
whose substitutions are applied and answered here (R269, R272). -/
def execPointUpdate (src : Fin 36) (s : State) : Out :=
  match s.running, s.fifoTake src with
  | true, some (.subst p v q rq tag, rest) =>
    (((s.fifoPut src rest).substitute p v q).final rq 0x803 tag 0 []).pntSettle.done
  | true, some (.upd u, rest) =>
    let (r, s) := (s.fifoPut src rest).judge u
    let s := if src.val = 34 then s.drainFab else if src.val = 32 then s.drainCan else s
    let s := match u.from_.tag with
      | some tag => if src.val < 32 then s.putReply src tag r.code else s
      | none => s
    s.pntSettle.done
  | _, _ => .next s

/-- What a GET returns, from block offset 4: quality, value, stamp, reply. A used point's reply code
is not stated: a free value (R268, log 33). -/
def State.getBytes (s : State) (p : Nat) : List Byte :=
  let r := s.point p
  if !s.pnt.enabled || r.typ = 0 then leBytes 4 1 ++ leBytes 16 0 ++ leBytes 1 5
  else leBytes 4 r.quality.toNat ++ leBytes 8 r.value.toNat ++ leBytes 8 r.stamp.toNat ++
    [Free.byte s.sys.draws 0]

/-- POINT_GET: the GET that is the next operation of an engine's FIFO is handled (R268). -/
def execPointGet (src : Fin 32) (s : State) : Out :=
  match s.running, s.fifoTake src with
  | true, some (.get e tag p, rest) =>
    let s := s.fifoPut src rest
    let g := s.eng e
    ((s.setEng e { g with getDone := g.getDone ++ [(tag, s.getBytes p)] }).draw.pntSettle).done
  | _, _ => .next s

/-! ### Timers (R270, R271, R282) -/

/-- A timer of device time is due. -/
def State.due (s : State) (t : PTimer) : Bool := t.deadline ≤ s.time.t

/-- The held value's timer expires, an update of its own (R284); on a substituted point the release is blocked like any update
of another source (R272, log 34). -/
def State.dpExpire (s : State) (p : Nat) : State :=
  match s.heldTimer p with
  | none => s
  | some t =>
    if !s.due t || !s.pointReady p then s
    else if (s.point p).subst then
      let s := (s.countUpdate.delTimer (2 * p)).setPoint p { s.point p with held := false }
      { s with pnt := { s.pnt with blockedC := satInc s.pnt.blockedC } }
    else s.countUpdate.releaseHeld p

/-- The chatter release expires. -/
def State.chatterExpire (s : State) (p : Nat) : State :=
  match s.relTimer p with
  | none => s
  | some t =>
    if !s.due t || !s.pointReady p then s
    else if (s.point p).subst then
      let r := s.point p
      let s := (s.countUpdate.delTimer (2 * p + 1)).setPoint p { r with blocked := false, chatCount := 0 }
      { s with pnt := { s.pnt with blockedC := satInc s.pnt.blockedC } }
    else s.countUpdate.releaseChatter p

/-- DP_HOLD_EXPIRY. -/
def execDpHoldExpiry (p : Fin 8388608) (s : State) : Out :=
  if s.running && s.pnt.enabled then ((s.dpExpire p).pntSettle).done else .next s

/-- CHATTER_RELEASE. -/
def execChatterRelease (p : Fin 8388608) (s : State) : Out :=
  if s.running && s.pnt.enabled then ((s.chatterExpire p).pntSettle).done else .next s

/-- Every timer due expires, those of points that cannot be reached later (R282, R283). -/
def State.timersExpire (s : State) : State :=
  s.pnt.timers.keys.foldl (fun s k =>
    if k % 2 = 0 then s.dpExpire (k / 2) else s.chatterExpire (k / 2)) s

/-- WINDOW_CLOSE: every window of instance `w` whose close has been reached closes (R281). -/
def execWindowClose (w : Fin 65) (s : State) : Out :=
  if s.running && s.pnt.enabled && (s.rec? 0x0706 w).isSome then ((s.windowClose w).pntSettle).done
  else .next s

/-- After a step of device time windows and timers due close and expire at once (R282). -/
def State.pntStep (s : State) : State :=
  if s.pnt.enabled then
    (((s.recsOf 0x0706).foldl (fun s r => s.windowClose r.inst) s).timersExpire).pntSettle
  else s

/-! ### Writing deliveries (R277, R278) -/

/-- A record written into an engine's subscriber queue, by DMA and journaled, or a host queue's
window; the write count advances. -/
def State.queueWrite (s : State) (q : Nat) (d : Delivery) : State :=
  if q < 32 then
    let w := s.pnt.sqWr.get 0 q
    let b := d.bytes w
    let off := s.sqOffset q
    let depth := s.queueDepth q
    let s := { s with pnt := { s.pnt with sqWr := s.pnt.sqWr.set q (w + 1),
                                          delivs := satInc s.pnt.delivs } }
    s.input { eng := q, kind := 0x03, inline := (w + 1).toNat, payload := b,
              writes := [(off + 32 + 32 * (w.toNat % depth), b), (off, leBytes 4 (w + 1).toNat)] }
  else
    let h := q - 32
    let w := s.pnt.hqWr.get 0 h
    let depth := s.queueDepth q
    let svc := Mem.writeBytes 0 s.mem.svc (0x34000 + 0x8000 * h + 32 * (w.toNat % depth)) (d.bytes w)
    let irq := s.pnt.hqIrq.get 0 h
    let s := { s with mem := { s.mem with svc := svc },
                      pnt := { s.pnt with hqWr := s.pnt.hqWr.set h (w + 1),
                                          delivs := satInc s.pnt.delivs } }
    if irq ≠ 0 && s.queueUsed q = irq then
      { s with pnt := { s.pnt with event := s.pnt.event ||| BitVec.ofNat 9 (2 ^ h) } }
    else s

/-- The instance of engine `e` stands between step 1 and step 5 of a restart (R301). -/
def State.restarting (s : State) (e : Nat) : Bool :=
  (s.eng e).status == 1 && (s.cl (e / 2)).instReq.any (fun r => r.1 == e && r.2.1 != .stop)

/-- The queue takes deliveries now: not between the steps of its instance's restart (R301). While the cluster
recovers, what is written waits for the end of the recovery, up to the queue's depth (R34, R277). -/
def State.queueOpen (s : State) (q : Nat) : Bool :=
  s.running && (32 ≤ q || (!s.restarting q && s.queueDepth q ≠ 0))

/-- The oldest delivery waiting for a queue is written, or coalesced where the queue is full or
pending (R278). -/
def State.deliveryWrite (s : State) (q : Nat) : State :=
  match takeFirst (fun d : Delivery => d.queue == q) s.pnt.waiting with
  | none => s
  | some (d, rest) =>
    let t := { s with pnt := { s.pnt with waiting := rest } }
    if t.queuePending q || t.queueFull q then t.coalesce d.entry q else t.queueWrite q d

/-- DELIVERY_WRITE: queues 0 to 31 of the engines, 32 to 35 of the host. -/
def execDeliveryWrite (q : Fin 36) (s : State) : Out :=
  if s.queueOpen q then ((s.deliveryWrite q).pntSettle).done else .next s

/-- The lowest pending entry of a queue; it is written only when no older delivery of the entry waits and its
point can be reached (R278, R279, R283). -/
def State.lowestPend (s : State) (q : Nat) : Option Nat :=
  s.pnt.pend.find? (fun i => match s.pnt.subs.find? i with
    | some e => s.entryQueue e == some q
    | none => false)

/-- As space frees, the lowest pending entry is written with the point's present value, quality and
stamp, coalesced set (R278). -/
def State.pendWrite (s : State) (q : Nat) : State :=
  match s.lowestPend q, s.queueFull q with
  | some i, false =>
    match s.pnt.subs.find? i with
    | none => s
    | some e =>
      if !s.pointReady e.point || s.pnt.waiting.any (fun d => d.entry == i) then s else
      let r := s.point e.point
      let d : Delivery := { entry := i, queue := q, point := e.point, quality := r.quality,
                            value := r.value, stamp := r.stamp, tag := e.tag, window := e.window,
                            coal := true }
      let t := { s with pnt := { s.pnt with pend := s.pnt.pend.filter (· ≠ i) } }
      if 64 ≤ q then
        { t with pnt := { t.pnt with stage := t.pnt.stage.upd [] (q - 64) (· ++ [{ d with at_ := t.sys.mono }]),
                                     delivs := satInc t.pnt.delivs } }
      else t.queueWrite q d
  | _, _ => s

/-- PENDING_DELIVERY_WRITE: queues 0 to 35, and 64 + n for the staging queue of stream n. -/
def execPendingDeliveryWrite (q : Fin 1088) (s : State) : Out :=
  if s.queueOpen q then ((s.pendWrite q).pntSettle).done else .next s

/-! ### Host counts and the throttle alarm -/

/-- A word of PNT_SOE_RD written; a result above PNT_SOE_WR stores PNT_SOE_WR (R274). -/
def State.soeRdWrite (s : State) (hi : Bool) (w : Word) : State :=
  let old := s.pnt.soeRd.toNat
  let v := if hi then old % 2 ^ 32 + w.toNat * 2 ^ 32 else old / 2 ^ 32 * 2 ^ 32 + w.toNat
  { s with pnt := { s.pnt with soeRd := BitVec.ofNat 64 (min v s.pnt.soeWr.toNat) } }

/-- PNT_SOE_RD_WRITE. -/
def execPntSoeRdWrite (hi : Bool) (w : Word) (s : State) : Out :=
  if s.sys.up then (s.soeRdWrite hi w).done else .next s

/-- PNT_HQ_RDq written (R277). -/
def State.hqRdWrite (s : State) (q : Nat) (w : Word) : State :=
  { s with pnt := { s.pnt with hqRd := s.pnt.hqRd.set q w } }

/-- PNT_HQ_RD_WRITE. -/
def execPntHqRdWrite (q : Fin 4) (w : Word) (s : State) : Out :=
  if s.sys.up then (s.hqRdWrite q w).done else .next s

/-- THROTTLE_ALARM: throttle has read 1 for 100 ms without interruption (R288). -/
def execThrottleAlarm (s : State) : Out :=
  if s.running && s.throttle then State.done { s with pnt := { s.pnt with thrLong := true } }
  else .next s

end Sys2Proof.Machine
end

