-- ==== Sys2Proof/Machine/PortOps.lean ====
section
/-! DEFINITION. Operations over one port: its registers, counters and limits (R145 to R177). -/

namespace Sys2Proof.Machine

/-- Mode code of a station port's lane (Table 5-1), held at port 4n (Table 5-9). -/
def State.laneMode (s : State) (n : Nat) : Nat := (s.port (n / 4 * 4)).lane.toNat

/-- The port exists in the lane mode (R145). -/
def State.portPresent (s : State) (n : Nat) : Bool :=
  if 64 ≤ n then decide (n < 68)
  else
    let m := s.laneMode n
    m == 1 || m == 2 || ((m == 3 || m == 4 || m == 5) && n % 4 == 0)

/-- A port takes and sends frames: present, enabled, link up. -/
def State.takesPort (s : State) (n : Nat) : Bool :=
  s.running && s.portPresent n && tst (s.port n).cfg.toNat 0 && (s.port n).up

/-- Speed codes a lane mode offers (Table 5-1). -/
def offers (mode : Nat) : List Nat :=
  match mode with
  | 1 | 3 => [0, 1, 2]
  | 2 => [0, 1, 2, 3]
  | 4 => [2]
  | 5 => [3]
  | _ => []

/-- speed_sel of PORT_CFG (Table 5-7). -/
def Port.sel (p : Port) : Nat := bits p.cfg.toNat 3 1
def Port.rxPause (p : Port) : Bool := tst p.cfg.toNat 4
def Port.pfcEn (p : Port) : Bool := tst p.cfg.toNat 5
def Port.preemptEn (p : Port) : Bool := tst p.cfg.toNat 6
def Port.addFrag (p : Port) : Nat := bits p.cfg.toNat 9 8
def Port.express (p : Port) : Nat := bits p.cfg.toNat 23 16
def Port.exempt (p : Port) : Nat := bits p.cfg.toNat 31 24

/-- The port's speed comes from auto-negotiation: neither 2500BASE-X, nor a forced speed, nor a fabric port (R147,
Table 5-10). -/
def State.negotiates (s : State) (n : Nat) : Bool := n < 64 && s.laneMode n != 5 && (s.port n).sel == 0

/-- RS-FEC runs: on a fabric port up at 25GBASE-R (R153). -/
def State.fecOn (s : State) (n : Nat) : Bool :=
  64 ≤ n && (s.port n).up && tst (s.port n).cfg.toNat 2 && (s.port n).speed == 1

/-- Speed in Mb/s of a port's speed code. -/
def mbps (n code : Nat) : Nat :=
  if 64 ≤ n then (if code = 1 then 25000 else 10000)
  else if code = 0 then 10 else if code = 1 then 100 else if code = 2 then 1000 else 2500

/-- Time of `k` bytes at the port's speed, in units of 250 ps, rounded up. -/
def State.byteTime (s : State) (n k : Nat) : Nat := ceilDiv (k * 32000) (mbps n (s.port n).speed)

/-- The current speed entry of TIME_CAL for a port (R526). -/
def State.calSpeed (s : State) (n : Nat) : Nat :=
  let p := s.port n
  if 64 ≤ n then bits p.cfg.toNat 1 1
  else if p.up then p.speed
  else if 1 ≤ p.sel && p.sel ≤ 4 then p.sel - 1
  else match p.lastUp with
    | some c => c
    | none => (offers (s.laneMode n)).foldl max 0

/-- A reported ingress stamp of a raw PCS stamp (R122). -/
def State.inStamp (s : State) (n : Nat) (r : DWord) : DWord :=
  r - (s.time.sdRx.get 0 n).setWidth 64 - (s.time.extRx.get 0 (4 * n + s.calSpeed n)).setWidth 64

/-- A reported egress stamp (R122). -/
def State.outStamp (s : State) (n : Nat) (r : DWord) : DWord :=
  r + (s.time.sdTx.get 0 n).setWidth 64 + (s.time.extTx.get 0 (4 * n + s.calSpeed n)).setWidth 64

/-- Counter `i` of a port advanced by `k`, modulo 2^32; its HALF bit is set when bit 31 goes from
0 to 1 (R172, R173). -/
def State.stat (s : State) (n i : Nat) (k : Nat := 1) : State :=
  let p := s.port n
  let old := p.stat.get 0 i
  let new := old + BitVec.ofNat 32 k
  s.setPort n { p with
    stat := p.stat.set i new,
    half := if !old.msb && new.msb then p.half ||| BitVec.ofNat 96 (2 ^ i) else p.half }

/-- Several counters advanced by one. -/
def State.stats (s : State) (n : Nat) (l : List Nat) : State := l.foldl (fun s i => s.stat n i) s

/-- A bit of PORT_EVENT set. -/
def State.portEvent (s : State) (n b : Nat) : State :=
  let p := s.port n
  s.setPort n { p with event := p.event ||| BitVec.ofNat 6 (2 ^ b) }

/-- The size bin of a good frame, from the base index of its direction (Table 5-5). -/
def sizeBin (base len : Nat) : Nat :=
  base + (if len ≤ 64 then 0 else if len ≤ 127 then 1 else if len ≤ 255 then 2 else if len ≤ 511 then 3
    else if len ≤ 1023 then 4 else if len ≤ 1518 then 5 else if len ≤ 2047 then 6 else 7)

/-- The pair a port belongs to, by its record's instance (R167). -/
def State.pairOf (s : State) (n : Nat) : Option Rec :=
  (s.recsOf 0x0203).find? (fun r =>
    bits (s.port n).pair.toNat 5 4 ≠ 0 && (rdLE r.body 1 1 == n || rdLE r.body 2 1 == n))

/-- The other member of a port's pair. -/
def State.partner (s : State) (n : Nat) : Nat := bits (s.port n).pair.toNat 15 8

def State.pair (s : State) (i : Nat) : Pair := s.pairs.get {} i
def State.setPair (s : State) (i : Nat) (p : Pair) : State := { s with pairs := s.pairs.set i p }

end Sys2Proof.Machine
end

