-- ==== Sys2Proof/Machine/TtOps.lean ====
section
/-! DEFINITION. Gate lists, qualification, the guardian's log and its closing (R211 to R224, R232). -/

namespace Sys2Proof.Machine

def State.setTport (s : State) (n : Nat) (p : TtPort) : State :=
  { s with tt := { s.tt with port := s.tt.port.set n p } }
def State.setTchan (s : State) (k : Nat) (c : TtChan) : State :=
  { s with tt := { s.tt with chan := s.tt.chan.set k c } }

/-! ### Log (R232) -/

/-- The TT_EVENT bit of a log code (Table 7-6). -/
def ttEventBit (code : Nat) : Nat :=
  if code = 1 || code = 2 then 1
  else if code = 3 || code = 9 then 2
  else if code = 5 then 4
  else if code = 8 then 8 else 0

/-- One log entry written at TT_LOG_WR (R232, Table 7-8). -/
def State.ttLog (s : State) (unit_ code index : Nat) (value : Word := 0) : State :=
  let w := s.tt.logWr
  let e : TtLog := { stamp := s.time.t, unit_ := unit_, code := code, index := index, value := value }
  let half := if (w + 1 - s.tt.logRd).toNat = 128 then 16 else 0
  { s with tt := { s.tt with
      log := s.tt.log.set (w.toNat % 256) e, logWr := w + 1,
      event := s.tt.event ||| BitVec.ofNat 5 (ttEventBit code + half) } }

/-! ### Gate lists (R211, R212, Table 7-10) -/

def gateCycle (b : List Byte) : Nat := rdLE b 0 4
def gatePhase (b : List Byte) : Nat := rdLE b 4 4
/-- Guard margin g in units of 250 ps. -/
def gateGuard (b : List Byte) : Nat := rdLE b 8 4 * 4
def gateMask (b : List Byte) : Nat := rdLE b 0x10 1
def gateCount (b : List Byte) : Nat := rdLE b 0x12 2

/-- deadline_us in units of 250 ps; 0 means one cycle (R214). -/
def gateDeadline (b : List Byte) : Nat :=
  if rdLE b 12 4 = 0 then gateCycle b else us (rdLE b 12 4)

/-- The entries of a gate list: duration and gate state. -/
def gateEntries (b : List Byte) : List (Nat × Nat) :=
  (List.range (gateCount b)).map (fun e => (rdLE b (0x18 + 8 * e) 4, rdLE b (0x1C + 8 * e) 1))

/-- Position of a time in the cycle (R211). -/
def gatePos (b : List Byte) (t : Int) : Nat := ((t - (gatePhase b : Nat)) % ((gateCycle b : Nat) : Int)).toNat

/-- The entry at a position, with the entries before it and the time spent in it. -/
def gateAt (l : List (Nat × Nat)) (x : Nat) (i : Nat) : Nat × Nat :=
  match l with
  | [] => (i, x)
  | p :: l => if x < p.1 then (i, x) else gateAt l (x - p.1) (i + 1)

/-- Durations of the leading entries that open class `c`. -/
def openSum (c : Nat) : List (Nat × Nat) → Nat
  | [] => 0
  | p :: l => if tst p.2 c then p.1 + openSum c l else 0

/-- The open run of a class around a time. -/
inductive Run where
  | closed
  | always
  /-- time since the run opened, time left until it closes -/
  | opened (since left : Nat)
deriving DecidableEq, Repr

/-- The open run of class `c` that contains time `t` (R212). -/
def gateRun (b : List Byte) (c : Nat) (t : Int) : Run :=
  let l := gateEntries b
  if l.all (fun p => tst p.2 c) then .always
  else
    let (i, x) := gateAt l (gatePos b t) 0
    match l[i]? with
    | none => .closed
    | some e =>
      if tst e.2 c then
        let before := l.take i
        let after := l.drop (i + 1)
        .opened (x + openSum c (before.reverse ++ after.reverse)) (e.1 - x + openSum c (after ++ before))
      else .closed

/-- A transmission of length `d` may start: at least `m` after the opening and ending at least `m`
before the closing of its run (R212 with m = g, R221 with m = g/2). -/
def Run.fits (r : Run) (m d : Nat) : Bool :=
  match r with
  | .closed => false
  | .always => true
  | .opened since left => decide (m ≤ since) && decide (d + m ≤ left)

/-- Guardian time G (R220). -/
def State.guardTime (s : State) : Int := (s.time.t.toNat : Int) + s.tt.gOff

/-- sync_tol in units of 250 ps (Table 7-9). -/
def State.syncTol (s : State) : Nat := s.fld 0x0501 0 0 2 100 * 4

/-- The scheduler's check on a port (R212); every gate is open without a TT.GATE record (R211). -/
def State.gateFits (s : State) (n c d : Nat) : Bool :=
  if s.guarded n then (gateRun (s.sched n) c (s.time.t.toNat : Nat)).fits (gateGuard (s.sched n)) d else true

/-- The guardian's check in G (R221); for sync_tol after a swap both banks must open the class
(R230). -/
def State.guardFits (s : State) (n c d : Nat) : Bool :=
  if s.guarded n then
    let one (b : List Byte) : Bool := (gateRun b c s.guardTime).fits (gateGuard b / 2) d
    one (s.sched n) &&
    (match s.tt.bothTill.find? n with
      | some till =>
        let other := s.ttBank n (1 - s.ttActive n)
        decide (till ≤ s.time.t) || other.isEmpty || one other
      | none => true)
  else true

/-! ### Qualification (R215) -/

/-- A change of qualification noted: since when, and that a new LSA is due (R224, R244). -/
def State.qualUpdate (s : State) : State :=
  if s.qualified = s.tt.wasQual then s
  else { s with tt := { s.tt with
    wasQual := s.qualified, qualAt := s.sys.mono, lsaDue := true,
    unqLong := s.tt.unqLong && !s.qualified } }

/-- The class is held: a time-triggered class on a guarded port that is stopped, listens or is
closed, or while time is not qualified (R215, R216, R222, R223). -/
def State.ttHeld (s : State) (n c : Nat) : Bool :=
  s.guarded n &&
  (let p := s.tport n
   let tt := tst (gateMask (s.sched n)) c
   p.listen || p.ecc || s.tt.disagree || s.tt.guardFail ||
   (tt && (p.stopped || !s.qualified)))

/-- TT_PSTATn.state (Table 7-7). -/
def State.pstate (s : State) (n : Nat) : Nat :=
  if !s.guarded n then 0
  else
    let p := s.tport n
    if p.listen || p.ecc || s.tt.disagree || s.tt.guardFail then 3
    else if p.stopped || !s.qualified then 2 else 1

/-- Bytes of a frame that have left at device time since the fragment began, its preamble and SFD not counted. -/
def State.bytesOut (s : State) (n : Nat) (x : TxNow) : Nat :=
  x.sent + ((s.time.t - x.from_).toNat * mbps n (s.port n).speed / 32000 - 8)

/-- The driver of a port's transmission cut: what has left stays on the wire (R220, R221). -/
def State.cutTx (s : State) (n : Nat) : State :=
  let p := s.port n
  match p.tx with
  | some x =>
    if x.cut then s else s.setPort n { p with tx := some { x with cut := true, cutLen := s.bytesOut n x } }
  | none => s

/-- The guardian's closing edge has come for a transmission: close − g/2 in G, of the run under the bank in force at its
start (R221, R230). -/
def State.cutDue (s : State) (n : Nat) (x : TxNow) : Bool :=
  let b := s.ttBank n x.bank
  match gateRun b x.cls s.guardTime with
  | .always => false
  | .closed => true
  | .opened since left => decide (left ≤ gateGuard b / 2) || decide (since < gateGuard b / 2)

/-- A guarded port enters listen-only (R221). -/
def State.listenPort (s : State) (n : Nat) : State :=
  s.setTport n { s.tport n with listen := true, cutAt := s.time.t }

/-- Every guarded port closed, any transmission cut (R220). -/
def State.closePorts (s : State) : State :=
  (List.range 64).foldl (fun s n => if s.guarded n then (s.cutTx n).listenPort n else s) s

/-! ### MB62, the words of the time and guardian islands (R132, R220, R360) -/

/-- A word of an island posted on MB62; it waits in the handshake FIFO while the queue is full. -/
def State.post62 (s : State) (src : Nat) (w : Word) : State :=
  if s.mbRoom 62 true 1 && s.tt.wait62.isEmpty then s.mbPost 62 true src w
  else { s with tt := { s.tt with wait62 := s.tt.wait62 ++ [(src, w)] } }

/-- Words that wait enter the queue in order while it has room. -/
def State.drain62 (s : State) : Nat → State
  | 0 => s
  | k + 1 =>
    match s.tt.wait62 with
    | [] => s
    | (src, w) :: rest =>
      if s.mbRoom 62 true 1 then
        (({ s with tt := { s.tt with wait62 := rest } } : State).mbPost 62 true src w).drain62 k
      else s

/-- Sage takes the first word of an island from MB62. -/
def State.take62 (s : State) (src : Nat) : State :=
  let m := s.mb 62
  match takeFirst (fun w : MbWord => w.src == src) m.toHome with
  | some (_, q) => (s.setMb 62 { m with toHome := q }).drain62 8
  | none =>
    match takeFirst (fun p : Nat × Word => p.1 == src) s.tt.wait62 with
    | some (_, q) => { s with tt := { s.tt with wait62 := q } }
    | none => s

end Sys2Proof.Machine
end

