-- ==== Sys2Proof/Machine/TimeOps.lean ====
section
/-! DEFINITION. Device time, the servo and steps (R114 to R142). -/

namespace Sys2Proof.Machine

/-! ### Exact fractions (R130 computes in real numbers) -/

/-- A fraction in lowest terms. -/
def Frac.norm (n : Int) (d : Nat) : Frac :=
  let g := Nat.gcd n.natAbs d
  if g = 0 then {} else { num := n / (g : Int), den := d / g }

def Frac.add (a b : Frac) : Frac := .norm (a.num * b.den + b.num * a.den) (a.den * b.den)
def Frac.neg (a : Frac) : Frac := { a with num := -a.num }
/-- `a` is at most `b`. -/
def Frac.le (a b : Frac) : Bool := decide (a.num * b.den ≤ b.num * a.den)
/-- A fraction held between −c and +c. -/
def Frac.clamp (a c : Frac) : Frac := if a.le c.neg then c.neg else if c.le a then c else a

/-- The free bit of the next draw (log 3). -/
def State.freeBit (s : State) : Int := if (Free.word s.sys.draws).getLsbD 0 then 1 else 0

/-- The nearest integer; at a tie the spec states no direction and the choice is free (log 40). -/
def State.nearest (s : State) (n : Int) (d : Nat) : Int × State :=
  let fl := n / (d : Int)
  let r := 2 * (n % (d : Int))
  if r < d then (fl, s) else if (d : Int) < r then (fl + 1, s) else (fl + s.freeBit, s.draw)

/-- An integer that stands for a fraction where the spec states no rounding: one of the two
neighbours, free; the value itself when it is whole (log 40). -/
def State.whole (s : State) (n : Int) (d : Nat) : Int × State :=
  if n % (d : Int) = 0 then (n / (d : Int), s) else (n / (d : Int) + s.freeBit, s.draw)

/-! ### Device time (R114) -/

/-- One tick of 2 ns: 8 units at (1 + TIME_FREQ × 2^-48) times the nominal rate (R114, R130). -/
def TimeBlk.tick (t : TimeBlk) : TimeBlk :=
  let x : Int := (t.t.toNat * 2 ^ 48 + t.frac.toNat : Nat)
  let y := x + 8 * 2 ^ 48 + 8 * t.freq.toInt
  { t with t := BitVec.ofInt 64 (y / 2 ^ 48), frac := BitVec.ofInt 48 y }

/-- The T96 reading of device time (R116). -/
def TimeBlk.t96 (t : TimeBlk) : Nat :=
  let x := t.t.toNat
  x / 4000000000 * 2 ^ 48 + x / 4 % 1000000000 * 2 ^ 16 + (x % 4 * 16384 + t.frac.toNat / 2 ^ 34)

/-! ### Steps (R132, R134, R135, R219) -/

/-- Multiples of an instant generator at or before `x` (R218): how many, and the last one. -/
def instCount (period phase x : Nat) : Nat := if x < phase then 0 else (x - phase) / period + 1
def instAt (period phase k : Nat) : Nat := phase + (k - 1) * period

/-- The instants of one generator that a forward step passes over are skipped and counted (R219). -/
def State.skipInstants (s : State) (new : Nat) (r : Rec) : State :=
  let period := rdLE r.body 4 4
  let phase := rdLE r.body 8 4
  let from_ := max s.time.t.toNat (s.tt.last.get (0, 0) r.inst).1.toNat
  let n := instCount period phase new - instCount period phase from_
  if period = 0 then s else { s with tt := { s.tt with instSkip := satAdd s.tt.instSkip n } }

/-- A step of device time by `delta` units at one tick: integrator reset, step registers, SOE record,
instants skipped, point windows and timers, the 1 ms hold on a self_ref device. G steps with D
(R132, R134, R219, R220, R215). The 48-bit fraction is kept, by a set of device time too (R135; DESIGN CHOICE, log
146). -/
def State.stepTime (s : State) (delta : Int) : State :=
  let new := s.time.t + BitVec.ofInt 64 delta
  let s := (s.recsOf 0x0503).foldl (fun s r => s.skipInstants new.toNat r) s
  let s := { s with
    time := { s.time with
      t := new, intReset := true, stepLast := BitVec.ofInt 64 delta,
      stepCount := satInc s.time.stepCount, stepped := true },
    tt := { s.tt with stepAt := some s.sys.mono, stepTo := some new } }
  ((s.soeStep delta).pntStep).qualUpdate

/-! ### The servo (R129 to R133) -/

/-- lock_thr, step_thr compared in 2^-16 ns. -/
def TimeBlk.lockAt (t : TimeBlk) : Nat := t.lockThr.toNat * 65536
def TimeBlk.stepAt (t : TimeBlk) : Nat := t.stepThr.toNat * 65536

def State.lossTime (s : State) : Nat := sec (s.fld 0x0401 0 2 2 1)
def State.outlierN (s : State) : Nat := s.fld 0x0402 0 14 1 4

/-- Whole seconds of the present HOLDOVER, or of the last one (R131). -/
def State.holdoverSecs (s : State) : Word :=
  if s.time.st == .holdover then
    let n := (s.sys.mono - s.time.holdAt) / sec 1
    if n < 2 ^ 32 then BitVec.ofNat 32 n else 0xFFFFFFFF
  else s.time.holdoverS

/-- PPS_OUT under pps_out 1 is held low outside LOCKED and HOLDOVER (R139). -/
def State.ppsSettle (s : State) : State :=
  let x := s.chv.pin.get {} 65
  if s.fld 0x0401 0 7 1 0 = 1 && s.time.st != .locked && s.time.st != .holdover && x.raw then
    let y : CePin := { x with raw := false, drive := false, fall := s.time.t, lastRise := false, fallLatch := true }
    { s with chv := { s.chv with pin := s.chv.pin.set 65 y } }
  else s

/-- A servo state entered (Table 4-4). Entering HOLDOVER, TIME_FREQ takes the mean of the last 64
values accepted in LOCKED. -/
def State.enterServo (s : State) (st : ServoState) : State :=
  let hs := s.holdoverSecs
  let t := { s.time with st := st, holdoverS := hs, runLow := 0, runMid := 0, runOut := 0 }
  match st with
  | .holdover =>
    let sum := t.freqs.foldl (· + ·) 0
    let (f, s) := if t.freqs.isEmpty then (t.freq.toInt, s) else s.whole sum t.freqs.length
    let s : State := { s with
      time := { t with freq := BitVec.ofInt 64 f, holdAt := s.sys.mono, holdoverS := 0 } }
    s.qualUpdate
  | .freerun => ({ s with time := { t with entered := false } } : State).ppsSettle.qualUpdate
  | _ => ({ s with time := t } : State).ppsSettle.qualUpdate

/-- The offset rule on one guarded port at an accepted sample (R216). -/
def State.offsetRule (s : State) (off : Int) (n : Nat) : State :=
  if !s.guarded n then s
  else
    let g := rdLE (s.sched n) 8 4 * 65536
    let p := s.tport n
    if g < 2 * off.natAbs then
      if p.stopped then s.setTport n { p with good := 0 }
      else
        let (v, s) := s.whole off 65536
        (s.setTport n { p with stopped := true, good := 0, stops := satInc p.stops }).ttLog n 3
          p.index (BitVec.ofInt 32 v)
    else if p.stopped then
      if 4 * off.natAbs ≤ g && s.qualified then
        s.setTport n { p with good := p.good + 1, goodAt := if p.good = 3 then s.time.t else p.goodAt }
      else if p.good < 4 then s.setTport n { p with good := 0 } else s
    else s

/-- A sample accepted: TIME_OFFSET, then the offset rule of every guarded port (R216). -/
def State.noteSample (s : State) (m : Sample) : State :=
  let s := { s with time := { s.time with offset := m.offset } }
  (List.range 64).foldl (fun s n => s.offsetRule m.offset.toInt n) s

/-- The frequency law (R130). With θ in 2^-16 ns and τ in 250 ps units, θ/τ = off / (16384 dt). -/
def State.servoLaw (s : State) (m : Sample) : State :=
  let t := s.time
  let reset := t.intReset || !t.entered
  let t := { t with entered := true, lastStamp := m.stamp }
  if reset then { s with time := { t with integ := {}, intReset := false } }
  else
    let dt : Int := (m.stamp.toNat : Int) - s.time.lastStamp.toNat
    if dt ≤ 0 then { s with time := t }
    else
      let den := 65536 * 16384 * dt.toNat
      let i := t.integ.add (.norm (t.ki.toNat * m.offset.toInt) den)
      let c : Frac := { num := (s.fld 0x0402 0 12 2 200 : Nat), den := 1000000 }
      let y := (Frac.add (.norm (t.kp.toNat * m.offset.toInt) den) i).clamp c
      let (f, s) := ({ s with time := { t with integ := i } } : State).nearest (-y.num * 2 ^ 48) y.den
      { s with time := { s.time with freq := BitVec.ofInt 64 f } }

/-- The last 64 values of TIME_FREQ at samples accepted in LOCKED (R131). -/
def State.noteFreq (s : State) : State :=
  if s.time.st == .locked then
    let l := s.time.freqs ++ [s.time.freq.toInt]
    { s with time := { s.time with freqs := l.drop (l.length - 64) } }
  else s

/-- A sample counted in the run of its class, the runs of the others ended (R131). -/
def State.countRun (s : State) (cls : Nat) : State :=
  let t := s.time
  { s with time := { t with
      runLow := if cls = 0 then t.runLow + 1 else 0,
      runMid := if cls = 1 then t.runMid + 1 else 0,
      runOut := if cls = 2 then t.runOut + 1 else 0 } }

/-- A valid sample judged (R131, R132). -/
def State.judgeSample (s : State) (m : Sample) : State :=
  let mag := m.offset.toInt.natAbs
  let cls := if mag < s.time.lockAt then 0 else if mag < s.time.stepAt then 1 else 2
  let s := if s.time.st == .freerun || s.time.st == .holdover then s.enterServo .acquire else s
  let s := s.countRun cls
  if s.time.st == .locked then
    if cls = 2 then
      let s := { s with time := { s.time with outlier := satInc s.time.outlier } }
      if s.outlierN ≤ s.time.runOut then s.enterServo .acquire else s
    else
      let s := if 8 ≤ s.time.runMid then s.enterServo .acquire else s
      ((s.noteSample m).servoLaw m).noteFreq
  else if cls = 2 then
    let s := s.noteSample m
    let w := Free.word s.sys.draws
    let s := { s.draw with time := { s.time with posted := some m.offset.toInt, lastStamp := m.stamp } }
    s.post62 34 w
  else
    let s := if 8 ≤ s.time.runLow then s.enterServo .locked else s
    ((s.noteSample m).servoLaw m).noteFreq

/-- A sample not taken (R129, R132). -/
def State.dropSample (s : State) : State :=
  { s with time := { s.time with srcDrop := satInc s.time.srcDrop } }

/-- UTC data of the active source (R118). A source that gives both leap flags at once, which TIME_UTC never holds
(R135), sets neither (DESIGN CHOICE, log 147). -/
def State.takeUtc (s : State) (u : UtcInfo) : State :=
  { s with time := { s.time with
      utc := u.offset.getD s.time.utc, leap61 := u.leap61 && !u.leap59, leap59 := u.leap59 && !u.leap61 } }

/-- A valid sample of the source that is not active: the secondary's deliveries, and the primary's
uninterrupted run that makes it active again (R133). A gap of loss_s between two valid samples of the primary
interrupts its run (DESIGN CHOICE, log 145). -/
def State.otherSource (s : State) (src : Nat) : State :=
  if src = s.primary then
    let t := s.time
    let run := match t.priFrom with
      | some f => if s.sys.mono - t.priLast < s.lossTime then f else s.sys.mono
      | none => s.sys.mono
    let s := { s with time := { t with priFrom := some run, priLast := s.sys.mono } }
    if s.lossTime ≤ s.sys.mono - run then
      ({ s with time := { s.time with src := src, priFrom := none, secAt := none } } : State).enterServo .acquire
    else s
  else if src = s.secondary then { s with time := { s.time with secAt := some s.sys.mono } }
  else s

/-- A servo sample from source `src` (R129 to R133). -/
def State.servoSample (s : State) (src : Nat) (m : Sample) (utc : Option UtcInfo := none) : State :=
  let s := if src ≠ 0 && src ≠ s.time.src && m.offValid then s.otherSource src else s
  if src = 0 || src ≠ s.time.src || s.time.posted.isSome then s.dropSample
  else
    let s := match utc with
      | some u => s.takeUtc u
      | none => s
    let s := if m.pdValid && m.port.toNat < 68 then
        { s with time := { s.time with linkDelay := s.time.linkDelay.set m.port.toNat m.pathDelay } } else s
    let s := if m.newRef then { s with time := { s.time with intReset := true } } else s
    if m.offValid then
      ({ s with time := { s.time with validAt := s.sys.mono, secAt := none } } : State).judgeSample m
    else s

end Sys2Proof.Machine
end

