-- ==== Sys2Proof/Machine/Irig.lean ====
section
/-! DEFINITION. The edges that the time island loads into the PPS and IRIG-B output engines, and the IRIG-B
frame that is sent (R139, R141, R448). The spec names the codes and the extension and gives no bit of a frame:
their places are those of IRIG standard 200 and of IEEE 1344 (PRESUMED, log 149). -/

namespace Sys2Proof.Machine

/-- Days from 1970-01-01 to 1 January of year `y`. -/
def daysBefore (y : Nat) : Nat := 365 * (y - 1970) + (y - 1969) / 4 - (y - 1901) / 100 + (y - 1601) / 400

/-- The year and the day of the year, from 1, of the day `d` days after 1970-01-01. -/
def yearDay (d : Nat) : Nat × Nat :=
  let y := 1970 + d / 366
  let y := if daysBefore (y + 1) ≤ d then y + 1 else y
  (y, d - daysBefore y + 1)

/-- The class of a received pulse by its width in units of 250 ps: 0, 1, 2 for a position marker, 3 for an error
(R447). -/
def pulseClass (w : Nat) : Nat :=
  if 6000000 ≤ w && w < 14000000 then 0 else if 14000000 ≤ w && w < 26000000 then 1
  else if 26000000 ≤ w && w ≤ 36000000 then 2 else 3

/-- The on-time marker: the rising stamp of the reference marker that follows P0 (R447). -/
def onTime : List (Nat × DWord) → Option DWord
  | (2, _) :: (2, t) :: _ => some t
  | _ :: rest => onTime rest
  | [] => none

/-- A pulse reaches the decoder: the low word of its rising stamp and its falling stamp. -/
def State.irigPulse (s : State) (rise : Word) (fall : DWord) : State :=
  let w := fall.setWidth 32 - rise
  let l := s.time.irigPulses ++ [(pulseClass w.toNat, fall - w.setWidth 64)]
  { s with time := { s.time with irigPulses := l.drop (l.length - 128) } }

/-- What an IRIG-B frame says: its second since 1970 in its own time scale, local minus UTC in seconds, leap second
pending and its sign, daylight saving, time quality. -/
structure IrigOut where
  code    : Nat
  second  : Nat
  zone    : Int
  leap61  : Bool
  leap59  : Bool
  dst     : Bool
  quality : Nat

/-- The code carries the control functions, its year, its straight binary seconds. -/
def IrigOut.cf (f : IrigOut) : Bool := f.code == 0 || f.code == 1 || f.code == 4 || f.code == 5
def IrigOut.year (f : IrigOut) : Bool := f.cf || f.code == 6 || f.code == 7
def IrigOut.sbs (f : IrigOut) : Bool := f.code == 0 || f.code == 3 || f.code == 4 || f.code == 7

/-- The bits `lo` to `hi` of a frame hold a number, least significant bit first. -/
def inField (i lo hi v : Nat) : Bool := decide (lo ≤ i) && decide (i ≤ hi) && tst v (i - lo)

/-- Data bit `i` of a frame, the parity bit apart. -/
def IrigOut.data (f : IrigOut) (i : Nat) : Bool :=
  let sod := f.second % 86400
  let (y, d) := yearDay (f.second / 86400)
  let h := f.zone.natAbs / 3600
  inField i 1 4 (sod % 60 % 10) || inField i 6 8 (sod % 60 / 10) ||
  inField i 10 13 (sod / 60 % 60 % 10) || inField i 15 17 (sod / 60 % 60 / 10) ||
  inField i 20 23 (sod / 3600 % 10) || inField i 25 26 (sod / 3600 / 10) ||
  inField i 30 33 (d % 10) || inField i 35 38 (d / 10 % 10) || inField i 40 41 (d / 100) ||
  (f.year && (inField i 50 53 (y % 10) || inField i 55 58 (y / 10 % 10))) ||
  (f.cf && (inField i 60 60 (bit (f.leap61 || f.leap59)) || inField i 61 61 (bit f.leap59) ||
    inField i 63 63 (bit f.dst) || inField i 64 64 (bit (decide (f.zone < 0))) || inField i 65 68 h ||
    inField i 70 70 (f.zone.natAbs % 3600 / 1800) || inField i 71 74 f.quality)) ||
  (f.sbs && (inField i 80 88 (sod % 512) || inField i 90 97 (sod / 512)))

/-- Symbol `i` of a frame: 0, 1, or 2 for a position marker. The control functions end with an odd parity bit over
the data bits before it. -/
def IrigOut.symbol (f : IrigOut) (i : Nat) : Nat :=
  if i = 0 || i % 10 = 9 then 2
  else if f.cf && i = 75 then bit (((List.range 75).filter f.data).length % 2 == 0)
  else bit (f.data i)

/-- Width of a symbol in units of 250 ps: 2, 5 or 8 ms (R448). -/
def symbolWidth (k : Nat) : Nat := if k = 2 then 32000000 else if k = 1 then 20000000 else 8000000

/-- Local time minus UTC, and daylight saving, as the IRIG-B input last gave them; without it free values, since
the spec names no other source (R141, log 149). -/
def State.localZone (s : State) : Int := if s.time.irigLast.isSome then s.time.irigZone else Free.localZone
def State.localDst (s : State) : Bool := if s.time.irigLast.isSome then s.time.irigDst else Free.localDst

/-- The frame sent in the TAI second `sec`. -/
def State.irigOut (s : State) (sec : Nat) : IrigOut :=
  let utc : Int := (sec : Int) - s.time.utc.toNat
  let here := if s.fld 0x0405 0 4 1 0 = 1 then utc + s.localZone else utc
  { code := s.fld 0x0405 0 2 1 0, second := here.toNat, zone := s.localZone, leap61 := s.time.leap61,
    leap59 := s.time.leap59, dst := s.localDst, quality := Free.irigQuality (s.time.st == .locked) }

/-- PPS_OUT may be high: always but under pps_out 1 outside LOCKED and HOLDOVER (R139). -/
def State.ppsMay (s : State) : Bool :=
  s.fld 0x0401 0 7 1 0 != 1 || s.time.st == .locked || s.time.st == .holdover

/-- The edge after the edge at `last`, which left the level `high`: PPS. -/
def State.ppsNext (s : State) (last base : Nat) (high : Bool) : Option (Nat × Bool) :=
  if high then some (last + s.fld 0x0401 0 8 2 1 * 4000000, false)
  else if s.ppsMay then some (base / 4000000000 * 4000000000 + 4000000000, true) else none

/-- The same for the IRIG-B output: each symbol rises at a whole 10 ms and falls after its width. -/
def State.irigNext (s : State) (last base : Nat) (high : Bool) : Nat × Bool :=
  if high then (last + symbolWidth ((s.irigOut (last / 4000000000)).symbol (last % 4000000000 / 40000000)), false)
  else (base / 40000000 * 40000000 + 40000000, true)

/-- The next edge that the time island loads for a PPS (2) or IRIG-B output (4) program, after the edge it loaded
last (R448). -/
def State.nextEdge (s : State) (prog : Nat) (last : DWord) (high : Bool) : Option (Nat × Bool) :=
  let now := s.time.t.toNat
  let l := last.toNat
  let base := if l < now + 4000000000 then max now l else now
  if prog = 2 then s.ppsNext l base high else some (s.irigNext l base high)

end Sys2Proof.Machine
end

