-- ==== Sys2Proof/Machine/LoadStore.lean ====
section
/-! DEFINITION. Loads, stores and atomics (R317, R320, R323, R353). -/

namespace Sys2Proof.Machine

/-- The checks of an `n`-byte access at `a`: ACCESS before MISALIGN (R317, R341). -/
def accessCheck (a n : Nat) : Option Nat :=
  if bankEnd ≤ a then some cACCESS else if a % n ≠ 0 then some cMISALIGN else none

/-- The address of formats I and S. -/
def State.effAddr (s : State) (e w : Nat) : Nat :=
  ((s.core e).r (fRs1 w) + sext 12 (fImm12 w)) % 2 ^ 32

/-- rd := the `n` bytes at the address, extended by `f`. -/
def State.load (s : State) (i : Issue) (major n : Nat) (f : Nat → Nat) : Out :=
  s.instr i { major := major } (fun s e w =>
    let a := s.effAddr e w
    match accessCheck a n with
    | some cause => .trap s cause a
    | none => s.putR e (fRd w) (f (leNat (s.bankBytes e a n))))

/-- The low `n` bytes of rs2 stored at the address, the line first logged (R382). -/
def State.store (s : State) (i : Issue) (major n : Nat) : Out :=
  s.instr i { major := major } (fun s e w =>
    let a := s.effAddr e w
    match accessCheck a n with
    | some cause => .trap s cause a
    | none => .go (s.bankStore e a (leBytes n ((s.core e).r (fRd w)))))

/-- LDB. -/
def execLdb (i : Issue) (s : State) : Out := s.load i 0x0B 1 (sext 8)

/-- LDBU. -/
def execLdbu (i : Issue) (s : State) : Out := s.load i 0x0C 1 id

/-- LDH. -/
def execLdh (i : Issue) (s : State) : Out := s.load i 0x0D 2 (sext 16)

/-- LDHU. -/
def execLdhu (i : Issue) (s : State) : Out := s.load i 0x0E 2 id

/-- LDW. -/
def execLdw (i : Issue) (s : State) : Out := s.load i 0x0F 4 id

/-- STB. -/
def execStb (i : Issue) (s : State) : Out := s.store i 0x10 1

/-- STH. -/
def execSth (i : Issue) (s : State) : Out := s.store i 0x11 2

/-- STW. -/
def execStw (i : Issue) (s : State) : Out := s.store i 0x12 4

/-- The word at rs1 read and replaced as one operation; rd := its old value (R323, R353). -/
def State.atomic (s : State) (i : Issue) (fn : Nat) (f : Nat → Nat → Nat) : Out :=
  s.instr i { major := 0x13, is := fun w => fFn w == fn, rsv := fun w => 1 < fFn w } (fun s e w =>
    let a := (s.core e).r (fRs1 w)
    match accessCheck a 4 with
    | some cause => .trap s cause a
    | none =>
      let m := leNat (s.bankBytes e a 4)
      let b := (s.core e).r (fRs2 w)
      (s.bankStore e a (leBytes 4 (f m b))).putR e (fRd w) m)

/-- AADD: wraps modulo 2^32. -/
def execAadd (i : Issue) (s : State) : Out := s.atomic i 0 (fun m b => m + b)

/-- ASWAP. -/
def execAswap (i : Issue) (s : State) : Out := s.atomic i 1 (fun _ b => b)

end Sys2Proof.Machine
end

