-- ==== Sys2Proof/Machine/Operations.lean ====
section
/-! DEFINITION. The operations PUT, GET, TXQ, RXQ and DMA, the cluster outbox, completions and OPWAIT
(R331 to R334, R346, R391). -/

namespace Sys2Proof.Machine

/-! ### The outbox -/

/-- The cluster outbox has room (256 entries, R391). -/
def State.outRoom (s : State) (e : Nat) : Bool := (s.cl (e / 2)).outbox.length < 256

/-- An output enters the outbox under the engine's next sequence number (R392). -/
def State.outPut (s : State) (e : Nat) (o : Output) : State :=
  let g := s.core e
  let c := s.cl (e / 2)
  let s := s.setCl (e / 2) { c with
    outbox := c.outbox ++ [{ eng := e, seq := g.seq.toNat, epoch := c.epoch, out := o }] }
  s.setCore e { s.core e with seq := g.seq + 1 }

/-- An output may be issued in the running epoch; replay makes none that its epoch did not hold (R378). -/
def State.outFits (s : State) (e : Nat) : Bool := s.replaying e || s.outShare (e / 2)

/-- A stall on a full outbox is counted once per stall (R346). -/
def State.outStall (s : State) (e : Nat) : Eff :=
  let g := s.eng e
  .stall (if g.stalled then s
    else s.setEng e { g with stalled := true,
                             stalls := if s.replaying e then g.stalls else satInc g.stalls })

/-! ### Checks of step 1 of R331 -/

/-- The cluster ran no epoch when a change of grants was answered: it issues no PUT or GET before its next epoch
start (R265). -/
def State.grantLag (s : State) (e : Nat) : Bool :=
  !s.replaying e && (s.cl (e / 2)).grantsCur != s.pnt.grants &&
  !(s.pnt.grantReq.any (fun r => r.2.2.2.contains (e / 2)))

/-- The grants the engine's cluster acts under (R265). -/
def State.granted (s : State) (e point right : Nat) : Bool :=
  (s.pnt.clGrants.get [] e).any (fun g =>
    tst g.2.engines e && tst g.2.rights right && g.2.base ≤ point && point < g.2.base + g.2.count)

/-- Bytes of a block that are marked zero. -/
def zeroAt (b : List Byte) (off n : Nat) : Bool := rdLE b off n == 0

/-- A buffer lies in the bank. -/
def inBank (off n : Nat) : Bool := off + n ≤ bankEnd

/-- Table 11-6: bits 30:23 and the last 7 bytes zero, the point within the grants. -/
def State.pntBlockOk (s : State) (e right : Nat) (b : List Byte) : Bool :=
  bits (rdLE b 0 4) 30 23 == 0 && zeroAt b 0x19 7 && s.granted e (rdLE b 0 4 % 2 ^ 23) right

/-- A serial line that a PERS.SERIAL binds to the engine (Table 10-14). -/
def State.lineOf (s : State) (e line : Nat) : Bool :=
  match s.rec? 0x0806 line with
  | some r => s.lead (rdLE r.body 0 1) == e
  | none => false

/-- Table 11-7 and the checks of R332. -/
def State.txqOk (s : State) (e : Nat) (b : List Byte) : Bool :=
  let kind := rdLE b 0 1
  let flags := rdLE b 1 1
  let dest := rdLE b 2 2
  let len := rdLE b 4 2
  let classOk := flags % 8 ≤ s.fld 0x0801 e 0x14 1 0
  let first := s.fld 0x0801 e 0x10 2 0
  bits flags 7 5 == 0 && zeroAt b 0x0C 4 && zeroAt b 0x19 7 && inBank (rdLE b 8 4) len &&
  (tst flags 4 || rdLE b 6 2 == 0) &&
  (match kind with
    | 0 => dest < 64 && tst (s.fld 0x0801 e 8 8 0) dest && 14 ≤ len && len ≤ 9212 && classOk
    | 1 => first ≤ dest && dest < first + s.fld 0x0801 e 0x12 2 0 && dest < 1024 && 1 ≤ len &&
        len ≤ 9170 && classOk && !tst flags 4
    | 2 => dest == 0 && len == 24 && classOk && !tst flags 4 && s.fld 0x0801 e 0 1 0 == 0x0B
    | 3 => dest < 16 && 1 ≤ len && len ≤ 2048 && !tst flags 4 && s.lineOf e dest
    | _ => false)

/-- Table 11-8. -/
def rxqOk (b : List Byte) : Bool :=
  let len := rdLE b 4 2
  64 ≤ len && len ≤ 9216 && zeroAt b 6 2 && zeroAt b 0x0E 2 && zeroAt b 0x18 8 && inBank (rdLE b 0 4) len

/-- R334, and the bound of R380 on reads of volatile windows. -/
def State.dmaOk (s : State) (e : Nat) (b : List Byte) : Bool :=
  let dir := rdLE b 1 1
  let off := rdLE b 4 4
  let bank := rdLE b 8 4
  let len := rdLE b 12 4
  zeroAt b 2 2 && zeroAt b 16 8 && zeroAt b 25 7 && dir ≤ 1 && off % 4 == 0 && bank % 4 == 0 &&
  len % 4 == 0 && 4 ≤ len && len ≤ 65536 && inBank bank len &&
  (match s.window? e (rdLE b 0 1) with
    | some w => off + len ≤ w.size && (dir == 0 || w.rw) &&
        !(dir == 0 && s.volatile w && decide (8192 < len))
    | none => false)

/-! ### Issue (R331) -/

/-- The lowest free tag. -/
def EngCore.freeTag (c : EngCore) : Option Nat :=
  (List.range 16).find? (fun t => (c.ops.find? t).isNone)

/-- A row of format O. -/
def opRow (major : Nat) : Row where
  major := major
  bad w := bits w 11 0 != 0

/-- The tag taken and written to rd. -/
def State.takeTag (s : State) (e rd tag : Nat) (o : Op) : State :=
  let g := s.eng e
  let ops := g.core.ops.set tag o
  s.setEng e { g with core := { g.core with ops := ops }.setR rd tag, opsPeak := max g.opsPeak ops.length }

/-- Format O: the block's address and content judged, a free tag taken, then `f` with the tag and
the block. An output waits for outbox room before it takes its tag. -/
def State.opIssue (s : State) (i : Issue) (major : Nat) (kind : OpKind)
    (ok : State → Nat → List Byte → Bool) (out : List Byte → Bool)
    (f : State → Nat → Nat → List Byte → State) : Out :=
  s.instr i (opRow major) (fun s e w =>
    let a := (s.core e).r (fRs1 w)
    if (kind == .put || kind == .get) && s.grantLag e then .stall s
    else if bankEnd < a + 32 then .trap s cACCESS a
    else if a % 32 ≠ 0 then .trap s cMISALIGN a
    else
      let b := s.bankBytes e a 32
      if !ok s e b then .trap s cACCESS a
      else match (s.core e).freeTag with
      | none => .trap s cOPFULL 0
      | some tag =>
        if out b && !s.outFits e then .stall s
        else if out b && !s.outRoom e then s.outStall e
        else .go (f (s.takeTag e (fRd w) tag { kind := kind, blk := a, desc := b }) e tag b))

/-- PUT: a cluster output. -/
def execPut (i : Issue) (s : State) : Out :=
  s.opIssue i 0x1A .put (fun s e b => s.pntBlockOk e 0 b) (fun _ => true)
    (fun s e tag b => s.outPut e (.put tag b))

/-- GET: admitted to the engine's FIFO of the point engine at once; in replay its reply comes from
the journal or is already under way. -/
def execGet (i : Issue) (s : State) : Out :=
  s.opIssue i 0x1B .get (fun s e b => s.pntBlockOk e 1 b) (fun _ => false)
    (fun s e tag b =>
      if s.replaying e then s else (s.pntPush e (.get e tag (rdLE b 0 4 % 2 ^ 23))).2.pntSettle)

/-- TXQ: a cluster output. -/
def execTxq (i : Issue) (s : State) : Out :=
  s.opIssue i 0x1C .txq (fun s e b => s.txqOk e b) (fun _ => true)
    (fun s e tag b => s.outPut e (.frame tag b))

/-- RXQ: a standing request, in issue order; the RXQ interrupt no longer holds (Table 11-11). -/
def execRxq (i : Issue) (s : State) : Out :=
  s.opIssue i 0x1D .rxq (fun _ _ b => rxqOk b) (fun _ => false)
    (fun s e tag _ =>
      let c := s.core e
      s.setCore e { c with rxqs := c.rxqs ++ [tag], ipend := c.ipend &&& ~~~ (8 : Word) })

/-- DMA: a write is a cluster output. -/
def execDma (i : Issue) (s : State) : Out :=
  s.opIssue i 0x1E .dma (fun s e b => s.dmaOk e b) (fun b => rdLE b 1 1 == 1)
    (fun s e tag b => if rdLE b 1 1 = 1 then s.outPut e (.dmaWrite tag b) else s)

/-! ### Completions -/

/-- The operation of an engine's tag, of a kind, still outstanding. -/
def State.opOf (s : State) (e tag : Nat) (k : OpKind) : Option Op :=
  match (s.core e).ops.find? tag with
  | some o => if o.kind == k && !tst (s.core e).opdone.toNat tag then some o else none
  | none => none

/-- Completions reach an engine that its cluster's recovery does not hold back (Table 1-3). -/
def State.takesInput (s : State) (e : Nat) : Bool := s.running && !s.recovering e

/-- PUT_COMPLETION: the reply code is written and the tag completes (R267, R331). -/
def execPutCompletion (e : Fin 32) (tag : Fin 16) (s : State) : Out :=
  let g := s.eng e
  match takeFirst (fun p => p.1 == tag.val) g.putDone, s.opOf e tag .put with
  | some (p, rest), some o =>
    if s.takesInput e then
      let s := s.setEng e { g with putDone := rest }
      (s.input { eng := e, kind := 0x04, tag := tag, inline := p.2,
                 writes := [(o.blk + 0x18, leBytes 1 p.2)] }).done
    else .next s
  | _, _ => .next s

/-- GET_COMPLETION: quality, value, stamp and reply are written (R268, R331). -/
def execGetCompletion (e : Fin 32) (tag : Fin 16) (s : State) : Out :=
  let g := s.eng e
  match takeFirst (fun p => p.1 == tag.val) g.getDone, s.opOf e tag .get with
  | some (p, rest), some o =>
    if s.takesInput e then
      let s := s.setEng e { g with getDone := rest }
      let b := (splice o.desc 4 p.2).take 32
      (s.input { eng := e, kind := 0x05, tag := tag, payload := b,
                 writes := [(o.blk + 4, p.2)] }).done
    else .next s
  | _, _ => .next s

/-- TXQ_COMPLETION: status, and the egress stamp under flags bit 3 (R332). -/
def execTxqCompletion (e : Fin 32) (tag : Fin 16) (s : State) : Out :=
  let g := s.eng e
  match takeFirst (fun p => p.1 == tag.val) g.txDone, s.opOf e tag .txq with
  | some (p, rest), some o =>
    if s.takesInput e then
      let s := s.setEng e { g with txDone := rest }
      let st := p.2.1
      match p.2.2, tst (rdLE o.desc 1 1) 3 with
      | some t, true =>
        let b := leBytes 8 t.toNat
        (s.input { eng := e, kind := 0x04, tag := tag, inline := st, payload := b ++ leBytes 8 st,
                   writes := [(o.blk + 0x10, b), (o.blk + 0x18, leBytes 1 st)] }).done
      | _, _ =>
        (s.input { eng := e, kind := 0x04, tag := tag, inline := st,
                   writes := [(o.blk + 0x18, leBytes 1 st)] }).done
    else .next s
  | _, _ => .next s

/-- The descriptor fields an RXQ completion writes, from offset 0x08 (Table 11-8). -/
def RxFrame.desc (f : RxFrame) (blen : Nat) : List Byte :=
  leBytes 2 f.bytes.length ++ leBytes 2 f.ctx ++ leBytes 1 f.port ++
  leBytes 1 (f.cls + 8 * f.colour + 32 * bit (blen < f.bytes.length) + 64 * bit f.jab) ++
  leBytes 2 0 ++ leBytes 8 f.stamp.toNat

/-- A frame waits for an engine's contexts. -/
def State.rxFor (s : State) (e : Nat) (f : RxFrame) : Bool := s.ctxOwner f.ctx == some e

/-- The RXQ interrupt: a frame waits for the engine with no RXQ outstanding; journaled each time it
becomes pending (Tables 11-11 and 13-3). -/
def State.rxCheck (s : State) (e : Nat) : State :=
  if s.takesInput e && (s.core e).rxqs.isEmpty && !tst (s.core e).ipend.toNat 3 &&
     (s.cl (e / 2)).rx.any (s.rxFor e) then s.raiseIpend e 3 else s

/-- RXQ_COMPLETION: the next frame for the engine is copied into the oldest request's buffer and
kept until the commit (R333, R381). -/
def execRxqCompletion (e : Fin 32) (s : State) : Out :=
  let c := s.cl (e.val / 2)
  match (s.core e).rxqs, takeFirst (s.rxFor e) c.rx with
  | tag :: _, some (f, rest) =>
    match s.takesInput e, (s.core e).ops.find? tag with
    | true, some o =>
      let len := rdLE o.desc 4 2
      let d := f.desc len
      let s := s.setCl (e.val / 2) { c with rx := rest, keepCur := c.keepCur ++ [f] }
      let s := s.input { eng := e, kind := 0x02, tag := tag, inline := f.fid,
                         payload := o.desc.take 8 ++ d ++ o.desc.drop 24,
                         writes := [(rdLE o.desc 0 4, f.bytes.take len), (o.blk + 8, d)] }
      (s.rxCheck e).done
    | _, _ => .next s
  | _, _ => .next s

/-- DMA_COMPLETION: a read's data reach the bank, then the status; `bad` is an uncorrectable data
error, whose data are free values (R334, R379, R380, Table 12-3). -/
def execDmaCompletion (e : Fin 32) (tag : Fin 16) (bad : Bool) (s : State) : Out :=
  match s.opOf e tag .dma with
  | none => .next s
  | some o =>
    let st := bit bad
    let stw := (o.blk + 24, leBytes 1 st)
    if !s.takesInput e then .next s
    else if rdLE o.desc 1 1 = 1 then
      if (s.eng e).dmaDone.contains tag.val then
        let g := s.eng e
        let s := s.setEng e { g with dmaDone := g.dmaDone.filter (· ≠ tag.val) }
        (s.input { eng := e, kind := 0x07, tag := tag, inline := st, writes := [stw] }).done
      else .next s
    else match s.window? e (rdLE o.desc 0 1) with
      | none => .next s
      | some w =>
        let len := rdLE o.desc 12 4
        let d := if bad then Free.bytes s.sys.draws len else s.winRead w (rdLE o.desc 4 4) len
        let s := if bad then s.draw else s
        let ws := [(rdLE o.desc 8 4, d), stw]
        if s.volatile w || bad then
          (s.input { eng := e, kind := 0x07, tag := tag, inline := st + len * 2 ^ 32,
                     payload := d ++ List.replicate (roundUp len 16 - len) 0, writes := ws }).done
        else
          let s := s.journal { eng := e, kind := 0x06, tag := tag,
                               inline := st + (crc32c d).toNat * 2 ^ 32, writes := [stw] }
          (s.applyInput { eng := e, kind := 0x06, tag := tag, writes := ws }).done

/-! ### OPWAIT -/

/-- A tag's done bit cleared and the tag freed (R331). -/
def EngCore.freeTags (c : EngCore) (mask : Nat) : EngCore :=
  let done := c.opdone.toNat &&& mask
  { c with opdone := c.opdone &&& ~~~ BitVec.ofNat 16 mask,
           ops := c.ops.filter (fun p => !tst done p.1) }

/-- OPWAIT rd, rs1. -/
def execOpwait (i : Issue) (s : State) : Out :=
  s.instr i { major := 0x1F, badIn := fun c w => !(c.ops.keys.any (tst (c.r (fRs1 w) % 2 ^ 16))) }
    (fun s e w =>
    let c := s.core e
    let m := c.r (fRs1 w) % 2 ^ 16
    match (List.range 16).find? (fun t => tst m t && tst c.opdone.toNat t) with
      | some t => .go (s.setCore e ((c.freeTags (2 ^ t)).setR (fRd w) t))
      | none => .stall s)

end Sys2Proof.Machine
end

