-- ==== Sys2Proof/Machine/SwitchOps.lean ====
section
/-! DEFINITION. Operations of the switch core: tables, parsing, buffer accounting, admission,
push-out, release and capture (R155, R178 to R209). -/

namespace Sys2Proof.Machine

/-! ### Tables -/

def State.swPort (s : State) (n : Nat) : SwPort := s.sw.port.get {} n
def State.setSwPort (s : State) (n : Nat) (p : SwPort) : State :=
  { s with sw := { s.sw with port := s.sw.port.set n p } }

/-- The entry of a switch table in the current generation. -/
def State.swRec (s : State) (typ inst : Nat) : Option Rec :=
  s.sw.tables.find? (fun r => r.typ == typ && r.inst == inst)

/-- Enabled station ports, as a mask. -/
def State.enabledPorts (s : State) : Nat :=
  fields (((List.range 64).filter (fun n => s.portPresent n && (s.port n).enabled)).map (fun n => (1, n)))

/-- Members and untag set of a VLAN; without any SW.VLAN record, VLAN 1 has every enabled station port
as an untagged member (R210). -/
def State.vlan (s : State) (vid : Nat) : Option (Nat × Nat) :=
  match s.swRec 0x0305 vid with
  | some r => some (rdLE r.body 0 8, rdLE r.body 8 8)
  | none =>
    if vid = 1 && (s.recsOf 0x0305).isEmpty then some (s.enabledPorts, s.enabledPorts) else none

def SwPort.pvid (p : SwPort) : Nat := bits p.pcfg.toNat 27 16
def SwPort.defClass (p : SwPort) : Nat := bits p.pcfg.toNat 14 12
def SwPort.colourAware (p : SwPort) : Bool := tst p.pcfg.toNat 11
def SwPort.ingressFilter (p : SwPort) : Bool := tst p.pcfg.toNat 8
def SwPort.learnOn (p : SwPort) : Bool := tst p.pcfg.toNat 9
def SwPort.floodUc (p : SwPort) : Bool := tst p.pcfg.toNat 10
/-- The override profile as 0 ASSURE, 1 SWIFT, 2 CAPACITY. -/
def SwPort.profile (p : SwPort) : Option Nat :=
  let x := bits p.pcfg.toNat 6 4
  if 1 ≤ x && x ≤ 3 then some (x - 1) else none
def SwPort.pushout (p : SwPort) : Nat := bits p.pcfg.toNat 3 0

/-- Cut-through for class `c` on egress port `n` under R40, before the speed check (eff_ct). -/
def State.ctMode (s : State) (n c : Nat) : Bool :=
  let p := s.swPort n
  let m := bits p.mode.toNat (2 * c + 1) (2 * c)
  if m = 1 then false
  else if m = 2 then true
  else c < 6 || (p.profile.getD s.profile) != 0

/-- The speed check: cut-through only when the ingress speed is not below the egress speed (R40). -/
def State.speedOk (s : State) (src dst : Nat) : Bool :=
  src < 68 && mbps dst (s.port dst).speed ≤ mbps src (s.port src).speed

/-- Cut-through for a transit frame of the fabric before the speed check: in every profile, unless the (port, class)
override is store-and-forward (R39, R40, R238). -/
def State.ctTransit (s : State) (n c : Nat) : Bool := bits (s.swPort n).mode.toNat (2 * c + 1) (2 * c) != 1

/-- A destination of a frame from `src`: its forwarding mode, and the RED profile of its class and colour with its
parameters in the current generation. -/
def State.mkDest (s : State) (src n c colour : Nat) : Dest :=
  let prof := ((s.swPort n).red.getD (3 * c + colour) 0).toNat
  let ct := if 64 ≤ src then s.ctTransit n c else s.ctMode n c
  { port := n, ct := ct && s.speedOk src n, prof := prof,
    red := match s.swRec 0x0303 prof with | some r => r.body | none => [] }

/-! ### Quotas (R196, R200; Table 6-10) -/

/-- SW_QCFGn_c as a word. -/
def State.qcfgWord (s : State) (n c : Nat) : Word :=
  s.sw.qcfg.get (if 68 ≤ n then (if c = 0 then 0x01000020 else 0)
    else if 6 ≤ c then 0x04000004 else 0x04000000) (8 * n + c)
def State.qMax (s : State) (n c : Nat) : Nat := bits (s.qcfgWord n c).toNat 31 16 * 4
def State.qReserve (s : State) (n c : Nat) : Nat := bits (s.qcfgWord n c).toNat 15 0 * 4
def State.pmaxWord (s : State) (n : Nat) : BitVec 16 := s.sw.pmax.get (if 68 ≤ n then 256 else 2048) n
def State.portMax (s : State) (n : Nat) : Nat := (s.pmaxWord n).toNat * 4

/-- Sum of all reserves (R196): 68 ports of 8 classes and 16 cluster queues. -/
def State.reserves (s : State) : Nat :=
  ((List.range 544).map (fun i => s.qReserve (i / 8) (i % 8))).foldl (· + ·) 0 +
  ((List.range 16).map (fun k => s.qReserve (68 + k) 0)).foldl (· + ·) 0

def State.poolSize (s : State) : Nat := 262144 - s.reserves
def State.poolUsed (s : State) : Nat := (s.sw.frames.map (fun p => p.2.pool)).foldl (· + ·) 0

def State.queue (s : State) (n c : Nat) : List Copy := s.sw.queue.get [] (8 * n + c)
def State.setQueue (s : State) (n c : Nat) (q : List Copy) : State :=
  { s with sw := { s.sw with queue := s.sw.queue.set (8 * n + c) q } }

def copyCells (q : List Copy) : Nat := (q.map (·.cells)).foldl (· + ·) 0
def State.qUse (s : State) (n c : Nat) : Nat := copyCells (s.queue n c)
def State.portUse (s : State) (n : Nat) : Nat := ((List.range 8).map (s.qUse n)).foldl (· + ·) 0

/-- Cells of a cluster receive queue, the frames retained for the commit included (R381). -/
def State.crqUse (s : State) (k : Nat) : Nat :=
  let c := s.cl k
  ((c.rx ++ c.keepPrev ++ c.keepCur).map (fun f =>
    ceilDiv (match s.sw.frames.find? f.fid with
      | some g => g.len
      | none => f.bytes.length + 4) 64)).foldl (· + ·) 0

/-- The beyond-reserve part a queue adds for `n` more cells (R196). -/
def beyond (use reserve n : Nat) : Nat := (use + n - reserve) - (use - reserve)

/-! ### Frames -/

def State.frame (s : State) (fid : Nat) : Option Frame := s.sw.frames.find? fid
def State.setFrame (s : State) (fid : Nat) (f : Frame) : State :=
  { s with sw := { s.sw with frames := s.sw.frames.set fid f } }

/-- A new frame in the buffer. -/
def State.newFrame (s : State) (f : Frame) : Nat × State :=
  let i := s.sw.nextFid + 1
  (i, { s with sw := { s.sw with frames := s.sw.frames.set i f, nextFid := i } })

/-- A verdict of Table 6-5 from a frame's copies and refusals; where none was admitted and the
refusals differ the spec states no order, and one of them is taken freely (log 41). -/
def State.verdict (s : State) (f : Frame) : Nat :=
  if f.bad then 0x0D
  else if f.pushed then 0x07
  else if f.egress.isSome then (if f.refused.isEmpty then 0x00 else 0x01)
  else if f.delivered then 0x02
  else f.refused.getD ((Free.word s.sys.draws).toNat % max 1 f.refused.length) 0x03 % 16

/-! ### Parsing (R155, R179, R183) -/

/-- What the parser finds: addresses (first octet lowest), tags (type, TCI), whether an HSR header
stands, its sequence number, the EtherType and the offset of the payload. -/
structure Parsed where
  da   : BitVec 48
  sa   : BitVec 48
  tags : List (Nat × Nat)
  hsr  : Option (BitVec 16)
  et   : Nat
  pay  : Nat

/-- An 802.1Q or 802.1ad tag at `off` (R155, R180). -/
def tagAt (b : List Byte) (off : Nat) : Bool :=
  let t := rdBE b off 2
  t == 0x8100 || t == 0x88A8

/-- A frame parsed: up to two tags, an HSR header (PRESUMED EtherType 0x892F and layout, log 42),
the EtherType. -/
def parse (b : List Byte) : Parsed :=
  let n := if tagAt b 12 then (if tagAt b 16 then 2 else 1) else 0
  let o := 12 + 4 * n
  let h := rdBE b o 2 == 0x892F
  let e := if h then o + 6 else o
  { da := BitVec.ofNat 48 (rdLE b 0 6), sa := BitVec.ofNat 48 (rdLE b 6 6),
    tags := (List.range n).map (fun i => (rdBE b (12 + 4 * i) 2, rdBE b (14 + 4 * i) 2)),
    hsr := if h then some (BitVec.ofNat 16 (rdBE b (o + 4) 2)) else none,
    et := rdBE b e 2, pay := e + 2 }

/-- The PRP trailer at the end of a body without FCS: its sequence number and LanId (PRESUMED
layout, log 42). -/
def prpOf (b : List Byte) : Option (BitVec 16 × Nat) :=
  if 6 ≤ b.length && rdBE b (b.length - 2) 2 == 0x88FB then
    some (BitVec.ofNat 16 (rdBE b (b.length - 6) 2), rdBE b (b.length - 4) 2 / 4096)
  else none

/-- max_len in force at a device time: the first write after it names the value before it (R159). -/
def Port.maxAt (p : Port) (t : DWord) : Nat :=
  match p.maxHist.find? (fun w => decide (t < w.1)) with
  | some w => w.2.toNat
  | none => p.maxLen.toNat

/-- The size limit M for a frame of `tags` tags under a max_len; `red`: a trailer or header on a pair (R155). -/
def State.limitOf (s : State) (n max_ tags : Nat) (red : Bool) : Nat :=
  if 64 ≤ n then 9216
  else max_ + 4 * min 2 tags + (if red && bits (s.port n).pair.toNat 5 4 ≠ 0 then 6 else 0)

/-- The size limit M of a port now. -/
def State.limitM (s : State) (n tags : Nat) (red : Bool) : Nat := s.limitOf n (s.port n).maxLen.toNat tags red

/-- M with the max_len that was in force at the frame's SFD, of raw stamp `raw` (R159). -/
def State.rxLimit (s : State) (n tags : Nat) (red : Bool) (raw : DWord) : Nat :=
  s.limitOf n ((s.port n).maxAt raw) tags red

/-- A host or Sage write of max_len (R159). -/
def State.setMaxLen (s : State) (n : Nat) (w : BitVec 16) : State :=
  let p := s.port n
  s.setPort n { p with maxLen := w, maxHist := p.maxHist ++ [(s.time.t, p.maxLen)] }

/-- A multicast or broadcast address. -/
def isGroup (a : BitVec 48) : Bool := a.getLsbD 0

/-- The address of port index `n` derived from the OTP MAC address, or from the serial's local one
(R161, R235). -/
def State.derivedAddr (s : State) (n : Nat) : BitVec 48 :=
  let base := if s.otp.mac ≠ 0 then beBytes 6 s.otp.mac.toNat
    else [0x02, 0x4C, 0x4D] ++ beBytes 3 (s.otp.serial.toNat % 2 ^ 24)
  BitVec.ofNat 48 (leNat (base.take 3 ++ beBytes 3 ((beNat (base.drop 3) + n) % 2 ^ 24)))

/-- The port's own address (R161). -/
def State.ownAddr (s : State) (n : Nat) : BitVec 48 :=
  if (s.port n).own ≠ 0 then (s.port n).own else s.derivedAddr n

/-- A local destination of a port: a unicast address that is its own or a valid filter entry (R160). -/
def State.isLocal (s : State) (n : Nat) (da : BitVec 48) : Bool :=
  !isGroup da && (da == s.ownAddr n ||
    (List.range 32).any (fun k =>
      let e := (s.port n).filt.get 0 k
      e.msb && BitVec.ofNat 48 e.toNat == da))

/-- The classifier key (Table 6-1). -/
def classKey (n : Nat) (isLoc red : Bool) (vid : Nat) (p : Parsed) (b : List Byte) : List Byte :=
  let v4 := p.et == 0x0800
  let v6 := p.et == 0x86DD
  let tci := match p.tags with
    | t :: _ => t.2
    | [] => 0
  let proto := if v4 then rdBE b (p.pay + 9) 1 else if v6 then rdBE b (p.pay + 6) 1 else 0
  let dscp := if v4 then rdBE b (p.pay + 1) 1 / 4 else if v6 then rdBE b p.pay 2 / 64 % 64 else 0
  let l4 := if v4 then p.pay + rdBE b p.pay 1 % 16 * 4 else p.pay + 40
  let ports := (v4 || v6) && (proto == 6 || proto == 17)
  [BitVec.ofNat 8 n,
   BitVec.ofNat 8 (fields [(bit isLoc, 0), (bit (!p.tags.isEmpty), 1), (bit v4, 2), (bit v6, 3), (bit red, 4)])] ++
  beBytes 2 (tci / 4096 * 4096 + vid) ++ (leBytes 6 p.da.toNat) ++ (leBytes 6 p.sa.toNat) ++
  beBytes 2 p.et ++ beBytes 2 (rdBE b p.pay 2) ++
  [BitVec.ofNat 8 proto, BitVec.ofNat 8 dscp] ++
  beBytes 2 (if ports then rdBE b l4 2 else 0) ++ beBytes 2 (if ports then rdBE b (l4 + 2) 2 else 0) ++
  beBytes 4 (if v4 then rdBE b (p.pay + 16) 4 else if v6 then rdBE b (p.pay + 36) 4 else 0) ++ [0, 0]

/-- The rule matches: (key XOR value) AND mask is zero in every byte (R183). -/
def ruleMatch (key : List Byte) (r : Rec) : Bool :=
  ((key.zip ((r.body.take 32).zip (r.body.drop 32))).all (fun p => (p.1 ^^^ p.2.1) &&& p.2.2 == 0))

/-- The matching rule with the lowest index (R183). -/
def State.rule? (s : State) (key : List Byte) : Option Rec :=
  (s.sw.tables.filter (fun r => r.typ == 0x0308 && ruleMatch key r)).foldl
    (fun (acc : Option Rec) r => match acc with
      | some a => if r.inst < a.inst then some r else acc
      | none => some r) none

/-! ### Forwarding database (R181) -/

/-- Bucket of an address and VID. -/
def fdbBucket (a : BitVec 48) (vid : Nat) : Nat := (crc32c (leBytes 6 a.toNat ++ leBytes 2 vid)).toNat % 16384

def State.fdb? (s : State) (a : BitVec 48) (vid : Nat) : Option FdbEntry :=
  s.sw.fdb.find? (fun e => e.addr == a && e.vid == vid)

/-- Entries in a bucket. -/
def State.bucketFill (s : State) (k : Nat) : Nat :=
  (s.sw.fdb.filter (fun e => fdbBucket e.addr e.vid == k)).length

/-- A source learned, moved or refused on port `n` (R181). -/
def State.learn (s : State) (n : Nat) (a : BitVec 48) (vid : Nat) : State :=
  match s.fdb? a vid with
  | some e =>
    if e.static then
      if e.kind = 0 && e.dest ≠ n then { s with sw := { s.sw with staticViol := satInc s.sw.staticViol } } else s
    else
      { s with sw := { s.sw with fdb := s.sw.fdb.map (fun x =>
          if x.addr == a && x.vid == vid then { x with dest := n, seen := s.sys.mono } else x) } }
  | none =>
    let lm := (s.swPort n).learnMax
    let mine := (s.sw.fdb.filter (fun e => !e.static && e.dest == n)).length
    if 4 ≤ s.bucketFill (fdbBucket a vid) || (lm ≠ 0 && lm ≤ mine) then
      { s with sw := { s.sw with learnFull := satInc s.sw.learnFull, event := s.sw.event ||| 16 } }
    else { s with sw := { s.sw with
      fdb := s.sw.fdb ++ [{ addr := a, vid := vid, kind := 0, dest := n, static := false, seen := s.sys.mono }] } }

/-! ### Meters (R186) -/

/-- A meter run for a frame of `len` bytes: the colour 0 green, 1 yellow, 2 red (RFC 2698). -/
def State.meter (s : State) (i len : Nat) (aware pre : Bool) : Nat × State :=
  match s.swRec 0x0304 i with
  | none => (bit pre, s)
  | some r =>
    let scale := 32000000
    let cbs := rdLE r.body 8 4 * scale
    let pbs := rdLE r.body 12 4 * scale
    let st := s.sw.meters.get { tc := cbs, tp := pbs, at_ := s.sys.mono } i
    let dt := s.sys.mono - st.at_
    let tc := min cbs (st.tc + dt * rdLE r.body 0 4)
    let tp := min pbs (st.tp + dt * rdLE r.body 4 4)
    let b := len * scale
    let (col, tc, tp) :=
      if tp < b then (2, tc, tp)
      else if (aware && pre) || tc < b then (1, tc, tp - b)
      else (0, tc - b, tp - b)
    (col, { s with sw := { s.sw with meters := s.sw.meters.set i { tc := tc, tp := tp, at_ := s.sys.mono } } })

/-! ### Capture (R205, R206) -/

/-- Capacity of the capture ring. -/
def State.capMode (s : State) : Nat := bits s.sw.capCtrl.toNat 17 16
def State.capSize (s : State) : Nat :=
  if s.capMode = 3 then bits s.sw.capCtrl.toNat 8 0 * 2 ^ 20 / 160 else 6553

/-- The FCS of a frame: the one it was received with, else the one its bytes make. -/
def Frame.fcsBytes (f : Frame) : List Byte := if f.fcs.isEmpty then leBytes 4 (crc32 f.bytes).toNat else f.fcs

/-- The capture record (Table 6-4); L counts the FCS. -/
def captureBytes (f : Frame) (v : Nat) : List Byte :=
  let b := ((f.bytes ++ f.fcsBytes).take (min 128 f.len)) ++ List.replicate 128 0
  b.take 128 ++ leBytes 8 f.stamp.toNat ++
  leBytes 8 (match f.egress with | some e => e.2.toNat | none => 0) ++
  leBytes 1 f.src ++ leBytes 1 (match f.egress with | some e => e.1 | none => 0xFF) ++
  leBytes 1 (f.cls + f.colour * 8) ++ leBytes 1 v ++ leBytes 2 f.gen.toNat ++ leBytes 2 f.len ++
  leBytes 2 (f.ctx.getD 0xFFFF) ++
  leBytes 2 (fields [(bit f.ctUsed, 0), (bit f.edge, 1), (bit f.stomped, 2)]) ++ leBytes 4 0

/-- A filter matches the frame (Table 6-13). -/
def filterMatch (x : List Byte) (f : Frame) (v : Nat) : Bool :=
  let port := rdLE x 0 1
  let dir := rdLE x 1 1
  let eg := match f.egress with | some e => e.1 | none => 0xFF
  (port == 0xFF || (tst dir 0 && port == f.src) || (tst dir 1 && port == eg && f.egress.isSome)) &&
  tst (rdLE x 2 1) f.cls && tst (rdLE x 4 2) v &&
  (rdLE x 6 2 == 0 || rdLE x 6 2 == (parse f.bytes).et) && (!tst (rdLE x 3 1) 0 || f.capRule)

/-- One record written to the ring (R206). -/
def State.capWrite (s : State) (rec_ : List Byte) : State :=
  let w := s.sw.capWr
  let mode := s.capMode
  if mode = 2 && s.capSize ≤ (w - s.sw.capRd).toNat then
    { s with sw := { s.sw with capLost := satInc s.sw.capLost, event := s.sw.event ||| 8 } }
  else if mode = 3 && (s.sys.dramFail || s.rmy.dramFailAt.isSome || s.capSize = 0) then
    { s with sw := { s.sw with capLost := satInc s.sw.capLost } }
  else
    let a := w.toNat % s.capSize * 160
    let mem := if mode = 3 then { s.mem with dram := Mem.writeBytes 0 s.mem.dram (0x48800000 + a) rec_ }
      else { s.mem with cap := Mem.writeBytes 0 s.mem.cap a rec_ }
    { s with mem := mem, sw := { s.sw with capWr := w + 1 } }

/-- A frame offered to the capture filters; each passes one match in sample_n; one record at most. -/
def State.capture (s : State) (f : Frame) : State :=
  if s.capMode = 0 then s
  else
    let v := s.verdict f
    let s := if 1 < f.refused.length then s.draw else s
    let hits := (List.range s.sw.filters.length).filter (fun i => filterMatch (s.sw.filters.getD i []) f v)
    let pass := hits.any (fun i =>
      (s.sw.capSeen.get 0 i) % max 1 (rdLE (s.sw.filters.getD i []) 8 4) == 0)
    let s : State := { s with sw := { s.sw with
      capSeen := hits.foldl (fun t i => t.upd 0 i (· + 1)) s.sw.capSeen } }
    if pass then s.capWrite (captureBytes f v) else s

/-! ### Release (R196, R203, R332) -/

/-- The TXQ status of a finished frame (Table 11-7). -/
def Frame.txStatus (f : Frame) : Nat :=
  if f.egress.isSome || f.first.isSome then 0
  else if f.refused.contains 0x0A then 2 else if f.refused.contains 0x0B then 3 else 1

/-- The frame leaves the buffer once reception has ended, no destination is left and no copy waits. -/
def State.tryRelease (s : State) (fid : Nat) : State :=
  match s.frame fid with
  | none => s
  | some f =>
    if f.ended && f.dests.isEmpty && f.copies = 0 then
      let s := s.capture f
      let s : State := { s with sw := { s.sw with frames := s.sw.frames.del fid } }
      let stamp := f.first.orElse (fun _ => f.egress.map Prod.snd)
      match f.txq with
      | some (e, tag) =>
        match List.find? (fun p => p.2.txq == f.txq) s.sw.frames with
        | some (j, other) => s.setFrame j { other with first := other.first.orElse (fun _ => stamp) }
        | none =>
          let g := s.eng e
          s.setEng e { g with txDone := g.txDone ++ [(tag, f.txStatus, stamp)] }
      | none => s
    else s

/-- Unacknowledged cells forgotten: their frame has left, or has been dropped, at the output. -/
def State.dropCells (s : State) (p : CellTx → Bool) : State :=
  { s with sw := { s.sw with cells := s.sw.cells.filter (fun c => !p c) } }

/-- A copy has left or been dropped; `why` is the verdict code of a drop. The pool charge returns with
the last copy (R196). -/
def State.copyGone (s : State) (fid : Nat) (why : Option Nat) : State :=
  match s.frame fid with
  | none => s
  | some f =>
    let n := f.copies - 1
    ((if n = 0 then s.dropCells (fun x => x.fid == fid) else s).setFrame fid { f with
      copies := n, pool := if n = 0 then 0 else f.pool, pushed := f.pushed || (n = 0 && why == some 0x07),
      refused := f.refused ++ why.toList }).tryRelease fid

/-- A copy removed from its queue and dropped. -/
def State.dropCopy (s : State) (n c : Nat) (x : Copy) (why : Option Nat) : State :=
  ((s.setQueue n c ((s.queue n c).filter (fun y => y.fid != x.fid))).dropCells
    (fun y => y.fid == x.fid && y.out == n)).copyGone x.fid why

/-- The copy is in transmission, or partly sent. -/
def State.begun (s : State) (n : Nat) (x : Copy) : Bool :=
  (s.port n).tx.any (fun t => t.fid == x.fid) || (s.port n).held.any (fun t => t.fid == x.fid)

/-! ### RED and push-out (R198, R199) -/

/-- RED judged for a queue: the average updated, then dropped or not. -/
def State.redDrop (s : State) (n c : Nat) (d : Dest) : Bool × State :=
  if d.prof = 0 then (false, s)
  else if d.prof = 1 then (true, s)
  else
    let mn := rdLE d.red 0 2 * 256
    let mx := rdLE d.red 2 2 * 256
    let w := rdLE d.red 5 1
    let old := s.sw.avg.get 0 (8 * n + c)
    let (a, s) := s.whole ((old : Int) * (2 ^ w : Nat) + ((s.qUse n c * 256 : Nat) : Int) - old) (2 ^ w)
    let avg := a.toNat
    let s := { s with sw := { s.sw with avg := s.sw.avg.set (8 * n + c) avg } }
    if avg < mn then (false, s)
    else if mx ≤ avg then (true, s)
    else
      let u := (Free.word s.sys.draws).toNat
      (decide (u * (256 * (mx - mn)) < rdLE d.red 4 1 * (avg - mn) * 2 ^ 32), s.draw)

/-- The newest copy of a queue that may be evicted. -/
def State.victimIn (s : State) (n c : Nat) : Option Copy :=
  ((s.queue n c).reverse).find? (fun x => !s.begun n x)

/-- The next victim on the same port: lowest occupied class below `cls`, newest first. -/
def State.victimPort (s : State) (n cls : Nat) : Option (Nat × Nat × Copy) :=
  (List.range cls).findSome? (fun c => (s.victimIn n c).map (fun x => (n, c, x)))

/-- The next victim in the shared pool: lowest class, the port with the largest use of it, then the
lowest port. -/
def State.victimPool (s : State) (cls : Nat) : Option (Nat × Nat × Copy) :=
  (List.range cls).findSome? (fun c =>
    let best := (List.range 68).foldl (fun (acc : Option (Nat × Copy)) n =>
      match s.victimIn n c with
      | none => acc
      | some x => match acc with
        | some (m, _) => if s.qUse m c < s.qUse n c then some (n, x) else acc
        | none => some (n, x)) none
    best.map (fun p => (p.1, c, p.2)))

/-- Copies evicted until `ok` holds; none when the candidates do not free enough (R199). -/
def State.evictUntil (s : State) (n cls : Nat) (ok : State → Bool) : Nat → Option State
  | 0 => none
  | k + 1 =>
    if ok s then some s
    else
      match (s.victimPort n cls).orElse (fun _ => s.victimPool cls) with
      | none => none
      | some (m, c, x) =>
        let p := s.swPort m
        ((s.setSwPort m { p with pushed := satInc p.pushed }).dropCopy m c x (some 0x07)).evictUntil n cls ok k

/-! ### Admission (R197) -/

/-- The further pool charge that a queue's part makes for a frame that holds `have_` already. -/
def State.poolNeed (s : State) (n c cells have_ : Nat) : Nat :=
  beyond (s.qUse n c) (s.qReserve n c) cells - have_

/-- A refusal at an egress port. -/
def State.refuseAt (s : State) (fid n why : Nat) : State :=
  let p := s.swPort n
  let p := if why = 0x0A then { p with dropLink := satInc p.dropLink }
    else if why = 0x05 then { p with dropRed := satInc p.dropRed }
    else { p with dropQuota := satInc p.dropQuota }
  let s := s.setSwPort n p
  match s.frame fid with
  | some f => s.setFrame fid { f with refused := f.refused ++ [why] }
  | none => s

/-- The core port of a frame's source: station lanes, fabric ports, clusters, the service port (R189). -/
def corePort (src : Nat) : Nat :=
  if src < 64 then src / 4 else if src < 68 then 16 + (src - 64) else if src < 84 then 20 + (src - 68) else 36

/-- The plane of core port `i` at cell slot `t`: the working planes in cyclic order, whatever the destination; modulo
3 while the core is degraded (R189, R192). -/
def State.planeAt (s : State) (i t : Nat) : Nat :=
  let w := maskBits 5 s.sw.working.toNat
  w.getD ((i + t) % max 1 w.length) 0

/-- The cells of a frame sent to an output, each through the plane of its slot, and held until the output has
acknowledged them (R189, R190). -/
def State.sendCells (s : State) (fid src out cells : Nat) : State :=
  let i := corePort src
  let q := s.sw.cellSeq.get 0 (85 * i + out)
  let l := (List.range cells).map (fun k =>
    ({ inp := i, out := out, seq := q + k, fid := fid, plane := s.planeAt i (s.sw.slot + k) } : CellTx))
  { s with sw := { s.sw with cells := s.sw.cells ++ l, slot := s.sw.slot + cells,
                             cellSeq := s.sw.cellSeq.set (85 * i + out) (q + cells) } }

/-- A copy admitted to its class queue. -/
def State.takeIn (s : State) (fid n c cells : Nat) (ct : Bool) : State :=
  match s.frame fid with
  | none => s
  | some f =>
    let s := (s.setFrame fid { f with
      copies := f.copies + 1, admitted := true, pushed := false,
      pool := f.pool + s.poolNeed n c cells f.pool }).sendCells fid f.src n cells
    s.setQueue n c (s.queue n c ++ [{ fid := fid, cells := cells, since := s.sys.mono, ct := ct }])

/-- One egress destination judges a frame of `cells` cells (R197). -/
def State.judgeAt (s : State) (fid : Nat) (d : Dest) (cells : Nat) (ct : Bool) : State :=
  match s.frame fid with
  | none => s
  | some f =>
    let n := d.port
    let c := f.cls
    if !(s.port n).up then s.refuseAt fid n 0x0A
    else
      let (dropped, s) := s.redDrop n c d
      if dropped then s.refuseAt fid n 0x05
      else if s.qMax n c < s.qUse n c + cells then s.refuseAt fid n 0x06
      else
        let ok (s : State) : Bool :=
          s.portUse n + cells ≤ s.portMax n && s.poolUsed + s.poolNeed n c cells f.pool ≤ s.poolSize
        if ok s then s.takeIn fid n c cells ct
        else if (s.swPort n).pushout ≤ c then
          match s.evictUntil n c ok (1 + (s.sw.queue.map (fun p => p.2.length)).foldl (· + ·) 0) with
          | some t => t.takeIn fid n c cells ct
          | none => s.refuseAt fid n 0x06
        else s.refuseAt fid n 0x06

/-- Whole frames of the device's own, each with its one destination, offered together (R197). -/
def State.sendFrames (s : State) (l : List (Frame × Dest)) : State :=
  let (ids, s) := l.foldl (fun (acc : List (Nat × Dest × Nat) × State) x =>
    let (i, s) := acc.2.newFrame x.1
    (acc.1 ++ [(i, x.2, x.1.len)], s)) ([], s)
  let s := ids.foldl (fun s x => s.judgeAt x.1 x.2.1 (ceilDiv x.2.2 64) false) s
  ids.foldl (fun s x => s.tryRelease x.1) s

/-- A frame offered to the receive queue of the cluster that owns its context (R195, R197). The refusal at a
stopped instance is no quota refusal (R302): it is kept as 0x1C, whose verdict is 0x0C. -/
def State.judgeCluster (s : State) (fid : Nat) (f : Frame) (x : RxFrame) : State :=
  match s.ctxOwner x.ctx with
  | none => s
  | some e =>
    let k := e / 2
    let cells := ceilDiv f.len 64
    let use := s.crqUse k
    let need := beyond use (s.qReserve (68 + k) 0) cells - f.pool
    if (s.eng e).st == .stopped || (s.eng e).st == .trapHalt then
      let s : State := { s with sw := { s.sw with crqDrop := s.sw.crqDrop.upd 0 k satInc } }
      s.setFrame fid { f with refused := f.refused ++ [0x1C] }
    else if s.qMax (68 + k) 0 < use + cells || s.portMax (68 + k) < use + cells ||
       s.poolSize < s.poolUsed + need then
      let s : State := { s with sw := { s.sw with crqDrop := s.sw.crqDrop.upd 0 k satInc } }
      s.setFrame fid { f with refused := f.refused ++ [0x0C] }
    else
      let s := (s.setFrame fid { f with
        copies := f.copies + 1, delivered := true, pushed := false,
        pool := f.pool + need }).sendCells fid f.src (68 + k) cells
      let c := s.cl k
      s.setCl k { c with rx := c.rx ++ [{ x with fid := fid }] }

end Sys2Proof.Machine
end

