-- ==== Sys2Proof/Machine/ChiveOps.lean ====
section
/-! DEFINITION. Shared operations of the Chive island: pins, the output and point stages, lines and
the issue of an instruction (R432 to R450). -/

namespace Sys2Proof.Machine

def State.ce (s : State) (e : Nat) : CeEng := s.chv.eng.get {} e
def State.setCe (s : State) (e : Nat) (x : CeEng) : State :=
  { s with chv := { s.chv with eng := s.chv.eng.set e x } }
def State.grp (s : State) (g : Nat) : CeGroup := s.chv.group.get {} g
def State.setGrp (s : State) (g : Nat) (x : CeGroup) : State :=
  { s with chv := { s.chv with group := s.chv.group.set g x } }
def State.cpin (s : State) (p : Nat) : CePin := s.chv.pin.get {} p
def State.setCpin (s : State) (p : Nat) (x : CePin) : State :=
  { s with chv := { s.chv with pin := s.chv.pin.set p x } }
def State.line (s : State) (l : Nat) : Line := s.chv.line.get {} l
def State.setLine (s : State) (l : Nat) (x : Line) : State :=
  { s with chv := { s.chv with line := s.chv.line.set l x } }
def State.chvEvent (s : State) (b : Nat) : State :=
  { s with chv := { s.chv with event := s.chv.event ||| BitVec.ofNat 5 (2 ^ b) } }

def CeEng.r (x : CeEng) (i : Nat) : Word := x.g.get 0 i
def CeEng.setR (x : CeEng) (i : Nat) (v : Word) : CeEng := { x with g := x.g.set i v }

/-- Device time as T32 (R117). -/
def State.t32 (s : State) : Word := s.time.t.setWidth 32

/-! ### Lines (R306, R446) -/

def State.lineFld (s : State) (l off n : Nat) : Nat := s.fld 0x0806 l off n 0
/-- A pin field of PERS.SERIAL as a pin number. -/
def State.linePin (s : State) (l off : Nat) : Nat := s.lineFld l 1 1 * 8 + s.lineFld l off 1 % 8
/-- The line has a driver-enable pin. -/
def State.lineDe (s : State) (l : Nat) : Bool := s.fld 0x0806 l 4 1 0xFF != 0xFF
/-- The engine that runs a line's RX (program 5) or TX (program 6) program. -/
def State.lineEng (s : State) (l prog : Nat) : Option Nat :=
  (List.find? (fun (p : Nat × CeEng) => p.2.prog.toNat == prog && p.2.line == l && (s.rec? 0x0806 l).isSome) s.chv.eng).map Prod.fst

/-- The line that sends on a pin. -/
def State.txLine (s : State) (p : Nat) : Option Nat :=
  (List.range 16).find? (fun l => (s.rec? 0x0806 l).isSome && s.linePin l 2 == p)

/-! ### Pins (R432 to R435) -/

/-- An edge of a pin at its stamp. -/
def State.pinEdge (s : State) (p : Nat) (v : Bool) (stamp : DWord) : State :=
  let x := s.cpin p
  if x.raw = v then s
  else
    let x : CePin := if v then { x with raw := true, rise := stamp, lastRise := true, riseLatch := true, edgeAt := s.sys.mono }
                     else { x with raw := false, fall := stamp, lastRise := false, fallLatch := true, edgeAt := s.sys.mono }
    let s := s.setCpin p x
    match s.txLine p with
    | some l =>
      let y := s.line l
      if !v && y.cur.isSome && y.first.isNone then s.setLine l { y with first := some stamp } else s
    | none => s

/-- The level register of a pin; it shows at the ball while the pin is an output. PPS_IN is input only
(R432); PPS_OUT rises only where R139 lets it. -/
def State.setLevel (s : State) (p : Nat) (v : Bool) : State :=
  if p = 64 then s
  else
    let v := if p = 65 then v && s.ppsMay else v
    let x := s.cpin p
    let s := s.setCpin p { x with drive := v }
    if x.out || p = 65 then s.pinEdge p v s.time.t else s

/-- The direction of a pin; PPS_IN and PPS_OUT have one (R432). -/
def State.setDir (s : State) (p : Nat) (v : Bool) : State :=
  if 64 ≤ p then s
  else
    let x := s.cpin p
    let s := s.setCpin p { x with out := v }
    if v then s.pinEdge p x.drive s.time.t else s

/-- The engine that owns a pin; 32 stands for the line assembler and the time island (R434). -/
def State.pinOwner (s : State) (p : Nat) : Option Nat :=
  let f := (s.cpin p).func.toNat
  let progOf (k : Nat) : Option Nat :=
    some (((List.range 4).map (· + p / 8 * 4)).find? (fun e => (s.ce e).prog.toNat == k) |>.getD 32)
  let line := (List.range 16).find? (fun l => (s.rec? 0x0806 l).isSome &&
    (s.linePin l 2 == p || s.linePin l 3 == p || (s.lineDe l && s.linePin l 4 == p)))
  match line with
  | some l =>
    if s.linePin l 2 = p then some ((s.lineEng l 6).getD 32)
    else if s.linePin l 3 = p then some ((s.lineEng l 5).getD 32) else some 32
  | none =>
    if 64 ≤ p then none
    else if s.fld 0x0405 0 0 1 0xFF = p then progOf 3
    else if s.fld 0x0405 0 1 1 0xFF = p then progOf 4
    else if f = 1 || f = 2 || (p % 2 == 1 && (s.cpin (p - 1)).func == 2) then progOf 7
    else if f = 3 then progOf 8 else none

/-- Engine `e` may write pin `p`. -/
def State.mayDrive (s : State) (e p : Nat) : Bool :=
  match s.pinOwner p with | some o => o == e | none => true

/-- The local levels 9 to 0 of a group (R432, Table 15-2). -/
def State.levels (s : State) (g : Nat) : Nat :=
  fields ((List.range 8).map (fun i => (bit (s.cpin (8 * g + i)).raw, i)) ++
    (if g = 7 then [(bit (s.cpin 64).raw, 8), (bit (s.cpin 65).raw, 9)] else []))

/-- The pin an index of an instruction names, the pin offset added (R432); none when invalid. -/
def State.pinOf (s : State) (e i : Nat) : Option Nat :=
  let g := e / 4
  if i < 8 then
    let j := i + (s.ce e).po.toNat
    if j < 8 then some (8 * g + j) else none
  else if g = 7 && i = 8 then some 64
  else if g = 7 && i = 9 then some 65 else none

/-! ### The output stage (R450) -/

def State.pinFld (s : State) (p off n : Nat) : Nat := s.fld 0x0A02 p off n 0

/-- A binary output driven; the pin is then an output. -/
def State.driveOut (s : State) (p : Nat) (v : Bool) : State := (s.setLevel p v).setDir p true

/-- The output stage takes the level of a delivery, invert included (R450). -/
def State.outStage (s : State) (p : Nat) (v : Bool) : State :=
  let x := s.cpin p
  let on := v != x.invert
  if s.pinFld p 8 2 ≠ 0 then (s.setCpin p { x with pulse := on, pulseAt := s.sys.mono }).driveOut p v
  else if s.pinFld p 0xA 1 ≠ 0 then
    let g := s.grp (p / 8)
    let s := if x.waits.isSome then s.setGrp (p / 8) { g with late := satInc g.late } else s
    s.setCpin p { s.cpin p with waits := some v }
  else s.driveOut p v

/-- A change of a DRIVE takes effect, unless another engine owns the pin (R434). -/
def State.applyChange (s : State) (e : Nat) (c : PinChange) : State :=
  match c with
  | .level p v => if s.mayDrive e p then s.setLevel p v else s
  | .direction p v => if s.mayDrive e p then s.setDir p v else s
  | .stage p v => if s.mayDrive e p then s.outStage p v else s

/-! ### The point stage (R449) -/

/-- A PUT of the Chive input FIFO, the identity the pin (R438). -/
def State.chvPut (s : State) (point : Nat) (v : DWord) (eid : Nat) (stamp : DWord) : Bool × State :=
  s.pntPush 33 (.upd { point := point, value := v, quality := 0, stamp := stamp,
                       from_ := { src := 2, id := eid } })

/-- A change of a binary input as the engine gives it: single point, or double point whose two changes
of one cycle make one PUT with the earlier stamp. False while the FIFO is full. -/
def State.pointStage (s : State) (pin : Nat) (level : Bool) (stamp : DWord) : Bool × State :=
  let even := pin / 2 * 2
  if (s.cpin even).func = 2 then
    let t := s.setCpin pin { s.cpin pin with given := level }
    let x := t.cpin even
    if pin = even && x.merge.contains stamp then (true, t)
    else
      let (st, t) := match (if pin = even then [] else x.merge) with
        | m :: rest => (if m < stamp then m else stamp, t.setCpin even { x with merge := rest })
        | [] => (stamp, t)
      let v := 2 * bit (t.cpin even).given + bit (t.cpin (even + 1)).given
      let (ok, u) := t.chvPut (t.pinFld even 4 4) (BitVec.ofNat 64 v) pin st
      if ok then (true, u) else (false, s)
  else
    let x := s.cpin pin
    s.chvPut (s.pinFld pin 4 4) (BitVec.ofNat 64 (bit (level != x.invert))) pin stamp

/-! ### The line assembler (R446) -/

/-- Parity bit of a character. -/
def parityBit (odd : Bool) (bits_ : Nat) (x : Nat) : Nat :=
  bit (((maskBits bits_ x).length % 2 == 1) != odd)

def State.lineData (s : State) (l : Nat) : Nat := if tst (s.lineFld l 5 1) 3 then 7 else 8
def State.lineParity (s : State) (l : Nat) : Nat := bits (s.lineFld l 5 1) 1 0
def State.lineStops (s : State) (l : Nat) : Nat := if tst (s.lineFld l 5 1) 2 then 2 else 1
/-- nbits of a line. -/
def State.lineBits (s : State) (l : Nat) : Nat :=
  1 + s.lineData l + bit (s.lineParity l != 0) + s.lineStops l

/-- A character framed LSB first into one word, 1 in every bit above. -/
def State.frameChar (s : State) (l : Nat) (b : Byte) : Word :=
  let d := s.lineData l
  let x := b.toNat % 2 ^ d
  let par := if s.lineParity l = 0 then 0 else parityBit (s.lineParity l == 2) d x * 2 ^ (1 + d)
  let n := 1 + d + bit (s.lineParity l != 0)
  BitVec.ofNat 32 (2 * x + par + (2 ^ 32 - 2 ^ n))

/-- Words of the frame being sent enter the TX engine's OUT FIFO while it has room. -/
def State.lineFeed (s : State) (l : Nat) : Nat → State
  | 0 => s
  | k + 1 =>
    match s.lineEng l 6, (s.line l).cur with
    | some e, some t =>
      match t.words with
      | [] => s
      | w :: rest =>
        let x := s.ce e
        if x.outF.length < 8 then
          ((s.setCe e { x with outF := x.outF ++ [w] }).setLine l { s.line l with
            cur := some { t with words := rest } }).lineFeed l k
        else s
    | _, _ => s

/-- A TXQ of a serial frame completes (R446). -/
def State.lineTxDone (s : State) (t : LineTx) (status : Nat) (stamp : Option DWord) : State :=
  let g := s.eng t.eng
  s.setEng t.eng { g with txDone := g.txDone ++ [(t.tag, status, stamp)] }

/-- One bit time of a line, b of R446, in units of 250 ps. -/
def State.lineBitTime (s : State) (l : Nat) : Nat :=
  match s.lineEng l 6 with
  | some e => (s.ce e).k.toNat / 256
  | none => 0

/-- The idle time that ends a frame (Table 10-14): idle_bits, or the default of the personality; where that states none,
a free value (log 161). -/
def State.idleTime (s : State) (l : Nat) : Nat :=
  let b := s.lineBitTime l
  let n := s.lineFld l 0xC 2
  let code := s.fld 0x0801 (s.lineFld l 0 1) 0 1 0
  if n ≠ 0 then n * b
  else if code = 9 then
    if s.lineFld l 8 4 ≤ 19200 then ceilDiv (7 * s.lineBits l * b) 2 else 7000000
  else if code = 5 || code = 6 || code = 7 then 22 * b
  else Free.idleBits code * b

/-- No start bit has followed the last stop bit received for the idle time. -/
def State.rxQuiet (s : State) (l : Nat) : Bool :=
  let y := s.line l
  decide ((s.cpin (s.linePin l 3)).fall.toNat ≤ y.rxEnd.toNat) &&
  decide (y.rxEnd.toNat + s.idleTime l ≤ s.time.t.toNat)

/-- The line has been idle for the idle time in both directions. -/
def State.lineQuiet (s : State) (l : Nat) : Bool :=
  !(s.line l).rxOn && s.rxQuiet l && decide ((s.line l).txEnd.toNat + s.idleTime l ≤ s.time.t.toNat)

/-- de_guard_us in units of 250 ps. -/
def State.deGuard (s : State) (l : Nat) : Nat := s.lineFld l 6 2 * 4000

/-- The sender of a line moves on: the next frame begins, with de_pio only on an idle line; de_pio is driven high first
and the first word follows de_guard_us later. -/
def State.lineStart (s : State) (l : Nat) : State :=
  let y := s.line l
  let s := match y.cur, y.txq with
    | none, t :: rest =>
      let z : Line := { y with cur := some t, txq := rest, first := none, de := s.lineDe l, deAt := s.time.t }
      if !s.lineDe l then s.setLine l z
      else if s.lineQuiet l then (s.setLine l z).driveOut (s.linePin l 4) true
      else s
    | _, _ => s
  if !(s.line l).de || decide ((s.line l).deAt.toNat + s.deGuard l ≤ s.time.t.toNat) then s.lineFeed l 9 else s

/-- Every frame of a line completes with status 2: its TX engine has faulted. -/
def State.lineFail (s : State) (l : Nat) : State :=
  let y := s.line l
  let all := (match y.cur with | some t => [t] | none => []) ++ y.txq
  let s := s.setLine l { y with cur := none, txq := [], de := false }
  let s := if y.de then s.setLevel (s.linePin l 4) false else s
  all.foldl (fun s t => s.lineTxDone t 2 none) s

/-- A frame that an engine sends on a line. -/
def State.lineSend (s : State) (e tag l : Nat) (b : List Byte) : State :=
  let y := s.line l
  let t : LineTx := { eng := e, tag := tag, words := b.map (s.frameChar l) }
  let s := s.setLine l { y with txq := y.txq ++ [t] }
  match s.lineEng l 6 with
  | some n => if (s.ce n).st == .faulted then s.lineFail l else s.lineStart l
  | none => s.lineFail l

/-- The last stop bit has ended, with de_pio de_guard_us ago: T of the TX engine is the end of the last bit. -/
def State.lineOver (s : State) (l : Nat) : Bool :=
  match s.lineEng l 6 with
  | some e => !(s.line l).de || decide (0 ≤ (s.t32 - ((s.ce e).t + BitVec.ofNat 32 (s.deGuard l))).toInt)
  | none => true

/-- The frame on a line has left whole: after the last stop bit, or as de_pio falls (R446). -/
def State.lineSent (s : State) (l : Nat) : State :=
  let y := s.line l
  match y.cur with
  | some t =>
    if t.words.isEmpty && s.lineOver l then
      let s := s.setLine l { y with cur := none, nTx := satInc y.nTx, de := false, first := none, txEnd := s.time.t }
      let s := if y.de then s.setLevel (s.linePin l 4) false else s
      s.lineTxDone t 0 y.first
    else s
  | none => s

/-! ### Issue (R439, R440) -/

/-- What an instruction does once its fields have been judged. -/
inductive CeEff where
  /-- it completes; the next word follows -/
  | go (s : State)
  | jump (s : State) (pc : Nat)
  | stall (s : State)
  /-- it faults: 0 opcode, 1 field or pin, 2 target -/
  | fault (reason : Nat)

/-- A row: the opcode, the words of the row, the reserved words of the opcode, the words with a bit
that must be zero. -/
structure CeRow where
  op  : Nat
  is  : Nat → Bool := fun _ => true
  rsv : Nat → Bool := fun _ => false
  bad : Nat → Bool := fun _ => false

/-- The engine executes: its group runs and it is neither idle, faulted nor stopped. -/
def State.ceRuns (s : State) (e : Nat) : Bool :=
  s.running && (s.grp (e / 4)).started && ((s.ce e).st == .running || (s.ce e).st == .stalled)

/-- The word at an engine's pc in the active bank (R442). -/
def State.ceFetch (s : State) (e : Nat) : Nat :=
  let g := s.grp (e / 4)
  (g.store.get 0 (48 * g.bank + (s.ce e).pc)).toNat

/-- A fault of an engine (R439). -/
def State.ceFault (s : State) (e w reason : Nat) : State :=
  let x := s.ce e
  let s := (s.setCe e { x with st := .faulted,
                               fault := BitVec.ofNat 32 (reason * 2 ^ 30 + x.pc * 2 ^ 24 + w) }).chvEvent 0
  if x.prog = 6 then s.lineFail x.line else s

/-- pc after word 47 is not stated: free (log 54). -/
def State.ceNext (s : State) (e : Nat) : State :=
  let x := s.ce e
  if x.pc < 47 then s.setCe e { x with pc := x.pc + 1, st := .running }
  else (s.setCe e { x with pc := (Free.word s.sys.draws).toNat % 48, st := .running }).draw

/-- One tick of an engine: the word at its pc, if it is of the row (R439, R440). -/
def State.ceTick (s : State) (e : Nat) (row : CeRow) (f : State → Nat → CeEff) : State :=
  let w := s.ceFetch e
  if !s.ceRuns e || w / 2 ^ 20 ≠ row.op then s
  else if row.rsv w then s.ceFault e w 1
  else if !row.is w then s
  else if row.bad w then s.ceFault e w 1
  else match f s w with
    | .go t => t.ceNext e
    | .jump t pc => t.setCe e { t.ce e with pc := pc, st := .running }
    | .stall t => t.setCe e { t.ce e with st := .stalled }
    | .fault r => s.ceFault e w r

/-- The outcome of a Chive instruction's command. -/
def State.ceInstr (s : State) (e : Fin 32) (row : CeRow) (f : State → Nat → CeEff) : Out :=
  (s.ceTick e.val row f).done

end Sys2Proof.Machine
end

