-- ==== Sys2Proof/Machine/Chive.lean ====
section
/-! DEFINITION. The Chive instruction set (R439 to R441, Tables 15-2, 15-3 and 15-13). -/

namespace Sys2Proof.Machine

/-! ### SETV and ALU -/

/-- SETV: one half of a register, the other kept or zeroed. -/
def execSetv (e : Fin 32) (s : State) : Out :=
  s.ceInstr e { op := 0 } (fun s w =>
    let x := s.ce e
    let d := bits w 19 18
    let old := (x.r d).toNat
    let imm := bits w 15 0
    let keep := tst w 16
    let v := if tst w 17 then imm * 2 ^ 16 + (if keep then old % 2 ^ 16 else 0)
             else imm + (if keep then old / 2 ^ 16 * 2 ^ 16 else 0)
    .go (s.setCe e (x.setR d (BitVec.ofNat 32 v))))

/-- The ALU row of an operation; operations 12, 14 and 15 are reserved. `src`: the source register is
used; `imm`: the largest immediate, 0 where the field must be zero. -/
def ceAluRow (op : Nat) (src : Bool) (imm : Nat) : CeRow where
  op := 1
  is := fun w => bits w 19 16 == op
  rsv := fun w => bits w 19 16 == 12 || bits w 19 16 == 14 || bits w 19 16 == 15
  bad := fun w => (!src && bits w 13 12 != 0) || imm < bits w 11 0

/-- An ALU operation: the result of the old destination, the source and the immediate. -/
def State.ceAlu (s : State) (e : Fin 32) (op : Nat) (src : Bool) (imm : Nat)
    (f : CeEng → Word → Word → Nat → Word) : Out :=
  s.ceInstr e (ceAluRow op src imm) (fun s w =>
    let x := s.ce e
    let d := bits w 15 14
    .go (s.setCe e (x.setR d (f x (x.r d) (x.r (bits w 13 12)) (bits w 11 0)))))

/-- ADD. -/
def execChiveAdd (e : Fin 32) (s : State) : Out := s.ceAlu e 0 true 0 (fun _ d a _ => d + a)
/-- SUB. -/
def execChiveSub (e : Fin 32) (s : State) : Out := s.ceAlu e 1 true 0 (fun _ d a _ => d - a)
/-- ADDI. -/
def execChiveAddi (e : Fin 32) (s : State) : Out :=
  s.ceAlu e 2 false 4095 (fun _ d _ i => d + BitVec.ofNat 32 i)
/-- SUBI. -/
def execChiveSubi (e : Fin 32) (s : State) : Out :=
  s.ceAlu e 3 false 4095 (fun _ d _ i => d - BitVec.ofNat 32 i)
/-- AND. -/
def execChiveAnd (e : Fin 32) (s : State) : Out := s.ceAlu e 4 true 0 (fun _ d a _ => d &&& a)
/-- OR. -/
def execChiveOr (e : Fin 32) (s : State) : Out := s.ceAlu e 5 true 0 (fun _ d a _ => d ||| a)
/-- XOR. -/
def execChiveXor (e : Fin 32) (s : State) : Out := s.ceAlu e 6 true 0 (fun _ d a _ => d ^^^ a)
/-- MOV. -/
def execChiveMov (e : Fin 32) (s : State) : Out := s.ceAlu e 7 true 0 (fun _ _ a _ => a)
/-- SHRI, logical. -/
def execShri (e : Fin 32) (s : State) : Out := s.ceAlu e 8 false 31 (fun _ d _ i => d >>> i)
/-- SHLI. -/
def execShli (e : Fin 32) (s : State) : Out := s.ceAlu e 9 false 31 (fun _ d _ i => d <<< i)
/-- ORI. -/
def execChiveOri (e : Fin 32) (s : State) : Out :=
  s.ceAlu e 10 false 4095 (fun _ d _ i => d ||| BitVec.ofNat 32 i)
/-- LDK: the engine constant. -/
def execLdk (e : Fin 32) (s : State) : Out := s.ceAlu e 11 false 0 (fun x _ _ _ => x.k)
/-- ANDI. -/
def execChiveAndi (e : Fin 32) (s : State) : Out :=
  s.ceAlu e 13 false 4095 (fun _ d _ i => d &&& BitVec.ofNat 32 i)

/-! ### DRIVE (R441) -/

/-- The DRIVE row of a mode; mode 2 exists in G7 only and names no pin, mode 3 takes its pin and level
from a register. -/
def driveRow (e mode : Nat) : CeRow where
  op := 2
  is := fun w => bits w 19 18 == mode
  bad := fun w => bits w 8 0 != 0 || (mode == 2 && (e / 4 != 7 || bits w 13 10 != 0)) ||
    (mode == 3 && (bits w 13 9 != 0 || !tst w 16))

/-- The value a DRIVE gives: the field, or bit 0 of a register. -/
def CeEng.driveVal (x : CeEng) (w : Nat) : Bool :=
  if tst w 16 then tst (x.r (bits w 15 14)).toNat 0 else tst w 9

/-- A DRIVE: applied at the end of its tick, or handed to the timer with T; a second timed one stalls,
and one whose time has come is applied at once and counted late (R441). -/
def State.drive (s : State) (e : Nat) (timed : Bool) (c : PinChange) : CeEff :=
  if !timed then .go (s.applyChange e c)
  else
    let x := s.ce e
    if x.timed.isSome then .stall s
    else if 0 ≤ (s.t32 - x.t).toInt then
      let g := s.grp (e / 4)
      .go ((s.setGrp (e / 4) { g with late := satInc g.late }).applyChange e c)
    else .go (s.setCe e { x with timed := some (x.t, c) })

/-- DRIVE mode 0: the level of a pin. -/
def execDriveLevel (e : Fin 32) (s : State) : Out :=
  s.ceInstr e (driveRow e 0) (fun s w =>
    match s.pinOf e (bits w 13 10) with
    | some p => s.drive e (tst w 17) (.level p ((s.ce e).driveVal w))
    | none => .fault 1)

/-- DRIVE mode 1: the direction of a pin. -/
def execDriveDirection (e : Fin 32) (s : State) : Out :=
  s.ceInstr e (driveRow e 1) (fun s w =>
    match s.pinOf e (bits w 13 10) with
    | some p => s.drive e (tst w 17) (.direction p ((s.ce e).driveVal w))
    | none => .fault 1)

/-- DRIVE mode 2: PPS_OUT. -/
def execDrivePpsOut (e : Fin 32) (s : State) : Out :=
  s.ceInstr e (driveRow e 2) (fun s w => s.drive e (tst w 17) (.level 65 ((s.ce e).driveVal w)))

/-- DRIVE mode 3: the local pin and the level from a register; a binary output goes through the output
stage (R450). -/
def execDriveIndexed (e : Fin 32) (s : State) : Out :=
  s.ceInstr e (driveRow e 3) (fun s w =>
    let x := s.ce e
    let r := (x.r (bits w 15 14)).toNat
    let j := bits r 3 0 + x.po.toNat
    if 7 < j then .fault 1
    else
      let p := e.val / 4 * 8 + j
      let c : PinChange := if (s.cpin p).func = 3 && x.prog = 8 then .stage p (tst r 8)
                           else .level p (tst r 8)
      s.drive e (tst w 17) c)

/-! ### SENSE -/

def senseRow (kind : Nat) : CeRow where
  op := 3
  is := fun w => bits w 19 18 == kind
  rsv := fun w => bits w 19 18 == 3
  bad := fun w => bits w 11 0 != 0 || (kind == 2 && bits w 15 12 != 0)

/-- SENSE kind 0: a level shifted in from the top. -/
def execSenseShift (e : Fin 32) (s : State) : Out :=
  s.ceInstr e (senseRow 0) (fun s w =>
    match s.pinOf e (bits w 15 12) with
    | some p =>
      let x := s.ce e
      let d := bits w 17 16
      .go (s.setCe e (x.setR d ((x.r d >>> 1) ||| BitVec.ofNat 32 (bit (s.cpin p).raw * 2 ^ 31))))
    | none => .fault 1)

/-- SENSE kind 1: a level. -/
def execSenseLevel (e : Fin 32) (s : State) : Out :=
  s.ceInstr e (senseRow 1) (fun s w =>
    match s.pinOf e (bits w 15 12) with
    | some p => .go (s.setCe e ((s.ce e).setR (bits w 17 16) (BitVec.ofNat 32 (bit (s.cpin p).raw))))
    | none => .fault 1)

/-- SENSE kind 2: the levels of local pins 9 to 0. -/
def execSenseAll (e : Fin 32) (s : State) : Out :=
  s.ceInstr e (senseRow 2) (fun s w =>
    .go (s.setCe e ((s.ce e).setR (bits w 17 16) (BitVec.ofNat 32 (s.levels (e.val / 4))))))

/-! ### TIME -/

def timeRow (kind : Nat) : CeRow where
  op := 4
  is := fun w => bits w 19 17 == kind
  rsv := fun w => 5 ≤ bits w 19 17
  bad := fun w => bits w 14 12 != 0 || (kind != 1 && bits w 11 0 != 0) || (kind == 1 && bits w 16 15 != 0)

/-- A TIME instruction on the deadline and a register. -/
def State.ceTime (s : State) (e : Fin 32) (kind : Nat) (f : State → CeEng → Nat → Nat → CeEng) : Out :=
  s.ceInstr e (timeRow kind) (fun s w => .go (s.setCe e (f s (s.ce e) (bits w 16 15) (bits w 11 0))))

/-- TIME kind 0: T := T + reg. -/
def execTimeAdd (e : Fin 32) (s : State) : Out :=
  s.ceTime e 0 (fun _ x r _ => { x with t := x.t + x.r r })
/-- TIME kind 1: T := T32 + imm. -/
def execTimeNow (e : Fin 32) (s : State) : Out :=
  s.ceTime e 1 (fun s x _ i => { x with t := s.t32 + BitVec.ofNat 32 i })
/-- TIME kind 2: T := bits 31:0 of E + reg. -/
def execTimeFromStamp (e : Fin 32) (s : State) : Out :=
  s.ceTime e 2 (fun _ x r _ => { x with t := x.e.setWidth 32 + x.r r })
/-- TIME kind 3: reg := T. -/
def execTimeRead (e : Fin 32) (s : State) : Out := s.ceTime e 3 (fun _ x r _ => x.setR r x.t)
/-- TIME kind 4: T := reg. -/
def execTimeWrite (e : Fin 32) (s : State) : Out :=
  s.ceTime e 4 (fun _ x r _ => { x with t := x.r r })

/-! ### AWAIT (Table 15-3, R440) -/

/-- Fields an AWAIT kind does not use must be zero. -/
def awaitRow (kind : Nat) : CeRow where
  op := 5
  is := fun w => bits w 19 16 == kind
  rsv := fun w => 7 ≤ bits w 19 16
  bad := fun w => bits w 10 8 != 0 || (!(kind == 1 || kind == 2 || kind == 3) && bits w 15 12 != 0) ||
    (!(1 ≤ kind && kind ≤ 4) && tst w 11) || (kind != 5 && bits w 7 0 != 0)

/-- AWAIT kind 0: device time reaches T. -/
def execAwaitTime (e : Fin 32) (s : State) : Out :=
  s.ceInstr e (awaitRow 0) (fun s _ => if 0 ≤ (s.t32 - (s.ce e).t).toInt then .go s else .stall s)

/-- AWAIT kind 1: a pin's level equals pol. -/
def execAwaitLevel (e : Fin 32) (s : State) : Out :=
  s.ceInstr e (awaitRow 1) (fun s w =>
    match s.pinOf e (bits w 15 12) with
    | some p => if (s.cpin p).raw = tst w 11 then .go s else .stall s
    | none => .fault 1)

/-- AWAIT kind 2: an edge since the last STAMP of the pin with clr. -/
def execAwaitEdge (e : Fin 32) (s : State) : Out :=
  s.ceInstr e (awaitRow 2) (fun s w =>
    match s.pinOf e (bits w 15 12) with
    | some p => if (if tst w 11 then (s.cpin p).riseLatch else (s.cpin p).fallLatch) then .go s else .stall s
    | none => .fault 1)

/-- AWAIT kind 3: a group flag, cleared with pol 1 as the wait ends. -/
def execAwaitFlag (e : Fin 32) (s : State) : Out :=
  s.ceInstr e (awaitRow 3) (fun s w =>
    let f := bits w 15 12
    let g := s.grp (e.val / 4)
    if 8 ≤ f then .fault 1
    else if tst g.flags.toNat f then
      .go (if tst w 11 then s.setGrp (e.val / 4) { g with flags := g.flags &&& ~~~ BitVec.ofNat 8 (2 ^ f) }
           else s)
    else .stall s)

/-- AWAIT kind 4: the oldest queued instant of the kind leaves the queue; E := its T64. -/
def execAwaitInstant (e : Fin 32) (s : State) : Out :=
  s.ceInstr e (awaitRow 4) (fun s w =>
    let x := s.ce e
    match takeFirst (fun i : Bool × DWord => i.1 == tst w 11) x.insts with
    | some (i, rest) => .go (s.setCe e { x with insts := rest, e := i.2 })
    | none => .stall s)

/-- AWAIT kind 5: the oldest change of a pin in mask leaves the queue. -/
def execAwaitChange (e : Fin 32) (s : State) : Out :=
  s.ceInstr e (awaitRow 5) (fun s w =>
    let g := s.grp (e.val / 4)
    match takeFirst (fun c : CeChange => tst (bits w 7 0) (c.pin % 8)) g.queue with
    | some (c, rest) =>
      let s := s.setGrp (e.val / 4) { g with queue := rest }
      let x := s.ce e
      let x := x.setR 0 (BitVec.ofNat 32 (c.pin + 2 ^ 8 * bit c.level))
      .go (s.setCe e { x with e := c.stamp, eid := BitVec.ofNat 7 c.pin })
    | none => .stall s)

/-- AWAIT kind 6: the OUT FIFO is not empty. -/
def execAwaitOutFifo (e : Fin 32) (s : State) : Out :=
  s.ceInstr e (awaitRow 6) (fun s _ => if (s.ce e).outF.isEmpty then .stall s else .go s)

/-! ### BRANCH, STAMP, XFER, FLAG -/

/-- BRANCH conditions and the fields each leaves unused (Table 15-3). -/
def branchRow : CeRow where
  op := 6
  rsv := fun w => bits w 19 17 == 7
  bad := fun w =>
    let c := bits w 19 17
    bits w 9 6 != 0 || (c ≤ 2 && bits w 14 10 != 0) || (c == 0 && bits w 16 15 != 0) ||
    (5 ≤ c && (tst w 14 || bits w 16 15 != 0))

/-- BRANCH. -/
def execChiveBranch (e : Fin 32) (s : State) : Out :=
  s.ceInstr e branchRow (fun s w =>
    let c := bits w 19 17
    let t := bits w 5 0
    let r := (s.ce e).r (bits w 16 15)
    let pin := s.pinOf e (bits w 13 10)
    if 48 ≤ t then .fault 2
    else if 5 ≤ c && pin.isNone then .fault 1
    else
      let level := (s.cpin (pin.getD 0)).raw
      let b := match c with
        | 0 => true
        | 1 => r == 0
        | 2 => r != 0
        | 3 => tst r.toNat (bits w 14 10)
        | 4 => !tst r.toNat (bits w 14 10)
        | 5 => level
        | _ => !level
      if b then .jump s t else .go s)

/-- STAMP: E from device time or a pin's last edge; with clr the pin's edge latches clear. -/
def execStamp (e : Fin 32) (s : State) : Out :=
  s.ceInstr e { op := 7, bad := fun w => tst w 16 || bits w 11 0 != 0 } (fun s w =>
    match s.pinOf e (bits w 15 12) with
    | none => .fault 1
    | some p =>
      let x := s.cpin p
      let t := match bits w 19 18 with
        | 0 => s.time.t
        | 1 => x.rise
        | 2 => x.fall
        | _ => if x.lastRise then x.rise else x.fall
      let s := s.setCe e { s.ce e with e := t, eid := BitVec.ofNat 7 p }
      .go (if tst w 17 then s.setCpin p { x with riseLatch := false, fallLatch := false } else s))

def xferRow (give : Bool) : CeRow where
  op := 8
  is := fun w => tst w 19 == give
  bad := fun w => bits w 15 0 != 0

/-- The time island loads the next edge of a PPS or IRIG-B output program: its T32, then its level (R448). -/
def State.loadEdge (s : State) (e : Nat) : State :=
  let x := s.ce e
  if (x.prog = 2 || x.prog = 4) && x.outF.isEmpty then
    match s.nextEdge x.prog.toNat x.edgeAt x.edgeUp with
    | some (t, v) => s.setCe e { x with
        outF := [BitVec.ofNat 32 t, BitVec.ofNat 32 (bit v)], edgeAt := BitVec.ofNat 64 t, edgeUp := v }
    | none => s
  else s

/-- XFER take: the head of the OUT FIFO. A UART TX engine that comes for the next word finds its frame
sent; the PPS and IRIG-B output engines are loaded by the time island (R446, R448). -/
def execXferTake (e : Fin 32) (s : State) : Out :=
  s.ceInstr e (xferRow false) (fun s w =>
    let r := bits w 17 16
    let x := s.ce e
    let s := if x.prog = 6 && x.outF.isEmpty then (s.lineSent x.line).lineStart x.line else s.loadEdge e
    let x := s.ce e
    match x.outF with
      | v :: rest =>
        let s := s.setCe e { x.setR r v with outF := rest }
        .go (if x.prog = 6 then s.lineFeed x.line 9 else s.loadEdge e)
      | [] => if tst w 18 then .go s else .stall s)

/-- A word given to an engine's sink: the IN FIFO of host and line, a PUT of a bound point or of the point
stage, the time island, which takes it at once, and the IRIG-B decoder (R438, R447, Table 15-4). -/
def State.giveSink (s : State) (e : Nat) (v : Word) : Bool × State :=
  let x := s.ce e
  if x.prog = 7 then s.pointStage (v.toNat % 128) (tst v.toNat 8) x.e
  else match x.sink.toNat with
    | 1 => s.chvPut x.point (v.setWidth 64) x.eid.toNat x.e
    | 3 => (true, s)
    | 4 => (true, s.irigPulse v x.e)
    | _ =>
      if 8 ≤ x.inF.length then (false, s)
      else (true, s.setCe e { x with inF := x.inF ++ [{ word := v, e := x.e, eid := x.eid }] })

/-- XFER give: passed to the sink; when that is full it stalls, or with nb drops and counts the word. -/
def execXferGive (e : Fin 32) (s : State) : Out :=
  s.ceInstr e (xferRow true) (fun s w =>
    let x := s.ce e
    let (ok, t) := s.giveSink e (x.r (bits w 17 16))
    if ok then .go t
    else if tst w 18 then .go (s.setCe e { x with inLost := satInc x.inLost })
    else .stall s)

def flagRow (op : Nat) : CeRow where
  op := 9
  is := fun w => bits w 19 18 == op
  rsv := fun w => bits w 19 18 == 3
  bad := fun w => bits w 17 16 != 0 || bits w 11 0 != 0 ||
    (if op = 2 then bits w 15 12 != 0 else 8 ≤ bits w 15 12)

/-- FLAG op 0. -/
def execFlagSet (e : Fin 32) (s : State) : Out :=
  s.ceInstr e (flagRow 0) (fun s w =>
    let g := s.grp (e.val / 4)
    .go (s.setGrp (e.val / 4) { g with flags := g.flags ||| BitVec.ofNat 8 (2 ^ bits w 15 12) }))

/-- FLAG op 1. -/
def execFlagClear (e : Fin 32) (s : State) : Out :=
  s.ceInstr e (flagRow 1) (fun s w =>
    let g := s.grp (e.val / 4)
    .go (s.setGrp (e.val / 4) { g with flags := g.flags &&& ~~~ BitVec.ofNat 8 (2 ^ bits w 15 12) }))

/-- FLAG op 2: CHIVE_EVENT.sig. -/
def execFlagSig (e : Fin 32) (s : State) : Out :=
  s.ceInstr e (flagRow 2) (fun s _ => .go (s.chvEvent 4))

/-- CHIVE_RESERVED_OPCODE: opcodes 10 to 15 fault (R439). -/
def execChiveReservedOpcode (e : Fin 32) (s : State) : Out :=
  let w := s.ceFetch e.val
  if s.ceRuns e.val && 10 ≤ w / 2 ^ 20 then (s.ceFault e.val w 0).done else .next s

end Sys2Proof.Machine
end

