-- ==== Sys2Proof/Machine/Tt.lean ====
section
/-! DEFINITION. Schedule loads and swaps, gate boundaries, cuts and resumptions of guarded ports
(R211 to R230). -/

namespace Sys2Proof.Machine

/-! ### Schedule bodies (Tables 7-10 and 7-12) -/

/-- A TT.GATE body within Table 7-10 whose durations sum to its cycle, under sync_tol (R234). -/
def State.gateOk (s : State) (b : List Byte) : Bool :=
  let n := gateCount b
  b.length == 24 + 8 * n && 1 ≤ n && n ≤ 1024 &&
  250000 ≤ gateCycle b && gateCycle b ≤ 4000000000 && gatePhase b < gateCycle b &&
  100 ≤ rdLE b 8 4 && rdLE b 8 4 ≤ 50000 && rdLE b 12 4 ≤ 1000000 &&
  rdLE b 0x11 1 == 0 && rdLE b 0x14 4 == 0 &&
  (List.range n).all (fun e => 400 ≤ rdLE b (0x18 + 8 * e) 4 && rdLE b (0x1D + 8 * e) 3 == 0) &&
  ((gateEntries b).map Prod.fst).foldl (· + ·) 0 == gateCycle b &&
  4 * s.fld 0x0501 0 0 2 100 ≤ rdLE b 8 4

/-- Trigger `k` of a TT.CAN body: type, object, cycle_offset, repeat, mark, window. -/
structure CanTrig where
  typ : Nat
  obj : Nat
  off : Nat
  rep : Nat
  mark : Nat
  win : Nat
deriving DecidableEq, Repr

def canTrig (b : List Byte) (k : Nat) : CanTrig :=
  { typ := rdLE b (0x10 + 16 * k) 1, obj := rdLE b (0x11 + 16 * k) 1, off := rdLE b (0x12 + 16 * k) 1,
    rep := rdLE b (0x13 + 16 * k) 1, mark := rdLE b (0x14 + 16 * k) 2, win := rdLE b (0x16 + 16 * k) 2 }

def canRole (b : List Byte) : Nat := rdLE b 0 1
def canPrio (b : List Byte) : Nat := rdLE b 1 1
def canGuardBits (b : List Byte) : Nat := rdLE b 2 1
def canMatrix (b : List Byte) : Nat := rdLE b 3 1
def canCycle (b : List Byte) : Nat := rdLE b 4 2
def canRefBase (b : List Byte) : Nat := rdLE b 6 2
def canCount (b : List Byte) : Nat := rdLE b 8 1

/-- A power of 2 from 1 to 64. -/
def pow2ok (n : Nat) : Bool := [1, 2, 4, 8, 16, 32, 64].contains n

/-- A TT.CAN body within Table 7-12. -/
def canBodyOk (b : List Byte) : Bool :=
  let n := canCount b
  b.length == 16 + 16 * n && canRole b ≤ 1 && canPrio b ≤ 7 && 1 ≤ canGuardBits b && canGuardBits b ≤ 16 &&
  pow2ok (canMatrix b) && 64 ≤ canCycle b && canRefBase b < 2048 && canRefBase b % 8 == 0 &&
  1 ≤ n && n ≤ 64 && rdLE b 9 7 == 0 &&
  (List.range n).all (fun k =>
    let t := canTrig b k
    t.typ ≤ 4 && t.obj ≤ 63 && t.off < t.rep && pow2ok t.rep && t.rep ≤ canMatrix b &&
    t.mark < canCycle b && 1 ≤ t.win && t.win + t.mark ≤ canCycle b && rdLE b (0x18 + 16 * k) 8 == 0)

/-- Units of an accepted 0x502 that have not swapped yet. -/
def State.swapUnits (s : State) : List Nat :=
  match s.tt.swap with
  | some w => w.units
  | none => []

/-- SCHEDULE_LOAD (0x501): the inactive bank of a unit, in scheduler and guardian alike, verified by
CRC read-back (R220, R229). -/
def execScheduleLoad (q : Req) (s : State) : Out :=
  if s.running then
    (s.serve q 0x501 3 (fun s =>
      let u := q.word 1
      let b := s.bulkRead q.src.val (q.word 2) (q.word 3)
      if !bulkOk q.src.val (q.word 2) (q.word 3) ||
         !((u < 64 && s.gateOk b) || (0x80 ≤ u && u < 0x90 && canBodyOk b)) then .inr 0x12
      else if s.swapUnits.contains u then .inr 0x14
      else .inl (State.finish { s with tt := { s.tt with
        bank := s.tt.bank.set (2 * u + (1 - s.ttActive u)) b } } q 0x501))).done
  else .next s

/-! ### Common boundaries (R230) -/

/-- Bezout coefficient of `a` modulo `b`: x with a x ≡ gcd(a, b) (mod b). -/
def bezout : Nat → Int → Int → Int → Int → Int
  | 0, _, _, x, _ => x
  | f + 1, r0, r1, x0, x1 => if r1 = 0 then x0 else bezout f r1 (r0 % r1) x1 (x0 - r0 / r1 * x1)

/-- The times t ≡ a (mod m) that are also ≡ b (mod n). -/
def crt (p q : Nat × Nat) : Option (Nat × Nat) :=
  let (a, m) := p
  let (b, n) := q
  let g := Nat.gcd m n
  let d : Int := (b : Int) - a
  if g = 0 || d % (g : Int) ≠ 0 then none
  else
    let k := (d / g * bezout 200 m n 1 0) % ((n / g : Nat) : Int)
    some ((a + m * k.toNat) % (m / g * n), m / g * n)

/-- The first time from `lo` at which every schedule of the list has a cycle boundary. -/
def commonBoundary (lo : Nat) (bs : List (List Byte)) : Option Nat :=
  let r := (bs.filter (fun b => !b.isEmpty)).foldl (fun (acc : Option (Nat × Nat)) b =>
    match acc with
    | some p => crt p (gatePhase b % gateCycle b, gateCycle b)
    | none => none) (some (0, 1))
  match r with
  | some (a, m) => some (if lo ≤ a then a else a + roundUp (lo - a) m)
  | none => none

/-- SCHEDULE_SWAP_REQUEST (0x502). -/
def execScheduleSwapRequest (q : Req) (s : State) : Out :=
  if s.running then
    (s.serve q 0x502 3 (fun s =>
      let ports := maskBits 64 (q.dword 1).toNat
      let chans := (maskBits 16 (q.word 3)).map (· + 0x80)
      let units := ports ++ chans
      let lo := s.time.t.toNat + us 10
      let at_ := if chans.isEmpty then commonBoundary lo (ports.flatMap (fun n => [s.ttBank n 0, s.ttBank n 1]))
        else some lo
      if (!ports.isEmpty && !chans.isEmpty) || units.isEmpty || 2 ^ 16 ≤ q.word 3 then .inr 0x12
      else if s.tt.swap.isSome then .inr 0x14
      else if units.any (fun u => (s.ttBank u (1 - s.ttActive u)).isEmpty) then .inr 0x12
      else match at_ with
        | none => .inr 0x12
        | some b =>
          if s.time.t.toNat + 40000000000 < b then .inr 0x12
          else .inl (State.accept { s with tt := { s.tt with
            swap := some { src := q.src.val, tag := q.tag, units := units, at_ := BitVec.ofNat 64 b } } }
            q 0x502))).done
  else .next s

/-- One unit swaps its banks (R230). -/
def State.swapUnit (s : State) (u : Nat) : State :=
  let s : State := { s with tt := { s.tt with
    active := s.tt.active.set u (1 - s.ttActive u),
    bothTill := if u < 64 then s.tt.bothTill.set u (s.time.t + BitVec.ofNat 64 s.syncTol) else s.tt.bothTill } }
  s.ttLog u 8 0

/-- SCHEDULE_SWAP: of every named port at the common boundary, or of one channel at its matrix-cycle
start, the reference of cycle 0, at least 10 µs after the acceptance; with the last unit the request answers DONE (R230). -/
def execScheduleSwap (chan : Option (Fin 16)) (s : State) : Out :=
  match s.tt.swap with
  | none => .next s
  | some w =>
    if s.running && decide (w.at_ ≤ s.time.t) then
      let now := match chan with
        | none => w.units.filter (· < 64)
        | some k =>
          let x := s.tchan k.val
          if x.count = 0 && x.prio.isSome && decide (w.at_ ≤ x.refAt) then w.units.filter (· == 0x80 + k.val) else []
      let rest := w.units.filter (fun u => !now.contains u)
      let s := now.foldl (fun s u => s.swapUnit u) s
      if rest.isEmpty then
        (({ s with tt := { s.tt with swap := none } } : State).final w.src 0x502 w.tag 0x00 []).done
      else State.done { s with tt := { s.tt with swap := some { w with units := rest } } }
    else .next s

/-! ### Guarded ports -/

/-- GATE_ENTRY_BOUNDARY: the port stands in the entry of the present time (R211). -/
def execGateEntryBoundary (p : Fin 64) (s : State) : Out :=
  if s.running && s.guarded p.val then
    let b := s.sched p.val
    let i := (gateAt (gateEntries b) (gatePos b (s.time.t.toNat : Nat)) 0).1
    (s.setTport p.val { s.tport p.val with index := i }).done
  else .next s

/-- The latest cycle boundary of a guarded port at or before device time. -/
def State.lastBoundary (s : State) (n : Nat) : Int :=
  (s.time.t.toNat : Int) - gatePos (s.sched n) (s.time.t.toNat : Nat)

/-- A listen-only port may return (R222). -/
def State.mayReturn (s : State) (n : Nat) : Bool :=
  let p := s.tport n
  p.listen && decide ((p.cutAt.toNat : Int) + gateCycle (s.sched n) ≤ s.lastBoundary n) &&
  s.qualified && s.tt.cmpOk && !s.tt.disagree && !s.tt.guardFail

/-- A port stopped by the offset rule may resume (R216). -/
def State.mayResume (s : State) (n : Nat) : Bool :=
  let p := s.tport n
  p.stopped && 4 ≤ p.good && decide ((p.goodAt.toNat : Int) < s.lastBoundary n) && s.qualified

/-- TT_RESUME at a cycle boundary (R216, R222); a port closed by an error of the guardian's copy opens at the first
boundary after Sage has reloaded the copy (R223). -/
def execTtResume (p : Fin 64) (s : State) : Out :=
  let n := p.val
  if s.running && s.guarded n then
    let s := if (s.tport n).ecc && decide (((s.tport n).reloadAt.toNat : Int) ≤ s.lastBoundary n) then
        s.setTport n { s.tport n with ecc := false } else s
    let s := if s.mayReturn n then
        (s.setTport n { s.tport n with listen := false }).ttLog n 4 (s.tport n).index else s
    let s := if s.mayResume n then
        (s.setTport n { s.tport n with stopped := false, good := 0 }).ttLog n 4 (s.tport n).index else s
    s.done
  else .next s

/-- GUARD_CUT: a transmission still running at close − g/2 (R221). -/
def execGuardCut (p : Fin 64) (s : State) : Out :=
  let n := p.val
  if s.running && s.guarded n && (s.port n).tx.any (fun x => !x.cut && s.cutDue n x) then
    let s := ((s.cutTx n).stat n 79).listenPort n
    let q := s.tport n
    ((s.setTport n { q with cuts := satInc q.cuts }).ttLog n 1 q.index).done
  else .next s

/-- Time has been qualified without interruption for 100 ms, and 100 ms have passed since the disagreement (R224). -/
def State.mayRearm (s : State) : Bool :=
  s.tt.disagree && !s.tt.guardFail && s.qualified && s.tt.wasQual &&
  decide (s.tt.qualAt + ms 100 ≤ s.sys.mono) && s.tt.disAt.all (fun t => decide (t + ms 100 ≤ s.sys.mono))

/-- GUARDIAN_REARM: G := D (R224); the word on MB62 is taken. -/
def execGuardianRearm (s : State) : Out :=
  if s.running && s.mayRearm then
    (({ s with tt := { s.tt with disagree := false, gOff := 0 } } : State).take62 35).done
  else .next s

end Sys2Proof.Machine
end

