-- ==== Sys2Proof/Machine/CanOps.lean ====
section
/-! DEFINITION. Shared operations of the CAN FD channels: objects, priorities, power states, relays,
error counters and time-triggered references (R408 to R428, R225 to R228). -/

namespace Sys2Proof

/-- Arbitration rank: base identifier, base before extended, the extension. -/
def CanMsg.rank (m : CanMsg) : Nat :=
  if m.ide then (m.id.toNat / 2 ^ 18) * 2 ^ 19 + 2 ^ 18 + m.id.toNat % 2 ^ 18
  else (m.id.toNat % 2 ^ 11) * 2 ^ 19

/-- CANn_ERR.lec of a kind (Table 14-9). -/
def CanErrKind.lec : CanErrKind → Nat
  | .arbitration => 0 | .stuff => 1 | .form => 2 | .ack => 3 | .bitRecessive => 4
  | .bitDominant => 5 | .crc => 6

/-- The counter of a kind (Table 14-10). -/
def CanErrKind.cnt : CanErrKind → Nat
  | .arbitration => 4 | .bitRecessive => 5 | .bitDominant => 5 | .stuff => 6 | .crc => 7
  | .form => 8 | .ack => 9

/-- Bits of a frame from SOF to the end of EOF with the worst-case stuffing of ISO 11898-1, as
(nominal bits, data-phase bits). PRESUMED (log 53). -/
def CanMsg.worst (m : CanMsg) : Nat × Nat :=
  let n := m.data.length
  if m.fdf then
    let arb := if m.ide then 36 else 17
    let crc := if 16 < n then 4 + 21 + 7 else 4 + 17 + 6
    let data := 1 + 4 + 8 * n
    let nom := arb + (arb - 1) / 4 + 9
    let dat := data + data / 4 + crc + 1
    if m.brs then (nom, dat) else (nom + dat, 0)
  else
    let head := if m.ide then 54 else 34
    (head + 8 * n + (head + 8 * n - 1) / 4 + 10, 0)

end Sys2Proof

namespace Sys2Proof.Machine

def State.setChan (s : State) (c : Nat) (x : CanChan) : State := { s with can := s.can.set c x }

/-- A bit of CANn_EVENT set. -/
def State.canEvent (s : State) (c b : Nat) : State :=
  let x := s.chan c
  s.setChan c { x with event := x.event ||| BitVec.ofNat 17 (2 ^ b) }

/-- Counter CANn_CNTi advanced by one. -/
def State.canCount (s : State) (c i : Nat) : State :=
  let x := s.chan c
  s.setChan c { x with cnt := x.cnt.upd 0 i satInc }

def State.cobj (s : State) (c k : Nat) : CanObj := (s.chan c).obj.get {} k
def State.setCobj (s : State) (c k : Nat) (o : CanObj) : State :=
  let x := s.chan c
  s.setChan c { x with obj := x.obj.set k o }

/-! ### Records (Tables 14-11 to 14-13) -/

def State.chanFld (s : State) (c off n : Nat) : Nat := s.fld 0x0901 c off n 0
def State.objFld (s : State) (c k off n : Nat) : Nat := s.fld 0x0902 (64 * c + k) off n 0
def State.nmFld (s : State) (c off n : Nat) : Nat := s.fld 0x0903 c off n 0
def State.canNm (s : State) (c : Nat) : Bool := (s.rec? 0x0903 c).isSome

def State.objDir (s : State) (c k : Nat) : Nat := s.objFld c k 8 1
def State.objFlag (s : State) (c k b : Nat) : Bool := tst (s.objFld c k 9 1) b
def State.objTrigger (s : State) (c k : Nat) : Nat := s.objFld c k 0xB 1
/-- The point an object is bound to (Table 14-12). -/
def State.objPoint (s : State) (c k : Nat) : Option Nat :=
  let w := s.objFld c k 0x10 4
  if tst w 31 then some (bits w 22 0) else none

/-- One nominal bit time in units of 250 ps (R409): a quantum of 12.5 ns is 50 units. -/
def State.canNtu (s : State) (c : Nat) : Nat :=
  s.chanFld c 2 2 * (1 + s.chanFld c 4 2 + s.chanFld c 6 1) * 50

/-- One data bit time. -/
def State.canDtu (s : State) (c : Nat) : Nat :=
  s.chanFld c 8 1 * (1 + s.chanFld c 9 1 + s.chanFld c 0xA 1) * 50

/-- The stamp of a frame whose dominant SOF level is first sampled at `e` (R411). -/
def State.canStamp (s : State) (c : Nat) (e : DWord) : DWord :=
  e + BitVec.ofNat 64 ((1 + s.chanFld c 4 2) * s.chanFld c 2 2 * 50) - BitVec.ofNat 64 (s.chanFld c 0x12 2 * 4)

/-- The channel is enabled and may act (R424, R431). -/
def State.canOn (s : State) (c : Nat) : Bool := s.running && s.canMode c != 0

/-! ### Fields of a frame (R414) -/

/-- Bytes a field needs. -/
def State.fieldEnd (s : State) (c k : Nat) : Nat :=
  s.objFld c k 0x14 1 + ceilDiv (s.objFld c k 0x15 1 + s.objFld c k 0x16 1) 8

/-- The field value of an object in frame data. -/
def State.fieldGet (s : State) (c k : Nat) (d : List Byte) : Nat :=
  let off := s.objFld c k 0x14 1
  let bo := s.objFld c k 0x15 1
  let w := s.objFld c k 0x16 1
  if tst (s.objFld c k 0x17 1) 0 then rdBE d off (ceilDiv (bo + w) 8) / 2 ^ bo % 2 ^ w
  else leNat d / 2 ^ (8 * off + bo) % 2 ^ w

/-- Frame data of at least `n` bytes, padded with 0. -/
def padTo (n : Nat) (d : List Byte) : List Byte := d ++ List.replicate (n - d.length) 0

/-- The data with the field set to a value truncated to its width (R416). -/
def State.fieldPut (s : State) (c k : Nat) (d : List Byte) (v : Nat) : List Byte :=
  let off := s.objFld c k 0x14 1
  let bo := s.objFld c k 0x15 1
  let w := s.objFld c k 0x16 1
  let d := padTo (s.fieldEnd c k) d
  let m := v % 2 ^ w
  if tst (s.objFld c k 0x17 1) 0 then
    let n := ceilDiv (bo + w) 8
    let x := rdBE d off n
    splice d off (beBytes n (x - x / 2 ^ bo % 2 ^ w * 2 ^ bo + m * 2 ^ bo))
  else
    let x := leNat d
    let sh := 8 * off + bo
    leBytes d.length (x - x / 2 ^ sh % 2 ^ w * 2 ^ sh + m * 2 ^ sh)

/-! ### Point updates of receive objects (R414, R415) -/

/-- An update of an object enters the CAN FIFO of the point engine, or waits in the object; a newer one
replaces one that waits (R414). -/
def State.canPut (s : State) (c k : Nat) (v : DWord) (q : Word) (stamp : DWord) : State :=
  match s.objPoint c k with
  | none => s
  | some p =>
    let u : Update := { point := p, value := v, quality := q, stamp := stamp,
                        from_ := { src := 1, id := c } }
    let (ok, t) := s.pntPush 32 (.upd u)
    let o := t.cobj c k
    let t := t.setCobj c k { o with lastVal := some v, wait := if ok then none else some u }
    if !ok && o.wait.isSome then t.canCount c 13 else t

/-! ### Local requests and wake events (R425 to R427) -/

/-- A transmit object with wake_on_tx is pending. -/
def State.wakePend (s : State) (c : Nat) : Bool :=
  (s.chan c).obj.any (fun p => p.2.pending && s.objDir c p.1 == 2 && s.objFlag c p.1 4)

/-- A local request holds (R425). -/
def State.localReq (s : State) (c : Nat) : Bool :=
  (s.chan c).keepNow || (s.chan c).hostKeep || s.wakePend c

/-- Entry into AWAKE: the awake timer and the supervision clocks restart (R415, R428). -/
def State.enterAwake (s : State) (c : Nat) : State :=
  let x := s.chan c
  s.setChan c { x with
    ps := .awake, awakeAt := s.sys.mono, forced := false, wakeDue := false,
    obj := x.obj.map (fun p => (p.1, { p.2 with timedOut := false })) }

/-- Entry into WAKING (Table 14-4). -/
def State.enterWaking (s : State) (c : Nat) : State :=
  let x := s.chan c
  (s.setChan c { x with ps := .waking, gts := false, wakeDue := false, wakingAt := s.sys.mono }).canEvent c 10

/-- When the present AWAKE began, on the model's own clock: its last entry, not before READY. -/
def State.awakeSince (s : State) (c : Nat) : Nat := max (s.chan c).awakeAt s.sys.readyAt

/-- A wake event of source bit `b`, stamped; `hard` when it also counts in a forced prepare phase
(R427, R428). An event stamped before C aborts the prepare phase; one at or after C is latched. -/
def State.wakeEvent (s : State) (c b : Nat) (hard : Bool) (stamp : DWord) : State :=
  let x := s.chan c
  let latch : CanChan := { x with wake := x.wake ||| BitVec.ofNat 3 (2 ^ b), wakeDue := true }
  match x.ps with
  | .prepare =>
    if x.forced && !hard then s
    else if stamp < x.commitAt then ((s.enterAwake c).canCount c 16).canEvent c 11
    else s.setChan c latch
  | .sleep => if x.gts then s.setChan c latch else (s.setChan c latch).enterWaking c
  | .quiet => (s.setChan c latch).enterWaking c
  | _ => s

/-- A local request that has become true (R427); only wake_req counts in a forced phase. -/
def State.localWake (s : State) (c : Nat) (before host : Bool) : State :=
  if !before && s.localReq c then s.wakeEvent c 2 host s.time.t else s

/-! ### Transmission (R416, R417) -/

/-- The frame of a transmit object. -/
def State.objMsg (s : State) (c k : Nat) : CanMsg :=
  let w := s.objFld c k 0 4
  { id := BitVec.ofNat 29 w, ide := tst w 29, fdf := s.objFlag c k 0, brs := s.objFlag c k 1,
    esi := s.objFlag c k 0 && (s.chan c).passive,
    data := (padTo (s.objFld c k 0xA 1) (s.cobj c k).data).take (s.objFld c k 0xA 1) }

/-- A candidate at an arbitration. -/
structure CanCand where
  what  : CanWhat
  msg   : CanMsg
  since : DWord
  val   : Option (DWord × Word)
  num   : Nat
deriving DecidableEq, Repr

/-- A candidate goes before another: priority, then time pending, then object number (R417). -/
def CanCand.before (a b : CanCand) : Bool :=
  a.msg.rank < b.msg.rank ||
  (a.msg.rank == b.msg.rank && (a.since < b.since || (a.since == b.since && a.num < b.num)))

def CanCand.best (l : List CanCand) : Option CanCand :=
  l.foldl (fun acc x => match acc with
    | some a => if x.before a then some x else acc
    | none => some x) none

def State.ownCand (s : State) (c k : Nat) : CanCand :=
  let o := s.cobj c k
  { what := .obj k, msg := s.objMsg c k, since := o.since, val := o.val, num := k }

/-- The objects that are pending and not cancelled. -/
def State.ownPending (s : State) (c : Nat) : List Nat :=
  (List.range 64).filter (fun k => (s.cobj c k).pending && !(s.cobj c k).cancel)

/-- CANn_PEND. -/
def State.canPend (s : State) (c : Nat) : Nat :=
  fields ((List.range 64).map (fun k => (bit (s.cobj c k).pending, k)))

/-! ### Relay (R422) -/

/-- The partner takes a relay entry now. -/
def State.relayOpen (s : State) (d : Nat) : Bool :=
  d < 16 && s.canMode d == 1 && !(s.chan d).busOff && (s.chan d).ps == .awake && (s.chan d).relay.length < 8

/-- One pending relay object handed to the partner, highest priority first. -/
def State.relayOne (s : State) (c : Nat) : State :=
  let d := s.fld 0x0901 c 0xE 1 0xFF
  if s.canOn c && (s.chan c).busOff && s.relayOpen d then
    match CanCand.best (((s.ownPending c).filter (fun k => s.objFlag c k 3)).map (s.ownCand c)) with
    | some x =>
      let o := s.cobj c x.num
      let s := s.setCobj c x.num { o with pending := false }
      let y := s.chan d
      let r : CanRelay := { chan := c, obj := x.num, msg := x.msg, since := x.since, val := x.val }
      let s := s.setChan d { y with relay := y.relay ++ [r] }
      (s.canCount c 15).canEvent c 13
    | none => s
  else s

def State.relayUpTo (s : State) (c : Nat) : Nat → State
  | 0 => s
  | n + 1 => (s.relayOne c).relayUpTo c n

/-- Every bus-off channel hands over what its partner takes. -/
def State.relayAll (s : State) : State := (List.range 16).foldl (fun s c => s.relayUpTo c 8) s

/-- A local request of a channel that has begun, or has ended now (R426). -/
def State.holdNow (s : State) (c : Nat) : State :=
  let x := s.chan c
  if x.held == s.localReq c then s
  else s.setChan c { x with held := s.localReq c, heldAt := if x.held then s.sys.mono else x.heldAt }

/-- After a command that may have touched a channel: relays handed over, the ends of local requests noted. -/
def State.canSettle (s : State) : State := (List.range 16).foldl State.holdNow s.relayAll

/-- The outcome of a channel's command: channels settled, ALARM_N settled. -/
def State.canDone (s : State) : Out := s.canSettle.done

/-! ### Triggers (R416) -/

/-- A transmit object's trigger: at any trigger but the host's the bound point is read into the field; an unchanged
object with send_on_change does not become pending; a pending one takes the new data. -/
def State.trigger (s : State) (c k : Nat) : State :=
  if s.objDir c k ≠ 2 then s
  else
    let o := s.cobj c k
    let val := if s.objTrigger c k = 0 then none
      else (s.objPoint c k).map (fun p => ((s.point p).value, (s.point p).quality))
    if tst (s.objFld c k 0x17 1) 1 && !o.pending && val.isSome && val == o.sent then s
    else
      let data := match val with
        | some v => s.fieldPut c k o.data v.1.toNat
        | none => o.data
      if o.pending then (s.setCobj c k { o with data := data, val := val }).canCount c 14
      else
        let was := s.localReq c
        let o' : CanObj := { o with data := data, val := val, pending := true, since := s.time.t,
                                    status := 1, cancel := false }
        (s.setCobj c k o').localWake c was false

/-- An object leaves the pending set with a status; its clash count starts again (R418, R423). -/
def State.retireObj (s : State) (c k status : Nat) : State :=
  let o := s.cobj c k
  s.setCobj c k { o with pending := false, cancel := false, clash := 0, status := status }

/-- The attempt on the bus ends without success: the object stays pending, or leaves with status 5
when its cancel was refused (R418). -/
def State.attemptFails (s : State) (c : Nat) : State :=
  let x := s.chan c
  match x.tx with
  | none => s
  | some t =>
    let s := s.setChan c { x with tx := none }
    match t.what with
    | .obj k => if (s.cobj c k).cancel then (s.retireObj c k 5).canCount c 11 else s
    | .relay _ _ => s

/-- A frame the channel has sent without an object: counted, TEC one less (log 50). -/
def State.canSent (s : State) (c : Nat) (m : CanMsg) (stamp : DWord) : State :=
  let x := s.chan c
  (s.setChan c { x with tec := x.tec - 1, out := some (m, stamp) }).canCount c 1

/-! ### Error confinement (R420, R421) -/

/-- Entries into warning, error passive and bus-off after a change of the counters. -/
def State.canStates (s : State) (c : Nat) (old : CanChan) : State :=
  let x := s.chan c
  let s := if x.warn && !old.warn then s.canEvent c 2 else s
  let s := if x.passive && !old.passive then s.canEvent c 3 else s
  if 255 < x.tec && !x.busOff then
    let s := s.attemptFails c
    let x := s.chan c
    ((s.setChan c { x with busOff := true, tec := 256, recovering := tst (s.chanFld c 1 1) 3 }).canEvent c 4).canCount c 10
  else s

/-- TEC and REC stay unchanged in these modes and power states (R419, Table 14-4). -/
def State.countersFrozen (s : State) (c : Nat) : Bool :=
  s.canMode c != 1 || (s.chan c).ps == .sleep || (s.chan c).ps == .quiet

/-- REC after a frame received well: ISO 11898-1 lowers it by 1, and from above 127 sets it between 119
and 127, which is free (log 50). -/
def State.recGood (s : State) (c : Nat) : State :=
  let x := s.chan c
  if s.countersFrozen c || x.rec_ = 0 then s
  else if 127 < x.rec_ then
    let v := 119 + (Free.word s.sys.draws).toNat % 9
    ((s.setChan c { x with rec_ := v })).draw
  else s.setChan c { x with rec_ := x.rec_ - 1 }

/-- The counters of an error (log 50): a sender's TEC + 8, a receiver's REC + 1 or + 8. -/
def State.errCounters (s : State) (c : Nat) (e : CanErr) : State :=
  let x := s.chan c
  if s.countersFrozen c || e.kind == .arbitration then s
  else
    let y : CanChan := if e.sending then { x with tec := x.tec + (if e.special then 0 else 8) }
                       else { x with rec_ := min 255 (x.rec_ + (if e.special then 8 else 1)) }
    (s.setChan c y).canStates c x

/-- A clash of an object (R423). -/
def State.clash (s : State) (c k : Nat) (t : CanTx) : State :=
  let o := s.cobj c k
  let n := o.clash + 1
  let s := s.setCobj c k { o with clash := n }
  if n % max 1 (s.chanFld c 0xF 1) = 0 then
    let x := s.chan c
    let s := ((s.setChan c { x with clashId := t.msg.id, clashIde := t.msg.ide, clashT := t.stamp }).canEvent c 6).canCount c 12
    if s.chanFld c 0x10 1 = 1 then s.retireObj c k 6 else s
  else s

/-! ### Time-triggered operation (R225 to R228) -/

/-- At a basic-cycle start a channel whose guardian copy Sage has reloaded opens (R223), and one in listen-only returns
once a reference has been heard since the cut (R228); after a disagreement also time must be qualified and the last
compare passed (R222, R224). -/
def State.chanResume (s : State) (c : Nat) : State :=
  let x := s.tchan c
  let s := s.setTchan c { x with ecc := false, heard := true }
  if x.listen && x.heard && !s.tt.disagree && !s.tt.guardFail && (!x.dis || (s.qualified && s.tt.cmpOk)) then
    (s.setTchan c { s.tchan c with listen := false, dis := false }).ttLog (0x80 + c) 4 x.index
  else s

/-- A valid reference message, received or sent (R226, R227). -/
def State.reference (s : State) (c prio count : Nat) (own : Bool) (stamp : DWord) : State :=
  let x := s.tchan c
  let change := x.prio.isSome && x.prio != some prio
  let s := s.chanResume c
  let x := s.tchan c
  let s := s.setTchan c { x with
    stopped := false, heard := true, count := count, prio := some prio, refAt := stamp, master := own,
    gRef := (stamp.toNat : Int) + s.tt.gOff, window := none }
  if change then s.ttLog (0x80 + c) 0xA x.index else s

/-- The reference message of a channel with a cycle count. -/
def State.refMsg (s : State) (c count : Nat) : CanMsg :=
  let b := s.sched (0x80 + c)
  { id := BitVec.ofNat 29 (canRefBase b + canPrio b), ide := false, data := [BitVec.ofNat 8 (count % 64)] }

/-- The reference that a received frame carries: priority and cycle count; next_is_gap in bit 7 is ignored (R225,
R226). -/
def State.refOf (s : State) (c : Nat) (m : CanMsg) : Option (Nat × Nat) :=
  let b := s.sched (0x80 + c)
  let d := byteAt m.data 0
  if s.ttCan c && !m.ide && !m.rtr && m.id.toNat / 8 * 8 = canRefBase b && !m.data.isEmpty then
    some (m.id.toNat % 8, d % 64)
  else none

/-- Length of the basic cycle of a channel in units of 250 ps. -/
def State.cycleLen (s : State) (c : Nat) : Nat := canCycle (s.sched (0x80 + c)) * s.canNtu c

/-- A basic-cycle start has come since the last reference: at device times that are multiples of the cycle while time is
qualified, else one cycle after the last reference (R226). -/
def State.cycleDue (s : State) (c : Nat) (stamp : DWord) : Bool :=
  let l := max 1 (s.cycleLen c)
  let r := (s.tchan c).refAt.toNat
  if s.qualified then decide (r / l < stamp.toNat / l) else decide (r + l ≤ stamp.toNat)

/-- Worst-case length of a message in units of 250 ps. -/
def State.worstLen (s : State) (c : Nat) (m : CanMsg) : Nat :=
  m.worst.1 * s.canNtu c + m.worst.2 * s.canDtu c

/-- A transmission of a channel cut by the guardian: TEC and REC unchanged, listen-only until a basic
cycle starts after a reference (R228). -/
def State.cutChan (s : State) (c : Nat) : State :=
  let s := s.attemptFails c
  let x := s.tchan c
  s.setTchan c { x with listen := true, heard := false, window := none }

/-- Every time-triggered channel closed (R220). -/
def State.closeChans (s : State) : State :=
  (List.range 16).foldl (fun s c =>
    if s.ttCan c then (s.cutChan c).setTchan c { (s.cutChan c).tchan c with dis := true } else s) s

end Sys2Proof.Machine
end

