-- ==== Sys2Proof/Machine/Can.lean ====
section
/-! DEFINITION. The commands of the CAN FD channels (R408 to R430). -/

namespace Sys2Proof.Machine

/-! ### Reception -/

/-- The receive object a frame matches: the first in ascending number (R412). -/
def State.matchObj (s : State) (c : Nat) (m : CanMsg) : Option Nat :=
  (List.range 64).find? (fun k =>
    let w := s.objFld c k 0 4
    s.objDir c k == 1 && tst w 29 == m.ide &&
    ((m.id ^^^ BitVec.ofNat 29 w) &&& BitVec.ofNat 29 (s.objFld c k 4 4)) == 0 &&
    (m.fdf == s.objFlag c k 0 || s.objFlag c k 5))

/-- A matched frame placed in the current or the shadow buffer (Table 14-2). -/
def State.placeFrame (s : State) (c k : Nat) (m : CanMsg) (stamp : DWord) : State :=
  let x := s.chan c
  let o := s.cobj c k
  let sel := x.selValid && x.sel.toNat == k
  let full := if sel then o.shadow.isSome else o.cur.isSome
  let o := if sel then { o with shadow := some (m, stamp) } else { o with cur := some (m, stamp) }
  let s := s.setCobj c k { o with timedOut := false, lastAt := s.sys.mono }
  let s := if full then (s.canCount c 3).canEvent c 8 else s
  let s := if s.objFlag c k 2 then s.canEvent c 0 else s
  if (s.objPoint c k).isNone then s
  else if m.data.length < s.fieldEnd c k then s.canCount c 2
  else s.canPut c k (BitVec.ofNat 64 (s.fieldGet c k m.data)) 0 stamp

/-- A frame of the channel's network management (R424 to R428). -/
def State.isNm (s : State) (c : Nat) (m : CanMsg) : Bool :=
  s.canNm c && !m.ide && !m.rtr && !m.fdf && m.data.length == 2 && m.id.toNat / 64 * 64 == s.nmFld c 2 2

/-- What a network-management frame says: stay-awake heard, or the sleep command (R426). -/
def State.nmHear (s : State) (c : Nat) (m : CanMsg) (stamp : DWord) : State :=
  let b := byteAt m.data 1
  let x := s.chan c
  let s := if tst b 0 then s.setChan c { x with heard := x.heard.set (byteAt m.data 0) s.sys.mono } else s
  let x := s.chan c
  if tst b 1 && x.ps == .awake then
    s.setChan c { x with ps := .prepare, forced := tst b 2, wakeDue := false,
                         commitAt := stamp + BitVec.ofNat 64 (ms (s.nmFld c 8 4)) }
  else s

/-- An error of a channel: counted by kind, recorded, the counters of ISO 11898-1, the attempt on the
bus ended, clashes (R418, R420, R423). In QUIET errors do not count, in SLEEP the bus is not seen (Table 14-4). -/
def State.canError (s : State) (c : Nat) (e : CanErr) : State :=
  if (s.chan c).ps == .quiet || (s.chan c).ps == .sleep || (s.chan c).busOff then s
  else
    let t := (s.chan c).tx
    let s := s.canCount c e.kind.cnt
    let x := s.chan c
    let s := if e.kind == .arbitration then s
             else s.setChan c { x with lec := e.kind.lec, dataPhase := e.dataPhase }
    let s := if e.sending || e.kind == .arbitration then s.attemptFails c else s
    let s := match t with
      | some t => match t.what with
        | .obj k =>
          if e.sending && e.kind == CanErrKind.bitRecessive && e.field && (s.cobj c k).pending then s.clash c k t else s
        | .relay _ _ => s
      | none => s
    s.errCounters c e

/-- A frame received by a channel in full operation. An FD frame without fd_en, or with a recessive res bit, is a
protocol exception or a form error (Table 14-1). -/
def State.canTake (s : State) (c : Nat) (m : CanMsg) (stamp : DWord) : State :=
  let flags := s.chanFld c 1 1
  if m.fdf && (!tst flags 0 || m.res) then
    if tst flags 4 then (s.canCount c 18).canEvent c 14
    else s.canError c { kind := .form, dataPhase := false, sending := false, special := false, field := false }
  else
    let s := if (s.chan c).tx.isSome then (s.canCount c 4).attemptFails c else s
    let s := (s.recGood c).canCount c 0
    let nm := s.isNm c m
    let s := if !nm || tst (byteAt m.data 1) 0 then s.wakeEvent c 0 (!nm) stamp else s
    let s := if nm then s.nmHear c m stamp else s
    let s := match s.refOf c m with
      | some (p, n) => s.reference c p n false stamp
      | none => s
    match (if m.rtr then none else s.matchObj c m) with
    | some k => s.placeFrame c k m stamp
    | none => s.canCount c 2

/-- CAN_FRAME_RECEIVE: `edge` is the clock edge at which the SOF is first sampled (R411). In SLEEP only
the wake during the sleep pattern is seen; in QUIET only a frame that matches wake_id (Table 14-4). -/
def execCanFrameReceive (c : Fin 16) (m : CanMsg) (edge : DWord) (s : State) : Out :=
  let c := c.val
  if s.canOn c && !(s.chan c).busOff then
    let stamp := s.canStamp c edge
    match (s.chan c).ps with
    | .sleep => (if (s.chan c).gts then s.wakeEvent c 0 true stamp else s).canDone
    | .quiet =>
      let w := s.nmFld c 0x18 4
      (if tst w 29 == m.ide && ((m.id ^^^ BitVec.ofNat 29 w) &&& BitVec.ofNat 29 (s.nmFld c 0x1C 4)) == 0
       then s.wakeEvent c 0 true stamp else s).canDone
    | _ => (s.canTake c m stamp).canDone
  else .next s

/-! ### Transmission -/

/-- End of the window of trigger `k` in NTU: consecutive merged arbitrating windows are one (R225; PRESUMED, ISO
11898-4, log 157). -/
def windowStop (b : List Byte) (count : Nat) : Nat → Nat → Nat
  | 0, k => (canTrig b k).mark + (canTrig b k).win
  | f + 1, k =>
    let t := canTrig b k
    let n := canTrig b (k + 1)
    if t.typ = 3 && k + 1 < canCount b && n.typ = 3 && count % max 1 n.rep = n.off then windowStop b count f (k + 1)
    else t.mark + t.win

/-- What the arbitration of a time-triggered channel allows at a stamp, in the guardian's own count (R228): the
trigger's window and its end. -/
def State.canWindow (s : State) (c : Nat) (stamp : DWord) : Option (CanTrig × Int) :=
  let x := s.tchan c
  let b := s.sched (0x80 + c)
  match x.window with
  | none => none
  | some k =>
    let t := canTrig b k
    let ntu := s.canNtu c
    let pos : Int := (stamp.toNat : Int) + s.tt.gOff - x.gRef
    let bits := windowStop b x.count 64 k - (if t.typ = 1 then canGuardBits b else 0)
    let stop : Int := ((bits * ntu : Nat) : Int)
    if ((t.mark * ntu : Nat) : Int) ≤ pos && pos < stop && s.cstate c ≠ 3 then some (t, stop - pos) else none

/-- The objects and relay entries a channel may offer now (R417, R419, R422, Table 14-4). -/
def State.canOffer (s : State) (c : Nat) : List CanCand :=
  let x := s.chan c
  let own := ((s.ownPending c).filter (fun k => x.ps == .awake || s.objFlag c k 4)).map (s.ownCand c)
  let rel : List CanCand := x.relay.map (fun r =>
    { what := .relay r.chan r.obj, msg := r.msg, since := r.since, val := r.val, num := r.obj })
  if s.canMode c ≠ 1 || x.busOff || x.tx.isSome then []
  else if x.ps == .awake then own ++ rel
  else if x.ps == .prepare then own else []

/-- The SOF of a candidate driven. -/
def State.canStart (s : State) (c : Nat) (a : CanCand) (stamp : DWord) : State :=
  let x := s.chan c
  let first := match a.what with
    | .obj k => if x.recFirst then some k else x.recObj
    | .relay _ _ => x.recObj
  s.setChan c { x with
    tx := some { what := a.what, msg := a.msg, since := a.since, val := a.val, stamp := stamp }
    recObj := first, recFirst := x.recFirst && first.isNone }

/-- ARBITRATION on an idle bus: the highest-priority candidate starts; on a time-triggered channel only
in its window, and a message that does not fit is held (R417, R228). -/
def execArbitration (c : Fin 16) (edge : DWord) (s : State) : Out :=
  let c := c.val
  if s.canOn c then
    let stamp := s.canStamp c edge
    if s.ttCan c then
      match s.canWindow c stamp with
      | none => .next s
      | some (t, left) =>
        let l := (s.canOffer c).filter (fun a => t.typ ≠ 1 || a.what == .obj t.obj)
        match CanCand.best l with
        | none => .next s
        | some a =>
          if (s.worstLen c a.msg : Int) ≤ left then (s.canStart c a stamp).canDone
          else
            let x := s.tchan c
            ((s.setTchan c { x with holds := satInc x.holds }).ttLog (0x80 + c) 2 x.index).canDone
    else match CanCand.best (s.canOffer c) with
      | none => .next s
      | some a => (s.canStart c a stamp).canDone
  else .next s

/-- The completion of a sent object on its own channel: status, stamp, tx_done (R417). -/
def State.objSent (s : State) (c k status : Nat) (own : Bool) (t : CanTx) : State :=
  let o := s.cobj c k
  let o := { o with status := status, stamp := t.stamp, sent := t.val, clash := 0 }
  let s := s.setCobj c k (if own then { o with pending := false, cancel := false } else o)
  if s.objFlag c k 2 then s.canEvent c 1 else s

/-- CANn_RECOV after the first object offered since recovery completes (R421). -/
def State.recovDone (s : State) (c k : Nat) (t : CanTx) : State :=
  if (s.chan c).recObj = some k then
    let (age, s) := s.whole ((t.stamp.toNat : Int) - t.since.toNat) 4000
    let x := s.chan c
    s.setChan c { x with recObj := none, recov := BitVec.ofNat 32 (k * 2 ^ 26 + min age.toNat 0x3FFFFFF) }
  else s

/-- CAN_TRANSMIT_COMPLETE: the frame on the bus completes; `delay` is the loop delay measured in an FD
frame with BRS (R410, R417, R422). -/
def execCanTransmitComplete (c : Fin 16) (delay : BitVec 8) (s : State) : Out :=
  let c := c.val
  match s.canOn c, (s.chan c).tx with
  | true, some t =>
    let s := s.canSent c t.msg t.stamp
    let x := s.chan c
    let tdc := tst (s.chanFld c 1 1) 2 && t.msg.fdf && t.msg.brs && s.chanFld c 0xD 1 ≤ delay.toNat
    let s := s.setChan c { x with tx := none, tdcv := if tdc then delay else x.tdcv }
    match t.what with
    | .obj k => ((s.objSent c k 2 true t).recovDone c k t).canDone
    | .relay d k =>
      let x := s.chan c
      let rest := match takeFirst (fun r : CanRelay => r.chan == d && r.obj == k) x.relay with
        | some p => p.2
        | none => x.relay
      ((s.setChan c { x with relay := rest }).objSent d k 3 false t).canDone
  | _, _ => .next s

/-- CAN_ERROR (R420). -/
def execCanError (c : Fin 16) (e : CanErr) (s : State) : Out :=
  if s.canOn c.val then (s.canError c.val e).canDone else .next s

/-- BUS_OFF_RECOVERY_COMPLETE: 128 times 11 recessive bits counted (R421). -/
def execBusOffRecoveryComplete (c : Fin 16) (s : State) : Out :=
  let x := s.chan c.val
  if s.canOn c.val && x.busOff && x.recovering then
    ((s.setChan c.val { x with busOff := false, recovering := false, tec := 0, rec_ := 0,
                               recFirst := true, recObj := none }).canEvent c.val 5).canDone
  else .next s

/-! ### CANn_CTRL -/

/-- CANn_CTRL.recover (R421). -/
def State.canRecover (s : State) (c : Nat) : State :=
  let x := s.chan c
  if x.busOff then s.setChan c { x with recovering := true } else s

/-- CANn_CTRL.wake_req: host_keep, a wake event that counts in a forced phase too (R425, R428). -/
def State.canWakeReq (s : State) (c : Nat) : State :=
  (s.setChan c { s.chan c with hostKeep := true }).wakeEvent c 2 true s.time.t

def State.canSleepOk (s : State) (c : Nat) : State := s.setChan c { s.chan c with hostKeep := false }

/-- CANn_CTRL.clear: every CANn_CNTc is 0 (R421, R14). -/
def State.canClear (s : State) (c : Nat) : State := s.setChan c { s.chan c with cnt := [] }

/-- CAN_RECOVER. -/
def execCanRecover (c : Fin 16) (s : State) : Out :=
  if s.sys.up then (s.canRecover c.val).canDone else .next s

/-- CAN_COUNTER_CLEAR. -/
def execCanCounterClear (c : Fin 16) (s : State) : Out :=
  if s.sys.up then (s.canClear c.val).canDone else .next s

/-- WAKE_REQ. -/
def execWakeReq (c : Fin 16) (s : State) : Out :=
  if s.sys.up then (s.canWakeReq c.val).canDone else .next s

/-- SLEEP_OK. -/
def execSleepOk (c : Fin 16) (s : State) : Out :=
  if s.sys.up then (s.canSleepOk c.val).canDone else .next s

/-! ### Objects and the host (R413, R416, R418) -/

/-- CANn_CANCEL (R418). -/
def State.canCancel (s : State) (c k : Nat) : State :=
  let o := s.cobj c k
  if !o.pending then s
  else if (s.chan c).tx.any (fun t => t.what == .obj k) then
    (s.setCobj c k { o with cancel := true }).canEvent c 7
  else (s.retireObj c k 4).canCount c 11

/-- CAN_CANCEL. -/
def execCanCancel (c : Fin 16) (k : Fin 64) (s : State) : Out :=
  if s.sys.up then (s.canCancel c.val k.val).canDone else .next s

/-- CANn_TX_REQ: a host-triggered transmit object becomes pending (R416). -/
def State.canTxReq (s : State) (c k : Nat) : State :=
  if s.canMode c ≠ 0 && s.objTrigger c k = 0 then s.trigger c k else s

/-- CAN_TX_REQ. -/
def execCanTxReq (c : Fin 16) (k : Fin 64) (s : State) : Out :=
  if s.sys.up then (s.canTxReq c.val k.val).canDone else .next s

/-- The selected receive buffer released (Table 14-2). -/
def State.canRelease (s : State) (c : Nat) : State :=
  let x := s.chan c
  if x.selValid then
    let o := s.cobj c x.sel.toNat
    s.setCobj c x.sel.toNat { o with cur := o.shadow, shadow := none }
  else s

/-- CANn_OBJ_SEL written: a buffer selected, the former one released (R413). -/
def State.canSelect (s : State) (c : Nat) (valid : Bool) (k : BitVec 6) : State :=
  let x := s.chan c
  let s := if x.selValid && valid && x.sel == k then s else s.canRelease c
  s.setChan c { s.chan c with selValid := valid, sel := k }

/-- CAN_OBJ_SEL. -/
def execCanObjSel (c : Fin 16) (valid : Bool) (k : Fin 64) (s : State) : Out :=
  if s.sys.up then (s.canSelect c.val valid (BitVec.ofNat 6 k.val)).canDone else .next s

/-- CANn_OBJ_DATAi written: dropped on a busy transmit object (R416). -/
def State.canDataWrite (s : State) (c i : Nat) (w : Word) : State :=
  let x := s.chan c
  let k := x.sel.toNat
  if !x.selValid || s.objDir c k ≠ 2 then s
  else
    let o := s.cobj c k
    if o.pending then s.canEvent c 15
    else s.setCobj c k { o with data := splice (padTo 64 o.data) (4 * i) (leBytes 4 w.toNat) }

/-- CAN_OBJ_DATA_WRITE. -/
def execCanObjDataWrite (c : Fin 16) (i : Fin 16) (w : Word) (s : State) : Out :=
  if s.sys.up then (s.canDataWrite c.val i.val w).canDone else .next s

/-- A multiple of the period of object `k` has come, since READY and the last step, that has not triggered it yet
(R416). -/
def State.periodDue (s : State) (c k : Nat) : Bool :=
  let p := s.objFld c k 0xC 4 * 4000
  let ago := s.time.t.toNat % max 1 p
  p != 0 && decide (max s.sys.readyAt (s.tt.stepAt.getD 0) + ago ≤ s.sys.mono) &&
  (s.cobj c k).perAt.all (fun t => decide (t + ago < s.sys.mono))

/-- CAN_PERIOD_TRIGGER: device time has reached a multiple of the object's period (R416). -/
def execCanPeriodTrigger (c : Fin 16) (k : Fin 64) (s : State) : Out :=
  let c := c.val
  let k := k.val
  if s.canOn c && s.objTrigger c k = 1 && s.periodDue c k then
    ((s.setCobj c k { s.cobj c k with perAt := some s.sys.mono }).trigger c k).canDone
  else .next s

/-- The last value of an object; before any frame the spec states none: free. -/
def State.lastValue (s : State) (c k : Nat) : DWord × State :=
  match (s.cobj c k).lastVal with
  | some v => (v, s)
  | none => ((Free.word s.sys.draws).append (Free.word (s.sys.draws + 1)), s.draw.draw)

/-- CAN_RX_TIMEOUT: no frame for timeout_ms in AWAKE: the last value, invalid and oldData, once (R415). -/
def execCanRxTimeout (c : Fin 16) (k : Fin 64) (s : State) : Out :=
  let c := c.val
  let k := k.val
  if s.canOn c && (s.chan c).ps == .awake && s.objDir c k == 1 && (s.objPoint c k).isSome &&
      s.objFld c k 0x18 4 ≠ 0 && !(s.cobj c k).timedOut &&
      max (s.cobj c k).lastAt (s.awakeSince c) + ms (s.objFld c k 0x18 4) ≤ s.sys.mono then
    let (v, s) := s.lastValue c k
    let s := s.setCobj c k { s.cobj c k with timedOut := true }
    (((s.canPut c k v 0x81 s.time.t).canCount c 19).canEvent c 16).canDone
  else .next s

/-! ### Network management (R424 to R428) -/

/-- A network-management frame sent with the bits of its second byte. -/
def State.nmSend (s : State) (c b : Nat) (stamp : DWord) : State :=
  let node := s.nmFld c 1 1
  s.canSent c { id := BitVec.ofNat 29 (s.nmFld c 2 2 + node), ide := false,
                data := [BitVec.ofNat 8 node, BitVec.ofNat 8 b] } stamp

/-- The channel may send frames of its own. -/
def State.canSends (s : State) (c : Nat) : Bool := s.canOn c && s.canMode c == 1 && !(s.chan c).busOff

/-- A point's value is not 0 (R425); a floating-point zero has either sign. -/
def State.pointOn (s : State) (p : Nat) : Bool :=
  let r := s.point p
  if r.typ = 6 then r.value.toNat % 2 ^ 31 ≠ 0 else if r.typ = 7 then r.value.toNat % 2 ^ 63 ≠ 0
  else r.value != 0

/-- NM_FRAME_SEND: each nm_ms keep_point is read; a frame leaves in AWAKE, with stay-awake while a local
request holds, and in PREPARE without it (R425, Table 14-4). -/
def execNmFrameSend (c : Fin 16) (edge : DWord) (s : State) : Out :=
  let c := c.val
  if s.canOn c && s.canNm c && (s.chan c).nmAt.all (fun t => decide (t + ms (s.nmFld c 4 2) ≤ s.sys.mono)) then
    let w := s.nmFld c 0x14 4
    let was := s.localReq c
    let s := s.setChan c { s.chan c with nmAt := some s.sys.mono, keepNow := tst w 31 && s.pointOn (bits w 22 0) }
    let s := s.localWake c was false
    let ps := (s.chan c).ps
    if s.canSends c && (ps == .awake || ps == .prepare) then
      (s.nmSend c (bit (ps == .awake && s.localReq c)) (s.canStamp c edge)).canDone
    else s.canDone
  else .next s

/-- Entry into PREPARE by an own sleep command (R426, R428). -/
def State.goPrepare (s : State) (c : Nat) (forced : Bool) (stamp : DWord) : State :=
  let s := s.nmSend c (2 + 4 * bit forced) stamp
  s.setChan c { s.chan c with ps := .prepare, forced := forced, wakeDue := false,
                              commitAt := stamp + BitVec.ofNat 64 (ms (s.nmFld c 8 4)) }

/-- The nodes heard with stay-awake within the last timeout_n × nm_ms (R428). -/
def State.keepers (s : State) (c : Nat) : List Nat :=
  (List.range 64).filter (fun n => match (s.chan c).heard.find? n with
    | some t => decide (s.sys.mono < t + ms (s.nmFld c 6 1 * s.nmFld c 4 2))
    | none => false)

/-- No stay-awake has been heard or held for timeout_n × nm_ms in this AWAKE (R426). -/
def State.sleepDue (s : State) (c : Nat) : Bool :=
  !s.localReq c && (s.keepers c).isEmpty &&
  decide (max (s.chan c).heldAt (s.awakeSince c) + ms (s.nmFld c 6 1 * s.nmFld c 4 2) ≤ s.sys.mono)

/-- SLEEP_COMMAND of a coordinator that has heard and held no stay-awake (R426). -/
def execSleepCommand (c : Fin 16) (edge : DWord) (s : State) : Out :=
  let c := c.val
  if s.canSends c && s.canNm c && s.nmFld c 0 1 == 1 && (s.chan c).ps == .awake && s.sleepDue c then
    (s.goPrepare c false (s.canStamp c edge)).canDone
  else .next s

/-- SLEEP_COMMIT at C: SLEEP with its pattern, or QUIET (R426). -/
def execSleepCommit (c : Fin 16) (s : State) : Out :=
  let c := c.val
  let x := s.chan c
  if s.canOn c && x.ps == .prepare && x.commitAt ≤ s.time.t then
    if s.nmFld c 7 1 = 1 then
      let s := (s.setChan c { x with ps := .quiet, forced := false }).canEvent c 9
      (if x.wakeDue then s.enterWaking c else s).canDone
    else ((s.setChan c { x with ps := .sleep, gts := true, forced := false, tx := none }).canEvent c 9).canDone
  else .next s

/-- SLEEP_PATTERN_END after gts_us: asleep, or straight to WAKING with a wake latched (R427). -/
def execSleepPatternEnd (c : Fin 16) (s : State) : Out :=
  let c := c.val
  let x := s.chan c
  if s.canOn c && x.ps == .sleep && x.gts &&
      decide (x.commitAt.toNat + s.chanFld c 0x14 2 * 4000 ≤ s.time.t.toNat) then
    (if x.wakeDue then s.enterWaking c else s.setChan c { x with gts := false }).canDone
  else .next s

/-- WAKE_EVENT: a bus SOF other than an own frame's (`nm`: of network management), or CANn_WAKE active
(R427). Asleep the transceiver sees the bus, in QUIET only a matching frame counts. -/
def execWakeEvent (c : Fin 16) (bus nm : Bool) (stamp : DWord) (s : State) : Out :=
  let c := c.val
  let x := s.chan c
  if s.canOn c && !(bus && (x.ps == .quiet || (x.ps == .sleep && !x.gts))) then
    (s.wakeEvent c (if bus then 0 else 1) (!(bus && nm)) stamp).canDone
  else .next s

/-- WAKE_SETTLE_END: AWAKE, and a frame with wake and stay-awake (R426). -/
def execWakeSettleEnd (c : Fin 16) (edge : DWord) (s : State) : Out :=
  let c := c.val
  if s.canOn c && (s.chan c).ps == .waking && decide ((s.chan c).wakingAt + ms (s.nmFld c 0x10 2) ≤ s.sys.mono) then
    let s := s.enterAwake c
    (if s.canSends c && s.canNm c then s.nmSend c 9 (s.canStamp c edge) else s).canDone
  else .next s

/-- MAX_AWAKE_EXPIRY: the keepers recorded, a forced sleep command sent (R428). -/
def execMaxAwakeExpiry (c : Fin 16) (edge : DWord) (s : State) : Out :=
  let c := c.val
  let l := s.keepers c
  if s.canSends c && s.canNm c && s.nmFld c 0 1 == 1 && s.nmFld c 0xC 4 ≠ 0 && (s.chan c).ps == .awake &&
      !l.isEmpty && decide (s.awakeSince c + sec (s.nmFld c 0xC 4) ≤ s.sys.mono) then
    let k := fields (l.map (fun n => (1, n)))
    let s := s.setChan c { s.chan c with keeper := BitVec.ofNat 64 k, nmFirst := l.head? }
    (((s.canEvent c 12).goPrepare c true (s.canStamp c edge)).canCount c 17).canDone
  else .next s

end Sys2Proof.Machine
end

