-- ==== Sys2Proof/Machine/TtCan.lean ====
section
/-! DEFINITION. Time-triggered CAN and the guardian's compare (R220, R223 to R228). -/

namespace Sys2Proof.Machine

/-- A time-triggered channel may send a reference: potential master, open, on the bus (R226). -/
def State.mayLead (s : State) (c : Nat) : Bool :=
  s.canSends c && s.ttCan c && canRole (s.sched (0x80 + c)) == 1 && s.cstate c ≠ 3 &&
  (s.chan c).ps == .awake && (s.chan c).tx.isNone

/-- The own reference message of a cycle count sent. -/
def State.sendReference (s : State) (c count : Nat) (stamp : DWord) : State :=
  (s.canSent c (s.refMsg c count) stamp).reference c (canPrio (s.sched (0x80 + c))) count true stamp

/-- REFERENCE_MESSAGE_SEND: the next basic cycle of the matrix begins; the arbitration was won (R226). -/
def execReferenceMessageSend (c : Fin 16) (edge : DWord) (s : State) : Out :=
  let c := c.val
  if s.mayLead c && (s.tchan c).prio.isSome && s.cycleDue c (s.canStamp c edge) then
    let n := ((s.tchan c).count + 1) % max 1 (canMatrix (s.sched (0x80 + c)))
    (s.sendReference c n (s.canStamp c edge)).canDone
  else .next s

/-- COLD_START: no valid reference heard for 2 basic cycles after the channel was enabled (R227). -/
def execColdStart (c : Fin 16) (edge : DWord) (s : State) : Out :=
  let c := c.val
  if s.mayLead c && (s.tchan c).prio.isNone && decide (s.sys.readyAt + 2 * s.cycleLen c ≤ s.sys.mono) then
    ((s.sendReference c 0 (s.canStamp c edge)).ttLog (0x80 + c) 0xB (s.tchan c).index).canDone
  else .next s

/-- REF_LOST: a follower has missed its reference by more than 8 NTU (R227). -/
def execRefLost (c : Fin 16) (s : State) : Out :=
  let x := s.tchan c.val
  let late := decide (x.refAt.toNat + s.cycleLen c.val + 8 * s.canNtu c.val < s.time.t.toNat)
  if s.canOn c.val && s.ttCan c.val && x.prio.isSome && !x.master && !x.stopped && late then
    ((s.setTchan c.val { x with stopped := true, lost := satInc x.lost }).ttLog (0x80 + c.val) 9 x.index).canDone
  else .next s

/-- CAN_GUARD_CUT: a message still running at its window end (R228). -/
def execCanGuardCut (c : Fin 16) (s : State) : Out :=
  let c := c.val
  if s.canOn c && s.ttCan c && (s.chan c).tx.isSome && (s.canWindow c s.time.t).isNone then
    let s := s.cutChan c
    let x := s.tchan c
    ((s.setTchan c { x with cuts := satInc x.cuts }).ttLog (0x80 + c) 1 x.index).canDone
  else .next s

/-- G − D in ns for a log entry and TT_GSYNC; a fraction of a ns has no stated rounding (log 40). -/
def State.diffNs (s : State) (diff : Int) : Word × State :=
  let (v, s) := s.whole diff 4
  (BitVec.ofInt 32 v, s)

/-- The event posted on MB62 by the guardian, a word whose contents the spec does not state (log 3). -/
def State.post62Free (s : State) : State := (s.post62 35 (Free.word s.sys.draws)).draw

/-- A trigger of a channel at its time mark in a cycle that it belongs to: the object becomes pending,
the window opens; nothing is sent in an exclusive window without a reference (R227, R228). -/
def State.fireTrigger (s : State) (c k : Nat) : State :=
  let t := canTrig (s.sched (0x80 + c)) k
  let x := s.tchan c
  if x.count % max 1 t.rep ≠ t.off then s
  else if t.typ = 1 || t.typ = 2 || t.typ = 3 then
    let s := if s.objTrigger c t.obj = 3 then s.trigger c t.obj else s
    s.setTchan c { s.tchan c with window := if t.typ = 1 && x.stopped then none else some k }
  else s.setTchan c { x with window := none }

/-- TIME_MARK of trigger `k`; `diff` is the guardian's count less the channel's cycle time, in units of
250 ps, which its stamp of the reference then shows. Beyond guard_bits / 2 the guardian closes the channel (R228). -/
def execTimeMark (c : Fin 16) (k : Fin 64) (diff : Int) (s : State) : Out :=
  let c := c.val
  let b := s.sched (0x80 + c)
  if s.canOn c && s.ttCan c && k.val < canCount b then
    let x := s.tchan c
    let s := s.setTchan c { x with index := k.val, gRef := (x.refAt.toNat : Int) + s.tt.gOff - diff }
    if canGuardBits b * s.canNtu c < 2 * diff.natAbs then
      let (ns, s) := s.diffNs diff
      ((s.cutChan c).ttLog (0x80 + c) 5 k.val ns).canDone
    else (s.fireTrigger c k.val).canDone
  else .next s

/-- GUARDIAN_COMPARE: `diff` is G − D in units of 250 ps (R220, R224). -/
def execGuardianCompare (diff : Int) (s : State) : Out :=
  if !s.running then .next s
  else
    let (ns, s) := s.diffNs diff
    if diff.natAbs ≤ s.syncTol then
      State.done { s with tt := { s.tt with gOff := 0, gsync := ns, cmpOk := true } }
    else
      let s : State := { s with tt := { s.tt with gOff := diff, gsync := ns, cmpOk := false } }
      if s.tt.disagree || s.tt.guardFail then s.done
      else
        let times := (s.tt.disAt.filter (fun t => s.sys.mono ≤ t + sec 10)) ++ [s.sys.mono]
        let s : State := { s with tt := { s.tt with
          disagree := true, disAt := times, guardFail := 3 ≤ times.length } }
        ((((s.ttLog 0xF0 5 0 ns).closePorts).closeChans).post62Free).canDone

/-- A unit whose guardian copy is damaged is closed until Sage has reloaded it and a cycle boundary has passed (R223).
Sage reloads it from the same body at once: how long that takes is not stated (DESIGN CHOICE, log 156). -/
def State.unitEcc (s : State) (u : Fin 80) : Out :=
  if u.val < 64 then
    if s.guarded u.val then
      let s := s.cutTx u.val
      ((s.setTport u.val { s.tport u.val with ecc := true, cutAt := s.time.t, reloadAt := s.time.t }).ttLog u.val 7
        (s.tport u.val).index).done
    else s.done
  else
    let c := u.val - 64
    if s.ttCan c then
      let s := s.attemptFails c
      let x := s.tchan c
      ((s.setTchan c { x with ecc := true, window := none }).ttLog (0x80 + c) 7 x.index).canDone
    else s.done

/-- GUARD_ECC: the guardian's copy for a unit (0 to 63 ports, 64 + k channels) is lost (R223). -/
def execGuardEcc (u : Fin 80) (s : State) : Out := if s.running then s.unitEcc u else .next s

end Sys2Proof.Machine
end

