-- ==== Sys2Proof/Machine/ChiveIo.lean ====
section
/-! DEFINITION. Chive pins, lines, groups and requests, and the instants of R218 (R435 to R450). -/

namespace Sys2Proof.Machine

/-! ### Pins -/

/-- PIN_EDGE: a raw edge at a ball; a PIO that is an output shows what it drives (R435). -/
def execPinEdge (p : Fin 65) (level : Bool) (stamp : DWord) (s : State) : Out :=
  if s.running && !(s.cpin p.val).out then (s.pinEdge p.val level stamp).done else .next s

/-- A pin whose filtered changes enter the change queue (R436, R449). -/
def State.binaryIn (s : State) (p : Nat) : Bool :=
  p < 64 && ((s.cpin p).func == 1 || (s.cpin p).func == 2 || (p % 2 == 1 && (s.cpin (p - 1)).func == 2))

/-- One filtered change of a raw level that has stood for filter_us: the level, and for a binary input a queue entry with the stamp of the raw edge
that began it, or a loss (R436). True when an entry was made. -/
def State.filtered (s : State) (p : Nat) : Bool × State :=
  let x := s.cpin p
  if x.raw = x.filtered || s.sys.mono < x.edgeAt + us x.filterUs.toNat then (false, s)
  else
    let s := s.setCpin p { x with filtered := x.raw }
    if !s.binaryIn p then (false, s)
    else
      let g := s.grp (p / 8)
      if 64 ≤ g.queue.length then
        (false, (s.setGrp (p / 8) { g with fqLost := satInc g.fqLost }).chvEvent 1)
      else
        let c : CeChange := { pin := p, level := x.raw, stamp := if x.raw then x.rise else x.fall }
        (true, s.setGrp (p / 8) { g with queue := g.queue ++ [c] })

/-- FILTERED_CHANGE of the pins accepted in one group-clock cycle, ascending (R436). Both pins of a
double point make one PUT (R449). -/
def execFilteredChange (pins : List (Fin 65)) (s : State) : Out :=
  if s.running then
    let (ok, s) := (List.range 65).foldl (fun (acc : List Nat × State) p =>
      if pins.any (fun q => q.val == p) then
        let (b, t) := acc.2.filtered p
        (if b then acc.1 ++ [p] else acc.1, t)
      else acc) ([], s)
    let s := ok.foldl (fun s p =>
      if p % 2 = 0 && (s.cpin p).func == 2 && ok.contains (p + 1) then
        let x := s.cpin p
        s.setCpin p { x with merge := x.merge ++ [if x.raw then x.rise else x.fall] }
      else s) s
    s.done
  else .next s

/-- TIMED_CHANGE_APPLY: device time has reached the deadline of the pending change (R441). -/
def execTimedChangeApply (e : Fin 32) (s : State) : Out :=
  let x := s.ce e
  match s.running, x.timed with
  | true, some (t, c) =>
    if 0 ≤ (s.t32 - t).toInt then ((s.setCe e { x with timed := none }).applyChange e c).done else .next s
  | _, _ => .next s

/-- PULSE_END of a binary output, pulse_ms after the latest activating delivery (R450). -/
def execPulseEnd (p : Fin 64) (s : State) : Out :=
  let x := s.cpin p.val
  if s.running && x.pulse && decide (x.pulseAt + ms (s.pinFld p.val 8 2) ≤ s.sys.mono) then
    ((s.setCpin p.val { x with pulse := false }).setLevel p.val x.invert).done
  else .next s

/-- BINARY_OUTPUT_DELIVERY: a delivery for PIOn enters the OUT FIFO of its group's binary-output engine, while that
has room, as the word of R450; the engine's program hands it to the output stage. -/
def execBinaryOutputDelivery (n : Fin 64) (s : State) : Out :=
  let g := n.val / 8
  let eng := ((List.range 4).map (· + 4 * g)).find? (fun e => (s.ce e).prog == 8)
  match s.pnt.outs.find? n.val, eng with
  | some v, some e =>
    let x := s.ce e
    if s.ceRuns e && (s.cpin n.val).func == 3 && x.outF.length < 8 then
      let s : State := { s with pnt := { s.pnt with outs := s.pnt.outs.del n.val } }
      let w := n.val % 8 + 256 * bit (v.getLsbD 0 != (s.cpin n.val).invert)
      (s.setCe e { x with outF := x.outF ++ [BitVec.ofNat 32 w] }).done
    else .next s
  | _, _ => .next s

/-- Device time stands at a whole TAI second, within 2 ns (R139). -/
def atSecond (t : DWord) : Bool :=
  let x := t.toNat % 4000000000
  decide (x ≤ 8) || decide (4000000000 ≤ x + 8)

/-- The PPS program runs in G7. -/
def State.ppsRuns (s : State) : Bool :=
  s.fld 0x0401 0 7 1 0 != 0 && (List.range 4).any (fun i => (s.ce (28 + i)).prog == 2 && s.ceRuns (28 + i))

/-- PPS_OUT_EDGE: high at a whole TAI second that R139 permits, low pps_width_ms after it (R448). -/
def execPpsOutEdge (rise : Bool) (s : State) : Out :=
  let width := s.fld 0x0401 0 8 2 1 * 4000000
  if s.running && s.ppsRuns then
    if rise then
      if atSecond s.time.t && s.ppsMay then
        (({ s with time := { s.time with ppsUp := s.time.t } } : State).setLevel 65 true).done
      else .next s
    else if s.time.ppsUp.toNat + width ≤ s.time.t.toNat + 8 then (s.setLevel 65 false).done
    else .next s
  else .next s

/-! ### FIFOs and the host (R438) -/

/-- CHIVE_ECTRLn.pop. -/
def State.chvPop (s : State) (e : Nat) : State :=
  let x := s.ce e
  s.setCe e { x with inF := x.inF.drop 1 }

/-- CHIVE_IN_POP. -/
def execChiveInPop (e : Fin 32) (s : State) : Out := if s.sys.up then (s.chvPop e.val).done else .next s

/-- CHIVE_OUTn: appended, or dropped and counted when full (R438). -/
def State.chvOut (s : State) (e : Nat) (w : Word) : State :=
  let x := s.ce e
  if 8 ≤ x.outF.length then s.setCe e { x with outLost := satInc x.outLost }
  else s.setCe e { x with outF := x.outF ++ [w] }

/-- CHIVE_OUT_WRITE. -/
def execChiveOutWrite (e : Fin 32) (w : Word) (s : State) : Out :=
  if s.sys.up then (s.chvOut e.val w).done else .next s

/-! ### Lines (R446) -/

/-- LINE_CHARACTER: the assembler takes the next word of the line's RX engine. -/
def execLineCharacter (l : Fin 16) (s : State) : Out :=
  match s.running, s.lineEng l 5 with
  | true, some e =>
    let x := s.ce e
    match x.inF with
    | [] => .next s
    | c :: rest =>
      let s := s.setCe e { x with inF := rest }
      let stop := c.e + BitVec.ofNat 64 (s.lineBits l * s.lineBitTime l)
      let y : Line := { s.line l with rxEnd := stop }
      let s := s.setLine l y
      let d := s.lineData l
      let np := bit (s.lineParity l != 0)
      let v := c.word.toNat / 2 ^ (32 - s.lineBits l)
      let data := bits v d 1
      let parOk := np == 0 || bit (tst v (1 + d)) == parityBit (s.lineParity l == 2) d data
      let stopOk := (List.range (s.lineStops l)).all (fun i => tst v (1 + d + np + i))
      if y.de || tst v 0 then s.done
      else
        (s.setLine l { y with
          rx := y.rx ++ [BitVec.ofNat 8 data], rxOn := true,
          flagged := y.flagged || !parOk || !stopOk,
          rxStamp := if y.rxOn then y.rxStamp else c.e }).done
  | _, _ => .next s

/-- The lowest context of an instance's lowest PERS.CTX range. -/
def State.lowContext (s : State) (e : Nat) : Option Nat :=
  (((s.recsOf 0x0802).filter (fun r => rdLE r.body 4 1 == e)).map (fun r => rdLE r.body 0 2)).foldl
    (fun acc x => match acc with | some a => some (min a x) | none => some x) none

/-- A serial frame offered to the receive queue of its instance's cluster (R197, R446). -/
def State.lineDeliver (s : State) (l : Nat) (b : List Byte) (stamp : DWord) : State :=
  match s.lowContext (s.lineFld l 0 1) with
  | none => s
  | some ctx =>
    let f : Frame := { src := 84, stamp := stamp, gen := s.sw.gen, bytes := b, len := b.length, cls := 0,
                       colour := 0, ctx := some ctx, ended := true }
    let (i, s) := s.newFrame f
    let x : RxFrame := { ctx := ctx, bytes := b, port := 0x80 + l, cls := 0, stamp := stamp }
    let s := (s.judgeCluster i f x).tryRelease i
    match s.ctxOwner ctx with
    | some e => s.rxCheck e
    | none => s

/-- LINE_FRAME_CLOSE: idle for idle_bits: the frame is delivered, or discarded and counted (R446). -/
def execLineFrameClose (l : Fin 16) (s : State) : Out :=
  let y := s.line l
  if s.running && y.rxOn && s.rxQuiet l then
    let good := !y.flagged && y.rx.length ≤ 2048
    let s := s.setLine l { y with
      rx := [], rxOn := false, flagged := false,
      nRx := if good then satInc y.nRx else y.nRx, nErr := if good then y.nErr else satInc y.nErr }
    let s := if good then s.lineDeliver l y.rx y.rxStamp else s
    (s.lineStart l).done
  else .next s

/-! ### Groups (R442 to R444) -/

def CeGroup.entryTab (g : CeGroup) (b : Nat) : Word := if b = 0 then g.entry0 else g.entry1
def CeGroup.setEntryTab (g : CeGroup) (b : Nat) (v : Word) : CeGroup :=
  if b = 0 then { g with entry0 := v } else { g with entry1 := v }

/-- An engine at a restart of its group (R443 steps 3 and 6). -/
def CeEng.restart (x : CeEng) (keep : Bool) (entry : Nat) : CeEng :=
  let x := match x.next with
    | some c => { x with k := c.k, po := c.po, prog := c.prog, sink := c.sink, div := c.div,
                         point := c.point, next := none }
    | none => x
  let x := if keep then x else { x with g := [], t := 0, e := 0, eid := 0 }
  if entry < 48 then { x with st := .running, pc := entry } else { x with st := .idle, pc := 0 }

/-- A group restarted: the banks swap, every engine starts at its entry (R443). -/
def State.restartGroup (s : State) (g : Nat) (keep : Bool) : State :=
  let x := s.grp g
  let b := 1 - x.bank
  let s := s.setGrp g { x with bank := b, started := true, restart := none }
  let s := (List.range 4).foldl (fun s i =>
    s.setCe (4 * g + i) ((s.ce (4 * g + i)).restart keep (bits (x.entryTab b).toNat (8 * i + 7) (8 * i)))) s
  s.chvEvent 3

/-- CHIVE_GROUP_RESTART at R; a request answers DONE with its last group (R444). -/
def execChiveGroupRestart (g : Fin 8) (s : State) : Out :=
  match s.running, (s.grp g).restart with
  | true, some r =>
    if r.at_ ≤ s.time.t then
      let s := s.restartGroup g r.keep
      match r.req with
      | some (src, tag) =>
        if (List.range 8).any (fun h => (s.grp h).restart.any (fun q => q.req == some (src, tag))) then s.done
        else (s.final src 0x511 tag 0x00 []).done
      | none => s.done
    else .next s
  | _, _ => .next s

/-- A write of CHIVE_GCTRLg.restart (R444). -/
def State.gctrl (s : State) (g : Nat) : State :=
  let x := s.grp g
  if s.sys.lc = .operational || s.sys.lc = .retired then s.wrViol (0x80108 + 0x40 * g)
  else if x.restart.isSome then s
  else s.setGrp g { x with restart := some {
    at_ := BitVec.ofNat 64 (roundUp (s.time.t.toNat + us 10) 4000), keep := x.keep, req := none } }

/-- CHIVE_GCTRL_RESTART. -/
def execChiveGctrlRestart (g : Fin 8) (s : State) : Out := if s.sys.up then (s.gctrl g.val).done else .next s

/-- Words of each standard program (Table 15-4). -/
def stdLen (prog : Nat) : Nat :=
  match prog with
  | 2 => 5 | 3 => 10 | 4 => 6 | 5 => 18 | 6 => 15 | 7 => 3 | 8 => 3 | _ => 0

/-- Words that the standard programs of a group take, one copy of each kind (R445). -/
def State.stdWords (s : State) (g : Nat) : Nat :=
  ((List.range 9).map (fun k =>
    if (List.range 4).any (fun i => (s.ce (4 * g + i)).prog.toNat == k) then stdLen k else 0)).foldl (· + ·) 0

/-- A CHIVE.PROG body within Table 15-12. -/
def chiveProgOk (b : List Byte) : Bool :=
  let n := byteAt b 0x41
  b.length == 72 + 4 * n && byteAt b 0x40 < 48 && 1 ≤ n && n + byteAt b 0x40 ≤ 48 && rdLE b 0x42 6 == 0 &&
  (List.range 4).all (fun k =>
    let o := 16 * k
    let on := byteAt b o != 0xFF
    (byteAt b o < 48 || !on) && byteAt b (o + 1) ≤ 1 && rdLE b (o + 4) 4 < 2 ^ 23 &&
    (byteAt b (o + 1) == 1 || rdLE b (o + 4) 4 == 0) && byteAt b (o + 12) ≤ 7 && rdLE b (o + 13) 3 == 0 &&
    (on || (rdLE b (o + 8) 4 == 0 && byteAt b (o + 12) == 0))) &&
  (List.range n).all (fun w => byteAt b (0x4B + 4 * w) == 0)

/-- A point that no engine is granted. -/
def State.ungranted (s : State) (p : Nat) : Bool :=
  s.pnt.grants.all (fun g => !(g.2.base ≤ p && p < g.2.base + g.2.count))

/-- A body's engines are free, its points ungranted, its words above the standard programs (R445). -/
def State.progFits (s : State) (g : Nat) (b : List Byte) : Bool :=
  s.stdWords g ≤ byteAt b 0x40 &&
  (List.range 4).all (fun k =>
    let x := s.ce (4 * g + k)
    byteAt b (16 * k) == 0xFF || (x.prog.toNat ≤ 1 &&
      (byteAt b (16 * k + 1) != 1 || s.ungranted (rdLE b (16 * k + 4) 4))))

/-- What a body sets for engine `k`. -/
def progCfg (b : List Byte) (k : Nat) : CeCfg :=
  let o := 16 * k
  let on := byteAt b o != 0xFF
  { k := BitVec.ofNat 32 (rdLE b (o + 8) 4), po := BitVec.ofNat 3 (byteAt b (o + 12)),
    prog := if on then 1 else 0, sink := if on then BitVec.ofNat 4 (byteAt b (o + 1)) else 0,
    div := BitVec.ofNat 16 (rdLE b (o + 2) 2 + 65535), point := rdLE b (o + 4) 4 }

/-- A body written over a copy of the active bank in the inactive one; engines take their new
configuration with the next restart (R444). -/
def State.progWrite (s : State) (g : Nat) (b : List Byte) : State :=
  let x := s.grp g
  let dest := 48 * (1 - x.bank)
  let store := (List.range 48).foldl (fun (t : Tab (BitVec 24)) w =>
    t.set (dest + w) (x.store.get 0 (48 * x.bank + w))) x.store
  let store := (List.range (byteAt b 0x41)).foldl (fun (t : Tab (BitVec 24)) w =>
    t.set (dest + byteAt b 0x40 + w) (BitVec.ofNat 24 (rdLE b (0x48 + 4 * w) 4))) store
  let old := (x.entryTab x.bank).toNat
  let free (k : Nat) : Bool := (s.ce (4 * g + k)).prog.toNat ≤ 1
  let tab := fields ((List.range 4).map (fun k =>
    (if free k then byteAt b (16 * k) else bits old (8 * k + 7) (8 * k), 8 * k)))
  let s := s.setGrp g ({ x with store := store }.setEntryTab (1 - x.bank) (BitVec.ofNat 32 tab))
  (List.range 4).foldl (fun s k =>
    if free k then s.setCe (4 * g + k) { s.ce (4 * g + k) with next := some (progCfg b k) } else s) s

/-- CHIVE_PROGRAM_WRITE (0x510). -/
def execChiveProgramWrite (q : Req) (s : State) : Out :=
  if s.running then
    (s.serve q 0x510 3 (fun s =>
      let g := q.word 1
      let b := s.bulkRead q.src.val (q.word 2) (q.word 3)
      if 8 ≤ g || !bulkOk q.src.val (q.word 2) (q.word 3) || !chiveProgOk b || !s.progFits g b then .inr 0x12
      else if (s.grp g).restart.isSome then .inr 0x14
      else .inl ((s.progWrite g b).finish q 0x510))).done
  else .next s

/-- CHIVE_RESTART_REQUEST (0x511). -/
def execChiveRestartRequest (q : Req) (s : State) : Out :=
  if s.running then
    (s.serve q 0x511 3 (fun s =>
      let m := q.word 1
      let gs := maskBits 8 m
      let now := s.time.t.toNat
      let r := (q.dword 2).toNat
      if 512 ≤ m || gs.isEmpty || (r ≠ 0 && (r < now + us 10 || now + sec 10 < r)) then .inr 0x12
      else if gs.any (fun g => (s.grp g).restart.isSome) then .inr 0x14
      else
        let at_ := if r = 0 then roundUp (now + us 10) 4000 else r
        let x : CeRestart := { at_ := BitVec.ofNat 64 at_, keep := tst m 8, req := some (q.src.val, q.tag) }
        .inl (State.accept (gs.foldl (fun s g => s.setGrp g { s.grp g with restart := some x }) s) q 0x511))).done
  else .next s

/-! ### Instants (R218, R219, R437) -/

/-- A SAMPLE or LATCH instant in the Chive island: levels captured, or waiting outputs driven, and the
instant queued to every engine (R437, R450). -/
def State.chvInstant (s : State) (j : Nat) (latch : Bool) (at_ : DWord) : State :=
  let s := if latch then
      (List.range 64).foldl (fun s p =>
        match (s.cpin p).waits with
        | some v => if s.pinFld p 0xA 1 = j + 1 then
            (s.setCpin p { s.cpin p with waits := none }).driveOut p v else s
        | none => s) s
    else
      (List.range 8).foldl (fun s g =>
        s.setGrp g { s.grp g with samp := BitVec.ofNat 10 (s.levels g), sampT := at_ }) s
  (List.range 32).foldl (fun s e =>
    let x := s.ce e
    if 4 ≤ x.insts.length then
      let g := s.grp (e / 4)
      s.setGrp (e / 4) { g with late := satInc g.late }
    else s.setCe e { x with insts := x.insts ++ [(latch, at_)] }) s

/-- The engines that receive an instant: those of instances. -/
def State.instEngines (s : State) : List Nat :=
  (List.range 32).filter (fun e => s.lead e == e && (s.eng e).bound)

/-- One instant handed to the consumers its record names. The spec gives the host no place for it
(log 57). -/
def State.instantOut (s : State) (j : Nat) (r : Rec) (at_ : DWord) (num : Nat) : State :=
  let latch := rdLE r.body 0 1 == 1
  let cons := rdLE r.body 12 4
  let i : Instant := { gen := j, latch := latch, qual := s.qualified, at_ := at_ }
  let s := if tst cons 0 then s.instEngines.foldl (fun s e =>
      s.input { eng := e, kind := 0x0A, inline := at_.toNat, payload := i.pack }) s else s
  let s := if tst cons 1 then s.chvInstant j latch at_ else s
  let s := if tst cons 2 then
      (List.range 16).foldl (fun s c => (List.range 64).foldl (fun s k =>
        if s.canOn c && s.objDir c k = 2 && s.objTrigger c k = 2 && s.objFld c k 0xC 4 = j then s.trigger c k
        else s) s) s
    else s
  if tst cons 3 then
    { s with pnt := { s.pnt with instants := s.pnt.instants.upd [] j (fun l => l ++ [(num, at_)]) } }
  else s

/-- INSTANT_ISSUE of generator `j`: the latest multiple at or before device time, once; none that a step has passed
over, and none up to the last issued (R218, R219). -/
def execInstantIssue (j : Fin 8) (s : State) : Out :=
  match s.running, s.rec? 0x0503 j.val with
  | true, some r =>
    let k := instCount (rdLE r.body 4 4) (rdLE r.body 8 4) s.time.t.toNat
    let v := BitVec.ofNat 64 (instAt (rdLE r.body 4 4) (rdLE r.body 8 4) k)
    let (lastV, num) := s.tt.last.get (0, 0) j.val
    if k = 0 || ((s.tt.last.find? j.val).isSome && v ≤ lastV) || s.tt.stepTo.any (fun t => decide (v ≤ t)) then
      .next s
    else
      let s : State := { s with tt := { s.tt with last := s.tt.last.set j.val (v, num + 1) } }
      (s.instantOut j.val r v (num + 1)).canDone
  | _, _ => .next s

end Sys2Proof.Machine
end

