-- ==== Sys2Proof/Machine/EngSys.lean ====
section
/-! DEFINITION. Mailbox and system instructions, CSRs, reserved majors, interrupts, timer, watchdog
warning and debug (R335 to R347). -/

namespace Sys2Proof.Machine

/-! ### MBX (R335) -/

/-- A row of major 0x20: ops 5 to 7 reserved, bit 0 zero, pd zero except for MRECV. -/
def mbxRow (op : Nat) : Row where
  major := 0x20
  is w := bits w 6 4 == op
  rsv w := 4 < bits w 6 4
  bad w := tst w 0 || (op != 1 && bits w 3 1 != 0)

/-- The mailbox named by rs1 bits 5:0, granted as `g` asks, else ACCESS (R335, R359). -/
def State.mbxOp (s : State) (i : Issue) (op : Nat) (g : Mbox → Nat → Bool)
    (f : State → Nat → Nat → Nat → Eff) : Out :=
  s.instr i (mbxRow op) (fun s e w =>
    let n := (s.core e).r (fRs1 w) % 64
    if g (s.mb n) e then f s e w n else .trap s cACCESS 0)

/-- An output of a mailbox instruction, which waits for outbox room (R335, R346). -/
def State.mbxOut (s : State) (e : Nat) (o : Output) : Eff :=
  if !s.outFits e then .stall s else if s.outRoom e then .go (s.outPut e o) else s.outStall e

/-- MPOST: posts rs2 as a cluster output. -/
def execMpost (i : Issue) (s : State) : Out :=
  s.mbxOp i 0 (fun m e => (m.outQ e).isSome)
    (fun s e w n => s.mbxOut e (.post n (BitVec.ofNat 32 ((s.core e).r (fRs2 w)))))

/-- The word an MRECV takes at the host island: the word plus 2^32 when there is one. -/
def State.mrecv (s : State) (e n : Nat) : Nat × State :=
  match (s.mb n).inQ e with
  | none => (0, s)
  | some home =>
    match s.mbTake n home with
    | (some w, s) => (w.word.toNat + 2 ^ 32, s)
    | (none, s) => (0, s)

/-- MRECV: rd and pd when a word waits, else pd := 0. -/
def execMrecv (i : Issue) (s : State) : Out :=
  s.mbxOp i 1 (fun m e => (m.inQ e).isSome) (fun s e w n =>
    let (v, s) := s.readInput e 0x08 (fun s =>
      let (v, s) := s.mrecv e n
      (v * 64 + n, s))
    let v := v / 64
    let c := s.core e
    if v < 2 ^ 32 then .go (s.setCore e (c.setP (bits w 3 1) false))
    else .go (s.setCore e ((c.setR (fRd w) v).setP (bits w 3 1) true)))

/-- An MUNLK of an engine for a mailbox has not acted yet: it waits in the outbox or crosses to the host island
(R365). -/
def State.munlkWaits (s : State) (e n : Nat) : Bool :=
  (s.cl (e / 2)).outbox.any (fun o => o.eng == e && o.out == .unlock n) ||
  s.engs.mbActs.contains (e, .unlock n)

/-- MLOCK: rd := the value read from the lock register; it waits behind the engine's own MUNLK
(R363, R365). -/
def execMlock (i : Issue) (s : State) : Out :=
  s.mbxOp i 2 Mbox.granted (fun s e w n =>
    if !s.replaying e && s.munlkWaits e n then .stall s
    else
      let (v, s) := s.readInput e 0x08 (fun s =>
        let (v, s) := s.lockRead n e
        (v * 64 + n, s))
      s.putR e (fRd w) (v / 64))

/-- MUNLK: releases the lock through the outbox. -/
def execMunlk (i : Issue) (s : State) : Out :=
  s.mbxOp i 3 Mbox.granted (fun s e _ n => s.mbxOut e (.unlock n))

/-- MSTAT: inbound count in bits 3:0, outbound count in bits 7:4. -/
def execMstat (i : Issue) (s : State) : Out :=
  s.mbxOp i 4 Mbox.granted (fun s e w n =>
    let (v, s) := s.readInput e 0x08 (fun s =>
      let m := s.mb n
      let cnt (q : Option Bool) : Nat := match q with
        | some h => (m.q h).length
        | none => 0
      ((cnt (m.inQ e) + 16 * cnt (m.outQ e)) * 64 + n, s))
    s.putR e (fRd w) (v / 64))

/-- An act of the cluster's other engine was written before the oldest act of engine `e` and has not met a full
queue: the words of one cluster cross to the host island in the order in which they were written (R23, R24). -/
def State.mbBehind (s : State) (e : Nat) : Bool :=
  (s.engs.mbActs.takeWhile (fun p => p.1 != e)).any (fun p => p.1 / 2 == e / 2 && !s.mbStuck p)

/-- MAILBOX_OUTPUT_ARRIVAL: the oldest mailbox act of engine `e` that has left the outbox acts at
the host island. A post that meets a full queue waits (R335, R360, R364); on a Sage mailbox a word
of another source ends an incomplete request (R367). -/
def State.mbArrive (s : State) (e : Nat) : State :=
  match takeFirst (fun p : Nat × Output => p.1 == e) s.engs.mbActs with
  | none => s
  | some (p, rest) =>
    if s.mbBehind e then s else
    let t := { s with engs := { s.engs with mbActs := rest } }
    match p.2 with
    | .post n w =>
      match (s.mb n).outQ e with
      | none => t.hostRefusedWrite n
      | some home =>
        if s.mbRoom n home 1 || s.readerDown ((s.mb n).reader home) then
          let tail := incompleteTail 9 (s.mb n).toHome
          let t := if 58 ≤ n && n ≤ 61 && tail.any (fun x => x.src != e) then t.dropIncomplete n else t
          t.mbPost n home e w
        else s
    | .unlock n => t.lockRelease n e
    | _ => t

/-- MAILBOX_OUTPUT_ARRIVAL. -/
def execMailboxOutputArrival (e : Fin 32) (s : State) : Out :=
  if s.running then (s.mbArrive e).done else .next s

/-! ### SYS (R336) -/

/-- A row of major 0x21. -/
def sysRow (fn : Nat) : Row where
  major := 0x21
  is w := fFn w == fn
  rsv w := 5 < fFn w
  bad w := fn == 0 && (bits w 21 17 % 2 != 0 || bits w 21 17 < 2)

/-- RDTIME: device time, journaled (R126). -/
def execRdtime (i : Issue) (s : State) : Out :=
  s.instr i (sysRow 0) (fun s e w =>
    let (v, s) := s.readInput e 0x09 (fun s => (s.time.t.toNat, s))
    .go (s.setCore e (((s.core e).setR (fRd w) (v % 2 ^ 32)).setR (fRd w + 1) (v / 2 ^ 32))))

/-- RAND: 32 bits of conditioned TRNG output, journaled (R81, R344). -/
def execRand (i : Issue) (s : State) : Out :=
  s.instr i (sysRow 1) (fun s e w =>
    let (v, s) := s.readInput e 0x09 (fun s => ((Free.word s.sys.draws).toNat, s.draw))
    s.putR e (fRd w) v)

/-- WDS: restarts the watchdog (R337). -/
def execWds (i : Issue) (s : State) : Out :=
  s.instr i (sysRow 2) (fun s e _ =>
    .go (s.setEng e { s.eng e with wdwSet := false, wdsAt := s.sys.mono }))

/-- WAIT: until an enabled interrupt is pending; ENG_STATUS.state reads 2 meanwhile. -/
def execWait (i : Issue) (s : State) : Out :=
  s.instr i (sysRow 3) (fun s e _ =>
    if (s.core e).pendEn ≠ 0 then .go s else .stall (s.setEng e { s.eng e with st := .wait }))

/-- FENCE: in this model stores are visible and outputs in the outbox already. -/
def execFence (i : Issue) (s : State) : Out := s.instr i (sysRow 4) (fun s _ _ => .go s)

/-- BREAK. -/
def execBreak (i : Issue) (s : State) : Out := s.instr i (sysRow 5) (fun s _ _ => .trap s cBREAK 0)

/-! ### CSRs (R339, Table 11-10) -/

/-- CSRs whose fields are all RO, those with W1C access, and those that are written. -/
def csrRO : List Nat := [0x000, 0x001, 0x008, 0x009, 0x00A, 0x023, 0x024, 0x025, 0x040, 0x041, 0x051]
def csrW1C : List Nat := [0x031, 0x050]
def csrRW : List Nat :=
  [0x002, 0x00B, 0x00C, 0x00D, 0x010, 0x011, 0x012, 0x013, 0x014, 0x015, 0x016, 0x020, 0x021, 0x022,
   0x026, 0x027, 0x028, 0x029, 0x02A, 0x02B, 0x02C, 0x02D, 0x030]

/-- Bits of RO fields within a CSR that is written: p0, exc (R339). -/
def csrRoBits (n : Nat) : Nat := if n = 0x002 then 1 else if n = 0x020 then 2 else 0

/-- Busy tags: issued, not completed (Table 11-10). -/
def EngCore.opbusy (c : EngCore) : Nat :=
  fields ((List.range 16).map (fun t => (bit ((c.ops.find? t).isSome && !tst c.opdone.toNat t), t)))

/-- The value of a CSR (Table 11-10); inst_pop reads 0. -/
def State.csrVal (s : State) (e n : Nat) : Nat :=
  let c := s.core e
  let inst (f : Instant → Nat) : Nat := match c.insts with
    | x :: _ => f x
    | [] => 0
  match n with
  | 0x000 => 0x00010000
  | 0x001 => fields [(e, 0), (bit (s.twin (e / 2)), 8), (s.cprofile (e / 2), 9), (s.fld 0x0801 e 0 1 0, 16)]
  | 0x002 => (c.pr ||| 1).toNat
  | 0x008 => inst (fun x => fields [(x.gen, 0), (bit x.latch, 3), (bit x.qual, 4), (1, 31)])
  | 0x009 => inst (fun x => x.at_.toNat % 2 ^ 32)
  | 0x00A => inst (fun x => x.at_.toNat / 2 ^ 32)
  | 0x00C => c.tcmp.toNat % 2 ^ 32
  | 0x00D => c.tcmp.toNat / 2 ^ 32
  | 0x010 => c.loops.lc0.toNat
  | 0x011 => c.loops.ls0.toNat
  | 0x012 => c.loops.le0.toNat
  | 0x013 => c.loops.lc1.toNat
  | 0x014 => c.loops.ls1.toNat
  | 0x015 => c.loops.le1.toNat
  | 0x016 => c.loops.depth
  | 0x020 => bit c.gie + 2 * bit c.exc
  | 0x021 => c.tvec.toNat
  | 0x022 => c.epc.toNat
  | 0x023 => c.ecause.toNat
  | 0x024 => c.einst.toNat
  | 0x025 => c.eaddr.toNat
  | 0x026 => c.epr.toNat
  | 0x027 => c.eloops.depth
  | 0x028 => c.eloops.lc0.toNat
  | 0x029 => c.eloops.ls0.toNat
  | 0x02A => c.eloops.le0.toNat
  | 0x02B => c.eloops.lc1.toNat
  | 0x02C => c.eloops.ls1.toNat
  | 0x02D => c.eloops.le1.toNat
  | 0x030 => c.ien.toNat
  | 0x031 => c.ipendNow
  | 0x040 => c.ret.toNat % 2 ^ 32
  | 0x041 => (c.retCap.getD (BitVec.ofNat 32 (c.ret.toNat / 2 ^ 32))).toNat
  | 0x050 => c.opdone.toNat
  | 0x051 => c.opbusy
  | _ => 0

/-- CSRR: a read of ret_lo captures both words (R13). -/
def execCsrr (i : Issue) (s : State) : Out :=
  s.instr i { major := 0x22, bad := fun w => bits w 16 12 != 0 ||
      !(csrRO ++ csrW1C ++ csrRW).contains (fImm12 w) } (fun s e w =>
    let n := fImm12 w
    let v := s.csrVal e n
    let c := s.core e
    let s := if n = 0x040 then
      s.setCore e { c with retCap := some (BitVec.ofNat 32 (c.ret.toNat / 2 ^ 32)) } else s
    s.putR e (fRd w) v)

/-- ldepth written: a smaller value discards the innermost levels (R326). -/
def Loops.setDepth (l : Loops) (d : Nat) : Loops :=
  if l.depth = 2 ∧ d = 1 then l.pop else { l with depth := d }

/-- A loop CSR of the active or saved state, by its place in the order of 0x010. -/
def Loops.put (l : Loops) (k v : Nat) : Loops :=
  let x := BitVec.ofNat 32 v
  match k with
  | 0 => { l with lc0 := x }
  | 1 => { l with ls0 := x }
  | 2 => { l with le0 := x }
  | 3 => { l with lc1 := x }
  | 4 => { l with ls1 := x }
  | _ => { l with le1 := x }

/-- The RW fields of a CSR written with a value; any write of inst_pop removes the oldest instant,
a write of tcmp_lo arms the timer. -/
def EngCore.csrPut (c : EngCore) (n v : Nat) : EngCore :=
  let x := BitVec.ofNat 32 v
  if 0x010 ≤ n && n ≤ 0x015 then { c with loops := c.loops.put (n - 0x010) v }
  else if 0x028 ≤ n && n ≤ 0x02D then { c with eloops := c.eloops.put (n - 0x028) v }
  else match n with
  | 0x002 => { c with pr := BitVec.ofNat 8 v ||| 1 }
  | 0x00B => { c with insts := c.insts.drop 1 }
  | 0x00C => { c with tcmp := BitVec.ofNat 64 (c.tcmp.toNat / 2 ^ 32 * 2 ^ 32 + v), timerArmed := true }
  | 0x00D => { c with tcmp := BitVec.ofNat 64 (c.tcmp.toNat % 2 ^ 32 + v * 2 ^ 32) }
  | 0x016 => { c with loops := c.loops.setDepth v }
  | 0x020 => { c with gie := tst v 0 }
  | 0x021 => { c with tvec := BitVec.ofNat 32 (v - v % 1024) }
  | 0x022 => { c with epc := x }
  | 0x026 => { c with epr := BitVec.ofNat 8 v }
  | 0x027 => { c with eloops := { c.eloops with depth := v % 4 } }
  | 0x030 => { c with ien := x }
  | _ => c

/-- The bits of a W1C CSR cleared; level bits of ipend ignore clearing. -/
def EngCore.csrClear (c : EngCore) (n v : Nat) : EngCore :=
  if n = 0x031 then { c with ipend := c.ipend &&& ~~~ (BitVec.ofNat 32 v &&& ~~~ (8 : Word)) }
  else c.freeTags (v % 2 ^ 16)

/-- The value CSRW, CSRS and CSRC (mode 0, 1 and 2) form of the operand and the old value. -/
def csrNew (mode v old : Nat) : Nat :=
  if mode = 0 then v else if mode = 1 then old ||| v else old &&& (2 ^ 32 - 1 - v)

/-- CSRW, CSRS and CSRC by mode 0, 1 and 2: the words that are ILLEGAL at decode, and, by the
registers, an operand with a 1 in an RO field under CSRS and CSRC, and a larger ldepth (R326, R339). -/
def csrRow (mode : Nat) : Row where
  major := 0x23 + mode
  bad w := bits w 21 17 != 0 ||
    !((csrRW ++ (if mode = 0 then csrW1C else [])).contains (fImm12 w))
  badIn c w :=
    (mode != 0 && csrRoBits (fImm12 w) &&& c.r (fRs1 w) != 0) ||
    (fImm12 w == 0x016 && c.loops.depth < csrNew mode (c.r (fRs1 w)) c.loops.depth)

/-- A CSR write that is not ILLEGAL. -/
def State.csrWrite (s : State) (mode e w : Nat) : Eff :=
  let n := fImm12 w
  let c := s.core e
  let v := c.r (fRs1 w)
  if csrW1C.contains n then .go (s.setCore e (c.csrClear n v))
  else .go (s.setCore e (c.csrPut n (csrNew mode v (s.csrVal e n))))

/-- CSRW. -/
def execCsrw (i : Issue) (s : State) : Out := s.instr i (csrRow 0) (fun s e w => s.csrWrite 0 e w)

/-- CSRS. -/
def execCsrs (i : Issue) (s : State) : Out := s.instr i (csrRow 1) (fun s e w => s.csrWrite 1 e w)

/-- CSRC. -/
def execCsrc (i : Issue) (s : State) : Out := s.instr i (csrRow 2) (fun s e w => s.csrWrite 2 e w)

/-- A CSR write of any of the three instructions that names CSR `n`. -/
def State.csrNamed (s : State) (i : Issue) (n : Nat) : Out :=
  let mode := bits i.word.toNat 27 22 - 0x23
  if mode ≤ 2 && 0x23 ≤ bits i.word.toNat 27 22 && fImm12 i.word.toNat = n then
    s.instr i (csrRow mode) (fun s e w => s.csrWrite mode e w)
  else .next s

/-- INST_POP. -/
def execInstPop (i : Issue) (s : State) : Out := s.csrNamed i 0x00B

/-- TIMER_ARM. -/
def execTimerArm (i : Issue) (s : State) : Out := s.csrNamed i 0x00C

/-! ### Reserved majors, interrupts, timer, watchdog, debug -/

/-- RESERVED_MAJOR: EMUL, whatever the condition (R316, R320, R341). -/
def execReservedMajor (i : Issue) (s : State) : Out :=
  let e := i.eng.val
  let w := i.word.toNat
  if !s.canExec e || bits w 27 22 < 0x26 then .next s
  else
    let s := (s.presentAll e).wake e
    let pc := (s.core e).pc.toNat
    if !((s.eng e).st == .running) then .next s
    else if bankEnd ≤ pc then (s.trap e cACCESS 0 pc).done
    else if pc % 4 ≠ 0 then (s.trap e cMISALIGN 0 pc).done
    else (s.trap e cEMUL w 0).done

/-- INTERRUPT_ENTRY: the lowest pending enabled interrupt is taken (R340). A pending one ends WAIT
first (R336); none is taken within a REP.A (R328). -/
def execInterruptEntry (e : Fin 32) (s : State) : Out :=
  let e := e.val
  if !s.canExec e then .next s
  else
    let s := (s.presentAll e).wake e
    let c := s.core e
    match (s.eng e).st == .running && c.gie && !c.exc && c.rep != some false, (List.range 32).find? (tst c.pendEn) with
    | true, some b => (s.setCore e (c.enter (16 + b) 0 0)).done
    | _, _ => .next s

/-- ENGINE_TIMER: device time has reached the armed tcmp; TIMER is raised and disarms (Table 11-11). -/
def execEngineTimer (e : Fin 32) (s : State) : Out :=
  let e := s.lead e.val
  let c := s.core e
  if s.takesInput e && c.timerArmed && c.tcmp.toNat ≤ s.time.t.toNat then
    ((s.raiseIpend e 1).setCore e { (s.raiseIpend e 1).core e with timerArmed := false }).done
  else .next s

/-- watchdog_ms of an instance; 0 gives 100 (Table 10-4). -/
def State.watchdogMs (s : State) (e : Nat) : Nat :=
  let v := s.fld 0x0801 e 0x16 2 0
  if v = 0 then 100 else v

/-- An `n`-th of watchdog_ms has passed without a WDS (R300, R337). -/
def State.unserviced (s : State) (e n : Nat) : Bool :=
  decide ((s.eng e).wdsAt * n + ms (s.watchdogMs e) ≤ s.sys.mono * n)

/-- WDW: half of watchdog_ms has passed without a WDS (R337); suspended in a debug halt (R347). -/
def execWdw (e : Fin 32) (s : State) : Out :=
  let e := s.lead e.val
  let g := s.eng e
  if s.running && (g.st == .running || g.st == .wait) && !g.wdwSet && s.unserviced e 2 then
    ((s.setEng e { g with wdwSet := true }).raiseIpend e 7).done
  else .next s

/-- DEV_UNLOCK.scope reads 1 or 2 (R347): in BLANK it reads 2 (Table 3-20). -/
def State.debugOpen (s : State) : Bool := s.sys.lc == .blank || s.sage.scope == 1 || s.sage.scope == 2

/-- Byte address of ENG_DBG_CTRL of an engine. -/
def dbgAddr (e : Nat) : Nat := 0x200000 + e * 0x10000 + 0x40

/-- A write of ENG_DBG_CTRL outside an open scope is dropped and counted (R347, R498). -/
def State.dbgWrite (s : State) (e : Nat) (f : Eng → Eng) : State :=
  if s.debugOpen then
    let l := s.lead e
    s.setEng l (f (s.eng l))
  else s.wrViol (dbgAddr e)

/-- The engine is to halt at its next retirement (R347). -/
def Eng.halt (g : Eng) : Eng :=
  if g.st == .running || g.st == .wait then { g with haltReq := true } else g

/-- DEBUG_HALT. -/
def execDebugHalt (e : Fin 32) (s : State) : Out :=
  if s.running then (s.dbgWrite e Eng.halt).done else .next s

/-- The engine runs on from a debug halt at `now`: its watchdog was suspended (R347). -/
def Eng.unhalt (g : Eng) (now : Nat) (step : Bool) : Eng :=
  if g.st == .dbgHalt then
    { g with st := .running, stepReq := step, haltReq := false, wdsAt := g.wdsAt + (now - g.haltAt) }
  else g

/-- DEBUG_STEP. -/
def execDebugStep (e : Fin 32) (s : State) : Out :=
  if s.running then (s.dbgWrite e (·.unhalt s.sys.mono true)).done else .next s

/-- DEBUG_RESUME. -/
def execDebugResume (e : Fin 32) (s : State) : Out :=
  if s.running then (s.dbgWrite e (·.unhalt s.sys.mono false)).done else .next s

end Sys2Proof.Machine
end

