-- ==== Sys2Proof/Machine/Records.lean ====
section
/-! DEFINITION. Flaza records as bytes (R62, Table 2-8). -/

namespace Sys2Proof.Machine

/-- The first record of a byte sequence, whether its body_crc is valid, whether its reserved bits and
padding are zero, and the rest. -/
def takeRec (b : List Byte) : Option (Rec × Bool × Bool × List Byte) :=
  let n := rdLE b 4 4
  let m := roundUp n 8
  if b.length < 16 + m then none
  else
    let body := (b.drop 16).take n
    some ({ typ := rdLE b 0 2, ver := rdLE b 2 1, flags := rdLE b 3 1, inst := rdLE b 8 2, body := body },
      crc32c body == BitVec.ofNat 32 (rdLE b 12 4),
      rdLE b 3 1 < 2 && rdLE b 10 2 == 0 && ((b.drop (16 + n)).take (m - n)).all (· == 0), b.drop (16 + m))

/-- All records of a byte sequence, at most `fuel`; none when one is cut short. The flags say that
every body_crc is valid, and that all reserved bits and padding are zero. -/
def takeRecs : Nat → List Byte → Option (List Rec × Bool × Bool)
  | 0, b => if b.isEmpty then some ([], true, true) else none
  | k + 1, b =>
    if b.isEmpty then some ([], true, true)
    else match takeRec b with
      | none => none
      | some (r, ok, clean, rest) => match takeRecs k rest with
        | none => none
        | some (l, oks, cleans) => some (r :: l, ok && oks, clean && cleans)

/-- A record as bytes, with its padding (R62). -/
def recBytes (r : Rec) : List Byte :=
  leBytes 2 r.typ ++ leBytes 1 r.ver ++ leBytes 1 r.flags ++ leBytes 4 r.body.length ++ leBytes 2 r.inst ++
  leBytes 2 0 ++ leBytes 4 (crc32c r.body).toNat ++ r.body ++
  List.replicate (roundUp r.body.length 8 - r.body.length) 0

end Sys2Proof.Machine
end

