-- ==== Sys2Proof/Machine/Trust.lean ====
section
/-! DEFINITION. Sage, requests of classes 0x0, 0xA, 0xB and 0xD, life-cycle and JTAG (spec/03). -/

namespace Sys2Proof.Machine

/-! ### The voter and the TRNG (R78 to R81) -/

/-- R78, R79: a disagreement is masked; the third within 1 s fences the core; in duplex operation
it is fatal with reason 0x04. -/
def State.voterDisagree (s : State) (core : Nat) : State :=
  if !(tst s.sage.coreActive.toNat core) then s
  else if s.sage.duplex then s.fatal 0x04 3 5
  else
    let recent := (s.sage.disagree.filter (fun p => s.sys.mono < p.2 + sec 1)) ++ [(core, s.sys.mono)]
    let s := { s with sage := { s.sage with vote := satInc s.sage.vote, disagree := recent } }
    if 3 ≤ (recent.filter (fun p => p.1 == core)).length then
      let s := s.logFault 5 3 0xFF 1 0
      let s := { s with
        sage := { s.sage with
          coreActive := s.sage.coreActive &&& ~~~ BitVec.ofNat 3 (2 ^ core), duplex := true },
        host := { s.host with devEvent := s.host.devEvent ||| 16 } }
      s.notice 0xF03 [BitVec.ofNat 32 core]
    else s.logFault 5 3 0xFF 0 0

/-- VOTER_DISAGREEMENT. -/
def execVoterDisagreement (core : Fin 3) (s : State) : Out :=
  if s.running then (s.voterDisagree core).done else .next s

/-- TRNG_HEALTH_FAIL: Sage restarts the TRNG; three consecutive failed restarts are fatal (R81). -/
def execTrngHealthFail (restarted : Bool) (s : State) : Out :=
  if s.running then
    if restarted then
      State.done { s with sage := { s.sage with trngFails := 0 } }
    else
      let n := s.sage.trngFails + 1
      let s := { s with sage := { s.sage with trngFails := n } }
      (if 3 ≤ n then s.fatal 0x06 0 10 else s).done
  else .next s

/-! ### Requests common to all classes -/

/-- REQUEST_BODY_TIMEOUT: an incomplete host request is discarded and counted (R499). -/
def execRequestBodyTimeout (s : State) : Out :=
  if s.running then (s.dropIncomplete 56).done else .next s

/-- The operations the spec defines (Tables 3-4, 6, 8-13, 9, 10-9, 10-13, 18-9 and R101 to R109).
Class 0xD has operations without stated codes (log 23): none of them is unknown. -/
def knownCodes : List Nat :=
  [0x001, 0x002, 0x101, 0x102, 0x103, 0x104, 0x105, 0x106, 0x107, 0x108, 0x1FF, 0x201, 0x202,
   0x203, 0x301, 0x302, 0x303, 0x401, 0x402, 0x403, 0x501, 0x502, 0x510, 0x511, 0x601, 0x602,
   0x603, 0x610, 0x611, 0x612, 0x613, 0x614, 0x709, 0x801, 0x802, 0x803, 0x804, 0x805, 0x806,
   0x901, 0x902, 0x903, 0x904, 0x905, 0xA01, 0xA02, 0xA03, 0xA04, 0xA05, 0xA06, 0xB01, 0xB02,
   0xC01]

/-- The code names no operation (R91). -/
def unknownCode (code : Nat) : Bool := code / 256 ≠ 0xD && !knownCodes.contains code

/-- A request that names no operation: 0x14 with four in flight, else UNKNOWN (R91, R93). -/
def State.serveUnknown (s : State) (q : Req) (code : Nat) : State :=
  if !s.reqDue q code then s else
  let s := s.fetchReq q code
  s.refuse q code (if 4 ≤ s.inFlight q.src.val then 0x14 else 0x11)

/-- REQUEST_RESERVED_CLASS: UNKNOWN for a reserved class or operation (R91). -/
def execRequestReservedClass (q : Req) (code : BitVec 12) (s : State) : Out :=
  if s.running && unknownCode code.toNat then
    (s.serveUnknown q code.toNat).done
  else .next s

/-- SAGE_RESPONSE_DELIVER: the oldest response or notice waiting for mailbox `n` is posted when its
queue has room (R111, R501, R502). -/
def execSageResponseDeliver (n : Fin 64) (s : State) : Out :=
  if n.val = 57 then
    match s.sage.notices with
    | ws :: rest =>
      if s.running && s.mbRoom 57 false ws.length then
        ({ s with sage := { s.sage with notices := rest } }.sagePost 57 false ws).done
      else .next s
    | [] => .next s
  else
    match takeFirst (fun p => p.mb == n.val) s.sage.waiting with
    | some (p, rest) =>
      let home := n.val ≠ 56 && (s.mb n).home.toNat != 33
      if s.running && s.mbRoom n home p.ws.length then
        ({ s with sage := { s.sage with waiting := rest } }.sagePost n home p.ws).done
      else .next s
    | none => .next s

/-! ### Challenge, authorisation, attestation (R101 to R103) -/

/-- The words of a number, least significant first (R7). -/
def wordsOf (n x : Nat) : List Word := (List.range n).map (fun i => BitVec.ofNat 32 (x / 2 ^ (32 * i)))

/-- CHALLENGE: a fresh nonce and the serial; the requester's old nonce is superseded (R101). -/
def execChallenge (q : Req) (s : State) : Out :=
  if s.running then
    (s.serve q 0x001 0 (fun s =>
      let v := Free.nonce s.sys.draws
      let s := s.draw
      let s := { s with sage := { s.sage with
        nonces := s.sage.nonces.set q.src.val { value := v, taken := s.sys.mono, used := false } } }
      .inl (s.finish q 0x001 (wordsOf 4 v.toNat ++ wordsOf 2 s.otp.serial.toNat)))).done
  else .next s

/-- The requester's nonce is valid: fresh within 60 s and unused (R101). -/
def State.nonceValid (s : State) (src : Nat) (v : Nat) : Bool :=
  match s.sage.nonces.find? src with
  | some n => n.value.toNat == v && !n.used && s.sys.mono < n.taken + sec 60
  | none => false

/-- The nonce has had its one use (R101). -/
def State.useNonce (s : State) (src : Nat) : State :=
  match s.sage.nonces.find? src with
  | some n => { s with sage := { s.sage with nonces := s.sage.nonces.set src { n with used := true } } }
  | none => s

/-- The active owner slot: the highest burned slot that is not revoked (R98). -/
def Otp.active (o : Otp) : Option Nat :=
  ((List.range o.owners.length).filter (fun i => !(tst o.revoked.toNat i))).getLast?

/-- SM3 of the active owner root key. -/
def Otp.ownerRoot (o : Otp) : Option (BitVec 256) := o.active.bind (fun i => o.owners[i]?)

/-- The owner certificate region is valid: its header stands, and the SM3 of its root key is the active owner
slot's (R98). -/
def State.certsValid (s : State) : Bool :=
  match s.region? 7 0, s.otp.ownerRoot with
  | some r, some h =>
    s.nvmLE r.off 4 == 0x4F574E52 && s.nvmLE (r.off + 4) 2 == 1 && decide (s.nvmLE (r.off + 6) 2 ≤ 256) &&
    Free.sm3 (s.nvmBytes (r.off + 8) 64) == h
  | _, _ => false

/-- An entry of a valid owner certificate region names `key` and carries usage bit `u`. The region's validity is
judged at start-up and when a class 0xD request has written it (R98, R106; DEDUCED, log 137). -/
def State.ownerKey (s : State) (key u : Nat) : Bool :=
  match s.region? 7 0 with
  | none => false
  | some r =>
    s.sage.certsOk &&
    (List.range (s.nvmLE (r.off + 6) 2)).any (fun i =>
      s.nvmLE (r.off + 96 + 160 * i) 8 == key && tst (s.nvmLE (r.off + 104 + 160 * i) 4) u)

/-- `key` is the key ID of the active owner root key (R96, R102). -/
def State.rootKey (s : State) (key : Nat) : Bool :=
  match s.otp.ownerRoot with
  | some h => key == (Free.keyId h).toNat
  | none => false

/-- The digest of the accompanying payload, zero without one (R102). -/
def payloadDigest (pay : List Byte) : Nat := if pay.isEmpty then 0 else (Free.sm3 pay).toNat

/-- R102: the authorisation block is accepted (`none`), or the status of its refusal. The crypto unit's part is
the verdict; `usage` is the certificate usage bit, none for the owner root; `pay` is the payload. -/
def State.authCheck (s : State) (src code : Nat) (usage : Option Nat) (blk pay : List Byte) (v : Verdict) :
    Option Nat :=
  if !(s.nonceValid src (rdLE blk 0x10 16)) then some 0x17
  else if rdLE blk 0x20 8 ≠ s.otp.serial.toNat then some 0x16
  else if rdLE blk 0x08 4 ≠ code then some 0x16
  else if rdLE blk 0x28 24 ≠ 0 then some 0x16
  else if rdBE blk 0x40 32 ≠ payloadDigest pay || !v.sig then some 0x16
  else match usage with
    | some u => if v.cert && s.ownerKey (rdLE blk 0 8) u then none else some 0x16
    | none => if s.rootKey (rdLE blk 0 8) then none else some 0x16

/-- SM3 of the running kernel (R61, Table 3-9). -/
def State.kernelDigest (s : State) : BitVec 256 :=
  match s.sys.kernelRom, s.region? 1 s.sys.kernelCopy with
  | false, some r => Free.kernelDigest (s.nvmBytes r.off r.size)
  | _, _ => Free.romKernelDigest

/-- ATTESTATION report bytes before the signature (Table 3-9). -/
def State.attestation (s : State) (verifier : List Byte) (persDigest : BitVec 256) : List Byte :=
  leBytes 4 0x54535441 ++ leBytes 2 1 ++ leBytes 2 288 ++ verifier ++ leBytes 4 0x64400A02 ++
  leBytes 4 0 ++ leBytes 8 s.otp.serial.toNat ++ leBytes 1 s.sys.lc.code ++
  leBytes 1 (s.otp.active.getD 0xFF) ++ leBytes 2 s.otp.entry ++ leBytes 4 s.sys.rstCount.toNat ++
  leBytes 8 s.time.t.toNat ++ leBytes 8 s.sys.cfgSeq.toNat ++ Free.digestBytes s.kernelDigest ++
  (if s.sys.cfgDefault then leBytes 32 0 else (s.cfg.digest ++ leBytes 32 0).take 32) ++
  Free.digestBytes persDigest ++
  leBytes 32 (s.fld 0x0101 0 0 32 0) ++ leBytes 4 (s.fld 0x0101 0 32 4 0) ++
  leBytes 2 (s.fld 0x0101 0 36 2 0) ++
  leBytes 2 (fields [(bit s.sys.cfgDefault, 0), (bit s.sys.cfgUnsigned, 1), (bit s.sys.kernelRom, 2),
    (bit (s.sage.scope != 0 || s.sys.lc == .blank), 3), (bit s.sage.duplex, 4)]) ++
  leBytes 8 Free.deviceKeyId.toNat ++ leBytes 16 0

/-- SM3 over the digests of the bound instances in ascending engine number (R296). -/
def State.persDigest (s : State) : BitVec 256 :=
  Free.sm3 ((s.recsOf 0x0801).flatMap (fun r =>
    match s.engs.placed.find? (fun p => p.eng == r.inst) with
    | some p => p.digest
    | none => Free.digestBytes Free.srvDigest))

/-- ATTESTATION: the report in the requester's bulk area, signed by the device identity key
(R103); status 0x19 without the device key (R82). -/
def execAttestation (q : Req) (s : State) : Out :=
  if s.running then
    (s.serve q 0x002 6 (fun s =>
      let off := q.word 5
      let len := q.word 6
      if !(bulkOk q.src.val off len) || len < 288 then .inr 0x12
      else if s.sage.pufFail then .inr 0x19
      else
        let ver := (q.body.take 4).flatMap (fun w => leBytes 4 w.toNat)
        let rep := s.attestation ver s.persDigest ++ Free.bytes s.sys.draws 64
        .inl ((s.draw.bulkWrite q.src.val off rep).finish q 0x002))).done
  else .next s

/-! ### Key use (R305) -/

/-- SEC.KEY grants slot `k` to the requester (Table 3-15). -/
def State.keyGranted (s : State) (src k : Nat) : Bool :=
  src < 32 && tst (s.fld 0x0E03 k 4 4 0) src

/-- The key-material slot holds a key: its magic stands, and the crypto unit finds its tag good
(R99). -/
def State.keyPresent (s : State) (k : Nat) (tagOk : Bool) : Bool :=
  match s.region? 6 0 with
  | some r => tagOk && s.nvmLE (r.off + 256 * k) 2 == 0x4B59
  | none => false

/-- KEY_SIGN 0x301: an SM2 signature in the bulk area (Table 10-13). -/
def execKeySign (q : Req) (tagOk : Bool) (s : State) : Out :=
  if s.running then
    (s.serve q 0x301 3 (fun s =>
      let k := q.word 1
      if !(bulkOk q.src.val (q.word 2) (q.word 3)) || q.word 3 ≠ 32 ||
         bulkSize q.src.val < q.word 2 + 64 then .inr 0x12
      else if !(s.keyGranted q.src.val k) || s.fld 0x0E03 k 0 1 0xFF ≠ 0 then .inr 0x13
      else if s.sage.pufFail || !(s.keyPresent k tagOk) then .inr 0x19
      else
        .inl (((s.draw).bulkWrite q.src.val (q.word 2) (Free.bytes s.sys.draws 64)).finish q 0x301))).done
  else .next s

/-- KEY_EXCHANGE 0x302: the own point and the shared secret; `onCurve` is the crypto unit's
finding about the peer's point (Table 10-13). -/
def execKeyExchange (q : Req) (tagOk onCurve : Bool) (s : State) : Out :=
  if s.running then
    (s.serve q 0x302 3 (fun s =>
      let k := q.word 1
      if !(bulkOk q.src.val (q.word 2) (q.word 3)) || q.word 3 ≠ 64 ||
         bulkSize q.src.val < q.word 2 + 96 then .inr 0x12
      else if k ≠ 0xFF && (!(s.keyGranted q.src.val k) || s.fld 0x0E03 k 0 1 0xFF ≠ 1) then .inr 0x13
      else if k ≠ 0xFF && (s.sage.pufFail || !(s.keyPresent k tagOk)) then .inr 0x19
      else if !onCurve then .inr 0x12
      else
        .inl (((s.draw).bulkWrite q.src.val (q.word 2) (Free.bytes s.sys.draws 96)).finish q 0x302))).done
  else .next s

/-- KEY_EXPORT 0x303: a symmetric key with the export flag into the bulk area (R100,
Table 10-13). The unwrapped key is a free value. -/
def execKeyExport (q : Req) (tagOk : Bool) (s : State) : Out :=
  if s.running then
    (s.serve q 0x303 3 (fun s =>
      let k := q.word 1
      let u := s.fld 0x0E03 k 0 1 0xFF
      let len := match s.region? 6 0 with
        | some r => s.nvmLE (r.off + 256 * k + 4) 2
        | none => 0
      if !(bulkOk q.src.val (q.word 2) (q.word 3)) then .inr 0x12
      else if !(s.keyGranted q.src.val k) || !(tst (s.fld 0x0E03 k 1 1 0) 0) ||
              u < 2 || 4 < u then .inr 0x13
      else if s.sage.pufFail || !(s.keyPresent k tagOk) then .inr 0x19
      else if q.word 3 < len then .inr 0x12
      else
        .inl (((s.draw).bulkWrite q.src.val (q.word 2) (Free.bytes s.sys.draws len)).finish q 0x303))).done
  else .next s

/-! ### Life-cycle (R104 to R108) -/

/-- A progression group counts as burned with at least 5 of 8 fuses blown (R104). -/
def burned (g : Byte) : Bool := 5 ≤ ((List.range 8).filter (fun i => tst g.toNat i)).length

/-- R104: the life-cycle state decoded from OTP. -/
def Otp.decode (o : Otp) : LifeCycle :=
  if burned o.retd then .retired
  else if burned o.oper && burned o.prov then
    if o.entry = o.exit then .operational
    else if o.entry = o.exit + 1 then .service else .retired
  else if !burned o.oper && burned o.prov && o.entry == 0 && o.exit == 0 then .provisioned
  else if !burned o.oper && !burned o.prov && o.entry == 0 && o.exit == 0 then .blank
  else .retired

/-- An image write, a store append or a life-cycle request is in progress (R95, Table 10-9). -/
def State.exclusive (s : State) : Bool :=
  s.host.img.isSome || s.engs.append.isSome || s.sage.coldDue || s.sage.job.isSome

/-- The tail of an accepted transition: DONE, notice 0xF01, the dump region cleared (R50), the
cold reset due (R95, R106). -/
def State.transition (s : State) (q : Req) (code : Nat) (target : LifeCycle) : State :=
  let s := s.eraseRegion 5 0
  let s := { s with rmy := { s.rmy with dumpPresent := false },
                    sage := { s.sage with coldDue := true } }
  (s.finish q code).notice 0xF01 [BitVec.ofNat 32 target.code]

/-- The authorisation block of a request, its first 160 bulk bytes. -/
def State.authBlk (s : State) (q : Req) : List Byte := s.bulkRead q.src.val (q.word 1) 160

/-- The payload that follows the authorisation block of a request of `len` bulk bytes (R102, log 24). -/
def State.authPay (s : State) (q : Req) (len : Nat) : List Byte := s.bulkRead q.src.val (q.word 1 + 160) (len - 160)

/-- The checks of a life-cycle request from the state `okState`, with an authorisation block and its payload in
`len` bulk bytes. -/
def State.lcCheck (s : State) (q : Req) (code len : Nat) (okState : Bool) (usage : Option Nat)
    (v : Verdict) : Option Nat :=
  if !(bulkOk q.src.val (q.word 1) (q.word 2)) || q.word 2 ≠ len then some 0x12
  else if !okState then some 0x15
  else if s.exclusive then some 0x14
  else s.authCheck q.src.val code usage (s.authBlk q) (s.authPay q len) v

/-- LIFECYCLE_PROVISION 0xA01: burns owner slot 0 and the PROVISIONED group; the payload is the
owner root public key (Table 3-11). -/
def execLifecycleProvision (q : Req) (s : State) : Out :=
  if s.running then
    (s.serve q 0xA01 2 (fun s =>
      if !(bulkOk q.src.val (q.word 1) (q.word 2)) || q.word 2 ≠ 64 then .inr 0x12
      else if s.sys.lc ≠ .blank then .inr 0x15
      else if s.exclusive then .inr 0x14
      else
        let key := s.bulkRead q.src.val (q.word 1) 64
        .inl ({ s with otp := { s.otp with owners := [Free.sm3 key], prov := 0xFF } }.transition
          q 0xA01 .provisioned))).done
  else .next s

/-- LIFECYCLE_OPERATIONAL 0xA02: the applied image is signed and the owner certificate region valid
(Table 3-11). -/
def execLifecycleOperational (q : Req) (v : Verdict) (s : State) : Out :=
  if s.running then
    (s.serve q 0xA02 2 (fun s =>
      match s.lcCheck q 0xA02 160
        (s.sys.lc == .provisioned && !s.sys.cfgUnsigned && !s.sys.cfgDefault && s.sage.certsOk) (some 2) v with
      | some st => .inr st
      | none =>
        let s := s.useNonce q.src.val
        .inl ({ s with otp := { s.otp with oper := 0xFF } }.transition q 0xA02 .operational))).done
  else .next s

/-- LIFECYCLE_SERVICE_ENTRY 0xA03: an entry fuse burned (Table 3-11). -/
def execLifecycleServiceEntry (q : Req) (v : Verdict) (s : State) : Out :=
  if s.running then
    (s.serve q 0xA03 2 (fun s =>
      match s.lcCheck q 0xA03 160 (s.sys.lc == .operational && s.otp.entry < 256) (some 2) v with
      | some st => .inr st
      | none =>
        let s := s.useNonce q.src.val
        .inl ({ s with otp := { s.otp with entry := s.otp.entry + 1 } }.transition q 0xA03 .service))).done
  else .next s

/-- LIFECYCLE_SERVICE_EXIT 0xA04: an exit fuse burned, no authorisation (Table 3-11). -/
def execLifecycleServiceExit (q : Req) (s : State) : Out :=
  if s.running then
    (s.serve q 0xA04 0 (fun s =>
      if s.sys.lc ≠ .service then .inr 0x15
      else if s.exclusive then .inr 0x14
      else .inl ({ s with otp := { s.otp with exit := s.otp.exit + 1 } }.transition q 0xA04 .operational))).done
  else .next s

/-- R108: the RETIRED group is burned first, then the three regions are erased. -/
def State.retireDev (s : State) : State :=
  ((({ s with otp := { s.otp with retd := 0xFF } }.eraseRegion 3 0).eraseRegion 6 0).eraseRegion 7 0)

/-- LIFECYCLE_RETIRE 0xA05: owner root authorisation, none from BLANK (Table 3-11, R108). From BLANK the request
has no body: whether a block may accompany it is not stated (DESIGN CHOICE, log 138). -/
def execLifecycleRetire (q : Req) (v : Verdict) (s : State) : Out :=
  if s.running then
    (s.serve q 0xA05 (if s.sys.lc = .blank then 0 else 2) (fun s =>
      if s.sys.lc = .retired then .inr 0x15
      else if s.sys.lc = .blank then
        if s.exclusive then .inr 0x14 else .inl (s.retireDev.transition q 0xA05 .retired)
      else
        match s.lcCheck q 0xA05 160 true none v with
        | some st => .inr st
        | none => .inl ((s.useNonce q.src.val).retireDev.transition q 0xA05 .retired))).done
  else .next s

/-- OWNER_ROTATE 0xA06: the next owner slot burned, the current one revoked, no reset and no
notice (R106). The new root key follows the authorisation block in the bulk area (log 24). -/
def execOwnerRotate (q : Req) (v : Verdict) (s : State) : Out :=
  if s.running then
    (s.serve q 0xA06 2 (fun s =>
      match s.lcCheck q 0xA06 224
        (s.sys.lc == .provisioned || s.sys.lc == .operational || s.sys.lc == .service) none v with
      | some st => .inr st
      | none =>
        if 4 ≤ s.otp.owners.length then .inr 0x18
        else
          let key := s.bulkRead q.src.val (q.word 1 + 160) 64
          let cur := s.otp.owners.length - 1
          let s := s.useNonce q.src.val
          .inl ({ s with otp := { s.otp with
              owners := s.otp.owners ++ [Free.sm3 key],
              revoked := s.otp.revoked ||| BitVec.ofNat 4 (2 ^ cur) } }.finish q 0xA06))).done
  else .next s

/-! ### Debug unlock (R109) and JTAG (R105) -/

/-- DEBUG_UNLOCK 0xB01, only in SERVICE. A scope, a duration or a reserved bit out of range gives 0x12 after the
authorisation has been judged, and a further 0xB01 replaces the open scope (DESIGN CHOICE, log 139). -/
def execDebugUnlock (q : Req) (v : Verdict) (s : State) : Out :=
  if s.running then
    (s.serve q 0xB01 2 (fun s =>
      if !(bulkOk q.src.val (q.word 1) (q.word 2)) || q.word 2 ≠ 160 then .inr 0x12
      else if s.sys.lc ≠ .service then .inr 0x15
      else
        let blk := s.authBlk q
        let arg := rdLE blk 0x0C 4
        let scope := bits arg 7 0
        let mins := bits arg 31 16
        match s.authCheck q.src.val 0xB01 (some 3) blk [] v with
        | some st => .inr st
        | none =>
          if scope < 1 || 2 < scope || mins < 1 || 480 < mins || bits arg 15 8 ≠ 0 then .inr 0x12
          else
            let s := s.useNonce q.src.val
            .inl ({ s with
              sage := { s.sage with scope := BitVec.ofNat 2 scope,
                                    unlockEnd := s.sys.mono + sec (60 * mins) },
              host := { s.host with devEvent := s.host.devEvent ||| 32 } }.finish q 0xB01))).done
  else .next s

/-- The scope closes; DEV_EVENT.unlock marks the change (Table 18-7). -/
def State.closeScope (s : State) : State :=
  if s.sage.scope = 0 then s
  else { s with sage := { s.sage with scope := 0 },
                host := { s.host with devEvent := s.host.devEvent ||| 32 } }

/-- DEBUG_LOCK 0xB02: DONE in every state, with a scope open or not (DESIGN CHOICE, log 139). -/
def execDebugLock (q : Req) (s : State) : Out :=
  if s.running then (s.serve q 0xB02 0 (fun s => .inl (s.closeScope.finish q 0xB02))).done else .next s

/-- DEBUG_SCOPE_EXPIRY: the duration has ended. -/
def execDebugScopeExpiry (s : State) : Out :=
  if s.running && s.sage.unlockEnd ≤ s.sys.mono then s.closeScope.done else .next s

/-- DEV_UNLOCK.minutes_left: rounded up, 0 when closed (Table 3-20). -/
def State.minutesLeft (s : State) : Nat :=
  if s.sage.scope = 0 then 0 else ceilDiv (s.sage.unlockEnd - s.sys.mono) (sec 60)

/-- JTAG beyond boundary scan is open: in BLANK, or in SERVICE with an open scope (Table 3-10). -/
def State.jtagOpen (s : State) : Bool :=
  s.sys.lc == .blank || (s.sys.lc == .service && s.sage.scope != 0)

/-- JTAG_TAP_INSTRUCTION: a boundary-scan instruction always executes, any other only where JTAG is
open (R105). What executes is the TAP's instruction from then on. -/
def execJtagTapInstruction (code : Nat) (boundaryScan : Bool) (s : State) : Out :=
  if boundaryScan || s.jtagOpen then .next { s with sage := { s.sage with tap := code } } else .next s

/-! ### Class 0xD (R99, R106) -/

/-- An NVM write accepted; its completion gives the final response. -/
def State.startJob (s : State) (q : Req) (code : Nat) (k : NvmKind) (off : Nat) (bs : List Byte) : State :=
  { s.accept q code with sage := { (s.accept q code).sage with
      job := some { kind := k, src := q.src.val, code := code, tag := q.tag, off := off, bytes := bs } } }

/-- KEY_IMPORT: word 1 names the slot (bits 7:0), type and usage (bits 15:8, 23:16), words 2 and 3
the encrypted key; `keyLen` is the length the device identity key decrypts, none when it fails.
The spec states neither the operation number nor the body (log 23), nor who authorises the two requests of the
class, in which life-cycle states they run, and the status of a key that cannot be decrypted (DESIGN CHOICE,
log 140). A key longer than the 192 bytes of a slot's wrapped field is malformed. -/
def execKeyImport (q : Req) (op : Byte) (keyLen : Option (BitVec 8)) (s : State) : Out :=
  let code := 0xD00 + op.toNat
  if s.running then
    (s.serve q code 3 (fun s =>
      if !(bulkOk q.src.val (q.word 2) (q.word 3)) then .inr 0x12
      else if s.sys.lc = .retired then .inr 0x15
      else if s.exclusive then .inr 0x14
      else if s.sage.pufFail then .inr 0x19
      else match keyLen, s.region? 6 0 with
        | none, _ => .inr 0x16
        | _, none => .inr 0x18
        | some n, some r =>
          if 192 < n.toNat then .inr 0x12 else
          let hdr := leBytes 2 0x4B59 ++ leBytes 1 (bits (q.word 1) 15 8) ++
            leBytes 1 (bits (q.word 1) 23 16) ++ leBytes 2 n.toNat ++ leBytes 2 0 ++
            Free.bytes s.sys.draws 12 ++ leBytes 4 0
          let body := (List.range 208).map (fun i => Free.byte s.sys.draws (12 + i))
          .inl (s.draw.startJob q code .keyImport (r.off + 256 * bits (q.word 1) 7 0)
            (hdr ++ body ++ leBytes 24 0)))).done
  else .next s

/-- OWNER_CERTIFICATE_WRITE: words 1 and 2 describe the region's bytes (log 23). -/
def execOwnerCertificateWrite (q : Req) (op : Byte) (s : State) : Out :=
  let code := 0xD00 + op.toNat
  if s.running then
    (s.serve q code 2 (fun s =>
      if !(bulkOk q.src.val (q.word 1) (q.word 2)) then .inr 0x12
      else if s.sys.lc = .retired then .inr 0x15
      else if s.exclusive then .inr 0x14
      else match s.region? 7 0 with
        | none => .inr 0x18
        | some r =>
          if r.size < q.word 2 then .inr 0x12
          else .inl (s.startJob q code .ownerCert r.off (s.bulkRead q.src.val (q.word 1) (q.word 2))))).done
  else .next s

end Sys2Proof.Machine
end

