-- ==== Sys2Proof/Machine/PersOps.lean ====
section
/-! DEFINITION. The personality store, the bank of an instance, and stopping and releasing an instance
(R292 to R302). -/

namespace Sys2Proof.Machine

/-! ### The store (R292, R293, Tables 10-2 and 10-3) -/

/-- NVM offset of the byte after an entry. -/
def State.entryEnd (s : State) (a : Nat) : Nat := a + 256 + s.nvmLE (a + 8) 4 + 8

/-- The entry at `a` carries its magic and its commit word, within the store's end. -/
def State.entryCommitted (s : State) (stop a : Nat) : Bool :=
  s.nvmLE a 4 == 0x59504E45 && decide (s.entryEnd a ≤ stop) && s.nvmLE (s.entryEnd a - 8) 4 == 0x54494D43

/-- The committed entries from `a` on: each starts on a 4 KiB boundary, the first one without its commit
word ends the list. -/
def State.entriesFrom (s : State) (base stop : Nat) : Nat → Nat → List Nat
  | 0, _ => []
  | k + 1, a =>
    if stop < a + 264 || !s.entryCommitted stop a then []
    else a :: s.entriesFrom base stop k (base + roundUp (s.entryEnd a - base) 4096)

/-- The committed entries of the store, by NVM offset. -/
def State.storeEntries (s : State) : List Nat :=
  match s.region? 3 0 with
  | some r => s.entriesFrom r.off (r.off + r.size) (r.size / 4096) (r.off + 0x1000)
  | none => []

/-- The live, committed entry of a code and version at the lowest offset (R293). -/
def State.storeEntry? (s : State) (code version : Nat) : Option Nat :=
  s.storeEntries.find? (fun a =>
    s.nvmLE (a + 4) 4 == 0xFFFFFFFF && s.nvmLE (a + 0x10) 1 == code && s.nvmLE (a + 0x12) 2 == version)

/-- Where the next entry goes: the 4 KiB boundary after the last committed entry. -/
def State.storeNext (s : State) (r : Region) : Nat :=
  match s.storeEntries.getLast? with
  | some a => r.off + roundUp (s.entryEnd a - r.off) 4096
  | none => r.off + 0x1000

/-- Codes of Table 10-1. -/
def persCode (c : Nat) : Bool := (1 ≤ c && c ≤ 0x0C) || (0x80 ≤ c && c ≤ 0xFE)

/-- A name: ASCII characters, then zeros. -/
def nameOk (b : List Byte) : Bool :=
  let n := b.takeWhile (· != 0)
  n.all (fun c => decide (c.toNat < 0x80)) && (b.drop n.length).all (· == 0)

/-- Every field of an entry header lies within the range of Table 10-3, and isa_min is at most ISA_VER
(R294, R345). -/
def entryHdrOk (h : List Byte) : Bool :=
  rdLE h 0 4 == 0x59504E45 && rdLE h 4 4 == 0xFFFFFFFF && rdLE h 0xC 4 == 0xFFFFFFFF &&
  persCode (byteAt h 0x10) && byteAt h 0x11 < 8 && 1 ≤ rdLE h 0x12 2 && rdLE h 0x14 4 ≤ 0x10000 &&
  4096 ≤ rdLE h 0x18 4 && rdLE h 0x18 4 ≤ 327680 && rdLE h 0x18 4 % 64 == 0 &&
  rdLE h 0x1C 4 ≤ 16777216 && rdLE h 0x1C 4 % 4096 == 0 && rdLE h 0x20 4 < rdLE h 0x18 4 &&
  rdLE h 0x28 4 ≤ 262144 && nameOk ((h.drop 0x30).take 16) && rdLE h 0x2C 4 == 0 && rdLE h 0x48 24 == 0 && rdLE h 0xC0 64 == 0

/-- The signer a header names may sign a personality: the vendor personality key of the store header or an
owner certificate with usage bit 1 (R97, R294). -/
def State.persSigner (s : State) (r : Region) (h : List Byte) : Bool :=
  let vpk := (Free.digestBytes (Free.sm3 (s.nvmBytes (r.off + 8) 64))).take 8
  leNat vpk == rdLE h 0x40 8 || s.ownerKey (rdLE h 0x40 8) 1

/-- The store header's CRC matches (R294). -/
def State.storeHdrOk (s : State) (r : Region) : Bool :=
  s.nvmLE r.off 4 == 0x52535450 && s.nvmLE (r.off + 4) 2 == 1 &&
  BitVec.ofNat 32 (s.nvmLE (r.off + 0x88) 4) == crc32c (s.nvmBytes r.off 0x88)

/-! ### The bank of an instance (R298, Table 10-7) -/

/-- The bodies R298 places: descriptor type and bytes, in order. -/
def State.bankBodies (s : State) (e : Nat) : List (Nat × List Byte) :=
  let ctx := ((s.recsOf 0x0802).filter (fun r => rdLE r.body 4 1 == e)).flatMap (fun r => r.body.take 4)
  let one (d typ : Nat) : List (Nat × List Byte) :=
    match s.rec? typ e with
    | some r => [(d, r.body)]
    | none => []
  [(1, ctx)] ++ one 2 0x0801 ++ one 3 0x0804 ++ one 4 0x0805 ++
  ((s.recsOf 0x0806).filter (fun r => rdLE r.body 0 1 == e)).map (fun r => (5, r.body)) ++ one 6 0x0803

/-- The bodies with their offsets, each at the next multiple of 64. -/
def placeBodies : Nat → List (Nat × List Byte) → List (Nat × Nat × List Byte)
  | _, [] => []
  | a, (d, b) :: l =>
    let a := roundUp a 64
    (d, a, b) :: placeBodies (a + b.length) l

/-- Where the last body ends. -/
def State.bodiesEnd (s : State) (e bankLen : Nat) : Nat :=
  (placeBodies bankLen (s.bankBodies e)).foldl (fun m p => max m (p.2.1 + p.2.2.length)) bankLen

/-- The descriptors of an instance block: type, offset, length; the subscriber queue last. -/
def State.bankDescs (s : State) (e bankLen : Nat) : List (Nat × Nat × Nat) :=
  (placeBodies bankLen (s.bankBodies e)).map (fun p => (p.1, p.2.1, p.2.2.length)) ++
  (match s.rec? 0x0705 e with
    | some _ => [(7, s.sqOffset e, 32 + 32 * s.queueDepth e)]
    | none => [])

/-- The instance block. -/
def State.instBlock (s : State) (e bankLen : Nat) : List Byte :=
  let g := s.eng e
  let ds := s.bankDescs e bankLen
  let b := leBytes 4 0x4B434C42 ++ leBytes 1 e ++ leBytes 1 (s.fld 0x0801 e 0 1 0) ++
    leBytes 1 (s.cprofile (e / 2)) ++ leBytes 1 (bit (s.twin (e / 2)) + 2 * bit g.restarted) ++
    leBytes 2 ds.length ++ leBytes 2 g.restarts.toNat ++ leBytes 4 0 ++
    ds.flatMap (fun d => leBytes 2 d.1 ++ leBytes 2 0 ++ leBytes 4 d.2.1 ++ leBytes 4 d.2.2 ++ leBytes 4 0)
  (b ++ List.replicate (256 - b.length) 0).take 256

/-- The bank zero-filled. -/
def State.clearBank (s : State) (e : Nat) : State :=
  { s with mem := { s.mem with bank := Mem.clearRange s.mem.bank (e * bankSize) ((e + 1) * bankSize) } }

/-- The bank zero-filled, its bank section copied, R298 applied. -/
def State.buildBank (s : State) (e : Nat) (section_ : List Byte) : State :=
  let s := s.clearBank e
  let s := s.bankPut e 0 section_
  let s := (placeBodies section_.length (s.bankBodies e)).foldl (fun s p => s.bankPut e p.2.1 p.2.2) s
  s.bankPut e 0x5FF00 (s.instBlock e section_.length)

/-- The bank section of an instance and its first instruction: from the DRAM personality region, or the
ROM image of SRV (R293, R295). -/
def State.persSection (s : State) (e : Nat) : List Byte × Word :=
  match s.engs.placed.find? (fun p => p.eng == e) with
  | some p => (s.dramBytes p.bankAt p.bankLen, BitVec.ofNat 32 p.entryPc)
  | none => (Free.srvImage, Free.srvEntry)

/-! ### Stopping and releasing -/

/-- What waits for an engine's old operations is forgotten: its completions, its place in the point
engine's FIFO, the tags of its frames. -/
def State.forgetOps (s : State) (e : Nat) : State :=
  let s := s.setEng e { s.eng e with txDone := [], putDone := [], getDone := [], dmaDone := [] }
  let drop (o : PntOp) : List PntOp :=
    match o with
    | .get .. => []
    | .subst .. => []
    | .upd u => [.upd { u with from_ := { u.from_ with tag := none } }]
  let clr (l : LineTx) : LineTx := if l.eng = e then { l with tag := 16 } else l
  { s with
    pnt := { s.pnt with fifo := s.pnt.fifo.upd [] e (fun l => l.flatMap drop) },
    sw := { s.sw with frames := s.sw.frames.map (fun p =>
      (p.1, if p.2.txq.any (fun t => t.1 == e) then { p.2 with txq := none } else p.2)) },
    chv := { s.chv with line := s.chv.line.map (fun p =>
      (p.1, { p.2 with txq := p.2.txq.map clr, cur := p.2.cur.map clr })) } }

/-- Step 1 of R301: the engine stops, its outbox is discarded, its mailboxes are reset (R368). -/
def State.haltInstance (s : State) (e status : Nat) : State :=
  let s := s.setEng e { s.eng e with st := .stopped, haltReq := false, stepReq := false }
  let s := (s.dropOutbox e).resetMaster e
  (s.statusPoint e status).grantSettle

/-- The checkpoints, logs and journals of a cluster without an engine: no rollback crosses its restart. -/
def State.newCheckpoint (s : State) (e : Nat) : State :=
  let c := s.cl (e / 2)
  let k := s.core e
  let hi := e % 2 = 1
  let c := { c with
    jPrev := c.jPrev.filter (fun j => j.eng != e), jCur := c.jCur.filter (fun j => j.eng != e),
    undoPrev := c.undoPrev.filter (fun u => u.eng != e), undoCur := c.undoCur.filter (fun u => u.eng != e),
    late := c.late.filter (fun j => j.eng != e) }
  s.setCl (e / 2) (if hi then { c with endHi := k, ckptHi := k } else { c with endLo := k, ckptLo := k })

/-- Frames in the cluster receive queue for the instance's contexts, discarded and counted (R301
step 2). -/
def State.flushRx (s : State) (e : Nat) : State :=
  let c := s.cl (e / 2)
  let gone := c.rx.filter (s.rxFor e)
  let s := s.setCl (e / 2) { c with rx := c.rx.filter (fun f => !s.rxFor e f) }
  let s : State := { s with sw := { s.sw with
    crqDrop := s.sw.crqDrop.upd 0 (e / 2) (fun w => satAdd w gone.length) } }
  gone.foldl (fun s f => s.copyGone f.fid none) s

/-- One refresh delivery: written, or coalesced where the queue is full or pending (R301 step 4). -/
def State.refreshOne (s : State) (e i : Nat) (x : SubEntry) : State :=
  if s.queueDepth e = 0 then s
  else if s.queuePending e || s.queueFull e then s.coalesce i e
  else
    let r := s.point x.point
    let d : Delivery := { entry := i, queue := e, point := x.point, quality := r.quality, value := r.value,
                          stamp := r.stamp, tag := x.tag, window := x.window, coal := true }
    s.queueWrite e d

/-- Step 4 of R301. -/
def State.refresh (s : State) (e : Nat) : State :=
  let mine := s.pnt.subs.filter (fun p => s.entryQueue p.2 == some e)
  let s : State := { s with pnt := { s.pnt with
    sqWr := s.pnt.sqWr.set e 0, pend := s.pnt.pend.filter (fun i => !mine.any (fun p => p.1 == i)) } }
  mine.foldl (fun s p => s.refreshOne e p.1 p.2) s

/-- The engine released at `pc`: w1 the address of the instance block, w2 the engine number, every other
register at reset (R301 step 5, R318). -/
def State.release (s : State) (e : Nat) (pc : Word) : State :=
  let core := (({ pc := pc } : EngCore).setR 1 0x5FF00).setR 2 e
  s.setEng e { s.eng e with
    st := .running, core := core, left := 0, stalled := false, wdwSet := false, wdsAt := s.sys.mono,
    haltReq := false, stepReq := false }

/-- Step 2 of R301, what waits for the engine's old operations forgotten, and the bank zero-filled. -/
def State.emptyInstance (s : State) (e : Nat) : State :=
  (((s.forgetOps e).flushRx e).newCheckpoint e).clearBank e

/-- Steps 2 and 3 of R301 as far as a copy of the bank section that meets an uncorrectable error: the instance
stays stopped. -/
def State.failInstance (s : State) (e : Nat) : State :=
  ((s.setEng e { s.eng e with core := {} }).emptyInstance e).statusPoint e 4

/-- Steps 2 to 5 of R301. -/
def State.restartInstance (s : State) (e : Nat) : State :=
  let g := s.eng e
  let s := s.setEng e { g with restarts := g.restarts + 1, restarted := true, core := {} }
  let s := s.emptyInstance e
  let p := s.persSection e
  let s := (s.buildBank e p.1).refresh e
  let s := s.release e p.2
  let c := s.core e
  let cl := s.cl (e / 2)
  let s := s.setCl (e / 2) (if e % 2 = 1 then { cl with endHi := c, ckptHi := c }
                            else { cl with endLo := c, ckptLo := c })
  s.statusPoint e 2

/-- The engine has an instance (PERS.INST), and is not the odd one of a twin (Table 10-9). -/
def State.hasInstance (s : State) (e : Nat) : Bool := (s.rec? 0x0801 e).isSome && e == s.lead e

/-- A stop, start or restart of the engine is due. -/
def State.instPending (s : State) (e : Nat) : Bool := (s.cl (e / 2)).instReq.any (fun r => r.1 == e)

/-- A stop, start or restart scheduled for the cluster's next epoch boundary. -/
def State.schedule (s : State) (e : Nat) (k : InstReq) (by_ : Option (Nat × Byte)) : State :=
  let c := s.cl (e / 2)
  s.setCl (e / 2) { c with instReq := c.instReq ++ [(e, k, by_)] }

/-- The request code of a pending act. -/
def InstReq.code : InstReq → Nat
  | .restart => 0x601 | .stop => 0x602 | .start => 0x603

/-- The acts due at an epoch boundary of cluster `k`, once no rollback or replay runs: an instance to be
stopped is stopped, one to be restarted or started begins at step 1 of R301. -/
def State.boundary (s : State) (k : Nat) : State :=
  (s.cl k).instReq.foldl (fun s r =>
    match r.2.1 with
    | .stop =>
      let c := s.cl k
      let s := s.setCl k { c with instReq := c.instReq.filter (fun x => x.1 != r.1) }
      let s := s.haltInstance r.1 0
      match r.2.2 with
      | some (src, tag) => s.final src 0x602 tag 0 []
      | none => s
    | _ => if (s.eng r.1).status = 1 then s else s.haltInstance r.1 1) s

end Sys2Proof.Machine
end

