-- ==== Sys2Proof/Machine/DumpOps.lean ====
section
/-! DEFINITION. What the REC, ENG and DUMP registers show, and the host's DUMP controls (R347, R397, R403,
Tables 11-13, 13-12 to 13-15). -/

namespace Sys2Proof.Machine

/-! ### DUMP -/

/-- DUMP_LEN: 256 + comp_len of the dump in the window; 0 in states 0 and 3. -/
def State.dumpLenNow (s : State) : Nat :=
  if s.rmy.dumpState = 1 || s.rmy.dumpState = 2 then s.rmy.dumpLen.toNat else 0

/-- DUMP_STATUS (Table 13-12). -/
def State.dumpStatus (s : State) : Nat :=
  let r := s.rmy
  fields [(r.dumpReason.toNat, 16), (bit r.dumpUnsigned, 3), (bit r.dumpWritten, 2), (r.dumpState.toNat, 0)]

/-- DUMP_CTRL.clear: in state 2 the erasure starts; otherwise no effect (R403). -/
def State.dumpClear (s : State) : State :=
  if s.rmy.dumpState = 2 then
    { s with rmy := { s.rmy with dumpState := 3, dumpPresent := false, erasing := true, dumpWin := [],
                                 dumpReason := 0, dumpUnsigned := false, dumpWritten := false } }
  else s

/-- DUMP_CTRL.release: in state 1 it permits the reset (Table 13-12). -/
def State.dumpRelease (s : State) : State :=
  if s.rmy.dumpState = 1 then { s with rmy := { s.rmy with dumpRel := true } } else s

/-- DUMP_CLEAR. -/
def execDumpClear (s : State) : Out := if s.sys.up then s.dumpClear.done else .next s

/-- DUMP_RELEASE. -/
def execDumpRelease (s : State) : Out := if s.sys.up then s.dumpRelease.done else .next s

/-! ### REC (Tables 13-14 and 13-15) -/

/-- A cluster is in restore or replay. -/
def RecState.recovers : RecState → Bool
  | .stopped | .restore | .replay => true
  | _ => false

/-- REC_STATUS. -/
def State.recStatus (s : State) : Nat :=
  fields [(bit s.recAlarm, 3), (bit s.recFailed, 2), (bit s.recDegraded, 1),
    (bit (s.rmy.clusters.any (fun p => p.2.st.recovers)), 0)]

/-- The engines of cluster `k` under which its state is held. -/
def State.clEngines (s : State) (k : Nat) : List Nat := if s.twin k then [2 * k] else [2 * k, 2 * k + 1]

/-- REC_CSTATk.state (log 59). -/
def State.clState (s : State) (k : Nat) : Nat :=
  let c := s.cl k
  let es := s.clEngines k
  let inst := es.filter s.hasInstance
  match c.st with
  | .stopped => 1
  | .restore => 2
  | .replay => 3
  | _ =>
    if es.any (fun e => (s.eng e).status == 4) then 5
    else if c.fencedLo || c.fencedHi then 4
    else if !inst.isEmpty && inst.all (fun e => (s.eng e).st == .stopped) then 1 else 0

/-- REC_CSTATk. -/
def State.cstat (s : State) (k : Nat) : Nat :=
  let c := s.cl k
  fields [(c.spareHi, 16), (c.spareLo, 12), (bit c.jdamage, 8), (bit c.fencedHi, 5), (bit c.fencedLo, 4),
    (s.clState k, 0)]

/-- Journal bytes of a cluster since the last commit. -/
def Cluster.jbytes (c : Cluster) : Nat := ((c.jPrev ++ c.jCur).map JEntry.size).foldl (· + ·) 0

/-- REC_UNDOk. -/
def Cluster.ulines (c : Cluster) : Nat := (c.undoPrev ++ c.undoCur).length

/-- A fault log entry's bytes (R404). -/
def FaultEntry.bytes (f : FaultEntry) : List Byte :=
  leBytes 8 f.stamp.toNat ++ leBytes 1 f.cls ++ leBytes 1 f.island ++ leBytes 1 f.eng ++
  leBytes 1 f.outcome ++ leBytes 4 f.detail.toNat

/-! ### ENG (Tables 11-14 and 11-15) -/

/-- The engine is fenced (R389). -/
def State.fenced (s : State) (e : Nat) : Bool :=
  if e % 2 = 1 then (s.cl (e / 2)).fencedHi else (s.cl (e / 2)).fencedLo

/-- ENG_STATUS.state. -/
def State.engState (s : State) (e : Nat) : Nat :=
  if s.fenced e then 6
  else if s.recovering e then 3
  else match (s.eng (s.lead e)).st with
    | .stopped => 0 | .running => 1 | .wait => 2 | .recover => 3 | .dbgHalt => 4 | .trapHalt => 5 | .fenced => 6

/-- ENG_STATUS; before READY every field reads its Reset value. -/
def State.engStatus (s : State) (e : Nat) : Nat :=
  if s.sys.up then
    fields [(s.fld 0x0801 (s.lead e) 0 1 0, 8), (bit (s.core (s.lead e)).exc, 6), (s.cprofile (e / 2), 4),
      (bit (s.twin (e / 2)), 3), (s.engState e, 0)]
  else 0

/-- The engine is halted: by debug or by a double trap. -/
def State.engHalted (s : State) (e : Nat) : Bool := s.engState e == 4 || s.engState e == 5

/-- The value of register k of an engine; w0 reads 0 (R314). -/
def EngCore.wVal (c : EngCore) (k : Nat) : Nat := if k = 0 then 0 else (c.w.get 0 k).toNat

end Sys2Proof.Machine
end

