-- ==== Sys2Proof/Machine/FabricOps.lean ====
section
/-! DEFINITION. The Jabex fabric: neighbours, claims, the database, paths and streams (R235 to
R258). -/

namespace Sys2Proof

/-- Rank of a claim: static held, dynamic held, tentative; 0 none. -/
def Lsa.rank (l : Lsa) : Nat :=
  if l.claim = 2 then (if l.fixed then 3 else 2) else if l.claim = 1 then 1 else 0

/-- A key ID as an 8-byte string, first byte first: FAB_PEER_IDn has the first byte in bits 7:0. -/
def idOrder (d : DWord) : Nat := beNat (leBytes 8 d.toNat)

/-- Claim `a` wins over claim `b` of the same address. -/
def Lsa.beats (a b : Lsa) : Bool := b.rank < a.rank || (a.rank == b.rank && idOrder a.id < idOrder b.id)

end Sys2Proof

namespace Sys2Proof.Machine

def State.setFport (s : State) (n : Nat) (p : FabPort) : State :=
  { s with fab := { s.fab with port := s.fab.port.set n p } }
def State.fabEvent (s : State) (b : Nat) : State :=
  { s with fab := { s.fab with event := s.fab.event ||| BitVec.ofNat 5 (2 ^ b) } }

/-! ### Frames (R235, R236) -/

/-- A Jabex header (Table 8-1) with its hcrc; `path` is flags bit 0 with the tag bit. -/
def jabexHeader (kind path cls dst src hop hops : Nat) (route : List Nat) (stream : Nat) (seq : Word)
    (inc : Nat) : List Byte :=
  let h := leBytes 1 (16 + kind) ++ leBytes 1 (path + 2 * cls) ++ leBytes 2 dst ++ leBytes 2 src ++
    leBytes 1 hop ++ leBytes 1 hops ++
    leBytes 6 (fields (route.zipIdx.map (fun p => (p.1, 2 * p.2)))) ++ leBytes 2 stream ++
    leBytes 4 seq.toNat ++ leBytes 1 inc ++ leBytes 1 0
  h ++ leBytes 2 (crc32c h).toNat

/-- A data frame without FCS, to the neighbour's address from its HELLO (R235). -/
def State.jabexFrame (s : State) (port : Nat) (hdr payload : List Byte) : List Byte :=
  leBytes 6 (s.fport port).peerMac.toNat ++ leBytes 6 (s.derivedAddr (64 + port)).toNat ++ [0x88, 0xB5] ++
    hdr ++ payload

/-- The kind of a Jabex frame's bytes (Table 8-2). -/
def jabexKind (b : List Byte) : Nat := byteAt b 14 % 16

/-- The bytes that a tag covers: from the EtherType to the last payload byte, hop and hcrc as zero (R236). -/
def tagCover (b : List Byte) : List Byte := splice (splice (b.drop 12) 8 [0]) 24 [0, 0]

/-- A control frame without FCS: HELLO to the broadcast address, the other kinds to the neighbour's; LSA and TIME with
the tag under the port's link key. Class 7, dst 4095 and route entry 0 are the model's: the spec states none for control
kinds (DESIGN CHOICE, log 155). -/
def State.ctlFrame (s : State) (n kind : Nat) (payload : List Byte) : List Byte :=
  let tagged := kind = 4 || kind = 5
  let hdr := jabexHeader kind (if tagged then 16 else 0) 7 4095 s.fab.addr 1 1 [n] 0 0 s.fab.inc.toNat
  let da : List Byte := if kind = 2 then List.replicate 6 0xFF else leBytes 6 (s.fport n).peerMac.toNat
  let b := da ++ leBytes 6 (s.derivedAddr (64 + n)).toNat ++ [0x88, 0xB5] ++ hdr ++ payload
  if tagged then b ++ beBytes 16 (Free.gcmTag ((s.fport n).key.getD 0) (tagCover b)).toNat else b

/-- A control frame sent on a fabric port: queued in its class (R239). -/
def State.ctlSend (s : State) (n kind : Nat) (payload : List Byte) : State :=
  let b := s.ctlFrame n kind payload
  s.sendFrames [({ src := 84, stamp := s.time.t, gen := s.sw.gen, bytes := b, len := b.length + 4, cls := 7,
                   colour := 0, ended := true }, s.mkDest 84 (64 + n) 7 0)]

/-- The payload of a HELLO (Table 8-3). -/
def State.helloBytes (s : State) (n : Nat) : List Byte :=
  leBytes 4 (s.fld 0x0601 0 4 4 0) ++ leBytes 8 Free.deviceKeyId.toNat ++ leBytes 8 s.otp.serial.toNat ++
  leBytes 2 (s.fab.addr % 2 ^ 12 + s.fab.claim * 2 ^ 14) ++ leBytes 1 s.sys.lc.code ++ leBytes 1 n ++ List.replicate 8 0

/-- A payload whose layout is free, of at most 9,000 bytes. -/
def ctlBody (kind : Nat) (fields : List Nat) : List Byte := (Free.ctlPayload kind fields).take 9000

/-- The fields of an LSA (R244). -/
def lsaFields (l : Lsa) : List Nat :=
  [l.id.toNat, l.inc.toNat, l.seq.toNat, l.addr.toNat, l.claim.toNat, bit l.fixed, l.prio.toNat, bit l.qual] ++
  l.adj.flatMap (fun a => [a.port.val, a.peer.toNat, a.cost.toNat, bit a.rate])

/-- An LSA sent on a port, with that port's tag (R236, R244). -/
def State.lsaSend (s : State) (n : Nat) (l : Lsa) : State := s.ctlSend n 4 (ctlBody 4 (lsaFields l))

/-- An LSA flooded on every admitted port but one (R244). -/
def State.flood (s : State) (l : Lsa) (but : Option Nat) : State :=
  ((List.range 4).filter (fun n => s.admitted n && some n != but)).foldl (fun s n => s.lsaSend n l) s

/-- An ADMIT frame of the device's own: the first of a handshake carries the device certificate, a nonce and an ephemeral
point, the second the signature (R240). -/
def State.admitSend (s : State) (n step : Nat) : State :=
  (s.ctlSend n 3 (ctlBody 3 [step, Free.deviceKeyId.toNat, s.sys.draws])).draw

/-- Frames queued on a port that is no longer admitted are dropped, but for HELLO and ADMIT (R236, R241). -/
def State.fabFlush (s : State) (n : Nat) : State :=
  (List.range 8).foldl (fun s c =>
    ((s.queue (64 + n) c).filter (fun x => !s.begun (64 + n) x &&
      !(s.frame x.fid).any (fun f => jabexKind f.bytes == 2 || jabexKind f.bytes == 3))).foldl
      (fun s x => s.dropCopy (64 + n) c x (some 0x10)) s) s

/-! ### Claims (R243) -/

def State.fabStatic (s : State) : Bool := s.fld 0x0601 0 0 2 0 != 0
def State.fabPrio (s : State) : Nat := s.fld 0x0601 0 2 1 255

/-- The own LSA from the present state. -/
def State.ownLsa (s : State) : Lsa :=
  { id := Free.deviceKeyId, inc := s.fab.inc, seq := s.fab.lsaSeq,
    addr := BitVec.ofNat 12 (if s.fab.claim = 3 then 0 else s.fab.addr),
    claim := BitVec.ofNat 2 s.fab.claim, fixed := s.fabStatic, prio := BitVec.ofNat 8 s.fabPrio,
    qual := s.qualified,
    adj := ((List.finRange 4).filter (fun n => s.admitted n.val)).map (fun n =>
      { port := n, peer := (s.fport n.val).peerId, cost := (s.fport n.val).cost,
        rate := tst (s.port (64 + n.val)).cfg.toNat 1 }) }

/-- An LSA put into the database in place of its device's older one; a computation is due. -/
def State.dbPut (s : State) (l : Lsa) : State :=
  { s with fab := { s.fab with db := s.fab.db.filter (fun x => x.id != l.id) ++ [l], spfDue := true } }

/-- A new LSA originated: put into the database and flooded on every admitted port (R244). -/
def State.originate (s : State) : State :=
  if s.fabNode then
    let s : State := { s with fab := { s.fab with lsaSeq := s.fab.lsaSeq + 1, lsaAt := s.sys.mono },
                              tt := { s.tt with lsaDue := false } }
    (s.dbPut s.ownLsa).flood s.ownLsa none
  else s

/-- The LSA whose claim binds an address (R243). -/
def State.binding (s : State) (addr : Nat) : Option Lsa :=
  (s.fab.db.filter (fun l => l.addr.toNat == addr && addr != 0 && l.rank != 0)).foldl
    (fun (acc : Option Lsa) l => match acc with
      | some b => if l.beats b then some l else acc
      | none => some l) none

/-- An address that a held claim of another device uses. -/
def State.addrTaken (s : State) (a : Nat) : Bool :=
  s.fab.db.any (fun l => l.id != Free.deviceKeyId && l.addr.toNat == a && l.claim == 2)

/-- The next dynamic candidate from `a` upward, 4095 wrapping to 1. -/
def State.candidateAddr (s : State) : Nat → Nat → Nat
  | 0, a => a
  | k + 1, a =>
    let a := if 4095 ≤ a then 1 else a
    if s.addrTaken a then s.candidateAddr k (a + 1) else a

/-- The claim at start-up (R243). -/
def State.startClaim (s : State) : State :=
  if !s.fabNode then s
  else if s.fabStatic then
    State.originate { s with fab := { s.fab with addr := s.fld 0x0601 0 0 2 0, claim := 2 } }
  else
    State.originate { s with fab := { s.fab with
      addr := s.candidateAddr 4094 (s.otp.serial.toNat % 4094 + 1), claim := 1 } }

/-- The own claim loses its address to another one in the database. -/
def State.claimLoses (s : State) : Bool :=
  s.fab.addr != 0 && (s.fab.claim == 1 || s.fab.claim == 2) &&
  (let own := s.ownLsa
   s.fab.db.any (fun l => l.id != own.id && l.addr == own.addr && l.beats own))

/-- A dynamic loser takes the next candidate, and the next again while a claim of the database beats it (R243). -/
def State.nextClaim (s : State) : Nat → State
  | 0 => s
  | k + 1 =>
    if s.claimLoses then
      (State.originate { s with fab := { s.fab with
        addr := s.candidateAddr 4094 (s.fab.addr + 1), claim := 1 } }).nextClaim k
    else s

/-- The own claim judged against the database: a dynamic loser takes the next candidate, a static one
drops to address 0 (R243). -/
def State.settleClaim (s : State) : State :=
  if !s.claimLoses then s
  else if s.fabStatic then
    (State.originate { s with fab := { s.fab with addr := 0, claim := 3, conflict := true } }).fabEvent 2
  else s.nextClaim 4094

/-! ### Neighbours (R240 to R242) -/

/-- An admitted neighbour lost (R242). -/
def State.fabLoss (s : State) (n : Nat) : State :=
  let p := s.fport n
  if p.st == .admitted then
    (((s.setFport n { p with st := .admitting, key := none, shake := none, sync := none }).fabEvent 0).fabFlush
      n).originate
  else s.setFport n { p with shake := none, sync := none }

/-- A check fails: the neighbour is a stranger (R241). -/
def State.fabStranger (s : State) (n reason : Nat) : State :=
  let p := s.fport n
  ((s.setFport n { p with st := .stranger, reason := reason, shake := none, key := none,
                          admitFail := satInc p.admitFail }).fabEvent 1).fabFlush n

/-- A frame other than HELLO and ADMIT may be taken on the port; on a stranger port it is counted
(R241). -/
def State.fabTakes (s : State) (n : Nat) : Bool := s.running && (s.port (64 + n)).up && s.admitted n

def State.strangerDrop (s : State) (n : Nat) : State :=
  if s.fabState n = 4 then { s with fab := { s.fab with strangerDrop := satInc s.fab.strangerDrop } } else s

def State.fabHdrErr (s : State) : State := { s with fab := { s.fab with hdrErr := satInc s.fab.hdrErr } }
def State.fabAuthFail (s : State) : State := { s with fab := { s.fab with authFail := satInc s.fab.authFail } }
def State.fabLate (s : State) : State := { s with fab := { s.fab with late := satInc s.fab.late } }

/-! ### Paths (R245) -/

/-- A link of a device: both ends list it. -/
def State.links (s : State) (l : Lsa) : List Adj :=
  l.adj.filter (fun a => (s.fab.db.find? (fun m => m.id == a.peer)).any (fun m =>
    m.adj.any (fun x => x.peer == l.id)))

/-- A path: ports, devices reached, cost. -/
structure Path where
  ports : List Nat
  nodes : List DWord
  cost  : Nat
deriving DecidableEq, Repr

/-- A device is excluded: its key ID is bound to an address of the list (R243, R255). -/
def State.excluded (s : State) (id : DWord) : Bool :=
  s.fab.exclude.any (fun a => (s.binding a).any (fun l => l.id == id))

/-- All simple paths from a device to `dst` of at most `fuel` hops; excluded devices are no
intermediate devices (R245, R255). -/
def State.paths (s : State) (dst : DWord) : Nat → DWord → List DWord → List Path
  | 0, _, _ => []
  | k + 1, u, seen =>
    match s.fab.db.find? (fun l => l.id == u) with
    | none => []
    | some l =>
      (s.links l).flatMap (fun a =>
        if a.peer = dst then [{ ports := [a.port.val], nodes := [a.peer], cost := a.cost.toNat }]
        else if seen.contains a.peer ||
            s.excluded a.peer then []
        else (s.paths dst k a.peer (a.peer :: seen)).map (fun p =>
          { ports := a.port.val :: p.ports, nodes := a.peer :: p.nodes, cost := a.cost.toNat + p.cost }))

/-- Two paths share no intermediate device and are not the same link. -/
def Path.disjoint (p q : Path) : Bool :=
  p.ports != q.ports && p.nodes.dropLast.all (fun x => !(q.nodes.dropLast.contains x))

def Path.keySum (p : Path) : Nat := (p.nodes.map (·.toNat)).foldl (· + ·) 0

/-- The routes of a destination: a disjoint pair of least total cost, ties by the key-ID sum of path A;
else the least single path. Ties that remain are taken freely (log 46). -/
def State.routeTo (s : State) (addr : Nat) : Route :=
  match s.binding addr with
  | none => {}
  | some d =>
    if d.id = Free.deviceKeyId then {}
    else
      let ps := s.paths d.id 24 Free.deviceKeyId [Free.deviceKeyId]
      let pairs := ps.flatMap (fun p => (ps.filter p.disjoint).map (fun q => (p, q)))
      let pick (n : Nat) : Nat := (Free.word s.sys.draws).toNat % max 1 n
      let best := leastBy (fun (x : Path × Path) => (x.1.cost + x.2.cost, x.1.keySum)) pairs
      match best[pick best.length]? with
      | some (p, q) => { a := p.ports, b := q.ports }
      | none =>
        let one := leastBy (fun (x : Path) => (x.cost, x.keySum)) ps
        match one[pick one.length]? with
        | some p => { a := p.ports }
        | none => {}

/-- All routes computed and installed at once (R245). -/
def State.install (s : State) : State :=
  let streams := s.recsOf 0x0604
  let before := streams.map (fun r => s.streamState r.inst)
  let routes := streams.map (fun r => (r.inst, s.routeTo (rdLE r.body 0 2)))
  let t : State := s.draw
  let t : State := { t with fab := { t.fab with
    routes := routes.foldl (fun (m : Tab Route) p => m.set p.1 p.2) [],
    routeInstall := satInc t.fab.routeInstall, spfDue := false } }
  let t := t.fabEvent 3
  let worse := (streams.zip before).any (fun p =>
    let now := t.streamState p.1.inst
    2 ≤ now && now ≠ p.2)
  if worse then t.fabEvent 4 else t

/-! ### The time reference (R251) -/

def State.refSelf (s : State) : Bool := s.timeRef.any (fun l => l.id == Free.deviceKeyId)

/-- Devices within `k` links of a set. -/
def State.grow (s : State) : Nat → List DWord → List DWord
  | 0, l => l
  | k + 1, l => s.grow k ((l.flatMap (fun u => match s.fab.db.find? (fun x => x.id == u) with
      | some x => (s.links x).map (·.peer)
      | none => [])).foldl (fun acc x => if acc.contains x then acc else acc ++ [x]) l)

/-- Least number of links between two devices. -/
def State.hopsTo (s : State) (from_ dest : DWord) : Option Nat :=
  (List.range (s.fab.db.length + 1)).find? (fun k => (s.grow k [from_]).contains dest)

/-- The port of the time parent: on a least-hop path to the reference, the lowest port (R251). -/
def State.parentPort (s : State) : Option Nat :=
  match s.timeRef with
  | none => none
  | some r =>
    if !s.usesJabex || r.id = Free.deviceKeyId then none
    else
      let c := ((List.range 4).filter s.admitted).filterMap (fun n =>
        (s.hopsTo (s.fport n).peerId r.id).map (fun h => (n, h)))
      (leastBy (fun (x : Nat × Nat) => (x.2, x.1)) c).head?.map Prod.fst

/-! ### Streams (R235, R247 to R250) -/

/-- The device may originate: its claim holds an address, and 200 ms have passed since the reset
(R243, R249). -/
def State.mayOriginate (s : State) : Bool := ms 200 ≤ s.sys.mono

/-- A payload sent on a stream, on the paths of its route whose first port is admitted (R241, R247). An unreachable
stream drops and counts it; `own` is the TXQ that awaits it. -/
def State.streamSend (s : State) (stream kind src cls : Nat) (payload : List Byte) (own : Option (Nat × Nat)) : State :=
  let dst := s.fld 0x0604 stream 0 2 0
  let r := s.fab.routes.get {} stream
  let ways := [(0, r.a), (1, r.b)].filter (fun w => w.2.head?.any s.admitted)
  if ways.isEmpty || s.fab.claim = 3 then
    let s : State := { s with fab := { s.fab with unreach := satInc s.fab.unreach } }
    match own with
    | some (e, tag) =>
      let g := s.eng e
      s.setEng e { g with txDone := g.txDone ++ [(tag, 4, none)] }
    | none => s
  else
    let seq := s.fab.seqs.get 0 stream
    let s : State := { s with fab := { s.fab with
      seqs := s.fab.seqs.set stream (seq + 1), sent := s.fab.sent.upd 0 stream satInc } }
    let mk (path : Nat) (route : List Nat) : Nat × List Byte :=
      let p := route.headD 0
      (p, s.jabexFrame p (jabexHeader kind path cls dst s.fab.addr 1 route.length route stream seq
        s.fab.inc.toNat) payload)
    let copies := ways.map (fun w => mk w.1 w.2)
    s.sendFrames (copies.map (fun c =>
      ({ src := src, stamp := s.time.t, gen := s.sw.gen, bytes := c.2, len := c.2.length + 4, cls := cls,
         colour := 0, ended := true, txq := own }, s.mkDest 84 (64 + c.1) cls 0)))

end Sys2Proof.Machine
end

