-- ==== Sys2Proof/Machine/Switch.lean ====
section
/-! DEFINITION. Classification, reception, transmission and the planes of the switch core (R155 to
R172, R178 to R206). -/

namespace Sys2Proof.Machine

/-! ### Classification (R179) -/

/-- Ports of a mask as a list without the ingress port. -/
def portsOf (mask src : Nat) : List Nat := (maskBits 64 mask).filter (· != src)

/-- The destination ports of R182, before the rule's actions. -/
def State.lookup (s : State) (n vid : Nat) (da : BitVec 48) : List Nat :=
  let sp := s.swPort n
  let flood (on : Bool) : List Nat :=
    if on then portsOf (match s.vlan vid with | some m => m.1 | none => 0) n else []
  match s.fdb? da vid with
  | some e =>
    if e.kind = 2 then []
    else if e.kind = 1 then portsOf (match s.swRec 0x0307 e.dest with | some r => rdLE r.body 0 8 | none => 0) n
    else if e.dest = n then [] else [e.dest]
  | none => if isGroup da then flood sp.floodMc else flood sp.floodUc

/-- The pair of a port by instance and mode (1 PRP, 2 HSR). -/
def State.pairMode (s : State) (n : Nat) : Option (Nat × Nat) :=
  (s.pairOf n).map (fun r => (r.inst, bits (s.port n).pair.toNat 5 4))

/-- A frame that enters a pair from elsewhere goes to both members under one sequence number
(PRESUMED, IEC 62439-3; log 42). -/
def State.expandPairs (s : State) (src : Nat) (l : List Nat) : List Nat × List (Nat × BitVec 16) × State :=
  l.foldl (fun acc n =>
    let (out, seqs, s) := acc
    if out.contains n then acc
    else match s.pairMode n with
      | none => (out ++ [n], seqs, s)
      | some (i, _) =>
        if (s.pairMode src).any (fun p => p.1 == i) then (out ++ [n], seqs, s)
        else
          let p := s.pair i
          let m := s.partner n
          (out ++ [n] ++ (if out.contains m || m = src then [] else [m]), seqs ++ [(i, p.seq)],
            s.setPair i { p with seq := p.seq + 1 })) ([], [], s)

/-- A frame received on an HSR ring port is removed: its source is this node or a proxied node (R170). -/
def State.hsrRemoves (s : State) (n i : Nat) (p : Parsed) : Bool :=
  p.sa == s.ownAddr n || p.sa == s.ownAddr (s.partner n) || (s.pair i).proxies.contains p.sa

/-- A frame received on an HSR ring port is not passed on to the other: a duplicate, or unicast to this node, by an own
address or a filter entry of either port (R160, R170). -/
def State.hsrStops (s : State) (n i : Nat) (p : Parsed) (seq : BitVec 16) : Bool :=
  (s.pair i).dd.any (fun e => e.src == p.sa && e.seq == seq) ||
  s.isLocal n p.da || s.isLocal (s.partner n) p.da

/-- A PAUSE or PFC frame: an untagged MAC control frame of opcode 0x0001 or 0x0101 (PRESUMED, IEEE 802.3 Annex 31A;
log 153). -/
def pauseOp (p : Parsed) (b : List Byte) : Option Nat :=
  if p.et = 0x8808 && p.tags.isEmpty && p.hsr.isNone then
    let op := rdBE b p.pay 2
    if op = 0x0001 || op = 0x0101 then some op else none
  else none

/-- The slot of a frame in reception: an express frame's, or the preemptable frame's between its fragments (R166). -/
def Port.slot (p : Port) (pre : Bool) : Option Nat := if pre then p.rxp else p.rx
def Port.fill (p : Port) (pre : Bool) (fid : Nat) : Port :=
  if pre then { p with rxp := some fid } else { p with rx := some fid }
/-- Reception of a frame ends: its slot is free. -/
def State.clearRx (s : State) (n fid : Nat) : State :=
  let p := s.port n
  s.setPort n { p with rx := if p.rx = some fid then none else p.rx, rxp := if p.rxp = some fid then none else p.rxp }

/-- Steps 1 to 7 of R179 on a frame of length `len` whose first bytes are `b`; `prp` when it carries
a PRP trailer, `pre` for a preemptable frame. A drop at step 2, 3 or 4 leaves no destination and its verdict; a PAUSE
or PFC frame and a frame that HSR removes go nowhere (R162, R170). -/
def State.classify (s : State) (n : Nat) (b : List Byte) (len : Nat) (prp : Bool) (raw : DWord)
    (pre : Bool) : State :=
  let p := parse b
  let sp := s.swPort n
  let pm := s.pairMode n
  let red := pm.isSome && (prp || p.hsr.isSome)
  let tci := match p.tags with | t :: _ => t.2 | [] => 0
  let tagged := !p.tags.isEmpty
  let vid := if tagged && tci % 4096 ≠ 0 then tci % 4096 else sp.pvid
  let cls0 := if tagged then (sp.pcp.getD (tci / 8192) 0).toNat else sp.defClass
  let dei := tagged && tst tci 12
  let f0 : Frame := { src := n, stamp := s.inStamp n raw, gen := s.sw.gen, bytes := b, len := len,
                      cls := cls0, colour := bit dei, vid := vid, red := red }
  let add (f : Frame) (s : State) : Nat × State :=
    let (i, s) := s.newFrame f
    (i, s.setPort n ((s.port n).fill pre i))
  let vl := s.vlan vid
  let removed := p.hsr.isSome && (match pm with
    | some (i, 2) => s.hsrRemoves n i p
    | _ => false)
  if removed || (pauseOp p b).isSome then (add { f0 with refused := [0x03] } s).2
  else if vl.isNone || (sp.ingressFilter && !(vl.any (fun m => tst m.1 n))) then
    (add { f0 with refused := [0x08] } s).2
  else
    let loc := s.isLocal n p.da
    let rule := s.rule? (classKey n loc red vid p b)
    let act := match rule with | some r => rdLE r.body 0x40 1 | none => 0
    let fld (o k : Nat) : Nat := match rule with | some r => rdLE r.body o k | none => 0
    let ctx := if tst act 2 then some (fld 0x42 2) else none
    if tst act 0 then (add { f0 with refused := [0x04] } s).2
    else if loc && ctx.isNone then
      (add { f0 with refused := [0x09] }
        { s with sw := { s.sw with localNoctx := satInc s.sw.localNoctx } }).2
    else
      let cls := if tst act 1 then fld 0x41 1 else cls0
      let (colour, s) := if tst act 3 then s.meter (fld 0x44 2) len sp.colourAware dei else (bit dei, s)
      let set0 := if loc then [] else s.lookup n vid p.da
      let set1 := if loc then [] else if tst act 4 then
          portsOf (match s.swRec 0x0307 (fld 0x46 2) with | some r => rdLE r.body 0 8 | none => 0) n else set0
      let set2 := if tst act 5 then [] else set1
      -- the other member of the ingress pair: never on PRP, by R170 on an HSR ring
      let set3 := match pm with
        | none => set2
        | some (i, mode) =>
          let others := set2.filter (· != s.partner n)
          match mode, p.hsr with
          | 2, some seq => if loc || s.hsrStops n i p seq then others else others ++ [s.partner n]
          | _, _ => others
      let (set4, seqs, s) := s.expandPairs n set3
      let f : Frame := { f0 with
        cls := cls, colour := colour, ctx := ctx, rule := rule.map (·.inst), capRule := tst act 6,
        pairSeq := seqs,
        learn := if sp.learnOn && !isGroup p.sa then some (p.sa, vid) else none,
        refused := if set4.isEmpty && ctx.isNone then [0x03] else [],
        dests := set4.map (fun d => s.mkDest n d cls colour) }
      let cts := f.dests.filter (·.ct)
      let (fid, s) := add { f with dests := f.dests.filter (fun d => !d.ct) } s
      let cells := ceilDiv (s.rxLimit n p.tags.length red raw) 64
      cts.foldl (fun s d => s.judgeAt fid d cells true) s

/-- FRAME_CLASSIFY: the first bytes of a frame of length `len` on a station port, stamped `raw` at its
SFD; `prp` when the parser finds a PRP trailer (R179). The stamp tells a preemptable frame in reassembly from an
express one (R166). -/
def execFrameClassify (p : Fin 64) (head : List Byte) (len : Nat) (prp : Bool) (raw : DWord) (s : State) : Out :=
  let q := s.port p.val
  let pre := q.frag.any (fun x => x.2 == raw)
  if s.takesPort p.val && (q.slot pre).isNone && 64 ≤ len then
    (s.classify p.val head len prp raw pre).done
  else .next s

/-! ### End of reception (R156, R157, R169, R197) -/

/-- The FCS of a frame is good: CRC-32 of the body, least significant byte first (PRESUMED, log 2). -/
def fcsOk (b : List Byte) : Bool := b.drop (b.length - 4) == leBytes 4 (crc32 (b.take (b.length - 4))).toNat

/-- The receive outcome: the counter of Table 5-2; 0 for a good frame. -/
def rxOutcome (len m : Nat) (fcs sym : Bool) : Nat :=
  if 16383 < len then 21
  else if m < len then 20
  else if len < 64 then (if fcs then 16 else 17)
  else if sym then 19
  else if fcs then 0 else 18

/-- Copies of a frame that have not begun are withdrawn without a count (R157). -/
def State.withdraw (s : State) (fid : Nat) : State :=
  (List.range 544).foldl (fun s i =>
    let n := i / 8
    let c := i % 8
    match (s.queue n c).find? (fun x => x.fid == fid && !s.begun n x) with
    | some x => s.dropCopy n c x none
    | none => s) s

/-- The charges of cut-through copies credited to the exact size (R197). -/
def State.creditCt (s : State) (fid cells : Nat) : State :=
  let old := (s.sw.queue.flatMap (fun p => p.2.filter (fun x => x.fid == fid && x.ct))).foldl
    (fun a x => max a x.cells) cells
  let s : State := { s with sw := { s.sw with queue := s.sw.queue.map (fun p =>
      (p.1, p.2.map (fun x => if x.fid == fid && x.ct then { x with cells := min cells x.cells } else x))) } }
  match s.frame fid with
  | some f => s.setFrame fid { f with pool := f.pool - (old - cells) }
  | none => s

/-- A frame whose outcome is not good: its decision is abandoned (R156, R157); a copy that has begun is credited the
difference to the exact size (R197). -/
def State.abandon (s : State) (n fid len m : Nat) (body fcs : List Byte) : State :=
  match s.frame fid with
  | none => s
  | some f =>
    let s := s.setFrame fid { f with bad := true, dests := [], len := len, bytes := body, fcs := fcs, learn := none,
                                     stompAt := if m < len then m else len - 4 }
    let s := (s.withdraw fid).creditCt fid (ceilDiv len 64)
    let s := match s.frame fid with
      | some f => s.setFrame fid { f with ended := true }
      | none => s
    (s.clearRx n fid).tryRelease fid

/-- A frame without its HSR header or PRP trailer (R170). -/
def stripRed (f : Frame) : List Byte :=
  if !f.red then f.bytes
  else
    let o := 12 + 4 * (parse f.bytes).tags.length
    if (parse f.bytes).hsr.isSome then f.bytes.take o ++ f.bytes.drop (o + 6)
    else f.bytes.take (f.bytes.length - 6)

/-- A PTP event message: of type 0 to 3 over IEEE 802.3, or to UDP port 319 over IPv4 (PRESUMED, IEEE 1588; log
43). -/
def ptpEvent (p : Parsed) (b : List Byte) : Bool :=
  if p.et = 0x88F7 then rdBE b p.pay 1 % 16 < 4
  else p.et == 0x0800 && rdBE b (p.pay + 9) 1 == 17 && rdBE b (p.pay + rdBE b p.pay 1 % 16 * 4 + 2) 2 == 319

/-- The frame counters of a good frame at a port, from base index 0 (Table 5-5). -/
def State.countGood (s : State) (n len cls : Nat) (p : Parsed) (b : List Byte) : State :=
  let s := s.stats n ([0, sizeBin 8 len] ++
    [if p.da == BitVec.allOnes 48 then 4 else if isGroup p.da then 3 else 2] ++
    (if p.tags.isEmpty then [] else [7]) ++ [40 + cls] ++
    (if n < 64 && p.hsr.isSome then [24] else []) ++ (if n < 64 && ptpEvent p b then [31] else []))
  s.stat n 1 len

/-- The duplicate table of a pair takes an entry; a full table loses its oldest one (R169). -/
def State.ddAdd (s : State) (n i : Nat) (e : DdEntry) : State :=
  let q := s.pair i
  if q.dd.length < 4096 then s.setPair i { q with dd := q.dd ++ [e] }
  else
    let s := s.setPair i { q with dd := q.dd.drop 1 ++ [e], evict := satInc q.evict }
    (s.portEvent n 5).portEvent (s.partner n) 5

/-- Node tables: sources heard on the pair, and sources behind a RedBox (PRESUMED, log 42). -/
def State.noteNode (s : State) (n : Nat) (sa : BitVec 48) : State :=
  match s.pairMode n with
  | some (i, _) =>
    let q := s.pair i
    if q.nodes.contains sa || 1024 ≤ q.nodes.length then s else s.setPair i { q with nodes := q.nodes ++ [sa] }
  | none =>
    (s.recsOf 0x0203).foldl (fun s r =>
      let q := s.pair r.inst
      if !tst (rdLE r.body 3 1) 0 || q.proxies.contains sa || 512 ≤ q.proxies.length then s
      else s.setPair r.inst { q with proxies := q.proxies ++ [sa] }) s

/-- PRP and HSR at the end of a good frame: trailer counters, LanId, duplicate discard (R169, R171).
True when the frame is a duplicate. -/
def State.dupCheck (s : State) (n : Nat) (sa : BitVec 48) (hsr : Option (BitVec 16)) (body : List Byte) :
    Bool × State :=
  match s.pairOf n with
  | none => (false, s)
  | some r =>
    let mode := bits (s.port n).pair.toNat 5 4
    let prp := if mode = 1 then prpOf body else none
    let s := match prp with
      | some (_, lan) =>
        let s := s.stat n 23
        if lan = (if rdLE r.body 1 1 = n then 0xA else 0xB) then s else s.stat n 26
      | none => s
    let seq := if mode = 2 then hsr else prp.map Prod.fst
    match seq with
    | none => (false, s)
    | some q =>
      if (s.pair r.inst).dd.any (fun e => e.src == sa && e.seq == q) then
        if tst (rdLE r.body 3 1) 1 then (false, s) else (true, s.stat n 25)
      else (false, s.ddAdd n r.inst { src := sa, seq := q, at_ := s.sys.mono })

/-- The reception of a frame is over with its destinations judged: counter 22 when every destination has refused it and
one of them for want of buffer or quota (R201). -/
def State.finishRx (s : State) (n fid : Nat) : State :=
  match s.frame fid with
  | none => s
  | some f =>
    let s := if !f.admitted && !f.delivered && (f.refused.contains 0x06 || f.refused.contains 0x0C) then
      s.stat n 22 else s
    let s := (s.setFrame fid { f with ended := true, dests := [] }).tryRelease fid
    match f.ctx.bind s.ctxOwner with
    | some e => s.rxCheck e
    | none => s

/-- A frame dropped after a good reception: its copies that have not begun are withdrawn. -/
def State.discardRx (s : State) (fid : Nat) : State :=
  let s := s.withdraw fid
  match s.frame fid with
  | some f => (s.setFrame fid { f with ended := true, dests := [] }).tryRelease fid
  | none => s

/-! ### Pause (R162, R163) -/

/-- Counter of a class's pause entries (Table 5-5): 88 + c for classes 0 to 3, 80 + c above. -/
def pauseIndex (c : Nat) : Nat := if c < 4 then 88 + c else 80 + c

/-- The classes of a mask paused or released. -/
def State.setPaused (s : State) (n : Nat) (m : BitVec 8) : State :=
  let p := s.port n
  let fresh := (maskBits 8 m.toNat).filter (fun c => !p.paused.getLsbD c)
  let s := s.setPort n { p with paused := m, pausedAt := if p.paused = 0 then s.sys.mono else p.pausedAt }
  let s := fresh.foldl (fun s c => s.stat n (pauseIndex c)) s
  if p.paused = 0 && m ≠ 0 then s.stat n 80 else s

/-- A pause frame's counters beside those of any good frame: rx_pause, rx_pause_disabled where its kind is not
honoured, rx_pause_holdoff during the holdoff. True when it takes effect. -/
def State.pauseTaken (s : State) (n : Nat) (honoured : Bool) : Bool × State :=
  let hold := (s.port n).holdoff
  let s := s.stats n ([5] ++ (if honoured then [] else [6]) ++ (if hold then [95] else []))
  (honoured && !hold, s)

/-- Until when quanta received now pause a class, 512 bit times at the port's speed each (R162). -/
def State.pauseTill (s : State) (n : Nat) (quanta : BitVec 16) : Nat := s.sys.mono + s.byteTime n (64 * quanta.toNat)

/-- A PAUSE frame with its quanta acts (R162, R163). -/
def State.pauseAct (s : State) (n : Nat) (quanta : BitVec 16) : State :=
  let (ok, s) := s.pauseTaken n (s.port n).rxPause
  if ok then
    let q := s.port n
    let m := ~~~ BitVec.ofNat 8 q.exempt
    let s := s.setPort n { q with till := (List.range 8).map (fun c => (c, s.pauseTill n quanta)) }
    s.setPaused n (if quanta = 0 then q.paused &&& ~~~ m else q.paused ||| m)
  else s

/-- A PFC frame with the classes it enables and the quanta of each acts (R162, R163). -/
def State.pfcAct (s : State) (n : Nat) (classes : BitVec 8) (quanta : List (BitVec 16)) : State :=
  let (ok, s) := s.pauseTaken n (s.port n).pfcEn
  if ok then
    let q := s.port n
    let s := (maskBits 8 classes.toNat).foldl (fun s c => s.stat n (32 + c)) s
    let s := s.setPort n { s.port n with
      till := (maskBits 8 classes.toNat).foldl (fun t c => t.set c (s.pauseTill n (quanta.getD c 0))) q.till }
    let sel (z : Bool) : BitVec 8 := BitVec.ofNat 8 (fields (((maskBits 8 classes.toNat).filter
      (fun c => !tst q.exempt c && ((quanta.getD c 0 == 0) == z))).map (fun c => (1, c))))
    s.setPaused n ((q.paused &&& ~~~ sel true) ||| sel false)
  else s

/-- A received PAUSE or PFC frame acts by its payload (PRESUMED, IEEE 802.3 Annex 31B and IEEE 802.1Q Clause 36: the
quanta, or the class enable vector and eight quanta; log 153). -/
def State.pauseBytes (s : State) (n op : Nat) (p : Parsed) (b : List Byte) : State :=
  let w (k : Nat) : BitVec 16 := BitVec.ofNat 16 (rdBE b (p.pay + 2 * k) 2)
  if op = 1 then s.pauseAct n (w 1)
  else s.pfcAct n ((w 1).setWidth 8) ((List.range 8).map (fun c => w (2 + c)))

/-! ### A good frame -/

/-- A good station frame: counted, learned, checked for a duplicate, then judged at every
store-and-forward destination and at its cluster queue; a PAUSE or PFC frame acts (R156, R162, R193, R197, R201). -/
def State.receiveGood (s : State) (n fid : Nat) (body fcs : List Byte) : State :=
  match s.frame fid with
  | none => s
  | some f =>
    let p := parse body
    let len := body.length + 4
    let s := s.countGood n len f.cls p body
    let s := if s.isLocal n p.da then s.stat n 30 else s
    let s := (s.clearRx n fid).setFrame fid { f with bytes := body, fcs := fcs, len := len }
    match pauseOp p body with
    | some op => (s.pauseBytes n op p body).discardRx fid
    | none =>
      let s := s.creditCt fid (ceilDiv len 64)
      let (dup, s) := s.dupCheck n p.sa p.hsr body
      if dup then s.discardRx fid
      else
        let s := match f.learn with
          | some (a, v) => s.learn n a v
          | none => s
        let s := s.noteNode n p.sa
        let s := f.dests.foldl (fun s d => s.judgeAt fid d (ceilDiv len 64) false) s
        match s.frame fid with
        | none => s
        | some f =>
          (match f.ctx with
            | some c => s.judgeCluster fid f { ctx := c, bytes := stripRed f, port := n, cls := f.cls,
                                               colour := f.colour, stamp := f.stamp }
            | none => s).finishRx n fid

/-- Reception stops at 16,383 bytes (Table 5-2): the bytes of the body that were taken, and the FCS of a frame that
ended within them. -/
def rxParts (b : List Byte) : List Byte × List Byte :=
  if 16383 < b.length then (b.take 16383, []) else (b.take (b.length - 4), b.drop (b.length - 4))

/-- The end of reception on a station port of a whole frame with its FCS, stamped `raw` at its SFD; `sym` when the PCS
saw a code error inside it, `pre` for a reassembled preemptable frame (R156, R166). -/
def State.receiveEnd (s : State) (n : Nat) (b : List Byte) (sym : Bool) (raw : DWord) (pre : Bool) : State :=
  let len := b.length
  let (body, fcs) := rxParts b
  let ps := parse body
  let prp := (prpOf body).isSome
  let s := if ((s.port n).slot pre).isNone && 64 ≤ len then s.classify n (body.take 128) len prp raw pre else s
  let m := s.rxLimit n ps.tags.length (prp || ps.hsr.isSome) raw
  let o := rxOutcome len m (fcsOk b) sym
  match (s.port n).slot pre with
  | none => if o = 0 then s.countGood n len 0 ps body else s.stat n o
  | some fid =>
    if o = 0 then s.receiveGood n fid body fcs
    else (s.stat n o).abandon n fid (min 16383 len) m body fcs

/-- FDB_AGE_OUT: a learned entry not matched as a source for age_s (R181). -/
def execFdbAgeOut (addr : BitVec 48) (vid : BitVec 12) (s : State) : Out :=
  if s.running && s.sw.ageS != 0 then
    State.done { s with sw := { s.sw with
      fdb := s.sw.fdb.filter (fun e => e.static || !(e.addr == addr && e.vid == vid.toNat) ||
        decide (s.sys.mono < e.seen + sec s.sw.ageS)) } }
  else .next s

/-- DD_ENTRY_AGE_OUT: dd_age_ms after its creation (R169). -/
def execDdEntryAgeOut (pair : Fin 32) (addr : BitVec 48) (seq : BitVec 16) (s : State) : Out :=
  if s.running then
    let q := s.pair pair.val
    let old (e : DdEntry) : Bool := decide (e.at_ + ms (s.fld 0x0203 pair.val 4 2 0) ≤ s.sys.mono)
    (s.setPair pair.val { q with dd := q.dd.filter (fun e => !(e.src == addr && e.seq == seq && old e)) }).done
  else .next s

/-! ### Egress (R158, R172, R180, R194, R212, R221) -/

/-- Insertion of an HSR tag or a PRP trailer (PRESUMED layout, log 42). -/
def addRed (mode lan : Nat) (seq : BitVec 16) (b : List Byte) : List Byte :=
  if mode = 1 then
    b ++ beBytes 2 seq.toNat ++ beBytes 2 (lan * 4096 + (b.length - 14 + 6) % 4096) ++ beBytes 2 0x88FB
  else
    let o := 12 + 4 * (parse b).tags.length
    b.take o ++ beBytes 2 0x892F ++ beBytes 2 (lan % 2 * 4096 + (b.length - o - 2 + 6) % 4096) ++
      beBytes 2 seq.toNat ++ b.drop o

/-- The pair and sequence number under which the device sends a frame on a port. -/
def State.sendsRed (s : State) (f : Frame) (n : Nat) : Option (Nat × BitVec 16) :=
  match s.pairMode n with
  | some (i, mode) => (f.pairSeq.find? (fun p => p.1 == i)).map (fun p => (mode, p.2))
  | none => none

/-- Clock type of TIME.PTP (Table 4-17). -/
def State.ptpClock (s : State) : Nat := s.fld 0x0404 0 0 1 0
def State.ptpTwoStep (s : State) : Bool := tst (s.fld 0x0404 0 5 1 0) 1

/-- The message type of a frame that a transparent clock corrects, with the offset of its PTP header (PRESUMED layout
of IEEE 1588: EtherType 0x88F7, log 43). -/
def State.tcFrame (s : State) (f : Frame) (b : List Byte) : Option (Nat × Nat) :=
  let p := parse b
  if s.ptpClock = 3 && p.et = 0x88F7 && f.src < 64 then some (rdBE b p.pay 1 % 16, p.pay) else none

/-- sourcePortIdentity and sequenceId of a PTP message at an offset. -/
def ptpKey (b : List Byte) (off : Nat) : List Byte := (b.drop (off + 20)).take 12

/-- What a transparent clock adds to correctionField of a message on egress port `n`, in units of 250 ps (R137): in
one-step mode to an event message its residence, to Sync also the link delay of its ingress port; in two-step mode to
Follow_Up and Pdelay_Resp_Follow_Up the residence of the message they follow, to Follow_Up also that link delay. -/
def State.tcAdd (s : State) (f : Frame) (n typ : Nat) (key : List Byte) (stamp : DWord) : Int :=
  let delay : Int := (s.time.linkDelay.get 0 f.src).toNat
  if !s.ptpTwoStep then
    (if typ < 4 then (stamp - f.stamp).toInt else 0) + (if typ = 0 then delay else 0)
  else if typ = 8 || typ = 10 then
    (match s.time.tcHeld.find? (fun x => x.key == key && x.port == n) with
      | some x => x.res
      | none => 0) + (if typ = 8 then delay else 0)
  else 0

/-- The correction written into correctionField, at offset 8 of the PTP header (R137). -/
def State.ptpCorrect (s : State) (f : Frame) (n : Nat) (stamp : DWord) (b : List Byte) : List Byte :=
  match s.tcFrame f b with
  | none => b
  | some (typ, off) =>
    let add := s.tcAdd f n typ (ptpKey b off) stamp
    let old := toSigned 64 (rdBE b (off + 8) 8)
    if off + 16 ≤ b.length then splice b (off + 8) (beBytes 8 (ofSigned 64 (old + add * 16384))) else b

/-- A two-step transparent clock keeps the residence of Sync and Pdelay_Resp for the message that follows (R137). -/
def State.tcKeep (s : State) (f : Frame) (n : Nat) (stamp : DWord) : State :=
  match s.tcFrame f f.bytes with
  | none => s
  | some (typ, off) =>
    if s.ptpTwoStep && (typ = 0 || typ = 3) then
      let key := ptpKey f.bytes off
      { s with time := { s.time with
        tcHeld := s.time.tcHeld.filter (fun x => !(x.key == key && x.port == n)) ++
          [{ key := key, port := n, res := (stamp - f.stamp).toInt }] } }
    else s

/-- The PTP header of a one-step frame of the device's own as the frame leaves (R137): Sync and Delay_Req take
originTimestamp from the egress stamp, the other messages a correctionField. Which of the two a message takes,
the rounding of 250 ps to ns and the value of the correction are not stated (PRESUMED layout of IEEE 1588, log
43; free values, log 40). -/
def State.ptpOneStep (s : State) (off : Nat) (stamp : DWord) (b : List Byte) : List Byte :=
  let t := stamp.toNat
  let up := if t % 4 = 0 then 0 else (Free.byte s.sys.draws 0).toNat % 2
  let ns := t % 4000000000 / 4 + up
  if rdBE b off 1 % 16 ≤ 1 then
    splice b (off + 34) (beBytes 6 (t / 4000000000 + ns / 1000000000) ++ beBytes 4 (ns % 1000000000))
  else splice b (off + 8) (Free.bytes s.sys.draws 8)

/-- A frame's body as it leaves port `n` (R170, R180, R137): ingress redundancy removed unless it
stays on the ring, the outermost tag removed where the VLAN untags, the device's own trailer or
header added. -/
def State.egressBody (s : State) (f : Frame) (n : Nat) (stamp : DWord) : List Byte :=
  let ring := f.red && (match s.pairMode n, s.pairMode f.src with
    | some (i, 2), some (j, _) => i == j
    | _, _ => false)
  let b := if ring then f.bytes else stripRed f
  let untag := f.src < 68 && (s.vlan f.vid).any (fun m => tst m.2 n) && !(parse b).tags.isEmpty
  let b := if untag then b.take 12 ++ b.drop 16 else b
  let b := s.ptpCorrect f n stamp b
  let b := match f.ptp with
    | some off => (s.ptpOneStep off stamp b).take b.length
    | none => b
  match s.sendsRed f n with
  | some (mode, seq) =>
    let lan := match s.pairOf n with
      | some r => if rdLE r.body 1 1 = n then 0xA else 0xB
      | none => 0xA
    addRed mode lan seq b
  | none => b

/-- Length of a copy as handed to a MAC: its padded body and FCS; of a frame in reception by its own length. -/
def State.handedLen (s : State) (f : Frame) (n : Nat) : Nat :=
  max 60 ((s.egressBody f n 0).length + (if f.ended then 0 else f.len - 4 - f.bytes.length)) + 4

/-- Wire length of a copy: its padded body and FCS, or M while reception has not ended (R158, R212). -/
def State.wireLen (s : State) (f : Frame) (n : Nat) : Nat :=
  if f.ended then max 60 (s.egressBody f n 0).length + 4
  else s.limitM f.src (parse f.bytes).tags.length f.red

/-- Preemption is active on a port (R164). -/
def State.preemptOn (s : State) (n : Nat) : Bool := (s.port n).verify == .active
def State.preemptable (s : State) (n c : Nat) : Bool := s.preemptOn n && !tst (s.port n).express c

/-- Time of the bytes still to send, with preamble and SFD (R212). -/
def State.sendTime (s : State) (f : Frame) (n sent : Nat) : Nat := s.byteTime n (8 + (s.wireLen f n - sent))

/-- The first fragment of a preemptable frame (R165, R213). -/
def State.fragTime (s : State) (n : Nat) : Nat := s.byteTime n (8 + 64 * ((s.port n).addFrag + 1))

/-- A class may send now as far as pause and the held classes go (R162, R194, R215). -/
def State.classOpen (s : State) (n c : Nat) : Bool :=
  !(s.port n).paused.getLsbD c && !s.ttHeld n c &&
  (match (s.port n).held with
    | some h => h.cls == c || !s.preemptable n c
    | none => true)

/-- The copy a class would send: the interrupted frame, else the head of its queue. -/
def State.candidate (s : State) (n c : Nat) : Option TxNow :=
  match (s.port n).held with
  | some h => if h.cls = c then some h else ((s.queue n c).find? (fun x => x.fid != h.fid)).map
      (fun x => { fid := x.fid, cls := c, stamp := 0 })
  | none => ((s.queue n c).head?).map (fun x => { fid := x.fid, cls := c, stamp := 0 })

/-- The guardian withholds a start (R221). -/
def State.guardHold (s : State) (n : Nat) : State :=
  let q := s.tport n
  (s.setTport n { q with holds := satInc q.holds }).ttLog n 2 q.index

/-- A stamp lies within `a` of an edge of an open run of a class, on either side of it (R128). -/
def gateEdge (b : List Byte) (c a : Nat) (t : Int) : Bool :=
  (match gateRun b c t with
    | .opened since left => decide (since ≤ a) || decide (left ≤ a)
    | _ => false) ||
  (match gateRun b c (t + a) with
    | .opened since _ => decide (since ≤ a)
    | _ => false) ||
  (match gateRun b c (t - a - 1) with
    | .opened _ left => decide (left ≤ a + 1)
    | _ => false)

/-- The bytes that the next fragment may carry where the whole frame does not fit: up to the last boundary before
close − g (R213); its mCRC counts. -/
def State.fragLim (s : State) (n c d : Nat) : Option Nat :=
  if s.guarded n && !s.gateFits n c d then
    match gateRun (s.sched n) c (s.time.t.toNat : Nat) with
    | .opened _ left => some ((left - gateGuard (s.sched n)) * mbps n (s.port n).speed / 32000 - 12)
    | _ => none
  else none

/-- A frame begins on a port, or goes on with its next fragment; one longer than the port's M is not sent, with r = 6
only where the MAC itself adds the trailer or header (R158). -/
def State.beginTx (s : State) (n : Nat) (x : TxNow) (f : Frame) : State :=
  let body := s.egressBody f n 0
  let resumed := (s.port n).held.any (fun h => h.fid == x.fid)
  let copy := (s.queue n x.cls).find? (fun y => y.fid == x.fid)
  if !resumed && s.limitM n (parse body).tags.length (s.sendsRed f n).isSome < s.handedLen f n then
    match copy with
    | some y => (s.stat n 54).dropCopy n x.cls y (some 0x10)
    | none => s
  else
    let stamp := if resumed then x.stamp else s.outStamp n s.time.t
    let a := if 64 ≤ n then 4 else match (s.port n).speed with | 0 => 200 | 1 => 32 | _ => 8
    let edge := s.guarded n && gateEdge (s.sched n) x.cls a (stamp.toNat : Nat)
    let lim := if s.preemptable n x.cls then s.fragLim n x.cls (s.sendTime f n x.sent) else none
    let s := s.setFrame x.fid { f with edge := f.edge || edge, ctUsed := f.ctUsed || copy.any (·.ct) }
    s.setPort n { s.port n with tx := some { x with stamp := stamp, from_ := s.time.t, bank := s.ttActive n, lim := lim },
                                held := if resumed then none else (s.port n).held }

/-- The classes tried in strict priority: the first whose candidate passes the gate starts; one that
the guardian withholds stays queued (R194, R212, R213, R221). -/
def State.startTx (s : State) (n : Nat) : List Nat → State
  | [] => s
  | c :: rest =>
    if !s.classOpen n c then s.startTx n rest
    else match s.candidate n c with
      | none => s.startTx n rest
      | some x => match s.frame x.fid with
        | none => s.startTx n rest
        | some f =>
          let d := s.sendTime f n x.sent
          let frag := s.preemptable n c && s.gateFits n c (s.fragTime n)
          if s.gateFits n c d || frag then
            let d := if s.gateFits n c d then d else s.fragTime n
            if s.guardFits n c d then s.beginTx n x f else (s.guardHold n).startTx n rest
          else s.startTx n rest

/-- FRAME_TRANSMIT_START on an idle egress port with its link up (R194). -/
def execFrameTransmitStart (p : Fin 68) (s : State) : Out :=
  if s.takesPort p.val && (s.port p.val).tx.isNone then
    (s.startTx p.val [7, 6, 5, 4, 3, 2, 1, 0]).done
  else .next s

/-- The wire bytes of a frame that has left whole, with a stomped FCS, or truncated by the guardian's cut (R157, R158,
R221). -/
def State.wireBytes (s : State) (f : Frame) (n : Nat) (x : TxNow) : List Byte :=
  let b := s.egressBody f n x.stamp
  let w := if f.bad then
      let b := b.take f.stompAt
      b ++ leBytes 4 (~~~ crc32 b).toNat
    else
      let b := b ++ List.replicate (60 - b.length) 0
      b ++ leBytes 4 (crc32 b).toNat
  if x.cut then w.take x.cutLen else w

/-- Counters of a frame that left whole (Table 5-5). -/
def State.countSent (s : State) (n cls : Nat) (w : List Byte) (f : Frame) : State :=
  let p := parse w
  let len := w.length
  let s := s.stats n ([48, sizeBin 56 len] ++
    [if p.da == BitVec.allOnes 48 then 52 else if isGroup p.da then 51 else 50] ++
    [64 + cls] ++
    (if (s.sendsRed f n).any (fun r => r.1 == 1) then [76] else []) ++
    (if n < 64 && p.hsr.isSome then [77] else []) ++ (if f.sup then [78] else []) ++
    (if n < 64 && ptpEvent p w then [82] else []) ++
    (if f.ended && (s.egressBody f n 0).length < 60 then [83] else []))
  s.stat n 49 len

/-- The transmission of a port ends: counted, the copy leaves its queue (R172). -/
def State.endTx (s : State) (n : Nat) (x : TxNow) : State :=
  let s := s.setPort n { s.port n with tx := none }
  match s.frame x.fid with
  | none => s
  | some f =>
    let w := s.wireBytes f n x
    let s := s.setPort n { s.port n with out := w }
    let s := if 0 < x.sent then s.stat n 72 else s
    let s := if x.cut then s else if f.bad then s.stat n 53 else (s.countSent n x.cls w f).tcKeep f n x.stamp
    let first := f.egress.isSome && f.txq.isSome
    let s := s.setFrame x.fid { f with
      egress := if x.cut then f.egress else if first then f.egress else some (n, x.stamp),
      stomped := f.stomped || (f.bad && !x.cut) }
    match (s.queue n x.cls).find? (fun y => y.fid == x.fid) with
    | some y => s.dropCopy n x.cls y none
    | none => s.copyGone x.fid none

/-- A class that waits with an express frame (R165). -/
def State.expressWaits (s : State) (n : Nat) : Bool :=
  (List.range 8).any (fun c => !s.preemptable n c && !(s.queue n c).isEmpty)

/-- A fragment of `k` bytes may end a transmission: not shorter than the minimum that add_frag sets, its mCRC counted;
the rest a minimum fragment; and where the run's close bounds it, the last permitted boundary, or an earlier one for an
express frame (R165, R213). -/
def State.fragOk (s : State) (n : Nat) (x : TxNow) (k : Nat) : Bool :=
  match s.frame x.fid with
  | none => false
  | some f =>
    let rest := s.wireLen f n - x.sent
    decide (64 * ((s.port n).addFrag + 1) ≤ k + 4) && decide (k + 64 ≤ rest) &&
    (match x.lim with
      | some m => k == min m (rest - 64) || (decide (k ≤ m) && s.expressWaits n)
      | none => true)

/-- FRAME_TRANSMIT_END: the last byte leaves; or, with `frag`, a fragment of that many bytes of a
preemptable frame ends and the frame waits for its next one (R172, R165, R213). -/
def execFrameTransmitEnd (p : Fin 68) (frag : Option Nat) (s : State) : Out :=
  let n := p.val
  match (s.port n).tx with
  | none => .next s
  | some x =>
    if !s.running then .next s
    else match frag with
      | none => if x.lim.isSome && !x.cut then .next s else (s.endTx n x).done
      | some k =>
        if s.preemptable n x.cls && !x.cut && s.fragOk n x k then
          let s := s.stat n 72
          let s := if x.sent = 0 then s.stat n 73 else s
          (s.setPort n { s.port n with tx := none, held := some { x with sent := x.sent + k } }).done
        else .next s

/-- GUARDIAN_DEADLINE_DROP: the oldest queued frame of a time-triggered class whose deadline has
passed (R214, R201). -/
def execGuardianDeadlineDrop (p : Fin 64) (c : Fin 8) (s : State) : Out :=
  let n := p.val
  if s.running && s.guarded n && tst (gateMask (s.sched n)) c.val then
    match (s.queue n c.val).find? (fun x => !s.begun n x) with
    | none => .next s
    | some x =>
      let q := s.swPort n
      if x.since + gateDeadline (s.sched n) ≤ s.sys.mono then
        ((s.setSwPort n { q with dropGuard := satInc q.dropGuard }).dropCopy n c.val x (some 0x0B)).done
      else .next s
  else .next s

/-! ### Planes (R189 to R192) -/

/-- The next working plane after `p` in cyclic order (R190). -/
def State.nextPlane (s : State) (p : Nat) : Nat :=
  (((List.range 5).map (fun k => (p + 1 + k) % 5)).find? (fun q => tst s.sw.working.toNat q)).getD p

/-- A plane retired, working or spare: the spare enters for a working one, or the core degrades; below 3 planes it is
fatal; its unacknowledged cells go through the next planes (R191, R192). -/
def State.retirePlane (s : State) (p : Nat) : State :=
  let w := s.sw
  if tst w.retired.toNat p || 5 ≤ p then s
  else
    let was := tst w.working.toNat p
    let enters := was && decide (w.spare < 5)
    let working := w.working &&& ~~~ BitVec.ofNat 5 (2 ^ p)
    let working := if enters then working ||| BitVec.ofNat 5 (2 ^ w.spare) else working
    let s : State := { s with sw := { w with
      working := working, retired := w.retired ||| BitVec.ofNat 5 (2 ^ p), spare := 7,
      planeRetire := satInc w.planeRetire, event := w.event ||| 1 } }
    let s : State := { s with sw := { s.sw with cells := s.sw.cells.map (fun c =>
      if c.plane = p then { c with plane := s.nextPlane p } else c) } }
    if (maskBits 5 working.toNat).length < 3 then s.fatal 0x07 9 4 else s.logFault 4 9 0xFF 0 0

/-- A CRC failure or a timeout on a plane; the fourth within 1 ms retires it (R191). -/
def State.planeFail (s : State) (p : Nat) : State :=
  let recent := ((s.sw.fails.get [] p).filter (fun t => s.sys.mono < t + ms 1)) ++ [s.sys.mono]
  let s : State := { s with sw := { s.sw with fails := s.sw.fails.set p recent } }
  if 4 ≤ recent.length then s.retirePlane p else s

/-- A frame loses its copy at an output: port, or cluster 68 + k (R190). -/
def State.loseAt (s : State) (fid out : Nat) : State :=
  if out < 68 then
    match s.frame fid with
    | some f => match (s.queue out f.cls).find? (fun x => x.fid == fid) with
      | some x => s.dropCopy out f.cls x (some 0x10)
      | none => s
    | none => s
  else
    let c := s.cl (out - 68)
    if c.rx.any (fun x => x.fid == fid) then
      (s.setCl (out - 68) { c with rx := c.rx.filter (fun x => x.fid != fid) }).copyGone fid (some 0x10)
    else s

/-- The unacknowledged cell of a sequence number between two core ports. -/
def State.cell? (s : State) (inp out seq : Nat) : Option CellTx :=
  s.sw.cells.find? (fun x => x.inp == inp && x.out == out && x.seq == seq)

/-- A cell that failed on its plane is sent again through the next working plane in cyclic order, or is lost when every
working plane has failed it (R190). -/
def State.cellRetry (s : State) (c : CellTx) : State :=
  let tried := c.plane :: c.tried
  let s := (s.dropCells (fun x => x == c)).planeFail c.plane
  if (maskBits 5 s.sw.working.toNat).all (fun p => tried.contains p) then
    let s : State := { s with sw := { s.sw with cellLost := satInc s.sw.cellLost, event := s.sw.event ||| 2 } }
    s.loseAt c.fid c.out
  else { s with sw := { s.sw with
    cells := s.sw.cells ++ [{ c with plane := s.nextPlane c.plane, tried := tried }],
    cellRetry := satInc s.sw.cellRetry } }

/-- CELL_ARRIVAL at an output: acknowledged, refused on a CRC failure; a cell whose sequence number has been
acknowledged is discarded as a duplicate (R190). -/
def execCellArrival (inp : Fin 37) (out : Fin 85) (seq : Nat) (crcGood : Bool) (s : State) : Out :=
  if s.running then
    match s.cell? inp.val out.val seq with
    | some c => if crcGood then (s.dropCells (fun x => x == c)).done else (s.cellRetry c).done
    | none =>
      if crcGood && decide (seq < s.sw.cellSeq.get 0 (85 * inp.val + out.val)) then
        State.done { s with sw := { s.sw with cellDup := satInc s.sw.cellDup } }
      else .next s
  else .next s

/-- CELL_ACK_TIMEOUT: no acknowledgement within 1 µs of sending (R190). -/
def execCellAckTimeout (inp : Fin 37) (out : Fin 85) (seq : Nat) (s : State) : Out :=
  match s.cell? inp.val out.val seq with
  | some c => if s.running then (s.cellRetry c).done else .next s
  | none => .next s

/-- PLANE_TEST_FAIL: the test pattern of idle slots fails on a plane (R191). -/
def execPlaneTestFail (plane : Fin 5) (s : State) : Out :=
  if s.running then (s.retirePlane plane.val).done else .next s

end Sys2Proof.Machine
end

