-- ==== Sys2Proof/Machine/Fabric.lean ====
section
/-! DEFINITION. The commands of the Jabex fabric (R235 to R257). -/

namespace Sys2Proof.Machine

/-! ### Class 0x2 requests (Table 8-6) -/

/-- A class 0x2 request: 0x15 while FAB.NODE is absent (R255). -/
def State.fabServe (s : State) (q : Req) (code words : Nat) (f : State → State ⊕ Nat) : State :=
  s.serve q code words (fun s => if s.fabNode then f s else .inr 0x15)

/-- LINK_COST_SET (0x201). -/
def execLinkCostSet (q : Req) (s : State) : Out :=
  if s.running then
    (s.fabServe q 0x201 1 (fun s =>
      let w := q.word 1
      let cost := w / 2 ^ 16
      if bits w 15 2 ≠ 0 || cost = 0 then .inr 0x12
      else
        let s := s.setFport (w % 4) { s.fport (w % 4) with cost := BitVec.ofNat 16 cost }
        .inl (s.originate.install.finish q 0x201))).done
  else .next s

/-- DEVICE_EXCLUDE (0x202): an intermediate device excluded from own paths, or restored. -/
def execDeviceExclude (q : Req) (s : State) : Out :=
  if s.running then
    (s.fabServe q 0x202 1 (fun s =>
      let w := q.word 1
      let a := bits w 11 0
      if bits w 15 12 ≠ 0 || 2 ^ 17 ≤ w || a = s.fab.addr || (s.binding a).isNone then .inr 0x12
      else
        let rest := s.fab.exclude.filter (· ≠ a)
        let s : State := { s with fab := { s.fab with exclude := if tst w 16 then rest ++ [a] else rest } }
        .inl (s.install.finish q 0x202))).done
  else .next s

/-- ROUTE_RECOMPUTE (0x203). -/
def execRouteRecompute (q : Req) (s : State) : Out :=
  if s.running then (s.fabServe q 0x203 0 (fun s => .inl (s.install.finish q 0x203))).done else .next s

/-! ### Neighbours (R240 to R242) -/

/-- HELLO_SEND: 14 + 24 + 32 + 4 bytes, broadcast (R240, Table 8-3). -/
def execHelloSend (n : Fin 4) (s : State) : Out :=
  if s.takesPort (64 + n.val) then (s.ctlSend n.val 2 (s.helloBytes n.val)).done else .next s

/-- HELLO received (R240 to R242). In discovery it only shows the peer; on a port that admits, the same
fabric_id starts the handshake and another one makes a stranger. -/
def execHello (n : Fin 4) (m : HelloMsg) (s : State) : Out :=
  if !s.takesPort (64 + n.val) then .next s
  else if !m.hdrOk then s.fabHdrErr.done
  else
    let p := s.fport n.val
    if s.fabMode n.val && p.st == .admitted then
      (s.setFport n.val { p with peerAddr := m.addr.toNat, heard := some m.fabricId }).done
    else
      let p := { p with peerId := m.keyId, peerAddr := m.addr.toNat, peerMac := m.mac, peerLc := m.lc.toNat,
                        heard := some m.fabricId }
      let s := s.setFport n.val p
      if !s.fabMode n.val || p.st == .stranger || p.shake.isSome then s.done
      else if m.fabricId.toNat = s.fld 0x0601 0 4 4 0 then
        ((s.setFport n.val { p with shake := some m.fabricId }).admitSend n.val 1).done
      else (s.fabStranger n.val 1).done

/-- The first failing check of Table 8-4, 0 when all pass. -/
def State.admitReason (s : State) (n : Nat) (m : AdmitMsg) : Nat :=
  let p := s.fport n
  let mode := s.fld 0x0601 0 3 1 0
  let owner := match s.otp.active with
    | some i => s.otp.owners[i]? == some m.owner
    | none => false
  let listed := match s.rec? 0x0602 0 with
    | some r => (List.range (r.body.length / 8)).any (fun k => rdLE r.body (8 * k) 8 == p.peerId.toNat)
    | none => false
  if p.shake.map (·.toNat) ≠ some (s.fld 0x0601 0 4 4 0) then 1
  else if !m.cert then 2
  else if !m.sig then 3
  else if !(p.peerLc == 1 || p.peerLc == 2 || p.peerLc == 3) then 4
  else if !(if mode = 0 then owner else if mode = 1 then listed else owner || listed) then 5
  else if p.peerId = Free.deviceKeyId then 6
  else 0

/-- ADMIT: the handshake advances; its last frame admits the neighbour with a new link key and the whole database is
flooded to it, or makes it a stranger (R240, R241, R244). -/
def execAdmit (n : Fin 4) (m : AdmitMsg) (s : State) : Out :=
  if !s.takesPort (64 + n.val) || !s.fabMode n.val then .next s
  else if !m.hdrOk then s.fabHdrErr.done
  else
    let p := s.fport n.val
    if p.shake.isNone then s.done
    else if !m.last then (s.admitSend n.val 2).done
    else
      let r := s.admitReason n.val m
      if r ≠ 0 then (s.fabStranger n.val r).done
      else
        let s := s.setFport n.val { p with st := .admitted, reason := 0, shake := none,
                                           key := some s.sys.draws }
        let s := ((s.draw.fabEvent 0).originate)
        ((s.fab.db.filter (fun l => l.id != Free.deviceKeyId)).foldl (fun s l => s.lsaSend n.val l) s).done

/-- ADMISSION_TIMEOUT: 50 ms without completion (Table 8-4, reason 7). -/
def execAdmissionTimeout (n : Fin 4) (s : State) : Out :=
  if s.running && (s.fport n.val).shake.isSome then (s.fabStranger n.val 7).done else .next s

/-- STRANGER_RETRY: while HELLOs are heard, a stranger port tries admission again (R241). -/
def execStrangerRetry (n : Fin 4) (s : State) : Out :=
  let p := s.fport n.val
  if s.running && s.fabState n.val = 4 && p.heard.isSome then
    if p.heard.map (·.toNat) = some (s.fld 0x0601 0 4 4 0) then
      ((s.setFport n.val { p with st := .admitting, shake := p.heard }).admitSend n.val 1).done
    else (s.fabStranger n.val 1).done
  else .next s

/-- NEIGHBOUR_LOSS: 300 ms without a HELLO (R242). -/
def execNeighbourLoss (n : Fin 4) (s : State) : Out :=
  if s.running && s.fabMode n.val then
    let s := s.setFport n.val { s.fport n.val with heard := none }
    (s.fabLoss n.val).done
  else .next s

/-! ### Link state (R243 to R245) -/

/-- LSA received on a port; `tagOk` is the verdict of its tag. A newer one is flooded on (R236, R244). -/
def execLsa (n : Fin 4) (tagOk hdrOk : Bool) (l : Lsa) (s : State) : Out :=
  if !s.running then .next s
  else if !s.fabTakes n.val then (s.strangerDrop n.val).done
  else if !hdrOk then s.fabHdrErr.done
  else if !tagOk then s.fabAuthFail.done
  else if l.id = Free.deviceKeyId then s.done
  else
    let newer := match s.fab.db.find? (fun x => x.id == l.id) with
      | some x => x.inc != l.inc || decide (x.seq < l.seq)
      | none => true
    if newer then (((s.dbPut l).flood l (some n.val)).settleClaim).done else s.done

/-- LSA_ORIGINATE: every 30 s, and when the qualified bit has changed (R244). -/
def execLsaOriginate (s : State) : Out :=
  if s.running && (s.tt.lsaDue || decide (s.fab.lsaAt + sec 30 ≤ s.sys.mono)) then s.originate.done else .next s

/-- Stream windows of a source freed (R248). -/
def State.freeWindows (s : State) (src : DWord) : State :=
  { s with fab := { s.fab with windows := s.fab.windows.filter (fun w => w.src != src) } }

/-- LSA_AGE_OUT: an LSA not refreshed for 120 s is removed, with the windows of its source; a static loser
takes its address again when no claim beats it (R243, R244, R248). -/
def execLsaAgeOut (id : DWord) (s : State) : Out :=
  if s.running && id ≠ Free.deviceKeyId && s.fab.db.any (fun l => l.id == id) then
    let s : State := { s with fab := { s.fab with db := s.fab.db.filter (fun l => l.id != id), spfDue := true } }
    let s := s.freeWindows id
    let want := s.fld 0x0601 0 0 2 0
    if s.fab.claim = 3 && !(s.fab.db.any (fun l => l.id != Free.deviceKeyId && l.addr.toNat == want &&
        l.fixed && l.claim == 2 && idOrder l.id < idOrder Free.deviceKeyId)) then
      (State.originate { s with fab := { s.fab with addr := want, claim := 2, conflict := false } }).done
    else s.done
  else .next s

/-- CLAIM_HELD: 500 ms without conflict (R243). -/
def execClaimHeld (s : State) : Out :=
  if s.running && s.fab.claim = 1 then
    if s.claimLoses then s.settleClaim.done
    else (State.originate { s with fab := { s.fab with claim := 2 } }).settleClaim.done
  else .next s

/-- PATH_COMPUTATION after spf_hold_ms (R245). -/
def execPathComputation (s : State) : Out :=
  if s.running && s.fabNode && s.fab.spfDue then s.install.done else .next s

/-! ### Data frames (R237 to R239, R248, R250) -/

/-- Entry h of a route field. -/
def routeEntry (route h : Nat) : Nat := bits route (2 * h + 1) (2 * h)

/-- A stream frame judged by its window: accepted, or counted in FAB_DUP or FAB_LATE (R248). -/
def State.windowJudge (s : State) (src : DWord) (stream : Nat) (inc : Byte) (seq : Word) : Bool × State :=
  let now := s.time.t
  let same (w : StreamWin) : Bool := w.src == src && w.stream == stream
  let put (w : StreamWin) : State := { s with fab := { s.fab with
    windows := s.fab.windows.map (fun x => if same x then { w with at_ := now } else x) } }
  match s.fab.windows.find? same with
  | none =>
    if 4096 ≤ s.fab.windows.length then (false, s.fabLate.fabEvent 4)
    else (true, { s with fab := { s.fab with windows := s.fab.windows ++
      [{ src := src, stream := stream, inc := inc, h := seq, bitmap := 1, at_ := now }] } })
  | some w =>
    let d := (seq - w.h).toInt
    if inc ≠ w.inc then
      if (4000000 : Int) < (now.toNat : Int) - w.at_.toNat then (true, put { w with inc := inc, h := seq, bitmap := 1 })
      else (false, s.fabLate)
    else if 0 < d then (true, put { w with bitmap := (w.bitmap <<< d.toNat) ||| 1, h := seq })
    else if -64 < d then
      if w.bitmap.getLsbD d.natAbs then (false, { s with fab := { s.fab with dup := satInc s.fab.dup } })
      else (true, put { w with bitmap := w.bitmap ||| BitVec.ofNat 64 (2 ^ d.natAbs) })
    else (false, s.fabLate)

/-- A FAB.IMPORT record applies to a source address. -/
def importOf (src : Nat) (r : Rec) : Bool := rdLE r.body 0 2 == 0 || rdLE r.body 0 2 == src

/-- A point is granted to a source address (R250). -/
def State.pointImport (s : State) (src p : Nat) : Bool :=
  (s.recsOf 0x0605).any (fun r => importOf src r && rdLE r.body 4 4 ≤ p && p < rdLE r.body 4 4 + rdLE r.body 8 4)
/-- A context is granted to a source address. -/
def State.ctxImport (s : State) (src c : Nat) : Bool :=
  (s.recsOf 0x0605).any (fun r => importOf src r && rdLE r.body 12 2 ≤ c && c < rdLE r.body 12 2 + rdLE r.body 14 2)

def State.grantViol (s : State) : State := { s with fab := { s.fab with grantViol := satInc s.fab.grantViol } }

/-- One update of a PNT frame (R250): refused by the grant, or a PUT of source "fabric"; it waits at the
service port while the FIFO is full (R284). -/
def State.fabUpdate (s : State) (src : Nat) (b : List Byte) : State :=
  let p := rdLE b 0 4 % 2 ^ 23
  if !s.pointImport src p then s.grantViol
  else
    let u : Update := { point := p, value := BitVec.ofNat 64 (rdLE b 8 8), quality := BitVec.ofNat 32 (rdLE b 4 4),
                        stamp := BitVec.ofNat 64 (rdLE b 16 8), from_ := { src := 3, fab := src } }
    if s.fab.wait.isEmpty then
      let (ok, s) := s.pntPush 34 (.upd u)
      if ok then s else { s with fab := { s.fab with wait := s.fab.wait ++ [u] } }
    else { s with fab := { s.fab with wait := s.fab.wait ++ [u] } }

/-- A delivered PNT payload: updates of 24 B (R250). -/
def State.fabPnt (s : State) (src : Nat) (b : List Byte) : State :=
  (((List.range (b.length / 24)).foldl (fun s i => s.fabUpdate src ((b.drop (24 * i)).take 24)) s)).pntSettle

/-- A frame on its next link: the neighbour's address, the port's own, hop + 1 and a new hcrc (R235, R237). -/
def State.jabForward (s : State) (port : Nat) (b : List Byte) : List Byte :=
  let h := (b.drop 14).take 22
  let h := splice h 6 [BitVec.ofNat 8 (byteAt h 6 + 1)]
  leBytes 6 (s.fport port).peerMac.toNat ++ leBytes 6 (s.derivedAddr (64 + port)).toNat ++
    [0x88, 0xB5] ++ h ++ leBytes 2 (crc32c h).toNat ++ b.drop 38

/-- A transit frame on the port of its route, judged there at once where it goes cut-through, with the cells of the
fabric MAC's limit (R188, R197, R238, R239). -/
def State.transit (s : State) (n : Nat) (f : Frame) (x : JabRx) : State :=
  let d := s.mkDest (64 + n) (64 + x.port) f.cls 0
  let (fid, s) := s.newFrame { f with bytes := s.jabForward x.port f.bytes, dests := if d.ct then [] else [d] }
  let s := s.setPort (64 + n) ((s.port (64 + n)).fill false fid)
  if d.ct then s.judgeAt fid d (ceilDiv 9216 64) true else s

/-- DATA_FRAME: the first bytes of a CTX or PNT frame, its header with them, the remote context that its stream names
(the header carries none, log 48), and the raw stamp (R237). The decision waits for the end of reception. -/
def execDataFrame (n : Fin 4) (head : List Byte) (ctx : BitVec 12) (raw : DWord) (s : State) : Out :=
  let pn := 64 + n.val
  if !s.running || !(s.port pn).up || head.length < 38 || (s.port pn).rx.isSome then .next s
  else if !s.fabTakes n.val then (s.strangerDrop n.val).done
  else
    let h := (head.drop 14).take 24
    let kind := byteAt h 0 % 16
    if (crc32c (h.take 22)).toNat % 65536 ≠ rdLE h 0x16 2 || byteAt h 0 / 16 ≠ 1 || 6 ≤ kind then s.fabHdrErr.done
    else if 2 ≤ kind then .next s
    else
      let hop := byteAt h 6
      let hops := byteAt h 7
      let dst := rdLE h 2 2 % 4096
      let here := hop = hops && dst = s.fab.addr && dst ≠ 0
      let port := routeEntry (rdLE h 8 6) hop
      let x : JabRx := { here := here, port := port, kind := kind, src := rdLE h 4 2 % 4096, stream := rdLE h 14 2,
                         inc := BitVec.ofNat 8 (byteAt h 0x14), seq := BitVec.ofNat 32 (rdLE h 16 4), ctx := ctx.toNat }
      let f : Frame := { src := pn, stamp := s.inStamp pn raw, gen := s.sw.gen, bytes := head, len := head.length + 4,
                         cls := byteAt h 1 / 2 % 8, colour := 0, jab := some x }
      if here then
        let (fid, s) := s.newFrame f
        (s.setPort pn ((s.port pn).fill false fid)).done
      else if hop < hops && s.admitted port then (s.transit n.val f x).done
      else State.done { s with fab := { s.fab with misroute := satInc s.fab.misroute } }

/-- A good frame for this device: judged by its window, then to the point engine, or to the queue of the cluster that
owns its context where FAB.IMPORT grants it (R239, R248, R250). -/
def State.jabDeliver (s : State) (n fid : Nat) (f : Frame) (x : JabRx) (payload : List Byte) : State :=
  let key := match s.binding x.src with
    | some l => l.id
    | none => BitVec.ofNat 64 x.src
  let (ok, s) := s.windowJudge key x.stream x.inc x.seq
  if !ok then s.setFrame fid { f with refused := [0x03] }
  else if x.kind = 1 then (s.setFrame fid { f with delivered := true }).fabPnt x.src payload
  else if !s.ctxImport x.src x.ctx then (s.setFrame fid { f with refused := [0x03] }).grantViol
  else
    let f := { f with ctx := some x.ctx }
    let r : RxFrame := { ctx := x.ctx, bytes := payload, port := 64 + n, cls := f.cls, jab := true, stamp := f.stamp }
    (s.setFrame fid f).judgeCluster fid f r

/-- A good data frame's end of reception on a fabric port: delivered, or judged at its store-and-forward port (R239). -/
def State.fabGood (s : State) (n fid : Nat) (body fcs : List Byte) : State :=
  let s := s.clearRx (64 + n) fid
  match s.frame fid with
  | none => s
  | some f =>
    let len := body.length + 4
    match f.jab with
    | none => s.discardRx fid
    | some x =>
      let f := { f with
        fcs := if x.here then fcs else [], len := len,
        bytes := if x.here then body else s.jabForward x.port body }
      let s := s.setFrame fid f
      let s := if x.here then s.jabDeliver n fid f x (body.drop 38)
        else f.dests.foldl (fun s d => s.judgeAt fid d (ceilDiv len 64) false) (s.creditCt fid (ceilDiv len 64))
      s.finishRx (64 + n) fid

/-- The end of reception on a fabric port (R153, R156): the codewords of RS-FEC counted, an uncorrectable one failing
the FCS of its frame (R154); a data frame's decision carried out or abandoned; PAUSE and PFC counted and discarded. -/
def State.fabEnd (s : State) (n : Nat) (b : List Byte) (pcs : Pcs) : State :=
  let pn := 64 + n
  let len := b.length
  let (body, fcs) := rxParts b
  let fec := s.fecOn pn
  let p := s.port pn
  let s := if fec then s.setPort pn { p with fecCorr := satAdd p.fecCorr pcs.corr, fecUnc := satAdd p.fecUnc pcs.unc }
    else s
  let o := rxOutcome len 9216 (fcsOk b && !(fec && pcs.unc != 0)) pcs.sym
  let ps := parse body
  let s := if o ≠ 0 then s.stat pn o
    else
      let s := s.countGood pn len (byteAt body 15 / 2 % 8) ps body
      if (pauseOp ps body).isSome then s.stat pn 6 else s
  match (s.port pn).rx with
  | none => s
  | some fid => if o = 0 then s.fabGood n fid body fcs else s.abandon pn fid (min 16383 len) 9216
      (match (s.frame fid).bind (·.jab) with
        | some x => if x.here then body else s.jabForward x.port body
        | none => body) fcs

/-- FRAME_RECEIVE_END: a whole frame with its FCS, what the PCS reports of it, and the raw stamp of its SFD (R156). -/
def execFrameReceiveEnd (p : Fin 68) (b : List Byte) (pcs : Pcs) (raw : DWord) (s : State) : Out :=
  if s.takesPort p.val then
    (if 64 ≤ p.val then s.fabEnd (p.val - 64) b pcs else s.receiveEnd p.val b pcs.sym raw false).done
  else .next s

/-- STREAM_WINDOW_FREE: no accepted frame for 10 s (R248). -/
def execStreamWindowFree (src : DWord) (stream : BitVec 10) (s : State) : Out :=
  if s.running then
    State.done { s with fab := { s.fab with
      windows := s.fab.windows.filter (fun w => !(w.src == src && w.stream == stream.toNat)) } }
  else .next s

/-- FABRIC_EGRESS_DISCARD: the oldest CTX or PNT frame of a class queue that has waited 4 ms (R249). -/
def execFabricEgressDiscard (n : Fin 4) (c : Fin 8) (s : State) : Out :=
  let p := 64 + n.val
  if s.running then
    match (s.queue p c.val).find? (fun x => !s.begun p x && decide (x.since + ms 4 ≤ s.sys.mono) &&
        (s.frame x.fid).any (fun f => decide (jabexKind f.bytes < 2))) with
    | none => .next s
    | some x => (s.fabLate.dropCopy p c.val x (some 0x10)).done
  else .next s

/-- The 24 bytes of an update in a PNT frame; the tag's low 23 bits name the point at the destination
(R250, log 49). -/
def pntUpdate (d : Delivery) : List Byte :=
  leBytes 4 (d.tag.toNat % 2 ^ 23) ++ leBytes 4 d.quality.toNat ++ leBytes 8 d.value.toNat ++ leBytes 8 d.stamp.toNat

/-- A PNT stream sends: 64 updates wait, or its oldest has waited batch_ns (R250). -/
def State.batchDue (s : State) (st : Nat) : Bool :=
  match s.pnt.stage.get [] st with
  | [] => false
  | d :: l => 64 ≤ l.length + 1 || decide (d.at_ + 4 * s.fld 0x0604 st 8 4 0 ≤ s.sys.mono)

/-- PNT_BATCH_SEND: up to 64 staged updates of a PNT stream leave as one frame (R250); none before 200 ms
after the reset (R249). -/
def execPntBatchSend (st : Fin 1024) (s : State) : Out :=
  let q := s.pnt.stage.get [] st.val
  if s.running && s.mayOriginate && s.batchDue st.val && s.fld 0x0604 st.val 2 1 0 = 1 then
    let s : State := { s with pnt := { s.pnt with stage := s.pnt.stage.set st.val (q.drop 64) } }
    (s.streamSend st.val 1 84 (s.fld 0x0604 st.val 3 1 0) ((q.take 64).flatMap pntUpdate) none).done
  else .next s

/-! ### Time across the fabric (R251 to R254) -/

/-- The mean of the two one-way delays of an exchange sets the link delay; half units have no stated
rounding (R252, log 40). -/
def State.setDelay (s : State) (n : Nat) (t1 t2 t3 t4 : DWord) : State :=
  let d : Int := (t2 - t1).toInt + (t4 - t3).toInt
  let (v, s) := s.whole d 2
  { s with time := { s.time with linkDelay := s.time.linkDelay.set (64 + n) (BitVec.ofInt 32 v) } }

/-- DELAY_EXCHANGE with an admitted neighbour: request sent at t1, received at t2, response sent at t3,
received at t4, at the PCS boundary; the request is sent (R252). -/
def execDelayExchange (n : Fin 4) (t1 t2 t3 t4 : DWord) (s : State) : Out :=
  if s.fabTakes n.val then ((s.ctlSend n.val 5 (ctlBody 5 [0])).setDelay n.val t1 t2 t3 t4).done else .next s

/-- The own offset from the reference: the parent's and the own one from the parent; 0 at the reference (R253). -/
def State.refOffset (s : State) : DWord :=
  match s.parentPort with
  | some p => (s.fport p).refOfs + s.time.offset
  | none => 0

/-- SYNC_SEND: SYNC and FOLLOW_UP leave toward a child, the second with the egress stamp of the first and the own offset
from the reference; TIME's payload has no stated layout (R253, log 48). -/
def execSyncSend (n : Fin 4) (s : State) : Out :=
  if s.fabTakes n.val then
    ((s.ctlSend n.val 5 (ctlBody 5 [2])).ctlSend n.val 5
      (ctlBody 5 [3, (s.outStamp (64 + n.val) s.time.t).toNat, s.refOffset.toNat])).done
  else .next s

/-- delayAsymmetry of a port in 250 ps units, as its PTP instance and the Jabex sample take it (Table 4-16). -/
def State.delayAsym (s : State) (n : Nat) : Int := toSigned 32 (s.fld 0x0403 n 0x10 4 0)

/-- The servo sample of a SYNC and its FOLLOW_UP (R253, R254). -/
def State.jabexSample (s : State) (n : Nat) (ingress egress : DWord) : Sample :=
  let delay := s.time.linkDelay.get 0 (64 + n)
  { stamp := ingress, offset := BitVec.ofInt 64 (((ingress - egress).toInt - delay.toNat - s.delayAsym (64 + n)) * 16384),
    pathDelay := delay, port := BitVec.ofNat 16 (64 + n), offValid := true, pdValid := true,
    newRef := s.fab.parent != some (s.fport n).peerId }

/-- TIME received: the tag, then a delay request that is answered, a delay response, or a SYNC and its FOLLOW_UP from
the parent (R236, R252, R253). -/
def execTime (n : Fin 4) (tagOk hdrOk : Bool) (m : TimeMsg) (s : State) : Out :=
  if !s.running then .next s
  else if !s.fabTakes n.val then (s.strangerDrop n.val).done
  else if !hdrOk then s.fabHdrErr.done
  else if !tagOk then s.fabAuthFail.done
  else
    let p := s.fport n.val
    match m with
    | .request => (s.ctlSend n.val 5 (ctlBody 5 [1, s.time.t.toNat])).done
    | .response t1 t2 t3 t4 => (s.setDelay n.val t1 t2 t3 t4).done
    | .sync i => if s.parentPort = some n.val then (s.setFport n.val { p with sync := some i }).done else s.done
    | .followUp e ofs =>
      match p.sync with
      | none => s.done
      | some i =>
        let s := s.setFport n.val { p with sync := none, refOfs := ofs }
        if s.parentPort = some n.val then
          let x := s.jabexSample n.val i e
          let s : State := { s with fab := { s.fab with parent := some p.peerId } }
          (s.servoSample 3 x).done
        else s.done

/-- FOLLOW_UP_TIMEOUT: the SYNC is discarded (R253). -/
def execFollowUpTimeout (n : Fin 4) (s : State) : Out :=
  if s.running then (s.setFport n.val { s.fport n.val with sync := none }).done else .next s

end Sys2Proof.Machine
end

