-- ==== Sys2Proof/Machine/Outbox.lean ====
section
/-! DEFINITION. Outputs leaving a cluster outbox (R36, R37, R247, R391, R392). -/

namespace Sys2Proof.Machine

/-- The epoch has not committed: the running one, or the one that awaits its commit. -/
def Cluster.live (c : Cluster) (epoch : Word) : Bool :=
  epoch == c.epoch || (c.awaiting && epoch == c.epoch - 1)

/-- The first output of an engine that may leave: at once in SPECULATE, after its epoch's commit in COMMIT; behind
a mailbox word that waits for room, none (R338, R360). -/
def State.outReady (s : State) (e : Nat) : Option (OutEntry × List OutEntry) :=
  let c := s.cl (e / 2)
  match takeFirst (fun o : OutEntry => o.eng == e) c.outbox with
  | some (o, rest) =>
    if (s.commitRel (e / 2) && c.live o.epoch) || s.engs.mbActs.any (fun p => p.1 == e && s.mbStuck p) then none
    else some (o, rest)
  | none => none

/-- The output's sequence number is at or below the highest that has left (R392), numbers modulo 2^32. -/
def Eng.hasLeft (g : Eng) (seq : Nat) : Bool :=
  let d := (BitVec.ofNat 32 g.left - BitVec.ofNat 32 seq).toNat
  decide (0 < d) && decide (d < 2 ^ 31)

/-- A TXQ of an engine is done with a status. -/
def State.txEnd (s : State) (e tag status : Nat) : State :=
  let g := s.eng e
  s.setEng e { g with txDone := g.txDone ++ [(tag, status, none)] }

/-- A frame on a station port: on both ports of a pair under one number (R332). -/
def State.sendStation (s : State) (e tag : Nat) (d body : List Byte) : State :=
  let src := 68 + e / 2
  let flags := rdLE d 1 1
  let cls := flags % 8
  let (ports, seqs, s) := s.expandPairs src [rdLE d 2 2]
  let f : Frame := { src := src, stamp := s.time.t, gen := s.sw.gen, bytes := body, len := body.length + 4,
                     cls := cls, colour := 0, ended := true, pairSeq := seqs, txq := some (e, tag),
                     ptp := if tst flags 4 then some (rdLE d 6 2) else none }
  s.sendFrames (ports.map (fun n => (f, s.mkDest src n cls 0)))

/-- A servo sample in the layout of Table 4-3. -/
def sampleOf (b : List Byte) : Sample :=
  let flags := rdLE b 0x16 1
  { stamp := BitVec.ofNat 64 (rdLE b 0 8), offset := BitVec.ofNat 64 (rdLE b 8 8),
    pathDelay := BitVec.ofNat 32 (rdLE b 0x10 4), port := BitVec.ofNat 16 (rdLE b 0x14 2),
    offValid := tst flags 0, pdValid := tst flags 1, newRef := tst flags 2 }

/-- A TXQ handed on by its kind; `bad` is an uncorrectable bank word in its bytes, status 1 (R332,
Table 12-3). -/
def State.sendTxq (s : State) (e tag : Nat) (d : List Byte) (bad : Bool) : State :=
  let body := s.bankBytes e (rdLE d 8 4) (rdLE d 4 2)
  if bad then s.txEnd e tag 1
  else match rdLE d 0 1 with
  | 0 => s.sendStation e tag d body
  | 1 => s.streamSend (rdLE d 2 2) 0 (68 + e / 2) (rdLE d 1 1 % 8) body (some (e, tag))
  | 2 => (s.servoSample 1 (sampleOf body)).txEnd e tag 0
  | _ => s.lineSend e tag (rdLE d 2 2) body

/-- A PUT as the update it makes (Table 11-6). -/
def putUpdate (e tag : Nat) (d : List Byte) : Update :=
  { point := rdLE d 0 4 % 2 ^ 23, value := BitVec.ofNat 64 (rdLE d 8 8), quality := BitVec.ofNat 32 (rdLE d 4 4),
    stamp := BitVec.ofNat 64 (rdLE d 16 8), force := tst (rdLE d 0 4) 31,
    from_ := { src := 0, id := e, tag := some tag } }

/-- A write DMA's bytes reach their window. -/
def State.dmaOut (s : State) (e tag : Nat) (d : List Byte) (bad : Bool) : State :=
  let g := s.eng e
  let t := s.setEng e { g with dmaDone := g.dmaDone ++ [tag] }
  match bad, s.window? e (rdLE d 0 1) with
  | false, some w => t.winWrite w (rdLE d 4 4) (s.bankBytes e (rdLE d 8 4) (rdLE d 12 4))
  | _, _ => t

/-- An output carried out; none while it cannot leave: the point engine's FIFO is full (R284), or the device
may not originate fabric frames yet (R249). -/
def State.carry (s : State) (o : OutEntry) (bad : Bool) : Option State :=
  match o.out with
  | .frame tag d =>
    if rdLE d 0 1 = 1 && !s.mayOriginate then none else some (s.sendTxq o.eng tag d bad)
  | .put tag d =>
    let (ok, t) := s.pntPush o.eng (.upd (putUpdate o.eng tag d))
    if ok then some t.pntSettle else none
  | .post n w => some { s with engs := { s.engs with mbActs := s.engs.mbActs ++ [(o.eng, .post n w)] } }
  | .unlock n => some { s with engs := { s.engs with mbActs := s.engs.mbActs ++ [(o.eng, .unlock n)] } }
  | .dmaWrite tag d => some (s.dmaOut o.eng tag d bad)

/-- An output leaves, or is suppressed when its number has left before (R37, R392). -/
def State.outLeave (s : State) (e : Nat) (bad : Bool) : State :=
  match s.outReady e with
  | none => s
  | some (o, rest) =>
    let c := s.cl (e / 2)
    let t := s.setCl (e / 2) { c with outbox := rest }
    let g := s.eng e
    if g.hasLeft o.seq then
      { t with rmy := { t.rmy with suppress := satInc t.rmy.suppress } }
    else
      match (t.setEng e { g with left := o.seq + 1 }).carry o bad with
      | some u => u
      | none => s

/-- OUTBOX_RELEASE of the oldest output of engine `e`. -/
def execOutboxRelease (e : Fin 32) (bad : Bool) (s : State) : Out :=
  if s.running then (s.outLeave e bad).done else .next s

end Sys2Proof.Machine
end

