-- ==== Sys2Proof/Machine/RecOps.lean ====
section
/-! DEFINITION. Epochs, commit, rollback, replay and fencing (R377 to R389). -/

namespace Sys2Proof.Machine

/-! ### Who is recovered -/

/-- The island of a cluster (Table 1-2). -/
def clIsland (k : Nat) : Nat := 30 + k

/-- The cluster neither recovers nor stands before a restore. -/
def RecState.steady : RecState → Bool
  | .running | .degraded | .failed => true
  | _ => false

/-- An engine of the cluster is halted by debug: the cluster commits no epoch (R347). -/
def State.dbgHeld (s : State) (k : Nat) : Bool := (s.clEngines k).any (fun e => (s.eng e).st == .dbgHalt)

/-- A twin pair of which both engines still compare. -/
def State.paired (s : State) (k : Nat) : Bool := s.twin k && !(s.cl k).fencedLo && !(s.cl k).fencedHi

/-- The engines that a recovery takes back: all of the cluster, or one of a CAPACITY cluster. -/
def State.recovered (s : State) (k : Nat) : List Nat :=
  match (s.cl k).recEng with
  | some e => [e]
  | none => s.clEngines k

/-! ### Epochs (R377, R378, R265) -/

/-- The new epoch's start: journaled for the engines that run, and its grants in force (R265, Table 13-3). -/
def State.epochStart (s : State) (k : Nat) : State :=
  (s.clEngines k).foldl (fun s e =>
    let j : JEntry := { eng := e, kind := 0x01, inline := (s.cl k).epoch.toNat }
    let live := (s.eng e).st == .running || (s.eng e).st == .wait
    (if live then s.journal j else s).applyInput j) s

/-- The running epoch ends: its journal, undo log, retained frames and end states await the commit, and the
next epoch starts at the same count under the grants accepted by now. -/
def State.endEpoch (s : State) (k busy : Nat) (early : Bool) : State :=
  let c := s.cl k
  let s := s.setCl k { c with
    jPrev := c.jPrev ++ c.jCur, jCur := [], undoPrev := c.undoPrev ++ c.undoCur, undoCur := [],
    keepPrev := c.keepPrev ++ c.keepCur, keepCur := [],
    endLo := s.core (2 * k), endHi := s.core (2 * k + 1), awaiting := true, endedAt := s.sys.mono,
    busyNext := busy, epoch := c.epoch + 1, epochAt := s.sys.mono,
    grantsPrev := c.grantsCur, grantsCur := s.pnt.grants }
  let s : State := { s with
    rmy := { s.rmy with early := if early then satInc s.rmy.early else s.rmy.early },
    pnt := { s.pnt with grantReq := s.pnt.grantReq.map (fun r =>
      (r.1, r.2.1, r.2.2.1, r.2.2.2.filter (fun x => x != k))) } }
  ((s.epochStart k).grantSettle).boundary k

/-- The epoch that awaits its commit is committed (R384). -/
def State.commit (s : State) (k : Nat) : State :=
  let c := s.cl k
  let full := decide (s.busyLimit < c.busyNext)
  let (ns, s) := if c.closing then s.whole ((s.sys.mono - c.detAt : Nat) : Int) 4 else (0, s)
  let s := s.setCl k { s.cl k with
    ckptLo := c.endLo, ckptHi := c.endHi, jPrev := [], undoPrev := [], keepPrev := [], commits := c.commits + 1,
    busyLast := c.busyNext, busyPeak := max c.busyPeak c.busyNext, jdamage := false, awaiting := false,
    closing := false, mismatch := none, commitT := s.time.t }
  let s : State := { s with rmy := { s.rmy with
    event := if full then s.rmy.event ||| 4 else s.rmy.event,
    outageMax := if s.rmy.outageMax.toNat < ns.toNat then BitVec.ofNat 32 ns.toNat else s.rmy.outageMax } }
  c.keepPrev.foldl (fun s f => s.copyGone f.fid none) s

/-! ### Rollback (R386 step 1, R388) -/

/-- A fault that calls for a rollback: cluster, class, the engine that a CAPACITY cluster takes back, the engine
and the detail for the log, and the retirement count of a signature mismatch. -/
structure Flaw where
  k      : Nat
  cls    : Nat
  eng    : Option Nat := none
  logEng : Nat := 0xFF
  detail : Word := 0
  sig    : Option DWord := none

/-- The same mismatch recurs in replay after both engines passed the self-test (R388). -/
def Cluster.recurs (c : Cluster) (f : Flaw) : Bool :=
  c.st == .replay && f.sig.isSome && c.mismatch == f.sig

/-- Outputs of uncommitted epochs of the engines taken back leave the outbox; replay makes them again. -/
def Cluster.discardLive (c : Cluster) (es : List Nat) : Cluster :=
  { c with outbox := c.outbox.filter (fun o => !(es.contains o.eng && c.live o.epoch)) }

/-- A rollback begins; a second fault before the replayed epoch commits is fatal (R388). -/
def State.rollback (s : State) (f : Flaw) : State :=
  let c := s.cl f.k
  if !c.st.steady || c.closing then
    s.fatal (if c.recurs f then 0x01 else 0x02) (clIsland f.k) f.cls f.logEng f.detail
  else
    let c := { c with recEng := f.eng }
    let s := s.setCl f.k c
    let c := c.discardLive (s.recovered f.k)
    let s := s.setCl f.k { c with
      st := .restore, faultClass := f.cls, faultEng := f.logEng, faultDetail := f.detail,
      detLo := (s.core (2 * f.k)).ret, detHi := (s.core (2 * f.k + 1)).ret, detAt := s.sys.mono,
      detT := s.time.t, mismatch := f.sig, rolls := satInc c.rolls }
    { s with rmy := { s.rmy with rollback := satInc s.rmy.rollback, event := s.rmy.event ||| 1 } }

/-! ### Restore, self-test, fence (R386 steps 2 and 3, R389) -/

/-- An engine of a twin pair is fenced. -/
def State.fence (s : State) (e : Nat) : State :=
  let c := s.cl (e / 2)
  let s := s.setCl (e / 2) (if e % 2 = 1 then { c with fencedHi := true } else { c with fencedLo := true })
  let s : State := { s with rmy := { s.rmy with fence := satInc s.rmy.fence, event := s.rmy.event ||| 2 } }
  s.statusPoint (s.lead e) 3

/-- Undo lines of an engine written back, newest epoch first. -/
def State.undoAll (s : State) (e : Nat) : State :=
  let c := s.cl (e / 2)
  let l := (c.undoPrev ++ c.undoCur).reverse.filter (fun u => u.eng == e)
  let s := l.foldl (fun s u => s.bankPut e (u.line * 64) u.bytes) s
  s.setCl (e / 2) { s.cl (e / 2) with
    undoPrev := c.undoPrev.filter (fun u => u.eng != e), undoCur := c.undoCur.filter (fun u => u.eng != e) }

/-- An engine back at its checkpoint, under the grants then in force. -/
def State.restoreEng (s : State) (e : Nat) : State :=
  let s := s.undoAll e
  let c := s.cl (e / 2)
  let g := s.eng e
  let s := s.setEng e { g with
    core := if e % 2 = 1 then c.ckptHi else c.ckptLo, stalled := false,
    st := if g.st == .wait then .running else g.st }
  { s with pnt := { s.pnt with
      clGrants := s.pnt.clGrants.set e (if c.awaiting then c.grantsPrev else c.grantsCur) } }

/-- The engines restored; the two live epochs become one, and its journal is to be presented. -/
def State.restore (s : State) (k : Nat) : State :=
  let es := s.recovered k
  let s := es.foldl State.restoreEng s
  let c := s.cl k
  let all := c.jPrev ++ c.jCur
  s.setCl k { c with
    st := .replay, jPrev := all, jCur := [], keepPrev := c.keepPrev ++ c.keepCur, keepCur := [],
    undoPrev := c.undoPrev ++ c.undoCur, undoCur := [], awaiting := false,
    replayJ := all.filter (fun j => es.contains j.eng) }

/-- The fault is judged and logged, then the replay begins; `lo` and `hi`: the engine passes its self-test. -/
def State.judgeFault (s : State) (k : Nat) (lo hi : Bool) : State :=
  let c := s.cl k
  let both := s.paired k
  if c.jdamage then s.fatal 0x03 (clIsland k) c.faultClass c.faultEng c.faultDetail
  else if both && !lo && !hi then s.fatal 0x01 (clIsland k) 2 c.faultEng c.faultDetail
  else if both && (!lo || !hi) then
    let e := 2 * k + bit lo
    let s := s.logFaultAt c.detT 2 (clIsland k) e 1 c.faultDetail
    (s.fence e).restore k
  else (s.logFaultAt c.detT c.faultClass (clIsland k) c.faultEng 0 c.faultDetail).restore k

/-! ### Replay's end (R386 step 5) -/

/-- Every engine taken back has reached the count of the fault, or no longer runs. -/
def State.replayDone (s : State) (k : Nat) : Bool :=
  (s.recovered k).all (fun e => !s.beforeDet e ||
    !((s.eng e).st == .running || (s.eng e).st == .wait || (s.eng e).st == .dbgHalt))

/-- The replayed epoch closes, then the inputs that waited become visible. -/
def State.closeReplay (s : State) (k busy : Nat) : State :=
  let es := s.recovered k
  let s := es.foldl State.presentAll s
  let c := s.cl k
  let s := s.setCl k { c with st := .running, recEng := none, replayJ := [], closing := true, late := [] }
  let s := s.endEpoch k busy true
  let s := c.late.foldl State.input s
  es.foldl State.rxCheck s

end Sys2Proof.Machine
end

