-- ==== Sys2Proof/Machine/Time.lean ====
section
/-! DEFINITION. The commands of the time island (R118 to R142). -/

namespace Sys2Proof.Machine

/-- TIME_STEP_REQUEST (0x401): a step in FREERUN or ACQUIRE (Table 4-5). -/
def execTimeStepRequest (q : Req) (s : State) : Out :=
  if s.running then
    (s.serve q 0x401 2 (fun s =>
      if s.time.st == .freerun || s.time.st == .acquire then
        .inl ((s.stepTime (q.dword 1).toInt).finish q 0x401)
      else .inr 0x15)).done
  else .next s

/-- TIME_SET_REQUEST (0x402): device time set in FREERUN; it counts as a step (Table 4-5). -/
def execTimeSetRequest (q : Req) (s : State) : Out :=
  if s.running then
    (s.serve q 0x402 2 (fun s =>
      if s.time.st == .freerun then
        .inl ((s.stepTime (((q.dword 1).toNat : Int) - s.time.t.toNat)).finish q 0x402)
      else .inr 0x15)).done
  else .next s

/-- UTC_OFFSET_SET (0x403), with active source none or Jabex (Table 4-5). -/
def execUtcOffsetSet (q : Req) (s : State) : Out :=
  if s.running then
    (s.serve q 0x403 1 (fun s =>
      let w := q.word 1
      if !(s.time.src == 0 || s.time.src == 3) then .inr 0x15
      else if (tst w 8 && tst w 9) || 1024 ≤ w then .inr 0x12
      else .inl (State.finish { s with time := { s.time with
        utc := BitVec.ofNat 8 w, leap61 := tst w 8, leap59 := tst w 9 } } q 0x403))).done
  else .next s

/-- REFCLK_A_LOSS: the time island moves to REFCLK_B (R119); with REFCLK_B bad or absent it is fatal
(R121). Before READY only the clock's absence is recorded. -/
def execRefclkALoss (s : State) : Out :=
  if !s.sys.refA then .next s
  else
    let s := { s with sys := { s.sys with refA := false } }
    if !s.running then .next s
    else if s.sys.refbBad || !s.sys.refB then (s.fatal 0x05 1 6).done
    else
      let s := s.logFault 6 1 0xFF 0 0
      State.done { s with time := { s.time with onRefb := true, refaLoss := satInc s.time.refaLoss } }

/-- REFCLK_A_RESTORE: back after 1 s present and in tolerance (R120). -/
def execRefclkARestore (s : State) : Out :=
  let s := { s with sys := { s.sys with refA := true } }
  if s.running then State.done { s with time := { s.time with onRefb := false } } else .next s

/-- REFCLK_B_LOSS: the guardian moves to its ring oscillator (R223); while device time runs on
REFCLK_B no time source is left (R121). -/
def execRefclkBLoss (s : State) : Out :=
  if !s.sys.refB then .next s
  else
    let s := { s with sys := { s.sys with refB := false } }
    if !s.running then .next s
    else if s.time.onRefb then (s.fatal 0x05 1 6).done
    else
      let s := s.logFault 6 2 0xFF 0 0
      let s := if s.tt.ring then s else s.ttLog 0xF0 6 0
      State.done { s with tt := { s.tt with ring := true } }

/-- REFCLK_B_RESTORE: the guardian leaves its ring oscillator, unless refb_bad holds it there. -/
def execRefclkBRestore (s : State) : Out :=
  let s := { s with sys := { s.sys with refB := true } }
  if s.running then State.done { s with tt := { s.tt with ring := s.sys.refbBad } } else .next s

/-- SERVO_SAMPLE (R129 to R133, R216). -/
def execServoSample (source : Fin 4) (m : Sample) (utc : Option UtcInfo) (s : State) : Out :=
  if s.running then (s.servoSample source.val m utc).done else .next s

/-- SERVO_STEP_APPLY: Sage takes the word and applies the step in FREERUN or ACQUIRE, else discards it
(R132, R134). -/
def execServoStepApply (s : State) : Out :=
  match s.time.posted with
  | none => .next s
  | some off =>
    if s.running then
      let s := ({ s with time := { s.time with posted := none } } : State).take62 34
      if s.time.st == .freerun || s.time.st == .acquire then
        let (d, s) := s.nearest (-off) 16384
        (s.stepTime d).done
      else s.done
    else .next s

/-- SOURCE_LOSS_TIMEOUT: no valid sample of the active source for loss_s (R131, R133). -/
def execSourceLossTimeout (s : State) : Out :=
  if s.running && s.time.src != 0 && decide (s.time.validAt + s.lossTime ≤ s.sys.mono) then
    let t := s.time
    if t.src == s.primary && s.secondary != 0 && t.secAt.isSome then
      (State.enterServo { s with time := { t with src := s.secondary, secAt := none, priFrom := none } }
        .acquire).done
    else if t.st == .acquire then (s.enterServo .freerun).done
    else if t.st == .locked then (s.enterServo .holdover).done
    else s.done
  else .next s

/-- The TAI second in which device time stands began `n` seconds after a midnight of UTC (R118). -/
def State.pastMidnight (s : State) (n : Int) : Bool :=
  ((s.time.t.toNat / 4000000000 : Nat) - (s.time.utc.toNat : Int) - n) % 86400 == 0

/-- LEAP_SECOND: at the end of 23:59:60 UTC with leap61 set, of 23:59:58 with leap59 set, utc_offset changes and the
flag clears (R118). -/
def execLeapSecond (s : State) : Out :=
  if s.running then
    let t := s.time
    if t.leap61 && s.pastMidnight 1 then State.done { s with time := { t with utc := t.utc + 1, leap61 := false } }
    else if t.leap59 && s.pastMidnight (-1) then State.done { s with time := { t with utc := t.utc - 1, leap59 := false } }
    else s.done
  else .next s

def State.ppsMode (s : State) : Nat := s.fld 0x0401 0 6 1 0
def State.ppsLimit (s : State) : Nat := s.fld 0x0401 0 10 2 0

/-- PPS_IN_EDGE: in mode 1 the monitor, in mode 2 the on-time marker (R140). Of two whole seconds equally near the
edge the earlier one counts (DESIGN CHOICE, log 148). -/
def execPpsInEdge (stamp : DWord) (s : State) : Out :=
  if s.running && s.ppsMode != 0 then
    let s := { s with time := { s.time with ppsStamp := stamp, ppsAt := s.sys.mono } }
    if s.ppsMode == 1 then
      let x : Int := (stamp.toNat % 4000000000 : Nat)
      let d := if 2000000000 < x then x - 4000000000 else x
      let (ns, s) := s.whole d 4
      let bad := s.ppsLimit != 0 && s.ppsLimit < ns.natAbs
      let good := if bad then 0 else min 4 (s.time.ppsGood + 1)
      State.done { s with time := { s.time with
        ppsOfs := BitVec.ofInt 32 ns, ppsGood := good,
        ppsBad := bad || (s.time.ppsBad && good < 4) } }
    else s.done
  else .next s

/-- PPS_IN_TIMEOUT: no edge for 2 s in mode 1 (R140). -/
def execPpsInTimeout (s : State) : Out :=
  if s.running && s.ppsMode == 1 && decide (max s.time.ppsAt s.sys.readyAt + sec 2 ≤ s.sys.mono) then
    State.done { s with time := { s.time with ppsBad := true, ppsGood := 0 } }
  else .next s

/-- An IRIG-B input is configured (Table 4-18). -/
def State.irigIn (s : State) : Bool := s.fld 0x0405 0 0 1 0xFF != 0xFF

/-- The servo sample of a valid frame (R141): marker stamp minus the frame's second in TAI. The marker is the one found
among the received pulses, or as the frame gives it where State holds none (DESIGN CHOICE, log 160). -/
def State.irigSample (s : State) (f : IrigFrame) : Sample :=
  let utc : Int := (f.second : Int) - (if s.fld 0x0405 0 3 1 0 = 1 then f.zone else 0)
  let tai := (utc + s.time.utc.toNat) * 4000000000
  let mark := if s.ppsMode = 2 then s.time.ppsStamp else (onTime s.time.irigPulses).getD f.stamp
  { stamp := mark, offset := BitVec.ofInt 64 (((mark.toNat : Int) - tai) * 16384), pathDelay := 0,
    port := 0, offValid := true, pdValid := false, newRef := false }

/-- IRIG_B_FRAME (R141). The last second is that of the last frame with good parity and markers, one discarded for
its second included; the first frame after a reset has none before it and is taken (DESIGN CHOICE, log 144). A pulse
of the error class spoils its frame (R447). -/
def execIrigBFrame (f : IrigFrame) (s : State) : Out :=
  if s.running && s.irigIn then
    let next := match s.time.irigLast with
      | some l => f.second == l + 1
      | none => true
    let good := f.valid && s.time.irigPulses.all (fun p => p.1 != 3)
    let m := s.irigSample f
    let l := s.time.irigPulses
    let s := { s with time := { s.time with irigPulses := l.drop (l.length - 1) } }
    let s := if good then { s with time := { s.time with irigLast := some f.second } } else s
    if good && next then
      let s := { s with time := { s.time with
        irigBad := false, irigAt := s.sys.mono, irigZone := f.zone, irigDst := f.dst, irigQual := f.quality.toNat } }
      if s.time.src == 2 then (s.servoSample 2 m (some f.leap)).done
      else
        let s := s.otherSource 2
        (if s.time.src == 2 then s.servoSample 2 m (some f.leap) else s).done
    else State.done { s with time := { s.time with irigErr := satInc s.time.irigErr } }
  else .next s

/-- IRIG_B_LOSS_TIMEOUT (Table 4-8, irig_bad). -/
def execIrigBLossTimeout (s : State) : Out :=
  if s.running && s.irigIn && decide (max s.time.irigAt s.sys.readyAt + s.lossTime ≤ s.sys.mono) then
    State.done { s with time := { s.time with irigBad := true } }
  else .next s

/-- HOLDOVER_MAX_EXPIRY: HOLDOVER has lasted longer than holdover_max_s; the loss of qualification is noted (R215). -/
def execHoldoverMaxExpiry (s : State) : Out :=
  if s.running && s.time.st == .holdover && !s.holdoverOk then
    s.qualUpdate.done
  else .next s

/-- SELF_REF_STEP_HOLD_END: 1 ms after the last step; qualification is noted (R215). -/
def execSelfRefStepHoldEnd (s : State) : Out :=
  if s.running && s.stepClear then s.qualUpdate.done else .next s

/-- More than 120 s have passed since READY. -/
def State.longUp (s : State) : Bool := decide (s.sys.readyAt + sec 120 < s.sys.mono)

/-- TIME_UNLOCKED_ALARM: 120 s after READY (R142). -/
def execTimeUnlockedAlarm (s : State) : Out :=
  if s.running && s.longUp then State.done { s with time := { s.time with late := true } } else .next s

/-- TT_UNQUALIFIED_ALARM: more than 120 s without qualified time after READY (R233). -/
def execTtUnqualifiedAlarm (s : State) : Out :=
  if s.running && !s.qualified && s.longUp && decide (s.tt.qualAt + sec 120 < s.sys.mono) then State.done { s with tt := { s.tt with unqLong := true } } else .next s

end Sys2Proof.Machine
end

