-- ==== Sys2Proof/Machine/RegOps.lean ====
section
/-! DEFINITION. What stands at a BAR0 address (R9 to R13), and the registers of the DEV, IRQ, MBX, TIME
and TT blocks. -/

namespace Sys2Proof.Machine

/-- One word of BAR0 as the access codes of R9 see it: its value, with the words of a wide value (R13);
what a write does; whether the write is of a CFG field; what a read does besides. -/
structure Reg where
  val  : Nat := 0
  word : Nat := 0
  wide : Bool := false
  act  : Option (Nat → State) := none
  cfg  : Bool := false
  eff  : Option State := none

/-- RO. -/
def Reg.ro (v : Nat) : Reg := { val := v }
/-- Word `i` of a wide RO value (R13). -/
def Reg.roW (v i : Nat) : Reg := { val := v, word := i, wide := true }
/-- RW or W1C: the value and what a written word does. -/
def Reg.rw (v : Nat) (f : Nat → State) : Reg := { val := v, act := some f }
/-- CFG (R9). -/
def Reg.conf (v : Nat) (f : Nat → State) : Reg := { val := v, act := some f, cfg := true }
/-- Word `i` of a wide CFG or RW value. -/
def Reg.confW (v i : Nat) (f : Nat → State) : Reg := { val := v, word := i, wide := true, act := some f, cfg := true }
def Reg.rwW (v i : Nat) (f : Nat → State) : Reg := { val := v, word := i, wide := true, act := some f }
/-- WO: reads 0 (R9). -/
def Reg.wo (f : Nat → State) : Reg := { act := some f }

/-- The register of a table of equal windows: index and offset within the window, where `a` lies in it. -/
def window (a base stride count : Nat) : Option (Nat × Nat) :=
  if base ≤ a && a < base + stride * count then some ((a - base) / stride, (a - base) % stride) else none

/-- The word of a value with word `i` replaced. -/
def setWord (v i w : Nat) : Nat := v - bits v (32 * i + 31) (32 * i) * 2 ^ (32 * i) + w % 2 ^ 32 * 2 ^ (32 * i)

/-- A W1C register cleared by a written word (R9). -/
def w1c {n : Nat} (x : BitVec n) (w : Nat) : BitVec n := x &&& ~~~ BitVec.ofNat n w

/-! ### DEV (Tables 2-18, 3-16, 18-6) -/

def Cause.code : Cause → Nat
  | .por => 0 | .supply => 1 | .thermal => 2 | .warm => 3 | .fatal => 4 | .watchdog => 5
  | .lifeCycle => 6 | .request => 7

/-- DEV_STATUS (Table 2-19). -/
def State.devStatus (s : State) : Nat :=
  let y := s.sys
  fields [(y.lc.code, 13), (bit y.nvmQuad, 12), (bit y.kernelRom, 11), (bit s.rmy.dumpPresent, 10),
    (bit y.refbBad, 9), (bit y.dramFail, 8), (bit y.cfgUnsigned, 7), (bit y.cfgDefault, 6),
    (bit (y.cfgSlot && !y.cfgDefault), 5), (bit y.alarmPin, 4), (bit y.faultPin, 3), (bit y.ready, 2)]

/-- DEV_LC_INFO (Table 3-17). -/
def State.lcInfo (s : State) : Nat :=
  fields [(s.otp.revoked.toNat, 14), ((s.otp.active).getD 0, 12), (bit s.otp.active.isNone, 11),
    (s.otp.entry, 0)]

/-- DEV_LINK (Table 18-7). -/
def State.devLink (s : State) : Nat :=
  let h := s.host
  fields [(h.perstCount.toNat, 16), (bit h.fnMask, 11), (bit h.busMaster, 10), (bit h.msixEn, 9),
    (bit h.dlActive, 8), (h.width.toNat, 4), (h.speed.toNat, 0)]

/-- DEV_UNLOCK (Table 3-20): in BLANK the scope reads 2. -/
def State.devUnlock (s : State) : Nat :=
  s.minutesLeft * 2 ^ 16 + (if s.sys.lc = .blank then 2 else s.sage.scope.toNat)

/-- DEV_ID of A2 (R1). -/
def devIdA2 : Nat := 0x64400A02

def State.devReg (s : State) (a : Nat) : Reg :=
  let y := s.sys
  if a = 0x00 then .ro devIdA2
  else if a = 0x04 then .ro s.devStatus
  else if a = 0x08 then .ro y.cause.code
  else if a = 0x0C then .ro y.rstCount.toNat
  else if a = 0x10 then .ro (fields [(y.defCause.toNat, 16), (y.reasonB.toNat, 8), (y.reasonA.toNat, 0)])
  else if a = 0x14 then .roW y.cfgSeq.toNat 0
  else if a = 0x18 then .roW y.cfgSeq.toNat 1
  else if a = 0x1C then .ro y.bootTime.toNat
  else if a = 0x20 then .ro y.cfgSkipped.toNat
  else if a = 0x40 then .rw s.host.devEvent.toNat (fun w =>
    { s with host := { s.host with devEvent := w1c s.host.devEvent w } })
  else if a = 0x44 then .rw s.host.devIrqEn.toNat (fun w =>
    { s with host := { s.host with devIrqEn := BitVec.ofNat 6 w } })
  else if a = 0x48 then .ro s.host.wrviol.toNat
  else if a = 0x4C then .ro s.host.wrviolAddr.toNat
  else if a = 0x50 then .ro (s.alarmSrc + bit y.cfgDefault * 1024)
  else if a = 0x54 then .ro s.devLink
  else if a = 0x58 then .roW s.otp.serial.toNat 0
  else if a = 0x5C then .roW s.otp.serial.toNat 1
  else if a = 0x60 then .rw s.host.scratch.toNat (fun w =>
    { s with host := { s.host with scratch := BitVec.ofNat 32 w } })
  else if a = 0x100 then .ro s.lcInfo
  else if a = 0x104 then .ro (fields [(bit s.sage.pufFail, 4), (bit s.sage.duplex, 3), (s.sage.coreActive.toNat, 0)])
  else if a = 0x108 then .ro s.sage.vote.toNat
  else if a = 0x10C then .ro s.sage.accViol.toNat
  else if a = 0x110 then .ro s.sage.reqRefused.toNat
  else if a = 0x114 then .ro s.devUnlock
  else {}

/-! ### MBX (Tables 12-6 to 12-10) -/

/-- MBX_EVENT_SUM (Table 12-8). -/
def State.mbxSum (s : State) : Nat :=
  fields ((List.range 64).map (fun n => (bit ((s.mb n).event &&& (s.mb n).irqEn != 0), n)))

/-- The head of the host's inbound queue; none where it has no such queue or it is empty. -/
def Mbox.hostHead (m : Mbox) : Option MbWord :=
  match m.inQ 32 with
  | some home => ((m.dropBad home).q home).head?
  | none => none

/-- A read of the host's queue registers outside its grant: 0, counted in MBn_REFUSED (R359). -/
def State.mbRead (s : State) (n v : Nat) : Reg :=
  let m := s.mb n
  if (m.inQ 32).isSome then .ro v
  else { eff := some (s.setMb n { m with refused := satInc m.refused }) }

/-- The window of MBn. -/
def State.mboxReg (s : State) (n a : Nat) : Reg :=
  let m := s.mb n
  if a = 0x00 then .ro (fields [((match m.lock with | some o => o + 1 | none => 0), 16),
    (m.fromHome.length, 4), (m.toHome.length, 0)])
  else if a = 0x04 then
    let r := s.hostLockRead n
    { val := r.1, eff := some r.2, act := some (fun w => if tst w 0 then s.hostLockRelease n else s) }
  else if a = 0x08 then .wo (fun w => s.hostPost n (BitVec.ofNat 32 w))
  else if a = 0x0C then s.mbRead n (match m.hostHead with | some w => w.word.toNat | none => 0)
  else if a = 0x10 then s.mbRead n (match m.hostHead with | some w => 256 + w.src | none => 0)
  else if a = 0x14 then .wo (fun w => if tst w 0 then s.hostPop n else s)
  else if a = 0x18 then .rw m.event.toNat (fun w => s.setMb n { m with event := w1c m.event w })
  else if a = 0x1C then .rw m.irqEn.toNat (fun w => s.setMb n { m with irqEn := BitVec.ofNat 4 w })
  else if a = 0x20 then .ro m.discard.toNat
  else if a = 0x24 then .ro m.ovf.toNat
  else if a = 0x28 then .ro m.refused.toNat
  else if a = 0x2C then
    let v := m.farReader.toNat * 256 + m.home.toNat
    if 56 ≤ n then .ro v
    else .conf v (fun w => s.setMb n { m with farReader := BitVec.ofNat 8 (w / 256), home := BitVec.ofNat 8 w })
  else if a = 0x30 || a = 0x34 then
    let i := (a - 0x30) / 4
    if 56 ≤ n then .roW m.far.toNat i
    else .confW m.far.toNat i (fun w => s.setMb n { m with far := BitVec.ofNat 36 (setWord m.far.toNat i w) })
  else {}

def State.mbxReg (s : State) (a : Nat) : Reg :=
  let x := s.mbx
  if a = 0x00 then .rw x.event.toNat (fun w => { s with mbx := { x with event := w1c x.event w } })
  else if a = 0x04 then .rw x.irqEn.toNat (fun w => { s with mbx := { x with irqEn := BitVec.ofNat 4 w } })
  else if a = 0x08 then .wo (fun w => if tst w 0 then s.resetMaster 32 else s)
  else if a = 0x0C then .ro x.scrubLate.toNat
  else if a = 0x10 then .roW s.mbxSum 0
  else if a = 0x14 then .roW s.mbxSum 1
  else match window a 0x200 4 32 with
  | some (n, _) => .ro (x.starve.get 0 n).toNat
  | none => match window a 0x280 4 32 with
  | some (n, _) => .ro (x.wait.get 0 n).toNat
  | none => match window a 0x400 8 38 with
  | some (m, o) => .ro (if o = 0 then (x.eccCorr.get 0 m).toNat else (x.eccUnc.get 0 m).toNat)
  | none => match window a 0x1000 0x40 64 with
  | some (n, o) => s.mboxReg n o
  | none =>
    if 0x10000 ≤ a && a < 0x20000 then
      .rw (leNat (Mem.readBytes 0 s.mem.svc (0x4000 + (a - 0x10000)) 4)) (fun w =>
        { s with mem := { s.mem with svc := Mem.writeBytes 0 s.mem.svc (0x4000 + (a - 0x10000)) (leBytes 4 w) } })
    else {}

/-! ### TIME (Table 4-7) -/

def State.timeStatus (s : State) : Nat :=
  let t := s.time
  fields [(bit t.ppsBad, 11), (bit t.irigBad, 10), (bit t.stepped, 9), (bit t.onRefb, 8),
    (bit s.timeAlarm, 7), (t.src, 4),
    ((match t.st with | .freerun => 0 | .acquire => 1 | .locked => 2 | .holdover => 3), 0)]

def State.timeReg (s : State) (a : Nat) : Reg :=
  let t := s.time
  if a = 0x00 then .rw s.timeStatus (fun w =>
    { s with time := { t with stepped := t.stepped && !tst w 9 } })
  else if a = 0x08 || a = 0x0C then .roW t.t.toNat ((a - 0x08) / 4)
  else if 0x10 ≤ a && a < 0x1C then .roW t.t96 ((a - 0x10) / 4)
  else if a = 0x1C then .ro (fields [(bit t.leap59, 9), (bit t.leap61, 8), (t.utc.toNat, 0)])
  else if a = 0x20 || a = 0x24 then .roW t.freq.toNat ((a - 0x20) / 4)
  else if a = 0x28 || a = 0x2C then .roW t.offset.toNat ((a - 0x28) / 4)
  else if a = 0x30 || a = 0x34 then .roW t.stepLast.toNat ((a - 0x30) / 4)
  else if a = 0x38 then .ro t.stepCount.toNat
  else if a = 0x3C then .ro t.outlier.toNat
  else if a = 0x40 then .ro t.refaLoss.toNat
  else if a = 0x44 then .ro s.holdoverSecs.toNat
  else if a = 0x48 then .ro t.ppsOfs.toNat
  else if a = 0x4C then .ro t.irigErr.toNat
  else if a = 0x50 then .conf (t.ki.toNat * 2 ^ 16 + t.kp.toNat) (fun w =>
    { s with time := { t with kp := BitVec.ofNat 16 w, ki := BitVec.ofNat 16 (w / 2 ^ 16) } })
  else if a = 0x54 then .conf t.lockThr.toNat (fun w => { s with time := { t with lockThr := BitVec.ofNat 32 w } })
  else if a = 0x58 then .conf t.stepThr.toNat (fun w => { s with time := { t with stepThr := BitVec.ofNat 32 w } })
  else if a = 0x5C then .ro t.srcDrop.toNat
  else if a = 0x60 then .ro t.calShift.toNat
  else match window a 0x400 8 68 with
  | some (n, o) =>
    let k := 4 * n + s.calSpeed n
    if o = 0 then .conf ((t.sdRx.get 0 n).toNat * 2 ^ 16 + (t.extRx.get 0 k).toNat) (fun w =>
      { s with time := { t with extRx := t.extRx.set k (BitVec.ofNat 16 w) } })
    else .conf ((t.sdTx.get 0 n).toNat * 2 ^ 16 + (t.extTx.get 0 k).toNat) (fun w =>
      { s with time := { t with extTx := t.extTx.set k (BitVec.ofNat 16 w) } })
  | none => match window a 0x800 4 68 with
  | some (n, _) => .ro (t.linkDelay.get 0 n).toNat
  | none => {}

/-! ### TT (Table 7-4) -/

def State.ttStatus (s : State) : Nat :=
  fields [(bit s.tt.guardFail, 6), (bit s.tt.swap.isSome, 5), (bit s.ttAlarm, 4), (bit s.tt.disagree, 3),
    (bit s.tt.ring, 1), (bit s.qualified, 0)]

/-- A log entry's bytes (Table 7-8). -/
def TtLog.bytes (l : TtLog) : List Byte :=
  leBytes 8 l.stamp.toNat ++ leBytes 1 l.unit_ ++ leBytes 1 l.code ++ leBytes 2 l.index ++ leBytes 4 l.value.toNat

/-- The TT registers. The words of a log-ring entry, its stamp among them, read as they stand, without the capture
of R13: whether that covers the entries of the ring is not stated (DESIGN CHOICE, log 141). -/
def State.ttReg (s : State) (a : Nat) : Reg :=
  let t := s.tt
  if a = 0x00 then .ro s.ttStatus
  else if a = 0x04 then .rw t.event.toNat (fun w => { s with tt := { t with event := w1c t.event w } })
  else if a = 0x08 then .rw t.irqEn.toNat (fun w => { s with tt := { t with irqEn := BitVec.ofNat 5 w } })
  else if a = 0x0C then .ro t.gsync.toNat
  else if a = 0x10 then .ro t.logWr.toNat
  else if a = 0x14 then .rw t.logRd.toNat (fun w => { s with tt := { t with logRd := BitVec.ofNat 32 w } })
  else if a = 0x18 then .ro t.instSkip.toNat
  else match window a 0x100 0x10 64 with
  | some (n, o) =>
    let p := s.tport n
    .ro (if o = 0 then fields [(p.index, 16), (s.ttActive n, 2), (s.pstate n, 0)]
      else if o = 4 then p.cuts.toNat else if o = 8 then p.holds.toNat else p.stops.toNat)
  | none => match window a 0x500 0x10 16 with
  | some (k, o) =>
    let c := s.tchan k
    .ro (if o = 0 then fields [(c.index, 16), (bit c.master, 8), (s.ttActive (0x80 + k), 2), (s.cstate k, 0)]
      else if o = 4 then c.cuts.toNat else if o = 8 then c.holds.toNat else c.lost.toNat)
  | none => match window a 0x1000 16 256 with
  | some (e, o) => .ro (match t.log.find? e with | some l => rdLE l.bytes o 4 | none => 0)
  | none => {}

end Sys2Proof.Machine
end

