-- ==== Sys2Proof/Machine/RegsCore.lean ====
section
/-! DEFINITION. The registers of the ENG, REC, DUMP, CAN, CHIVE and AGE blocks. -/

namespace Sys2Proof.Machine

/-! ### ENG (Table 11-13) -/

/-- ENG_DBG_CTRL written: halt, step, resume (Table 11-15). -/
def State.dbgCtrl (s : State) (e w : Nat) : State :=
  s.dbgWrite e (fun g =>
    let g := if tst w 2 then g.unhalt s.sys.mono false else g
    let g := if tst w 1 then g.unhalt s.sys.mono true else g
    if tst w 0 then g.halt else g)

/-- The window of engine `e`. The odd window of a twin pair shows only ENG_STATUS and ENG_ISA_VER; the rest
reads 0 there ("ENG registers", spec/11). -/
def State.engReg (s : State) (e a : Nat) : Reg :=
  let l := s.lead e
  let g := if l = e then s.eng l else {}
  if a = 0x00 then .ro (s.engStatus e)
  else if a = 0x04 && l ≠ e then .ro 0
  else if a = 0x04 then .ro (if s.engHalted e then g.core.pc.toNat else g.lastPc.toNat)
  else if a = 0x08 || a = 0x0C then .roW g.core.ret.toNat ((a - 0x08) / 4)
  else if a = 0x10 then .ro g.lastCause.toNat
  else if a = 0x14 then .ro g.lastEpc.toNat
  else if a = 0x18 then .ro g.lastAddr.toNat
  else if a = 0x1C then .ro g.traps.toNat
  else if a = 0x20 then .ro g.emul.toNat
  else if a = 0x24 then .ro g.accViol.toNat
  else if a = 0x28 then .ro g.stalls.toNat
  else if a = 0x2C then .ro g.instLost.toNat
  else if a = 0x30 then .ro g.wdog.toNat
  else if a = 0x34 then .ro (fields [(g.opsPeak, 16), (g.core.ops.length, 0)])
  else if a = 0x38 then .ro 0x00010000
  else if a = 0x40 then .wo (s.dbgCtrl e)
  else if 0x100 ≤ a && a < 0x180 then .ro (if l = e && s.engHalted e then g.core.wVal ((a - 0x100) / 4) else 0)
  else if a = 0x180 then .ro (if l = e && s.engHalted e then (g.core.pr ||| 1).toNat else 0)
  else {}

/-! ### REC (Table 13-13) and DUMP (Table 13-11) -/

/-- The window of cluster `k`. -/
def State.clReg (s : State) (k a : Nat) : Reg :=
  let c := s.cl k
  if a = 0x00 then .ro (s.cstat k)
  else if a = 0x04 then .ro c.commits.toNat
  else if a = 0x08 then .ro c.jbytes
  else if a = 0x0C then .ro c.ulines
  else if a = 0x10 then .ro (c.busyPeak * 256 + c.busyLast)
  else if a = 0x14 then .ro c.rolls.toNat
  else if a = 0x18 then .conf c.epochUs.toNat (fun w => s.setCl k { c with epochUs := BitVec.ofNat 7 w })
  else {}

/-- The REC registers. The words of a fault log entry, its stamp among them, read as they stand, without the
capture of R13: whether that covers the entries of the ring is not stated (DESIGN CHOICE, log 141). -/
def State.recReg (s : State) (a : Nat) : Reg :=
  let r := s.rmy
  if a = 0x00 then .ro s.recStatus
  else if a = 0x04 then .rw r.event.toNat (fun w => { s with rmy := { r with event := w1c r.event w } })
  else if a = 0x08 then .rw r.irqEn.toNat (fun w => { s with rmy := { r with irqEn := BitVec.ofNat 6 w } })
  else if a = 0x0C then .ro r.suppress.toNat
  else if a = 0x10 then .ro r.rollback.toNat
  else if a = 0x14 then .ro r.fence.toNat
  else if a = 0x18 then .ro r.repair.toNat
  else if a = 0x1C then .ro r.remap.toNat
  else if a = 0x20 then .ro r.early.toNat
  else if a = 0x24 then .ro r.outside.toNat
  else if a = 0x28 then .ro r.tblDrop.toNat
  else if a = 0x2C then .ro r.outageMax.toNat
  else if a = 0x30 then .ro r.logWr.toNat
  else if a = 0x34 then .rw r.logRd.toNat (fun w => { s with rmy := { r with logRd := BitVec.ofNat 32 w } })
  else match window a 0x100 0x20 16 with
  | some (k, o) => s.clReg k o
  | none => match window a 0x1000 16 64 with
  | some (e, o) => .ro (match r.log.find? e with | some f => rdLE f.bytes o 4 | none => 0)
  | none => {}

def State.dumpReg (s : State) (a : Nat) : Reg :=
  let r := s.rmy
  if a = 0x00 then .ro s.dumpStatus
  else if a = 0x04 then .wo (fun w =>
    let s := if tst w 0 then s.dumpRelease else s
    if tst w 1 then s.dumpClear else s)
  else if a = 0x08 then .rw r.dumpEvent.toNat (fun w => { s with rmy := { r with dumpEvent := w1c r.dumpEvent w } })
  else if a = 0x0C then .rw r.dumpIrqEn.toNat (fun w =>
    { s with rmy := { r with dumpIrqEn := BitVec.ofNat 3 w } })
  else if a = 0x10 then .ro s.dumpLenNow
  else if a = 0x14 then .ro r.dumpLost.toNat
  else if 0x100000 ≤ a && a < 0x500000 then .ro (leNat (Mem.readBytes 0 r.dumpWin (a - 0x100000) 4))
  else {}

/-! ### CAN (Table 14-6) -/

/-- Bytes of the record of a type and instance overwritten; an absent record starts as `len` zero bytes. -/
def State.putBytes (s : State) (typ inst len off : Nat) (bs : List Byte) : State :=
  let r : Rec := (s.rec? typ inst).getD { typ := typ, ver := 1, flags := 0, inst := inst,
                                          body := List.replicate len 0 }
  let r : Rec := { r with body := splice r.body off bs }
  let rest := s.cfg.recs.filter (fun x => !(x.typ == typ && x.inst == inst))
  { s with cfg := { s.cfg with recs := rest ++ [r] } }

/-- The transceiver's state: 0 normal, 1 listen-only, 3 sleep (R424, Table 14-3). -/
def State.xcvr (s : State) (c : Nat) : Nat :=
  match (s.chan c).ps with
  | .sleep => 3
  | .quiet => 1
  | .awake => if s.canMode c = 2 then 1 else 0
  | _ => 0

/-- The levels of CANn_EN and CANn_STB: those xcvr_map gives for the transceiver's state, both low on a disabled channel
(R424). -/
def State.canPins (s : State) (c : Nat) : Bool × Bool :=
  if s.canMode c = 0 then (false, false)
  else (tst (s.chanFld c 0x11 1) (2 * s.xcvr c), tst (s.chanFld c 0x11 1) (2 * s.xcvr c + 1))

/-- CANn_STATUS (Table 14-7). -/
def State.canStatus (s : State) (c : Nat) : Nat :=
  let x := s.chan c
  if s.canMode c = 0 then bit x.hostKeep * 2 ^ 17
  else fields [((match x.ps with | .awake => 1 | .prepare => 2 | .sleep => 3 | .quiet => 4 | .waking => 5), 20),
    (s.xcvr c, 18), (bit x.hostKeep, 17), (bit (s.canAlarmOf c), 16), (s.canMode c, 8),
    (bit (s.relayActive c), 7), (bit x.recovering, 6), (bit x.busOff, 5), (bit x.passive, 4), (bit x.warn, 3)]

/-- The selected buffer: frame and stamp; a transmit object shows its own. -/
def State.selFrame (s : State) (c : Nat) : Option (CanMsg × DWord) :=
  let x := s.chan c
  let k := x.sel.toNat
  if !x.selValid then none
  else if s.objDir c k = 2 then some (s.objMsg c k, (s.cobj c k).stamp)
  else if s.objDir c k = 1 then (s.cobj c k).cur else none

/-- CANn_OBJ_INFO (Table 14-7). -/
def State.objInfo (s : State) (c : Nat) : Nat :=
  let x := s.chan c
  let k := x.sel.toNat
  let o := s.cobj c k
  let st := if !x.selValid then 0 else if s.objDir c k = 2 then (if o.pending then 1 else o.status)
    else if s.objDir c k = 1 then (if o.cur.isNone then 8 else if o.shadow.isNone then 9 else 10) else 0
  fields [(st, 28), (k, 0)] +
  (match s.selFrame c with
   | some (m, _) => fields [(bit m.ide, 27), (bit m.fdf, 26), (bit m.brs, 25), (bit m.esi, 24), (m.data.length, 17)]
   | none => 0)

/-- CANn_OBJ_DATAi. -/
def State.objWord (s : State) (c i : Nat) : Nat :=
  let k := (s.chan c).sel.toNat
  if (s.chan c).selValid && s.objDir c k = 2 then rdLE (s.cobj c k).data (4 * i) 4
  else match s.selFrame c with
    | some (m, _) => rdLE m.data (4 * i) 4
    | none => 0

/-- CANn_CTRL written (Table 14-9). -/
def State.canCtrl (s : State) (c w : Nat) : State :=
  let s := if tst w 0 then s.canRecover c else s
  let s := if tst w 1 then s.canWakeReq c else s
  let s := if tst w 2 then s.canSleepOk c else s
  if tst w 3 then s.canClear c else s

/-- A field of a CAN.CHAN record less one, as the timing registers show it. -/
def State.chanM1 (s : State) (c off n : Nat) : Nat := s.chanFld c off n - 1

/-- CANn_NBT, CANn_DBT and CANn_TDC written: the fields of the channel's record (Tables 14-9, 14-11). -/
def State.nbtWrite (s : State) (c w : Nat) : State :=
  let put (s : State) (off n v : Nat) : State := s.putBytes 0x0901 c 32 off (leBytes n v)
  let f := s.chanFld c 1 1
  let s := put s 1 1 (f - bits f 1 1 * 2 + bits w 8 8 * 2)
  let s := put s 2 2 (bits w 7 0 + 1)
  let s := put s 4 2 (bits w 24 16 + 1)
  let s := put s 6 1 (bits w 15 9 + 1)
  put s 7 1 (bits w 31 25 + 1)

def State.dbtWrite (s : State) (c w : Nat) : State :=
  s.putBytes 0x0901 c 32 8 (leBytes 1 (bits w 4 0 + 1) ++ leBytes 1 (bits w 27 23 + 1) ++
    leBytes 1 (bits w 22 19 + 1) ++ leBytes 1 (bits w 31 28 + 1))

def State.tdcWrite (s : State) (c w : Nat) : State :=
  let f := s.chanFld c 1 1
  let s := s.putBytes 0x0901 c 32 1 (leBytes 1 (f - bits f 2 2 * 4 + bits w 15 15 * 4))
  s.putBytes 0x0901 c 32 0xC (leBytes 1 (bits w 6 0) ++ leBytes 1 (bits w 14 8))

/-- The bits of CANn_OBJ_CFG word `i` that Table 14-12 does not reserve. -/
def objMask (i : Nat) : Nat :=
  match i with
  | 0 => 0x3FFFFFFF | 1 => 0x1FFFFFFF | 2 => 0xFFFF3FFF | 3 => 0xFFFFFFFF
  | 4 => 0x807FFFFF | 5 => 0x03FFFFFF | 6 => 0xFFFFFFFF | _ => 0

/-- The window of channel `c`. -/
def State.canReg (s : State) (c a : Nat) : Reg :=
  let x := s.chan c
  if a = 0x000 then .ro (s.canStatus c)
  else if a = 0x004 then .rw x.event.toNat (fun w => s.setChan c { x with event := w1c x.event w })
  else if a = 0x008 then .rw x.irqEn.toNat (fun w => s.setChan c { x with irqEn := BitVec.ofNat 17 w })
  else if a = 0x00C then .wo (s.canCtrl c)
  else if a = 0x010 then .ro (fields [(bit x.dataPhase, 27), (x.lec, 24), (x.rec_, 16), (x.tec, 0)])
  else if a = 0x014 then .conf (fields [(s.chanM1 c 7 1, 25), (s.chanM1 c 4 2, 16), (s.chanM1 c 6 1, 9),
    (bits (s.chanFld c 1 1) 1 1, 8), (s.chanM1 c 2 2, 0)]) (s.nbtWrite c)
  else if a = 0x018 then .conf (fields [(s.chanM1 c 0xB 1, 28), (s.chanM1 c 9 1, 23), (s.chanM1 c 0xA 1, 19),
    (s.chanM1 c 8 1, 0)]) (s.dbtWrite c)
  else if a = 0x01C then .conf (fields [(x.tdcv.toNat, 16), (bits (s.chanFld c 1 1) 2 2, 15),
    (s.chanFld c 0xD 1, 8), (s.chanFld c 0xC 1, 0)]) (s.tdcWrite c)
  else if a = 0x020 then .ro (fields [(bit x.clashIde, 29), (x.clashId.toNat, 0)])
  else if a = 0x024 || a = 0x028 then .roW x.clashT.toNat ((a - 0x024) / 4)
  else if a = 0x02C then .ro x.recov.toNat
  else if a = 0x030 || a = 0x034 then .roW x.keeper.toNat ((a - 0x030) / 4)
  else if a = 0x038 then .ro (fields [(bit x.nmFirst.isSome, 22), (x.nmFirst.getD 0, 16),
    ((if s.canMode c != 0 && x.ps == .awake && s.sys.up then min 0xFFFF ((s.sys.mono - s.awakeSince c) / sec 60) else 0), 0)])
  else if a = 0x03C then .rw x.wake.toNat (fun w => s.setChan c { x with wake := w1c x.wake w })
  else if a = 0x040 then .wo (fun w => s.canCancel c (w % 64))
  else if a = 0x044 then .wo (fun w => s.canTxReq c (w % 64))
  else if a = 0x048 then .rw (fields [(bit x.selValid, 31), (x.sel.toNat, 0)]) (fun w =>
    s.canSelect c (tst w 31) (BitVec.ofNat 6 w))
  else if a = 0x04C then .ro (s.objInfo c)
  else if a = 0x050 || a = 0x054 then
    .roW (match s.selFrame c with | some (_, t) => t.toNat | none => 0) ((a - 0x050) / 4)
  else if a = 0x058 || a = 0x05C then .roW (s.canPend c) ((a - 0x058) / 4)
  else if a = 0x060 then .ro (match s.selFrame c with | some (m, _) => fields [(bit m.ide, 29), (m.id.toNat, 0)] | none => 0)
  else match window a 0x080 4 16 with
  | some (i, _) => .rw (s.objWord c i) (fun w => s.canDataWrite c i (BitVec.ofNat 32 w))
  | none => match window a 0x100 4 20 with
  | some (i, _) => .ro (x.cnt.get 0 i).toNat
  | none => match window a 0x400 0x20 64 with
  | some (k, o) => .conf (s.objFld c k o 4) (fun w =>
      s.putBytes 0x0902 (64 * c + k) 32 o (leBytes 4 ((BitVec.ofNat 32 w &&& BitVec.ofNat 32 (objMask (o / 4))).toNat)))
  | none => {}

/-! ### CHIVE (Table 15-7) -/

def CeState.code : CeState → Nat
  | .idle => 0 | .running => 1 | .stalled => 2 | .faulted => 3 | .stopped => 4

/-- A host write to the store of a group: dropped with prog_rej while a restart is due (R444). -/
def State.storeWrite (s : State) (g : Nat) (f : CeGroup → CeGroup) : State :=
  if (s.grp g).restart.isSome then s.chvEvent 2 else s.setGrp g (f (s.grp g))

/-- The window of a group. -/
def State.grpReg (s : State) (g a : Nat) : Reg :=
  let x := s.grp g
  if a = 0x00 then .conf (fields [(bit x.restart.isSome, 17), (x.bank, 16), (bit x.keep, 8), (x.gdiv.toNat, 0)])
    (fun w => s.setGrp g { x with keep := tst w 8, gdiv := BitVec.ofNat 4 w })
  else if a = 0x08 then .wo (fun w => if tst w 0 then s.gctrl g else s)
  else if a = 0x0C then .ro x.fqLost.toNat
  else if a = 0x10 then .ro x.samp.toNat
  else if a = 0x14 || a = 0x18 then .roW x.sampT.toNat ((a - 0x14) / 4)
  else if a = 0x1C then .ro x.late.toNat
  else {}

/-- The window of a Chive engine. -/
def State.ceReg (s : State) (e a : Nat) : Reg :=
  let x := s.ce e
  if a = 0x00 then .conf (fields [(x.po.toNat, 24), (x.prog.toNat, 20), (x.sink.toNat, 16), (x.div.toNat, 0)])
    (fun w => s.setCe e { x with po := BitVec.ofNat 3 (w / 2 ^ 24), prog := BitVec.ofNat 4 (w / 2 ^ 20),
                                 sink := BitVec.ofNat 4 (w / 2 ^ 16), div := BitVec.ofNat 16 w })
  else if a = 0x04 then .ro (fields [((match x.inF with | i :: _ => i.eid.toNat | [] => 0), 24),
    (x.inF.length, 20), (x.outF.length, 16), (x.pc, 8), (x.st.code, 0)])
  else if a = 0x08 then .ro x.fault.toNat
  else if a = 0x0C then .ro (match x.inF with | i :: _ => i.word.toNat | [] => 0)
  else if a = 0x10 || a = 0x14 then .roW (match x.inF with | i :: _ => i.e.toNat | [] => 0) ((a - 0x10) / 4)
  else if a = 0x18 then .wo (fun w => if tst w 0 then s.chvPop e else s)
  else if a = 0x1C then .wo (fun w => s.chvOut e (BitVec.ofNat 32 w))
  else if a = 0x20 then .ro (x.outLost.toNat * 2 ^ 16 + x.inLost.toNat)
  else if a = 0x24 then .conf x.k.toNat (fun w => s.setCe e { x with k := BitVec.ofNat 32 w })
  else {}

/-- The window of a pin; 64 is PPS_IN, 65 PPS_OUT. -/
def State.pinReg (s : State) (p a : Nat) : Reg :=
  let x := s.cpin p
  if a = 0x00 then .conf (fields [(x.filterUs.toNat, 16), (x.func.toNat, 4), (bit x.invert, 0)]) (fun w =>
    s.setCpin p { x with filterUs := BitVec.ofNat 16 (w / 2 ^ 16), func := BitVec.ofNat 4 (w / 16), invert := tst w 0 })
  else if a = 0x04 then .ro (fields [(bit x.out, 2), (bit x.filtered, 1), (bit x.raw, 0)])
  else if a = 0x08 || a = 0x0C then .roW x.rise.toNat ((a - 0x08) / 4)
  else if a = 0x10 || a = 0x14 then .roW x.fall.toNat ((a - 0x10) / 4)
  else {}

/-- The store window of a group: the inactive bank and table, and the active bank. -/
def State.progReg (s : State) (g a : Nat) : Reg :=
  let x := s.grp g
  let b := 1 - x.bank
  if a < 0xC0 then .conf (x.store.get 0 (48 * b + a / 4)).toNat (fun w =>
    s.storeWrite g (fun x => { x with store := x.store.set (48 * b + a / 4) (BitVec.ofNat 24 w) }))
  else if a = 0xC0 then .conf (x.entryTab b).toNat (fun w =>
    s.storeWrite g (fun x => x.setEntryTab b (BitVec.ofNat 32 w)))
  else if 0x100 ≤ a && a < 0x1C0 then .ro (x.store.get 0 (48 * x.bank + (a - 0x100) / 4)).toNat
  else {}

def State.chvReg (s : State) (a : Nat) : Reg :=
  let x := s.chv
  if a = 0x00 then .ro (fields ((bit s.chvAlarm, 8) :: (List.range 8).map (fun g => (bit (s.grp g).started, g))))
  else if a = 0x04 then .rw x.event.toNat (fun w => { s with chv := { x with event := w1c x.event w } })
  else if a = 0x08 then .rw x.irqEn.toNat (fun w => { s with chv := { x with irqEn := BitVec.ofNat 5 w } })
  else match window a 0x100 0x40 8 with
  | some (g, o) => s.grpReg g o
  | none => match window a 0x200 0x10 16 with
  | some (l, o) =>
    let y := s.line l
    .ro (if o = 0 then fields [(bit y.de, 1), (bit y.rxOn, 0)]
      else if o = 4 then y.nRx.toNat else if o = 8 then y.nTx.toNat else y.nErr.toNat)
  | none => match window a 0x400 0x40 32 with
  | some (e, o) => s.ceReg e o
  | none => match window a 0xC00 0x20 66 with
  | some (p, o) => s.pinReg p o
  | none => match window a 0x2000 0x200 8 with
  | some (g, o) => s.progReg g o
  | none => {}

/-! ### AGE (Table 16-5) -/

/-- Islands with a ladder (R454). -/
def hasLadder (i : Nat) : Bool := i == 3 || i == 4 || (7 ≤ i && i ≤ 9) || 30 ≤ i

/-- AGE_OP_MIN: the powered age in minutes. -/
def State.opMinutes (s : State) : Nat := s.age.ageBase + s.sys.mono / sec 60

def State.ageStatus (s : State) : Nat :=
  let g := s.age
  fields [(bit s.ageAlarm, 15), (bit g.planned, 14), (bit g.ledgerOk, 13), (g.limit, 0)] +
  fields ((List.range 3).flatMap (fun r =>
    [(bit (g.rail.get {} r).frozen, 9 + r), (bit (g.rail.get {} r).ceiling, 6 + r)]))

/-- The window of an island. -/
def State.islandReg (s : State) (i a : Nat) : Reg :=
  let x := s.age.island.get {} i
  .ro (if a = 0x00 then fields [(bit x.guard, 7), (bit (tst (s.fld 0x0C01 0 0 8 0) i), 6),
      (bit (s.sys.up && hasLadder i), 5), (x.assist, 3), (x.step, 0)]
    else if a = 0x04 then fields [(x.sensReg.toNat, 24), (x.floorPs.toNat, 8), (x.curPs.toNat, 0)]
    else if a = 0x08 then fields [(x.roPpm.toNat, 16), (x.emPct.toNat, 0)]
    else if a = 0x0C then x.sram.toNat
    else if a = 0x10 then x.life.toNat
    else if a = 0x14 then fields [(x.supply.toNat, 16), (x.tj.toNat, 0)]
    else if a = 0x18 then fields [(x.v0Reg.toNat, 16), (x.bReg.toNat, 0)]
    else 0)

def State.ageReg (s : State) (a : Nat) : Reg :=
  let g := s.age
  if a = 0x00 then .ro s.ageStatus
  else if a = 0x04 then .rw g.event.toNat (fun w => { s with age := { g with event := w1c g.event w } })
  else if a = 0x08 then .rw g.irqEn.toNat (fun w => { s with age := { g with irqEn := BitVec.ofNat 9 w } })
  else if a = 0x0C then .ro g.life.toNat
  else if a = 0x10 then .ro (if s.sys.up then s.opMinutes % 2 ^ 32 else 0)
  else if a = 0x14 then .ro g.stepDefer.toNat
  else if a = 0x18 then .ro g.guardTrip.toNat
  else if a = 0x1C then .ro g.planCount.toNat
  else if a = 0x20 then .ro g.railFail.toNat
  else if a = 0x24 then .ro g.ledgerFail.toNat
  else if a = 0x28 || a = 0x2C then .roW g.ledgerSeq.toNat ((a - 0x28) / 4)
  else match window a 0x40 8 3 with
  | some (r, o) =>
    let x := g.rail.get {} r
    .ro (if o = 0 then x.readback.toNat * 2 ^ 16 + x.set
      else fields [(bit x.frozen, 10), (bit x.ceiling, 9), (bit x.alert, 8), (x.status.toNat, 0)])
  | none => match window a 0x100 0x20 46 with
  | some (i, o) => s.islandReg i o
  | none => match window a 0x800 4 20 with
  | some (l, _) => .ro (g.eye.get 0 l).toNat
  | none => {}

end Sys2Proof.Machine
end

