-- ==== Sys2Proof/Machine/AgeOps.lean ====
section
/-! DEFINITION. The planner's arithmetic, steps and rails (R454 to R466). -/

namespace Sys2Proof.Machine

/-! ### Fractions -/

def Frac.ofInt (n : Int) : Frac := { num := n, den := 1 }
def Frac.sub (a b : Frac) : Frac := a.add b.neg
def Frac.mul (a b : Frac) : Frac := .norm (a.num * b.num) (a.den * b.den)
/-- a / b; 0 where b is 0. -/
def Frac.div (a b : Frac) : Frac :=
  if b.num = 0 then {} else .norm (a.num * b.den * b.num.sign) (a.den * b.num.natAbs)
def Frac.lt (a b : Frac) : Bool := !b.le a
def Frac.max (a b : Frac) : Frac := if a.le b then b else a
def Frac.pow5 (a : Frac) : Frac := (a.mul a).mul ((a.mul a).mul a)

/-- The largest n at most `hi` with n^5 × 60 ≤ x, by halving. -/
def root5 (x : Nat) : Nat → Nat → Nat → Nat
  | 0, lo, _ => lo
  | f + 1, lo, hi =>
    let m := (lo + hi + 1) / 2
    if hi ≤ lo then lo else if m ^ 5 * 60 ≤ x then root5 x f m hi else root5 x f lo (m - 1)

/-- τ = (t / 1 h)^0.2 of an age in minutes: a fraction within 2^-16 below the root and above, the rest of its
precision free (R463, log 52). -/
def State.tau (s : State) (minutes : Nat) : Frac :=
  let n := root5 (minutes * 2 ^ 80) 64 0 (2 ^ 26)
  .norm ((n * 2 ^ 16 + (Free.word s.sys.draws).toNat % 2 ^ 16 : Nat) : Int) (2 ^ 32)

/-! ### Islands and rails -/

/-- The AVS rail of an island (Table 1-2); none on VDD_AO. -/
def railOf (i : Nat) : Option Nat :=
  if i < 3 then none else if i < 9 then some 2 else if i < 30 then some 1 else some 0

def railIslands (r : Nat) : List Nat := (List.range 46).filter (fun i => railOf i == some r)

def State.island (s : State) (i : Nat) : AgeIsland := s.age.island.get {} i
def State.setIsland (s : State) (i : Nat) (x : AgeIsland) : State :=
  { s with age := { s.age with island := s.age.island.set i x } }
def State.rail (s : State) (r : Nat) : AgeRail := s.age.rail.get {} r
def State.setRail (s : State) (r : Nat) (x : AgeRail) : State :=
  { s with age := { s.age with rail := s.age.rail.set r x } }
def State.ageEvent (s : State) (b : Nat) : State :=
  { s with age := { s.age with event := s.age.event ||| BitVec.ofNat 9 (2 ^ b) } }

/-- AGE.RAIL and AGE.POLICY (Tables 16-8 and 16-9). -/
def State.startMv (s : State) (r : Nat) : Nat := s.fld 0x0C02 r 4 2 860
def State.ceilingMv (s : State) (r : Nat) : Nat := s.fld 0x0C02 r 6 2 900
def State.floorMv (s : State) (r : Nat) : Nat := s.fld 0x0C02 r 8 2 720
def State.boostMask (s : State) : Nat := s.fld 0x0C01 0 0 8 0
def State.boostVmax (s : State) : Nat := s.fld 0x0C01 0 8 2 850
def State.guardPs (s : State) : Nat := s.fld 0x0C01 0 0x0A 1 15
def State.targetPs (s : State) : Nat := s.fld 0x0C01 0 0x0B 1 50
def State.arrayGuard (s : State) : Nat := s.fld 0x0C01 0 0x0C 1 40
def State.tjAlarm (s : State) : Nat := s.fld 0x0C01 0 0x0D 1 105
def State.lifeAlarm (s : State) : Nat := s.fld 0x0C01 0 0x0E 2 24
def State.eyeH (s : State) : Nat := s.fld 0x0C01 0 0x10 1 12
def State.eyeV (s : State) : Nat := s.fld 0x0C01 0 0x11 1 40
def State.emAlarm (s : State) : Nat := s.fld 0x0C01 0 0x12 1 80

/-- The floor clock in MHz (Table 16-2). -/
def floorMhz (i : Nat) : Nat :=
  if 30 ≤ i then 1000 else if i = 7 || i = 9 then 800 else if i = 3 then 600 else 500

/-- A step's percent of the floor, in tenths. -/
def stepTenths (k : Nat) : Nat := [1000, 1025, 1050, 1075, 1100, 1125, 1150, 1200].getD k 1000

/-- P_0 − P_k in ps. -/
def periodGain (i k : Nat) : Frac :=
  .norm ((1000000 * (stepTenths k - 1000) : Nat) : Int) (floorMhz i * stepTenths k)

/-- The voltage an island runs at: its rail's setpoint, on VDD_AO its supply. -/
def State.railMv (s : State) (i : Nat) : Nat :=
  match railOf i with
  | some r => (s.rail r).set
  | none => (s.island i).supply.toNat

/-- need_0 (R462). -/
def State.need0 (s : State) (i : Nat) : Frac :=
  let x := s.island i
  (Frac.ofInt (s.railMv i : Nat)).sub ((Frac.ofInt (x.slack - (s.targetPs : Nat))).div x.sens)

/-- need_k (R462). -/
def State.need (s : State) (i k : Nat) : Frac := (s.need0 i).add ((periodGain i k).div (s.island i).sens)

/-- The step R464 chooses: with its boost bit the highest whose need both limits allow, else 0. -/
def State.stepFor (s : State) (r i : Nat) : Nat :=
  if hasLadder i && tst s.boostMask i then
    let lim := Frac.ofInt (min s.boostVmax (s.ceilingMv r) : Nat)
    ((List.range 8).reverse.find? (fun k => (s.need i k).le lim)).getD 0
  else 0

/-- A need rounded up to a multiple of 5 mV. -/
def Frac.up5 (a : Frac) : Nat := (-((-a.num) / ((a.den * 5 : Nat) : Int))).toNat * 5

/-! ### Steps (R22, R459) -/

/-- A step change of an island: one of a cluster that recovers waits and is counted. -/
def State.setStep (s : State) (i n : Nat) : State :=
  if (s.island i).step = n then s
  else if 30 ≤ i && (s.cl (i - 30)).st.recovers then
    let s := s.setCl (i - 30) { s.cl (i - 30) with stepDue := some n }
    { s with age := { s.age with stepDefer := satInc s.age.stepDefer } }
  else s.setIsland i { s.island i with step := n }

/-! ### Rail changes (R457, R458) -/

/-- The next increment of at most 10 mV towards the target. -/
def AgeRail.next (x : AgeRail) : AgeRail :=
  match x.target with
  | none => x
  | some t =>
    let d : Int := (t : Int) - (x.set : Int)
    let d := if 10 < d then 10 else if d < -10 then -10 else d
    if d = 0 then { x with target := none }
    else { x with set := ((x.set : Int) + d).toNat }

/-- A rail moved towards a voltage. -/
def State.moveRail (s : State) (r v : Nat) : State :=
  let x := s.rail r
  s.setRail r ({ x with target := some v, from_ := x.set, incrAt := s.sys.mono }).next

/-- settle_us of a rail. -/
def State.settleTime (s : State) (r : Nat) : Nat := us (s.fld 0x0C02 r 0xA 2 100)

/-- A PMBus rail (Table 16-9). -/
def State.pmbus (s : State) (r : Nat) : Bool := s.fld 0x0C02 r 0 1 0 == 1

/-- The Vout write that sets a rail: the bus, the rail select or address, the PAGE written first, the voltage in mV
(R457). -/
structure VoutWrite where
  pmbus   : Bool
  address : Nat
  page    : Option Nat
  mv      : Nat
deriving DecidableEq, Repr

/-- The Vout write of a rail's present setpoint. -/
def State.voutWrite (s : State) (r : Nat) : VoutWrite :=
  let page := s.fld 0x0C02 r 2 1 0
  { pmbus := s.pmbus r, address := s.fld 0x0C02 r 1 1 r,
    page := if s.pmbus r && page != 0xFF then some page else none, mv := (s.rail r).set }

/-- A rail fails: frozen, its islands held at step 0. -/
def State.freezeRail (s : State) (r : Nat) (status : Byte) : State :=
  let x := s.rail r
  let s := s.setRail r { x with frozen := true, target := none, status := status }
  let s := (railIslands r).foldl (fun s i => (s.setIsland i { s.island i with stepNext := none }).setStep i 0) s
  ({ s with age := { s.age with railFail := satInc s.age.railFail } } : State).ageEvent 2

/-- Step increases of a rail whose change is complete. -/
def State.raiseSteps (s : State) (r : Nat) : State :=
  (railIslands r).foldl (fun s i =>
    match (s.island i).stepNext with
    | some n => (s.setIsland i { s.island i with stepNext := none }).setStep i n
    | none => s) s

/-! ### The ledger record (Table 16-3) -/

/-- The ledger region of the directory. -/
def State.ledger? (s : State) : Option Region := s.region? 4 0

def State.ledgerRecord (s : State) (stamp : DWord) : List Byte :=
  let g := s.age
  let isl (i : Nat) : List Byte :=
    let x := s.island i
    [BitVec.ofNat 8 (x.step + 8 * x.assist), x.floorPs, x.sensReg, x.tjHigh] ++ leBytes 2 x.bReg.toNat ++
      leBytes 2 x.life.toNat
  let b := leBytes 4 0x5247444C ++ leBytes 2 1 ++ leBytes 2 512 ++ leBytes 8 g.nextSeq ++ leBytes 8 stamp.toNat ++
    leBytes 4 s.opMinutes ++ leBytes 4 (bit (1440 ≤ s.opMinutes)) ++
    (List.range 3).flatMap (fun r => leBytes 2 (s.rail r).set) ++ leBytes 2 g.life.toNat ++ leBytes 1 g.limit ++
    leBytes 7 0 ++ (List.range 46).flatMap isl ++ (List.range 46).flatMap (fun i => leBytes 2 (s.island i).v0Reg.toNat)
  b ++ leBytes 4 (crc32c b).toNat

/-- Once every rail stands at its setpoint, the cycle's record is written. -/
def State.cycleDone (s : State) : State :=
  match s.age.cycle with
  | some t =>
    if (List.range 3).any (fun r => (s.rail r).target.isSome) then s
    else { s with age := { s.age with write := some (s.ledgerRecord t), cycle := none } }
  | none => s

end Sys2Proof.Machine
end

