-- ==== Sys2Proof/Machine/Age.lean ====
section
/-! DEFINITION. The planning cycle, rail increments, the fast guard, PMB_ALERT_N and the ledger (R456 to
R468). -/

namespace Sys2Proof.Machine

/-! ### Latching and models -/

/-- A number held within a byte. -/
def sat8 (x : Int) : Byte := BitVec.ofNat 8 (min 255 x.toNat)

/-- The lowest assist setting that leaves the guard; none when no setting does (R456). -/
def State.assistFor (s : State) (sram : Word) : Option Nat :=
  (List.range 4).find? (fun a => s.arrayGuard ≤ bits sram.toNat (8 * a + 7) (8 * a))

/-- A sentinel's values latched, assist chosen, the events of R467. -/
def State.latch (s : State) (x : Sentinel) : State :=
  let i := x.island.val
  let y := s.island i
  let (hot, s) := s.whole (x.tjHigh.toInt + 160) 4
  let s := s.setIsland i { y with
    curPs := sat8 x.cur, floorPs := sat8 x.floor, slack := x.floor, roPpm := x.ppm, emPct := BitVec.ofNat 8 x.em,
    sram := x.sram, tj := x.tj, supply := x.supply, tjHigh := BitVec.ofNat 8 hot.toNat,
    guard := false, assist := (s.assistFor x.sram).getD 3 }
  let s := if (s.assistFor x.sram).isNone then s.ageEvent 5 else s
  let s := if ((4 * s.tjAlarm : Nat) : Int) < x.tj.toInt then s.ageEvent 4 else s
  if s.emAlarm ≤ x.em.val then s.ageEvent 7 else s

/-- An eye scan's values (R467). -/
def State.latchEye (s : State) (l : Nat) (h : Byte) (v : BitVec 16) : State :=
  let s : State := { s with age := { s.age with eye := s.age.eye.set l (BitVec.ofNat 32 (h.toNat + v.toNat * 2 ^ 16)) } }
  if h.toNat < s.eyeH || v.toNat < s.eyeV then s.ageEvent 6 else s

/-- The wear model of an island (R463). -/
def State.wear (s : State) (i : Nat) : State :=
  let x := s.island i
  let n := s.need0 i
  if s.opMinutes < 1440 then s.setIsland i { x with v0 := x.v0.max n, b := {} }
  else
    let tau := s.tau s.opMinutes
    let pred := x.v0.add (x.b.mul tau)
    if pred.lt n then
      s.draw.setIsland i { x with b := x.b.add ((n.sub pred).div (tau.mul (Frac.ofInt 8))) }
    else s.draw

/-- Months of life, 0xFFFF when the figure is larger than 65,534. -/
def lifeFigure (a : Frac) : Nat :=
  let n := (a.num / (a.den : Int)).toNat
  if 65534 < n then 0xFFFF else n

/-- Voltage life in months (R466). -/
def State.voltLife (s : State) (i : Nat) : Nat :=
  let x := s.island i
  let t : Frac := .norm (s.opMinutes : Nat) 60
  match railOf i with
  | none => 0xFFFF
  | some r =>
    if x.b.num = 0 then 0xFFFF
    else
      let e := (((Frac.ofInt (s.ceilingMv r : Nat)).sub x.v0).div x.b).pow5
      if e.le t then 0 else lifeFigure ((e.sub t).div (Frac.ofInt 730))

/-- EM life in months (R466). -/
def State.emLife (s : State) (i : Nat) : Nat :=
  let e := (s.island i).emPct.toNat
  let t : Frac := .norm (s.opMinutes : Nat) 60
  if e = 0 then 0xFFFF
  else if 100 ≤ e then 0
  else lifeFigure (t.mul (.norm ((100 - e : Nat) : Int) (e * 730)))

/-- Life of an island, and the model registers. -/
def State.lifeOf (s : State) (i : Nat) : State :=
  let life := if s.opMinutes < 1440 then 0xFFFF else min (s.voltLife i) (s.emLife i)
  let x := s.island i
  let (v, s) := s.whole x.v0.num x.v0.den
  let (b, s) := s.whole (x.b.num * 100) x.b.den
  s.setIsland i { x with life := BitVec.ofNat 16 life, v0Reg := BitVec.ofNat 16 v.toNat, bReg := BitVec.ofNat 16 b.toNat }

/-- AGE_LIFE and limit_island: the smallest figure; among equals the island is free (log 40). -/
def State.deviceLife (s : State) : State :=
  let l := (List.range 46).map (fun i => (s.island i).life.toNat)
  let m := l.foldl min 0xFFFF
  let at_ := (List.range 46).filter (fun i => (s.island i).life.toNat == m)
  let i := at_.getD ((Free.word s.sys.draws).toNat % at_.length) 0
  let s := s.draw
  let s : State := { s with age := { s.age with life := BitVec.ofNat 16 m, limit := i } }
  if m < s.lifeAlarm then s.ageEvent 3 else s

/-! ### Choosing and applying (R459, R464, R465) -/

/-- A rail's cycle: decreases at once, the rail towards its setpoint, increases after it. -/
def State.planRail (s : State) (r : Nat) : State :=
  let x := s.rail r
  let is_ := railIslands r
  let ceil := s.ceilingMv r
  let full := is_.any (fun i => (Frac.ofInt (ceil : Nat)).lt (s.need0 i))
  if x.frozen then
    let s := s.setRail r { x with ceiling := full }
    is_.foldl (fun s i => s.setStep i 0) (if full then s.ageEvent 1 else s)
  else
    let steps := is_.map (fun i => (i, if full then 0 else s.stepFor r i))
    let most : Frac := steps.foldl (fun (m : Frac) p => m.max (s.need p.1 p.2)) {}
    let v := if full then ceil else max (s.floorMv r) (min ceil most.up5)
    let v := if v < x.set then max v (x.set - 10) else v
    let s := s.setRail r { x with ceiling := full }
    let s := if full then s.ageEvent 1 else s
    let s := steps.foldl (fun s p =>
      if p.2 < (s.island p.1).step then s.setStep p.1 p.2
      else s.setIsland p.1 { s.island p.1 with stepNext := if (s.island p.1).step < p.2 then some p.2 else none }) s
    if v = x.set then s.raiseSteps r else s.moveRail r v

/-- A planning cycle is due: 60 s after READY, then 600 s of device time after the start of the last one, within 1 s
(R461). -/
def State.planDue (s : State) : Bool :=
  match s.age.began with
  | none => decide (s.sys.readyAt + sec 60 ≤ s.sys.mono)
  | some t => decide (t.toNat + sec 599 ≤ s.time.t.toNat)

/-- PLANNING_CYCLE: the sentinel values of the interval and the eye scans since. -/
def execPlanningCycle (l : List Sentinel) (eyes : List (Fin 20 × Byte × BitVec 16)) (s : State) : Out :=
  if s.running && s.age.cycle.isNone && s.age.write.isNone && s.planDue then
    let s := l.foldl State.latch s
    let s := eyes.foldl (fun s x => s.latchEye x.1 x.2.1 x.2.2) s
    let s := (List.range 46).foldl State.wear s
    let s := ((List.range 46).foldl State.lifeOf s).deviceLife
    let s := (List.range 3).foldl State.planRail s
    ({ s with age := { s.age with cycle := some s.time.t, began := some s.time.t } } : State).cycleDone.done
  else .next s

/-- |a − b| ≤ 15 mV. -/
def near15 (a b : Nat) : Bool := decide (a ≤ b + 15) && decide (b ≤ a + 15)

/-- sens after a whole rail change of 5 mV or more (R462; DEDUCED, log 162). -/
def State.learnSens (s : State) (i : Nat) (slack incr : Int) : State :=
  let x := s.island i
  if incr.natAbs < 5 then s.setIsland i { x with slack := slack }
  else
    let ratio : Frac := (Frac.ofInt (slack - x.slack)).div (Frac.ofInt incr)
    let m := (x.sens.add ratio).div (Frac.ofInt 2)
    let m : Frac := if m.le { num := 1, den := 2 } then { num := 1, den := 2 }
      else if (Frac.ofInt 8).le m then Frac.ofInt 8 else m
    let (v, s) := s.whole (m.num * 16) m.den
    s.setIsland i { x with slack := slack, sens := m, sensReg := BitVec.ofNat 8 v.toNat }

/-- RAIL_SETTLE: settle_us after an increment the readback and the supplies are checked; then the next
increment, or the step increases. A PMBus regulator not in LINEAR16 fails. -/
def execRailSettle (r : Fin 3) (x : RailCheck) (s : State) : Out :=
  let y := s.rail r
  if !(s.running && y.target.isSome && decide (y.incrAt + s.settleTime r ≤ s.sys.mono)) then .next s
  else
    let mine := x.islands.filter (fun p => railOf p.1 == some r.val)
    let ok := x.ack && (x.linear || !s.pmbus r) && near15 x.readback.toNat y.set && mine.all (fun p => near15 p.2.1.toNat y.set)
    let s := s.setRail r { y with readback := if x.ack then x.readback else y.readback }
    let s := mine.foldl (fun s p => s.setIsland p.1 { s.island p.1 with supply := p.2.1 }) s
    if !ok then (s.freezeRail r x.status).cycleDone.done
    else
      let s := s.setRail r { (s.rail r).next with incrAt := s.sys.mono }
      if (s.rail r).target.isNone then
        let s := mine.foldl (fun s p => s.learnSens p.1 p.2.2 ((y.set : Int) - y.from_)) s
        (s.raiseSteps r).cycleDone.done
      else s.done

/-! ### The fast guard (R460) -/

/-- The rail of an island raised by one increment; at the ceiling or frozen nothing changes but the event. -/
def State.guardRail (s : State) (i : Nat) (quiet : Bool) : State :=
  match railOf i with
  | none => s
  | some r =>
    let x := s.rail r
    if x.frozen || s.ceilingMv r ≤ x.set then (if quiet then s else s.ageEvent 1)
    else
      let v := min (x.set + 10) (s.ceilingMv r)
      let t := match x.target with
        | some t => max t v
        | none => v
      s.setRail r { x with set := v, target := some t, incrAt := s.sys.mono,
                           from_ := if x.target.isSome then x.from_ else x.set }

/-- FAST_GUARD_TRIP: a canary sample of an island; below canary_guard_ps the island acts at once. -/
def execFastGuardTrip (i : Fin 46) (slack : Int) (s : State) : Out :=
  if !s.running || decide ((s.guardPs : Int) ≤ slack) then .next s
  else
    let s : State := { s with age := { s.age with guardTrip := satInc s.age.guardTrip } }
    let s := s.ageEvent 0
    let s := s.setIsland i { s.island i with guard := true }
    let s := match railOf i with
      | some r => (railIslands r).foldl (fun (s : State) j => s.setIsland j { s.island j with stepNext := none }) s
      | none => s
    let recovers := 30 ≤ i.val && (s.cl (i.val - 30)).st.recovers
    let above := decide (0 < (s.island i).step)
    let s := if recovers || !above then s.guardRail i above else s
    (if above then s.setStep i 0 else s).done

/-- STEP_DEFER_APPLY: once the replay has completed (R22). -/
def execStepDeferApply (k : Fin 16) (s : State) : Out :=
  let c := s.cl k
  match s.running && c.st.steady, c.stepDue with
  | true, some n =>
    let s := s.setCl k { c with stepDue := none }
    (s.setIsland (30 + k) { s.island (30 + k) with step := n }).done
  | _, _ => .next s

/-- PMB_ALERT: STATUS_WORD of each PMBus rail: whether it shows a fault, and its low byte (R458). -/
def execPmbAlert (l : List (Fin 3 × Bool × Byte)) (s : State) : Out :=
  if !s.running then .next s
  else
    let s := l.foldl (fun s x =>
      let r := x.1.val
      if !s.pmbus r then s
      else
        let s := s.setRail r { s.rail r with alert := true, status := x.2.2 }
        if x.2.1 && !(s.rail r).frozen then s.freezeRail r x.2.2 else s) s
    s.cycleDone.done

/-- LEDGER_WRITE_COMPLETE (R468). -/
def execLedgerWriteComplete (ok : Bool) (s : State) : Out :=
  match s.running, s.age.write with
  | true, some b =>
    let g := s.age
    let s : State := { s with age := { g with
      write := none, nextSeq := g.nextSeq + 1, planned := true, planCount := satInc g.planCount } }
    match ok, s.ledger? with
    | true, some r =>
      let a := r.off + g.nextSeq % 64 * 4096
      let s := (s.nvmErase a 4096).nvmWrite a b
      State.done { s with age := { s.age with ledgerSeq := BitVec.ofNat 64 g.nextSeq } }
    | _, _ =>
      (({ s with age := { s.age with ledgerFail := satInc s.age.ledgerFail } } : State).ageEvent 8).done
  | _, _ => .next s

end Sys2Proof.Machine
end

