-- ==== Sys2Proof/Machine/Alu.lean ====
section
/-! DEFINITION. The ALU, the immediates, compares and predicate logic (R320 to R322). -/

namespace Sys2Proof.Machine

/-! ### Functions of Table 11-3, on 32-bit numbers; a register write reduces modulo 2^32 -/

def sll (a b : Nat) : Nat := a * 2 ^ (b % 32)
def srl (a b : Nat) : Nat := a / 2 ^ (b % 32)
def sra (a b : Nat) : Nat := ofSigned 32 (toSigned 32 a / 2 ^ (b % 32))
def ror (a b : Nat) : Nat := a / 2 ^ (b % 32) + a * 2 ^ (32 - b % 32)
def mulh (a b : Nat) : Nat := ofSigned 32 (toSigned 32 a * toSigned 32 b / 2 ^ 32)

/-- Division by zero gives all ones; −2^31 / −1 gives −2^31 (R321). -/
def divU (a b : Nat) : Nat := if b = 0 then 2 ^ 32 - 1 else a / b
def remU (a b : Nat) : Nat := if b = 0 then a else a % b
def divS (a b : Nat) : Nat :=
  if b = 0 then 2 ^ 32 - 1 else ofSigned 32 ((toSigned 32 a).tdiv (toSigned 32 b))
def remS (a b : Nat) : Nat :=
  if b = 0 then a else ofSigned 32 ((toSigned 32 a).tmod (toSigned 32 b))

/-- Leading and trailing zeros, 32 for 0; set bits; the bytes reversed. -/
def clz (a : Nat) : Nat := ((List.range 32).takeWhile (fun i => !tst a (31 - i))).length
def ctz (a : Nat) : Nat := ((List.range 32).takeWhile (fun i => !tst a i)).length
def popc (a : Nat) : Nat := ((List.range 32).filter (tst a)).length
def bswap (a : Nat) : Nat := beNat (leBytes 4 a)

/-- Function codes of Table 11-3; every other code is reserved. -/
def aluFns : List Nat :=
  [0, 1, 2, 3, 4, 5, 8, 9, 0xA, 0xB, 0x10, 0x11, 0x12, 0x13, 0x18, 0x19, 0x1A, 0x1C, 0x1D, 0x1E,
   0x1F, 0x20, 0x21, 0x22, 0x23]

/-- An ALU row: codes 0x20 to 0x23 require rs2 = 0 (R321). -/
def aluRow (fn : Nat) : Row where
  major := 0
  is w := fFn w == fn
  rsv w := !aluFns.contains (fFn w)
  bad w := 0x20 ≤ fFn w && fRs2 w != 0

/-- rd := f(rs1, rs2). -/
def State.alu (s : State) (i : Issue) (fn : Nat) (f : Nat → Nat → Nat) : Out :=
  s.instr i (aluRow fn) (fun s e w =>
    let c := s.core e
    s.putR e (fRd w) (f (c.r (fRs1 w)) (c.r (fRs2 w))))

/-- ADD (Table 11-3). -/
def execAdd (i : Issue) (s : State) : Out := s.alu i 0x00 (fun a b => a + b)

/-- SUB (Table 11-3). -/
def execSub (i : Issue) (s : State) : Out := s.alu i 0x01 (fun a b => a + 2 ^ 32 - b)

/-- AND (Table 11-3). -/
def execAnd (i : Issue) (s : State) : Out := s.alu i 0x02 (fun a b => a &&& b)

/-- OR (Table 11-3). -/
def execOr (i : Issue) (s : State) : Out := s.alu i 0x03 (fun a b => a ||| b)

/-- XOR (Table 11-3). -/
def execXor (i : Issue) (s : State) : Out := s.alu i 0x04 (fun a b => a ^^^ b)

/-- ANDN (Table 11-3). -/
def execAndn (i : Issue) (s : State) : Out := s.alu i 0x05 (fun a b => a &&& (2 ^ 32 - 1 - b))

/-- SLL (Table 11-3). -/
def execSll (i : Issue) (s : State) : Out := s.alu i 0x08 (fun a b => sll a b)

/-- SRL (Table 11-3). -/
def execSrl (i : Issue) (s : State) : Out := s.alu i 0x09 (fun a b => srl a b)

/-- SRA (Table 11-3). -/
def execSra (i : Issue) (s : State) : Out := s.alu i 0x0A (fun a b => sra a b)

/-- ROR (Table 11-3). -/
def execRor (i : Issue) (s : State) : Out := s.alu i 0x0B (fun a b => ror a b)

/-- MIN (Table 11-3). -/
def execMin (i : Issue) (s : State) : Out := s.alu i 0x10 (fun a b => if toSigned 32 a < toSigned 32 b then a else b)

/-- MAX (Table 11-3). -/
def execMax (i : Issue) (s : State) : Out := s.alu i 0x11 (fun a b => if toSigned 32 a < toSigned 32 b then b else a)

/-- MINU (Table 11-3). -/
def execMinu (i : Issue) (s : State) : Out := s.alu i 0x12 (fun a b => min a b)

/-- MAXU (Table 11-3). -/
def execMaxu (i : Issue) (s : State) : Out := s.alu i 0x13 (fun a b => max a b)

/-- MUL (Table 11-3). -/
def execMul (i : Issue) (s : State) : Out := s.alu i 0x18 (fun a b => a * b)

/-- MULH (Table 11-3). -/
def execMulh (i : Issue) (s : State) : Out := s.alu i 0x19 (fun a b => mulh a b)

/-- MULHU (Table 11-3). -/
def execMulhu (i : Issue) (s : State) : Out := s.alu i 0x1A (fun a b => a * b / 2 ^ 32)

/-- DIV (Table 11-3). -/
def execDiv (i : Issue) (s : State) : Out := s.alu i 0x1C (fun a b => divS a b)

/-- DIVU (Table 11-3). -/
def execDivu (i : Issue) (s : State) : Out := s.alu i 0x1D (fun a b => divU a b)

/-- REM (Table 11-3). -/
def execRem (i : Issue) (s : State) : Out := s.alu i 0x1E (fun a b => remS a b)

/-- REMU (Table 11-3). -/
def execRemu (i : Issue) (s : State) : Out := s.alu i 0x1F (fun a b => remU a b)

/-- CLZ (Table 11-3). -/
def execClz (i : Issue) (s : State) : Out := s.alu i 0x20 (fun a _ => clz a)

/-- CTZ (Table 11-3). -/
def execCtz (i : Issue) (s : State) : Out := s.alu i 0x21 (fun a _ => ctz a)

/-- POPC (Table 11-3). -/
def execPopc (i : Issue) (s : State) : Out := s.alu i 0x22 (fun a _ => popc a)

/-- BSWAP (Table 11-3). -/
def execBswap (i : Issue) (s : State) : Out := s.alu i 0x23 (fun a _ => bswap a)

/-! ### Immediates -/

/-- rd := f(rs1, imm12), format I. -/
def State.immOp (s : State) (i : Issue) (major : Nat) (bad : Nat → Bool) (f : Nat → Nat → Nat) : Out :=
  s.instr i { major := major, bad := bad } (fun s e w =>
    s.putR e (fRd w) (f ((s.core e).r (fRs1 w)) (fImm12 w)))

/-- ADDI. -/
def execAddi (i : Issue) (s : State) : Out := s.immOp i 0x01 (fun _ => false) (fun a m => a + sext 12 m)

/-- ANDI. -/
def execAndi (i : Issue) (s : State) : Out := s.immOp i 0x02 (fun _ => false) (fun a m => a &&& m)

/-- ORI. -/
def execOri (i : Issue) (s : State) : Out := s.immOp i 0x03 (fun _ => false) (fun a m => a ||| m)

/-- XORI. -/
def execXori (i : Issue) (s : State) : Out := s.immOp i 0x04 (fun _ => false) (fun a m => a ^^^ m)

/-- The shift kinds of SHI. -/
def shiftBy (kind a n : Nat) : Nat :=
  if kind = 0 then sll a n else if kind = 1 then srl a n else if kind = 2 then sra a n else ror a n

/-- SHI: kind in imm12 bits 11:10, bits 9:5 zero, amount in bits 4:0. -/
def execShi (i : Issue) (s : State) : Out :=
  s.immOp i 0x05 (fun w => bits w 9 5 != 0) (fun a m => shiftBy (bits m 11 10) a (bits m 4 0))

/-- LIL. -/
def execLil (i : Issue) (s : State) : Out :=
  s.instr i { major := 0x06, bad := fun w => tst w 16 } (fun s e w => s.putR e (fRd w) (bits w 15 0))

/-- LIH: bits 15:0 kept. -/
def execLih (i : Issue) (s : State) : Out :=
  s.instr i { major := 0x07, bad := fun w => tst w 16 } (fun s e w =>
    s.putR e (fRd w) (bits w 15 0 * 2 ^ 16 + (s.core e).r (fRd w) % 2 ^ 16))

/-! ### Compares and predicates -/

/-- The compare codes of R322. -/
def cmpCode (cc a b : Nat) : Bool :=
  match cc with
  | 0 => a == b
  | 1 => a != b
  | 2 => toSigned 32 a < toSigned 32 b
  | 3 => toSigned 32 b ≤ toSigned 32 a
  | 4 => a < b
  | 5 => b ≤ a
  | 6 => a &&& b != 0
  | _ => a &&& b == 0

/-- A predicate written, nothing else. -/
def State.putP (s : State) (e pd : Nat) (v : Bool) : Eff := .go (s.setCore e ((s.core e).setP pd v))

/-- CMP: pd := cc(rs1, rs2), format C. -/
def execCmp (i : Issue) (s : State) : Out :=
  s.instr i { major := 0x08, bad := fun w => bits w 5 0 != 0 } (fun s e w =>
    let c := s.core e
    s.putP e (bits w 21 19) (cmpCode (bits w 18 16) (c.r (bits w 15 11)) (c.r (bits w 10 6))))

/-- CMPI: pd := cc(rs1, sext(imm11)). -/
def execCmpi (i : Issue) (s : State) : Out :=
  s.instr i { major := 0x09 } (fun s e w =>
    s.putP e (bits w 21 19) (cmpCode (bits w 18 16) ((s.core e).r (bits w 15 11)) (sext 11 (bits w 10 0))))

/-- PLOG: 0 AND, 1 OR, 2 XOR, 3 pa AND NOT pb. -/
def execPlog (i : Issue) (s : State) : Out :=
  s.instr i { major := 0x0A, bad := fun w => bits w 10 0 != 0 } (fun s e w =>
    let a := (s.core e).p (bits w 16 14)
    let b := (s.core e).p (bits w 13 11)
    s.putP e (bits w 21 19) (match bits w 18 17 with
      | 0 => a && b
      | 1 => a || b
      | 2 => a != b
      | _ => a && !b))

end Sys2Proof.Machine
end

