-- ==== Sys2Proof/Machine/Dump.lean ====
section
/-! DEFINITION. The fatal dump: its bytes and its way into the window and the NVM (R396 to R402). -/

namespace Sys2Proof.Machine

/-- External DRAM is unavailable: its training failed, or its island has failed. -/
def State.noDram (s : State) : Bool := s.sys.dramFail || s.rmy.dramFailAt.isSome

/-! ### Sections (Table 13-10) -/

/-- A list made `n` bytes long. -/
def cutTo (n : Nat) (l : List Byte) : List Byte := (l ++ List.replicate (n - l.length) 0).take n

/-- CSR numbers in order (Table 11-10). -/
def csrNumbers : List Nat := (List.range 0x052).filter (fun n => (csrRO ++ csrW1C ++ csrRW).contains n)

/-- Engine state: w0 to w31, pc, the CSRs, ENG_STATUS and ENG_RETIRED. -/
def State.dumpEngine (s : State) (e : Nat) : List Byte :=
  let l := s.lead e
  cutTo 512 ((List.range 32).flatMap (fun k => leBytes 4 ((s.core l).wVal k)) ++ leBytes 4 (s.core l).pc.toNat ++
    csrNumbers.flatMap (fun n => leBytes 4 (s.csrVal l n)) ++ leBytes 4 (s.engStatus e) ++
    leBytes 8 (s.core l).ret.toNat)

/-- A journal entry: its header, then its payload (Table 13-2). -/
def JEntry.pack (j : JEntry) : List Byte :=
  leBytes 6 j.count ++ leBytes 1 j.kind ++ leBytes 1 (j.eng % 2 + 16 * j.tag) ++ leBytes 8 j.inline ++ j.payload

/-- Journal head of a cluster, with the first 192 B of the running epoch's journal. -/
def State.dumpJournal (s : State) (k : Nat) : List Byte :=
  let c := s.cl k
  cutTo 256 (leBytes 4 (s.cstat k) ++ leBytes 4 c.commits.toNat ++ leBytes 4 c.jbytes ++ leBytes 4 c.ulines ++
    leBytes 4 c.epoch.toNat ++ leBytes 8 c.commitT.toNat ++ (c.jCur.flatMap JEntry.pack).take 192)

/-- The last ledger record. -/
def State.dumpLedger (s : State) : List Byte :=
  match s.ledger? with
  | some r => s.nvmBytes (r.off + s.age.ledgerSeq.toNat % 64 * 4096) 512
  | none => List.replicate 512 0

/-- The last 4,096 SOE records, oldest first. -/
def State.dumpSoe (s : State) : List Byte :=
  if s.noDram || s.soeSize = 0 then []
  else (List.range 4096).flatMap (fun i =>
    s.soeBytes ((s.pnt.soeWr.toNat + s.soeSize * 4096 - 4096 + i) % s.soeSize))

/-- The last fault log entry. -/
def State.lastFault (s : State) : List Byte :=
  match s.rmy.log.find? ((s.rmy.logWr.toNat + 2 ^ 32 - 1) % 64) with
  | some e => e.bytes
  | none => []

/-- The signature values of the engines. -/
def State.sigs (s : State) : List Nat := (List.range 32).map (fun e => (s.eng e).sig.toNat)

/-- Queue summaries: SW_QUSE, SW_CRQ_USE, point queue write and read counts, mailbox counts and lock owners. -/
def State.queueSums (s : State) : List Nat :=
  (List.range 68).flatMap (fun n => (List.range 8).map (s.qUse n)) ++ (List.range 16).map s.crqUse ++
  (List.range 32).map (fun e => (s.pnt.sqWr.get 0 e).toNat) ++
  (List.range 4).flatMap (fun q => [(s.pnt.hqWr.get 0 q).toNat, (s.pnt.hqRd.get 0 q).toNat]) ++
  (List.range 64).map (fun n => (s.mboxReg n 0).val)

/-- Error logs: the fault log, the TT log, and the counters of the DEV, REC and MBX blocks. -/
def State.errorLogs (s : State) : List Nat :=
  (List.range 256).map (fun i => (s.recReg (0x1000 + 4 * i)).val) ++
  s.tt.log.flatMap (fun p => p.1 :: p.2.bytes.map (·.toNat)) ++
  [s.sage.vote.toNat, s.sage.accViol.toNat, s.sage.reqRefused.toNat, s.host.wrviol.toNat, s.host.perstCount.toNat,
   s.sys.rstCount.toNat] ++
  (List.range 10).map (fun i => (s.recReg (0xC + 4 * i)).val) ++
  (List.range 16).flatMap (fun k => (List.range 6).map (fun i => (s.recReg (0x100 + 0x20 * k + 4 * i)).val)) ++
  [s.mbx.scrubLate.toNat] ++ (List.range 64).map (fun i => (s.mbxReg (0x200 + 4 * i)).val) ++
  (List.range 76).map (fun i => (s.mbxReg (0x400 + 4 * i)).val)

/-- The context table: the applied ranges of contexts. -/
def State.contextTable (s : State) : List Nat :=
  (s.recsOf 0x0802).flatMap (fun r => r.inst :: r.body.map (·.toNat))

/-- The sections by type; in sections 2, 4, 5 and 8 the places of the values are not stated (log 60). -/
def State.dumpSections (s : State) : List (Nat × List Byte) :=
  [(1, (List.range 32).flatMap s.dumpEngine),
   (2, cutTo 0x100000 (Free.dumpSection 2 s.contextTable)),
   (3, (List.range 16).flatMap s.dumpJournal),
   (4, cutTo 8192 (Free.dumpSection 4 s.queueSums)),
   (5, cutTo 8192 (Free.dumpSection 5 s.errorLogs)),
   (6, s.dumpLedger),
   (7, s.dumpSoe),
   (8, cutTo 64 (Free.dumpSection 8 (s.lastFault.map (·.toNat) ++ s.sigs)))]

/-- The expanded block: the section directory, then the sections. -/
def dumpRaw (l : List (Nat × List Byte)) : List Byte :=
  let dir := l.foldl (fun (acc : List Byte × Nat) p =>
    (acc.1 ++ leBytes 2 p.1 ++ leBytes 2 0 ++ leBytes 4 acc.2 ++ leBytes 4 p.2.length ++ leBytes 4 0,
     acc.2 + p.2.length)) ([], 16 * l.length)
  dir.1 ++ l.flatMap Prod.snd

/-! ### Header and trailer (Tables 13-8 and 13-9) -/

def State.dumpHeader (s : State) (f : FatalRec) (comp raw sections flags : Nat) : List Byte :=
  leBytes 4 0x504D5544 ++ leBytes 2 1 ++ leBytes 2 f.reason ++ leBytes 8 s.otp.serial.toNat ++ leBytes 4 devIdA2 ++
  leBytes 4 f.rst.toNat ++ leBytes 8 f.stamp.toNat ++ leBytes 8 s.sys.cfgSeq.toNat ++ leBytes 4 comp ++
  leBytes 4 raw ++ leBytes 2 sections ++ leBytes 1 f.island ++ leBytes 1 s.sys.lc.code ++ leBytes 4 flags ++
  List.replicate 72 0

/-- The trailer over the header and the block; signed unless the PUF has failed (R401). -/
def State.dumpTrailer (s : State) (body : List Byte) : List Byte :=
  let signed := !s.sage.pufFail
  let t := leBytes 4 0x504D4443 ++ leBytes 4 0 ++ leBytes 4 (crc32c body).toNat ++ leBytes 4 0 ++
    leBytes 8 (if signed then Free.deviceKeyId.toNat else 0) ++ leBytes 8 0
  let d := Free.sm3 (body ++ t)
  t ++ Free.digestBytes d ++ (if signed then (List.range 64).map (Free.detSign d) else List.replicate 64 0)

/-- A dump as the bytes of the dump region. -/
def dumpImage (body trailer : List Byte) : Mem :=
  Mem.writeBytes 0 (Mem.writeBytes 0 [] 0 body) 0x3FFF80 trailer

/-- A dump shown in the window, in a state. -/
def State.showDump (s : State) (st : BitVec 2) (reason : Nat) (comp : Nat) (unsigned_ : Bool) (win : Mem) : State :=
  { s with rmy := { s.rmy with
      dumpState := st, dumpReason := BitVec.ofNat 8 reason, dumpUnsigned := unsigned_, dumpWritten := false,
      dumpLen := BitVec.ofNat 32 (256 + comp), dumpWin := win } }

/-! ### The fatal sequence (Table 13-7) -/

/-- The dump slot already holds a dump, or its erasure has not completed: a new dump is not written (R399). -/
def State.dumpBlocked (s : State) : Bool := s.rmy.dumpPresent || s.rmy.erasing

/-- Step 3: the dump assembled and offered; DUMP_LOST when it will not be written. -/
def State.offerDump (s : State) (f : FatalRec) : State :=
  let raw := dumpRaw s.dumpSections
  let blk := Free.lz4Pack raw
  let flags := bit s.sage.pufFail + 4 * bit s.dumpSoe.isEmpty
  let body := s.dumpHeader f blk.length raw.length 8 flags ++ blk
  let t := s.dumpTrailer body
  let lost := s.dumpBlocked
  let s := s.showDump 1 f.reason blk.length s.sage.pufFail (dumpImage body t)
  { s with rmy := { s.rmy with
      dumpEvent := s.rmy.dumpEvent ||| 1, dumpRel := false, offerAt := s.sys.mono,
      dumpLost := if lost then satInc s.rmy.dumpLost else s.rmy.dumpLost } }

/-- FATAL_ERROR: a failure of the always-on island or an inconsistency of the recovery controller is detected
here; every fatal error's dump is assembled and offered (steps 1 to 3). -/
def execFatalError (x : Option FatalCause) (s : State) : Out :=
  let s := match s.running, x with
    | true, some .alwaysOn => s.fatal 0x08 0 10
    | true, some .inconsistent => s.fatal 0x0C 0xFF 10
    | _, _ => s
  match s.sys.stage == .fatalSeq, s.rmy.fatal with
  | true, some f => if f.reason = 4 || s.rmy.dumpState = 1 then s.done else (s.offerDump f).done
  | _, _ => .next s

/-- The dump in the window written to the dump region, trailer last. -/
def State.storeDump (s : State) (r : Region) : State :=
  let n := s.rmy.dumpLen.toNat - 128
  let s := s.nvmErase r.off 0x400000
  let s := s.nvmWrite r.off (Mem.readBytes 0 s.rmy.dumpWin 0 n)
  s.nvmWrite (r.off + 0x3FFF80) (Mem.readBytes 0 s.rmy.dumpWin 0x3FFF80 128)

/-- DUMP_NVM_WRITE_COMPLETE: step 4. -/
def execDumpNvmWriteComplete (s : State) : Out :=
  match s.region? 5 0 with
  | some r =>
    if s.sys.stage == .fatalSeq && s.rmy.dumpState = 1 && !s.rmy.dumpWritten && !s.dumpBlocked then
      let s := s.storeDump r
      State.done { s with rmy := { s.rmy with dumpWritten := true, dumpPresent := true } }
    else .next s
  | none => .next s

/-! ### After READY (R398, R402) -/

/-- DUMP_COPY_COMPLETE: a committed dump copied to DRAM; under dram_fail the window reads 0. -/
def execDumpCopyComplete (s : State) : Out :=
  match s.region? 5 0 with
  | some r =>
    if s.running && s.rmy.dumpPresent && s.rmy.dumpState = 0 then
      let h := s.nvmBytes r.off 128
      let comp := rdLE h 0x28 4
      let win := if s.sys.dramFail then []
        else dumpImage (s.nvmBytes r.off (128 + comp)) (s.nvmBytes (r.off + 0x3FFF80) 128)
      let s := s.showDump 2 (rdLE h 6 2) comp (tst (rdLE h 0x34 4) 0) win
      State.done { s with rmy := { s.rmy with dumpEvent := s.rmy.dumpEvent ||| 2 } }
    else .next s
  | none => .next s

/-- DUMP_ERASE_COMPLETE. -/
def execDumpEraseComplete (s : State) : Out :=
  if s.running && s.rmy.erasing then
    let s := s.eraseRegion 5 0
    State.done { s with rmy := { s.rmy with erasing := false, dumpState := 0, dumpEvent := s.rmy.dumpEvent ||| 4 } }
  else .next s

/-- REASON_ONLY_DUMP_WRITE: a latched fatal record written as header and trailer alone, or counted as lost where
the slot is taken (R398, R399); the record clears. -/
def execReasonOnlyDumpWrite (s : State) : Out :=
  match s.running, s.rmy.latched with
  | true, some f =>
    let s : State := { s with rmy := { s.rmy with latched := none } }
    match s.region? 5 0 with
    | some r =>
      if s.dumpBlocked then State.done { s with rmy := { s.rmy with dumpLost := satInc s.rmy.dumpLost } }
      else
        let body := s.dumpHeader f 0 0 0 (bit s.sage.pufFail + 2)
        let t := s.dumpTrailer body
        let s := (s.nvmWrite r.off body).nvmWrite (r.off + 0x3FFF80) t
        State.done { s with rmy := { s.rmy with dumpPresent := true } }
    | none => State.done { s with rmy := { s.rmy with dumpLost := satInc s.rmy.dumpLost } }
  | _, _ => .next s

end Sys2Proof.Machine
end

