-- ==== Sys2Proof/Machine/Personality.lean ====
section
/-! DEFINITION. Requests of class 0x6, the restart of an instance, the personality store and the
completion of NVM writes (R292, R300 to R302, Table 10-9, R502). -/

namespace Sys2Proof.Machine

/-! ### Restart, stop, start -/

/-- The checks that 0x601 to 0x603 share, then `f` on the engine. -/
def State.instServe (s : State) (q : Req) (code : Nat) (f : State → Nat → State ⊕ Nat) : State :=
  s.serve q code 1 (fun s =>
    let e := q.word 1
    if 32 ≤ e then .inr 0x12
    else if !s.hasInstance e then .inr 0x12
    else if s.instPending e then .inr 0x14
    else f s e)

/-- PERSONALITY_RESTART 0x601: DONE comes when the engine is released. -/
def execPersonalityRestart (q : Req) (s : State) : Out :=
  if s.running then
    (s.instServe q 0x601 (fun s e => .inl ((s.hold q 0x601).schedule e .restart (some (q.src.val, q.tag))))).done
  else .next s

/-- The instance is stopped (R302), a halt by double trap counting as one (R342). -/
def State.instStopped (s : State) (e : Nat) : Bool := (s.eng e).st == .stopped || (s.eng e).st == .trapHalt

/-- PERSONALITY_STOP 0x602: DONE when stopped, at once when already stopped. -/
def execPersonalityStop (q : Req) (s : State) : Out :=
  if s.running then
    (s.instServe q 0x602 (fun s e =>
      if s.instStopped e then .inl (s.finish q 0x602)
      else .inl ((s.hold q 0x602).schedule e .stop (some (q.src.val, q.tag))))).done
  else .next s

/-- PERSONALITY_START 0x603. -/
def execPersonalityStart (q : Req) (s : State) : Out :=
  if s.running then
    (s.instServe q 0x603 (fun s e =>
      if !s.instStopped e then .inr 0x15
      else .inl ((s.hold q 0x603).schedule e .start (some (q.src.val, q.tag))))).done
  else .next s

/-- The restart or start that may go on: it is due, step 1 has been taken, or the cluster runs no epochs. -/
def State.restartDue (s : State) (e : Nat) : Option (Nat × InstReq × Option (Nat × Byte)) :=
  let c := s.cl (e / 2)
  if c.st == .running || c.st == .degraded || c.st == .failed then
    c.instReq.find? (fun r => r.1 == e && r.2.1 != .stop &&
      ((s.eng e).status == 1 || !s.clusterRuns (e / 2)))
  else none

/-- INSTANCE_RESTART: steps 2 to 5 of R301; `ok` is false when the copy of the bank section meets an
uncorrectable error, and the instance stays stopped. -/
def execInstanceRestart (e : Fin 32) (ok : Bool) (s : State) : Out :=
  match s.running, s.restartDue e with
  | true, some r =>
    let c := s.cl (e.val / 2)
    let s := s.setCl (e.val / 2) { c with instReq := c.instReq.filter (fun x => x.1 != e.val) }
    let s := if (s.eng e).status = 1 then s else s.haltInstance e 1
    let good := ok && (!s.sys.dramFail || !(s.engs.placed.any (fun p => p.eng == e.val)))
    let s := if good then s.restartInstance e else s.failInstance e
    (match r.2.2 with
      | some (src, tag) => s.final src r.2.1.code tag (if good then 0 else 0x1A) []
      | none => s).done
  | _, _ => .next s

/-! ### The store -/

/-- STORE_APPEND_OPEN 0x610: word 1 the length of the whole entry, words 2 and 3 its header. The place after
the last committed entry is erased and the header programmed. -/
def execStoreAppendOpen (q : Req) (s : State) : Out :=
  if s.running then
    (s.serve q 0x610 3 (fun s =>
      if !(bulkOk q.src.val (q.word 2) (q.word 3)) || q.word 3 ≠ 256 then .inr 0x12
      else if s.sys.lc = .retired then .inr 0x15
      else if s.exclusive then .inr 0x14
      else match s.region? 3 0 with
        | none => .inr 0x18
        | some r =>
          let off := s.storeNext r
          let total := q.word 1
          if total < 264 || r.off + r.size < off + total then .inr 0x18
          else
            let h := s.bulkRead q.src.val (q.word 2) 256
            let s := (s.nvmErase off (roundUp total 4096)).nvmWrite off h
            let a : Append := { total := total, off := off, done := 256, commit := false }
            .inl ({ s with engs := { s.engs with append := some a } }.finish q 0x610))).done
  else .next s

/-- STORE_APPEND_WRITE 0x611: word 1 the byte offset in the entry; ascending, within the block. -/
def execStoreAppendWrite (q : Req) (s : State) : Out :=
  if s.running then
    (s.serve q 0x611 3 (fun s =>
      let off := q.word 1
      let len := q.word 3
      if !(bulkOk q.src.val (q.word 2) len) || 0x8000 < len then .inr 0x12
      else match s.engs.append with
        | none => .inr 0x12
        | some a =>
          if off < a.done || a.total - 8 < off + len || a.commit then .inr 0x12
          else
            let s := s.nvmWrite (a.off + off) (s.bulkRead q.src.val (q.word 2) len)
            .inl ({ s with engs := { s.engs with append := some { a with done := off + len } } }.finish q 0x611))).done
  else .next s

/-- The open entry read back under R294: the status of its refusal. A header out of range, a length that
disagrees or a block that does not expand to its two sections is malformed. -/
def State.appendCheck (s : State) (r : Region) (a : Append) (v : Verdict) (vpkSig : Bool) : Option Nat :=
  let h := s.nvmBytes a.off 256
  if !entryHdrOk h || rdLE h 8 4 + 264 ≠ a.total || !s.storeHdrOk r then some 0x12
  else if (Free.lz4Expand (s.nvmBytes (a.off + 256) (a.total - 264))).length ≠ rdLE h 0x18 4 + rdLE h 0x1C 4 then
    some 0x12
  else if !vpkSig || !v.digest || !v.sig || !s.persSigner r h then some 0x16
  else none

/-- STORE_APPEND_COMMIT 0x612: `v` is the crypto unit's finding on the expanded content and its signature,
`vpkSig` on the vendor personality key, `nvmOk` that the read-back succeeds. A refusal ends the append, and
leaves the entry uncommitted. -/
def execStoreAppendCommit (q : Req) (v : Verdict) (vpkSig nvmOk : Bool) (s : State) : Out :=
  if s.running then
    (s.serve q 0x612 0 (fun s =>
      match s.engs.append, s.region? 3 0 with
      | some a, some r =>
        let closed : State := { s with engs := { s.engs with append := none } }
        if a.commit || s.sage.job.isSome then .inr 0x14
        else if !nvmOk then .inl (closed.refuse q 0x612 0x1A)
        else match s.appendCheck r a v vpkSig with
          | some st => .inl (closed.refuse q 0x612 st)
          | none =>
            let blk := s.nvmBytes (a.off + 256) (a.total - 264)
            let s : State := { s with engs := { s.engs with append := some { a with commit := true } } }
            .inl (s.startJob q 0x612 .append (a.off + a.total - 8)
              (leBytes 4 0x54494D43 ++ leBytes 4 (crc32c blk).toNat))
      | _, _ => .inr 0x12)).done
  else .next s

/-- STORE_ENTRY_REMOVE 0x613: the live word programmed to 0. -/
def execStoreEntryRemove (q : Req) (s : State) : Out :=
  if s.running then
    (s.serve q 0x613 1 (fun s =>
      let code := bits (q.word 1) 7 0
      let ver := bits (q.word 1) 31 16
      if bits (q.word 1) 15 8 ≠ 0 then .inr 0x12
      else match s.storeEntry? code ver with
        | none => .inr 0x12
        | some a =>
          if (s.recsOf 0x0801).any (fun r => rdLE r.body 0 1 == code && rdLE r.body 2 2 == ver) then .inr 0x15
          else .inl ((s.nvmWrite (a + 4) (leBytes 4 0)).finish q 0x613))).done
  else .next s

/-- STORE_ERASE 0x614: owner certificate usage bit 1; ACCEPTED, the store is erased and its header
rewritten when the NVM completes. -/
def execStoreErase (q : Req) (v : Verdict) (s : State) : Out :=
  if s.running then
    (s.serve q 0x614 2 (fun s =>
      match s.lcCheck q 0x614 160 (s.sys.lc == .provisioned || s.sys.lc == .service) (some 1) v,
            s.region? 3 0 with
      | some st, _ => .inr st
      | none, none => .inr 0x18
      | none, some r =>
        .inl ((s.useNonce q.src.val).startJob q 0x614 .storeErase r.off (s.nvmBytes r.off 0x1000)))).done
  else .next s

/-! ### NVM_WRITE_COMPLETE -/

/-- The region type of a job (Table 2-5). -/
def NvmKind.region : NvmKind → Nat
  | .imgErase | .imgCommit => 2
  | .append | .storeErase => 3
  | .keyImport => 6
  | .ownerCert => 7

/-- What a job does to the NVM when it succeeds. -/
def State.jobApply (s : State) (j : NvmJob) : State :=
  match j.kind with
  | .imgErase => s.nvmErase j.off (leNat j.bytes)
  | .imgCommit | .append => s.nvmWrite j.off j.bytes
  | .keyImport => (s.nvmErase j.off 256).nvmWrite j.off j.bytes
  | .ownerCert =>
    match s.region? 7 0 with
    | some r => (s.nvmErase r.off r.size).nvmWrite j.off j.bytes
    | none => s
  | .storeErase =>
    match s.region? 3 0 with
    | some r => (s.nvmErase r.off r.size).nvmWrite j.off j.bytes
    | none => s

/-- What follows a job: the open image write or append it belongs to. -/
def State.jobAfter (s : State) (j : NvmJob) (ok : Bool) : State :=
  match j.kind with
  | .imgErase => { s with host := { s.host with
      img := if ok then s.host.img.map (fun i => { i with erased := true }) else none } }
  | .imgCommit => { s with host := { s.host with img := none } }
  | .append => { s with engs := { s.engs with append := none } }
  | .ownerCert => { s with sage := { s.sage with certsOk := s.certsValid } }
  | .keyImport | .storeErase => s

/-- NVM_WRITE_COMPLETE: the final response, then notice 0xF02; an image write that the NVM
fails is abandoned with notice 0xF04 (R502, R504). -/
def execNvmWriteComplete (ok : Bool) (s : State) : Out :=
  match s.running, s.sage.job with
  | true, some j =>
    let s : State := { s with sage := { s.sage with job := none } }
    let s := (if ok then s.jobApply j else s).jobAfter j ok
    let st := if ok then 0 else 0x1A
    let body : List Word := if j.kind = .imgCommit then [if ok then 0 else 0x12] else []
    let s := s.final j.src j.code j.tag st body
    (if j.kind = .imgErase && ok then s
     else if (j.kind = .imgErase || j.kind = .imgCommit) && !ok then s.notice 0xF04 [1]
     else s.notice 0xF02 [BitVec.ofNat 32 j.kind.region, BitVec.ofNat 32 st]).done
  | _, _ => .next s

end Sys2Proof.Machine
end

