-- ==== Sys2Proof/Machine/Rosemary.lean ====
section
/-! DEFINITION. The events of Rosemary: epochs, commits, faults, restore and replay (R375 to R389, R395). -/

namespace Sys2Proof.Machine

/-- The running epoch of cluster `k` has lasted epoch_us (R377). -/
def State.epochDue (s : State) (k : Nat) : Bool := decide ((s.cl k).epochAt + us (s.cl k).epochUs.toNat ≤ s.sys.mono)

/-- EPOCH_END: the running epoch of cluster `k` ends once epoch_us have passed; `early` before that, when a limit of
R378 would otherwise be exceeded. The cluster runs, and the epoch before has committed. -/
def execEpochEnd (k : Fin 16) (busy : Fin 101) (early : Bool) (s : State) : Out :=
  let c := s.cl k
  if s.running && c.st.steady && !c.awaiting && s.clusterRuns k &&
      (if early then !s.epochDue k && s.epochTight k else s.epochDue k) then (s.endEpoch k busy early).done
  else .next s

/-- EPOCH_COMMIT (R384); a cluster with an engine halted by debug commits none (R347). -/
def execEpochCommit (k : Fin 16) (s : State) : Out :=
  let c := s.cl k
  if s.running && c.st.steady && c.awaiting && !s.dbgHeld k then (s.commit k).done else .next s

/-- The class that a failing condition names (R385); for the last two none is named: a free value. -/
def State.missClass (s : State) : CommitMiss → Nat
  | .signature => 1
  | .ecc => 3
  | _ => (Free.byte s.sys.draws 0).toNat

/-- COMMIT_DEADLINE_MISS: 200 ns after the epoch's end (R385). A halt never enters rollback (R347). -/
def execCommitDeadlineMiss (k : Fin 16) (why : CommitMiss) (s : State) : Out :=
  let c := s.cl k
  if s.running && c.awaiting && !s.dbgHeld k && c.endedAt + 800 ≤ s.sys.mono then
    (s.draw.rollback { k := k, cls := s.missClass why }).done
  else .next s

/-- An engine of the cluster executes: a comparison or check can find a fault. -/
def State.checks (s : State) (k : Nat) : Bool := s.running && s.clusterRuns k && (s.cl k).st != .restore

/-- SIGNATURE_MISMATCH (R312). -/
def execSignatureMismatch (k : Fin 16) (s : State) : Out :=
  if s.checks k && s.paired k then
    (s.rollback { k := k, cls := 1, sig := some (s.core (2 * k.val)).ret }).done
  else .next s

/-- PLAUSIBILITY_FAIL (R375): in twin mode handled like a mismatch, in CAPACITY for the engine alone. -/
def execPlausibilityFail (e : Fin 32) (s : State) : Out :=
  let k := e.val / 2
  let g := s.eng (s.lead e)
  if s.checks k && !s.fenced e && (g.st == .running || g.st == .wait) then
    let n := (s.core (s.lead e)).ret
    (s.rollback { k := k, cls := 1, eng := if s.twin k then none else some e.val, logEng := e,
                  sig := if s.twin k then some n else none }).done
  else .next s

/-- RESTORE_COMPLETE: undo lines written back; `lo` and `hi`: E(2k) and E(2k+1) pass the self-test. -/
def execRestoreComplete (k : Fin 16) (lo hi : Bool) (s : State) : Out :=
  if s.running && (s.cl k).st == .restore then (s.judgeFault k lo hi).done else .next s

/-- REPLAY_END: the count of the fault has been reached (R386 step 5). -/
def execReplayEnd (k : Fin 16) (busy : Fin 101) (s : State) : Out :=
  if s.running && (s.cl k).st == .replay && s.replayDone k then (s.closeReplay k busy).done else .next s

/-- An instance restarted by Rosemary at the next epoch boundary (R301, R376). -/
def State.restartFault (s : State) (e cls : Nat) (detail : Word) : State :=
  let s := s.logFault cls (clIsland (e / 2)) e 3 detail
  if s.hasInstance e && !s.instStopped e && !s.instPending e then s.schedule e .restart none else s

/-- WATCHDOG_EXPIRY: class 8, a restart, never a rollback (R300, R376); suspended in a debug halt (R347). It starts over (log 158). -/
def execWatchdogExpiry (e : Fin 32) (s : State) : Out :=
  let l := s.lead e
  let g := s.eng l
  if s.running && s.hasInstance l && (g.st == .running || g.st == .wait) && !s.recovering l && s.unserviced l 1 then
    ((s.setEng l { g with wdog := satInc g.wdog, wdsAt := s.sys.mono }).restartFault l 8 0).done
  else .next s

/-- DRAM_ISLAND_FAILURE: retraining starts and ends; one of 100 ms is fatal (Table 13-5). -/
def execDramIslandFailure (x : DramEvent) (s : State) : Out :=
  if !s.running || s.sys.dramFail then .next s
  else match x, s.rmy.dramFailAt with
  | .failed, none => State.done { s with rmy := { s.rmy with dramFailAt := some s.sys.mono } }
  | .cleared, some _ => State.done { s with rmy := { s.rmy with dramFailAt := none } }
  | .overdue, some t =>
    if s.sys.mono < t + ms 100 then .next s else
    let s := s.fatal 0x0A 6 10
    State.done { s with rmy := { s.rmy with outside := satInc s.rmy.outside, event := s.rmy.event ||| 8 } }
  | _, _ => .next s

end Sys2Proof.Machine
end

