-- ==== Sys2Proof/Machine/Ecc.lean ====
section
/-! DEFINITION. Uncorrectable memory errors (R357, R390, R395; Tables 12-3 and 13-5). -/

namespace Sys2Proof

/-- The index m of the memory a word stands in (Table 12-1); none for DRAM. -/
def EccAt.index : EccAt → Option Nat
  | .bank e _ => some e
  | .packet _ => some 32
  | .journal _ _ => some 33
  | .sageBank _ => some 34
  | .learned _ _ | .table _ | .hotCache => some 35
  | .capture _ => some 36
  | .portStat _ _ _ | .blockStat _ | .mailbox _ _ _ | .schedule _ _ | .service _ => some 37
  | .dramPoint _ => none

end Sys2Proof

namespace Sys2Proof.Machine

/-- MBX_ECC_UNCm and MBX_EVENT.ecc_unc (R357). -/
def State.countEcc (s : State) (w : EccAt) : State :=
  match w.index with
  | some m => { s with mbx := { s.mbx with eccUnc := s.mbx.eccUnc.upd 0 m satInc, event := s.mbx.event ||| 4 } }
  | none => s

/-! ### Engine banks (R390) -/

def State.spares (s : State) (e : Nat) : Nat :=
  if e % 2 = 1 then (s.cl (e / 2)).spareHi else (s.cl (e / 2)).spareLo

/-- A spare line of the bank taken. -/
def State.takeSpare (s : State) (e : Nat) : State :=
  let c := s.cl (e / 2)
  let s := s.setCl (e / 2)
    (if e % 2 = 1 then { c with spareHi := c.spareHi - 1 } else { c with spareLo := c.spareLo - 1 })
  { s with rmy := { s.rmy with remap := satInc s.rmy.remap } }

/-- The line failed before within 1 s. -/
def State.failedLately (s : State) (e line : Nat) : Bool :=
  (s.cl (e / 2)).lineFails.any (fun f => f.1 == e && f.2.1 == line && decide (s.sys.mono - f.2.2 < sec 1))

/-- A line's failure noted. -/
def State.noteFail (s : State) (e line : Nat) : State :=
  let c := s.cl (e / 2)
  let l := c.lineFails.filter (fun f => !(f.1 == e && f.2.1 == line))
  s.setCl (e / 2) { c with lineFails := l ++ [(e, line, s.sys.mono)] }

/-- The line holds what the bank section placed there (R295); a ROM instance has no copy in DRAM. -/
def State.asLoaded (s : State) (e line : Nat) : Bool :=
  match s.engs.placed.find? (fun p => p.eng == e) with
  | some p => decide (line * 64 < p.bankLen) && s.bankBytes e (line * 64) 64 == s.dramBytes (p.bankAt + line * 64) 64
  | none => false

/-- The damaged line repaired, restored by a rollback, reloaded, or the instance restarted. -/
def State.repairLine (s : State) (e line : Nat) : State :=
  let k := e / 2
  let l := s.lead e
  let at_ : Word := BitVec.ofNat 32 (line * 64)
  if s.paired k then
    let s := s.logFault 3 (clIsland k) e 2 at_
    { s with rmy := { s.rmy with repair := satInc s.rmy.repair } }
  else if ((s.cl k).undoPrev ++ (s.cl k).undoCur).any (fun u => u.eng == l && u.line == line) || s.recovering l then
    s.rollback { k := k, cls := 3, eng := if s.twin k then none else some e, logEng := e, detail := at_ }
  else if s.asLoaded l line then s.logFault 3 (clIsland k) e 2 at_
  else s.restartFault l 3 at_

/-- An uncorrectable bank word: a line that fails twice within 1 s is remapped while a spare is left. -/
def State.bankEcc (s : State) (e line : Nat) : State :=
  if s.fenced e then s
  else
    let twice := s.failedLately e line
    let s := s.noteFail e line
    if !twice then s.repairLine e line
    else if 0 < s.spares e then (s.takeSpare e).repairLine e line
    else if s.paired (e / 2) then
      (s.logFault 3 (clIsland (e / 2)) e 1 (BitVec.ofNat 32 (line * 64))).fence e
    else s.restartFault (s.lead e) 3 (BitVec.ofNat 32 (line * 64))

/-! ### Packet buffer (Table 12-3) -/

/-- The frame's copies that have not begun leave; one in transmission ends with a stomped FCS. -/
def State.loseFrame (s : State) (fid : Nat) : State :=
  match s.frame fid with
  | none => s
  | some f =>
    let now := (List.range 68).any (fun n => (s.port n).tx.any (fun t => t.fid == fid) ||
      (s.port n).held.any (fun t => t.fid == fid))
    let s := s.setFrame fid { f with dests := [], bad := f.bad || now,
                                     stompAt := if now && !f.bad then f.len - 4 else f.stompAt }
    let s := (List.range 68).foldl (fun s n =>
      match (s.queue n f.cls).find? (fun x => x.fid == fid && !s.begun n x) with
      | some x => s.dropCopy n f.cls x (some 0x10)
      | none => s) s
    let s := (List.range 16).foldl (fun s k =>
      let c := s.cl k
      if c.rx.any (fun x => x.fid == fid) then
        (s.setCl k { c with rx := c.rx.filter (fun x => x.fid != fid) }).copyGone fid (some 0x10)
      else s) s
    let s : State := { s with sw := { s.sw with cellLost := satInc s.sw.cellLost, event := s.sw.event ||| 2 } }
    s.tryRelease fid

/-! ### Other memories (Table 13-5) -/

/-- The Sage bank word: the other copy serves; both damaged is fatal. -/
def State.sageEcc (s : State) (both : Bool) : State :=
  if both then
    let s : State := { s with rmy := { s.rmy with outside := satInc s.rmy.outside, event := s.rmy.event ||| 8 } }
    s.fatal 0x0B 3 10
  else s.outsideFault 3 2 0

/-- A journal or undo word: of a live epoch, or of a free area. -/
def State.journalEcc (s : State) (k : Nat) (free : Bool) : State :=
  let s := s.outsideFault 3 (if free then 2 else 0) 0
  if free then s
  else
    let s := s.setCl k { s.cl k with jdamage := true }
    { s with rmy := { s.rmy with event := s.rmy.event ||| 16 } }

/-- A switch core counter set to 0. -/
def SwBlk.zero (w : SwBlk) : Nat → SwBlk
  | 0 => { w with cellRetry := 0 }
  | 1 => { w with cellDup := 0 }
  | 2 => { w with cellLost := 0 }
  | 3 => { w with planeRetire := 0 }
  | 4 => { w with genBusy := 0 }
  | 5 => { w with localNoctx := 0 }
  | 6 => { w with learnFull := 0 }
  | 7 => { w with staticViol := 0 }
  | _ => { w with capLost := 0 }

/-- A point record rewritten: value 0, invalid and failure, stamped now, delivered as a change from source 4. -/
def State.pointEcc (s : State) (p : Nat) : State :=
  let s := s.outsideFault 6 4 (BitVec.ofNat 32 p)
  if (s.point p).typ = 0 then s
  else (s.deliverChange p true true 0 0x41 s.time.t 0 { src := 4 }).pntSettle

/-- A damaged word of a mailbox queue. -/
def State.mailboxEcc (s : State) (n : Nat) (home : Bool) (i : Nat) : State :=
  let m := s.mb n
  let q := setAt (m.q home) i (fun w => { w with bad := true })
  s.setMb n ((m.setQ home q).dropBad home)

/-- The capture record of a damaged word is discarded. -/
def State.captureEcc (s : State) (slot : Nat) : State :=
  { s with mem := { s.mem with cap := Mem.clearRange s.mem.cap (160 * slot) (160 * slot + 160) },
           sw := { s.sw with capLost := satInc s.sw.capLost } }

/-- A learned entry is removed and learned again; a static one is rewritten. -/
def State.fdbEcc (s : State) (addr : BitVec 48) (vid : Nat) : State :=
  let s := s.outsideFault 9 2 0
  { s with sw := { s.sw with fdb := s.sw.fdb.filter (fun x => x.static || !(x.addr == addr && x.vid == vid)) } }

/-- ECC_UNCORRECTABLE. -/
def execEccUncorrectable (w : EccAt) (s : State) : Out :=
  if !s.running then .next s
  else
    let s := s.countEcc w
    match w with
    | .bank e line => (s.bankEcc e line).done
    | .packet fid =>
      match fid with
      | some f => (s.loseFrame f).done
      | none => s.done
    | .journal k free => (s.journalEcc k free).done
    | .sageBank both => (s.sageEcc both).done
    | .learned a v => (s.fdbEcc a v.toNat).done
    | .table drops =>
      let s := s.outsideFault 9 2 0
      State.done { s with rmy := { s.rmy with tblDrop := satAdd s.rmy.tblDrop drops } }
    | .hotCache => (s.outsideFault 7 2 0).done
    | .capture i => (s.captureEcc i).done
    | .portStat p snap i =>
      let s := s.outsideFault 4 4 0
      let x := s.port p
      (s.setPort p (if snap then { x with snap := x.snap.set i 0 } else { x with stat := x.stat.set i 0 })).done
    | .blockStat i =>
      let s := s.outsideFault 4 4 0
      State.done { s with sw := s.sw.zero i }
    | .mailbox n home i => (s.mailboxEcc n home i).done
    | .schedule u bad =>
      let s := s.outsideFault 4 (if bad then 4 else 2) 0
      if bad then s.unitEcc u else s.done
    | .service off =>
      let a := off - off % 8
      let s := s.outsideFault 4 4 (BitVec.ofNat 32 a)
      let m := Mem.writeBytes 0 s.mem.svc a (Free.bytes s.sys.draws 8)
      let s : State := { s with mem := { s.mem with svc := m } }
      s.draw.done
    | .dramPoint p => (s.pointEcc p.toNat).done

end Sys2Proof.Machine
end

