-- ==== Sys2Proof/Machine/Edit.lean ====
section
/-! DEFINITION. Run-time edits of the switch tables, generations and quotas (R202 to R210). -/

namespace Sys2Proof.Machine

/-! ### Ranges of the SW records (Tables 6-12 to 6-20) -/

/-- SW.CORE (Tables 6-12 and 6-13). -/
def swCoreOk (b : List Byte) : Bool :=
  let age := rdLE b 0 4
  b.length == 144 && (age == 0 || (10 ≤ age && age ≤ 1000000)) && byteAt b 4 ≤ 3 && byteAt b 5 ≤ 8 &&
  rdLE b 6 2 ≤ 256 && (byteAt b 4 != 3 || 1 ≤ rdLE b 6 2) && rdLE b 8 8 == 0 &&
  (List.range 8).all (fun f =>
    let x := (b.drop (0x10 + 16 * f)).take 16
    if f < byteAt b 5 then
      (byteAt x 0 ≤ 67 || byteAt x 0 == 0xFF) && 1 ≤ byteAt x 1 && byteAt x 1 ≤ 3 && byteAt x 3 ≤ 1 &&
      1 ≤ rdLE x 8 4 && rdLE x 8 4 ≤ 65536 && rdLE x 12 4 == 0
    else rdLE x 0 16 == 0)

/-- SW.PORT (Table 6-14); `red` tells which RED profiles are configured, `vlan` which VLANs. -/
def swPortOk (red vlan : Nat → Bool) (inst : Nat) (b : List Byte) : Bool :=
  b.length == 48 && inst ≤ 67 && byteAt b 3 ≤ 8 && (byteAt b 4 ≤ 2 || byteAt b 4 == 0xFF) &&
  (List.range 8).all (fun c => bits (rdLE b 6 2) (2 * c + 1) (2 * c) ≠ 3) &&
  (List.range 24).all (fun i => red (byteAt b (0x10 + i))) && rdLE b 0x2A 6 == 0 &&
  (if inst < 64 then
    vlan (rdLE b 0 2) && 1 ≤ rdLE b 0 2 && rdLE b 0 2 ≤ 4094 && byteAt b 2 ≤ 7 && byteAt b 5 < 32 &&
    (List.range 8).all (fun p => byteAt b (8 + p) ≤ 7)
   else rdLE b 0 3 == 0 && byteAt b 5 == 0 && rdLE b 8 8 == 0 && rdLE b 0x28 2 == 0)

/-- SW.RED (Table 6-15). -/
def swRedOk (inst : Nat) (b : List Byte) : Bool :=
  b.length == 8 && 2 ≤ inst && inst ≤ 31 && rdLE b 0 2 ≤ 65534 && rdLE b 0 2 < rdLE b 2 2 &&
  1 ≤ byteAt b 4 && byteAt b 5 ≤ 15 && rdLE b 6 2 == 0

/-- SW.METER (Table 6-16). -/
def swMeterOk (inst : Nat) (b : List Byte) : Bool :=
  b.length == 24 && inst ≤ 1023 && 64 ≤ rdLE b 0 4 && rdLE b 0 4 ≤ rdLE b 4 4 && rdLE b 4 4 ≤ 25000000 &&
  1518 ≤ rdLE b 8 4 && rdLE b 8 4 ≤ 16777216 && 1518 ≤ rdLE b 12 4 && rdLE b 12 4 ≤ 16777216 &&
  rdLE b 16 8 == 0

/-- SW.VLAN (Table 6-17): untag is a subset of member. -/
def swVlanOk (inst : Nat) (b : List Byte) : Bool :=
  b.length == 24 && 1 ≤ inst && inst ≤ 4094 && (rdLE b 8 8 &&& rdLE b 0 8) == rdLE b 8 8 && rdLE b 16 8 == 0

/-- One SW.FDB entry (Table 6-18); kind 0xFF only in an edit (R207). -/
def fdbEntryOk (group vlan : Nat → Bool) (edit : Bool) (e : List Byte) : Bool :=
  let kind := byteAt e 8
  1 ≤ rdLE e 6 2 && rdLE e 6 2 ≤ 4094 && byteAt e 9 == 0 && rdLE e 12 4 == 0 &&
  (if kind = 0 then rdLE e 10 2 ≤ 63 && vlan (rdLE e 6 2)
   else if kind = 1 then tst (byteAt e 0) 0 && group (rdLE e 10 2) && rdLE e 10 2 ≤ 8191 && vlan (rdLE e 6 2)
   else if kind = 2 then vlan (rdLE e 6 2)
   else kind == 0xFF && edit)

/-- The 16-byte entries of an SW.FDB body. -/
def fdbEntries (b : List Byte) : List (List Byte) :=
  (List.range (b.length / 16)).map (fun i => (b.drop (16 * i)).take 16)

def swFdbOk (group vlan : Nat → Bool) (edit : Bool) (inst : Nat) (b : List Byte) : Bool :=
  inst == 0 && b.length % 16 == 0 && 16 ≤ b.length && b.length ≤ 16 * 65536 &&
  (fdbEntries b).all (fdbEntryOk group vlan edit)

/-- SW.MCAST (Table 6-19). -/
def swMcastOk (inst : Nat) (b : List Byte) : Bool := b.length == 16 && inst ≤ 8191 && rdLE b 8 8 == 0

/-- SW.RULE (Table 6-19). -/
def swRuleOk (meter group : Nat → Bool) (inst : Nat) (b : List Byte) : Bool :=
  let act := byteAt b 0x40
  b.length == 80 && inst ≤ 1023 && act < 128 && byteAt b 0x41 ≤ 7 && rdLE b 0x42 2 ≤ 4095 &&
  rdLE b 0x44 2 ≤ 1023 && rdLE b 0x46 2 ≤ 8191 && rdLE b 0x48 8 == 0 &&
  (!tst act 3 || meter (rdLE b 0x44 2)) && (!tst act 4 || group (rdLE b 0x46 2))

/-- SW.QUOTA (Table 6-20): reserve ≤ max ≤ port_max in every queue. -/
def swQuotaOk (inst : Nat) (b : List Byte) : Bool :=
  let pm := rdLE b 0 4
  let q (c : Nat) : Bool :=
    let r := rdLE b (8 + 8 * c) 4
    let m := rdLE b (12 + 8 * c) 4
    r % 4 == 0 && m % 4 == 0 && r ≤ m && m ≤ pm
  b.length == 72 && inst ≤ 83 && pm % 4 == 0 && 4 ≤ pm && pm ≤ 262140 && rdLE b 4 4 == 0 &&
  (List.range 8).all q &&
  (inst < 68 || (pm == rdLE b 12 4 && (List.range 7).all (fun c => rdLE b (16 + 8 * c) 8 == 0)))

/-- An SW record of types 0x0302 to 0x0308 within its ranges and references, over a table `tab` of SW
records (R207, R210). -/
def swRecOk (tab : List Rec) (vlan1 edit : Bool) (r : Rec) : Bool :=
  let has (typ i : Nat) : Bool := tab.any (fun x => x.typ == typ && x.inst == i)
  let red (i : Nat) : Bool := i ≤ 1 || has 0x0303 i
  let vlan (i : Nat) : Bool := has 0x0305 i || (vlan1 && i == 1)
  match r.typ with
  | 0x0302 => swPortOk red vlan r.inst r.body
  | 0x0303 => swRedOk r.inst r.body
  | 0x0304 => swMeterOk r.inst r.body
  | 0x0305 => swVlanOk r.inst r.body
  | 0x0306 => swFdbOk (has 0x0307) vlan edit r.inst r.body
  | 0x0307 => swMcastOk r.inst r.body
  | 0x0308 => swRuleOk (has 0x0304) (has 0x0307) r.inst r.body
  | _ => false

/-! ### Applying one record -/

/-- SW.PORT into the registers and settings of its port (Tables 6-10 and 6-14). -/
def SwPort.ofRec (old : SwPort) (b : List Byte) : SwPort :=
  let fl := byteAt b 5
  let prof := if byteAt b 4 = 0xFF then 0 else byteAt b 4 + 1
  { old with
    pcfg := BitVec.ofNat 32 (fields [(rdLE b 0 2, 16), (byteAt b 2, 12), (bit (tst fl 4), 11), (fl % 8, 8),
      (prof, 4), (byteAt b 3, 0)]),
    mode := BitVec.ofNat 16 (rdLE b 6 2), floodMc := tst fl 3, pcp := (b.drop 8).take 8,
    red := (b.drop 16).take 24, learnMax := rdLE b 0x28 2 }

/-- One forwarding entry set, replaced or deleted; none when its bucket is full (R207). -/
def State.fdbApply (s : State) (e : List Byte) : Option State :=
  let a := BitVec.ofNat 48 (rdLE e 0 6)
  let vid := rdLE e 6 2
  let others := s.sw.fdb.filter (fun x => !(x.addr == a && x.vid == vid))
  let s' : State := { s with sw := { s.sw with fdb := others } }
  if byteAt e 8 = 0xFF then some s'
  else if 4 ≤ s'.bucketFill (fdbBucket a vid) then none
  else some { s' with sw := { s'.sw with
    fdb := others ++ [{ addr := a, vid := vid, kind := byteAt e 8, dest := rdLE e 10 2, static := true }] } }

/-- All entries of a body, or none. -/
def State.fdbApplyAll (s : State) : List (List Byte) → Option State
  | [] => some s
  | e :: l => match s.fdbApply e with
    | some t => t.fdbApplyAll l
    | none => none

/-- A table record put in place of the one of its type and instance. -/
def putRec (l : List Rec) (r : Rec) : List Rec :=
  l.filter (fun x => !(x.typ == r.typ && x.inst == r.inst)) ++ [r]

/-- One SW record applied; an edited meter refills both buckets (R186, R207). -/
def State.swApply (s : State) (r : Rec) : Option State :=
  match r.typ with
  | 0x0302 => some (State.setSwPort { s with sw := { s.sw with tables := putRec s.sw.tables r } } r.inst
      (SwPort.ofRec (s.swPort r.inst) r.body))
  | 0x0306 => s.fdbApplyAll (fdbEntries r.body)
  | 0x0304 => some { s with sw := { s.sw with tables := putRec s.sw.tables r, meters := s.sw.meters.del r.inst } }
  | _ => some { s with sw := { s.sw with tables := putRec s.sw.tables r } }

def State.swApplyAll (s : State) : List Rec → Option State
  | [] => some s
  | r :: l => match s.swApply r with
    | some t => t.swApplyAll l
    | none => none

/-! ### Generations (R202, R204) -/

/-- Generations that hold frames, oldest first. -/
def State.gensHeld (s : State) : List (BitVec 16) :=
  s.sw.frames.foldl (fun l p => if l.contains p.2.gen then l else l ++ [p.2.gen]) []

/-- Edit pool slots still held by old versions (R204). -/
def State.poolHeld (s : State) : Nat :=
  ((s.sw.editHeld.filter (fun p => p.2.any s.gensHeld.contains)).map Prod.fst).foldl (· + ·) 0

/-- Slots of 16 B that the new version of a record takes (PRESUMED, log 44). -/
def editSlots (r : Rec) : Nat := ceilDiv r.body.length 16

/-- The next generation number, none in use skipped (R204). -/
def nextGen (held : List (BitVec 16)) : Nat → BitVec 16 → BitVec 16
  | 0, g => g + 1
  | k + 1, g => if held.contains (g + 1) then nextGen held k (g + 1) else g + 1

/-- Records applied as one new generation, or the status of the refusal (R204, R207). -/
def State.edit (s : State) (rs : List Rec) : State ⊕ Nat :=
  let tab := rs.foldl putRec s.sw.tables
  let held := s.gensHeld
  let slots := (rs.map editSlots).foldl (· + ·) 0
  if !(rs.all (swRecOk tab (s.recsOf 0x0305).isEmpty true)) then .inr 0x12
  else if 64 ≤ held.length then .inr 0x14
  else if 10240 < s.poolHeld + slots then .inr 0x18
  else match s.swApplyAll rs with
    | none => .inr 0x18
    | some t => .inl { t with sw := { t.sw with
        gen := nextGen held 64 s.sw.gen,
        editHeld := (t.sw.editHeld.filter (fun p => p.2.any held.contains)) ++
          (if held.isEmpty then [] else [(slots, held)]) } }

/-- A refusal for generations is counted (R204). -/
def State.editServe (s : State) (q : Req) (code : Nat) (rs : List Rec) : State :=
  match s.edit rs with
  | .inl t => t.finish q code
  | .inr 0x14 =>
    State.refuse { s with sw := { s.sw with genBusy := satInc s.sw.genBusy, event := s.sw.event ||| 4 } }
      q code 0x14
  | .inr st => s.refuse q code st

/-- The body words of R207: instance, and a bulk descriptor. -/
def State.editReq (s : State) (q : Req) (code typ : Nat) : State :=
  s.serve q code 3 (fun s =>
    if !bulkOk q.src.val (q.word 2) (q.word 3) || 2 ^ 16 ≤ q.word 1 then .inr 0x12
    else .inl (s.editServe q code
      [{ typ := typ, ver := 1, flags := 0, inst := q.word 1, body := s.bulkRead q.src.val (q.word 2) (q.word 3) }]))

/-- SW.CORE applied: age_s and the capture fields; the ring restarts empty (R207). -/
def State.applyCore (s : State) (b : List Byte) : State :=
  { s with sw := { s.sw with
      ageS := rdLE b 0 4, capCtrl := BitVec.ofNat 32 (byteAt b 4 * 2 ^ 16 + rdLE b 6 2),
      filters := (List.range (byteAt b 5)).map (fun f => (b.drop (0x10 + 16 * f)).take 16),
      capSeen := [], capWr := 0, capRd := 0 } }

/-- TABLE_EDIT_CORE (0x101), without a generation. -/
def execTableEditCore (q : Req) (s : State) : Out :=
  if s.running then
    (s.serve q 0x101 3 (fun s =>
      let b := s.bulkRead q.src.val (q.word 2) (q.word 3)
      if !bulkOk q.src.val (q.word 2) (q.word 3) || q.word 1 ≠ 0 || !swCoreOk b then .inr 0x12
      else .inl ((s.applyCore b).finish q 0x101))).done
  else .next s

/-- TABLE_EDIT_PORT (0x102). -/
def execTableEditPort (q : Req) (s : State) : Out :=
  if s.running then (s.editReq q 0x102 0x0302).done else .next s
/-- TABLE_EDIT_RED (0x103). -/
def execTableEditRed (q : Req) (s : State) : Out :=
  if s.running then (s.editReq q 0x103 0x0303).done else .next s
/-- TABLE_EDIT_METER (0x104). -/
def execTableEditMeter (q : Req) (s : State) : Out :=
  if s.running then (s.editReq q 0x104 0x0304).done else .next s
/-- TABLE_EDIT_VLAN (0x105). -/
def execTableEditVlan (q : Req) (s : State) : Out :=
  if s.running then (s.editReq q 0x105 0x0305).done else .next s
/-- TABLE_EDIT_FDB (0x106). -/
def execTableEditFdb (q : Req) (s : State) : Out :=
  if s.running then (s.editReq q 0x106 0x0306).done else .next s
/-- TABLE_EDIT_MCAST (0x107). -/
def execTableEditMcast (q : Req) (s : State) : Out :=
  if s.running then (s.editReq q 0x107 0x0307).done else .next s
/-- TABLE_EDIT_RULE (0x108). -/
def execTableEditRule (q : Req) (s : State) : Out :=
  if s.running then (s.editReq q 0x108 0x0308).done else .next s

/-- TABLE_EDIT_BATCH (0x1FF): SW records of types 0x0302 to 0x0308 and version 1, all as one
generation, or none (R207). The bulk descriptor is the last two body words (R90); an instance word
before it is accepted and unused (log 45). -/
def execTableEditBatch (q : Req) (s : State) : Out :=
  if s.running then
    let n := if q.body.length = 3 then 3 else 2
    (s.serve q 0x1FF n (fun s =>
      let b := s.bulkRead q.src.val (q.word (n - 1)) (q.word n)
      if !bulkOk q.src.val (q.word (n - 1)) (q.word n) || 65536 < q.word n then .inr 0x12
      else match takeRecs 4096 b with
        | none => .inr 0x12
        | some (rs, crcs, clean) =>
          if !crcs || !clean || rs.isEmpty || rs.any (fun r => r.typ < 0x0302 || 0x0308 < r.typ || r.ver ≠ 1) then .inr 0x12
          else .inl (s.editServe q 0x1FF rs))).done
  else .next s

/-- SW.QUOTA into the quota registers (Table 6-10: units of 4 cells). -/
def State.applyQuota (s : State) (inst : Nat) (b : List Byte) : State :=
  { s with sw := { s.sw with
      pmax := s.sw.pmax.set inst (BitVec.ofNat 16 (rdLE b 0 4 / 4)),
      qcfg := (List.range 8).foldl (fun (t : Tab Word) c =>
        t.set (8 * inst + c) (BitVec.ofNat 32 (rdLE b (12 + 8 * c) 4 / 4 * 2 ^ 16 + rdLE b (8 + 8 * c) 4 / 4)))
        s.sw.qcfg } }

/-- QUOTA_CHANGE (0x709, R208). -/
def execQuotaChange (q : Req) (s : State) : Out :=
  if s.running then
    (s.serve q 0x709 3 (fun s =>
      let b := s.bulkRead q.src.val (q.word 2) (q.word 3)
      if !bulkOk q.src.val (q.word 2) (q.word 3) || !swQuotaOk (q.word 1) b then .inr 0x12
      else
        let t := s.applyQuota (q.word 1) b
        if t.reserves + 65536 ≤ 262144 then .inl (t.finish q 0x709) else .inr 0x18)).done
  else .next s

end Sys2Proof.Machine
end

