-- ==== Sys2Proof/Machine/Flow.lean ====
section
/-! DEFINITION. Branches, loops, the REP prefix and the string instructions (R323 to R330). -/

namespace Sys2Proof.Machine

/-! ### Branches and jumps -/

/-- The target of format B: pc + 4 × sext(off22). -/
def State.target (s : State) (e w : Nat) : Nat :=
  ((s.core e).pc.toNat + 4 * sext 22 (bits w 21 0)) % 2 ^ 32

/-- BR. -/
def execBr (i : Issue) (s : State) : Out :=
  s.instr i { major := 0x14 } (fun s e w => .jump s (s.target e w))

/-- CALL: w31 := pc + 4. -/
def execCall (i : Issue) (s : State) : Out :=
  s.instr i { major := 0x15 } (fun s e w =>
    .jump (s.setCore e ((s.core e).setR 31 ((s.core e).pc.toNat + 4))) (s.target e w))

/-- A row of major 0x16. -/
def jmpRow (fn : Nat) : Row where
  major := 0x16
  is w := fFn w == fn
  rsv w := 2 < fFn w

/-- A register target is below the bank's end and 4-aligned; `f` prepares the state (R323). -/
def State.jumpTo (s : State) (a : Nat) (f : State → State) : Eff :=
  match accessCheck a 4 with
  | some cause => .trap s cause a
  | none => .jump (f s) a

/-- JR. -/
def execJr (i : Issue) (s : State) : Out :=
  s.instr i (jmpRow 0) (fun s e w => s.jumpTo ((s.core e).r (fRs1 w)) id)

/-- JALR: rd := pc + 4. -/
def execJalr (i : Issue) (s : State) : Out :=
  s.instr i (jmpRow 1) (fun s e w =>
    s.jumpTo ((s.core e).r (fRs1 w))
      (fun s => s.setCore e ((s.core e).setR (fRd w) ((s.core e).pc.toNat + 4))))

/-- RETI (R340): ILLEGAL with exc 0. -/
def execReti (i : Issue) (s : State) : Out :=
  s.instr i { jmpRow 2 with badIn := fun c _ => !c.exc } (fun s e _ =>
    let c := s.core e
    .jump (s.setCore e { c with pr := c.epr ||| 1, loops := c.eloops, gie := true, exc := false })
      c.epc.toNat)

/-! ### Loops -/

/-- LOOP (R325). -/
def execLoop (i : Issue) (s : State) : Out :=
  s.instr i { major := 0x17, bad := fun w => !tst w 11 && bits w 10 5 != 0 } (fun s e w =>
    let c := s.core e
    let a := c.pc.toNat
    let len := bits w 21 12 + 1
    let n := if tst w 11 then bits w 10 0 else c.r (bits w 4 0)
    if n = 0 then .jump s ((a + 4 * len + 4) % 2 ^ 32)
    else if 2 ≤ c.loops.depth then .trap s cLOOPERR 0
    else
      let l := c.loops
      let l := if l.depth = 1 then { l with lc1 := l.lc0, ls1 := l.ls0, le1 := l.le0 } else l
      let l := { l with lc0 := BitVec.ofNat 32 n, ls0 := BitVec.ofNat 32 (a + 4),
                        le0 := BitVec.ofNat 32 (a + 4 * len), depth := l.depth + 1 }
      .jump (s.setCore e { c with loops := l }) (a + 4))

/-! ### The REP prefix (R328) -/

/-- `next` is the instruction at the following address. -/
def State.rep (s : State) (i : Issue) (next : Word) (fn : Nat) : Out :=
  s.instr i { major := 0x18, is := fun w => fFn w == fn, rsv := fun w => 1 < fFn w,
              bad := fun w => bits w 31 28 != 0 || bits w 21 7 != 0 } (fun s e _ =>
    let c := s.core e
    let n := next.toNat
    if bankEnd ≤ c.pc.toNat + 4 then .trap s cACCESS bankEnd
    else if bits n 27 22 ≠ 0x19 || bits n 6 4 = 5 then .trap s cILLEGAL 0
    else if c.loops.depth ≠ 0 && c.loops.le0 == c.pc then .trap s cLOOPERR 0
    else .jump (s.setCore e { c with rep := some (fn = 0) }) (c.pc.toNat + 4))

/-- REP.I. -/
def execRepI (i : Issue) (next : Word) (s : State) : Out := s.rep i next 0

/-- REP.A. -/
def execRepA (i : Issue) (next : Word) (s : State) : Out := s.rep i next 1

/-! ### String instructions (R327, Table 11-5) -/

/-- What one iteration does: it traps, stops by itself with a predicate, or advances. -/
inductive Iter where
  | trap (cause addr : Nat)
  | stop (pd : Bool)
  | step (s : State)

/-- The checks of an iteration's accesses: an ACCESS of either comes before a MISALIGN (R341). -/
def strCheck (l : List Nat) (k : Nat) : Option (Nat × Nat) :=
  match l.find? (bankEnd ≤ ·) with
  | some a => some (cACCESS, a)
  | none => match l.find? (· % k ≠ 0) with
    | some a => some (cMISALIGN, a)
    | none => none

/-- sa, da and sc, and their values after an iteration. -/
abbrev EngCore.sa (c : EngCore) : Nat := c.r 25
abbrev EngCore.da (c : EngCore) : Nat := c.r 26
abbrev EngCore.sc (c : EngCore) : Nat := c.r 27
def EngCore.adv (c : EngCore) (dsa dda : Nat) : EngCore :=
  ((c.setR 25 (c.sa + dsa)).setR 26 (c.da + dda)).setR 27 (c.sc + 2 ^ 32 - 1)

/-- A string row: size 3, non-zero zero fields, and the sub-fields of Table 11-5. -/
def strRow (op : Nat) : Row where
  major := 0x19
  is w := bits w 6 4 == op
  rsv w := 5 < bits w 6 4
  bad w := bits w 13 7 != 0 || bits w 1 0 == 3 ||
    (if op = 4 then bits w 3 2 == 3 || bits w 1 0 != 0 else bits w 3 2 != 0) ||
    ((op = 0 || op = 1 || op = 4) && bits w 16 14 != 0) ||
    (op = 5 && (bits w 21 17 % 2 != 0 || bits w 21 17 < 2 || 22 < bits w 21 17))

/-- Element size of a string instruction. -/
def strSize (w : Nat) : Nat := 2 ^ bits w 1 0

/-- One iteration retires and the repetition goes on: REP keeps pc (R343). -/
def State.retireIter (s : State) (e : Nat) : State := s.retire e (some (s.core e).pc.toNat)

/-- The instruction ends: pd written where the operation has one, REP over. -/
def State.strEnd (s : State) (e : Nat) (pd : Option (Nat × Bool)) : State :=
  let c := { s.core e with rep := none }
  (s.setCore e (match pd with
    | some p => c.setP p.1 p.2
    | none => c)).retire e none

/-- Iterations of a string instruction: one without REP and per command under REP.I; under REP.A
all of them. `res` gives pd at the end by sc = 0. -/
def State.strRun (it : State → Nat → Iter) (hasPd : Option Nat) (zero : Bool) (e w : Nat) :
    Nat → State → State
  | 0, s => s
  | f + 1, s =>
    let c := s.core e
    let pd (b : Bool) := hasPd.map (fun p => (p, b))
    if c.sc = 0 then s.strEnd e (pd zero)
    else match it s w with
    | .trap cause addr => s.trap e cause 0 addr
    | .stop b => s.strEnd e (pd b)
    | .step t =>
      if (t.core e).sc = 0 || c.rep.isNone then t.strEnd e (pd zero)
      else if c.rep = some true then t.retireIter e
      else State.strRun it hasPd zero e w f (t.retireIter e)

/-- A string instruction: REP.A with sc > 64 traps before any iteration (R328). -/
def State.str (s : State) (i : Issue) (op : Nat) (pd zero : Bool) (it : State → Nat → Iter) : Out :=
  s.instr i (strRow op) (fun s e w =>
    if (s.core e).rep = some false && 64 < (s.core e).sc then .trap s cREPCNT 0
    else .stall (s.strRun it (if pd then some (bits w 16 14) else none) zero e w 65))

/-- SMOV. -/
def execSmov (i : Issue) (s : State) : Out :=
  s.str i 0 false false (fun s w =>
    let e := i.eng.val
    let c := s.core e
    let k := strSize w
    match strCheck [c.sa, c.da] k with
    | some t => .trap t.1 t.2
    | none => .step ((s.bankStore e c.da (s.bankBytes e c.sa k)).setCore e (c.adv k k)))

/-- SFIL. -/
def execSfil (i : Issue) (s : State) : Out :=
  s.str i 1 false false (fun s w =>
    let e := i.eng.val
    let c := s.core e
    let k := strSize w
    match strCheck [c.da] k with
    | some t => .trap t.1 t.2
    | none => .step ((s.bankStore e c.da (leBytes k (c.r (fRd w)))).setCore e (c.adv 0 k)))

/-- SCMP: pd 0 at a mismatch, 1 by sc = 0. -/
def execScmp (i : Issue) (s : State) : Out :=
  s.str i 2 true true (fun s w =>
    let e := i.eng.val
    let c := s.core e
    let k := strSize w
    match strCheck [c.sa, c.da] k with
    | some t => .trap t.1 t.2
    | none =>
      if s.bankBytes e c.sa k = s.bankBytes e c.da k then .step (s.setCore e (c.adv k k)) else .stop false)

/-- SSCN: pd 1 when found, 0 by sc = 0. -/
def execSscn (i : Issue) (s : State) : Out :=
  s.str i 3 true false (fun s w =>
    let e := i.eng.val
    let c := s.core e
    let k := strSize w
    match strCheck [c.sa] k with
    | some t => .trap t.1 t.2
    | none =>
      if s.bankBytes e c.sa k = leBytes k (c.r (fRd w)) then .stop true else .step (s.setCore e (c.adv k 0)))

/-- The polynomials of SCRC (R329). -/
def scrcPoly (k : Nat) : Word := if k = 0 then 0x82F63B78 else if k = 1 then 0xA6BC else 0xA001

/-- SCRC: one byte folded into r. -/
def execScrc (i : Issue) (s : State) : Out :=
  s.str i 4 false false (fun s w =>
    let e := i.eng.val
    let c := s.core e
    match strCheck [c.sa] 1 with
    | some t => .trap t.1 t.2
    | none =>
      let r := crcByte (scrcPoly (bits w 3 2)) (BitVec.ofNat 32 (c.r (fRd w))) (s.bankByte e c.sa)
      .step (s.setCore e ((c.setR (fRd w) r.toNat).adv 1 0)))

/-! ### SBER (R330) -/

/-- A decode in progress: a failure, an access beyond the bank, or a result. -/
inductive Ber (α : Type) where
  | fail
  | access (a : Nat)
  | ok (v : α)

def Ber.bind {α β : Type} (x : Ber α) (f : α → Ber β) : Ber β :=
  match x with
  | .fail => .fail
  | .access a => .access a
  | .ok v => f v

/-- Byte `j` of the `sc` bytes at sa. -/
def State.berByte (s : State) (e j : Nat) : Ber Nat :=
  let c := s.core e
  if c.sc ≤ j then .fail
  else
    let a := (c.sa + j) % 2 ^ 32
    if bankEnd ≤ a then .access a else .ok (s.bankByte e a).toNat

/-- A high tag number: base-128 octets from byte `j`, at most `f` of them; the number and the byte
after it. -/
def State.berTag (s : State) (e : Nat) : Nat → Nat → Nat → Ber (Nat × Nat)
  | 0, _, _ => .fail
  | f + 1, j, t => (s.berByte e j).bind (fun b =>
      let t := t * 128 + b % 128
      if tst b 7 then s.berTag e f (j + 1) t else .ok (t, j + 1))

/-- `n` length octets from byte `j`. -/
def State.berLen (s : State) (e : Nat) : Nat → Nat → Nat → Ber Nat
  | 0, _, t => .ok t
  | n + 1, j, t => (s.berByte e j).bind (fun b => s.berLen e n (j + 1) (t * 256 + b))

/-- Identifier and length: r, r + 1 and the bytes consumed. -/
def State.ber (s : State) (e : Nat) : Ber (Nat × Nat × Nat) :=
  (s.berByte e 0).bind (fun b0 =>
  (if bits b0 4 0 = 31 then s.berTag e 4 1 0 else .ok (bits b0 4 0, 1)).bind (fun (t, j) =>
  (s.berByte e j).bind (fun l =>
    let r := bits b0 7 6 * 2 ^ 30 + bits b0 5 5 * 2 ^ 29 + t
    if l < 0x80 then .ok (r, l, j + 1)
    else if l = 0x80 then .ok (r, 2 ^ 32 - 1, j + 1)
    else if 0x84 < l then .fail
    else (s.berLen e (l - 0x80) (j + 1) 0).bind (fun n => .ok (r, n, j + 1 + (l - 0x80))))))

/-- SBER. -/
def execSber (i : Issue) (s : State) : Out :=
  s.instr i (strRow 5) (fun s e w =>
    let c := s.core e
    let r := fRd w
    match s.ber e with
    | .access a => .trap s cACCESS a
    | .fail => .go (s.setCore e (c.setP (bits w 16 14) false))
    | .ok (v, len, n) =>
      .go (s.setCore e (((((c.setR r v).setR (r + 1) len).setR 25 (c.sa + n)).setR 27
        (c.sc + 2 ^ 32 - n)).setP (bits w 16 14) true)))

end Sys2Proof.Machine
end

