-- ==== Sys2Proof/Machine/ImageRec.lean ====
section
/-! DEFINITION. The records that A2 knows: their lengths (check 10 of R64), and the ranges of their fields
(check 13), record by record. `s` is the device with the image's records in force. -/

namespace Sys2Proof.Machine

/-- An `n`-byte field at `off` lies from `lo` to `hi`. -/
def rng (b : List Byte) (off n lo hi : Nat) : Bool := lo ≤ rdLE b off n && rdLE b off n ≤ hi

/-- The bytes from `off` are reserved and 0. -/
def zer (b : List Byte) (off n : Nat) : Bool := rdLE b off n == 0

/-- The bodies that a known type allows, by length (check 10); none: the type is unknown to A2 (R73). -/
def recLen (typ : Nat) (b : List Byte) : Option Bool :=
  let n := b.length
  let fixed (k : Nat) : Option Bool := some (n == k)
  match typ with
  | 0x0101 => fixed 40 | 0x0102 => fixed 20 | 0x0103 => fixed 8 | 0x0104 => fixed 16 | 0x0105 => fixed 8
  | 0x0201 => fixed 8 | 0x0202 => fixed (24 + 8 * byteAt b 0x11) | 0x0203 => fixed 16 | 0x0204 => fixed 8
  | 0x0205 => some (n % 8 == 0 && 8 ≤ n && n ≤ 512)
  | 0x0301 => fixed 144 | 0x0302 => fixed 48 | 0x0303 => fixed 8 | 0x0304 => fixed 24 | 0x0305 => fixed 24
  | 0x0306 => some (n % 16 == 0 && 16 ≤ n && n ≤ 16 * 65536)
  | 0x0307 => fixed 16 | 0x0308 => fixed 80 | 0x0309 => fixed 72
  | 0x0401 => fixed 16 | 0x0402 => fixed 16 | 0x0403 => fixed 24 | 0x0404 => fixed 32 | 0x0405 => fixed 8
  | 0x0501 => fixed 8 | 0x0502 => fixed (24 + 8 * gateCount b) | 0x0503 => fixed 16
  | 0x0504 => fixed (16 + 16 * canCount b) | 0x0505 => fixed 16
  | 0x0601 => fixed 16 | 0x0602 => some (n % 8 == 0 && 8 ≤ n && n ≤ 2048) | 0x0603 => fixed 8
  | 0x0604 => fixed 16 | 0x0605 => fixed 16
  | 0x0701 => fixed 16 | 0x0702 => fixed 16 | 0x0703 => fixed 24 | 0x0704 => fixed 16 | 0x0705 => fixed 8
  | 0x0706 => fixed 16 | 0x0707 => some (n % 20 == 0 && 20 ≤ n && n ≤ 20 * 4096) | 0x0708 => fixed 16
  | 0x0801 => fixed 32 | 0x0802 => fixed 8 | 0x0803 => some (n == 0 || (4 ≤ n && n ≤ 262144))
  | 0x0804 => fixed 32 | 0x0805 => fixed (16 + 64 * byteAt b 2 + rdLE b 8 2) | 0x0806 => fixed 16
  | 0x0901 => fixed 32 | 0x0902 => fixed 32 | 0x0903 => fixed 32
  | 0x0A01 => fixed 8 | 0x0A02 => fixed 16 | 0x0A03 => fixed (72 + 4 * byteAt b 0x41)
  | 0x0B01 => fixed 24 | 0x0C01 => fixed 32 | 0x0C02 => fixed 16
  | 0x0D01 => fixed 16 | 0x0D02 => fixed 8
  | 0x0E01 => fixed 136 | 0x0E02 => fixed 16 | 0x0E03 => fixed 16
  | _ => none

/-- The type and version are known to A2; every record of the spec is of version 1. -/
def recKnown (r : Rec) : Bool := (recLen r.typ r.body).isSome && r.ver == 1

/-- The instances a type allows (check 13). -/
def instMax (typ : Nat) : Nat × Nat :=
  match typ with
  | 0x0201 => (0, 15) | 0x0202 => (0, 63) | 0x0203 => (0, 31) | 0x0204 => (0, 3)
  | 0x0302 => (0, 67) | 0x0303 => (2, 31) | 0x0304 => (0, 1023) | 0x0305 => (1, 4094) | 0x0307 => (0, 8191)
  | 0x0308 => (0, 1023) | 0x0309 => (0, 83) | 0x0403 => (0, 67)
  | 0x0502 => (0, 63) | 0x0503 => (0, 7) | 0x0504 => (0, 15) | 0x0505 => (0, 255)
  | 0x0603 => (0, 3) | 0x0604 => (0, 1023) | 0x0605 => (0, 255)
  | 0x0702 => (0, 4095) | 0x0703 => (1, 255) | 0x0704 => (0, 1023) | 0x0705 => (0, 35) | 0x0706 => (1, 64)
  | 0x0707 => (0, 4095) | 0x0708 => (0, 15)
  | 0x0801 => (0, 31) | 0x0802 => (0, 1023) | 0x0803 => (0, 31) | 0x0804 => (0, 31) | 0x0805 => (0, 31)
  | 0x0806 => (0, 15) | 0x0901 => (0, 15) | 0x0902 => (0, 1023) | 0x0903 => (0, 15)
  | 0x0A01 => (0, 7) | 0x0A02 => (0, 63) | 0x0A03 => (0, 7) | 0x0C02 => (0, 2) | 0x0D01 => (0, 55)
  | 0x0E02 => (0, 63) | 0x0E03 => (0, 255)
  | _ => (0, 0)

/-! ### DEV, PORT (Tables 2-13 to 2-17, 5-15 to 5-19) -/

def devOk (typ : Nat) (b : List Byte) : Bool :=
  match typ with
  | 0x0101 => zer b 0x26 2
  | 0x0102 => byteAt b 0 ≤ 2 && zer b 1 3 &&
    (List.range 16).all (fun k => byteAt b (4 + k) ≤ 2 || byteAt b (4 + k) == 0xFF)
  | 0x0103 => byteAt b 0 ≤ 1 && byteAt b 1 ≤ 1 && rng b 2 2 10 1000 && zer b 4 4
  | 0x0104 => rng b 0 1 1 4 && byteAt b 1 ≤ 6 && byteAt b 2 ≤ 1 && rng b 3 1 1 2 &&
    (byteAt b 4 == 0 || rng b 4 1 9 24) && (byteAt b 5 == 0 || rng b 5 1 9 20) && zer b 6 2 &&
    (zer b 8 2 || rng b 8 2 160 550) && byteAt b 10 ≤ 1 && zer b 11 1 && rng b 12 1 1 3 && zer b 13 3
  | _ => rdLE b 0 4 < 1024 && rdLE b 4 2 ≤ 10000 && zer b 6 2

/-- The mode of a lane that PORT.LANE sets. -/
def State.laneRec (s : State) (n : Nat) : Nat := s.fld 0x0201 (n / 4) 0 1 0

/-- A station port exists on an enabled lane of the image (R146). -/
def State.portInImage (s : State) (n : Nat) : Bool :=
  let m := s.laneRec n
  m == 1 || m == 2 || (3 ≤ m && m ≤ 5 && n % 4 == 0)

def State.portRecOk (s : State) (r : Rec) : Bool :=
  let b := r.body
  match r.typ with
  | 0x0201 => byteAt b 0 ≤ 5 && byteAt b 1 ≤ 3 && zer b 2 6 &&
    (byteAt b 0 != 2 || s.fld 0x0103 0 1 1 1 == 1)
  | 0x0202 => !tst (byteAt b 0) 0 && byteAt b 6 ≤ 4 && byteAt b 7 ≤ 15 && rng b 0xA 2 1518 9216 &&
    rng b 0xC 2 1 1000 && rng b 0xE 2 10 10000 && byteAt b 0x10 ≤ 3 && byteAt b 0x11 ≤ 32 && zer b 0x12 6 &&
    (List.range (byteAt b 0x11)).all (fun k => !tst (byteAt b (0x18 + 8 * k)) 0 && zer b (0x1E + 8 * k) 2) &&
    s.portInImage r.inst && (byteAt b 6 == 0 || (offers (s.laneRec r.inst)).contains (byteAt b 6 - 1))
  | 0x0203 =>
    let on (p : Nat) : Bool := p < 64 && s.portInImage p && tst (s.fld 0x0202 p 7 1 0) 0
    let names (x : Rec) (p : Nat) : Bool := byteAt x.body 1 == p || byteAt x.body 2 == p
    rng b 0 1 1 2 && on (byteAt b 1) && on (byteAt b 2) && byteAt b 1 / 4 != byteAt b 2 / 4 &&
    byteAt b 3 ≤ 3 && (byteAt b 0 == 1 || !tst (byteAt b 3) 1) && rng b 4 2 10 1000 && rng b 6 2 1000 10000 &&
    (if byteAt b 0 = 2 then rng b 8 1 1 7 else zer b 8 1) && zer b 9 7 &&
    (s.recsOf 0x0203).all (fun x => x.inst == r.inst || !(names x (byteAt b 1) || names x (byteAt b 2)))
  | 0x0204 => byteAt b 0 ≤ 1 && byteAt b 1 ≤ byteAt b 0 && byteAt b 2 ≤ 3 && zer b 3 5
  | _ => (List.range (b.length / 8)).all (fun k =>
      let o := 8 * k
      let c := byteAt b (o + 1)
      byteAt b o ≤ 3 && (c == 22 || c == 45) && byteAt b (o + 2) ≤ 31 &&
      (if c = 22 then zer b (o + 3) 1 && rdLE b (o + 4) 2 ≤ 31 else decide (byteAt b (o + 3) ≤ 31)))

/-! ### TIME, TT (Tables 4-14 to 4-18, 7-9 to 7-13) -/

def State.timeRecOk (s : State) (r : Rec) : Bool :=
  let b := r.body
  match r.typ with
  | 0x0401 =>
    let uses (k : Nat) : Bool := byteAt b 0 == k || byteAt b 1 == k
    byteAt b 0 ≤ 3 && byteAt b 1 ≤ 3 && (byteAt b 1 == 0 || byteAt b 1 != byteAt b 0) && rng b 2 2 1 60 &&
    rdLE b 4 2 ≤ 255 && byteAt b 6 ≤ 2 && byteAt b 7 ≤ 2 && rng b 8 2 1 900 && rdLE b 0xA 2 ≤ 10000 && zer b 0xC 4 &&
    (!uses 2 || s.fld 0x0405 0 0 1 0xFF != 0xFF) && (!uses 1 || s.fld 0x0404 0 0 1 0 != 0)
  | 0x0402 => rng b 0 2 1 65535 && rng b 4 4 10 100000 && rng b 8 4 1000 1000000000 &&
    2 * rdLE b 4 4 ≤ rdLE b 8 4 && rng b 0xC 2 1 500 && rng b 0xE 1 1 16 && zer b 0xF 1
  | 0x0403 => (List.range 8).all (fun k => rdLE b (2 * k) 2 ≤ 32767) &&
    (r.inst < 64 || (zer b 4 4 && zer b 0xC 4)) &&
    (let a := toSigned 32 (rdLE b 0x10 4); -100000 ≤ a && a ≤ 100000) && zer b 0x14 4
  | 0x0404 =>
    let sig (off : Nat) (lo hi : Int) : Bool := let v := toSigned 8 (byteAt b off); lo ≤ v && v ≤ hi
    byteAt b 0 ≤ 3 && byteAt b 1 ≤ 2 && byteAt b 5 ≤ 15 && (byteAt b 1 == 0 || byteAt b 5 < 4) &&
    sig 6 (-4) 1 && byteAt b 7 ≤ 2 && sig 8 (-4) 1 && rng b 9 1 2 10 && zer b 0xA 2 && zer b 0x14 12
  | _ =>
    let pio (o : Nat) : Bool := byteAt b o ≤ 63 || byteAt b o == 0xFF
    pio 0 && pio 1 && (byteAt b 0 == 0xFF || byteAt b 0 != byteAt b 1) && byteAt b 2 ≤ 7 && byteAt b 3 ≤ 1 &&
    byteAt b 4 ≤ 1 && zer b 5 3

/-- A generator is configured, and with consumer bit `k` (Table 7-11). -/
def State.instFor (s : State) (g k : Nat) : Bool := g < 8 && tst (s.fld 0x0503 g 0xC 4 0) k

/-- A context lies in a PERS.CTX range (R297). -/
def State.ctxKnown (s : State) (c : Nat) : Bool :=
  (s.recsOf 0x0802).any (fun r => rdLE r.body 0 2 ≤ c && c < rdLE r.body 0 2 + rdLE r.body 2 2)

def State.ttRecOk (s : State) (r : Rec) : Bool :=
  let b := r.body
  match r.typ with
  | 0x0501 => rng b 0 2 10 1000 && rdLE b 2 2 ≤ 3600 && byteAt b 4 ≤ 1 && zer b 5 3
  | 0x0502 => s.gateOk b
  | 0x0503 => byteAt b 0 ≤ 1 && zer b 1 3 && rng b 4 4 250000 4000000000 && rdLE b 8 4 < rdLE b 4 4 &&
    rdLE b 0xC 4 < 32
  | 0x0504 => canBodyOk b && (s.rec? 0x0901 r.inst).isSome && (s.rec? 0x0903 r.inst).isNone
  | _ =>
    let u := byteAt b 3
    rdLE b 0 2 ≤ 4095 && s.ctxKnown (rdLE b 0 2) && (s.rec? 0x0503 (byteAt b 2)).isSome && byteAt b 2 < 8 &&
    (if u < 64 then (match s.rec? 0x0502 u with | some x => decide (rdLE b 4 2 < gateCount x.body) | none => false)
     else if 0x80 ≤ u && u < 0x90 then
       (match s.rec? 0x0504 (u - 0x80) with | some x => decide (rdLE b 4 2 < Machine.canCount x.body) | none => false)
     else false) &&
    zer b 6 2 && rng b 8 4 1 10000000 && zer b 0xC 4

/-! ### FAB, PNT (Tables 8-11 to 8-15, 9-16 to 9-23) -/

def State.fabRecOk (s : State) (r : Rec) : Bool :=
  let b := r.body
  match r.typ with
  | 0x0601 => rdLE b 0 2 ≤ 4094 && byteAt b 3 ≤ 2 && rng b 4 4 1 0xFFFFFFFF && rdLE b 8 2 ≤ 1000 && zer b 0xA 6 &&
    (byteAt b 3 == 0 || (s.rec? 0x0602 0).isSome)
  | 0x0602 => true
  | 0x0603 => byteAt b 0 ≤ 1 && zer b 1 1 && rng b 2 2 1 65535 && zer b 4 4
  | 0x0604 => rng b 0 2 1 4094 && byteAt b 2 ≤ 1 && byteAt b 3 ≤ 7 && zer b 0xC 4 &&
    (if byteAt b 2 = 0 then rdLE b 4 4 ≤ 4095 && zer b 8 4 else zer b 4 4 && rdLE b 8 4 ≤ 10000) &&
    rdLE b 0 2 != s.fld 0x0601 0 0 2 0
  | _ => rdLE b 0 2 ≤ 4094 && zer b 2 2 && rdLE b 4 4 < 2 ^ 23 && rdLE b 4 4 + rdLE b 8 4 ≤ 2 ^ 23 &&
    rdLE b 0xC 2 ≤ 4095 && rdLE b 0xC 2 + rdLE b 0xE 2 ≤ 4096

/-- A power of 2 between two bounds. -/
def pow2In (v lo hi : Nat) : Bool := lo ≤ v && v ≤ hi && (List.range 25).any (fun k => 2 ^ k == v)

/-- Two spans of (start, length) overlap. -/
def overlaps (a n b m : Nat) : Bool := a < b + m && b < a + n

/-- A deadband under a point type: signed 64-bit not negative, unsigned any, binary64 not negative and no
NaN (Table 9-18). -/
def deadbandOk (typ : Nat) (d : DWord) : Bool :=
  let x := d.toNat
  if typ = 3 || typ = 5 then decide (x < 2 ^ 63)
  else if typ = 6 || typ = 7 then decide (x ≤ 0x7FF0000000000000) || x == 2 ^ 63
  else true

/-- Bytes of DRAM fitted (Table 2-16). -/
def State.dramSize (s : State) : Nat := 2 ^ (30 + s.fld 0x0104 0 0 1 1)

/-- Size of a view's region: the registry or the SOE ring. -/
def State.viewRegion (s : State) (k : Nat) : Nat := if k = 0 then 2 ^ 28 else 32 * s.soeSize

def State.pntRecOk (s : State) (r : Rec) : Bool :=
  let b := r.body
  match r.typ with
  | 0x0701 => (zer b 0 4 || pow2In (rdLE b 0 4) 65536 16777216) && rdLE b 4 4 ≤ rdLE b 0 4 && byteAt b 8 ≤ 1 &&
    zer b 9 7
  | 0x0702 => rdLE b 0 4 < 2 ^ 23 && 1 ≤ rdLE b 4 4 && rdLE b 0 4 + rdLE b 4 4 ≤ 2 ^ 23 && rng b 8 1 1 11 &&
    (byteAt b 9 == 0 || (s.rec? 0x0703 (byteAt b 9)).isSome) && byteAt b 0xA ≤ 1 && zer b 0xB 1 &&
    rdLE b 0xC 4 < 2 ^ 14 &&
    (s.recsOf 0x0702).all (fun x => x.inst == r.inst ||
      !overlaps (rdLE b 0 4) (rdLE b 4 4) (rdLE x.body 0 4) (rdLE x.body 4 4))
  | 0x0703 => (rdLE b 8 2 ≤ 60000) && (byteAt b 0xA != 1) && byteAt b 0xB ≤ 2 && rng b 0xC 2 100 60000 &&
    zer b 0xE 2 && rng b 0x10 4 100 600000 && byteAt b 0x14 ≤ 1 && zer b 0x15 3 &&
    (s.recsOf 0x0702).all (fun x => byteAt x.body 9 != r.inst ||
      deadbandOk (byteAt x.body 8) (BitVec.ofNat 64 (rdLE b 0 8)))
  | 0x0704 => grantOk b
  | 0x0705 =>
    if r.inst < 32 then
      rdLE b 0 4 % 32 == 0 && pow2In (rdLE b 4 2) 64 8192 && zer b 6 2 &&
      rdLE b 0 4 + 32 + 32 * rdLE b 4 2 ≤ bankSize && r.inst == s.lead r.inst
    else zer b 0 4 && pow2In (rdLE b 4 2) 64 1024 && rdLE b 6 2 ≤ rdLE b 4 2
  | 0x0706 => byteAt b 0 ≤ 8 && zer b 1 3 && rdLE b 0xC 4 ≤ 10000 &&
    (if byteAt b 0 = 0 then rng b 4 4 1000 60000000 && rdLE b 8 4 < rdLE b 4 4
     else zer b 4 4 && zer b 8 4 && s.instFor (byteAt b 0 - 1) 3)
  | 0x0707 => (chunks 20 b (b.length / 20)).all (fun e =>
      let x := SubEntry.ofBytes e
      (s.pntRange x.point).isSome && rng e 5 1 1 3 && zer e 13 1 && zer e 16 4 &&
      (match x.kind with
        | 0 => decide (x.target < 4096) && s.ctxKnown x.target
        | 1 => decide (x.target < 4)
        | 2 => decide (x.target < 64) && x.window == 0 && s.fld 0x0A02 x.target 0 1 0 == 3
        | 3 => decide (x.target < 1024)
        | _ => false) &&
      (if x.window = 0 then x.slot == 0 else (s.rec? 0x0706 x.window).isSome))
  | _ => byteAt b 0 ≤ 1 && zer b 1 3 && rdLE b 4 4 % 2 ^ 20 == 0 && rdLE b 8 4 % 2 ^ 20 == 0 &&
    rdLE b 0xC 4 % 2 ^ 20 == 0 && rng b 0xC 4 (2 ^ 20) (2 ^ 28) && rdLE b 4 4 + rdLE b 0xC 4 ≤ 2 ^ 28 &&
    rdLE b 8 4 + rdLE b 0xC 4 ≤ s.viewRegion (byteAt b 0) &&
    (s.recsOf 0x0708).all (fun x => x.inst == r.inst ||
      !overlaps (rdLE b 4 4) (rdLE b 0xC 4) (rdLE x.body 4 4) (rdLE x.body 0xC 4))

/-! ### PERS (Tables 10-4 to 10-6, 10-10, 10-12, 10-14) -/

/-- The contexts an instance may hold (Table 10-1). -/
def ctxLimit (code : Nat) : Nat :=
  match code with
  | 1 => 576 | 2 => 24 | 3 => 48 | 4 => 16 | 5 => 128 | 6 => 128 | 7 => 32 | 8 => 64 | 9 => 128 | 10 => 40
  | 11 => 64 | 12 => 4 | _ => 1024

/-- The contexts that an engine's ranges hold. -/
def State.ctxCount (s : State) (e : Nat) : Nat :=
  ((s.recsOf 0x0802).map (fun r => if byteAt r.body 4 = e then rdLE r.body 2 2 else 0)).foldl (· + ·) 0

def State.persRecOk (s : State) (r : Rec) : Bool :=
  let b := r.body
  match r.typ with
  | 0x0801 =>
    let code := byteAt b 0
    persCode code && byteAt b 1 ≤ 3 && (rdLE b 4 4 == 0xFFFFFFFF || (s.initPoint (rdLE b 4 4)).typ == 4) && (1 ≤ rdLE b 2 2 || code == 0x0C) && rdLE b 0x10 2 ≤ 1023 &&
    rdLE b 0x12 2 ≤ 1024 && byteAt b 0x14 ≤ 7 && zer b 0x15 1 && rdLE b 0x16 2 ≤ 10000 && zer b 0x18 8 &&
    r.inst == s.lead r.inst && (byteAt b 0x14 < 6 || s.twin (r.inst / 2)) &&
    (s.twin (r.inst / 2) || !(code == 0x0B || (tst (byteAt b 1) 0 && (code ≤ 2 || 0x80 ≤ code)))) &&
    1 ≤ s.ctxCount r.inst && s.ctxCount r.inst ≤ ctxLimit code
  | 0x0802 => rdLE b 0 2 ≤ 4095 && 1 ≤ rdLE b 2 2 && rdLE b 0 2 + rdLE b 2 2 ≤ 4096 &&
    (s.rec? 0x0801 (byteAt b 4)).isSome && zer b 6 2 &&
    (s.recsOf 0x0802).all (fun x => x.inst == r.inst ||
      !overlaps (rdLE b 0 2) (rdLE b 2 2) (rdLE x.body 0 2) (rdLE x.body 2 2))
  | 0x0803 => true
  | 0x0804 => rng b 4 1 1 30 && byteAt b 5 ≤ 3 && rdLE b 6 2 ≤ 4094 && rng b 0x12 2 576 1500 &&
    rdLE b 0x14 2 ≤ 256 && byteAt b 0x16 ≤ 63 && byteAt b 0x17 ≤ 7 && zer b 0x18 8
  | 0x0805 => byteAt b 1 ≤ 3 && rng b 2 1 1 8 && zer b 3 1 && rng b 4 4 60 86400 && rng b 8 2 1 4096 && zer b 0xA 6 &&
    s.fld 0x0E03 (byteAt b 0) 0 1 0xFF == 0 && tst (s.fld 0x0E03 (byteAt b 0) 4 4 0) r.inst
  | _ =>
    let g := byteAt b 1
    let pin (p : Nat) : Bool := p / 8 == g
    byteAt b 0 ≤ 31 && (s.rec? 0x0801 (byteAt b 0)).isSome && g ≤ 7 && pin (byteAt b 2) && pin (byteAt b 3) &&
    byteAt b 2 != byteAt b 3 && (byteAt b 4 == 0xFF || pin (byteAt b 4)) && byteAt b 5 < 16 &&
    bits (byteAt b 5) 1 0 ≤ 2 && rdLE b 6 2 ≤ 1000 && rng b 8 4 300 115200 &&
    (zer b 0xC 2 || rng b 0xC 2 2 1000) && zer b 0xE 2 &&
    ((s.recsOf 0x0806).filter (fun x => byteAt x.body 0 == byteAt b 0)).length ≤ 4

/-! ### CAN (Tables 14-11 to 14-13, R409, R429, R431) -/

def State.canRecOk (s : State) (r : Rec) : Bool :=
  let b := r.body
  match r.typ with
  | 0x0901 =>
    let nq := rdLE b 2 2 * (1 + rdLE b 4 2 + byteAt b 6)
    let dq := byteAt b 8 * (1 + byteAt b 9 + byteAt b 0xA)
    let triple := tst (byteAt b 1) 1
    rng b 0 1 1 3 && byteAt b 1 < 32 && rng b 2 2 1 256 && rng b 4 2 2 256 && rng b 6 1 2 128 &&
    1 ≤ byteAt b 7 && byteAt b 7 ≤ byteAt b 6 && rng b 8 1 1 32 && rng b 9 1 1 32 && rng b 0xA 1 1 16 &&
    1 ≤ byteAt b 0xB && byteAt b 0xB ≤ byteAt b 0xA && byteAt b 0xC ≤ 127 && byteAt b 0xD ≤ 127 &&
    (byteAt b 0xE == 0xFF || (byteAt b 0xE ≤ 15 && byteAt b 0xE != r.inst)) && rng b 0xF 1 1 15 &&
    byteAt b 0x10 ≤ 1 && rdLE b 0x12 2 ≤ 1000 && rng b 0x14 2 10 1000 && zer b 0x16 10 &&
    80 ≤ nq && nq ≤ 8000 && (!tst (byteAt b 1) 0 || (10 ≤ dq && dq ≤ nq)) && (!triple || 640 ≤ nq) &&
    (!tst (byteAt b 1) 2 || byteAt b 8 ≤ 2)
  | 0x0902 =>
    let id := rdLE b 0 4
    let ide := tst id 29
    let fl := byteAt b 9
    let fd := tst fl 0
    let tx := byteAt b 8 == 2
    let len := byteAt b 0xA
    let pt := rdLE b 0x10 4
    let bound := tst pt 31
    let trig := byteAt b 0xB
    let bitLen := 8 * byteAt b 0x14 + byteAt b 0x15 + byteAt b 0x16
    (s.rec? 0x0901 (r.inst / 64)).isSome && id < 2 ^ 30 && (ide || bits id 28 11 == 0) &&
    rdLE b 4 4 < 2 ^ 29 && (!tx || zer b 4 4) && (byteAt b 8 == 1 || tx) && fl < 64 &&
    (!(fd || tst fl 1) || tst (s.fld 0x0901 (r.inst / 64) 1 1 0) 0) &&
    (if tx then len ≤ 8 || (fd && [12, 16, 20, 24, 32, 48, 64].contains len) else len == 0) &&
    (if tx then trig ≤ 3 else trig == 0) &&
    (if trig = 1 then rng b 0xC 4 1000 60000000
     else if trig = 2 then s.instFor (rdLE b 0xC 4) 2 else zer b 0xC 4) &&
    bits pt 30 23 == 0 && (!bound || (s.pntRange (bits pt 22 0)).isSome) &&
    (!bound || byteAt b 8 != 1 || (s.recsOf 0x0902).all (fun x => x.inst == r.inst ||
      byteAt x.body 8 != 1 || rdLE x.body 0x10 4 != pt)) &&
    byteAt b 0x14 ≤ 63 && byteAt b 0x15 ≤ 7 && (!bound || (rng b 0x16 1 1 64 &&
      bitLen ≤ 8 * (if tx then len else 64))) && byteAt b 0x17 ≤ 3 &&
    (if bound && !tx then zer b 0x18 4 || rng b 0x18 4 10 600000 else zer b 0x18 4) && zer b 0x1C 4
  | _ =>
    let p := s.fld 0x0901 r.inst 0xE 1 0xFF
    byteAt b 0 ≤ 1 && byteAt b 1 ≤ 63 && rdLE b 2 2 < 2048 && rdLE b 2 2 % 64 == 0 && rng b 4 2 10 10000 &&
    rng b 6 1 2 16 && byteAt b 7 ≤ 1 && rng b 8 4 10 60000 &&
    (zer b 0xC 4 || (rng b 0xC 4 60 86400 && byteAt b 0 == 1)) && rng b 0x10 2 1 1000 && zer b 0x12 2 &&
    bits (rdLE b 0x14 4) 30 23 == 0 && rdLE b 0x18 4 < 2 ^ 30 && rdLE b 0x1C 4 < 2 ^ 29 &&
    (s.rec? 0x0901 r.inst).isSome && (s.rec? 0x0504 r.inst).isNone &&
    (p == 0xFF || (match s.rec? 0x0903 p with | some x => byteAt x.body 1 != byteAt b 1 | none => true))

/-! ### CHIVE, REC, AGE, HOST, SEC -/

/-- The owners of a pin (R434). -/
def State.pinOwners (s : State) (p : Nat) : Nat :=
  ((s.recsOf 0x0806).map (fun r => bit (byteAt r.body 2 == p) + bit (byteAt r.body 3 == p) +
    bit (byteAt r.body 4 == p))).foldl (· + ·) 0 +
  bit (s.fld 0x0405 0 0 1 0xFF == p) + bit (s.fld 0x0405 0 1 1 0xFF == p) +
  bit (1 ≤ s.fld 0x0A02 p 0 1 0 || (p % 2 == 1 && s.fld 0x0A02 (p - 1) 0 1 0 == 2))

def State.miscRecOk (s : State) (r : Rec) : Bool :=
  let b := r.body
  match r.typ with
  | 0x0A01 => rng b 0 1 1 16 && byteAt b 1 ≤ 1 && zer b 2 6
  | 0x0A02 =>
    let f := byteAt b 0
    let typ := match s.pntRange (rdLE b 4 4) with | some x => byteAt x.body 8 | none => 0
    f ≤ 3 && byteAt b 1 ≤ 1 && (if f = 1 then typ == 1 else if f = 2 then typ == 2 else zer b 4 4) &&
    (if f = 3 then rdLE b 8 2 ≤ 60000 else zer b 8 2) &&
    (if f = 3 then byteAt b 0xA == 0 || s.instFor (byteAt b 0xA - 1) 1 else zer b 0xA 1) && zer b 0xB 5 &&
    (f != 2 || (r.inst % 2 == 0 && s.fld 0x0A02 (r.inst + 1) 0 1 0 == 0))
  | 0x0A03 => chiveProgOk b
  | 0x0B01 => (List.range 16).all (fun k => byteAt b k == 0 || rng b k 1 2 64) && rdLE b 0x10 2 ≤ 10000 &&
    rng b 0x12 1 10 100 && zer b 0x13 5
  | 0x0C01 => (maskBits 64 (rdLE b 0 8)).all (fun i => i == 3 || i == 4 || (7 ≤ i && i ≤ 9) || (30 ≤ i && i ≤ 45)) &&
    rng b 8 2 720 900 && rng b 0xA 1 5 100 && rng b 0xB 1 20 200 && byteAt b 0xA + 10 ≤ byteAt b 0xB &&
    rng b 0xC 1 10 100 && rng b 0xD 1 60 125 && rdLE b 0xE 2 ≤ 240 && rng b 0x10 1 4 32 && rng b 0x11 1 10 200 &&
    rng b 0x12 1 50 100 && zer b 0x13 13
  | 0x0C02 =>
    byteAt b 0 ≤ 1 && (if byteAt b 0 = 0 then byteAt b 1 ≤ 15 && zer b 2 1
      else byteAt b 1 ≤ 127 && (byteAt b 2 ≤ 31 || byteAt b 2 == 0xFF)) && zer b 3 1 &&
    rng b 4 2 720 900 && rdLE b 4 2 % 5 == 0 && rng b 6 2 800 900 && rdLE b 6 2 % 5 == 0 && 720 ≤ rdLE b 8 2 &&
    rdLE b 8 2 ≤ rdLE b 6 2 && rdLE b 8 2 % 5 == 0 && rdLE b 8 2 ≤ rdLE b 4 2 && rdLE b 4 2 ≤ rdLE b 6 2 &&
    rng b 0xA 2 10 1000 && zer b 0xC 4
  | 0x0D01 =>
    let home := byteAt b 0
    let fr := byteAt b 1
    let far := rdLE b 8 8
    let odd (m : Nat) : Bool := m < 32 && m != s.lead m
    (home ≤ 33 || home == 0xFF) && (fr ≤ 33 || fr == 0xFF) && zer b 2 6 && far < 2 ^ 34 && !(home ≤ 33 && tst far home) &&
    (fr == 0xFF || tst far fr) && !odd home && !odd fr && (maskBits 32 far).all (fun m => !odd m) &&
    (home != 0xFF || far == 0)
  | 0x0D02 => rng b 0 1 1 3 && zer b 1 1 && rdLE b 2 2 < 2 ^ 14 && zer b 4 4
  | 0x0E01 => rdLE b 0 4 < 2 ^ 14 && zer b 0x84 4 && (List.range 32).all (fun e =>
      let w := rdLE b (4 + 4 * e) 4
      w < 2 ^ 22 && bits w 15 14 == 0 && bits w 21 16 ≤ 55)
  | 0x0E02 =>
    let off := rdLE b 8 4
    let size := rdLE b 0xC 4
    let rw := byteAt b 1 == 1
    byteAt b 0 ≤ 1 && byteAt b 1 ≤ 1 && zer b 2 2 && off % 4096 == 0 && size % 4096 == 0 && rng b 0xC 4 4096 (2 ^ 26) &&
    (if byteAt b 0 = 0 then off + size ≤ 0x9C000
     else off + size ≤ s.dramSize && !overlaps off size 0x40800000 0x8000000) &&
    (!rw || (match maskBits 32 (rdLE b 4 4) with
      | [_] => true
      | [x, y] => x / 2 == y / 2 && s.twin (x / 2)
      | _ => false)) &&
    (s.recsOf 0x0E02).all (fun x => x.inst == r.inst || byteAt x.body 0 != byteAt b 0 ||
      !(rw || byteAt x.body 1 == 1) || !overlaps off size (rdLE x.body 8 4) (rdLE x.body 0xC 4))
  | _ => byteAt b 0 ≤ 4 && byteAt b 1 ≤ 1 && (byteAt b 1 == 0 || rng b 0 1 2 4) && zer b 2 2 && zer b 8 8

/-- Every field of a record lies within the range its chapter defines (check 13). -/
def State.recValOk (s : State) (r : Rec) : Bool :=
  let i := instMax r.typ
  i.1 ≤ r.inst && r.inst ≤ i.2 &&
  (match r.typ / 256 with
   | 1 => devOk r.typ r.body
   | 2 => s.portRecOk r
   | 3 =>
     if r.typ = 0x0301 then swCoreOk r.body
     else if r.typ = 0x0309 then swQuotaOk r.inst r.body
     else swRecOk (s.cfg.recs.filter (fun x => x.typ / 256 == 3)) (s.recsOf 0x0305).isEmpty false r
   | 4 => s.timeRecOk r
   | 5 => s.ttRecOk r
   | 6 => s.fabRecOk r
   | 7 => s.pntRecOk r
   | 8 => s.persRecOk r
   | 9 => s.canRecOk r
   | _ => s.miscRecOk r)

end Sys2Proof.Machine
end

