-- ==== Sys2Proof/Machine/ImageOps.lean ====
section
/-! DEFINITION. The checks of an image and of a slot (R58, R59, R62 to R68, Table 2-12). -/

namespace Sys2Proof.Machine

/-! ### The directory (R57 to R59) -/

/-- The entries of the directory copy at `a`. -/
def State.dirEntries (s : State) (a : Nat) : List (List Byte) :=
  (List.range (s.nvmLE (a + 6) 2)).map (fun i => s.nvmBytes (a + 16 + 16 * i) 16)

/-- The region an entry names. -/
def Region.ofBytes (b : List Byte) : Region :=
  { typ := rdLE b 0 2, inst := rdLE b 2 2, off := rdLE b 4 4, size := rdLE b 8 4 }

/-- The size a region of its type must have (R59). -/
def Region.sizeOk (r : Region) : Bool :=
  match r.typ with
  | 1 => r.size == 0x20000
  | 2 => 0x40000 ≤ r.size && r.size ≤ 0x2000000
  | 4 => r.size == 0x40000
  | 5 => r.size == 0x400000
  | _ => true

/-- No two regions of a list overlap. -/
def disjoint : List Region → Bool
  | [] => true
  | r :: l => l.all (fun x => !overlaps r.off r.size x.off x.size) && disjoint l

/-- A directory copy is valid: magic, CRC and R59 (R58, Table 2-4). -/
def State.dirOk (s : State) (a : Nat) : Bool :=
  let n := s.nvmLE (a + 6) 2
  let es := s.dirEntries a
  let rs := es.map Region.ofBytes
  let num (t : Nat) : Nat := (rs.filter (fun r => r.typ == t)).length
  s.nvmLE a 4 == 0x52494446 && s.nvmLE (a + 4) 2 == 1 && 1 ≤ n && n ≤ 16 && s.nvmLE (a + 8) 4 == s.cfg.nvmSize &&
  BitVec.ofNat 32 (s.nvmLE (a + 12) 4) == crc32c (s.nvmBytes a 12 ++ es.flatten) &&
  es.all (fun e => zer e 12 4) &&
  rs.all (fun r => decide (r.off + r.size ≤ s.cfg.nvmSize) && r.sizeOk) &&
  disjoint rs && num 1 == 2 && num 2 == 2 && num 4 == 1 && num 5 == 1 &&
  (match rs.filter (fun r => r.typ == 2) with
   | [x, y] => x.size == y.size
   | _ => false)

/-! ### The records of an image (R62) -/

/-- Every body_crc up to the first record that is cut short matches (check 9). -/
def crcsOk : Nat → List Byte → Bool
  | 0, _ => true
  | k + 1, b =>
    match takeRec b with
    | none => true
    | some (_, ok, _, rest) => ok && crcsOk k rest

/-- Records are in order, and only PNT.SUB repeats (R62, R289). -/
def ordered : List Rec → Bool
  | x :: y :: l =>
    (x.typ < y.typ || (x.typ == y.typ && (x.inst < y.inst || (x.inst == y.inst && x.typ == 0x0707)))) &&
    ordered (y :: l)
  | _ => true

/-- The record bytes of an image. -/
def imgBody (b : List Byte) : List Byte := (b.drop 64).take (rdLE b 0x10 4 - 192)

/-- Its records, with the findings of `takeRecs`; none: the lengths or the count disagree. -/
def imgRecs (b : List Byte) : Option (List Rec × Bool × Bool) := takeRecs (rdLE b 0x14 4) (imgBody b)

/-- The trailer of an image. -/
def imgTrailer (b : List Byte) : List Byte := (b.drop (rdLE b 0x10 4 - 128)).take 128

/-! ### Rules over a whole image (check 13) -/

/-- Programs that R445 places in group `g`, in engine order: program and line. -/
def State.chivePlan (s : State) (g : Nat) : List (Nat × Nat) :=
  let pin (o : Nat) : Bool := s.fld 0x0405 0 o 1 0xFF / 8 == g
  let lines := (s.recsOf 0x0806).filter (fun r => byteAt r.body 1 == g)
  let func (f : Nat → Bool) : Bool := (List.range 8).any (fun i => f (s.fld 0x0A02 (8 * g + i) 0 1 0))
  (if g = 7 && s.fld 0x0401 0 7 1 0 != 0 then [(2, 0)] else []) ++
  (if pin 0 then [(3, 0)] else []) ++ (if pin 1 then [(4, 0)] else []) ++
  lines.flatMap (fun r => [(5, r.inst), (6, r.inst)]) ++
  (if func (fun f => f == 1 || f == 2) then [(7, 0)] else []) ++ (if func (· == 3) then [(8, 0)] else [])

/-- The kinds of a plan in the order of their first use. -/
def planKinds (l : List (Nat × Nat)) : List Nat :=
  l.foldl (fun acc p => if acc.contains p.1 then acc else acc ++ [p.1]) []

/-- The first word of each kind (R445). -/
def planEntries (at_ : Nat) : List Nat → List (Nat × Nat)
  | [] => []
  | k :: l => (k, at_) :: planEntries (at_ + stdLen k) l

def planWords (l : List (Nat × Nat)) : Nat := ((planKinds l).map stdLen).foldl (· + ·) 0

/-- Group `g` holds its programs: 4 engines, 48 words, custom engines free and their words above. -/
def State.groupFits (s : State) (g : Nat) : Bool :=
  let l := s.chivePlan g
  let w := planWords l
  l.length ≤ 4 && w ≤ 48 &&
  (match s.rec? 0x0A03 g with
   | none => true
   | some r => w ≤ byteAt r.body 0x40 && (List.range 4).all (fun k =>
       byteAt r.body (16 * k) == 0xFF || (l.length ≤ k && (byteAt r.body (16 * k + 1) != 1 ||
         (s.recsOf 0x0704).all (fun x => !(rdLE x.body 4 4 ≤ rdLE r.body (16 * k + 4) 4 &&
           rdLE r.body (16 * k + 4) 4 < rdLE x.body 4 4 + rdLE x.body 8 4))))))

/-- The entries of every PNT.SUB record in record order. -/
def State.subEntries (s : State) : List SubEntry :=
  (s.recsOf 0x0707).flatMap (fun r => (chunks 20 r.body (r.body.length / 20)).map SubEntry.ofBytes)

/-- The mailbox of an engine's responses has the engine as home and Sage as a far master (R373). -/
def State.replyOk (s : State) (e : Nat) : Bool :=
  let n := s.replyMb e
  match s.rec? 0x0D01 n with
  | some r => byteAt r.body 0 == e && tst (rdLE r.body 8 8) 33
  | none => n == e && n < 32

/-- The pool that SW.QUOTA leaves (R210). -/
def State.quotaPool (s : State) : Nat :=
  let q (n c : Nat) : Nat := s.fld 0x0309 n (8 + 8 * c) 4 (if 68 ≤ n then (if c = 0 then 128 else 0) else if 6 ≤ c then 16 else 0)
  262144 - (((List.range 544).map (fun i => q (i / 8) (i % 8))).foldl (· + ·) 0 +
    ((List.range 16).map (fun k => q (68 + k) 0)).foldl (· + ·) 0)

/-- The store entry of an instance demands a record that is absent (R297). -/
def State.entryNeeds (s : State) (r : Rec) : Bool :=
  match s.storeEntry? (byteAt r.body 0) (rdLE r.body 2 2) with
  | none => true
  | some a =>
    let f := s.nvmLE (a + 0x11) 1
    (!tst f 0 || (s.rec? 0x0804 r.inst).isSome) && (!tst f 1 || (s.rec? 0x0805 r.inst).isSome) &&
    (!tst f 2 || (s.recsOf 0x0806).any (fun x => byteAt x.body 0 == r.inst))

/-- Length of an instance's bank section; 0 where its entry is absent or SRV runs from ROM. -/
def State.bankLenOf (s : State) (r : Rec) : Nat :=
  if rdLE r.body 2 2 = 0 then Free.srvImage.length
  else match s.storeEntry? (byteAt r.body 0) (rdLE r.body 2 2) with
    | some a => s.nvmLE (a + 0x18) 4
    | none => 0

/-- The bodies of R298, the subscriber queue and the instance block do not overlap. -/
def State.bankFits (s : State) (r : Rec) : Bool :=
  let e := r.inst
  let n := s.bankLenOf r
  let stop := s.bodiesEnd e n
  stop ≤ 0x5FF00 && (s.bankDescs e n).length ≤ 15 &&
  (match s.rec? 0x0705 e with
   | some q =>
     let at_ := rdLE q.body 0 4
     let len := 32 + 32 * rdLE q.body 4 2
     at_ + len ≤ 0x5FF00 && (placeBodies n (s.bankBodies e)).all (fun b => !overlaps at_ len b.2.1 b.2.2.length)
   | none => true)

/-- The rules of check 13 that hold between records. -/
def State.imageRules (s : State) : Bool :=
  let subs := s.subEntries
  let slots := (subs.filter (fun e => e.window != 0)).map (·.slot)
  let static_ := (s.recsOf 0x0306).flatMap (fun r => fdbEntries r.body)
  let bucket (e : List Byte) : Nat := fdbBucket (BitVec.ofNat 48 (rdLE e 0 6)) (rdLE e 6 2)
  ((s.recsOf 0x0702).map (fun r => if tst (byteAt r.body 0xA) 0 then rdLE r.body 4 4 else 0)).foldl (· + ·) 0 ≤ 65536 &&
  subs.all (fun e => (subs.filter (fun x => x.point == e.point)).length ≤ 255) &&
  slots.all (fun k => (slots.filter (· == k)).length == 1) &&
  65536 ≤ s.quotaPool &&
  static_.all (fun e => (static_.filter (fun x => bucket x == bucket e)).length ≤ 4) &&
  (List.range 8).all s.groupFits && (List.range 64).all (fun p => s.pinOwners p ≤ 1) &&
  (s.recsOf 0x0801).all (fun r => s.replyOk r.inst && s.entryNeeds r && s.bankFits r) &&
  (s.recsOf 0x0308).all (fun r => !tst (byteAt r.body 0x40) 2 || s.ctxKnown (rdLE r.body 0x42 2)) &&
  (s.recsOf 0x0604).all (fun r => byteAt r.body 2 != 0 || s.ctxKnown (rdLE r.body 4 4))

/-! ### Personalities (check 17, R294) -/

/-- What the crypto unit and the NVM find about a slot: its digest and signature, the personalities it
references (block expansion, digest and signature of every entry, the vendor personality key), and reads that
fail twice (R69). -/
def State.persOk (s : State) (find : Bool) : Bool :=
  (s.recsOf 0x0801).all (fun r =>
    rdLE r.body 2 2 == 0 ||
    (match s.region? 3 0, s.storeEntry? (byteAt r.body 0) (rdLE r.body 2 2) with
     | some st, some a =>
       let h := s.nvmBytes a 256
       let blk := s.nvmBytes (a + 256) (rdLE h 8 4)
       let par := match s.rec? 0x0803 r.inst with | some p => p.body | none => []
       find && s.storeHdrOk st && entryHdrOk h && s.persSigner st h &&
       BitVec.ofNat 32 (s.nvmLE (s.entryEnd a - 4) 4) == crc32c blk &&
       (Free.lz4Expand blk).length == rdLE h 0x18 4 + rdLE h 0x1C 4 &&
       (par.isEmpty || (rdLE par 0 4 == rdLE h 0x24 4 && par.length ≤ rdLE h 0x28 4))
     | _, _ => false))

/-! ### The checks in order (R64) -/

/-- The reason of the first check that fails; 0 when all pass. -/
def firstFail : List (Bool × Nat) → Nat
  | [] => 0
  | (ok, r) :: l => if ok then firstFail l else r

/-- Checks 1 to 5 on a header, for a slot of `size` bytes. -/
def headerChecks (b : List Byte) (size : Nat) : List (Bool × Nat) :=
  let n := rdLE b 0x10 4
  [(rdLE b 0 4 == 0x465A4C41, 1),
   (BitVec.ofNat 32 (rdLE b 0x3C 4) == crc32c (b.take 0x3C), 2),
   (byteAt b 5 == 1, 3),
   (rdLE b 0x1C 2 == 0x6440 && rdLE b 0x1E 2 ≤ 0x0A02, 4),
   (rdLE b 6 2 == 64 && 1 ≤ rdLE b 8 8 && rdLE b 8 8 ≤ 2 ^ 64 - 2 && 192 ≤ n && n % 8 == 0 && n ≤ size &&
     rdLE b 0x14 4 ≤ 1048576, 5)]

/-- The header says that the image is signed. -/
def imgSigned (b : List Byte) : Bool := tst (rdLE b 0x18 4) 0

/-- A life-cycle state requires a signature (Table 2-11). -/
def LifeCycle.needsSig (l : LifeCycle) : Bool := l == .operational || l == .service

/-- Checks 6 to 8, on the trailer. -/
def State.trailerChecks (s : State) (b tr : List Byte) (v : Verdict) : List (Bool × Nat) :=
  [(rdLE tr 0 4 == 0x454E4F44 && rdLE tr 4 2 == 128, 6),
   (!s.sys.lc.needsSig || imgSigned b, 7),
   (!imgSigned b || (v.cert && s.ownerKey (rdLE tr 0x10 8) 0), 8)]

/-- The image's known records in force over the present State. -/
def State.withRecs (s : State) (rs : List Rec) : State :=
  { s with cfg := { s.cfg with recs := rs.filter recKnown } }

/-- Checks 9 to 17, on the whole image. -/
def State.bodyChecks (s : State) (b : List Byte) (v : Verdict) (pers : Bool) : List (Bool × Nat) :=
  let n := rdLE b 0x10 4
  let tr := imgTrailer b
  let rs := match imgRecs b with | some (l, _, _) => l | none => []
  let clean := match imgRecs b with | some (_, _, c) => c | none => false
  let t := s.withRecs rs
  [(crcsOk (rdLE b 0x14 4) (imgBody b), 9),
   (clean && ordered rs && rs.all (fun r => !recKnown r || recLen r.typ r.body == some true) &&
     rdLE b 0x18 4 < 2 && zer b 0x24 4 && zer b 0x30 12 && zer tr 6 2 && zer tr 0xC 4 && zer tr 0x18 8, 0xA),
   (rs.all (fun r => tst r.flags 0 || recKnown r), 0xB),
   ((t.rec? 0x0104 0).isSome && (t.recsOf 0x0801).all (fun r =>
     (t.recsOf 0x0802).any (fun x => byteAt x.body 4 == r.inst)), 0xC),
   (t.cfg.recs.all t.recValOk && t.imageRules, 0xD),
   (BitVec.ofNat 32 (rdLE tr 8 4) == crc32c (b.take (n - 128)), 0xE),
   (v.digest, 0xF),
   (!imgSigned b || v.sig, 0x10),
   (t.persOk pers, 0x11)]

/-- The reason code of an image under checks 1 to 17 (Table 2-12). -/
def State.imageReason (s : State) (b : List Byte) (size : Nat) (v : Verdict) (pers : Bool) : Nat :=
  let h := firstFail (headerChecks b size)
  if h ≠ 0 then h else firstFail (s.trailerChecks b (imgTrailer b) v ++ s.bodyChecks b v pers)

end Sys2Proof.Machine
end

