-- ==== Sys2Proof/Machine/Image.lean ====
section
/-! DEFINITION. The image write requests of class 0x9 (R503, R504, Table 18-9). -/

namespace Sys2Proof.Machine

/-- The slot not selected at start-up (R70). -/
def State.imgSlot (s : State) : Option Region := s.region? 2 (1 - bit s.sys.cfgSlot)

/-- A 0x902 or 0x903 from the host: the 60 s of an open image write begin again (R504). -/
def State.imgTouch (s : State) : State :=
  { s with host := { s.host with img := s.host.img.map (fun w => { w with at_ := s.sys.mono }) } }

/-- The image write ended. -/
def State.imgClose (s : State) : State := { s with host := { s.host with img := none } }

/-- IMAGE_WRITE_OPEN 0x901: checks 1 to 5 on the header, a higher sequence, then the slot is erased. -/
def execImageWriteOpen (q : Req) (s : State) : Out :=
  if s.running then
    (s.serve q 0x901 3 (fun s =>
      let total := q.word 1
      if s.sys.lc = .retired then .inr 0x15
      else if s.exclusive then .inr 0x14
      else if !bulkOk q.src.val (q.word 2) (q.word 3) || q.word 3 ≠ 64 then .inr 0x12
      else match s.imgSlot with
        | none => .inr 0x18
        | some r =>
          let h := s.bulkRead q.src.val (q.word 2) 64
          if r.size < total then .inr 0x18
          else if firstFail (headerChecks h r.size) ≠ 0 || rdLE h 0x10 4 ≠ total then .inr 0x12
          else if rdLE h 8 8 ≤ s.sys.cfgSeq.toNat then .inr 0x17
          else
            let w : ImgWrite := { total := total, header := h, done := 0, at_ := s.sys.mono, erased := false, commit := false }
            let s : State := { s with host := { s.host with img := some w } }
            .inl (s.startJob q 0x901 .imgErase r.off (leBytes 8 r.size)))).done
  else .next s

/-- IMAGE_WRITE_DATA 0x902: bytes programmed in ascending order and read back; `nvmOk` is the NVM's finding.
The first 64 bytes repeat the opened header. -/
def execImageWriteData (q : Req) (nvmOk : Bool) (s : State) : Out :=
  if s.running then
    (s.serve q 0x902 3 (fun s =>
      let off := q.word 1
      let len := q.word 3
      let s := s.imgTouch
      let no (st : Nat) : State ⊕ Nat := .inl (s.refuse q 0x902 st)
      if !bulkOk q.src.val (q.word 2) len || len < 4 || 0x8000 < len then no 0x12
      else match s.host.img, s.imgSlot with
        | some w, some r =>
          let bs := s.bulkRead q.src.val (q.word 2) len
          let head := (w.header.drop off).take len
          if !w.erased || w.commit then no 0x14
          else if off ≠ w.done || w.total - 128 < off + len || bs.take head.length ≠ head then no 0x12
          else if !nvmOk then .inl ((s.imgClose.refuse q 0x902 0x1A).notice 0xF04 [1])
          else
            let s := s.nvmWrite (r.off + off) bs
            .inl ({ s with host := { s.host with img := some { w with done := off + len } } }.finish q 0x902)
        | _, _ => no 0x12)).done
  else .next s

/-- The status of a refusal of 0x903 by the reason of the check that fails (Table 18-9). -/
def commitStatus (reason : Nat) : Nat :=
  if reason = 7 || reason = 8 || reason = 0x10 then 0x16 else if reason = 0x12 then 0x1A else 0x12

/-- IMAGE_WRITE_COMMIT 0x903: the whole image under checks 1 to 17, then its trailer; `v` and `pers` are the
crypto unit's findings, `nvmOk` says that the reads succeed (R69). A refusal closes the write; with no image
to check, its word 1 is a free value. -/
def execImageWriteCommit (q : Req) (v : Verdict) (pers nvmOk : Bool) (s : State) : Out :=
  if s.running then
    (s.serve q 0x903 2 (fun s =>
      let s := s.imgTouch
      match s.host.img, s.imgSlot with
      | some w, some r =>
        if w.commit || s.sage.job.isSome then .inl (s.refuse q 0x903 0x14)
        else if !bulkOk q.src.val (q.word 1) (q.word 2) || q.word 2 ≠ 128 || w.done ≠ w.total - 128 then
          .inl (s.draw.imgClose.refuse q 0x903 0x12 [Free.word s.sys.draws])
        else
          let tr := s.bulkRead q.src.val (q.word 1) 128
          let img := s.nvmBytes r.off (w.total - 128) ++ tr
          let reason := if !nvmOk then 0x12 else s.imageReason img r.size v pers
          if reason ≠ 0 then .inl (s.imgClose.refuse q 0x903 (commitStatus reason) [BitVec.ofNat 32 reason])
          else
            let s : State := { s with host := { s.host with img := some { w with commit := true } } }
            .inl (s.startJob q 0x903 .imgCommit (r.off + (w.total - 128)) tr)
      | _, _ => .inl (s.draw.refuse q 0x903 0x12 [Free.word s.sys.draws]))).done
  else .next s

/-- IMAGE_WRITE_CLOSE 0x904: closed without a commit marker. -/
def execImageWriteClose (q : Req) (s : State) : Out :=
  if s.running then
    (s.serve q 0x904 0 (fun s =>
      match s.host.img with
      | none => .inr 0x12
      | some w => if w.commit then .inr 0x14 else .inl (s.imgClose.finish q 0x904))).done
  else .next s

/-- IMAGE_WRITE_STATUS 0x905. -/
def execImageWriteStatus (q : Req) (s : State) : Out :=
  if s.running then
    (s.serve q 0x905 0 (fun s =>
      match s.host.img with
      | none => .inl (s.finish q 0x905 [0, 0])
      | some w => .inl (s.finish q 0x905 [if w.commit then 2 else 1, BitVec.ofNat 32 w.done]))).done
  else .next s

/-- IMAGE_WRITE_ABANDON: 60 s without 0x902 or 0x903, or an NVM failure; notice 0xF04 (R504). -/
def execImageWriteAbandon (nvm : Bool) (s : State) : Out :=
  match s.running, s.host.img with
  | true, some w =>
    if !nvm && (w.commit || s.sys.mono < w.at_ + sec 60) then .next s
    else (s.imgClose.notice 0xF04 [if nvm then 1 else 0]).done
  | _, _ => .next s

end Sys2Proof.Machine
end

