-- ==== Sys2Proof/Machine/Port.lean ====
section
/-! DEFINITION. The commands of the ports: links, pause, preemption, PRP and HSR (R147 to R171). -/

namespace Sys2Proof.Machine

/-- Every frame queued for a port or in transmission on it is lost at link down, each counted once
(R150). -/
def State.flushPort (s : State) (n : Nat) : State :=
  let s := s.setPort n { s.port n with tx := none, held := none }
  (List.range 8).foldl (fun s c =>
    (s.queue n c).foldl (fun s x => (s.stat n 55).dropCopy n c x (some 0x0A)) s) s

/-- A frame in reception ends without an outcome: its decision is abandoned. -/
def State.dropRx (s : State) (n : Nat) (slot : Option Nat) : State :=
  match slot with
  | none => s
  | some fid =>
    match s.frame fid with
    | some f => s.abandon n fid f.len f.len f.bytes []
    | none => s.clearRx n fid

/-- Link down at a port (R149, R150); on a fabric port the admitted neighbour is lost (R242). A pause, the verify
exchange and a frame in reassembly end with the link: the spec does not say what becomes of them (DESIGN CHOICE, log
150). -/
def State.linkDown (s : State) (n : Nat) : State :=
  if !(s.port n).up then s
  else
    let s := (((s.dropRx n (s.port n).rx).dropRx n (s.port n).rxp).stat n 92).portEvent n 0
    let s := s.flushPort n
    let s := s.setPort n { s.port n with up := false, anDone := false, verify := .off, verifyTries := 0,
                                         frag := none, paused := 0 }
    if 64 ≤ n then s.fabLoss (n - 64) else s

/-- AUTONEGOTIATION_ATTEMPT: the partner's control word names `speed` (code of PORT_LINK) and its
duplex (R147, R148). With a forced speed the word is ignored. -/
def execAutonegotiationAttempt (p : Fin 64) (speed : Fin 4) (full : Bool) (s : State) : Out :=
  let n := p.val
  let q := s.port n
  if s.running && s.portPresent n && q.enabled && s.negotiates n && !q.up && !q.mdioFail then
    if !full then ((s.setPort n { q with duplexFail := true, anDone := false }).stat n 94).done
    else if !((offers (s.laneMode n)).contains speed.val) then
      ((s.setPort n { q with duplexFail := false, anDone := false }).stat n 94).done
    else (s.setPort n { q with duplexFail := false, anDone := true, speed := speed.val }).done
  else .next s

/-- The sums of the calibration at two link-ups differ by more than 1 ns (R123). -/
def calShift (rx tx rx' tx' : BitVec 16) : Bool :=
  4 < ((rx.toNat + tx.toNat : Int) - (rx'.toNat + tx'.toNat : Nat)).natAbs

/-- LINK_UP after 10 ms of synchronisation: the calibration measures sd_rx and sd_tx (R149, R122,
R123). A fabric port runs at the rate of FPORT_CFG. -/
def execLinkUp (p : Fin 68) (sdRx sdTx : BitVec 16) (s : State) : Out :=
  let n := p.val
  let q := s.port n
  let forced := 1 ≤ q.sel
  let an := s.negotiates n
  if s.running && s.portPresent n && q.enabled && !q.up && !q.mdioFail && (q.anDone || !an) then
    let code := if 64 ≤ n then bits q.cfg.toNat 1 1 else if forced then q.sel - 1 else if an then q.speed else 3
    let shift := q.lastUp.isSome && calShift (s.time.sdRx.get 0 n) (s.time.sdTx.get 0 n) sdRx sdTx
    let s := s.setPort n { q with
      up := true, speed := code, lastUp := some code, laneFault := false, hiBer := false,
      verify := if q.preemptEn && n < 64 && 2 ≤ code then .verifying else .off, verifyTries := 0 }
    let s : State := { s with time := { s.time with
      sdRx := s.time.sdRx.set n sdRx, sdTx := s.time.sdTx.set n sdTx,
      calShift := if shift then satInc s.time.calShift else s.time.calShift } }
    ((s.stat n 93).portEvent n 0).done
  else .next s

/-- LINK_DOWN: PCS synchronisation lost for 50 µs (R149, R150). -/
def execLinkDown (p : Fin 68) (s : State) : Out :=
  if s.running then (s.linkDown p.val).done else .next s

/-- The ports of a lane: 0 to 15 the station lanes, 16 to 19 the fabric lanes. -/
def lanePorts (lane : Nat) : List Nat :=
  if lane < 16 then [4 * lane, 4 * lane + 1, 4 * lane + 2, 4 * lane + 3] else [64 + (lane - 16)]

/-- The traffic of a lane also travels elsewhere: every enabled port of a station lane is a member of a pair, or every
stream that leaves by the fabric lane's port has both paths (R151, R256; log 152). -/
def State.laneCovered (s : State) (lane : Nat) : Bool :=
  if lane < 16 then
    ((lanePorts lane).filter (fun n => s.portPresent n && (s.port n).enabled)).all (fun n => (s.pairOf n).isSome)
  else
    (s.recsOf 0x0604).all (fun r =>
      let t := s.fab.routes.get {} r.inst
      t.a.head? != some (lane - 16) || !t.b.isEmpty)

/-- LANE_FAULT: every port of the lane goes down at once (R151); class 7 of the fault log, not covered
unless a pair or a dual path carries the traffic. -/
def execLaneFault (lane : Fin 20) (s : State) : Out :=
  if s.running then
    let ports := (lanePorts lane.val).filter s.portPresent
    let s := s.logFault 7 (10 + lane.val) 0xFF (if s.laneCovered lane.val then 0 else 4) 0
    (ports.foldl (fun s n =>
      let s := s.linkDown n
      (s.setPort n { s.port n with laneFault := true }).portEvent n 1) s).done
  else .next s

/-- HIGH_BER on a fabric port (R154). -/
def execHighBer (p : Fin 4) (s : State) : Out :=
  let n := 64 + p.val
  if s.running && s.portPresent n then
    let s := s.linkDown n
    (s.setPort n { s.port n with hiBer := true }).done
  else .next s

/-! ### Pause (R162, R163) -/

/-- A pause frame's good reception at its port, counted as any good multicast frame of 64 B (R172). -/
def State.pauseCount (s : State) (n : Nat) : State :=
  (s.stats n [0, 3, sizeBin 8 64, 40 + (s.swPort n).defClass]).stat n 1 64

/-- PAUSE_FRAME with its quanta; never forwarded (R162, R163). -/
def execPauseFrame (p : Fin 64) (quanta : BitVec 16) (s : State) : Out :=
  if s.takesPort p.val then ((s.pauseCount p.val).pauseAct p.val quanta).done else .next s

/-- PFC_FRAME: the classes it enables and the quanta of each (R162, R163). -/
def execPfcFrame (p : Fin 64) (classes : BitVec 8) (quanta : List (BitVec 16)) (s : State) : Out :=
  if s.takesPort p.val then ((s.pauseCount p.val).pfcAct p.val classes quanta).done else .next s

/-- PAUSE_QUANTA_EXPIRY: the pause ends of those of the named classes whose quanta have run out (R162). -/
def execPauseQuantaExpiry (p : Fin 64) (classes : BitVec 8) (s : State) : Out :=
  if s.running then
    let q := s.port p.val
    let ended := (maskBits 8 classes.toNat).filter (fun c => decide (q.till.get 0 c ≤ s.sys.mono))
    (s.setPaused p.val (q.paused &&& ~~~ BitVec.ofNat 8 (fields (ended.map (fun c => (1, c)))))).done
  else .next s

/-- PAUSE_WATCHDOG: wd_ms of continuous pause (R163). -/
def execPauseWatchdog (p : Fin 64) (s : State) : Out :=
  let n := p.val
  let q := s.port n
  if s.running && q.paused ≠ 0 && q.pausedAt + ms (bits q.pauseWd.toNat 15 0) ≤ s.sys.mono then
    (((s.setPort n { q with paused := 0, holdoff := true, holdAt := s.sys.mono }).stat n 81).portEvent n 2).done
  else .next s

/-- PAUSE_HOLDOFF_END: holdoff_ms after the watchdog acted (R163). -/
def execPauseHoldoffEnd (p : Fin 64) (s : State) : Out :=
  let q := s.port p.val
  if s.running && q.holdAt + ms (bits q.pauseWd.toNat 31 16) ≤ s.sys.mono then
    (s.setPort p.val { q with holdoff := false }).done
  else .next s

/-! ### Preemption (R164 to R166) -/

/-- A verify or respond frame of the port's own address (R161); the rest of its 60 bytes is zero (PRESUMED, IEEE
802.3br; log 154). -/
def State.verifyBytes (s : State) (n : Nat) : List Byte :=
  let b := List.replicate 6 0 ++ leBytes 6 (s.ownAddr n).toNat ++ List.replicate 48 0
  b ++ leBytes 4 (crc32 b).toNat

/-- VERIFY_ATTEMPT: a verify frame sent; `responds` when the partner answers it. The third attempt
without an answer fails (R164). -/
def execVerifyAttempt (p : Fin 64) (responds : Bool) (s : State) : Out :=
  let n := p.val
  if s.running && (s.port n).verify == .verifying then
    let s := s.stat n 74
    let q : Port := { s.port n with out := s.verifyBytes n }
    if responds then (s.setPort n { q with verify := .active, verifyTries := q.verifyTries + 1 }).done
    else if 2 ≤ q.verifyTries then
      ((s.setPort n { q with verify := .failed, verifyTries := q.verifyTries + 1 }).portEvent n 3).done
    else (s.setPort n { q with verifyTries := q.verifyTries + 1 }).done
  else .next s

/-- A frame in reassembly dropped (R166). -/
def State.dropFrag (s : State) (n i : Nat) : State :=
  ((s.setPort n { s.port n with frag := none }).dropRx n (s.port n).rxp).stat n i

/-- FRAGMENT_RECEIVE: reassembly; the last fragment completes the frame, whose reception then ends. A start before
the last fragment of the frame in reassembly ends that one without its mCRC (R166). -/
def execFragmentReceive (p : Fin 64) (x : Frag) (s : State) : Out :=
  let n := p.val
  if s.takesPort n then
    let q := s.port n
    match x, q.frag with
    | .start b r, some _ =>
      let s := s.dropFrag n 29
      (s.setPort n { s.port n with frag := some (b, r) }).done
    | .start b r, none => (s.setPort n { q with frag := some (b, r) }).done
    | .next b, some (a, r) => (s.setPort n { q with frag := some (a ++ b, r) }).done
    | .last b, some (a, r) =>
      (((s.setPort n { q with frag := none }).stat n 27).receiveEnd n (a ++ b) false r true).done
    | .next _, none => (s.dropFrag n 28).done
    | .last _, none => (s.dropFrag n 28).done
    | .badSmd, _ => (s.dropFrag n 28).done
    | .badMcrc, _ => (s.dropFrag n 29).done
    | .verify, _ => ((s.stat n 75).setPort n { (s.stat n 75).port n with out := s.verifyBytes n }).done
  else .next s

/-! ### PRP and HSR supervision (R167) -/

/-- A supervision frame without FCS and trailer (PRESUMED layout of IEC 62439-3, log 42): to
01-15-4E-00-01-00 from the port's own address. -/
def supBody (src : BitVec 48) (seq : BitVec 16) (hsr : Bool) : List Byte :=
  let tlv : List Byte := (if hsr then [23, 6] else [20, 6]) ++ leBytes 6 src.toNat
  [0x01, 0x15, 0x4E, 0x00, 0x01, 0x00] ++ leBytes 6 src.toNat ++ [0x88, 0xFB] ++
  beBytes 2 0x1000 ++ beBytes 2 seq.toNat ++ tlv ++ [0, 0]

/-- SUPERVISION_FRAME_SEND every sup_ms, on both ports of a pair, each copy from its own port's address (R161, R167, R171). Both copies
go out in the default class of port_a: the spec states no class (DESIGN CHOICE, log 151). -/
def execSupervisionFrameSend (pair : Fin 32) (s : State) : Out :=
  match s.rec? 0x0203 pair.val with
  | none => .next s
  | some r =>
    if s.running && (s.pair pair.val).supAt + ms (rdLE r.body 6 2) ≤ s.sys.mono then
      let a := byteAt r.body 1
      let b := byteAt r.body 2
      let q := s.pair pair.val
      let f (n : Nat) : Frame :=
        { src := 84, stamp := s.time.t, gen := s.sw.gen, len := 64, colour := 0, cls := (s.swPort a).defClass,
          bytes := supBody (s.ownAddr n) q.supSeq (byteAt r.body 0 == 2), pairSeq := [(pair.val, q.seq)],
          ended := true, sup := true }
      let s := s.setPair pair.val { q with supSeq := q.supSeq + 1, seq := q.seq + 1, supAt := s.sys.mono }
      (s.sendFrames ([a, b].map (fun n => (f n, s.mkDest 84 n (f n).cls 0)))).done
    else .next s

end Sys2Proof.Machine
end

