-- ==== Sys2Proof/Machine/RegsNet.lean ====
section
/-! DEFINITION. The registers of the PORT, FPORT, SW, FAB and PNT blocks (Tables 5-6, 6-6, 8-7 and 9-12), and
the host commands on port counters and the capture ring. -/

namespace Sys2Proof.Machine

/-! ### PORT and FPORT -/

/-- PORT_LINK and FPORT_LINK (Table 5-10). -/
def State.portLink (s : State) (n : Nat) : Nat :=
  let p := s.port n
  fields [(bit p.laneFault, 15), (bit (s.portPresent n), 14),
    ((match p.verify with | .off => 0 | .verifying => 1 | .active => 2 | .failed => 3), 12),
    (bit p.holdoff, 11), (bit (p.paused != 0), 10), (bit p.duplexFail, 9), (bit (if s.negotiates n then p.anDone else p.up), 8),
    (bit (64 ≤ n && p.hiBer), 4), (bit (s.fecOn n), 3), (p.speed, 1), (bit p.up, 0)]

/-- PORT_EVENT; bit 4 is the OR of the half-scale marks. -/
def Port.events (p : Port) : Nat :=
  fields [(bit (p.event.getLsbD 5), 5), (bit (p.half != 0), 4), (p.event.toNat % 16, 0)]

/-- PORT_STAT_CTRL written: the snapshot is taken before the clear (R174). -/
def State.statCtrl (s : State) (n : Nat) (snap clear : Bool) : State :=
  let p := s.port n
  let p := if snap then { p with snap := p.stat } else p
  s.setPort n (if clear then { p with stat := [] } else p)

/-- Entries in use in the duplicate-discard table of a port's pair, and its replacements. -/
def State.ddOf (s : State) (n : Nat) : Nat × Nat :=
  match s.pairOf n with
  | some r => ((s.pair r.inst).dd.length, (s.pair r.inst).evict.toNat)
  | none => (0, 0)

/-- The registers that only a station port has. -/
def State.stationReg (s : State) (n a : Nat) : Reg :=
  let p := s.port n
  if a = 0x004 then .conf p.maxLen.toNat (fun w => s.setMaxLen n (BitVec.ofNat 16 w))
  else if a = 0x008 then
    if n % 4 = 0 then .conf p.lane.toNat (fun w => s.setPort n { p with lane := BitVec.ofNat 3 w }) else {}
  else if a = 0x00C then .conf p.pauseWd.toNat (fun w => s.setPort n { p with pauseWd := BitVec.ofNat 32 w })
  else if a = 0x030 then .conf p.pair.toNat (fun w =>
    s.setPort n { p with pair := BitVec.ofNat 16 w &&& 0xFFF0 })
  else if a = 0x034 then .ro (s.ddOf n).1
  else if a = 0x038 then .ro (s.ddOf n).2
  else if a = 0x040 || a = 0x044 then
    let i := (a - 0x040) / 4
    .confW p.own.toNat i (fun w => s.setPort n { p with own := BitVec.ofNat 48 (setWord p.own.toNat i w) })
  else match window a 0x100 8 32 with
  | some (k, o) =>
    let v := (p.filt.get 0 k).toNat
    .confW v (o / 4) (fun w => s.setPort n { p with
      filt := p.filt.set k (BitVec.ofNat 64 (setWord v (o / 4) w) &&& 0x8000FFFFFFFFFFFF) })
  | none => {}

/-- The port is absent in its lane's mode: one port on the lane, and not the first (Table 5-1, R146). A
port of a disabled lane is not absent. -/
def State.portAbsent (s : State) (n : Nat) : Bool := n < 64 && n % 4 != 0 && 3 ≤ s.laneMode n

/-- The window of a port; 64 to 67 are F0 to F3. -/
def State.portWin (s : State) (n a : Nat) : Reg :=
  let p := s.port n
  if a = 0x000 then .conf p.cfg.toNat (fun w => s.setPort n { p with
    cfg := BitVec.ofNat 32 w &&& (if n < 64 then 0xFFFF037F else 7) })
  else if a = 0x010 then .ro (s.portLink n)
  else if a = 0x014 then .rw p.events (fun w => s.setPort n { p with event := w1c p.event w })
  else if a = 0x018 then .rw p.irqEn.toNat (fun w => s.setPort n { p with irqEn := BitVec.ofNat 6 w })
  else if a = 0x01C then .wo (fun w => s.statCtrl n (tst w 0) (tst w 1))
  else if 0x020 ≤ a && a < 0x02C then
    let i := (a - 0x020) / 4
    .rw (bits p.half.toNat (32 * i + 31) (32 * i)) (fun w => s.setPort n { p with
      half := w1c p.half (w % 2 ^ 32 * 2 ^ (32 * i)) })
  else if 64 ≤ n && a = 0x050 then .ro p.fecCorr.toNat
  else if 64 ≤ n && a = 0x054 then .ro p.fecUnc.toNat
  else match window a 0x200 4 96 with
  | some (i, _) => .ro (p.stat.get 0 i).toNat
  | none => match window a 0x400 4 96 with
  | some (i, _) => .ro (p.snap.get 0 i).toNat
  | none => if n < 64 then s.stationReg n a else {}

/-- The registers of an absent port read 0 and drop writes (R146). -/
def State.portReg (s : State) (n a : Nat) : Reg := if s.portAbsent n then {} else s.portWin n a

/-- PORT_STAT_SNAP. -/
def execPortStatSnap (n : Fin 68) (s : State) : Out := if s.sys.up && !s.portAbsent n then (s.statCtrl n true false).done else .next s

/-- PORT_STAT_CLEAR. -/
def execPortStatClear (n : Fin 68) (s : State) : Out := if s.sys.up && !s.portAbsent n then (s.statCtrl n false true).done else .next s

/-! ### SW -/

/-- SW_CAP_RD written (R206): in stop mode the records it consumes make room. -/
def State.capAdvance (s : State) (w : Word) : State := { s with sw := { s.sw with capRd := w } }

/-- CAPTURE_READ_ADVANCE. -/
def execCaptureReadAdvance (w : Word) (s : State) : Out := if s.sys.up then (s.capAdvance w).done else .next s

/-- SW_FWD_MODEn (Table 6-10): before READY eff_ct reads its Reset value. -/
def State.fwdMode (s : State) (n : Nat) : Nat :=
  (s.swPort n).mode.toNat +
  (if s.sys.up then fields ((List.range 8).map (fun c => (bit (s.ctMode n c), 16 + c))) else 0)

/-- The window of a port in the SW block. -/
def State.swPortReg (s : State) (n a : Nat) : Reg :=
  let p := s.swPort n
  if a = 0x00 then .conf p.pcfg.toNat (fun w => s.setSwPort n { p with pcfg := BitVec.ofNat 32 w &&& 0x0FFF7F7F })
  else if a = 0x04 then .conf (s.fwdMode n) (fun w => s.setSwPort n { p with mode := BitVec.ofNat 16 w })
  else if a = 0x08 then .ro (s.portUse n)
  else if a = 0x0C then .ro p.pushed.toNat
  else if a = 0x10 then .ro p.dropLink.toNat
  else if a = 0x14 then .ro p.dropQuota.toNat
  else if a = 0x18 then .ro p.dropRed.toNat
  else if a = 0x1C then .ro p.dropGuard.toNat
  else .ro (s.qUse n ((a - 0x20) / 4))

/-- A word of the capture page window: page SW_CAP_PAGE of the capture memory or of the spill ring (R206). -/
def State.capWord (s : State) (off : Nat) : Nat :=
  let a := bits s.sw.capPage.toNat 11 0 * 65536 + off
  if tst s.sw.capPage.toNat 31 then
    (if s.sys.dramFail then 0 else leNat (Mem.readBytes 0 s.mem.dram (0x48800000 + a) 4))
  else leNat (Mem.readBytes 0 s.mem.cap a 4)

/-- The SW registers. SW_QCFGn_c of a cluster (n 68 to 83) with c 1 to 7 holds no register: it reads 0 and a write
is dropped; the spec says only that SW_QCFGn_0 is used (DESIGN CHOICE, log 142). -/
def State.swReg (s : State) (a : Nat) : Reg :=
  let x := s.sw
  if a = 0x00 then .ro (fields [(bit s.swAlarm, 9), (bit s.swDegraded, 8), (s.gensHeld.length, 0)])
  else if a = 0x04 then .rw x.event.toNat (fun w => { s with sw := { x with event := w1c x.event w } })
  else if a = 0x08 then .rw x.irqEn.toNat (fun w => { s with sw := { x with irqEn := BitVec.ofNat 5 w } })
  else if a = 0x0C then .ro ((s.gensHeld.head?.getD x.gen).toNat * 2 ^ 16 + x.gen.toNat)
  else if a = 0x10 then .ro (fields [(x.spare, 16), (x.retired.toNat, 8), (x.working.toNat, 0)])
  else if a = 0x14 then .ro s.poolSize
  else if a = 0x18 then .ro s.poolUsed
  else if a = 0x1C then .ro x.fdb.length
  else if a = 0x20 then .ro x.cellRetry.toNat
  else if a = 0x24 then .ro x.cellDup.toNat
  else if a = 0x28 then .ro x.cellLost.toNat
  else if a = 0x2C then .ro x.planeRetire.toNat
  else if a = 0x30 then .ro x.genBusy.toNat
  else if a = 0x34 then .ro x.localNoctx.toNat
  else if a = 0x38 then .ro x.learnFull.toNat
  else if a = 0x3C then .ro x.staticViol.toNat
  else if a = 0x40 then .conf x.capCtrl.toNat (fun w =>
    { s with sw := { x with capCtrl := BitVec.ofNat 32 w &&& 0x301FF } })
  else if a = 0x44 then .ro x.capWr.toNat
  else if a = 0x48 then .rw x.capRd.toNat (fun w => s.capAdvance (BitVec.ofNat 32 w))
  else if a = 0x4C then .ro x.capLost.toNat
  else if a = 0x50 then .rw x.capPage.toNat (fun w =>
    { s with sw := { x with capPage := BitVec.ofNat 32 w &&& 0x80000FFF } })
  else match window a 0x1000 0x40 68 with
  | some (n, o) => s.swPortReg n o
  | none => match window a 0x2400 8 16 with
  | some (k, o) => .ro (if o = 0 then s.crqUse k else (x.crqDrop.get 0 k).toNat)
  | none => match window a 0x3000 0x20 84 with
  | some (n, o) =>
    if 68 ≤ n && o ≠ 0 then {}
    else .conf (s.qcfgWord n (o / 4)).toNat (fun w =>
      { s with sw := { x with qcfg := x.qcfg.set (8 * n + o / 4) (BitVec.ofNat 32 w) } })
  | none => match window a 0x3C00 4 84 with
  | some (n, _) => .conf (s.pmaxWord n).toNat (fun w =>
      { s with sw := { x with pmax := x.pmax.set n (BitVec.ofNat 16 w) } })
  | none => if 0x10000 ≤ a && a < 0x20000 then .ro (s.capWord (a - 0x10000)) else {}

/-! ### FAB -/

/-- FAB_STATUS (Table 8-8). -/
def State.fabStatus (s : State) : Nat :=
  fields [(bit s.fabAlarm, 7), (bit s.fab.conflict, 6), (bit s.refSelf, 5),
    (bit s.fabDegraded, 4), (bit s.fabUnreach, 3), (bit ((List.range 4).any (fun n => s.fabState n == 4)), 2),
    (s.fab.claim, 0)]

/-- FAB_SSTATs (Table 8-10). -/
def State.streamStat (s : State) (n : Nat) : Nat :=
  let r := s.fab.routes.get {} n
  fields [(s.streamState n, 30), (r.b.length, 22), (r.a.length, 17), (s.fld 0x0604 n 0 2 0 % 4096, 0)]

def State.fabReg (s : State) (a : Nat) : Reg :=
  let x := s.fab
  if a = 0x00 then .ro s.fabStatus
  else if a = 0x04 then .rw x.event.toNat (fun w => { s with fab := { x with event := w1c x.event w } })
  else if a = 0x08 then .rw x.irqEn.toNat (fun w => { s with fab := { x with irqEn := BitVec.ofNat 5 w } })
  else if a = 0x0C then .ro (s.refAddr * 2 ^ 16 + x.addr)
  else if a = 0x10 then .ro x.db.length
  else if a = 0x14 then .ro x.dup.toNat
  else if a = 0x18 then .ro x.late.toNat
  else if a = 0x1C then .ro x.misroute.toNat
  else if a = 0x20 then .ro x.hdrErr.toNat
  else if a = 0x24 then .ro x.authFail.toNat
  else if a = 0x28 then .ro x.grantViol.toNat
  else if a = 0x2C then .ro x.unreach.toNat
  else if a = 0x30 then .ro x.strangerDrop.toNat
  else if a = 0x34 then .ro x.routeInstall.toNat
  else match window a 0x100 0x20 4 with
  | some (n, o) =>
    let p := s.fport n
    if o = 0 then .ro (fields [(p.reason, 20), ((if s.sys.up then s.fabState n else 0), 16), (p.peerAddr, 0)])
    else if o = 4 || o = 8 then .roW p.peerId.toNat ((o - 4) / 4)
    else if o = 0xC then .conf p.cost.toNat (fun w =>
      (s.setFport n { p with cost := BitVec.ofNat 16 w }).originate)
    else if o = 0x10 then .ro p.admitFail.toNat
    else {}
  | none => match window a 0x1000 8 1024 with
  | some (n, o) => .ro (if o = 0 then s.streamStat n else (x.sent.get 0 n).toNat)
  | none => {}

/-! ### PNT -/

/-- PNT_STATUS (Table 9-13). -/
def State.pntStatus (s : State) : Nat :=
  fields [(bit s.pntAlarm, 3), (bit s.throttle, 2), (bit s.soeOn, 1), (bit s.pnt.enabled, 0)]

/-- PNT_HOT_USE: records held in the hot cache. -/
def State.hotUse (s : State) : Nat :=
  if s.pnt.enabled then
    ((s.recsOf 0x0702).map (fun r => if tst (rdLE r.body 10 1) 0 then rdLE r.body 4 4 else 0)).foldl (· + ·) 0
  else 0

def State.pntReg (s : State) (a : Nat) : Reg :=
  let x := s.pnt
  if a = 0x00 then .ro s.pntStatus
  else if a = 0x04 then .rw x.event.toNat (fun w => { s with pnt := { x with event := w1c x.event w } })
  else if a = 0x08 then .rw x.irqEn.toNat (fun w => { s with pnt := { x with irqEn := BitVec.ofNat 9 w } })
  else if a = 0x0C then .ro x.rateLast
  else if a = 0x10 || a = 0x14 then .roW x.soeWr.toNat ((a - 0x10) / 4)
  else if a = 0x18 || a = 0x1C then
    .rwW x.soeRd.toNat ((a - 0x18) / 4) (fun w => s.soeRdWrite (a = 0x1C) (BitVec.ofNat 32 w))
  else if a = 0x20 then .ro (if x.enabled then s.soeSize else 0)
  else if a = 0x24 then .conf x.soeLevel (fun w => { s with pnt := { x with soeLevel := w % 2 ^ 25 } })
  else if a = 0x28 then .ro x.updates.toNat
  else if a = 0x2C then .ro x.changes.toNat
  else if a = 0x30 then .ro x.delivs.toNat
  else if a = 0x34 then .ro x.coalesced.toNat
  else if a = 0x38 then .ro x.unused.toNat
  else if a = 0x3C then .ro x.blockedC.toNat
  else if a = 0x40 then .ro x.stale.toNat
  else if a = 0x44 then .ro x.dpSupp.toNat
  else if a = 0x48 then .ro x.chatter.toNat
  else if a = 0x4C then .ro x.timerFull.toNat
  else if a = 0x50 then .ro x.throttleC.toNat
  else if a = 0x54 then .ro x.late.toNat
  else if a = 0x58 then .ro x.soeLost.toNat
  else if a = 0x5C then .ro x.timers.length
  else if a = 0x60 then .ro s.hotUse
  else if a = 0x64 then .ro x.subs.length
  else match window a 0x100 0x10 4 with
  | some (q, o) =>
    if o = 0 then .ro (x.hqWr.get 0 q).toNat
    else if o = 4 then .rw (x.hqRd.get 0 q).toNat (fun w => s.hqRdWrite q (BitVec.ofNat 32 w))
    else if o = 8 then .conf (x.hqIrq.get 0 q * 2 ^ 16 + x.hqDepth.get 0 q) (fun w =>
      { s with pnt := { x with hqIrq := x.hqIrq.set q (bits w 31 16), hqDepth := x.hqDepth.set q (bits w 15 0) } })
    else .ro (x.hqFull.get 0 q).toNat
  | none => match window a 0x200 4 32 with
  | some (n, _) => .ro (x.sqFull.get 0 n).toNat
  | none =>
    if 0x20000 ≤ a && a < 0x40000 then .ro (leNat (Mem.readBytes 0 s.mem.svc (0x34000 + (a - 0x20000)) 4)) else {}

end Sys2Proof.Machine
end

