-- ==== Sys2Proof/Machine/Registers.lean ====
section
/-! DEFINITION. BAR0 as a whole: the interrupt tree and MSI-X, the decode of addresses, reads and writes under
R9 to R13, R55 and R491, and the host commands on them (spec/18). -/

namespace Sys2Proof.Machine

/-! ### The interrupt tree (R492 to R496) -/

/-- The interrupt of a port (Table 5-11). -/
def State.portIrq (s : State) (n : Nat) : Bool :=
  BitVec.ofNat 6 (s.port n).events &&& (s.port n).irqEn != 0

/-- The interrupt of a channel (Table 14-8). -/
def State.canIrq (s : State) (c : Nat) : Bool := (s.chan c).event &&& (s.chan c).irqEn != 0

/-- IRQ_RAW: source s of Table 18-3 in bit s. -/
def State.irqRaw (s : State) : Nat :=
  fields [(bit (s.host.devEvent &&& s.host.devIrqEn != 0), 0), (bit (s.time.stepped || s.timeAlarm), 1),
    (bit (s.tt.event &&& s.tt.irqEn != 0), 2), (bit (s.fab.event &&& s.fab.irqEn != 0), 3),
    (bit (s.pnt.event &&& s.pnt.irqEn != 0), 4), (bit ((List.range 16).any s.canIrq), 5),
    (bit (s.chv.event &&& s.chv.irqEn != 0), 6), (bit (s.rmy.event &&& s.rmy.irqEn != 0), 7),
    (bit (s.age.event &&& s.age.irqEn != 0), 8), (bit (s.sw.event &&& s.sw.irqEn != 0), 9),
    (bit ((List.range 64).any s.portIrq), 10), (bit ((List.range 4).any (fun n => s.portIrq (64 + n))), 11),
    (bit (s.mbx.event &&& s.mbx.irqEn != 0 || s.mbxSum != 0), 12),
    (bit (s.rmy.dumpEvent &&& s.rmy.dumpIrqEn != 0), 13)]

/-- The vector of a source. -/
def HostIf.vec (h : HostIf) (i : Nat) : Nat := (h.vmap.get (BitVec.ofNat 6 i) i).toNat

/-- Vector v is pending (R493). -/
def State.vecPending (s : State) (v : Nat) : Bool :=
  (List.range 14).any (fun i => s.host.irqEn.getLsbD i && s.host.vec i == v && tst s.irqRaw i)

def State.armed (s : State) (v : Nat) : Bool := s.host.armed.getLsbD v

/-- Something other than pending and armed keeps vector v from its message (R495). -/
def State.msgBlocked (s : State) (v : Nat) : Bool :=
  let h := s.host
  (h.msix.get {} v).mask || h.fnMask || !h.msixEn || !h.busMaster || h.d3hot

/-- The PBA. -/
def State.pba (s : State) : Nat :=
  fields ((List.range 64).map (fun v => (bit (s.vecPending v && s.armed v && s.msgBlocked v), v)))

/-- HOST_IRQ_N is asserted (R496). -/
def State.hostIrqPin (s : State) : Bool := s.sys.up && (s.irqRaw &&& s.host.pinEn.toNat) != 0

/-- IRQ_VARM written: word `i` arms its vectors (R494). -/
def State.varm (s : State) (i w : Nat) : State :=
  { s with host := { s.host with armed := s.host.armed ||| BitVec.ofNat 64 (w % 2 ^ 32 * 2 ^ (32 * i)) } }

/-! ### The MSI-X table (R491) -/

/-- Word `i` of an entry: address low and high, data, vector control. -/
def MsixEntry.word (m : MsixEntry) (i : Nat) : Nat :=
  match i with
  | 0 => m.addr.toNat % 2 ^ 32
  | 1 => m.addr.toNat / 2 ^ 32
  | 2 => m.data.toNat
  | _ => bit m.mask

def MsixEntry.setWord (m : MsixEntry) (i w : Nat) : MsixEntry :=
  match i with
  | 0 => { m with addr := BitVec.ofNat 64 (Machine.setWord m.addr.toNat 0 w) }
  | 1 => { m with addr := BitVec.ofNat 64 (Machine.setWord m.addr.toNat 1 w) }
  | 2 => { m with data := BitVec.ofNat 32 w }
  | _ => { m with mask := tst w 0 }

/-- A word of the table written. -/
def State.msixWrite (s : State) (off w : Nat) : State :=
  let v := off / 16
  { s with host := { s.host with
      msix := s.host.msix.set v ((s.host.msix.get {} v).setWord (off % 16 / 4) w) } }

def State.irqReg (s : State) (a : Nat) : Reg :=
  let h := s.host
  if a = 0x00 then .ro s.irqRaw
  else if a = 0x04 then .rw h.irqEn.toNat (fun w => { s with host := { h with irqEn := BitVec.ofNat 14 w } })
  else if a = 0x08 then .ro (s.irqRaw &&& h.irqEn.toNat)
  else if a = 0x0C then .rw h.pinEn.toNat (fun w => { s with host := { h with pinEn := BitVec.ofNat 14 w } })
  else if a = 0x10 then .wo (s.varm 0)
  else if a = 0x14 then .wo (s.varm 1)
  else if a = 0x18 || a = 0x1C then .roW h.armed.toNat ((a - 0x18) / 4)
  else if a = 0x20 || a = 0x24 then
    .roW (fields ((List.range 64).map (fun n => (bit (s.portIrq n), n)))) ((a - 0x20) / 4)
  else if a = 0x28 then
    .ro (fields ((List.range 16).map (fun c => (bit (s.canIrq c), 16 + c))) +
      fields ((List.range 4).map (fun n => (bit (s.portIrq (64 + n)), n))))
  else if a = 0x2C then .ro h.msgCount.toNat
  else match window a 0x40 4 14 with
  | some (i, _) => .rw (h.vec i) (fun w => { s with host := { h with vmap := h.vmap.set i (BitVec.ofNat 6 w) } })
  | none => match window a 0x8000 16 64 with
  | some (v, o) => .ro ((h.msix.get {} v).word (o / 4))
  | none => if a = 0x9000 then .ro (s.pba % 2 ^ 32) else if a = 0x9004 then .ro (s.pba / 2 ^ 32) else {}

/-! ### BAR0 (Table 18-2) -/

/-- The register word at a BAR0 address that is a multiple of 4. -/
def State.reg (s : State) (a : Nat) : Reg :=
  if a < 0x10000 then s.devReg a
  else if a < 0x20000 then s.irqReg (a - 0x10000)
  else if a < 0x40000 then s.mbxReg (a - 0x20000)
  else if a < 0x50000 then s.timeReg (a - 0x40000)
  else if a < 0x60000 then s.ttReg (a - 0x50000)
  else if a < 0x70000 then s.canReg ((a - 0x60000) / 0x1000) (a % 0x1000)
  else if a < 0x80000 then {}
  else if a < 0x90000 then s.chvReg (a - 0x80000)
  else if a < 0xA0000 then s.recReg (a - 0x90000)
  else if a < 0xB0000 then s.ageReg (a - 0xA0000)
  else if a < 0xC0000 then s.fabReg (a - 0xB0000)
  else if a < 0x100000 then s.pntReg (a - 0xC0000)
  else if a < 0x140000 then s.portReg ((a - 0x100000) / 0x1000) (a % 0x1000)
  else if a < 0x144000 then s.portReg (64 + (a - 0x140000) / 0x1000) (a % 0x1000)
  else if a < 0x180000 then {}
  else if a < 0x200000 then s.swReg (a - 0x180000)
  else if a < 0x400000 then s.engReg ((a - 0x200000) / 0x10000) (a % 0x10000)
  else if a < 0x900000 then s.dumpReg (a - 0x400000)
  else {}

/-- The MSI-X table and the PBA, to which R491 applies. -/
def msixSpan (a : Nat) : Bool := (0x18000 ≤ a && a < 0x18400) || (0x19000 ≤ a && a < 0x19008)

/-- What reads see: before READY a register outside DEV and the MSI-X structures shows its Reset value and
a memory window its contents; DUMP_LOST, whose Reset value is Kept, shows what it has kept (R55, Table 13-13). -/
def State.readView (s : State) (a : Nat) : State :=
  if s.sys.up || a < 0x10000 || msixSpan a then s
  else { State.reset with mem := s.mem, otp := s.otp, host := { capture := s.host.capture },
                          rmy := { dumpLost := s.rmy.dumpLost } }

/-- One 32-bit read: the value and the state (R9, R13). -/
def State.readWord (s : State) (a : Nat) : Nat × State :=
  let r := (s.readView a).reg a
  if r.wide then
    if r.word = 0 then
      (r.val % 2 ^ 32, { s with host := { s.host with capture := s.host.capture.set a r.val } })
    else
      let v := (s.host.capture.find? (a - 4 * r.word)).getD r.val
      (bits v (32 * r.word + 31) (32 * r.word), s)
  else (r.val % 2 ^ 32, if s.sys.up then r.eff.getD s else s)

/-- `n` words read from `a` upward, lowest first (R12). -/
def State.readWords (s : State) (a : Nat) : Nat → List Byte × State
  | 0 => ([], s)
  | n + 1 =>
    let r := s.readWord a
    let rest := r.2.readWords (a + 4) n
    (leBytes 4 r.1 ++ rest.1, rest.2)

/-- One 32-bit write under the access code of its register (R9, R55, R498). -/
def State.writeWord (s : State) (a w : Nat) : State :=
  if !s.sys.up then s
  else
    let r := s.reg a
    match r.act with
    | none => s
    | some f => if r.cfg && (s.sys.lc == .operational || s.sys.lc == .retired) then s.wrViol a else f w

/-- The words of a write in ascending order (R12). -/
def State.writeWords (s : State) (a : Nat) : List Byte → State
  | b0 :: b1 :: b2 :: b3 :: l => (s.writeWord a (leNat [b0, b1, b2, b3])).writeWords (a + 4) l
  | _ => s

/-- The words of a write to the MSI-X table. -/
def State.msixWords (s : State) (off : Nat) : List Byte → State
  | b0 :: b1 :: b2 :: b3 :: l => (s.msixWrite off (leNat [b0, b1, b2, b3])).msixWords (off + 4) l
  | _ => s

/-- A BAR0 memory write request: whole words, or dropped as a whole (R12); the MSI-X table takes aligned
32-bit and 64-bit writes, before READY too (R491, R55). -/
def State.barWrite (s : State) (a : Nat) (bs : List Byte) : State :=
  if msixSpan a then
    if a < 0x18400 && (bs.length = 4 && a % 4 = 0 || bs.length = 8 && a % 8 = 0) then s.msixWords (a - 0x18000) bs
    else s
  else if a % 4 = 0 && bs.length % 4 = 0 then s.writeWords a bs
  else s

/-- A BAR0 memory read request: each whole word touched is read once; the requested bytes return (R12). -/
def State.barRead (s : State) (a n : Nat) : List Byte × State :=
  let r := s.readWords (a / 4 * 4) (if n = 0 then 0 else (a % 4 + n + 3) / 4)
  ((r.1.drop (a % 4)).take n, r.2)

/-! ### BAR2 (R290, R490) -/

/-- Where a view's region begins in DRAM: the point registry, or the SOE ring (Tables 9-1 and 9-23). -/
def viewBase (region : Nat) : Nat := if region = 0 then 0 else 0x20800000

/-- The DRAM address that a BAR2 address shows; none outside every PNT.VIEW. -/
def State.viewAddr (s : State) (a : Nat) : Option Nat :=
  (s.recsOf 0x0708).findSome? (fun r =>
    let off := rdLE r.body 4 4
    if off ≤ a && a < off + rdLE r.body 0xC 4 then
      some (viewBase (byteAt r.body 0) + rdLE r.body 8 4 + (a - off))
    else none)

/-- A byte of BAR2: 0 outside the views and while the point engine is disabled. -/
def State.viewByte (s : State) (a : Nat) : Byte :=
  match s.pnt.enabled, s.viewAddr a with
  | true, some d => s.dramByte d
  | _, _ => 0

/-- A BAR2 read: every record as it stands at the moment of the read. -/
def State.viewBytes (s : State) (a n : Nat) : List Byte := (List.range n).map (fun i => s.viewByte (a + i))

/-! ### The configuration space (R484, R487) -/

/-- What the function's configuration space states and no command changes: its identification, its windows as offset,
size in bytes and prefetchable, its MSI-X vectors and tables, its payload size and its serial number. -/
structure PciFunction where
  vendor     : Nat
  device     : Nat
  revision   : Nat
  classCode  : Nat
  subVendor  : Nat
  subsystem  : Nat
  interruptPin : Nat
  windows    : List (Nat × Nat × Bool)
  vectors    : Nat
  msixTable  : Nat
  msixPba    : Nat
  maxPayload : Nat
  serial     : DWord
deriving DecidableEq, Repr

def State.pciFunction (s : State) : PciFunction where
  vendor := 0x1F5E
  device := 0x6440
  revision := 0xA2
  classCode := 0x028000
  subVendor := 0x1F5E
  subsystem := 0x6440
  interruptPin := 0
  windows := [(0x10, 0x4000000, false), (0x18, 0x10000000, true)]
  vectors := 64
  msixTable := 0x18000
  msixPba := 0x19000
  maxPayload := 256
  serial := s.otp.serial

/-! ### Commands of the host -/

/-- REGISTER_WRITE: a BAR0 write of any shape (R9 to R12, R498); a BAR2 write has no effect (R490). -/
def execRegisterWrite (addr : BarAddr) (data : List Byte) (s : State) : Out :=
  match addr with
  | .bar0 a => ((s.barWrite a.toNat data).canSettle).done
  | .bar2 _ => .next s

/-- WIDE_REGISTER_READ: a read of any shape, of BAR0 (R12, R13) or of the views in BAR2 (R490); its bytes go to
the host. -/
def execWideRegisterRead (addr : BarAddr) (len : BitVec 12) (s : State) : Out :=
  match addr with
  | .bar0 a =>
    let r := s.barRead a.toNat len.toNat
    .next { r.2 with host := { r.2.host with readData := r.1 } }
  | .bar2 a => .next { s with host := { s.host with readData := s.viewBytes a.toNat len.toNat } }

/-- IRQ_VARM. -/
def execIrqVarm (hi : Bool) (w : Word) (s : State) : Out :=
  if s.sys.up then .next (s.varm (bit hi) w.toNat) else .next s

/-- MSI_X_MESSAGE: an armed, pending and open vector sends its message and disarms (R494). -/
def execMsiXMessage (v : Fin 64) (s : State) : Out :=
  if s.vecPending v && s.armed v && !s.msgBlocked v then
    let e := s.host.msix.get {} v.val
    .next { s with host := { s.host with
      armed := s.host.armed &&& ~~~ BitVec.ofNat 64 (2 ^ v.val),
      msgCount := satInc s.host.msgCount, message := some (e.addr, e.data) } }
  else .next s

/-- POWER_STATE_CHANGE: D3hot withholds messages; back in D0 pending armed vectors may send (R486). -/
def execPowerStateChange (d3hot : Bool) (s : State) : Out :=
  .next { s with host := { s.host with d3hot := d3hot } }

/-- PCIE_CONFIGURATION_WRITE: MSI-X Enable, the function mask and Bus Master Enable (R494). -/
def execPcieConfigurationWrite (msixEn fnMask busMaster : Bool) (s : State) : Out :=
  .next { s with host := { s.host with msixEn := msixEn, fnMask := fnMask, busMaster := busMaster } }

end Sys2Proof.Machine
end

