-- ==== Sys2Proof/Machine/BootApply.lean ====
section
/-! DEFINITION. Start-up steps 8 to 12: the records in force brought into the registers and tables of the
blocks, the programs and personalities placed, the engines released (R51). -/

namespace Sys2Proof.Machine

/-! ### Ports (R146, R152, R154, R161, R177) -/

/-- PORT.MAC into the registers of its port (Tables 5-7 to 5-9, 5-14, 5-16). -/
def Port.ofMac (p : Port) (b : List Byte) : Port :=
  let fl := byteAt b 7
  { p with
    cfg := BitVec.ofNat 32 (fields [(byteAt b 9, 24), (byteAt b 8, 16), (byteAt b 0x10, 8), (bit (tst fl 3), 6),
      (bit (tst fl 2), 5), (bit (tst fl 1), 4), (byteAt b 6, 1), (bit (tst fl 0), 0)]),
    maxLen := BitVec.ofNat 16 (rdLE b 0xA 2), pauseWd := BitVec.ofNat 32 (rdLE b 0xE 2 * 2 ^ 16 + rdLE b 0xC 2),
    own := BitVec.ofNat 48 (rdLE b 0 6),
    filt := (List.range (byteAt b 0x11)).map (fun k => (k, BitVec.ofNat 64 (2 ^ 63 + rdLE b (0x18 + 8 * k) 6))) }

/-- The PORT_PAIR word of a member (Table 5-13). -/
def pairWord (b : List Byte) (role : Nat) : BitVec 16 :=
  BitVec.ofNat 16 (fields [(byteAt b (3 - role), 8), (role, 6), (byteAt b 0, 4)])

/-- One PORT record. -/
def State.applyPortRec (s : State) (r : Rec) : State :=
  let b := r.body
  match r.typ with
  | 0x0201 => s.setPort (4 * r.inst) { s.port (4 * r.inst) with lane := BitVec.ofNat 3 (byteAt b 0) }
  | 0x0202 => s.setPort r.inst ((s.port r.inst).ofMac b)
  | 0x0203 =>
    let s := s.setPort (byteAt b 1) { s.port (byteAt b 1) with pair := pairWord b 1 }
    s.setPort (byteAt b 2) { s.port (byteAt b 2) with pair := pairWord b 2 }
  | 0x0204 => s.setPort (64 + r.inst) { s.port (64 + r.inst) with
      cfg := BitVec.ofNat 32 (fields [(byteAt b 1, 2), (byteAt b 0, 1), (1, 0)]) }
  | _ => s

/-- The ports of the lanes to which a bus belongs stay disabled (R152, R177). -/
def State.mdioFailed (s : State) (bus : Nat) : State :=
  (List.range 16).foldl (fun s i =>
    s.setPort (16 * bus + i) { s.port (16 * bus + i) with mdioFail := true }) s

/-- One write of PORT.MDIO: sent, sent again when nothing answers it; `miss` says whether the repeat fails too. -/
def State.mdioWrite (s : State) (w : List Byte) (miss : Option Bool) : State :=
  let s : State := { s with sys := { s.sys with mdio := s.sys.mdio ++ (if miss.isSome then [w, w] else [w]) } }
  if miss = some true then s.mdioFailed (byteAt w 0 % 4) else s

/-- The PORT records, then the writes of PORT.MDIO in record order (R152). -/
def State.applyPorts (s : State) (mdio : List (Nat × Bool)) : State :=
  let s := s.cfg.recs.foldl State.applyPortRec s
  match s.rec? 0x0205 0 with
  | some r => (List.range (r.body.length / 8)).foldl (fun s k =>
      s.mdioWrite ((r.body.drop (8 * k)).take 8) ((mdio.find? (fun m => m.1 == k)).map Prod.snd)) s
  | none => s

/-! ### Switch core, time, schedules, fabric -/

/-- One SW record; a static entry whose bucket is full has failed check 13 before. -/
def State.applySwRec (s : State) (r : Rec) : State :=
  if r.typ = 0x0301 then s.applyCore r.body
  else if r.typ = 0x0309 then s.applyQuota r.inst r.body
  else if 0x0302 ≤ r.typ && r.typ ≤ 0x0308 then (s.swApply r).getD s
  else s

/-- The TIME records (Tables 4-14 to 4-16), and the clock that device time starts on (R54). -/
def State.applyTime (s : State) : State :=
  let t := s.time
  let cal (off : Nat) : Tab (BitVec 16) := (s.recsOf 0x0403).foldl (fun (c : Tab (BitVec 16)) r =>
    (List.range 4).foldl (fun (c : Tab (BitVec 16)) k =>
      c.set (4 * r.inst + k) (BitVec.ofNat 16 (rdLE r.body (off + 2 * k) 2))) c) []
  { s with
    time := { t with
      src := s.primary, utc := BitVec.ofNat 8 (s.fld 0x0401 0 4 2 37), onRefb := !s.sys.refA,
      kp := BitVec.ofNat 16 (s.fld 0x0402 0 0 2 t.kp.toNat), ki := BitVec.ofNat 16 (s.fld 0x0402 0 2 2 t.ki.toNat),
      lockThr := BitVec.ofNat 32 (s.fld 0x0402 0 4 4 t.lockThr.toNat),
      stepThr := BitVec.ofNat 32 (s.fld 0x0402 0 8 4 t.stepThr.toNat), extRx := cal 0, extTx := cal 8 },
    tt := { s.tt with ring := s.sys.refbBad } }

/-- TT.GATE and TT.CAN into bank 0 of their units (R220, R229). -/
def State.applyTt (s : State) : State :=
  let bank := (s.recsOf 0x0502).foldl (fun (t : Tab (List Byte)) r => t.set (2 * r.inst) r.body) []
  let bank := (s.recsOf 0x0504).foldl (fun (t : Tab (List Byte)) r => t.set (2 * (0x80 + r.inst)) r.body) bank
  State.qualUpdate { s with tt := { s.tt with bank := bank } }

/-- Costs, a fresh incarnation and the claim (R243, R244, Table 8-13). -/
def State.applyFab (s : State) : State :=
  let s := (s.recsOf 0x0603).foldl (fun s r =>
    s.setFport r.inst { s.fport r.inst with cost := BitVec.ofNat 16 (rdLE r.body 2 2) }) s
  let s : State := { s.draw with fab := { s.fab with inc := Free.word s.sys.draws } }
  s.startClaim

/-! ### Points, mailboxes, host -/

/-- The point engine, unused without DRAM (R259, R265, R275, R286). -/
def State.applyPnt (s : State) (on : Bool) : State :=
  let grants := (s.recsOf 0x0704).foldl (fun (t : Tab PGrant) r => t.set r.inst (.ofBytes r.body)) []
  let s : State := { s with pnt := { s.pnt with
    enabled := on, grants := grants, soeLevel := s.fld 0x0701 0 4 4 0,
    hqDepth := (List.range 4).map (fun q => (q, s.fld 0x0705 (32 + q) 4 2 0)),
    hqIrq := (List.range 4).map (fun q => (q, s.fld 0x0705 (32 + q) 6 2 0)) } }
  if on then (s.subAppendAll s.subEntries).getD s else s

/-- HOST.MBOX and HOST.PCIE (Tables 12-11 and 18-10). -/
def State.applyHost (s : State) : State :=
  let s := (s.recsOf 0x0D01).foldl (fun s r =>
    s.setMb r.inst { s.mb r.inst with
      home := BitVec.ofNat 8 (byteAt r.body 0), farReader := BitVec.ofNat 8 (byteAt r.body 1),
      far := BitVec.ofNat 36 (rdLE r.body 8 8) }) s
  { s with host := { s.host with pinEn := BitVec.ofNat 14 (s.fld 0x0D02 0 2 2 0) } }

/-! ### Chive (R445, R446, R452, Tables 15-4 to 15-6) -/

/-- The UART TX program as Sage places it (Table 15-6). -/
def uartTxWords : List Nat :=
  [0x240200, 0x200200, 0x1BC000, 0x18C008, 0x800000, 0x1B4000, 0x1D40FF, 0x420010, 0x230000, 0x180001,
   0x418000, 0x134001, 0x648008, 0x500000, 0x600004]

/-- The PPS program (R448): take the edge time, T := it, take the level, PPS_OUT := it at T. -/
def ppsWords : List Nat := [0x800000, 0x480000, 0x810000, 0x2B4000, 0x600000]

/-- The IRIG-B input program (R447): the rising stamp's low word is given with the falling stamp as E. -/
def irigInWords : List Nat :=
  [0x040000, 0x720000, 0x520800, 0x760000, 0x448000, 0x460000, 0x520000, 0x7A0000, 0x880000, 0x600002]

/-- The IRIG-B output program (R448): the pin an output, then as PPS on pin 0. -/
def irigOutWords : List Nat := [0x240200, 0x800000, 0x480000, 0x810000, 0x234000, 0x600001]

/-- The UART RX program (R446): the pin an input, g3 := b, g2 := b / 2; then edge latches cleared, a falling edge
awaited and stamped, T := stamp + b / 2, nbits samples b apart, the character given with the stamp. -/
def uartRxWords : List Nat :=
  [0x240000, 0x1BC000, 0x18C008, 0x17B000, 0x188001, 0x720000, 0x520000, 0x780000, 0x450000, 0x1B4000, 0x1D40FF,
   0x500000, 0x300000, 0x418000, 0x134001, 0x64800B, 0x880000, 0x600005]

/-- The binary input (R449) and binary output (R450) programs. -/
def binInWords : List Nat := [0x5500FF, 0x880000, 0x600000]
def binOutWords : List Nat := [0x800000, 0x2D0000, 0x600000]

/-- The words of a standard program. The spec prints those of UART TX (Table 15-6); the others are the steps that
R446 to R450 give, at the lengths of Table 15-4 (DEDUCED, log 55). -/
def progWords (kind : Nat) : List (BitVec 24) :=
  (match kind with
    | 2 => ppsWords | 3 => irigInWords | 4 => irigOutWords | 5 => uartRxWords | 6 => uartTxWords
    | 7 => binInWords | 8 => binOutWords | _ => []).map (BitVec.ofNat 24)

/-- The IN FIFO sink of a standard program; a program that gives nothing has a free one. -/
def stdSink (kind free : Nat) : Nat :=
  match kind with
  | 3 => 4 | 5 => 2 | 7 => 1 | _ => free % 5

/-- Engine `e` set up for a standard program: K and po of a UART line are stated (R446), as are po 0 of binary
output (R450) and, since one copy of a program drives the pin of its record, po of IRIG-B (R445); K, po and div of
the others are free values. -/
def State.stdEngine (s : State) (e kind line entry : Nat) : State :=
  let d := s.sys.draws
  let baud := s.lineFld line 8 4
  let (b, t) := if kind = 5 || kind = 6 then s.nearest 4000000000 baud else (0, s)
  let uart := kind = 5 || kind = 6
  let po := if kind = 5 then s.linePin line 3 % 8 else if kind = 6 then s.linePin line 2 % 8
    else if kind = 3 then s.fld 0x0405 0 0 1 0 % 8 else if kind = 4 then s.fld 0x0405 0 1 1 0 % 8
    else if kind = 8 then 0 else (Free.word d).toNat
  let x : CeEng := { s.ce e with
    prog := BitVec.ofNat 4 kind, line := line, sink := BitVec.ofNat 4 (stdSink kind (Free.word (d + 1)).toNat),
    k := if uart then BitVec.ofNat 32 (b.toNat * 256 + s.lineBits line) else Free.word (d + 2),
    po := BitVec.ofNat 3 po, div := if uart then 0 else (Free.word (d + 3)).setWidth 16, st := .running, pc := entry }
  let t := t.setCe e x
  { t with sys := { t.sys with draws := t.sys.draws + 4 } }

/-- The standard programs of a group: one copy of each kind from word 0 upward, engines from CE(4g) upward. -/
def State.stdGroup (s : State) (g : Nat) : State :=
  let plan := s.chivePlan g
  let entries := planEntries 0 (planKinds plan)
  let at_ (k : Nat) : Nat := match entries.find? (fun p => p.1 == k) with | some p => p.2 | none => 0
  let words := entries.flatMap (fun p => progWords p.1)
  let x := s.grp g
  let tab := fields ((List.range 4).map (fun i => ((match plan[i]? with | some p => at_ p.1 | none => 0xFF), 8 * i)))
  let x : CeGroup := { x with
    store := words.zipIdx.map (fun p => (p.2, p.1)), entry0 := BitVec.ofNat 32 tab,
    gdiv := BitVec.ofNat 4 (s.fld 0x0A01 g 0 1 1 - 1), keep := tst (s.fld 0x0A01 g 1 1 0) 0,
    started := !plan.isEmpty }
  plan.zipIdx.foldl (fun s p => s.stdEngine (4 * g + p.2) p.1.1 p.1.2 (at_ p.1.1)) (s.setGrp g x)

/-- CHIVE.PROG of a group: its words and engines beside the standard ones. -/
def State.customGroup (s : State) (g : Nat) : State :=
  match s.rec? 0x0A03 g with
  | none => s
  | some r =>
    let b := r.body
    let x := s.grp g
    let ks := (List.range 4).filter (fun k => byteAt b (16 * k) != 0xFF)
    let store := (List.range (byteAt b 0x41)).foldl (fun (t : Tab (BitVec 24)) w =>
      t.set (byteAt b 0x40 + w) (BitVec.ofNat 24 (rdLE b (0x48 + 4 * w) 4))) x.store
    let ent (k : Nat) : Nat := if ks.contains k then byteAt b (16 * k) else bits x.entry0.toNat (8 * k + 7) (8 * k)
    let x : CeGroup := { x with
      store := store, started := x.started || !ks.isEmpty,
      entry0 := BitVec.ofNat 32 (fields ((List.range 4).map (fun k => (ent k, 8 * k)))) }
    ks.foldl (fun s k =>
      let c := progCfg b k
      s.setCe (4 * g + k) { s.ce (4 * g + k) with
        k := c.k, po := c.po, prog := c.prog, sink := c.sink, div := c.div, point := c.point, st := .running,
        pc := byteAt b (16 * k) }) (s.setGrp g x)

/-- Pins and groups. -/
def State.applyChive (s : State) : State :=
  let s := (s.recsOf 0x0A02).foldl (fun s r =>
    s.setCpin r.inst { s.cpin r.inst with
      func := BitVec.ofNat 4 (byteAt r.body 0), invert := tst (byteAt r.body 1) 0,
      filterUs := BitVec.ofNat 16 (rdLE r.body 2 2) }) s
  (List.range 8).foldl (fun s g => (s.stdGroup g).customGroup g) s

/-! ### Operating points and the ledger (R469) -/

/-- The valid record of a ledger slot. -/
def State.ledgerSlot (s : State) (r : Region) (i : Nat) : Option (List Byte) :=
  let b := s.nvmBytes (r.off + 4096 * i) 512
  if rdLE b 0 4 == 0x5247444C && rdLE b 6 2 == 512 && BitVec.ofNat 32 (rdLE b 0x1FC 4) == crc32c (b.take 0x1FC)
  then some b else none

/-- The valid record with the highest seq among the slots that can be read. -/
def State.lastLedger (s : State) (bad : List (Fin 64)) : Option (List Byte) :=
  match s.ledger? with
  | none => none
  | some r => (List.range 64).foldl (fun (acc : Option (List Byte)) i =>
      if bad.any (fun x => x.val == i) then acc
      else match s.ledgerSlot r i, acc with
        | some b, some a => if rdLE a 8 8 < rdLE b 8 8 then some b else acc
        | some b, none => some b
        | none, _ => acc) none

/-- An island continued from a ledger record: step 0, assist, v0, b and sens of the record. -/
def AgeIsland.ofLedger (b : List Byte) (i : Nat) : AgeIsland :=
  let o := 0x30 + 8 * i
  let v0 := rdLE b (0x1A0 + 2 * i) 2
  { assist := bits (byteAt b o) 4 3,
    sens := .norm (byteAt b (o + 2)) 16, sensReg := BitVec.ofNat 8 (byteAt b (o + 2)),
    v0 := .norm v0 1, v0Reg := BitVec.ofNat 16 v0,
    b := .norm (rdLE b (o + 4) 2) 100, bReg := BitVec.ofNat 16 (rdLE b (o + 4) 2) }

/-- Start-up step 8. -/
def State.applyAge (s : State) (bad : List (Fin 64)) : State :=
  match s.lastLedger bad with
  | some b =>
    let rail (r : Nat) : AgeRail := { set := min (rdLE b (0x20 + 2 * r) 2 + 20) (s.ceilingMv r) }
    { s with age := { s.age with
        ledgerOk := true, ageBase := rdLE b 0x18 4, nextSeq := rdLE b 8 8 + 1,
        ledgerSeq := BitVec.ofNat 64 (rdLE b 8 8),
        island := (List.range 46).map (fun i => (i, AgeIsland.ofLedger b i)),
        rail := (List.range 3).map (fun r => (r, rail r)) } }
  | none =>
    { s with age := { s.age with
        rail := (List.range 3).map (fun r => (r, ({ set := s.startMv r } : AgeRail))) } }

/-! ### Personalities (R295, R297 to R299, R301) -/

/-- One store entry placed in the DRAM personality region for every engine that references it: the next
address, the engines' records, and the bytes' places. Code 0x0C with version 0 is the SRV personality of the
ROM kernel, which needs no entry (R293). -/
def State.placeEntry (s : State) (acc : Nat × List Placed) (r : Rec) : Nat × List Placed :=
  if byteAt r.body 0 = 0x0C && rdLE r.body 2 2 = 0 then acc
  else match s.storeEntry? (byteAt r.body 0) (rdLE r.body 2 2) with
  | none => acc
  | some a =>
    let h := s.nvmBytes a 256
    let bankLen := rdLE h 0x18 4
    let tableLen := rdLE h 0x1C 4
    let code := byteAt h 0x10
    let ver := rdLE h 0x12 2
    let old := acc.2.find? (fun p => p.code == code && p.version == ver)
    let at_ := match old with | some p => p.bankAt | none => acc.1
    let tab := match old with | some p => p.tableAt | none => roundUp (acc.1 + bankLen) (2 ^ 20)
    let next := if old.isSome then acc.1 else roundUp (tab + tableLen) (2 ^ 20)
    let p : Placed := { eng := r.inst, code := code, version := ver, bankLen := bankLen, tableLen := tableLen,
                        entryPc := rdLE h 0x20 4, digest := (h.drop 0x60).take 32, bankAt := at_, tableAt := tab }
    (next, acc.2 ++ [p])

/-- The expanded sections in DRAM. -/
def State.loadPlaced (s : State) (p : Placed) : State :=
  match s.storeEntry? p.code p.version with
  | none => s
  | some a =>
    let x := Free.lz4Expand (s.nvmBytes (a + 256) (s.nvmLE (a + 8) 4))
    let m := Mem.writeBytes 0 s.mem.dram p.bankAt (x.take p.bankLen)
    { s with mem := { s.mem with dram := Mem.writeBytes 0 m p.tableAt (x.drop p.bankLen) } }

/-- An instance bound: its bank built; released at its first instruction unless it starts stopped. -/
def State.startInstance (s : State) (r : Rec) : State :=
  let e := r.inst
  let s := s.setEng e { s.eng e with bound := true }
  let p := s.persSection e
  let s := s.buildBank e p.1
  if tst (byteAt r.body 1) 1 then s
  else
    let s := s.release e p.2
    let c := s.core e
    let cl := s.cl (e / 2)
    let s := s.setCl (e / 2) (if e % 2 = 1 then { cl with endHi := c, ckptHi := c } else { cl with endLo := c, ckptLo := c })
    s.statusPoint e 2

/-- Epoch lengths and grants of every cluster, personalities placed, instances started, the first epochs begun
(R377, R406). -/
def State.applyPers (s : State) : State :=
  let s := (List.range 16).foldl (fun s k =>
    let us := s.fld 0x0B01 0 k 1 0
    s.setCl k { s.cl k with
      epochUs := if us = 0 then 8 else BitVec.ofNat 7 us, grantsCur := s.pnt.grants, grantsPrev := s.pnt.grants,
      epochAt := s.sys.mono }) s
  let placed := ((s.recsOf 0x0801).foldl s.placeEntry (0x40800000, [])).2
  let s : State := { s with engs := { s.engs with placed := placed } }
  let s := placed.foldl State.loadPlaced s
  let s := (s.recsOf 0x0801).foldl State.startInstance s
  (List.range 16).foldl State.epochStart s

/-! ### The dump region (R402) -/

/-- The dump region holds a committed dump: commit value and check_word match. -/
def State.dumpStored (s : State) (r : Region) : Bool :=
  let comp := s.nvmLE (r.off + 0x28) 4
  s.nvmLE (r.off + 0x3FFF80) 4 == 0x504D4443 && comp ≤ 0x400000 - 256 &&
  BitVec.ofNat 32 (s.nvmLE (r.off + 0x3FFF88) 4) == crc32c (s.nvmBytes r.off (128 + comp))

/-- A committed dump is present, or the erasure begins. -/
def State.checkDump (s : State) : State :=
  match s.region? 5 0 with
  | none => s
  | some r =>
    if s.dumpStored r then { s with rmy := { s.rmy with dumpPresent := true } }
    else { s with rmy := { s.rmy with erasing := true, dumpState := 3 } }

/-! ### All blocks -/

/-- The records in force applied to every block; `on`: an image is in force and DRAM works. -/
def State.applyAll (s : State) (f : BootFind) (on : Bool) : State :=
  let s := s.applyAge f.ledger
  let s := s.applyPorts f.mdio
  let s := s.cfg.recs.foldl State.applySwRec s
  let s := s.applyTime.applyTt.applyFab
  let s := (s.applyPnt on).applyHost.applyChive
  s.applyPers.checkDump

end Sys2Proof.Machine
end

