-- ==== Sys2Proof/Machine/BootOps.lean ====
section
/-! DEFINITION. Device resets, the choice of the configuration slot, the factory defaults, and start-up as a
whole (R44 to R72, R398, R469). -/

namespace Sys2Proof.Machine

/-! ### Resets (R44 to R48, R54, R398) -/

/-- Causes whose always-on stage is the cold one (Table 2-1). -/
def Cause.cold : Cause → Bool
  | .por | .supply | .thermal | .lifeCycle => true
  | _ => false

/-- A source still holds the reset. -/
def Sys.holds (y : Sys) : Bool := y.porHeld || y.supplyHeld || y.thermHeld

/-- The stage after the always-on stage of a reset: held, waiting for a clock, or the wipe. -/
def Sys.begin_ (y : Sys) (cold : Bool) : Stage :=
  if y.holds then .held
  else if !cold then .wiping
  else if y.refA then .wiping
  else if y.refB then .refWait else .clockWait

/-- The PLLs are not locked yet: a warm cause finds the clocks to be judged. -/
def Stage.unlocked : Stage → Bool
  | .held | .clockWait | .refWait => true
  | _ => false

/-- The fatal sequence runs and its dump is not in the NVM; a dump that will not be written counts as done once
it is offered (R397 to R399). -/
def State.fatalOpen (s : State) : Bool :=
  s.sys.stage == .fatalSeq && !s.rmy.dumpWritten &&
  !(s.rmy.dumpState = 1 && (s.dumpBlocked || (s.region? 5 0).isNone))

/-- The fatal record that the always-on island holds after a reset now (R398, R522). -/
def State.latchedAfter (s : State) : Option FatalRec := if s.fatalOpen then s.rmy.fatal else s.rmy.latched

/-- PIO and PPS_IN balls that read high and that the device did not drive. -/
def State.ballsAfter (s : State) : Tab CePin :=
  (s.chv.pin.filter (fun p => decide (p.1 < 65) && p.2.raw && !p.2.out)).map (fun p => (p.1, ({ raw := true } : CePin)))

/-- The NVM writes under way besides a job: the dump in the fatal sequence up to its
trailer, its erasure, a ledger record. -/
def State.openParts (s : State) : List NvmPart :=
  (match s.region? 5 0 with
   | some r =>
     if s.sys.stage == .fatalSeq && s.rmy.dumpState = 1 && !s.rmy.dumpWritten && !s.dumpBlocked then
       let n := s.rmy.dumpLen.toNat - 128
       [{ at_ := r.off, size := 0x400000,
          prog := progAt r.off (Mem.readBytes 0 s.rmy.dumpWin 0 n) }]
     else if s.rmy.erasing then [{ at_ := r.off, size := r.size }] else []
   | none => []) ++
  (match s.age.write, s.ledger? with
   | some b, some r =>
     let a := r.off + s.age.nextSeq % 64 * 4096
     [{ at_ := a, size := 4096, prog := progAt a b }]
   | _, _ => [])

/-- Every NVM write under way abandoned at its next page boundary: a reset has arrived (R47). -/
def State.abandonWrites (s : State) : State := s.openParts.foldl State.cutWrite s.cutJob

/-- A device reset: what is left is the OTP, the NVM, the always-on island's records, the pins that sources
drive, and the commands that wait. -/
def State.deviceReset (s : State) (c : Cause) : State :=
  let s := s.abandonWrites
  let y := s.sys
  let por := c == .por
  let sys : Sys := {
    stage := y.begin_ (c.cold || y.stage.unlocked), porHeld := y.porHeld, supplyHeld := y.supplyHeld,
    thermHeld := y.thermHeld, cause := c, rstCount := if por then 0 else satInc y.rstCount, lc := s.otp.decode,
    refA := y.refA, refB := y.refB, refbHz := y.refbHz, draws := y.draws }
  let host : HostIf := { perst := s.host.perst, perstCount := if por then 0 else s.host.perstCount }
  let rmy : RecBlk := { dumpLost := if por then 0 else s.rmy.dumpLost, latched := s.latchedAfter }
  { sys := sys, otp := s.otp, mem := { nvm := s.mem.nvm }, host := host, rmy := rmy,
    cfg := { nvmSize := s.cfg.nvmSize, octal := s.cfg.octal }, chv := { pin := s.ballsAfter }, pending := s.pending }

/-- A cause that arises while the reset is held is part of it; the lowest code stands (R44). -/
def State.joinReset (s : State) (c : Cause) : State :=
  let s := if c.code < s.sys.cause.code then { s with sys := { s.sys with cause := c } } else s
  if c = .por then
    { s with sys := { s.sys with rstCount := 0 }, host := { s.host with perstCount := 0 },
             rmy := { s.rmy with dumpLost := 0 } }
  else s

/-- A source that holds its reset is asserted: its hold stands in `s`. -/
def State.holdReset (s : State) (c : Cause) : State :=
  if s.sys.stage == .held then s.joinReset c else s.deviceReset c

/-- The clocks as found. -/
def State.setClocks (s : State) (x : Clocks) : State :=
  { s with sys := { s.sys with refA := x.a, refB := x.b, refbHz := x.hz } }

/-- A hold has ended: the cold always-on stage begins once none is left. -/
def State.endHold (s : State) (x : Clocks) : State :=
  let s := s.setClocks x
  { s with sys := { s.sys with stage := s.sys.begin_ true } }

/-- A warm reset: without effect while another source holds the device in reset. -/
def State.warmReset (s : State) (c : Cause) : State :=
  if s.sys.stage == .held then s else s.deviceReset c

/-! ### The directory and the slots (R58, R64, R68, R69) -/

/-- The directory in use: copy 0 when it reads and is valid, else copy 1; empty when neither is. -/
def State.directory (s : State) (f : BootFind) : List Region :=
  if f.dir0 && s.dirOk 0 then (s.dirEntries 0).map Region.ofBytes
  else if f.dir1 && s.dirOk 0x10000 then (s.dirEntries 0x10000).map Region.ofBytes
  else []

/-- Length of the image in a slot. -/
def State.imgLen (s : State) (r : Region) : Nat := s.nvmLE (r.off + 0x10) 4

/-- Checks 1 to 8 of a slot. -/
def State.headReason (s : State) (r : Region) (x : SlotFind) : Nat :=
  if !x.head then 0x12
  else
    let b := s.nvmBytes r.off 64
    let h := firstFail (headerChecks b r.size)
    if h ≠ 0 then h else firstFail (s.trailerChecks b (s.nvmBytes (r.off + s.imgLen r - 128) 128) x.v)

/-- Checks 9 to 17 of a slot that is tried. -/
def State.bodyReason (s : State) (r : Region) (x : SlotFind) : Nat :=
  if !x.body then 0x12 else firstFail (s.bodyChecks (s.nvmBytes r.off (s.imgLen r)) x.v x.pers)

/-- The reasons of slots A and B, and the slot applied (R68): the higher sequence first, slot A on a tie, the
other one when that fails a later check. A directory whose two slot entries carry the same instance names one slot
twice and the other not at all; then no slot is a candidate (log 136). -/
def State.choose (s : State) (f : BootFind) : Nat × Nat × Option Nat :=
  match s.region? 2 0, s.region? 2 1 with
  | some ra, some rb =>
    let ha := s.headReason ra f.a
    let hb := s.headReason rb f.b
    let ba := s.bodyReason ra f.a
    let bb := s.bodyReason rb f.b
    if ha ≠ 0 && hb ≠ 0 then (ha, hb, none)
    else if hb ≠ 0 then (ba, hb, if ba = 0 then some 0 else none)
    else if ha ≠ 0 then (ha, bb, if bb = 0 then some 1 else none)
    else if s.nvmLE (ra.off + 8) 8 < s.nvmLE (rb.off + 8) 8 then
      if bb = 0 then (0, 0, some 1) else (ba, bb, if ba = 0 then some 0 else none)
    else if ba = 0 then (0, 0, some 0) else (ba, bb, if bb = 0 then some 1 else none)
  | _, _ => (0, 0, none)

/-! ### What is put in force -/

/-- The SRV instance's address under the factory defaults (Table 10-19), in wire order. -/
def srvIp (serial : Nat) : List Byte :=
  [169, 254, BitVec.ofNat 8 (1 + serial / 256 % 256 % 254), BitVec.ofNat 8 serial]

/-- The factory defaults as records: P0 on lane SL0 in SGMII, the fabric ports enabled for discovery at the rate
code of FPORT_CFG's Reset column (log 70), and SRV from ROM on E0, with the local frames of P0
bound to its context (R71). -/
def factoryRecs (serial : Nat) : List Rec :=
  let mk (typ : Nat) (b : List Byte) : Rec := { typ := typ, ver := 1, flags := 0, inst := 0, body := b }
  let fabric (n : Nat) : Rec := { typ := 0x0204, ver := 1, flags := 0, inst := n, body := leBytes 8 0 }
  [mk 0x0201 ([3] ++ leBytes 7 0),
   mk 0x0202 (leBytes 7 0 ++ [1, 0xC0, 0xC0] ++ leBytes 2 1518 ++ leBytes 2 20 ++ leBytes 2 100 ++ leBytes 8 0),
   fabric 0, fabric 1, fabric 2, fabric 3,
   mk 0x0308 (leBytes 1 0 ++ [1] ++ leBytes 30 0 ++ [0xFF, 1] ++ leBytes 30 0 ++ [4] ++ leBytes 15 0),
   mk 0x0801 ([0x0C, 0] ++ leBytes 2 0 ++ leBytes 4 0xFFFFFFFF ++ leBytes 8 1 ++ leBytes 16 0),
   mk 0x0802 (leBytes 2 0 ++ leBytes 2 1 ++ leBytes 4 0),
   mk 0x0804 (srvIp serial ++ [16, 1] ++ leBytes 12 0 ++ leBytes 2 1500 ++ leBytes 2 1 ++ leBytes 10 0)]

/-- An image put in force: slot, sequence, digest, its known records, those skipped (R65, R67, R77). -/
def State.takeImage (s : State) (slot : Nat) : State :=
  match s.region? 2 slot with
  | none => s
  | some r =>
    let b := s.nvmBytes r.off (s.imgLen r)
    let rs := match imgRecs b with | some (l, _, _) => l | none => []
    let s := s.withRecs rs
    { s with
      cfg := { s.cfg with digest := ((imgTrailer b).drop 0x20).take 32 },
      sys := { s.sys with
        cfgSlot := slot == 1, cfgSeq := BitVec.ofNat 64 (rdLE b 8 8), cfgUnsigned := !imgSigned b,
        cfgSkipped := BitVec.ofNat 32 (rs.filter (fun x => !recKnown x)).length } }

/-- The factory defaults put in force with a default cause (R71, R72). -/
def State.takeDefaults (s : State) (why : Byte) : State :=
  { s with cfg := { s.cfg with recs := factoryRecs s.otp.serial.toNat },
           sys := { s.sys with cfgDefault := true, defCause := why } }

/-- RETIRED: neither slot is read, the regions of R108 are erased, nothing is enabled (Table 2-11). -/
def State.takeRetired (s : State) : State :=
  let s := ((s.eraseRegion 3 0).eraseRegion 6 0).eraseRegion 7 0
  { s with sys := { s.sys with reasonA := 0x13, reasonB := 0x13, defCause := 3 } }

/-- Slot selection, with the factory defaults where no slot is left (R68). -/
def State.takeSlots (s : State) (f : BootFind) : State :=
  let (a, b, slot) := s.choose f
  let s : State := { s with sys := { s.sys with reasonA := BitVec.ofNat 8 a, reasonB := BitVec.ofNat 8 b } }
  match slot with
  | none => s.takeDefaults 1
  | some i =>
    if f.dram then s.takeImage i
    else { s with sys := { s.sys with dramFail := true } }.takeDefaults 2

/-- Steps 4 to 9: what is in force. -/
def State.takeConfig (s : State) (f : BootFind) : State :=
  if s.sys.lc = .retired then s.takeRetired
  else if s.cfg.dir.isEmpty then s.takeDefaults 4
  else s.takeSlots f

/-- The frequency of REFCLK_B that DEV.CLOCK names, in Hz (Table 2-15). -/
def State.refbNominal (s : State) : Nat := if s.fld 0x0103 0 0 1 0 = 1 then 10000000 else 25000000

/-- REFCLK_B absent, or off the configured frequency by more than DEV.CLOCK's tolerance; without REFCLK_A it
cannot be measured (R75). -/
def State.judgeRefb (s : State) : Bool :=
  let n := s.refbNominal
  let off := (n - s.sys.refbHz) + (s.sys.refbHz - n)
  !s.sys.refB || (s.sys.refA && decide (n * s.fld 0x0103 0 2 2 100 < off * 1000000))

/-- Step 10 of start-up retrains a link that has trained above HOST.PCIE's max_speed (R506). -/
def State.limitLink (s : State) : State :=
  let m := s.fld 0x0D02 0 0 1 3
  if m < s.host.speed.toNat then { s with host := { s.host with speed := BitVec.ofNat 4 m } } else s

/-- The PCIe link of a function out of PE_PERST_N: as trained, or down (R518). -/
def State.trainLink (s : State) (link : Option PcieLink) : State :=
  match s.host.perst, link with
  | false, some l => { s with host := { s.host with dlActive := true, width := l.width, speed := l.speed } }
  | _, _ => s

/-- The device on XSPI_CS1_N, included when its SFDP signature is right (R57). -/
def nvmSecond (x : NvmFind) : Option NvmDev :=
  match x.cs1 with
  | some (sig, d) => if sig = 0x50444653 then some d else none
  | none => none

/-- The NVM that the SFDP search finds: CS0's device, followed by CS1's (R57). -/
def nvmTotal (x : NvmFind) : Nat := x.cs0.size + (match nvmSecond x with | some d => d.size | none => 0)

/-- Every device found supports octal DDR (R57). -/
def nvmOctal (x : NvmFind) : Bool := x.cs0.octal && (match nvmSecond x with | some d => d.octal | none => true)

/-- The kernel that runs: copy 0 when its signature verifies, else copy 1; none: the ROM kernel (R58, R61). -/
def State.kernelRun (s : State) (f : BootFind) : Option Nat :=
  if s.cfg.dir.isEmpty then none else if f.kern0 then some 0 else if f.kern1 then some 1 else none

/-- Start-up from the wipe to READY (Table 2-2, R51, R52, R77). -/
def State.boot (s : State) (f : BootFind) : State :=
  let s : State := { s with cfg := { s.cfg with nvmSize := nvmTotal f.nvm, octal := nvmOctal f.nvm } }
  let s : State := { s with cfg := { s.cfg with dir := s.directory f } }
  let run := s.kernelRun f
  let t := us f.micros.toNat
  let s : State := { s with
    sage := { s.sage with pufFail := !f.puf, certsOk := s.certsValid },
    time := { s.time with t := s.time.t + BitVec.ofNat 64 t },
    sys := { s.sys with faultPin := false, nvmQuad := !s.cfg.octal, kernelRom := run.isNone,
                        kernelCopy := run.getD 0,
                        mono := s.sys.mono + t, dramKey := some (s.sys.draws, s.sys.draws + 1) } }
  let s := s.draw.draw.takeConfig f
  let s : State := { s with sys := { s.sys with
    refbBad := s.judgeRefb, stage := .running, up := true, ready := true, readyAt := s.sys.mono, bootTime := f.micros } }
  let on := !s.sys.cfgDefault && s.sys.lc != .retired
  ((s.applyAll f on).trainLink f.link).limitLink

end Sys2Proof.Machine
end

