-- ==== Sys2Proof/Machine/Startup.lean ====
section
/-! DEFINITION. The commands of reset and start-up (R44 to R55, R76, R95, R397, R398, R486, R505, R512,
R522). -/

namespace Sys2Proof.Machine

/-! ### Resets that are held (R44, R512, R522) -/

/-- POR_N_ASSERT. -/
def execPorNAssert (s : State) : Out :=
  if s.sys.porHeld then .next s
  else .next (State.holdReset { s with sys := { s.sys with porHeld := true } } .por)

/-- POR_N_RELEASE: the always-on stage begins once no other source holds the reset. -/
def execPorNRelease (x : Clocks) (s : State) : Out :=
  if s.sys.porHeld then .next (State.endHold { s with sys := { s.sys with porHeld := false } } x) else .next s

/-- Monitor thresholds in mV of VDD_ENG, VDD_SW, VDD_SOC, VDD_AO, VDD_SRAM, VDDA_SD09, VDDA_SD12, VDDQ_DDR, VDDIO_18
and VDDIO_33 (Table 19-7). -/
def monitorMv : List Nat := [660, 660, 660, 740, 780, 830, 1100, 1100, 1620, 2970]

/-- SUPPLY_MONITOR_RESET: a rail has stood at `mv` or lower for 1 µs. -/
def execSupplyMonitorReset (rail : Fin 10) (mv : Nat) (s : State) : Out :=
  if s.sys.supplyHeld || monitorMv.getD rail 0 ≤ mv then .next s
  else .next (State.holdReset { s with sys := { s.sys with supplyHeld := true } } .supply)

/-- Every rail lies above its threshold plus 10 mV (R512). -/
def railsUp (mv : List Nat) : Bool := (List.range 10).all (fun i => monitorMv.getD i 0 + 10 < mv.getD i 0)

/-- SUPPLY_MONITOR_RELEASE: the lowest voltage of each rail over the last 1 ms. -/
def execSupplyMonitorRelease (x : Clocks) (mv : List Nat) (s : State) : Out :=
  if s.sys.supplyHeld && railsUp mv then .next (State.endHold { s with sys := { s.sys with supplyHeld := false } } x) else .next s

/-- The trip and release points of the part's grade in units of 0.25 °C (R522). -/
def tripPoint : Int := if Free.extendedGrade then 540 else 480
def releasePoint : Int := if Free.extendedGrade then 460 else 400

/-- THERMAL_TRIP: the highest island sensor reads `tj`; THERMTRIP_N is asserted while the hold stands. -/
def execThermalTrip (tj : Int) (s : State) : Out :=
  if s.sys.thermHeld || tj ≤ tripPoint then .next s
  else .next (State.holdReset { s with sys := { s.sys with thermHeld := true } } .thermal)

/-- THERMAL_RELEASE: the highest island sensor reads `tj`. -/
def execThermalRelease (x : Clocks) (tj : Int) (s : State) : Out :=
  if s.sys.thermHeld && tj < releasePoint then .next (State.endHold { s with sys := { s.sys with thermHeld := false } } x) else .next s

/-! ### Warm resets and the life-cycle reset -/

/-- WARM_N_ASSERT. -/
def execWarmNAssert (s : State) : Out := .next (s.warmReset .warm)

/-- Sage runs, or is about to: the always-on watchdog counts. -/
def Stage.sageRuns : Stage → Bool
  | .wiping | .running | .fatalSeq => true
  | _ => false

/-- SAGE_WATCHDOG_EXPIRY: a fatal record with reason 0x0E is latched, unless a fatal error's own record is
(R396, R398). -/
def execSageWatchdogExpiry (s : State) : Out :=
  if s.sys.stage.sageRuns then
    let r : FatalRec := { reason := 0x0E, island := 3, stamp := s.time.t, rst := s.sys.rstCount }
    let keep := if s.fatalOpen then s.rmy.fatal else some r
    let s := s.warmReset .watchdog
    .next { s with rmy := { s.rmy with latched := keep } }
  else .next s

/-- LIFECYCLE_COLD_RESET: the cold reset that a transition has made due (R95). -/
def execLifecycleColdReset (s : State) : Out :=
  if s.running && s.sage.coldDue then .next (s.deviceReset .lifeCycle) else .next s

/-- RESET_REQUEST 0xC01: DONE, then the reset is due (R505). -/
def execResetRequest (q : Req) (s : State) : Out :=
  if s.running then
    (s.serve q 0xC01 0 (fun s =>
      if s.host.img.isSome || s.engs.append.isSome || s.sage.coldDue then .inr 0x14
      else .inl (({ s with sage := { s.sage with warmDue := true } } : State).finish q 0xC01))).done
  else .next s

/-- REQUESTED_WARM_RESET. -/
def execRequestedWarmReset (s : State) : Out :=
  if s.running && s.sage.warmDue then .next (s.deviceReset .request) else .next s

/-- FATAL_RESET: step 5 of the fatal sequence; the dump is written, or offered and not to be written, and the host has
released it or offer_ms have passed (Tables 13-7 and 13-16). -/
def execFatalReset (s : State) : Out :=
  if s.sys.stage == .fatalSeq && s.rmy.dumpState = 1 && !s.fatalOpen &&
      (s.rmy.dumpRel || decide (s.rmy.offerAt + ms (s.fld 0x0B01 0 0x10 2 2000) ≤ s.sys.mono)) then .next (s.deviceReset .fatal) else .next s

/-- FATAL_RECORD_LATCH: reason 0x04, or Sage has not finished step 4 within 10 s; the record is latched and the device
resets (R398). -/
def execFatalRecordLatch (s : State) : Out :=
  if s.fatalOpen && (s.rmy.fatal.any (fun f => f.reason = 4) || decide (s.rmy.fatalAt + sec 10 ≤ s.sys.mono)) then .next (s.deviceReset .fatal) else .next s

/-! ### Always-on stage and wipe (R48, R49, R54) -/

/-- RESET_CLOCK_CHECK: both clocks judged again while neither is present. -/
def execResetClockCheck (x : Clocks) (s : State) : Out :=
  if s.sys.stage == .clockWait then .next (s.endHold x) else .next s

/-- REFCLK_A_ABSENT_TIMEOUT: start-up proceeds on REFCLK_B. -/
def execRefclkAAbsentTimeout (s : State) : Out :=
  if s.sys.stage == .refWait then .next { s with sys := { s.sys with stage := .wiping } } else .next s

/-- WIPE_COMPLETE: the memories are clean, and Sage starts up to READY. -/
def execWipeComplete (f : BootFind) (s : State) : Out :=
  if s.sys.stage == .wiping || s.sys.stage == .wipeFailed then (s.boot f).done else .next s

/-- WIPE_TIMEOUT: FAULT_N and ALARM_N asserted; the wipe is repeated. -/
def execWipeTimeout (s : State) : Out :=
  if s.sys.stage == .wiping || s.sys.stage == .wipeFailed then
    .next { s with sys := { s.sys with stage := .wipeFailed, faultPin := true, alarmPin := true } }
  else .next s

/-- ALARM_HOLD_END: hold_ms have passed without a cause (R76). -/
def execAlarmHoldEnd (s : State) : Out :=
  if !s.alarmCause && s.sys.alarmAt.any (fun t => decide (t + ms s.holdMs ≤ s.sys.mono)) then
    .next { s with sys := { s.sys with alarmPin := false, alarmAt := none } }
  else .next s

/-! ### PE_PERST_N and TRST_N (R45, R486, R518) -/

/-- PE_PERST_N_ASSERT: the PCIe function alone is reset. -/
def execPePerstNAssert (s : State) : Out :=
  if s.host.perst then .next s
  else
    let r : HostIf := {}
    .next { s with host := { s.host with
      perst := true, perstCount := satInc s.host.perstCount, armed := r.armed, msix := r.msix, fnMask := r.fnMask,
      busMaster := r.busMaster, msixEn := r.msixEn, d3hot := r.d3hot, dlActive := r.dlActive, width := r.width,
      speed := r.speed } }

/-- PE_PERST_N_RELEASE: the link trains, from start-up step 4 on; before READY its training belongs to start-up. -/
def execPePerstNRelease (link : Option PcieLink) (s : State) : Out :=
  let s : State := { s with host := { s.host with perst := false } }
  if s.sys.up then .next (s.trainLink link) else .next s

/-- TRST_N_ASSERT: the TAP alone is reset. -/
def execTrstNAssert (s : State) : Out := .next { s with sage := { s.sage with tap := 0 } }

end Sys2Proof.Machine
end

