-- ==== Sys2Proof/Machine/Dispatch.lean ====
section
/-! DEFINITION. The dispatch: one arm for each command of the table. -/

namespace Sys2Proof.Machine

/-- The effect of a command on everything but the queue. -/
def exec (i : Instr) (s : State) : Host.Outcome State Fault Refusal :=
  match i with
  | .porNAssert => Sys2Proof.Machine.execPorNAssert s
  | .supplyMonitorReset rail mv => Sys2Proof.Machine.execSupplyMonitorReset rail mv s
  | .thermalTrip tj => Sys2Proof.Machine.execThermalTrip tj s
  | .thermalRelease x tj => Sys2Proof.Machine.execThermalRelease x tj s
  | .warmNAssert => Sys2Proof.Machine.execWarmNAssert s
  | .sageWatchdogExpiry => Sys2Proof.Machine.execSageWatchdogExpiry s
  | .pePerstNAssert => Sys2Proof.Machine.execPePerstNAssert s
  | .pePerstNRelease link => Sys2Proof.Machine.execPePerstNRelease link s
  | .trstNAssert => Sys2Proof.Machine.execTrstNAssert s
  | .porNRelease x => Sys2Proof.Machine.execPorNRelease x s
  | .resetClockCheck x => Sys2Proof.Machine.execResetClockCheck x s
  | .refclkAAbsentTimeout => Sys2Proof.Machine.execRefclkAAbsentTimeout s
  | .wipeComplete f => Sys2Proof.Machine.execWipeComplete f s
  | .wipeTimeout => Sys2Proof.Machine.execWipeTimeout s
  | .alarmHoldEnd => Sys2Proof.Machine.execAlarmHoldEnd s
  | .voterDisagreement core => Sys2Proof.Machine.execVoterDisagreement core s
  | .trngHealthFail restarted => Sys2Proof.Machine.execTrngHealthFail restarted s
  | .requestBodyTimeout => Sys2Proof.Machine.execRequestBodyTimeout s
  | .requestReservedClass q code => Sys2Proof.Machine.execRequestReservedClass q code s
  | .sageResponseDeliver n => Sys2Proof.Machine.execSageResponseDeliver n s
  | .challenge q => Sys2Proof.Machine.execChallenge q s
  | .attestation q => Sys2Proof.Machine.execAttestation q s
  | .tableEditCore q => Sys2Proof.Machine.execTableEditCore q s
  | .tableEditPort q => Sys2Proof.Machine.execTableEditPort q s
  | .tableEditRed q => Sys2Proof.Machine.execTableEditRed q s
  | .tableEditMeter q => Sys2Proof.Machine.execTableEditMeter q s
  | .tableEditVlan q => Sys2Proof.Machine.execTableEditVlan q s
  | .tableEditFdb q => Sys2Proof.Machine.execTableEditFdb q s
  | .tableEditMcast q => Sys2Proof.Machine.execTableEditMcast q s
  | .tableEditRule q => Sys2Proof.Machine.execTableEditRule q s
  | .tableEditBatch q => Sys2Proof.Machine.execTableEditBatch q s
  | .linkCostSet q => Sys2Proof.Machine.execLinkCostSet q s
  | .deviceExclude q => Sys2Proof.Machine.execDeviceExclude q s
  | .routeRecompute q => Sys2Proof.Machine.execRouteRecompute q s
  | .keySign q tagOk => Sys2Proof.Machine.execKeySign q tagOk s
  | .keyExchange q tagOk onCurve => Sys2Proof.Machine.execKeyExchange q tagOk onCurve s
  | .keyExport q tagOk => Sys2Proof.Machine.execKeyExport q tagOk s
  | .timeStepRequest q => Sys2Proof.Machine.execTimeStepRequest q s
  | .timeSetRequest q => Sys2Proof.Machine.execTimeSetRequest q s
  | .utcOffsetSet q => Sys2Proof.Machine.execUtcOffsetSet q s
  | .scheduleLoad q => Sys2Proof.Machine.execScheduleLoad q s
  | .scheduleSwapRequest q => Sys2Proof.Machine.execScheduleSwapRequest q s
  | .scheduleSwap chan => Sys2Proof.Machine.execScheduleSwap chan s
  | .chiveProgramWrite q => Sys2Proof.Machine.execChiveProgramWrite q s
  | .chiveRestartRequest q => Sys2Proof.Machine.execChiveRestartRequest q s
  | .personalityRestart q => Sys2Proof.Machine.execPersonalityRestart q s
  | .personalityStop q => Sys2Proof.Machine.execPersonalityStop q s
  | .personalityStart q => Sys2Proof.Machine.execPersonalityStart q s
  | .instanceRestart e ok => Sys2Proof.Machine.execInstanceRestart e ok s
  | .storeAppendOpen q => Sys2Proof.Machine.execStoreAppendOpen q s
  | .storeAppendWrite q => Sys2Proof.Machine.execStoreAppendWrite q s
  | .storeAppendCommit q v vpkSig nvmOk => Sys2Proof.Machine.execStoreAppendCommit q v vpkSig nvmOk s
  | .storeEntryRemove q => Sys2Proof.Machine.execStoreEntryRemove q s
  | .storeErase q v => Sys2Proof.Machine.execStoreErase q v s
  | .nvmWriteComplete ok => Sys2Proof.Machine.execNvmWriteComplete ok s
  | .quotaChange q => Sys2Proof.Machine.execQuotaChange q s
  | .pointGrantSet q => Sys2Proof.Machine.execPointGrantSet q s
  | .pointGrantRemove q => Sys2Proof.Machine.execPointGrantRemove q s
  | .pointSubstitute q => Sys2Proof.Machine.execPointSubstitute q s
  | .pointSubstituteEnd q => Sys2Proof.Machine.execPointSubstituteEnd q s
  | .subscriptionAppend q => Sys2Proof.Machine.execSubscriptionAppend q s
  | .subscriptionRemove q => Sys2Proof.Machine.execSubscriptionRemove q s
  | .imageWriteOpen q => Sys2Proof.Machine.execImageWriteOpen q s
  | .imageWriteData q nvmOk => Sys2Proof.Machine.execImageWriteData q nvmOk s
  | .imageWriteCommit q v pers nvmOk => Sys2Proof.Machine.execImageWriteCommit q v pers nvmOk s
  | .imageWriteClose q => Sys2Proof.Machine.execImageWriteClose q s
  | .imageWriteStatus q => Sys2Proof.Machine.execImageWriteStatus q s
  | .imageWriteAbandon nvm => Sys2Proof.Machine.execImageWriteAbandon nvm s
  | .lifecycleProvision q => Sys2Proof.Machine.execLifecycleProvision q s
  | .lifecycleOperational q v => Sys2Proof.Machine.execLifecycleOperational q v s
  | .lifecycleServiceEntry q v => Sys2Proof.Machine.execLifecycleServiceEntry q v s
  | .lifecycleServiceExit q => Sys2Proof.Machine.execLifecycleServiceExit q s
  | .lifecycleRetire q v => Sys2Proof.Machine.execLifecycleRetire q v s
  | .ownerRotate q v => Sys2Proof.Machine.execOwnerRotate q v s
  | .lifecycleColdReset => Sys2Proof.Machine.execLifecycleColdReset s
  | .debugUnlock q v => Sys2Proof.Machine.execDebugUnlock q v s
  | .debugLock q => Sys2Proof.Machine.execDebugLock q s
  | .debugScopeExpiry => Sys2Proof.Machine.execDebugScopeExpiry s
  | .resetRequest q => Sys2Proof.Machine.execResetRequest q s
  | .requestedWarmReset => Sys2Proof.Machine.execRequestedWarmReset s
  | .keyImport q op keyLen => Sys2Proof.Machine.execKeyImport q op keyLen s
  | .ownerCertificateWrite q op => Sys2Proof.Machine.execOwnerCertificateWrite q op s
  | .refclkALoss => Sys2Proof.Machine.execRefclkALoss s
  | .refclkARestore => Sys2Proof.Machine.execRefclkARestore s
  | .refclkBLoss => Sys2Proof.Machine.execRefclkBLoss s
  | .servoSample source m utc => Sys2Proof.Machine.execServoSample source m utc s
  | .servoStepApply => Sys2Proof.Machine.execServoStepApply s
  | .sourceLossTimeout => Sys2Proof.Machine.execSourceLossTimeout s
  | .leapSecond => Sys2Proof.Machine.execLeapSecond s
  | .ppsOutEdge rise => Sys2Proof.Machine.execPpsOutEdge rise s
  | .ppsInEdge stamp => Sys2Proof.Machine.execPpsInEdge stamp s
  | .ppsInTimeout => Sys2Proof.Machine.execPpsInTimeout s
  | .irigBFrame f => Sys2Proof.Machine.execIrigBFrame f s
  | .irigBLossTimeout => Sys2Proof.Machine.execIrigBLossTimeout s
  | .autonegotiationAttempt p speed full => Sys2Proof.Machine.execAutonegotiationAttempt p speed full s
  | .linkUp p sdRx sdTx => Sys2Proof.Machine.execLinkUp p sdRx sdTx s
  | .linkDown p => Sys2Proof.Machine.execLinkDown p s
  | .laneFault lane => Sys2Proof.Machine.execLaneFault lane s
  | .highBer p => Sys2Proof.Machine.execHighBer p s
  | .frameClassify p head len prp raw => Sys2Proof.Machine.execFrameClassify p head len prp raw s
  | .frameReceiveEnd p b pcs raw => Sys2Proof.Machine.execFrameReceiveEnd p b pcs raw s
  | .fdbAgeOut addr vid => Sys2Proof.Machine.execFdbAgeOut addr vid s
  | .pauseFrame p quanta => Sys2Proof.Machine.execPauseFrame p quanta s
  | .pfcFrame p classes quanta => Sys2Proof.Machine.execPfcFrame p classes quanta s
  | .pauseQuantaExpiry p classes => Sys2Proof.Machine.execPauseQuantaExpiry p classes s
  | .pauseWatchdog p => Sys2Proof.Machine.execPauseWatchdog p s
  | .pauseHoldoffEnd p => Sys2Proof.Machine.execPauseHoldoffEnd p s
  | .verifyAttempt p responds => Sys2Proof.Machine.execVerifyAttempt p responds s
  | .fragmentReceive p x => Sys2Proof.Machine.execFragmentReceive p x s
  | .ddEntryAgeOut pair addr seq => Sys2Proof.Machine.execDdEntryAgeOut pair addr seq s
  | .supervisionFrameSend pair => Sys2Proof.Machine.execSupervisionFrameSend pair s
  | .cellArrival inp out seq crcGood => Sys2Proof.Machine.execCellArrival inp out seq crcGood s
  | .cellAckTimeout inp out seq => Sys2Proof.Machine.execCellAckTimeout inp out seq s
  | .planeTestFail plane => Sys2Proof.Machine.execPlaneTestFail plane s
  | .frameTransmitStart p => Sys2Proof.Machine.execFrameTransmitStart p s
  | .frameTransmitEnd p frag => Sys2Proof.Machine.execFrameTransmitEnd p frag s
  | .guardianDeadlineDrop p c => Sys2Proof.Machine.execGuardianDeadlineDrop p c s
  | .gateEntryBoundary p => Sys2Proof.Machine.execGateEntryBoundary p s
  | .ttResume p => Sys2Proof.Machine.execTtResume p s
  | .guardCut p => Sys2Proof.Machine.execGuardCut p s
  | .guardianCompare diff => Sys2Proof.Machine.execGuardianCompare diff s
  | .guardianRearm => Sys2Proof.Machine.execGuardianRearm s
  | .guardEcc u => Sys2Proof.Machine.execGuardEcc u s
  | .instantIssue j => Sys2Proof.Machine.execInstantIssue j s
  | .referenceMessageSend c edge => Sys2Proof.Machine.execReferenceMessageSend c edge s
  | .coldStart c edge => Sys2Proof.Machine.execColdStart c edge s
  | .refLost c => Sys2Proof.Machine.execRefLost c s
  | .canGuardCut c => Sys2Proof.Machine.execCanGuardCut c s
  | .helloSend n => Sys2Proof.Machine.execHelloSend n s
  | .hello n m => Sys2Proof.Machine.execHello n m s
  | .admitFrame n m => Sys2Proof.Machine.execAdmit n m s
  | .admissionTimeout n => Sys2Proof.Machine.execAdmissionTimeout n s
  | .strangerRetry n => Sys2Proof.Machine.execStrangerRetry n s
  | .neighbourLoss n => Sys2Proof.Machine.execNeighbourLoss n s
  | .lsa n tagOk hdrOk l => Sys2Proof.Machine.execLsa n tagOk hdrOk l s
  | .lsaOriginate => Sys2Proof.Machine.execLsaOriginate s
  | .lsaAgeOut id => Sys2Proof.Machine.execLsaAgeOut id s
  | .claimHeld => Sys2Proof.Machine.execClaimHeld s
  | .pathComputation => Sys2Proof.Machine.execPathComputation s
  | .dataFrame n head ctx raw => Sys2Proof.Machine.execDataFrame n head ctx raw s
  | .streamWindowFree src stream => Sys2Proof.Machine.execStreamWindowFree src stream s
  | .fabricEgressDiscard n c => Sys2Proof.Machine.execFabricEgressDiscard n c s
  | .pntBatchSend st => Sys2Proof.Machine.execPntBatchSend st s
  | .delayExchange n t1 t2 t3 t4 => Sys2Proof.Machine.execDelayExchange n t1 t2 t3 t4 s
  | .syncSend n => Sys2Proof.Machine.execSyncSend n s
  | .time n tagOk hdrOk m => Sys2Proof.Machine.execTime n tagOk hdrOk m s
  | .followUpTimeout n => Sys2Proof.Machine.execFollowUpTimeout n s
  | .pointUpdate src => Sys2Proof.Machine.execPointUpdate src s
  | .pointGet src => Sys2Proof.Machine.execPointGet src s
  | .dpHoldExpiry p => Sys2Proof.Machine.execDpHoldExpiry p s
  | .chatterRelease p => Sys2Proof.Machine.execChatterRelease p s
  | .windowClose w => Sys2Proof.Machine.execWindowClose w s
  | .pendingDeliveryWrite q => Sys2Proof.Machine.execPendingDeliveryWrite q s
  | .deliveryWrite q => Sys2Proof.Machine.execDeliveryWrite q s
  | .pntSoeRdWrite hi w => Sys2Proof.Machine.execPntSoeRdWrite hi w s
  | .pntHqRdWrite q w => Sys2Proof.Machine.execPntHqRdWrite q w s
  | .canFrameReceive c m edge => Sys2Proof.Machine.execCanFrameReceive c m edge s
  | .canTransmitComplete c delay => Sys2Proof.Machine.execCanTransmitComplete c delay s
  | .canError c e => Sys2Proof.Machine.execCanError c e s
  | .busOffRecoveryComplete c => Sys2Proof.Machine.execBusOffRecoveryComplete c s
  | .canRecover c => Sys2Proof.Machine.execCanRecover c s
  | .canCounterClear c => Sys2Proof.Machine.execCanCounterClear c s
  | .wakeReq c => Sys2Proof.Machine.execWakeReq c s
  | .sleepOk c => Sys2Proof.Machine.execSleepOk c s
  | .canCancel c k => Sys2Proof.Machine.execCanCancel c k s
  | .canTxReq c k => Sys2Proof.Machine.execCanTxReq c k s
  | .canObjSel c valid k => Sys2Proof.Machine.execCanObjSel c valid k s
  | .canObjDataWrite c j w => Sys2Proof.Machine.execCanObjDataWrite c j w s
  | .canPeriodTrigger c k => Sys2Proof.Machine.execCanPeriodTrigger c k s
  | .canRxTimeout c k => Sys2Proof.Machine.execCanRxTimeout c k s
  | .nmFrameSend c edge => Sys2Proof.Machine.execNmFrameSend c edge s
  | .sleepCommand c edge => Sys2Proof.Machine.execSleepCommand c edge s
  | .sleepCommit c => Sys2Proof.Machine.execSleepCommit c s
  | .sleepPatternEnd c => Sys2Proof.Machine.execSleepPatternEnd c s
  | .wakeEvent c bus nm stamp => Sys2Proof.Machine.execWakeEvent c bus nm stamp s
  | .wakeSettleEnd c edge => Sys2Proof.Machine.execWakeSettleEnd c edge s
  | .maxAwakeExpiry c edge => Sys2Proof.Machine.execMaxAwakeExpiry c edge s
  | .pinEdge p level stamp => Sys2Proof.Machine.execPinEdge p level stamp s
  | .filteredChange pins => Sys2Proof.Machine.execFilteredChange pins s
  | .timedChangeApply e => Sys2Proof.Machine.execTimedChangeApply e s
  | .chiveGroupRestart g => Sys2Proof.Machine.execChiveGroupRestart g s
  | .chiveGctrlRestart g => Sys2Proof.Machine.execChiveGctrlRestart g s
  | .chiveInPop e => Sys2Proof.Machine.execChiveInPop e s
  | .chiveOutWrite e w => Sys2Proof.Machine.execChiveOutWrite e w s
  | .lineFrameClose l => Sys2Proof.Machine.execLineFrameClose l s
  | .lineCharacter l => Sys2Proof.Machine.execLineCharacter l s
  | .pulseEnd p => Sys2Proof.Machine.execPulseEnd p s
  | .binaryOutputDelivery n => Sys2Proof.Machine.execBinaryOutputDelivery n s
  | .setv e => Sys2Proof.Machine.execSetv e s
  | .chiveAdd e => Sys2Proof.Machine.execChiveAdd e s
  | .chiveSub e => Sys2Proof.Machine.execChiveSub e s
  | .chiveAddi e => Sys2Proof.Machine.execChiveAddi e s
  | .chiveSubi e => Sys2Proof.Machine.execChiveSubi e s
  | .chiveAnd e => Sys2Proof.Machine.execChiveAnd e s
  | .chiveOr e => Sys2Proof.Machine.execChiveOr e s
  | .chiveXor e => Sys2Proof.Machine.execChiveXor e s
  | .chiveMov e => Sys2Proof.Machine.execChiveMov e s
  | .shri e => Sys2Proof.Machine.execShri e s
  | .shli e => Sys2Proof.Machine.execShli e s
  | .chiveOri e => Sys2Proof.Machine.execChiveOri e s
  | .ldk e => Sys2Proof.Machine.execLdk e s
  | .chiveAndi e => Sys2Proof.Machine.execChiveAndi e s
  | .driveLevel e => Sys2Proof.Machine.execDriveLevel e s
  | .driveDirection e => Sys2Proof.Machine.execDriveDirection e s
  | .drivePpsOut e => Sys2Proof.Machine.execDrivePpsOut e s
  | .driveIndexed e => Sys2Proof.Machine.execDriveIndexed e s
  | .senseShift e => Sys2Proof.Machine.execSenseShift e s
  | .senseLevel e => Sys2Proof.Machine.execSenseLevel e s
  | .senseAll e => Sys2Proof.Machine.execSenseAll e s
  | .timeAdd e => Sys2Proof.Machine.execTimeAdd e s
  | .timeNow e => Sys2Proof.Machine.execTimeNow e s
  | .timeFromStamp e => Sys2Proof.Machine.execTimeFromStamp e s
  | .timeRead e => Sys2Proof.Machine.execTimeRead e s
  | .timeWrite e => Sys2Proof.Machine.execTimeWrite e s
  | .awaitTime e => Sys2Proof.Machine.execAwaitTime e s
  | .awaitLevel e => Sys2Proof.Machine.execAwaitLevel e s
  | .awaitEdge e => Sys2Proof.Machine.execAwaitEdge e s
  | .awaitFlag e => Sys2Proof.Machine.execAwaitFlag e s
  | .awaitInstant e => Sys2Proof.Machine.execAwaitInstant e s
  | .awaitChange e => Sys2Proof.Machine.execAwaitChange e s
  | .awaitOutFifo e => Sys2Proof.Machine.execAwaitOutFifo e s
  | .chiveBranch e => Sys2Proof.Machine.execChiveBranch e s
  | .stamp e => Sys2Proof.Machine.execStamp e s
  | .xferTake e => Sys2Proof.Machine.execXferTake e s
  | .xferGive e => Sys2Proof.Machine.execXferGive e s
  | .flagSet e => Sys2Proof.Machine.execFlagSet e s
  | .flagClear e => Sys2Proof.Machine.execFlagClear e s
  | .flagSig e => Sys2Proof.Machine.execFlagSig e s
  | .chiveReservedOpcode e => Sys2Proof.Machine.execChiveReservedOpcode e s
  | .add j => Sys2Proof.Machine.execAdd j s
  | .sub j => Sys2Proof.Machine.execSub j s
  | .and j => Sys2Proof.Machine.execAnd j s
  | .or j => Sys2Proof.Machine.execOr j s
  | .xor j => Sys2Proof.Machine.execXor j s
  | .andn j => Sys2Proof.Machine.execAndn j s
  | .sll j => Sys2Proof.Machine.execSll j s
  | .srl j => Sys2Proof.Machine.execSrl j s
  | .sra j => Sys2Proof.Machine.execSra j s
  | .ror j => Sys2Proof.Machine.execRor j s
  | .min j => Sys2Proof.Machine.execMin j s
  | .max j => Sys2Proof.Machine.execMax j s
  | .minu j => Sys2Proof.Machine.execMinu j s
  | .maxu j => Sys2Proof.Machine.execMaxu j s
  | .mul j => Sys2Proof.Machine.execMul j s
  | .mulh j => Sys2Proof.Machine.execMulh j s
  | .mulhu j => Sys2Proof.Machine.execMulhu j s
  | .div j => Sys2Proof.Machine.execDiv j s
  | .divu j => Sys2Proof.Machine.execDivu j s
  | .rem j => Sys2Proof.Machine.execRem j s
  | .remu j => Sys2Proof.Machine.execRemu j s
  | .clz j => Sys2Proof.Machine.execClz j s
  | .ctz j => Sys2Proof.Machine.execCtz j s
  | .popc j => Sys2Proof.Machine.execPopc j s
  | .bswap j => Sys2Proof.Machine.execBswap j s
  | .addi j => Sys2Proof.Machine.execAddi j s
  | .andi j => Sys2Proof.Machine.execAndi j s
  | .ori j => Sys2Proof.Machine.execOri j s
  | .xori j => Sys2Proof.Machine.execXori j s
  | .shi j => Sys2Proof.Machine.execShi j s
  | .lil j => Sys2Proof.Machine.execLil j s
  | .lih j => Sys2Proof.Machine.execLih j s
  | .cmp j => Sys2Proof.Machine.execCmp j s
  | .cmpi j => Sys2Proof.Machine.execCmpi j s
  | .plog j => Sys2Proof.Machine.execPlog j s
  | .ldb j => Sys2Proof.Machine.execLdb j s
  | .ldbu j => Sys2Proof.Machine.execLdbu j s
  | .ldh j => Sys2Proof.Machine.execLdh j s
  | .ldhu j => Sys2Proof.Machine.execLdhu j s
  | .ldw j => Sys2Proof.Machine.execLdw j s
  | .stb j => Sys2Proof.Machine.execStb j s
  | .sth j => Sys2Proof.Machine.execSth j s
  | .stw j => Sys2Proof.Machine.execStw j s
  | .aadd j => Sys2Proof.Machine.execAadd j s
  | .aswap j => Sys2Proof.Machine.execAswap j s
  | .br j => Sys2Proof.Machine.execBr j s
  | .call j => Sys2Proof.Machine.execCall j s
  | .jr j => Sys2Proof.Machine.execJr j s
  | .jalr j => Sys2Proof.Machine.execJalr j s
  | .reti j => Sys2Proof.Machine.execReti j s
  | .loop j => Sys2Proof.Machine.execLoop j s
  | .repI j next => Sys2Proof.Machine.execRepI j next s
  | .repA j next => Sys2Proof.Machine.execRepA j next s
  | .smov j => Sys2Proof.Machine.execSmov j s
  | .sfil j => Sys2Proof.Machine.execSfil j s
  | .scmp j => Sys2Proof.Machine.execScmp j s
  | .sscn j => Sys2Proof.Machine.execSscn j s
  | .scrc j => Sys2Proof.Machine.execScrc j s
  | .sber j => Sys2Proof.Machine.execSber j s
  | .put j => Sys2Proof.Machine.execPut j s
  | .get j => Sys2Proof.Machine.execGet j s
  | .txq j => Sys2Proof.Machine.execTxq j s
  | .rxq j => Sys2Proof.Machine.execRxq j s
  | .dma j => Sys2Proof.Machine.execDma j s
  | .putCompletion e tag => Sys2Proof.Machine.execPutCompletion e tag s
  | .getCompletion e tag => Sys2Proof.Machine.execGetCompletion e tag s
  | .txqCompletion e tag => Sys2Proof.Machine.execTxqCompletion e tag s
  | .rxqCompletion e => Sys2Proof.Machine.execRxqCompletion e s
  | .dmaCompletion e tag bad => Sys2Proof.Machine.execDmaCompletion e tag bad s
  | .opwait j => Sys2Proof.Machine.execOpwait j s
  | .mpost j => Sys2Proof.Machine.execMpost j s
  | .mrecv j => Sys2Proof.Machine.execMrecv j s
  | .mlock j => Sys2Proof.Machine.execMlock j s
  | .munlk j => Sys2Proof.Machine.execMunlk j s
  | .mstat j => Sys2Proof.Machine.execMstat j s
  | .mailboxOutputArrival e => Sys2Proof.Machine.execMailboxOutputArrival e s
  | .rdtime j => Sys2Proof.Machine.execRdtime j s
  | .rand j => Sys2Proof.Machine.execRand j s
  | .wds j => Sys2Proof.Machine.execWds j s
  | .wait j => Sys2Proof.Machine.execWait j s
  | .fence j => Sys2Proof.Machine.execFence j s
  | .brk j => Sys2Proof.Machine.execBreak j s
  | .csrr j => Sys2Proof.Machine.execCsrr j s
  | .csrw j => Sys2Proof.Machine.execCsrw j s
  | .csrs j => Sys2Proof.Machine.execCsrs j s
  | .csrc j => Sys2Proof.Machine.execCsrc j s
  | .instPop j => Sys2Proof.Machine.execInstPop j s
  | .timerArm j => Sys2Proof.Machine.execTimerArm j s
  | .reservedMajor j => Sys2Proof.Machine.execReservedMajor j s
  | .interruptEntry e => Sys2Proof.Machine.execInterruptEntry e s
  | .engineTimer e => Sys2Proof.Machine.execEngineTimer e s
  | .watchdogExpiry e => Sys2Proof.Machine.execWatchdogExpiry e s
  | .wdw e => Sys2Proof.Machine.execWdw e s
  | .debugHalt e => Sys2Proof.Machine.execDebugHalt e s
  | .debugStep e => Sys2Proof.Machine.execDebugStep e s
  | .debugResume e => Sys2Proof.Machine.execDebugResume e s
  | .outboxRelease e bad => Sys2Proof.Machine.execOutboxRelease e bad s
  | .epochEnd k busy early => Sys2Proof.Machine.execEpochEnd k busy early s
  | .epochCommit k => Sys2Proof.Machine.execEpochCommit k s
  | .commitDeadlineMiss k why => Sys2Proof.Machine.execCommitDeadlineMiss k why s
  | .signatureMismatch k => Sys2Proof.Machine.execSignatureMismatch k s
  | .plausibilityFail e => Sys2Proof.Machine.execPlausibilityFail e s
  | .restoreComplete k lo hi => Sys2Proof.Machine.execRestoreComplete k lo hi s
  | .replayEnd k busy => Sys2Proof.Machine.execReplayEnd k busy s
  | .eccCorrectable m => Sys2Proof.Machine.execEccCorrectable m s
  | .eccUncorrectable w => Sys2Proof.Machine.execEccUncorrectable w s
  | .scrubLate => Sys2Proof.Machine.execScrubLate s
  | .bankStarve n cycles => Sys2Proof.Machine.execBankStarve n cycles s
  | .fatalError x => Sys2Proof.Machine.execFatalError x s
  | .dumpNvmWriteComplete => Sys2Proof.Machine.execDumpNvmWriteComplete s
  | .fatalReset => Sys2Proof.Machine.execFatalReset s
  | .fatalRecordLatch => Sys2Proof.Machine.execFatalRecordLatch s
  | .reasonOnlyDumpWrite => Sys2Proof.Machine.execReasonOnlyDumpWrite s
  | .dumpCopyComplete => Sys2Proof.Machine.execDumpCopyComplete s
  | .dumpEraseComplete => Sys2Proof.Machine.execDumpEraseComplete s
  | .dumpClear => Sys2Proof.Machine.execDumpClear s
  | .dumpRelease => Sys2Proof.Machine.execDumpRelease s
  | .planningCycle l eyes => Sys2Proof.Machine.execPlanningCycle l eyes s
  | .railSettle r x => Sys2Proof.Machine.execRailSettle r x s
  | .fastGuardTrip j v => Sys2Proof.Machine.execFastGuardTrip j v s
  | .stepDeferApply k => Sys2Proof.Machine.execStepDeferApply k s
  | .pmbAlert l => Sys2Proof.Machine.execPmbAlert l s
  | .ledgerWriteComplete ok => Sys2Proof.Machine.execLedgerWriteComplete ok s
  | .mbnTxWrite n w => Sys2Proof.Machine.execMbnTxWrite n w s
  | .mbnPop n => Sys2Proof.Machine.execMbnPop n s
  | .mbnLockRead n => Sys2Proof.Machine.execMbnLockRead n s
  | .mbnLockRelease n => Sys2Proof.Machine.execMbnLockRelease n s
  | .hostReset => Sys2Proof.Machine.execHostReset s
  | .mailboxLockBreak n => Sys2Proof.Machine.execMailboxLockBreak n s
  | .portStatSnap n => Sys2Proof.Machine.execPortStatSnap n s
  | .portStatClear n => Sys2Proof.Machine.execPortStatClear n s
  | .captureReadAdvance w => Sys2Proof.Machine.execCaptureReadAdvance w s
  | .irqVarm hi w => Sys2Proof.Machine.execIrqVarm hi w s
  | .msiXMessage v => Sys2Proof.Machine.execMsiXMessage v s
  | .powerStateChange d3hot => Sys2Proof.Machine.execPowerStateChange d3hot s
  | .wideRegisterRead addr len => Sys2Proof.Machine.execWideRegisterRead addr len s
  | .registerWrite addr data => Sys2Proof.Machine.execRegisterWrite addr data s
  | .supplyMonitorRelease x mv => Sys2Proof.Machine.execSupplyMonitorRelease x mv s
  | .holdoverMaxExpiry => Sys2Proof.Machine.execHoldoverMaxExpiry s
  | .selfRefStepHoldEnd => Sys2Proof.Machine.execSelfRefStepHoldEnd s
  | .timeUnlockedAlarm => Sys2Proof.Machine.execTimeUnlockedAlarm s
  | .ttUnqualifiedAlarm => Sys2Proof.Machine.execTtUnqualifiedAlarm s
  | .throttleAlarm => Sys2Proof.Machine.execThrottleAlarm s
  | .refclkBRestore => Sys2Proof.Machine.execRefclkBRestore s
  | .timeMark c k diff => Sys2Proof.Machine.execTimeMark c k diff s
  | .arbitration c edge => Sys2Proof.Machine.execArbitration c edge s
  | .dramIslandFailure x => Sys2Proof.Machine.execDramIslandFailure x s
  | .pcieConfigurationWrite msixEn fnMask busMaster => Sys2Proof.Machine.execPcieConfigurationWrite msixEn fnMask busMaster s
  | .jtagTapInstruction code boundaryScan => Sys2Proof.Machine.execJtagTapInstruction code boundaryScan s

end Sys2Proof.Machine
end

