-- ==== Sys2Proof/Machine/Step.lean ====
section
/-! DEFINITION. One step: the command at the front of the queue, or a tick of the clocks. -/

namespace Sys2Proof.Machine

/-- The clocks run: from READY on, in a fatal sequence too. The time before READY is an operand of start-up. -/
def State.clocked (s : State) : Bool := s.sys.stage == .running || s.sys.stage == .fatalSeq

/-- An idle cycle of 2 ns: the model's clock and the device-time counter advance, and nothing else
does: what happens at a time is a command of its own (R114; DESIGN CHOICE, log 4). -/
def State.idle (s : State) : State :=
  if s.clocked then { s with sys := { s.sys with mono := s.sys.mono + 8 }, time := s.time.tick } else s

/-- One step: the command at the front of the queue acts on the machine with the queue's rest; with
no command the device idles. -/
def step (s : State) : Host.Outcome State Fault Refusal :=
  match s.pending with
  | [] => .next s.idle
  | c :: rest => exec c { s with pending := rest }

/-- The command a word of the opcode table spells, put in front of the queue; no word spells one. -/
def State.withFetchWord (s : State) (nbits w : Nat) : State :=
  match decodeTableWord nbits w with
  | some c => { s with pending := c :: s.pending }
  | none => s

end Sys2Proof.Machine
end

