-- ==== Sys2Proof/WellFormed.lean ====
section
/-! DEFINITION. The well-formed commands: what the spec says of an event's operands that their types
do not say. A command that is not well-formed names no event. -/

namespace Sys2Proof

/-- No element stands twice. -/
def noRepeat {α : Type} [DecidableEq α] : List α → Bool
  | [] => true
  | a :: l => !l.contains a && noRepeat l

/-- The body length of a request stands in four bits of word 0 (Table 3-3). -/
def Req.wf (q : Req) : Bool := decide (q.body.length ≤ 15)

/-- The word's major opcode, bits 27:22 (R316, Table 11-2). -/
def Issue.hasMajor (i : Issue) (m : Nat) : Bool := (i.word.extractLsb' 22 6).toNat == m

/-- The word writes a CSR: CSRW, CSRS or CSRC (R339). -/
def Issue.csrWrite (i : Issue) : Bool := i.hasMajor 0x23 || i.hasMajor 0x24 || i.hasMajor 0x25

/-- The lengths of CAN FD data (R408). -/
def canLens : List Nat := [0, 1, 2, 3, 4, 5, 6, 7, 8, 12, 16, 20, 24, 32, 48, 64]

/-- A base identifier has 11 bits; a remote frame carries no data; a classical frame has at most 8 bytes
and none of brs, esi and res (R408). -/
def CanMsg.wf (m : CanMsg) : Bool :=
  (m.ide || decide (m.id.toNat < 2048)) && canLens.contains m.data.length &&
  (!m.rtr || (!m.fdf && m.data.isEmpty)) && (m.fdf || (decide (m.data.length ≤ 8) && !m.brs && !m.esi && !m.res))

/-- The claim is tentative or held; a port has one adjacency at most (R244). -/
def Lsa.wf (l : Lsa) : Bool := (l.claim == 1 || l.claim == 2) && noRepeat (l.adj.map (·.port))

/-- An island is judged once. -/
def RailCheck.wf (x : RailCheck) : Bool := noRepeat (x.islands.map (·.1))

/-- A link trains at a width and a speed of Table 18-1. -/
def PcieLink.wf (l : PcieLink) : Bool :=
  (l.width == 1 || l.width == 2 || l.width == 4) && (l.speed == 1 || l.speed == 2 || l.speed == 3)

/-- The NVM holds 16 MiB to 256 MiB (R57). -/
def NvmFind.wf (x : NvmFind) : Bool :=
  let n := x.cs0.size + (match x.cs1 with | some (_, d) => d.size | none => 0)
  decide (0x1000000 ≤ n) && decide (n ≤ 0x10000000)

/-- A ledger slot and a write of PORT.MDIO are named once; the NVM and the link are possible ones. -/
def BootFind.wf (f : BootFind) : Bool :=
  noRepeat f.ledger && noRepeat (f.mdio.map (·.1)) && f.nvm.wf && f.link.all PcieLink.wf

/-- The check of a command. -/
def WellFormed : Instr → Bool
  | .porNAssert => true
  | .supplyMonitorReset _ _ => true
  | .thermalTrip _ => true
  | .thermalRelease _ _ => true
  | .warmNAssert => true
  | .sageWatchdogExpiry => true
  | .pePerstNAssert => true
  | .pePerstNRelease link => link.all PcieLink.wf
  | .trstNAssert => true
  | .porNRelease _ => true
  | .resetClockCheck _ => true
  | .refclkAAbsentTimeout => true
  | .wipeComplete f => f.wf
  | .wipeTimeout => true
  | .alarmHoldEnd => true
  | .voterDisagreement _ => true
  | .trngHealthFail _ => true
  | .requestBodyTimeout => true
  | .requestReservedClass q _ => q.wf
  | .sageResponseDeliver _ => true
  | .challenge q => q.wf
  | .attestation q => q.wf
  | .tableEditCore q => q.wf
  | .tableEditPort q => q.wf
  | .tableEditRed q => q.wf
  | .tableEditMeter q => q.wf
  | .tableEditVlan q => q.wf
  | .tableEditFdb q => q.wf
  | .tableEditMcast q => q.wf
  | .tableEditRule q => q.wf
  | .tableEditBatch q => q.wf
  | .linkCostSet q => q.wf
  | .deviceExclude q => q.wf
  | .routeRecompute q => q.wf
  | .keySign q _ => q.wf
  | .keyExchange q _ _ => q.wf
  | .keyExport q _ => q.wf
  | .timeStepRequest q => q.wf
  | .timeSetRequest q => q.wf
  | .utcOffsetSet q => q.wf
  | .scheduleLoad q => q.wf
  | .scheduleSwapRequest q => q.wf
  | .scheduleSwap _ => true
  | .chiveProgramWrite q => q.wf
  | .chiveRestartRequest q => q.wf
  | .personalityRestart q => q.wf
  | .personalityStop q => q.wf
  | .personalityStart q => q.wf
  | .instanceRestart _ _ => true
  | .storeAppendOpen q => q.wf
  | .storeAppendWrite q => q.wf
  | .storeAppendCommit q _ _ _ => q.wf
  | .storeEntryRemove q => q.wf
  | .storeErase q _ => q.wf
  | .nvmWriteComplete _ => true
  | .quotaChange q => q.wf
  | .pointGrantSet q => q.wf
  | .pointGrantRemove q => q.wf
  | .pointSubstitute q => q.wf
  | .pointSubstituteEnd q => q.wf
  | .subscriptionAppend q => q.wf
  | .subscriptionRemove q => q.wf
  | .imageWriteOpen q => q.wf
  | .imageWriteData q _ => q.wf
  | .imageWriteCommit q _ _ _ => q.wf
  | .imageWriteClose q => q.wf
  | .imageWriteStatus q => q.wf
  | .imageWriteAbandon _ => true
  | .lifecycleProvision q => q.wf
  | .lifecycleOperational q _ => q.wf
  | .lifecycleServiceEntry q _ => q.wf
  | .lifecycleServiceExit q => q.wf
  | .lifecycleRetire q _ => q.wf
  | .ownerRotate q _ => q.wf
  | .lifecycleColdReset => true
  | .debugUnlock q _ => q.wf
  | .debugLock q => q.wf
  | .debugScopeExpiry => true
  | .resetRequest q => q.wf
  | .requestedWarmReset => true
  | .keyImport q _ _ => q.wf
  | .ownerCertificateWrite q _ => q.wf
  | .refclkALoss => true
  | .refclkARestore => true
  | .refclkBLoss => true
  | .servoSample _ _ _ => true
  | .servoStepApply => true
  | .sourceLossTimeout => true
  | .leapSecond => true
  | .ppsOutEdge _ => true
  | .ppsInEdge _ => true
  | .ppsInTimeout => true
  | .irigBFrame _ => true
  | .irigBLossTimeout => true
  | .autonegotiationAttempt _ _ _ => true
  | .linkUp _ _ _ => true
  | .linkDown _ => true
  | .laneFault _ => true
  | .highBer _ => true
  | .frameClassify _ head len _ _ => decide (head.length ≤ 64) && decide (head.length ≤ len)
  | .frameReceiveEnd _ _ _ _ => true
  | .fdbAgeOut _ _ => true
  | .pauseFrame _ _ => true
  | .pfcFrame _ _ quanta => quanta.length == 8
  | .pauseQuantaExpiry _ _ => true
  | .pauseWatchdog _ => true
  | .pauseHoldoffEnd _ => true
  | .verifyAttempt _ _ => true
  | .fragmentReceive _ _ => true
  | .ddEntryAgeOut _ _ _ => true
  | .supervisionFrameSend _ => true
  | .cellArrival _ _ _ _ => true
  | .cellAckTimeout _ _ _ => true
  | .planeTestFail _ => true
  | .frameTransmitStart _ => true
  | .frameTransmitEnd _ _ => true
  | .guardianDeadlineDrop _ _ => true
  | .gateEntryBoundary _ => true
  | .ttResume _ => true
  | .guardCut _ => true
  | .guardianCompare _ => true
  | .guardianRearm => true
  | .guardEcc _ => true
  | .instantIssue _ => true
  | .referenceMessageSend _ _ => true
  | .coldStart _ _ => true
  | .refLost _ => true
  | .canGuardCut _ => true
  | .helloSend _ => true
  | .hello _ m => m.claim == 1 || m.claim == 2
  | .admitFrame _ _ => true
  | .admissionTimeout _ => true
  | .strangerRetry _ => true
  | .neighbourLoss _ => true
  | .lsa _ _ _ l => l.wf
  | .lsaOriginate => true
  | .lsaAgeOut _ => true
  | .claimHeld => true
  | .pathComputation => true
  | .dataFrame _ head _ _ => decide (38 ≤ head.length) && decide (head.length ≤ 128)
  | .streamWindowFree _ _ => true
  | .fabricEgressDiscard _ _ => true
  | .pntBatchSend _ => true
  | .delayExchange _ _ _ _ _ => true
  | .syncSend _ => true
  | .time _ _ _ _ => true
  | .followUpTimeout _ => true
  | .pointUpdate _ => true
  | .pointGet _ => true
  | .dpHoldExpiry _ => true
  | .chatterRelease _ => true
  | .windowClose _ => true
  | .pendingDeliveryWrite _ => true
  | .deliveryWrite _ => true
  | .pntSoeRdWrite _ _ => true
  | .pntHqRdWrite _ _ => true
  | .canFrameReceive _ m _ => m.wf
  | .canTransmitComplete _ _ => true
  | .canError _ _ => true
  | .busOffRecoveryComplete _ => true
  | .canRecover _ => true
  | .canCounterClear _ => true
  | .wakeReq _ => true
  | .sleepOk _ => true
  | .canCancel _ _ => true
  | .canTxReq _ _ => true
  | .canObjSel _ _ _ => true
  | .canObjDataWrite _ _ _ => true
  | .canPeriodTrigger _ _ => true
  | .canRxTimeout _ _ => true
  | .nmFrameSend _ _ => true
  | .sleepCommand _ _ => true
  | .sleepCommit _ => true
  | .sleepPatternEnd _ => true
  | .wakeEvent _ _ _ _ => true
  | .wakeSettleEnd _ _ => true
  | .maxAwakeExpiry _ _ => true
  | .pinEdge _ _ _ => true
  | .filteredChange pins => !pins.isEmpty && noRepeat pins
  | .timedChangeApply _ => true
  | .chiveGroupRestart _ => true
  | .chiveGctrlRestart _ => true
  | .chiveInPop _ => true
  | .chiveOutWrite _ _ => true
  | .lineFrameClose _ => true
  | .lineCharacter _ => true
  | .pulseEnd _ => true
  | .binaryOutputDelivery _ => true
  | .setv _ => true
  | .chiveAdd _ => true
  | .chiveSub _ => true
  | .chiveAddi _ => true
  | .chiveSubi _ => true
  | .chiveAnd _ => true
  | .chiveOr _ => true
  | .chiveXor _ => true
  | .chiveMov _ => true
  | .shri _ => true
  | .shli _ => true
  | .chiveOri _ => true
  | .ldk _ => true
  | .chiveAndi _ => true
  | .driveLevel _ => true
  | .driveDirection _ => true
  | .drivePpsOut _ => true
  | .driveIndexed _ => true
  | .senseShift _ => true
  | .senseLevel _ => true
  | .senseAll _ => true
  | .timeAdd _ => true
  | .timeNow _ => true
  | .timeFromStamp _ => true
  | .timeRead _ => true
  | .timeWrite _ => true
  | .awaitTime _ => true
  | .awaitLevel _ => true
  | .awaitEdge _ => true
  | .awaitFlag _ => true
  | .awaitInstant _ => true
  | .awaitChange _ => true
  | .awaitOutFifo _ => true
  | .chiveBranch _ => true
  | .stamp _ => true
  | .xferTake _ => true
  | .xferGive _ => true
  | .flagSet _ => true
  | .flagClear _ => true
  | .flagSig _ => true
  | .chiveReservedOpcode _ => true
  | .add i => i.hasMajor 0x00
  | .sub i => i.hasMajor 0x00
  | .and i => i.hasMajor 0x00
  | .or i => i.hasMajor 0x00
  | .xor i => i.hasMajor 0x00
  | .andn i => i.hasMajor 0x00
  | .sll i => i.hasMajor 0x00
  | .srl i => i.hasMajor 0x00
  | .sra i => i.hasMajor 0x00
  | .ror i => i.hasMajor 0x00
  | .min i => i.hasMajor 0x00
  | .max i => i.hasMajor 0x00
  | .minu i => i.hasMajor 0x00
  | .maxu i => i.hasMajor 0x00
  | .mul i => i.hasMajor 0x00
  | .mulh i => i.hasMajor 0x00
  | .mulhu i => i.hasMajor 0x00
  | .div i => i.hasMajor 0x00
  | .divu i => i.hasMajor 0x00
  | .rem i => i.hasMajor 0x00
  | .remu i => i.hasMajor 0x00
  | .clz i => i.hasMajor 0x00
  | .ctz i => i.hasMajor 0x00
  | .popc i => i.hasMajor 0x00
  | .bswap i => i.hasMajor 0x00
  | .addi i => i.hasMajor 0x01
  | .andi i => i.hasMajor 0x02
  | .ori i => i.hasMajor 0x03
  | .xori i => i.hasMajor 0x04
  | .shi i => i.hasMajor 0x05
  | .lil i => i.hasMajor 0x06
  | .lih i => i.hasMajor 0x07
  | .cmp i => i.hasMajor 0x08
  | .cmpi i => i.hasMajor 0x09
  | .plog i => i.hasMajor 0x0A
  | .ldb i => i.hasMajor 0x0B
  | .ldbu i => i.hasMajor 0x0C
  | .ldh i => i.hasMajor 0x0D
  | .ldhu i => i.hasMajor 0x0E
  | .ldw i => i.hasMajor 0x0F
  | .stb i => i.hasMajor 0x10
  | .sth i => i.hasMajor 0x11
  | .stw i => i.hasMajor 0x12
  | .aadd i => i.hasMajor 0x13
  | .aswap i => i.hasMajor 0x13
  | .br i => i.hasMajor 0x14
  | .call i => i.hasMajor 0x15
  | .jr i => i.hasMajor 0x16
  | .jalr i => i.hasMajor 0x16
  | .reti i => i.hasMajor 0x16
  | .loop i => i.hasMajor 0x17
  | .repI i _ => i.hasMajor 0x18
  | .repA i _ => i.hasMajor 0x18
  | .smov i => i.hasMajor 0x19
  | .sfil i => i.hasMajor 0x19
  | .scmp i => i.hasMajor 0x19
  | .sscn i => i.hasMajor 0x19
  | .scrc i => i.hasMajor 0x19
  | .sber i => i.hasMajor 0x19
  | .put i => i.hasMajor 0x1A
  | .get i => i.hasMajor 0x1B
  | .txq i => i.hasMajor 0x1C
  | .rxq i => i.hasMajor 0x1D
  | .dma i => i.hasMajor 0x1E
  | .putCompletion _ _ => true
  | .getCompletion _ _ => true
  | .txqCompletion _ _ => true
  | .rxqCompletion _ => true
  | .dmaCompletion _ _ _ => true
  | .opwait i => i.hasMajor 0x1F
  | .mpost i => i.hasMajor 0x20
  | .mrecv i => i.hasMajor 0x20
  | .mlock i => i.hasMajor 0x20
  | .munlk i => i.hasMajor 0x20
  | .mstat i => i.hasMajor 0x20
  | .mailboxOutputArrival _ => true
  | .rdtime i => i.hasMajor 0x21
  | .rand i => i.hasMajor 0x21
  | .wds i => i.hasMajor 0x21
  | .wait i => i.hasMajor 0x21
  | .fence i => i.hasMajor 0x21
  | .brk i => i.hasMajor 0x21
  | .csrr i => i.hasMajor 0x22
  | .csrw i => i.hasMajor 0x23
  | .csrs i => i.hasMajor 0x24
  | .csrc i => i.hasMajor 0x25
  | .instPop i => i.csrWrite
  | .timerArm i => i.csrWrite
  | .reservedMajor i => decide (0x26 ≤ (i.word.extractLsb' 22 6).toNat)
  | .interruptEntry _ => true
  | .engineTimer _ => true
  | .watchdogExpiry _ => true
  | .wdw _ => true
  | .debugHalt _ => true
  | .debugStep _ => true
  | .debugResume _ => true
  | .outboxRelease _ _ => true
  | .epochEnd _ _ _ => true
  | .epochCommit _ => true
  | .commitDeadlineMiss _ _ => true
  | .signatureMismatch _ => true
  | .plausibilityFail _ => true
  | .restoreComplete _ _ _ => true
  | .replayEnd _ _ => true
  | .eccCorrectable _ => true
  | .eccUncorrectable _ => true
  | .scrubLate => true
  | .bankStarve _ _ => true
  | .fatalError _ => true
  | .dumpNvmWriteComplete => true
  | .fatalReset => true
  | .fatalRecordLatch => true
  | .reasonOnlyDumpWrite => true
  | .dumpCopyComplete => true
  | .dumpEraseComplete => true
  | .dumpClear => true
  | .dumpRelease => true
  | .planningCycle l eyes => noRepeat (l.map (·.island)) && noRepeat (eyes.map (·.1))
  | .railSettle _ x => x.wf
  | .fastGuardTrip _ _ => true
  | .stepDeferApply _ => true
  | .pmbAlert l => noRepeat (l.map (·.1))
  | .ledgerWriteComplete _ => true
  | .mbnTxWrite _ _ => true
  | .mbnPop _ => true
  | .mbnLockRead _ => true
  | .mbnLockRelease _ => true
  | .hostReset => true
  | .mailboxLockBreak _ => true
  | .portStatSnap _ => true
  | .portStatClear _ => true
  | .captureReadAdvance _ => true
  | .irqVarm _ _ => true
  | .msiXMessage _ => true
  | .powerStateChange _ => true
  | .wideRegisterRead _ len => len != 0
  | .registerWrite _ data => !data.isEmpty
  | .supplyMonitorRelease _ mv => mv.length == 10
  | .holdoverMaxExpiry => true
  | .selfRefStepHoldEnd => true
  | .timeUnlockedAlarm => true
  | .ttUnqualifiedAlarm => true
  | .throttleAlarm => true
  | .refclkBRestore => true
  | .timeMark _ _ _ => true
  | .arbitration _ _ => true
  | .dramIslandFailure _ => true
  | .pcieConfigurationWrite _ _ _ => true
  | .jtagTapInstruction _ _ => true

end Sys2Proof
end

