-- ==== Sys2Proof/Safety.lean ====
section
/-! DEFINITION. What counts as a safe run, and the terms in which statements speak of the device. -/

namespace Sys2Proof.Machine

/-- A run of `n` steps stops at no fault and no refusal. -/
def State.Safe (s : State) (n : Nat) : Prop := ∃ t, Sys2Proof.core.run n s = Host.Outcome.next t

/-- The five memories stand in their canonical form. -/
def Mems.wf (m : Mems) : Bool :=
  Mem.wf 0xFF m.nvm && Mem.wf 0 m.bank && Mem.wf 0 m.svc && Mem.wf 0 m.cap && Mem.wf 0 m.dram

/-- The command answers a next state, and `P` holds of it. -/
def Completes (c : Instr) (s : State) (P : State → Prop) : Prop := ∃ t, exec c s = .next t ∧ P t

/-- The command answers `t`, ALARM_N brought up to date (R76). -/
def Becomes (c : Instr) (s t : State) : Prop := exec c s = .next t.settle

/-- The command answers the same state, ALARM_N brought up to date. -/
abbrev Idles (c : Instr) (s : State) : Prop := Becomes c s s

/-- The blocks of the device's state. -/
inductive Block where
  | sys | otp | sage | mbx | mem | host | cfg | engs | rmy | time | pnt | tt | ports | pairs | sw | fab
  | can | chv | age | pending
deriving DecidableEq, Repr

/-- A block is the same in both states. -/
def State.agrees (s t : State) : Block → Prop
  | .sys => t.sys = s.sys
  | .otp => t.otp = s.otp
  | .sage => t.sage = s.sage
  | .mbx => t.mbx = s.mbx
  | .mem => t.mem = s.mem
  | .host => t.host = s.host
  | .cfg => t.cfg = s.cfg
  | .engs => t.engs = s.engs
  | .rmy => t.rmy = s.rmy
  | .time => t.time = s.time
  | .pnt => t.pnt = s.pnt
  | .tt => t.tt = s.tt
  | .ports => t.ports = s.ports
  | .pairs => t.pairs = s.pairs
  | .sw => t.sw = s.sw
  | .fab => t.fab = s.fab
  | .can => t.can = s.can
  | .chv => t.chv = s.chv
  | .age => t.age = s.age
  | .pending => t.pending = s.pending

/-- Nothing outside the listed blocks differs. -/
def State.within (l : List Block) (s t : State) : Prop := ∀ b, b ∉ l → s.agrees t b

/-- A running engine is about to execute the word of `i`: it is the engine its cluster is held under, no
recovery holds it back, its epoch's journal has room for what one instruction may write, and pc is a fetch
address (R312, R317). -/
def State.fetches (s : State) (i : Issue) : Bool :=
  let e := i.eng.val
  let c := s.core e
  s.running && e == s.lead e && (s.eng e).st == .running && !s.recovering e && s.epochRoom (e / 2) 16 6 &&
  decide (c.pc.toNat < 0x60000) && c.pc.toNat % 4 == 0

/-- The word is of that major opcode; its condition is not the reserved one and holds (R316). -/
def State.issues (s : State) (i : Issue) (major : Nat) : Bool :=
  let w := i.word.toNat
  s.fetches i && bits w 27 22 == major && bits w 31 28 != 8 && (s.core i.eng.val).cond w

/-- Register `k` of an engine as a word. -/
def State.gpr (s : State) (e k : Nat) : Word := BitVec.ofNat 32 ((s.core e).r k)

/-- The engine writes `v` to register `k` and retires its instruction, whose end test applies. -/
def State.wrote (s : State) (e k : Nat) (v : Word) : State :=
  (s.setCore e ((s.core e).setR k v.toNat)).retire e none

end Sys2Proof.Machine
end

