-- ==== Sys2Proof/Certificates/Slice0/Obligations.lean ====
section
/-! DEFINITION. The statements about the TN6440 for the provers. A statement speaks of `exec` or `step` at every
state; `Becomes` gives the whole next state, so that it is its own frame. -/

namespace Sys2Proof.Machine

/-- Sage comes to the request and reads it, which leaves `u`, and every common check passes: the class is granted to
the requester, fewer than four of its requests are in flight, and the body has the stated words (R87 to R93). -/
abbrev State.asked (s : State) (q : Req) (code words : Nat) (u : State) : Prop :=
  s.running = true ∧ s.reqDue q code = true ∧ u = s.fetchReq q code ∧ u.reqCheck q code words = none

/-! ### Polnil engines: ALU, immediates, compares -/

/-- Leading and trailing zeros, set bits and reversed bytes of a word, said without the machine. -/
def clzRef (a : Word) : Word := if a = 0 then 32 else BitVec.ofNat 32 (31 - a.toNat.log2)
def ctzRef (a : Word) : Word := if a = 0 then 32 else BitVec.ofNat 32 (a &&& -a).toNat.log2
def popRef (a : Word) : Word := BitVec.ofNat 32 ((List.range 32).countP (a.getLsbD ·))
def swapRef (a : Word) : Word :=
  (a <<< 24) ||| ((a &&& 0xFF00) <<< 8) ||| ((a >>> 8) &&& 0xFF00) ||| (a >>> 24)

/-- An ALU function of code `fn`, executed, writes `f` of rs1 and rs2 to rd. Codes 0x20 to 0x23 need rs2 = 0. -/
def AluClaim (mk : Issue → Instr) (fn : Nat) (f : Word → Word → Word) : Prop :=
  ∀ (i : Issue) (s : State), s.issues i 0x00 = true → fFn i.word.toNat = fn →
    (0x20 ≤ fn → fRs2 i.word.toNat = 0) →
    let w := i.word.toNat
    let e := i.eng.val
    Becomes (mk i) s (s.wrote e (fRd w) (f (s.gpr e (fRs1 w)) (s.gpr e (fRs2 w))))

/-- An immediate of a major writes `f` of rs1 and imm12 to rd. -/
def ImmClaim (mk : Issue → Instr) (major : Nat) (f : Word → BitVec 12 → Word) : Prop :=
  ∀ (i : Issue) (s : State), s.issues i major = true →
    let w := i.word.toNat
    let e := i.eng.val
    Becomes (mk i) s (s.wrote e (fRd w) (f (s.gpr e (fRs1 w)) (BitVec.ofNat 12 (fImm12 w))))

/-- The four shift kinds of SHI. -/
def shiftRef (kind : Nat) (a : Word) (n : Nat) : Word :=
  if kind = 0 then a <<< n else if kind = 1 then a >>> n else if kind = 2 then a.sshiftRight n else a.rotateRight n

/-- ADDI, ANDI, ORI, XORI, SHI, LIL and LIH write their result to rd and retire (R320, Table 11-2). -/
def ImmediatesWriteRd : Prop :=
  ImmClaim .addi 0x01 (fun a m => a + m.signExtend 32) ∧
  ImmClaim .andi 0x02 (fun a m => a &&& m.setWidth 32) ∧
  ImmClaim .ori 0x03 (fun a m => a ||| m.setWidth 32) ∧
  ImmClaim .xori 0x04 (fun a m => a ^^^ m.setWidth 32) ∧
  ∀ (i : Issue) (s : State),
    let w := i.word.toNat
    let e := i.eng.val
    let a := s.gpr e (fRs1 w)
    (s.issues i 0x05 = true → bits w 9 5 = 0 →
      Becomes (.shi i) s (s.wrote e (fRd w) (shiftRef (bits w 11 10) a (bits w 4 0)))) ∧
    (s.issues i 0x06 = true → tst w 16 = false →
      Becomes (.lil i) s (s.wrote e (fRd w) (BitVec.ofNat 32 (bits w 15 0)))) ∧
    (s.issues i 0x07 = true → tst w 16 = false →
      Becomes (.lih i) s (s.wrote e (fRd w)
        ((s.gpr e (fRd w) &&& 0xFFFF) ||| (BitVec.ofNat 32 (bits w 15 0) <<< 16))))

end Sys2Proof.Machine

open Sys2Proof Sys2Proof.Machine in
/-- Every ALU function, executed, writes its result to rd and retires; nothing else changes (R314, R321,
Table 11-3). -/
def Obligations.AluFunctionsWriteRd : Prop :=
  ImmediatesWriteRd ∧
  AluClaim .add 0x00 (fun a b => a + b) ∧
  AluClaim .sub 0x01 (fun a b => a - b) ∧
  AluClaim .and 0x02 (fun a b => a &&& b) ∧
  AluClaim .or 0x03 (fun a b => a ||| b) ∧
  AluClaim .xor 0x04 (fun a b => a ^^^ b) ∧
  AluClaim .andn 0x05 (fun a b => a &&& ~~~b) ∧
  AluClaim .sll 0x08 (fun a b => a <<< (b.toNat % 32)) ∧
  AluClaim .srl 0x09 (fun a b => a >>> (b.toNat % 32)) ∧
  AluClaim .sra 0x0A (fun a b => a.sshiftRight (b.toNat % 32)) ∧
  AluClaim .ror 0x0B (fun a b => a.rotateRight (b.toNat % 32)) ∧
  AluClaim .min 0x10 (fun a b => if a.slt b then a else b) ∧
  AluClaim .max 0x11 (fun a b => if a.slt b then b else a) ∧
  AluClaim .minu 0x12 (fun a b => if a.ult b then a else b) ∧
  AluClaim .maxu 0x13 (fun a b => if a.ult b then b else a) ∧
  AluClaim .mul 0x18 (fun a b => a * b) ∧
  AluClaim .mulh 0x19 (fun a b => ((a.signExtend 64 * b.signExtend 64) >>> 32).setWidth 32) ∧
  AluClaim .mulhu 0x1A (fun a b => ((a.setWidth 64 * b.setWidth 64) >>> 32).setWidth 32) ∧
  AluClaim .div 0x1C (fun a b => if b = 0 then 0xFFFFFFFF else a.sdiv b) ∧
  AluClaim .divu 0x1D (fun a b => if b = 0 then 0xFFFFFFFF else a / b) ∧
  AluClaim .rem 0x1E (fun a b => if b = 0 then a else a.srem b) ∧
  AluClaim .remu 0x1F (fun a b => if b = 0 then a else a % b) ∧
  AluClaim .clz 0x20 (fun a _ => clzRef a) ∧
  AluClaim .ctz 0x21 (fun a _ => ctzRef a) ∧
  AluClaim .popc 0x22 (fun a _ => popRef a) ∧
  AluClaim .bswap 0x23 (fun a _ => swapRef a)

namespace Sys2Proof.Machine

/-- The compare codes of R322. -/
def cmpRef (cc : Nat) (a b : Word) : Bool :=
  match cc with
  | 0 => a == b
  | 1 => a != b
  | 2 => a.slt b
  | 3 => !a.slt b
  | 4 => a.ult b
  | 5 => !a.ult b
  | 6 => a &&& b != 0
  | _ => a &&& b == 0

/-- The functions of PLOG. -/
def plogRef (op : Nat) (a b : Bool) : Bool :=
  match op with
  | 0 => a && b
  | 1 => a || b
  | 2 => a ^^ b
  | _ => a && !b

/-- The predicate register after pd is written; p0 stays true (R315). -/
def prSet (pr : BitVec 8) (pd : Nat) (v : Bool) : BitVec 8 :=
  if pd = 0 then pr else if v then pr ||| BitVec.twoPow 8 pd else pr &&& ~~~ BitVec.twoPow 8 pd

/-- The engine writes a predicate and retires. -/
def State.decided (s : State) (e pd : Nat) (v : Bool) : State :=
  (s.setCore e { s.core e with pr := prSet (s.core e).pr pd v }).retire e none

end Sys2Proof.Machine

open Sys2Proof Sys2Proof.Machine in
/-- CMP, CMPI and PLOG write pd and retire; no register changes (R315, R322, Table 11-2). -/
def Obligations.ComparesWritePredicate : Prop :=
  ∀ (i : Issue) (s : State),
    let w := i.word.toNat
    let e := i.eng.val
    let pd := bits w 21 19
    (s.issues i 0x08 = true → bits w 5 0 = 0 →
      Becomes (.cmp i) s (s.decided e pd
        (cmpRef (bits w 18 16) (s.gpr e (bits w 15 11)) (s.gpr e (bits w 10 6))))) ∧
    (s.issues i 0x09 = true →
      Becomes (.cmpi i) s (s.decided e pd
        (cmpRef (bits w 18 16) (s.gpr e (bits w 15 11)) ((BitVec.ofNat 11 (bits w 10 0)).signExtend 32)))) ∧
    (s.issues i 0x0A = true → bits w 10 0 = 0 →
      Becomes (.plog i) s (s.decided e pd
        (plogRef (bits w 18 17) ((s.core e).p (bits w 16 14)) ((s.core e).p (bits w 13 11)))))

namespace Sys2Proof.Machine

/-! ### Polnil engines: bank accesses, traps -/

/-- The address of a load or store: rs1 + sext(imm12) (Table 11-2). -/
def State.addrOf (s : State) (i : Issue) : Nat :=
  (s.gpr i.eng.val (fRs1 i.word.toNat) + (BitVec.ofNat 12 (fImm12 i.word.toNat)).signExtend 32).toNat

/-- A load of `n` bytes: within the bank and aligned it writes `f` of the bytes to rd; a misaligned one traps
MISALIGN, one beyond the bank ACCESS, and writes no register. -/
def LoadClaim (mk : Issue → Instr) (major n : Nat) (f : (Nat → Byte) → Word) : Prop :=
  ∀ (i : Issue) (s : State), s.issues i major = true →
    let e := i.eng.val
    let a := s.addrOf i
    (a < 0x60000 → a % n = 0 →
      Becomes (mk i) s (s.wrote e (fRd i.word.toNat) (f (fun k => s.bankByte e (a + k))))) ∧
    (a < 0x60000 → a % n ≠ 0 → Becomes (mk i) s (s.trap e 4 0 a)) ∧
    (0x60000 ≤ a → Becomes (mk i) s (s.trap e 3 0 a))

end Sys2Proof.Machine

open Sys2Proof Sys2Proof.Machine in
/-- LDB, LDBU, LDH, LDHU and LDW read their bank little-endian and extend as named (R7, R317, Table 11-2). -/
def Obligations.LoadsReadTheBank : Prop :=
  LoadClaim .ldb 0x0B 1 (fun b => (b 0).signExtend 32) ∧
  LoadClaim .ldbu 0x0C 1 (fun b => (b 0).setWidth 32) ∧
  LoadClaim .ldh 0x0D 2 (fun b => (b 1 ++ b 0).signExtend 32) ∧
  LoadClaim .ldhu 0x0E 2 (fun b => (b 1 ++ b 0).setWidth 32) ∧
  LoadClaim .ldw 0x0F 4 (fun b => b 3 ++ b 2 ++ b 1 ++ b 0)

namespace Sys2Proof.Machine

/-- The bytes of `v` stored at `a` of an engine's bank: they stand there, little-endian; every other byte of
every memory is as before; the line of each is in the undo area of the epoch with the bytes it had; nothing
outside the banks and the cluster's undo area differs. -/
def State.storedAt (s t : State) (e a n : Nat) (v : Word) : Prop :=
  (∀ k, k < n → t.bankByte e (a + k) = v.extractLsb' (8 * k) 8) ∧
  (∀ x, x < e * 0x60000 + a ∨ e * 0x60000 + a + n ≤ x → Mem.read 0 t.mem.bank x = Mem.read 0 s.mem.bank x) ∧
  t.mem = { s.mem with bank := t.mem.bank } ∧
  (∃ u ∈ (t.cl (e / 2)).undoCur, u.eng = e ∧ u.line = a / 64) ∧
  ((∀ u ∈ (s.cl (e / 2)).undoCur, ¬ (u.eng = e ∧ u.line = a / 64)) →
    { eng := e, line := a / 64, bytes := s.bankBytes e (a / 64 * 64) 64 } ∈ (t.cl (e / 2)).undoCur) ∧
  s.within [.mem, .rmy] t

/-- A store of `n` bytes: within the bank and aligned the low bytes of rs2 are stored and the instruction
retires; otherwise it traps and stores nothing. -/
def StoreClaim (mk : Issue → Instr) (major n : Nat) : Prop :=
  ∀ (i : Issue) (s : State), s.mem.wf = true → s.issues i major = true →
    let e := i.eng.val
    let a := s.addrOf i
    (a < 0x60000 → a % n = 0 →
      ∃ u, s.storedAt u e a n (s.gpr e (fRd i.word.toNat)) ∧ Becomes (mk i) s (u.retire e none)) ∧
    (a < 0x60000 → a % n ≠ 0 → Becomes (mk i) s (s.trap e 4 0 a)) ∧
    (0x60000 ≤ a → Becomes (mk i) s (s.trap e 3 0 a))

/-- An atomic: rd takes the word at rs1, which becomes `f` of it and rs2, as one act (R323, Table 11-2). -/
def AtomicClaim (mk : Issue → Instr) (fn : Nat) (f : Word → Word → Word) : Prop :=
  ∀ (i : Issue) (s : State), s.mem.wf = true → s.issues i 0x13 = true → fFn i.word.toNat = fn →
    let e := i.eng.val
    let w := i.word.toNat
    let a := (s.gpr e (fRs1 w)).toNat
    let m := s.bankByte e (a + 3) ++ s.bankByte e (a + 2) ++ s.bankByte e (a + 1) ++ s.bankByte e a
    (a < 0x60000 → a % 4 = 0 →
      ∃ u, s.storedAt u e a 4 (f m (s.gpr e (fRs2 w))) ∧ Becomes (mk i) s (u.wrote e (fRd w) m)) ∧
    (a < 0x60000 → a % 4 ≠ 0 → Becomes (mk i) s (s.trap e 4 0 a)) ∧
    (0x60000 ≤ a → Becomes (mk i) s (s.trap e 3 0 a))

end Sys2Proof.Machine

open Sys2Proof Sys2Proof.Machine in
/-- STB, STH, STW, AADD and ASWAP store to the address they compute and to no other byte, and log the line
(R317, R323, R382, Table 11-2). -/
def Obligations.StoresWriteOnlyTheirBytes : Prop :=
  StoreClaim .stb 0x10 1 ∧ StoreClaim .sth 0x11 2 ∧ StoreClaim .stw 0x12 4 ∧
  AtomicClaim .aadd 0 (fun m b => m + b) ∧ AtomicClaim .aswap 1 (fun _ b => b)

namespace Sys2Proof.Machine

/-- A trap inside a handler is a double trap: the engine halts with state 5, the trap is recorded, its outputs
leave the outbox unsent, and its status point takes 4 (R342). -/
def DoubleTrapHalts : Prop :=
  ∀ (s : State) (e cause inst addr : Nat), (s.core e).exc = true → cause < 256 →
    let t := s.trap e cause inst addr
    (t.eng e).st = .trapHalt ∧ (t.eng e).status = 4 ∧ (t.eng e).lastCause = BitVec.ofNat 8 cause ∧
    (t.eng e).lastAddr = BitVec.ofNat 32 addr ∧
    (∀ o ∈ (t.cl (e / 2)).outbox, o.eng ≠ e)

end Sys2Proof.Machine

open Sys2Proof Sys2Proof.Machine in
/-- A trap of an engine outside a handler saves and enters as R340 says: epc the instruction (or the REP prefix
that governs it), pr and the loop state copied, ldepth 0, gie 0, exc 1, the cause written, pc at
tvec + 32 × cause. RESERVED_MAJOR traps EMUL whatever its condition and BREAK traps BREAK, with the word in
einst (R316, R320, R336, R340). -/
def Obligations.TrapsEnterTheHandler : Prop :=
  DoubleTrapHalts ∧
  (∀ (s : State) (e cause inst addr : Nat), (s.core e).exc = false → cause ≠ 3 →
    let c := s.core e
    (s.trap e cause inst addr).core e = { c with
      epc := if c.rep.isSome then c.pc - 4 else c.pc, epr := c.pr, eloops := c.loops,
      loops := { c.loops with depth := 0 }, gie := false, exc := true, ecause := BitVec.ofNat 32 cause,
      einst := BitVec.ofNat 32 inst, eaddr := BitVec.ofNat 32 addr, rep := none,
      pc := c.tvec + BitVec.ofNat 32 (32 * cause) } ∧
    s.within [.engs] (s.trap e cause inst addr)) ∧
  (∀ (i : Issue) (s : State), s.fetches i = true → 0x26 ≤ bits i.word.toNat 27 22 →
    Becomes (.reservedMajor i) s (s.trap i.eng.val 2 i.word.toNat 0)) ∧
  (∀ (i : Issue) (s : State), s.issues i 0x21 = true → fFn i.word.toNat = 5 →
    Becomes (.brk i) s (s.trap i.eng.val 8 i.word.toNat 0))

namespace Sys2Proof.Machine

/-- An annulled instruction of a major whose every word is defined. -/
def AnnulClaim (mk : Issue → Instr) (major : Nat) : Prop :=
  ∀ (i : Issue) (s : State), s.fetches i = true → bits i.word.toNat 27 22 = major →
    bits i.word.toNat 31 28 ≠ 8 → (s.core i.eng.val).cond i.word.toNat = false →
    (s.core i.eng.val).rep = none → Becomes (mk i) s (s.retire i.eng.val none)

/-! ### Polnil engines: branches, loops, strings -/

/-- pc of an engine. -/
def State.pcOf (s : State) (e : Nat) : Word := (s.core e).pc

/-- A jump to the register target `a` from the state `u`: taken, or MISALIGN, or ACCESS, with eaddr the
target (R323). -/
def JumpClaim (c : Instr) (s u : State) (e a : Nat) : Prop :=
  (a < 0x60000 → a % 4 = 0 → Becomes c s (u.retire e (some a))) ∧
  (a < 0x60000 → a % 4 ≠ 0 → Becomes c s (s.trap e 4 0 a)) ∧
  (0x60000 ≤ a → Becomes c s (s.trap e 3 0 a))

/-- LOOP: with N = 0 the block is skipped; with two levels active it traps LOOPERR; otherwise level 0 moves to
level 1 when a level is active and the new level opens at the next instruction (R325). -/
def LoopOpensALevel : Prop :=
  ∀ (i : Issue) (s : State), s.issues i 0x17 = true →
    let w := i.word.toNat
    let e := i.eng.val
    let c := s.core e
    let l := c.loops
    let len := bits w 21 12 + 1
    let n := if tst w 11 then BitVec.ofNat 32 (bits w 10 0) else s.gpr e (bits w 4 0)
    (tst w 11 = true ∨ bits w 10 5 = 0) →
    (n = 0 → Becomes (.loop i) s (s.retire e (some ((c.pc.toNat + 4 * len + 4) % 2 ^ 32)))) ∧
    (n ≠ 0 → 2 ≤ l.depth → Becomes (.loop i) s (s.trap e 5 0 0)) ∧
    (n ≠ 0 → l.depth = 0 → Becomes (.loop i) s ((s.setCore e { c with loops := { l with
      lc0 := n, ls0 := c.pc + 4, le0 := c.pc + BitVec.ofNat 32 (4 * len), depth := 1 } }).retire e
        (some (c.pc.toNat + 4)))) ∧
    (n ≠ 0 → l.depth = 1 → Becomes (.loop i) s ((s.setCore e { c with loops := {
      lc0 := n, ls0 := c.pc + 4, le0 := c.pc + BitVec.ofNat 32 (4 * len), lc1 := l.lc0, ls1 := l.ls0, le1 := l.le0,
      depth := 2 } }).retire e (some (c.pc.toNat + 4))))

end Sys2Proof.Machine

open Sys2Proof Sys2Proof.Machine in
/-- BR, CALL, JR, JALR and RETI continue where R320, R323 and R340 say; CALL links to w31, JALR to rd; RETI
restores pr, the loop state and pc, sets gie and clears exc, and is ILLEGAL outside a handler whatever its
condition (R316). -/
def Obligations.JumpsGoToTheirTargets : Prop :=
  LoopOpensALevel ∧
  ∀ (i : Issue) (s : State),
    let w := i.word.toNat
    let e := i.eng.val
    let c := s.core e
    let link := fun k => s.setCore e (c.setR k (c.pc + 4).toNat)
    let dest := (c.pc + ((BitVec.ofNat 22 (bits w 21 0)).signExtend 32 <<< 2)).toNat
    let a := (s.gpr e (fRs1 w)).toNat
    (s.issues i 0x14 = true → Becomes (.br i) s (s.retire e (some dest))) ∧
    (s.issues i 0x15 = true → Becomes (.call i) s ((link 31).retire e (some dest))) ∧
    (s.issues i 0x16 = true → fFn w = 0 → JumpClaim (.jr i) s s e a) ∧
    (s.issues i 0x16 = true → fFn w = 1 → JumpClaim (.jalr i) s (link (fRd w)) e a) ∧
    (s.issues i 0x16 = true → fFn w = 2 → c.exc = true →
      Becomes (.reti i) s ((s.setCore e { c with
        pr := c.epr ||| 1, loops := c.eloops, gie := true, exc := false }).retire e (some c.epc.toNat))) ∧
    (s.fetches i = true → bits w 27 22 = 0x16 → fFn w = 2 → c.exc = false →
      Becomes (.reti i) s (s.trap e 1 w 0))

namespace Sys2Proof.Machine

/-- An instruction whose condition is false only retires: no register, predicate or memory changes and no trap
is raised; the end test applies. An OPWAIT whose mask names no tag in use is ILLEGAL whatever its condition
(R316, R341). -/
def AnnulledInstructionsOnlyRetire : Prop :=
  AnnulClaim .addi 0x01 ∧ AnnulClaim .andi 0x02 ∧ AnnulClaim .ori 0x03 ∧ AnnulClaim .xori 0x04 ∧
  AnnulClaim .cmpi 0x09 ∧ AnnulClaim .ldb 0x0B ∧ AnnulClaim .ldbu 0x0C ∧ AnnulClaim .ldh 0x0D ∧
  AnnulClaim .ldhu 0x0E ∧ AnnulClaim .ldw 0x0F ∧ AnnulClaim .stb 0x10 ∧ AnnulClaim .sth 0x11 ∧
  AnnulClaim .stw 0x12 ∧ AnnulClaim .br 0x14 ∧ AnnulClaim .call 0x15 ∧
  (∀ (i : Issue) (s : State), s.fetches i = true → bits i.word.toNat 27 22 = 0x1F → bits i.word.toNat 31 28 ≠ 8 →
    (s.core i.eng.val).cond i.word.toNat = false → (s.core i.eng.val).rep = none →
    (∃ p ∈ (s.core i.eng.val).ops, tst ((s.gpr i.eng.val (fRs1 i.word.toNat)).toNat % 2 ^ 16) p.1 = true) →
    Becomes (.opwait i) s (s.retire i.eng.val none)) ∧
  (∀ (i : Issue) (s : State), s.fetches i = true → bits i.word.toNat 27 22 = 0x1F →
    (∀ p ∈ (s.core i.eng.val).ops, tst ((s.gpr i.eng.val (fRs1 i.word.toNat)).toNat % 2 ^ 16) p.1 = false) →
    Becomes (.opwait i) s (s.trap i.eng.val 1 i.word.toNat 0))

end Sys2Proof.Machine

open Sys2Proof Sys2Proof.Machine in
/-- Retirement without a jump (R326, R343): the counter advances by 1; away from the innermost le0, pc goes on
by 4; at it, the block repeats at ls0 while lc0 > 1, and otherwise the level ends, level 1 becoming level 0,
which is tested again where it ends at the same address. A jump leaves the loop state as it is. A requested
debug halt or step takes effect at the retirement, and grant requests that waited for the cluster are answered
(R265, R347). -/
def Obligations.RetirementAppliesTheEndTest : Prop :=
  AnnulledInstructionsOnlyRetire ∧
  (∀ (s : State) (e : Nat) (a : Option Nat), ((s.eng e).haltReq = true ∨ (s.eng e).stepReq = true) →
    let u := (s.setEng e { s.eng e with haltReq := false, stepReq := false }).retire e a
    s.retire e a = (u.setEng e { u.eng e with st := .dbgHalt, haltAt := s.sys.mono }).grantSettle) ∧
  ∀ (s : State) (e : Nat), (s.eng e).haltReq = false → (s.eng e).stepReq = false →
    let c := s.core e
    let l := c.loops
    let t := (s.retire e none).core e
    t.ret = c.ret + 1 ∧ t.w = c.w ∧ t.pr = c.pr ∧ s.within [.engs] (s.retire e none) ∧
    ((l.depth = 0 ∨ l.le0 ≠ c.pc) → t.pc = c.pc + 4 ∧ t.loops = l) ∧
    (0 < l.depth → l.le0 = c.pc → 1 < l.lc0.toNat → t.pc = l.ls0 ∧ t.loops = { l with lc0 := l.lc0 - 1 }) ∧
    (l.depth = 1 → l.le0 = c.pc → l.lc0.toNat ≤ 1 → t.pc = c.pc + 4 ∧ t.loops.depth = 0) ∧
    (l.depth = 2 → l.le0 = c.pc → l.lc0.toNat ≤ 1 → l.le1 ≠ c.pc →
      t.pc = c.pc + 4 ∧ t.loops.depth = 1 ∧ t.loops.lc0 = l.lc1 ∧ t.loops.ls0 = l.ls1 ∧ t.loops.le0 = l.le1) ∧
    (l.depth = 2 → l.le0 = c.pc → l.lc0.toNat ≤ 1 → l.le1 = c.pc → 1 < l.lc1.toNat →
      t.pc = l.ls1 ∧ t.loops.depth = 1 ∧ t.loops.lc0 = l.lc1 - 1) ∧
    (∀ a, ((s.retire e (some a)).core e).loops = l ∧ ((s.retire e (some a)).core e).pc = BitVec.ofNat 32 a ∧
      ((s.retire e (some a)).core e).ret = c.ret + 1)

namespace Sys2Proof.Machine

/-- sa, da and sc after an iteration that moves them by `da` and `db`. -/
def EngCore.moved (c : EngCore) (dsa dda : Nat) : EngCore :=
  ((c.setR 25 (c.r 25 + dsa)).setR 26 (c.r 26 + dda)).setR 27 (c.r 27 - 1)

/-- An address range of one element, within the bank and aligned. -/
def elemOk (a k : Nat) : Bool := decide (a < 0x60000) && a % k == 0

/-- With sc = 0 a string instruction performs no iteration: SMOV, SFIL and SCRC only retire, SCMP writes 1 and
SSCN 0 (R327). -/
def StringsOfCountZero : Prop :=
  ∀ (i : Issue) (s : State), s.issues i 0x19 = true →
    let w := i.word.toNat
    let e := i.eng.val
    let c := s.core e
    let pd := bits w 16 14
    c.rep = none → c.r 27 = 0 → bits w 13 7 = 0 → bits w 3 0 = 0 →
    (bits w 6 4 = 0 → pd = 0 → Becomes (.smov i) s (s.retire e none)) ∧
    (bits w 6 4 = 1 → pd = 0 → Becomes (.sfil i) s (s.retire e none)) ∧
    (bits w 6 4 = 2 → Becomes (.scmp i) s ((s.setCore e (c.setP pd true)).retire e none)) ∧
    (bits w 6 4 = 3 → Becomes (.sscn i) s ((s.setCore e (c.setP pd false)).retire e none)) ∧
    (bits w 6 4 = 4 → pd = 0 → Becomes (.scrc i) s (s.retire e none))

/-- SBER of a one-octet identifier and a short or indefinite length: r takes class, constructed flag and tag
number, the register after it the length, sa and sc move by the two bytes, and pd is 1; with too few bytes pd is 0
and no register changes (R330). -/
def BerHeadersAreDecoded : Prop :=
  ∀ (i : Issue) (s : State), s.issues i 0x19 = true →
    let w := i.word.toNat
    let e := i.eng.val
    let c := s.core e
    let r := fRd w
    let pd := bits w 16 14
    let b := s.bankByte e (c.r 25)
    let l := s.bankByte e (c.r 25 + 1)
    bits w 6 4 = 5 → bits w 13 7 = 0 → bits w 3 0 = 0 → r % 2 = 0 → 2 ≤ r → r ≤ 22 → c.r 25 + 1 < 0x60000 →
    (2 ≤ c.r 27 → b.toNat % 32 ≠ 31 → l.toNat ≤ 0x80 →
      Becomes (.sber i) s ((s.setCore e (((((c.setR r
          (b.toNat / 64 * 2 ^ 30 + b.toNat / 32 % 2 * 2 ^ 29 + b.toNat % 32)).setR (r + 1)
          (if l = 0x80 then 0xFFFFFFFF else l.toNat)).setR 25 (c.r 25 + 2)).setR 27 (c.r 27 - 2)).setP pd
          true)).retire e none)) ∧
    (c.r 27 < 2 → b.toNat % 32 ≠ 31 → Becomes (.sber i) s ((s.setCore e (c.setP pd false)).retire e none))

end Sys2Proof.Machine

open Sys2Proof Sys2Proof.Machine in
/-- One string instruction without a REP prefix and with sc ≠ 0 performs one iteration of Table 11-5 and
retires: SMOV copies, SFIL fills, SCMP and SSCN write pd, SCRC folds one byte into r (R327, R329). -/
def Obligations.StringsIterateOnce : Prop :=
  BerHeadersAreDecoded ∧
  StringsOfCountZero ∧
  ∀ (i : Issue) (s : State), s.issues i 0x19 = true →
    let w := i.word.toNat
    let e := i.eng.val
    let c := s.core e
    let k := 2 ^ bits w 1 0
    let sa := c.r 25
    let da := c.r 26
    let pd := bits w 16 14
    let plain := c.rep = none ∧ c.r 27 ≠ 0 ∧ bits w 13 7 = 0 ∧ bits w 1 0 ≠ 3 ∧ bits w 3 2 = 0
    (plain → bits w 6 4 = 0 → pd = 0 → elemOk sa k = true → elemOk da k = true →
      Becomes (.smov i) s
        (((s.bankStore e da (s.bankBytes e sa k)).setCore e (c.moved k k)).retire e none)) ∧
    (plain → bits w 6 4 = 1 → pd = 0 → elemOk da k = true →
      Becomes (.sfil i) s
        (((s.bankStore e da (leBytes k (c.r (fRd w)))).setCore e (c.moved 0 k)).retire e none)) ∧
    (plain → bits w 6 4 = 2 → elemOk sa k = true → elemOk da k = true →
      (s.bankBytes e sa k = s.bankBytes e da k →
        Becomes (.scmp i) s ((s.setCore e ((c.moved k k).setP pd true)).retire e none)) ∧
      (s.bankBytes e sa k ≠ s.bankBytes e da k →
        Becomes (.scmp i) s ((s.setCore e (c.setP pd false)).retire e none))) ∧
    (plain → bits w 6 4 = 3 → elemOk sa k = true →
      (s.bankBytes e sa k = leBytes k (c.r (fRd w)) →
        Becomes (.sscn i) s ((s.setCore e (c.setP pd true)).retire e none)) ∧
      (s.bankBytes e sa k ≠ leBytes k (c.r (fRd w)) →
        Becomes (.sscn i) s ((s.setCore e ((c.moved k 0).setP pd false)).retire e none))) ∧
    (c.rep = none → c.r 27 ≠ 0 → bits w 6 4 = 4 → bits w 13 7 = 0 → bits w 3 0 = 0 → pd = 0 → sa < 0x60000 →
      Becomes (.scrc i) s ((s.setCore e ((c.setR (fRd w)
        (crcByte (0x82F63B78 : Word) (s.gpr e (fRd w)) (s.bankByte e sa)).toNat).moved 1 0)).retire e none))

namespace Sys2Proof.Machine

/-- A REP prefix of function `fn`: before a string instruction other than SBER it retires and governs it; before
anything else, or at 0x5_FFFC, or at le0, it traps ILLEGAL, ACCESS and LOOPERR (R326, R328). -/
def RepClaim (mk : Issue → Word → Instr) (fn : Nat) (interruptible : Bool) : Prop :=
  ∀ (i : Issue) (next : Word) (s : State), s.issues i 0x18 = true → bits i.word.toNat 31 28 = 0 →
    bits i.word.toNat 21 7 = 0 → fFn i.word.toNat = fn →
    let e := i.eng.val
    let c := s.core e
    let str := bits next.toNat 27 22 = 0x19 ∧ bits next.toNat 6 4 ≠ 5
    (c.pc.toNat < 0x5FFFC → str → (c.loops.depth = 0 ∨ c.loops.le0 ≠ c.pc) →
      Becomes (mk i next) s ((s.setCore e { c with rep := some interruptible }).retire e (some (c.pc.toNat + 4)))) ∧
    (c.pc.toNat < 0x5FFFC → str → c.loops.depth ≠ 0 → c.loops.le0 = c.pc →
      Becomes (mk i next) s (s.trap e 5 0 0)) ∧
    (c.pc.toNat < 0x5FFFC → ¬ str → Becomes (mk i next) s (s.trap e 1 i.word.toNat 0)) ∧
    (0x5FFFC ≤ c.pc.toNat → Becomes (mk i next) s (s.trap e 3 0 0x60000))

/-- REP.A SFIL of sc ≤ 64 words completes without interruption: the words from da on hold r, da stands past them,
sc is 0, the counter has advanced by the iterations and pc stands after the instruction (R328, R343). -/
def RepAFillsTheBlock : Prop :=
  ∀ (i : Issue) (s : State), s.mem.wf = true → s.issues i 0x19 = true →
    let w := i.word.toNat
    let e := i.eng.val
    let c := s.core e
    let n := c.r 27
    let da := c.r 26
    bits w 6 4 = 1 → bits w 13 7 = 0 → bits w 3 2 = 0 → bits w 1 0 = 2 → bits w 16 14 = 0 →
    c.rep = some false → 0 < n → n ≤ 64 → da % 4 = 0 → da + 4 * n ≤ 0x60000 → c.loops.depth = 0 →
    (s.eng e).haltReq = false → (s.eng e).stepReq = false → fRd w < 25 →
    Completes (.sfil i) s (fun t =>
      (∀ j, j < n → ∀ b, b < 4 → t.bankByte e (da + 4 * j + b) = (s.gpr e (fRd w)).extractLsb' (8 * b) 8) ∧
      (∀ x, x < e * 0x60000 + da ∨ e * 0x60000 + da + 4 * n ≤ x →
        Mem.read 0 t.mem.bank x = Mem.read 0 s.mem.bank x) ∧
      (t.core e).r 26 = da + 4 * n ∧ (t.core e).r 27 = 0 ∧ (t.core e).r 25 = c.r 25 ∧
      (t.core e).ret = c.ret + BitVec.ofNat 64 n ∧ (t.core e).pc = c.pc + 4 ∧ (t.core e).rep = none)

end Sys2Proof.Machine

open Sys2Proof Sys2Proof.Machine in
/-- REP.I and REP.A govern the string instruction after them; a REP.A of more than 64 iterations traps REPCNT before
the first, and REP.A SFIL of at most 64 fills its block without interruption (R326, R328, R343). -/
def Obligations.RepPrefixGovernsAString : Prop :=
  RepAFillsTheBlock ∧
  RepClaim .repI 0 true ∧ RepClaim .repA 1 false ∧
  ∀ (i : Issue) (s : State), s.issues i 0x19 = true → bits i.word.toNat 6 4 = 1 → bits i.word.toNat 13 7 = 0 →
    bits i.word.toNat 3 0 = 0 → bits i.word.toNat 16 14 = 0 → (s.core i.eng.val).rep = some false →
    64 < (s.core i.eng.val).r 27 → Becomes (.sfil i) s (s.trap i.eng.val 6 0 0)

namespace Sys2Proof.Machine

/-! ### Polnil engines: operations, mailboxes, system instructions, CSRs, interrupts -/

/-- Format O, all of it: with the block at rs1 in the bank and 32-aligned, its content as `ok` judges and a tag
free, the lowest free tag is written to rd, holds the operation and is busy, `act` gives the rest, and the
instruction retires. An output that finds the outbox full waits, and the stall is counted once; one beyond the
epoch's share, and a PUT or GET of a cluster that has not come to its epoch start since a change of grants, only
wait. A block beyond the bank or of bad content traps ACCESS, a misaligned one MISALIGN, both with eaddr the block,
and with no free tag OPFULL (R265, R331, R341, R346, R378). -/
def OpClaim (mk : Issue → Instr) (major : Nat) (kind : OpKind) (ok : State → Nat → List Byte → Bool)
    (out : List Byte → Bool) (act : State → Nat → Nat → List Byte → State) : Prop :=
  ∀ (i : Issue) (s : State), s.issues i major = true → bits i.word.toNat 11 0 = 0 →
    let e := i.eng.val
    let a := (s.gpr e (fRs1 i.word.toNat)).toNat
    let b := s.bankBytes e a 32
    ((kind = .put ∨ kind = .get) → s.grantLag e = true → Idles (mk i) s) ∧
    (((kind = .put ∨ kind = .get) → s.grantLag e = false) →
    (0x60000 < a + 32 → Becomes (mk i) s (s.trap e 3 0 a)) ∧
    (a + 32 ≤ 0x60000 → a % 32 ≠ 0 → Becomes (mk i) s (s.trap e 4 0 a)) ∧
    (a + 32 ≤ 0x60000 → a % 32 = 0 → ok s e b = false → Becomes (mk i) s (s.trap e 3 0 a)) ∧
    (a + 32 ≤ 0x60000 → a % 32 = 0 → ok s e b = true →
      (∀ t, t < 16 → (s.core e).ops.find? t ≠ none) → Becomes (mk i) s (s.trap e 7 0 0)) ∧
    (a + 32 ≤ 0x60000 → a % 32 = 0 → ok s e b = true → 
      (out b = true → (s.cl (e / 2)).outbox.length < 256 ∧ s.outShare (e / 2) = true) →
      ∀ t, t < 16 → (s.core e).ops.find? t = none → (∀ u, u < t → (s.core e).ops.find? u ≠ none) →
        Becomes (mk i) s ((act (s.takeTag e (fRd i.word.toNat) t { kind := kind, blk := a, desc := b }) e t b).retire
          e none)) ∧
    (a + 32 ≤ 0x60000 → a % 32 = 0 → ok s e b = true → out b = true →
      (∃ t, t < 16 ∧ (s.core e).ops.find? t = none) →
      (s.outShare (e / 2) = false → Idles (mk i) s) ∧
      (s.outShare (e / 2) = true → 256 ≤ (s.cl (e / 2)).outbox.length → (s.eng e).stalled = false →
        Becomes (mk i) s (s.setEng e { s.eng e with stalled := true, stalls := satInc (s.eng e).stalls }))))

end Sys2Proof.Machine

open Sys2Proof Sys2Proof.Machine in
/-- PUT, TXQ and a write DMA enter the cluster outbox; a GET is handed to the point engine; an RXQ stands in the
order of issue; a read DMA only waits for its data (R331 to R334). -/
def Obligations.OperationsTakeATag : Prop :=
  OpClaim .put 0x1A .put (fun s e b => s.pntBlockOk e 0 b) (fun _ => true) (fun s e t b => s.outPut e (.put t b)) ∧
  OpClaim .get 0x1B .get (fun s e b => s.pntBlockOk e 1 b) (fun _ => false)
    (fun s e t b => (s.pntPush e (.get e t (rdLE b 0 4 % 2 ^ 23))).2.pntSettle) ∧
  OpClaim .txq 0x1C .txq (fun s e b => s.txqOk e b) (fun _ => true) (fun s e t b => s.outPut e (.frame t b)) ∧
  OpClaim .rxq 0x1D .rxq (fun _ _ b => rxqOk b) (fun _ => false)
    (fun s e t _ => s.setCore e { s.core e with rxqs := (s.core e).rxqs ++ [t], ipend := (s.core e).ipend &&& ~~~8 }) ∧
  OpClaim .dma 0x1E .dma (fun s e b => s.dmaOk e b) (fun b => rdLE b 1 1 == 1)
    (fun s e t b => if rdLE b 1 1 = 1 then s.outPut e (.dmaWrite t b) else s)

namespace Sys2Proof.Machine

/-- An input that reaches its engine at once: journaled at the engine's retirement count, its bytes written into the
bank, its effect on the engine's registers taken (R344, R379). -/
def State.seen (s : State) (j : JEntry) : State := (s.journal j).applyInput j

end Sys2Proof.Machine

open Sys2Proof Sys2Proof.Machine in
/-- OPWAIT takes the lowest completed tag of its mask: rd names it, its opdone bit clears and the tag is free; with
tags of the mask busy but none completed it waits; with none in use it is ILLEGAL. A completion writes the result
fields of its block and sets the tag's opdone bit (R331 to R334, R341). -/
def Obligations.CompletionsFreeTheTag : Prop :=
  (∀ (i : Issue) (s : State), s.issues i 0x1F = true →
    let e := i.eng.val
    let c := s.core e
    let m := (s.gpr e (fRs1 i.word.toNat)).toNat % 2 ^ 16
    ((∀ p ∈ c.ops, tst m p.1 = false) → Becomes (.opwait i) s (s.trap e 1 i.word.toNat 0)) ∧
    ((∃ p ∈ c.ops, tst m p.1 = true) → m &&& c.opdone.toNat = 0 → Becomes (.opwait i) s s) ∧
    (∀ t, t < 16 → (∃ p ∈ c.ops, tst m p.1 = true) → tst m t = true → tst c.opdone.toNat t = true →
      (∀ u, u < t → tst (m &&& c.opdone.toNat) u = false) →
      Becomes (.opwait i) s ((s.setCore e ({ c with
        opdone := c.opdone &&& ~~~ BitVec.ofNat 16 (2 ^ t), ops := c.ops.filter (fun p => p.1 != t) }.setR
          (fRd i.word.toNat) t)).retire e none))) ∧
  (∀ (e : Fin 32) (tag : Fin 16) (s : State) (o : Op) (r : Nat),
    s.takesInput e = true → s.opOf e tag .put = some o → takeFirst (fun p => p.1 == tag.val) (s.eng e).putDone =
      some ((tag.val, r), (s.eng e).putDone.drop 1) →
    Becomes (.putCompletion e tag) s ((s.setEng e { s.eng e with putDone := (s.eng e).putDone.drop 1 }).seen
      { eng := e, kind := 0x04, tag := tag, inline := r, writes := [(o.blk + 0x18, leBytes 1 r)] })) ∧
  (∀ (e : Fin 32) (tag : Fin 16) (s : State) (o : Op) (b : List Byte),
    s.takesInput e = true → s.opOf e tag .get = some o → takeFirst (fun p => p.1 == tag.val) (s.eng e).getDone =
      some ((tag.val, b), (s.eng e).getDone.drop 1) →
    Becomes (.getCompletion e tag) s ((s.setEng e { s.eng e with getDone := (s.eng e).getDone.drop 1 }).seen
      { eng := e, kind := 0x05, tag := tag, payload := (splice o.desc 4 b).take 32, writes := [(o.blk + 4, b)] })) ∧
  (∀ (e : Fin 32) (tag : Fin 16) (s : State) (o : Op) (st : Nat),
    s.takesInput e = true → s.opOf e tag .txq = some o → takeFirst (fun p => p.1 == tag.val) (s.eng e).txDone =
      some ((tag.val, st, none), (s.eng e).txDone.drop 1) →
    Becomes (.txqCompletion e tag) s ((s.setEng e { s.eng e with txDone := (s.eng e).txDone.drop 1 }).seen
      { eng := e, kind := 0x04, tag := tag, inline := st, writes := [(o.blk + 0x18, leBytes 1 st)] })) ∧
  (∀ (e : Fin 32) (tag : Fin 16) (s : State) (o : Op),
    s.takesInput e = true → s.opOf e tag .dma = some o → rdLE o.desc 1 1 = 1 → tag.val ∈ (s.eng e).dmaDone →
    Becomes (.dmaCompletion e tag false) s ((s.setEng e { s.eng e with
        dmaDone := (s.eng e).dmaDone.filter (· ≠ tag.val) }).seen
      { eng := e, kind := 0x07, tag := tag, inline := 0, writes := [(o.blk + 24, leBytes 1 0)] }))

open Sys2Proof Sys2Proof.Machine in
/-- RXQ completes when a frame waits for the engine: the oldest request takes the oldest such frame; its bytes, cut
to the buffer's length, stand in the buffer, the descriptor names length, context, port and stamp, the tag's opdone
bit is set, and the frame is kept until the commit (R333, R381). -/
def Obligations.ReceivedFrameFillsTheBuffer : Prop :=
  ∀ (e : Fin 32) (s : State) (tag : Nat) (rest : List Nat) (f : RxFrame) (fs : List RxFrame) (o : Op),
    s.mem.wf = true → s.takesInput e = true → (s.core e).rxqs = tag :: rest → tag < 16 → rest ≠ [] →
    (s.cl (e.val / 2)).rx = f :: fs → s.ctxOwner f.ctx = some e.val → (s.core e).ops.find? tag = some o →
    f.bytes.length < rdLE o.desc 4 2 → f.bytes.length < 2 ^ 16 → o.blk + 32 ≤ 0x60000 →
    (rdLE o.desc 0 4 + f.bytes.length ≤ o.blk + 8 ∨ o.blk + 24 ≤ rdLE o.desc 0 4) →
    Completes (.rxqCompletion e) s (fun t =>
      t.bankBytes e (rdLE o.desc 0 4) f.bytes.length = f.bytes ∧
      t.bankBytes e (o.blk + 8) 4 = leBytes 2 f.bytes.length ++ leBytes 2 f.ctx ∧
      t.bankBytes e (o.blk + 16) 8 = leBytes 8 f.stamp.toNat ∧
      tst (t.core e).opdone.toNat tag = true ∧ (t.cl (e.val / 2)).rx = fs ∧
      f ∈ (t.cl (e.val / 2)).keepCur ∧ t.mem.nvm = s.mem.nvm ∧ t.mem.svc = s.mem.svc ∧ t.mem.dram = s.mem.dram)

namespace Sys2Proof.Machine

/-- An instruction of MBX for a mailbox granted as `g` asks, or ACCESS. -/
def MbxClaim (mk : Issue → Instr) (op : Nat) (g : Mbox → Nat → Bool) (act : Issue → State → Nat → State) : Prop :=
  ∀ (i : Issue) (s : State), s.issues i 0x20 = true → bits i.word.toNat 6 4 = op → tst i.word.toNat 0 = false →
    (op ≠ 1 → bits i.word.toNat 3 1 = 0) →
    let e := i.eng.val
    let n := (s.gpr e (fRs1 i.word.toNat)).toNat % 64
    (g (s.mb n) e = false → Becomes (mk i) s (s.trap e 3 0 0)) ∧
    (g (s.mb n) e = true → (s.cl (e / 2)).outbox.length < 256 → s.outShare (e / 2) = true →
      s.munlkWaits e n = false →
      Becomes (mk i) s ((act i s n).retire e none))

/-- A value an instruction reads at once is journaled with it (R344). -/
def State.journaled (s : State) (e kind v : Nat) : State := s.journal { eng := e, kind := kind, inline := v }

end Sys2Proof.Machine

open Sys2Proof Sys2Proof.Machine in
/-- MPOST and MUNLK enter the outbox; MRECV takes the head word into rd and sets pd, or clears pd; MLOCK reads the
lock and claims a free one; MSTAT counts both queues (R335, R363, R365). A mailbox act that has left the outbox acts
at the host island: a post enters its queue, an unlock releases the lock. -/
def Obligations.MailboxInstructions : Prop :=
  MbxClaim .mpost 0 (fun m e => (m.outQ e).isSome)
    (fun i s n => s.outPut i.eng (.post n (s.gpr i.eng (fRs2 i.word.toNat)))) ∧
  MbxClaim .munlk 3 Mbox.granted (fun i s n => s.outPut i.eng (.unlock n)) ∧
  MbxClaim .mlock 2 Mbox.granted (fun i s n =>
    let r := s.lockRead n i.eng
    let t := r.2.journaled i.eng 0x08 (r.1 * 64 + n)
    t.setCore i.eng ((t.core i.eng).setR (fRd i.word.toNat) r.1)) ∧
  MbxClaim .mstat 4 Mbox.granted (fun i s n =>
    let m := s.mb n
    let cnt := fun (q : Option Bool) => (q.elim [] m.q).length
    let v := cnt (m.inQ i.eng) + 16 * cnt (m.outQ i.eng)
    let t := s.journaled i.eng 0x08 (v * 64 + n)
    t.setCore i.eng ((t.core i.eng).setR (fRd i.word.toNat) v)) ∧
  MbxClaim .mrecv 1 (fun m e => (m.inQ e).isSome) (fun i s n =>
    match s.mbTake n (((s.mb n).inQ i.eng).getD false) with
    | (some x, u) =>
      let t := u.journaled i.eng 0x08 ((x.word.toNat + 2 ^ 32) * 64 + n)
      t.setCore i.eng (((t.core i.eng).setR (fRd i.word.toNat) x.word.toNat).setP (bits i.word.toNat 3 1) true)
    | (none, u) =>
      let t := u.journaled i.eng 0x08 n
      t.setCore i.eng ((t.core i.eng).setP (bits i.word.toNat 3 1) false)) ∧
  (∀ (e : Fin 32) (s : State) (n : Nat) (w : Word) (rest : List (Nat × Output)) (home : Bool), s.running = true →
    s.engs.mbActs = (e.val, .post n w) :: rest → (s.mb n).outQ e = some home → n < 56 → s.mbRoom n home 1 = true →
    Becomes (.mailboxOutputArrival e) s ({ s with engs := { s.engs with mbActs := rest } }.mbPost n home e w)) ∧
  (∀ (e : Fin 32) (s : State) (n : Nat) (rest : List (Nat × Output)), s.running = true →
    s.engs.mbActs = (e.val, .unlock n) :: rest → (s.mb n).lock = some e.val →
    Becomes (.mailboxOutputArrival e) s
      ({ s with engs := { s.engs with mbActs := rest } }.setMb n { s.mb n with lock := none }))

open Sys2Proof Sys2Proof.Machine in
/-- RDTIME writes device time to a register pair, RAND a word of the TRNG that nothing constrains (log 3), both
journaled; WDS restarts the watchdog; WAIT goes on when an enabled interrupt is pending and waits otherwise; FENCE only
retires (R126, R336, R344). -/
def Obligations.SystemInstructions : Prop :=
  ∀ (i : Issue) (s : State), s.issues i 0x21 = true →
    let w := i.word.toNat
    let e := i.eng.val
    let rd := fRd w
    (fFn w = 0 → rd % 2 = 0 → 2 ≤ rd →
      let t := s.journaled e 0x09 s.time.t.toNat
      Becomes (.rdtime i) s ((t.setCore e (((t.core e).setR rd (s.time.t.toNat % 2 ^ 32)).setR (rd + 1)
        (s.time.t.toNat / 2 ^ 32))).retire e none)) ∧
    (fFn w = 1 → ∃ v : Word,
      let t := s.draw.journaled e 0x09 v.toNat
      Becomes (.rand i) s (t.wrote e rd v)) ∧
    (fFn w = 2 → Becomes (.wds i) s ((s.setEng e { s.eng e with wdwSet := false, wdsAt := s.sys.mono }).retire e none)) ∧
    (fFn w = 3 → (s.core e).pendEn ≠ 0 → Becomes (.wait i) s (s.retire e none)) ∧
    (fFn w = 3 → (s.core e).pendEn = 0 → Becomes (.wait i) s (s.setEng e { s.eng e with st := .wait })) ∧
    (fFn w = 4 → Becomes (.fence i) s (s.retire e none)) ∧
    (6 ≤ fFn w → Becomes (.fence i) s (s.trap e 1 w 0))

open Sys2Proof Sys2Proof.Machine in
/-- CSRR reads a CSR of Table 11-10 into rd. CSRW writes an RW CSR and clears bits of a W1C one; CSRS and CSRC set and
clear bits of an RW one; a number outside the table, a write of an RO CSR, a 1 in an RO field under CSRS or CSRC, and a larger
ldepth are ILLEGAL (R326, R339). -/
def Obligations.CsrAccess : Prop :=
  ∀ (i : Issue) (s : State),
    let w := i.word.toNat
    let e := i.eng.val
    let c := s.core e
    let v := s.gpr e (fRs1 w)
    let goes := fun (d : EngCore) => (s.setCore e d).retire e none
    (s.issues i 0x22 = true → fRs1 w = 0 → fImm12 w = 0x023 → Becomes (.csrr i) s (s.wrote e (fRd w) c.ecause)) ∧
    (s.issues i 0x22 = true → fRs1 w = 0 → fImm12 w = 0x000 → Becomes (.csrr i) s (s.wrote e (fRd w) 0x00010000)) ∧
    (s.issues i 0x22 = true → fRs1 w = 0 → fImm12 w = 0x041 → c.retCap = none →
      Becomes (.csrr i) s (s.wrote e (fRd w) (c.ret.extractLsb' 32 32))) ∧
    (s.issues i 0x22 = true → fImm12 w = 0x003 → Becomes (.csrr i) s (s.trap e 1 w 0)) ∧
    (s.issues i 0x23 = true → fRd w = 0 → fImm12 w = 0x021 →
      Becomes (.csrw i) s (goes { c with tvec := v &&& 0xFFFFFC00 })) ∧
    (s.issues i 0x23 = true → fRd w = 0 → fImm12 w = 0x020 →
      Becomes (.csrw i) s (goes { c with gie := v.getLsbD 0 })) ∧
    (s.issues i 0x23 = true → fRd w = 0 → fImm12 w = 0x030 → Becomes (.csrw i) s (goes { c with ien := v })) ∧
    (s.issues i 0x23 = true → fRd w = 0 → fImm12 w = 0x031 →
      Becomes (.csrw i) s (goes { c with ipend := c.ipend &&& ~~~(v &&& ~~~8) })) ∧
    (s.issues i 0x23 = true → fRd w = 0 → fImm12 w = 0x023 → Becomes (.csrw i) s (s.trap e 1 w 0)) ∧
    (s.issues i 0x24 = true → fRd w = 0 → fImm12 w = 0x030 →
      Becomes (.csrs i) s (goes { c with ien := c.ien ||| v })) ∧
    (s.issues i 0x24 = true → fRd w = 0 → fImm12 w = 0x020 → v.getLsbD 1 = true →
      Becomes (.csrs i) s (s.trap e 1 w 0)) ∧
    (s.issues i 0x25 = true → fRd w = 0 → fImm12 w = 0x030 →
      Becomes (.csrc i) s (goes { c with ien := c.ien &&& ~~~v })) ∧
    (s.issues i 0x25 = true → fRd w = 0 → fImm12 w = 0x020 → v.getLsbD 1 = true →
      Becomes (.csrc i) s (s.trap e 1 w 0)) ∧
    (s.issues i 0x25 = true → fRd w = 0 → fImm12 w = 0x050 → Becomes (.csrc i) s (s.trap e 1 w 0)) ∧
    (s.issues i 0x23 = true → fRd w = 0 → fImm12 w = 0x016 → c.loops.depth < v.toNat →
      Becomes (.csrw i) s (s.trap e 1 w 0)) ∧
    (s.issues i 0x23 = true → fRd w = 0 → fImm12 w = 0x00B →
      Becomes (.instPop i) s (goes { c with insts := c.insts.drop 1 })) ∧
    (s.issues i 0x23 = true → fRd w = 0 → fImm12 w = 0x00C →
      Becomes (.timerArm i) s (goes { c with tcmp := c.tcmp.extractLsb' 32 32 ++ v, timerArmed := true }))

open Sys2Proof Sys2Proof.Machine in
/-- INTERRUPT_ENTRY takes the lowest pending enabled interrupt with cause 16 + b, epc the next instruction (the REP prefix
of an interrupted REP.I); ENGINE_TIMER sets ipend bit 1 once device time has reached the armed tcmp, and disarms; WDW
sets bit 7 once per WDS, when half of watchdog_ms has passed since it; all are journaled. Within an open debug scope halt, step and resume act on the engine, outside
one the write is dropped and counted; the watchdog stands still in a halt (R337, R340, R344, R347). -/
def Obligations.InterruptsAndDebug : Prop :=
  (∀ (e : Fin 32) (s : State) (b : Nat), s.canExec e = true → s.recovering e = false → (s.eng e).st = .running →
    (s.core e).gie = true → (s.core e).exc = false → (s.core e).rep ≠ some false → b < 32 →
    tst (s.core e).pendEn b = true → (∀ k, k < b → tst (s.core e).pendEn k = false) →
    let c := s.core e
    Becomes (.interruptEntry e) s (s.setCore e { c with
      epc := if c.rep.isSome then c.pc - 4 else c.pc, epr := c.pr, eloops := c.loops,
      loops := { c.loops with depth := 0 }, gie := false, exc := true, ecause := BitVec.ofNat 32 (16 + b), einst := 0,
      eaddr := 0, rep := none, pc := c.tvec + BitVec.ofNat 32 (32 * (16 + b)) })) ∧
  (∀ (e : Fin 32) (s : State), s.lead e = e.val → s.takesInput e = true → (s.core e).timerArmed = true →
    (s.core e).tcmp.toNat ≤ s.time.t.toNat →
    Completes (.engineTimer e) s (fun t => tst (t.core e).ipend.toNat 1 = true ∧ (t.core e).timerArmed = false ∧
      (t.core e).w = (s.core e).w ∧ (t.core e).pc = (s.core e).pc ∧ t.mem = s.mem)) ∧
  (∀ (e : Fin 32) (s : State), s.lead e = e.val → s.running = true → s.recovering e = false →
    (s.eng e).st = .running → (s.eng e).wdwSet = false →
    (s.eng e).wdsAt * 2 + ms (s.watchdogMs e) ≤ s.sys.mono * 2 →
    Completes (.wdw e) s (fun t => tst (t.core e).ipend.toNat 7 = true ∧ (t.eng e).wdwSet = true ∧ t.mem = s.mem)) ∧
  (∀ (e : Fin 32) (s : State), s.lead e = e.val → s.sys.mono * 2 < (s.eng e).wdsAt * 2 + ms (s.watchdogMs e) →
    exec (.wdw e) s = .next s) ∧
  (∀ (e : Fin 32) (s : State), s.running = true → s.debugOpen = true → s.lead e = e.val →
    let g := s.eng e
    (g.st = .running → Becomes (.debugHalt e) s (s.setEng e { g with haltReq := true })) ∧
    let on := fun b => { g with
      st := .running, stepReq := b, haltReq := false, wdsAt := g.wdsAt + (s.sys.mono - g.haltAt) }
    (g.st = .dbgHalt → Becomes (.debugStep e) s (s.setEng e (on true)) ∧
      Becomes (.debugResume e) s (s.setEng e (on false)))) ∧
  (∀ (e : Fin 32) (s : State), s.running = true → s.debugOpen = false →
    let t := s.wrViol (0x200000 + e.val * 0x10000 + 0x40)
    Becomes (.debugHalt e) s t ∧ Becomes (.debugStep e) s t ∧ Becomes (.debugResume e) s t)

namespace Sys2Proof.Machine

/-! ### Chive engines -/

/-- Engine `e` is about to execute a word of the Chive opcode `op` (R439, R442). -/
def State.ceAt (s : State) (e : Fin 32) (op : Nat) : Bool :=
  s.ceRuns e && s.ceFetch e / 2 ^ 20 == op

/-- The instruction gives engine `e` the new state `x` and the next word follows (R440). -/
def CeGoes (mk : Fin 32 → Instr) (e : Fin 32) (s : State) (x : CeEng) : Prop :=
  Becomes (mk e) s ((s.setCe e x).ceNext e)

/-- The engine faults on its word: state 3, the word, pc and reason recorded, CHIVE_EVENT.fault set (R439). -/
def CeFaults (mk : Fin 32 → Instr) (e : Fin 32) (s : State) (reason : Nat) : Prop :=
  Becomes (mk e) s (s.ceFault e (s.ceFetch e) reason)

end Sys2Proof.Machine

open Sys2Proof Sys2Proof.Machine in
/-- After a word below 47 the next one follows, the engine running; a fault changes no other engine and no group;
it fails the frames of a UART TX engine's line. -/
def Obligations.ChiveEnginesAdvanceOrFault : Prop :=
  (∀ (s : State) (e : Nat), (s.ce e).pc < 47 →
    s.ceNext e = s.setCe e { s.ce e with pc := (s.ce e).pc + 1, st := .running }) ∧
  (∀ (s : State) (e : Nat), (s.ce e).pc = 47 → ∃ p, p < 48 ∧
    s.ceNext e = { s.draw with chv := (s.setCe e { s.ce e with pc := p, st := .running }).chv }) ∧
  (∀ (s : State) (e w reason : Nat), (s.ce e).prog ≠ 6 →
    let x : CeEng := { s.ce e with st := .faulted, fault := BitVec.ofNat 32 (reason * 2 ^ 30 + (s.ce e).pc * 2 ^ 24 + w) }
    let c : ChvBlk := { s.chv with event := s.chv.event ||| 1, eng := s.chv.eng.set e x }
    s.ceFault e w reason = { s with chv := c }) ∧
  (∀ (e : Fin 32) (s : State), s.ceRuns e = true → 10 ≤ s.ceFetch e / 2 ^ 20 →
    CeFaults .chiveReservedOpcode e s 0)

namespace Sys2Proof.Machine

/-- An ALU operation of Table 15-13: with the fields it leaves unused zero it writes `f` of its destination, its
source and its immediate, the engine with it; a non-zero unused field faults the engine. -/
def CeAluClaim (mk : Fin 32 → Instr) (op : Nat) (src : Bool) (imm : Nat) (f : CeEng → Word → Word → Nat → Word) : Prop :=
  ∀ (e : Fin 32) (s : State), s.ceAt e 1 = true → bits (s.ceFetch e) 19 16 = op →
    let w := s.ceFetch e
    let x := s.ce e
    let d := bits w 15 14
    ((src = true ∨ bits w 13 12 = 0) → bits w 11 0 ≤ imm →
      CeGoes mk e s (x.setR d (f x (x.r d) (x.r (bits w 13 12)) (bits w 11 0)))) ∧
    (src = false → bits w 13 12 ≠ 0 → CeFaults mk e s 1) ∧ (imm < bits w 11 0 → CeFaults mk e s 1)

end Sys2Proof.Machine

open Sys2Proof Sys2Proof.Machine in
/-- SETV loads a half, keeping or clearing the other; the ALU operations are those of Table 15-13, modulo 2^32
(R439). -/
def Obligations.ChiveAluWritesRegister : Prop :=
  (∀ (e : Fin 32) (s : State), s.ceAt e 0 = true →
    let w := s.ceFetch e
    let x := s.ce e
    let d := bits w 19 18
    let m := BitVec.ofNat 32 (bits w 15 0)
    CeGoes .setv e s (x.setR d (match tst w 17, tst w 16 with
      | false, false => m
      | false, true => (x.r d &&& 0xFFFF0000) ||| m
      | true, false => m <<< 16
      | true, true => (x.r d &&& 0xFFFF) ||| (m <<< 16)))) ∧
  CeAluClaim .chiveAdd 0 true 0 (fun _ d a _ => d + a) ∧ CeAluClaim .chiveSub 1 true 0 (fun _ d a _ => d - a) ∧
  CeAluClaim .chiveAddi 2 false 4095 (fun _ d _ i => d + BitVec.ofNat 32 i) ∧
  CeAluClaim .chiveSubi 3 false 4095 (fun _ d _ i => d - BitVec.ofNat 32 i) ∧
  CeAluClaim .chiveAnd 4 true 0 (fun _ d a _ => d &&& a) ∧ CeAluClaim .chiveOr 5 true 0 (fun _ d a _ => d ||| a) ∧
  CeAluClaim .chiveXor 6 true 0 (fun _ d a _ => d ^^^ a) ∧ CeAluClaim .chiveMov 7 true 0 (fun _ _ a _ => a) ∧
  CeAluClaim .shri 8 false 31 (fun _ d _ i => d >>> i) ∧ CeAluClaim .shli 9 false 31 (fun _ d _ i => d <<< i) ∧
  CeAluClaim .chiveOri 10 false 4095 (fun _ d _ i => d ||| BitVec.ofNat 32 i) ∧
  CeAluClaim .ldk 11 false 0 (fun x _ _ _ => x.k) ∧
  CeAluClaim .chiveAndi 13 false 4095 (fun _ d _ i => d &&& BitVec.ofNat 32 i)

namespace Sys2Proof.Machine

/-- What a DRIVE does with its change: untimed, or timed with its instant come (counted late), it takes effect; timed
with another change pending it stalls; otherwise it waits in the timer with T (R441). -/
def DriveClaim (c : Instr) (e : Fin 32) (s : State) (timed : Bool) (ch : PinChange) : Prop :=
  let x := s.ce e
  let g := s.grp (e / 4)
  let due := 0 ≤ (s.time.t.setWidth 32 - x.t).toInt
  (timed = false → Becomes c s ((s.applyChange e ch).ceNext e)) ∧
  (timed = true → x.timed ≠ none → Becomes c s (s.setCe e { x with st := .stalled })) ∧
  (timed = true → x.timed = none → due →
    Becomes c s (((s.setGrp (e / 4) { g with late := satInc g.late }).applyChange e ch).ceNext e)) ∧
  (timed = true → x.timed = none → ¬ due → Becomes c s ((s.setCe e { x with timed := some (x.t, ch) }).ceNext e))

end Sys2Proof.Machine

open Sys2Proof Sys2Proof.Machine in
/-- DRIVE sets a level, a direction, PPS_OUT or the pin a register names; the pin index has the pin offset added and
an index above 7 after it faults the engine (R432, R439, Table 15-2). -/
def Obligations.ChiveDriveSetsPins : Prop :=
  ∀ (e : Fin 32) (s : State), s.ceAt e 2 = true → bits (s.ceFetch e) 8 0 = 0 →
    let w := s.ceFetch e
    let x := s.ce e
    let po := x.po.toNat
    let i := bits w 13 10
    let v := if tst w 16 then (x.r (bits w 15 14)).getLsbD 0 else tst w 9
    let r := x.r (bits w 15 14)
    let j := r.toNat % 16 + po
    let p := 8 * (e.val / 4) + i + po
    (bits w 19 18 = 0 → i < 8 → i + po < 8 → DriveClaim (.driveLevel e) e s (tst w 17) (.level p v)) ∧
    (bits w 19 18 = 0 → i < 8 → 8 ≤ i + po → CeFaults .driveLevel e s 1) ∧
    (bits w 19 18 = 0 → e.val / 4 = 7 → i = 9 → DriveClaim (.driveLevel e) e s (tst w 17) (.level 65 v)) ∧
    (bits w 19 18 = 1 → i < 8 → i + po < 8 → DriveClaim (.driveDirection e) e s (tst w 17) (.direction p v)) ∧
    (bits w 19 18 = 1 → i < 8 → 8 ≤ i + po → CeFaults .driveDirection e s 1) ∧
    (bits w 19 18 = 2 → e.val / 4 = 7 → i = 0 → DriveClaim (.drivePpsOut e) e s (tst w 17) (.level 65 v)) ∧
    (bits w 19 18 = 2 → e.val / 4 ≠ 7 → CeFaults .drivePpsOut e s 1) ∧
    (bits w 19 18 = 3 → bits w 13 9 = 0 → tst w 16 = true → j < 8 → x.prog ≠ 8 →
      DriveClaim (.driveIndexed e) e s (tst w 17) (.level (e.val / 4 * 8 + j) (r.getLsbD 8))) ∧
    (bits w 19 18 = 3 → bits w 13 9 = 0 → tst w 16 = true → 8 ≤ j → CeFaults .driveIndexed e s 1)

open Sys2Proof Sys2Proof.Machine in
/-- SENSE loads the levels of pins and TIME moves the deadline, as Table 15-2 gives; a reserved kind faults. -/
def Obligations.ChiveSenseAndTime : Prop :=
  ∀ (e : Fin 32) (s : State),
    let w := s.ceFetch e
    let x := s.ce e
    let d := bits w 17 16
    let i := bits w 15 12
    let lv := (s.cpin (8 * (e.val / 4) + i + x.po.toNat)).raw
    let r := bits w 16 15
    let sense := s.ceAt e 3 = true ∧ bits w 11 0 = 0
    let time := fun k => s.ceAt e 4 = true ∧ bits w 19 17 = k ∧ bits w 14 12 = 0 ∧ (k ≠ 1 → bits w 11 0 = 0)
    (sense → bits w 19 18 = 0 → i + x.po.toNat < 8 →
      CeGoes .senseShift e s (x.setR d ((x.r d >>> 1) ||| (if lv then 0x80000000 else 0)))) ∧
    (sense → bits w 19 18 = 1 → i + x.po.toNat < 8 → CeGoes .senseLevel e s (x.setR d (if lv then 1 else 0))) ∧
    (sense → bits w 19 18 = 2 → i = 0 → e.val / 4 ≠ 7 → ∃ v : Word,
      (∀ k, k < 8 → v.getLsbD k = (s.cpin (8 * (e.val / 4) + k)).raw) ∧ v.toNat < 256 ∧
      CeGoes .senseAll e s (x.setR d v)) ∧
    (s.ceAt e 3 = true → bits w 19 18 = 3 → CeFaults .senseAll e s 1) ∧
    (time 0 → CeGoes .timeAdd e s { x with t := x.t + x.r r }) ∧
    (time 1 → r = 0 → CeGoes .timeNow e s { x with t := s.time.t.setWidth 32 + BitVec.ofNat 32 (bits w 11 0) }) ∧
    (time 2 → CeGoes .timeFromStamp e s { x with t := x.e.setWidth 32 + x.r r }) ∧
    (time 3 → CeGoes .timeRead e s (x.setR r x.t)) ∧
    (time 4 → CeGoes .timeWrite e s { x with t := x.r r }) ∧
    (s.ceAt e 4 = true → 5 ≤ bits w 19 17 → CeFaults .timeWrite e s 1)

namespace Sys2Proof.Machine

/-- An AWAIT whose condition holds goes on to `t`; otherwise it stalls with state 2 and nothing else changes
(R440, Table 15-3). -/
def AwaitClaim (c : Instr) (e : Fin 32) (s : State) (holds : Prop) (t : State) : Prop :=
  (holds → Becomes c s (t.ceNext e)) ∧ (¬ holds → Becomes c s (s.setCe e { s.ce e with st := .stalled }))

end Sys2Proof.Machine

open Sys2Proof Sys2Proof.Machine in
/-- AWAIT ends when device time reaches T, a pin has the level, an edge is latched, a group flag is set (cleared with
pol 1), an instant or a change waits (taken), or the OUT FIFO holds a word (Table 15-3). -/
def Obligations.ChiveAwaitsItsCondition : Prop :=
  ∀ (e : Fin 32) (s : State), s.ceAt e 5 = true → bits (s.ceFetch e) 10 8 = 0 →
    let w := s.ceFetch e
    let x := s.ce e
    let g := s.grp (e.val / 4)
    let i := bits w 15 12
    let pol := tst w 11
    let p := s.cpin (8 * (e.val / 4) + i + x.po.toNat)
    let flag := BitVec.ofNat 8 (2 ^ i)
    let pinOk := bits w 7 0 = 0 ∧ i < 8 ∧ i + x.po.toNat < 8
    (bits w 19 16 = 0 → i = 0 → pol = false → bits w 7 0 = 0 →
      AwaitClaim (.awaitTime e) e s (0 ≤ (s.time.t.setWidth 32 - x.t).toInt) s) ∧
    (bits w 19 16 = 1 → pinOk → AwaitClaim (.awaitLevel e) e s (p.raw = pol) s) ∧
    (bits w 19 16 = 2 → pinOk →
      AwaitClaim (.awaitEdge e) e s ((if pol then p.riseLatch else p.fallLatch) = true) s) ∧
    (bits w 19 16 = 3 → bits w 7 0 = 0 → i < 8 → AwaitClaim (.awaitFlag e) e s (g.flags.getLsbD i = true)
      (if pol then s.setGrp (e.val / 4) { g with flags := g.flags &&& ~~~flag } else s)) ∧
    (bits w 19 16 = 4 → i = 0 → bits w 7 0 = 0 →
      (∀ h rest, takeFirst (fun q : Bool × DWord => q.1 == pol) x.insts = some (h, rest) →
        CeGoes .awaitInstant e s { x with insts := rest, e := h.2 }) ∧
      (takeFirst (fun q : Bool × DWord => q.1 == pol) x.insts = none →
        Becomes (.awaitInstant e) s (s.setCe e { x with st := .stalled }))) ∧
    (bits w 19 16 = 5 → i = 0 → pol = false →
      (∀ h rest, takeFirst (fun q : CeChange => tst (bits w 7 0) (q.pin % 8)) g.queue = some (h, rest) →
        Becomes (.awaitChange e) s (((s.setGrp (e.val / 4) { g with queue := rest }).setCe e { x.setR 0
          (BitVec.ofNat 32 (h.pin + (if h.level then 256 else 0))) with e := h.stamp, eid := BitVec.ofNat 7 h.pin
            }).ceNext e)) ∧
      (takeFirst (fun q : CeChange => tst (bits w 7 0) (q.pin % 8)) g.queue = none →
        Becomes (.awaitChange e) s (s.setCe e { x with st := .stalled }))) ∧
    (bits w 19 16 = 6 → i = 0 → pol = false → bits w 7 0 = 0 → AwaitClaim (.awaitOutFifo e) e s (x.outF ≠ []) s) ∧
    (7 ≤ bits w 19 16 → CeFaults .awaitTime e s 1)

open Sys2Proof Sys2Proof.Machine in
/-- BRANCH jumps when its condition holds and faults on a target from 48; STAMP copies device time or a pin's edge to
E and names the pin; XFER moves a word from the OUT FIFO or to the IN FIFO of a host sink, stalling or, with nb, going
on; a PPS or IRIG-B output engine takes the time and then the level of the edge the time island loads; FLAG sets and clears a group flag and signals the host (R438, R439, R448, Tables 15-2 and 15-3). -/
def Obligations.ChiveFlowAndFifos : Prop :=
  ∀ (e : Fin 32) (s : State),
    let w := s.ceFetch e
    let x := s.ce e
    let g := s.grp (e.val / 4)
    let r := x.r (bits w 16 15)
    let dest := bits w 5 0
    let br := s.ceAt e 6 = true ∧ bits w 9 6 = 0
    let goes := Becomes (.chiveBranch e) s (s.setCe e { x with pc := dest, st := .running })
    let falls := Becomes (.chiveBranch e) s (s.ceNext e)
    let sel := bits w 14 10
    let i := bits w 15 12
    let n := 8 * (e.val / 4) + i + x.po.toNat
    let p := s.cpin n
    let stampOf := match bits w 19 18 with
      | 0 => s.time.t
      | 1 => p.rise
      | 2 => p.fall
      | _ => if p.lastRise then p.rise else p.fall
    let st := s.setCe e { x with e := stampOf, eid := BitVec.ofNat 7 n }
    let reg := bits w 17 16
    let f := BitVec.ofNat 8 (2 ^ i)
    (br → bits w 19 17 = 0 → bits w 16 10 = 0 → dest < 48 → goes) ∧
    (br → bits w 19 17 = 1 → sel = 0 → dest < 48 → (r = 0 → goes) ∧ (r ≠ 0 → falls)) ∧
    (br → bits w 19 17 = 2 → sel = 0 → dest < 48 → (r ≠ 0 → goes) ∧ (r = 0 → falls)) ∧
    (br → bits w 19 17 = 3 → dest < 48 → (r.getLsbD sel = true → goes) ∧ (r.getLsbD sel = false → falls)) ∧
    (br → bits w 19 17 = 0 → bits w 16 10 = 0 → 48 ≤ dest → CeFaults .chiveBranch e s 2) ∧
    (s.ceAt e 7 = true → tst w 16 = false → bits w 11 0 = 0 → i < 8 → i + x.po.toNat < 8 →
      (tst w 17 = false → Becomes (.stamp e) s (st.ceNext e)) ∧
      (tst w 17 = true →
        Becomes (.stamp e) s ((st.setCpin n { p with riseLatch := false, fallLatch := false }).ceNext e))) ∧
    (s.ceAt e 8 = true → tst w 19 = false → bits w 15 0 = 0 → x.prog ≠ 6 → x.prog ≠ 4 → x.prog ≠ 2 →
      (∀ v rest, x.outF = v :: rest → CeGoes .xferTake e s { x.setR reg v with outF := rest }) ∧
      (x.outF = [] → tst w 18 = true → Becomes (.xferTake e) s (s.ceNext e)) ∧
      (x.outF = [] → tst w 18 = false → Becomes (.xferTake e) s (s.setCe e { x with st := .stalled }))) ∧
    (s.ceAt e 8 = true → tst w 19 = false → bits w 15 0 = 0 → (x.prog = 2 ∨ x.prog = 4) → x.outF = [] → x.pc < 47 →
      ∀ t v, s.nextEdge x.prog.toNat x.edgeAt x.edgeUp = some (t, v) → Completes (.xferTake e) s (fun u =>
        (u.ce e).r reg = BitVec.ofNat 32 t ∧ (u.ce e).outF = [BitVec.ofNat 32 (if v then 1 else 0)] ∧
        (u.ce e).pc = x.pc + 1 ∧ s.within [.chv, .sys, .host] u)) ∧
    (s.ceAt e 8 = true → tst w 19 = true → bits w 15 0 = 0 → x.prog = 1 → x.sink = 0 →
      (x.inF.length < 8 →
        CeGoes .xferGive e s { x with inF := x.inF ++ [{ word := x.r reg, e := x.e, eid := x.eid }] }) ∧
      (8 ≤ x.inF.length → tst w 18 = true → CeGoes .xferGive e s { x with inLost := satInc x.inLost }) ∧
      (8 ≤ x.inF.length → tst w 18 = false → Becomes (.xferGive e) s (s.setCe e { x with st := .stalled }))) ∧
    (s.ceAt e 9 = true → bits w 17 16 = 0 → bits w 11 0 = 0 →
      (bits w 19 18 = 0 → i < 8 →
        Becomes (.flagSet e) s ((s.setGrp (e.val / 4) { g with flags := g.flags ||| f }).ceNext e)) ∧
      (bits w 19 18 = 1 → i < 8 →
        Becomes (.flagClear e) s ((s.setGrp (e.val / 4) { g with flags := g.flags &&& ~~~f }).ceNext e)) ∧
      (bits w 19 18 = 0 → 8 ≤ i → CeFaults .flagSet e s 1) ∧
      (bits w 19 18 = 2 → i = 0 → Becomes (.flagSig e) s
        ({ s with chv := { s.chv with event := s.chv.event ||| 16 } }.ceNext e)))

open Sys2Proof Sys2Proof.Machine in
/-- A raw edge is stamped and latched; a level that has stood for filter_us is the filtered change of a binary input,
which enters its group's queue with the stamp of its raw edge, or is counted lost; a pending timed change and the end of
a pulse, pulse_ms after it began, act on the pin; a delivery enters the OUT FIFO of the group's binary output engine;
PPS_OUT rises at a whole TAI second where R139 permits, and falls pps_width_ms later (R139, R435, R436, R441, R448,
R450; 2 ns of slack at the second and the width are R139's accuracy). -/
def Obligations.ChivePinsAct : Prop :=
  (∀ (p : Fin 65) (v : Bool) (t : DWord) (s : State), s.running = true → (s.cpin p).out = false →
    (s.cpin p).raw ≠ v → s.txLine p = none →
    Becomes (.pinEdge p v t) s (s.setCpin p (if v then
        { s.cpin p with raw := true, rise := t, lastRise := true, riseLatch := true, edgeAt := s.sys.mono }
      else { s.cpin p with raw := false, fall := t, lastRise := false, fallLatch := true, edgeAt := s.sys.mono }))) ∧
  (∀ (p : Fin 64) (s : State), s.running = true → (s.cpin p).raw ≠ (s.cpin p).filtered → (s.cpin p).func = 1 →
    let x := s.cpin p
    (s.sys.mono < x.edgeAt + us x.filterUs.toNat → Idles (.filteredChange [p.castLE (by decide)]) s) ∧
    (x.edgeAt + us x.filterUs.toNat ≤ s.sys.mono →
    let g := s.grp (p / 8)
    let t := s.setCpin p { x with filtered := x.raw }
    (g.queue.length < 64 → Becomes (.filteredChange [p.castLE (by decide)]) s (t.setGrp (p / 8) { g with queue :=
      g.queue ++ [{ pin := p, level := x.raw, stamp := if x.raw then x.rise else x.fall }] })) ∧
    (64 ≤ g.queue.length → Becomes (.filteredChange [p.castLE (by decide)]) s
      ((t.setGrp (p / 8) { g with fqLost := satInc g.fqLost }).chvEvent 1)))) ∧
  (∀ (e : Fin 32) (s : State) (t : Word) (c : PinChange), s.running = true → (s.ce e).timed = some (t, c) →
    0 ≤ (s.time.t.setWidth 32 - t).toInt →
    Becomes (.timedChangeApply e) s ((s.setCe e { s.ce e with timed := none }).applyChange e c)) ∧
  (∀ (p : Fin 64) (s : State), s.running = true → (s.cpin p).pulse = true →
    let t := (s.cpin p).pulseAt + ms (s.pinFld p 8 2)
    (t ≤ s.sys.mono →
      Becomes (.pulseEnd p) s ((s.setCpin p { s.cpin p with pulse := false }).setLevel p (s.cpin p).invert)) ∧
    (s.sys.mono < t → exec (.pulseEnd p) s = .next s)) ∧
  (∀ (n : Fin 64) (s : State) (v : DWord), s.pnt.outs.find? n = some v → (s.cpin n).func = 3 →
    let e := 4 * (n.val / 8)
    let w := BitVec.ofNat 32 (n % 8 + if v.getLsbD 0 != (s.cpin n).invert then 256 else 0)
    (s.ce e).prog = 8 → s.ceRuns e = true → (s.ce e).outF.length < 8 →
    Becomes (.binaryOutputDelivery n) s
      (({ s with pnt := { s.pnt with outs := s.pnt.outs.del n } }).setCe e { s.ce e with outF := (s.ce e).outF ++ [w] })) ∧
  (∀ (s : State), s.running = true → s.fld 0x0401 0 7 1 0 ≠ 0 → (s.ce 28).prog = 2 → s.ceRuns 28 = true →
    let now := s.time.t.toNat
    let width := s.fld 0x0401 0 8 2 1 * 4000000
    (s.time.ppsUp.toNat + width ≤ now + 8 → Becomes (.ppsOutEdge false) s (s.setLevel 65 false)) ∧
    (now + 8 < s.time.ppsUp.toNat + width → exec (.ppsOutEdge false) s = .next s) ∧
    (now % 4000000000 ≤ 8 → s.fld 0x0401 0 7 1 0 = 1 → s.time.st = .locked → Becomes (.ppsOutEdge true) s
      ({ s with time := { s.time with ppsUp := s.time.t } }.setLevel 65 true)) ∧
    (8 < now % 4000000000 → now % 4000000000 + 8 < 4000000000 → exec (.ppsOutEdge true) s = .next s) ∧
    (s.fld 0x0401 0 7 1 0 = 1 → s.time.st = .acquire → exec (.ppsOutEdge true) s = .next s))

open Sys2Proof Sys2Proof.Machine in
/-- The host pops the IN FIFO and appends to the OUT FIFO of eight words, a ninth dropped and counted; the line
assembler takes a character, discards one with a bad start bit, flags bad stop bits, and once the line has been quiet for the idle time closes a frame into
the cluster queue or counts it (R438, R446). -/
def Obligations.ChiveHostAndLines : Prop :=
  (∀ (e : Fin 32) (s : State), s.sys.up = true →
    Becomes (.chiveInPop e) s (s.setCe e { s.ce e with inF := (s.ce e).inF.drop 1 })) ∧
  (∀ (e : Fin 32) (w : Word) (s : State), s.sys.up = true →
    ((s.ce e).outF.length < 8 → Becomes (.chiveOutWrite e w) s (s.setCe e { s.ce e with outF := (s.ce e).outF ++ [w] })) ∧
    (8 ≤ (s.ce e).outF.length →
      Becomes (.chiveOutWrite e w) s (s.setCe e { s.ce e with outLost := satInc (s.ce e).outLost }))) ∧
  (∀ (l : Fin 16) (s : State) (e : Nat) (c : CeIn) (rest : List CeIn), s.running = true → s.lineEng l 5 = some e →
    (s.ce e).inF = c :: rest → s.lineParity l = 0 → (s.line l).de = false →
    let v := c.word.toNat / 2 ^ (32 - s.lineBits l)
    let u := s.setCe e { s.ce e with inF := rest }
    let y := { s.line l with rxEnd := c.e + BitVec.ofNat 64 (u.lineBits l * u.lineBitTime l) }
    (tst v 0 = true → Becomes (.lineCharacter l) s (u.setLine l y)) ∧
    (tst v 0 = false → s.lineStops l = 1 → Becomes (.lineCharacter l) s ((u.setLine l y).setLine l { y with
      rx := y.rx ++ [BitVec.ofNat 8 (bits v (s.lineData l) 1)], rxOn := true,
      flagged := y.flagged || !tst v (1 + s.lineData l), rxStamp := if y.rxOn then y.rxStamp else c.e }))) ∧
  (∀ (l : Fin 16) (s : State), s.rxQuiet l = false → exec (.lineFrameClose l) s = .next s) ∧
  (∀ (l : Fin 16) (s : State), s.running = true → (s.line l).rxOn = true → s.rxQuiet l = true →
    let y := s.line l
    let closed := { y with rx := [], rxOn := false, flagged := false }
    ((y.flagged = true ∨ 2048 < y.rx.length) → Becomes (.lineFrameClose l) s
      ((s.setLine l { closed with nErr := satInc y.nErr }).lineStart l)) ∧
    (y.flagged = false → y.rx.length ≤ 2048 → Becomes (.lineFrameClose l) s
      (((s.setLine l { closed with nRx := satInc y.nRx }).lineDeliver l y.rx y.rxStamp).lineStart l)))

open Sys2Proof Sys2Proof.Machine in
/-- A group restarts once its time has come: the banks swap, each engine starts at its entry in the new table or is idle,
and with keep 0 its registers are cleared; a restart by register is due at the first whole microsecond at least 10 µs
ahead, and outside development states is dropped and counted; 0x510 writes the inactive bank and 0x511 schedules
(R443, R444). -/
def Obligations.ChiveGroupsRestart : Prop :=
  (∀ (g : Fin 8) (s : State) (r : CeRestart), s.running = true → (s.grp g).restart = some r → r.req = none →
    r.at_ ≤ s.time.t →
    Completes (.chiveGroupRestart g) s (fun t =>
      (t.grp g).bank = 1 - (s.grp g).bank ∧ (t.grp g).started = true ∧ (t.grp g).restart = none ∧
      (t.grp g).flags = (s.grp g).flags ∧ (t.grp g).queue = (s.grp g).queue ∧
      t.chv.event = s.chv.event ||| 8 ∧ t.chv.pin = s.chv.pin ∧
      (∀ i, i < 4 →
        let x := s.ce (4 * g + i)
        let y := t.ce (4 * g + i)
        let en := bits ((s.grp g).entryTab (1 - (s.grp g).bank)).toNat (8 * i + 7) (8 * i)
        y.inF = x.inF ∧ y.outF = x.outF ∧ y.timed = x.timed ∧
        (r.keep = false → y.g = [] ∧ y.t = 0 ∧ y.e = 0 ∧ y.eid = 0) ∧
        (r.keep = true → y.g = x.g ∧ y.t = x.t ∧ y.e = x.e ∧ y.eid = x.eid) ∧
        (en < 48 → y.st = .running ∧ y.pc = en) ∧ (en = 0xFF → y.st = .idle)) ∧
      s.within [.chv, .sys, .host] t)) ∧
  (∀ (g : Fin 8) (s : State), s.sys.up = true → s.sys.lc = .service → (s.grp g).restart = none →
    s.time.t.toNat < 2 ^ 63 →
    Completes (.chiveGctrlRestart g) s (fun t => ∃ r, (t.grp g).restart = some r ∧ r.at_.toNat % 4000 = 0 ∧
      s.time.t.toNat + 40000 ≤ r.at_.toNat ∧ r.at_.toNat < s.time.t.toNat + 44000 ∧ r.keep = (s.grp g).keep)) ∧
  (∀ (g : Fin 8) (s : State), s.sys.up = true → s.sys.lc = .operational →
    Becomes (.chiveGctrlRestart g) s (s.wrViol (0x80108 + 0x40 * g))) ∧
  (∀ (q : Req) (s u : State), s.asked q 0x510 3 u →
    let g := q.word 1
    let b := u.bulkRead q.src.val (q.word 2) (q.word 3)
    g < 8 → bulkOk q.src.val (q.word 2) (q.word 3) = true → chiveProgOk b = true → u.progFits g b = true →
    ((u.grp g).restart = none → Becomes (.chiveProgramWrite q) s ((u.progWrite g b).finish q 0x510)) ∧
    ((u.grp g).restart ≠ none → Becomes (.chiveProgramWrite q) s (u.refuse q 0x510 0x14))) ∧
  (∀ (q : Req) (s u : State) (g : Fin 8), s.asked q 0x511 3 u → q.word 1 = 2 ^ g.val →
    u.time.t.toNat + 40000 ≤ (q.dword 2).toNat → (q.dword 2).toNat ≤ u.time.t.toNat + 40000000000 →
    (u.grp g).restart = none →
    Becomes (.chiveRestartRequest q) s ((u.setGrp g { u.grp g with restart := some {
      at_ := q.dword 2, keep := false, req := some (q.src.val, q.tag) } }).accept q 0x511))

namespace Sys2Proof.Machine

/-! ### Resets and start-up -/

/-- What a device reset of cause `c` leaves (R44, R46, R48): the cause and the count, READY deasserted, OTP, NVM and the
commands that wait; an NVM write under way is abandoned at a page boundary (R47), and with none the NVM is as before;
every engine, table, register and volatile memory at its reset value, but for the records the
always-on island keeps, PE_PERST_N and its count, the clocks, and balls that something outside drives high. -/
def State.resetTo (s t : State) (c : Cause) : Prop :=
  t.sys.cause = c ∧ t.sys.ready = false ∧ t.sys.up = false ∧ t.sys.faultPin = false ∧ t.sys.alarmPin = false ∧
  t.sys.rstCount = (if c = .por then 0 else satInc s.sys.rstCount) ∧ t.sys.lc = s.otp.decode ∧
  t.otp = s.otp ∧ t.mem = { nvm := s.abandonWrites.mem.nvm } ∧
  (s.sage.job = none → s.openParts = [] → t.mem.nvm = s.mem.nvm) ∧ t.pending = s.pending ∧ t.host.perst = s.host.perst ∧
  t.host.perstCount = (if c = .por then 0 else s.host.perstCount) ∧
  t.host.devEvent = 0 ∧ t.host.scratch = 0 ∧ t.cfg.recs = [] ∧ t.cfg.dir = [] ∧
  t.sage = {} ∧ t.mbx = {} ∧ t.engs = {} ∧ t.time = {} ∧ t.pnt = {} ∧ t.tt = {} ∧ t.ports = [] ∧ t.pairs = [] ∧
  t.sw = {} ∧ t.fab = {} ∧ t.can = [] ∧ t.age = {} ∧ t.chv.eng = [] ∧ t.chv.group = [] ∧ t.chv.line = []

end Sys2Proof.Machine

open Sys2Proof Sys2Proof.Machine in
/-- Every reset source resets the device with its cause (R44, R95, R397, R398, R505, R512, R522, Table 2-1): POR_N,
supply monitor and thermal trip hold it, the warm sources not; the watchdog latches a fatal record with reason 0x0E.
A rail at or above its threshold and a sensor at or below the trip point reset nothing; the fatal sequence ends once
its dump is written and released, or offer_ms after it was offered, and latches its record at once for reason 4 and
10 s after the fatal error otherwise (Table 13-7, log 12 for the grade of the part). -/
def Obligations.ResetSourcesResetTheDevice : Prop :=
  ∀ (s : State),
    (s.sys.stage ≠ .held →
      (s.sys.porHeld = false → Completes .porNAssert s (fun t => s.resetTo t .por ∧ t.sys.stage = .held)) ∧
      (s.sys.supplyHeld = false → ∀ (i : Fin 10) (mv : Nat), mv < monitorMv.getD i 0 →
        Completes (.supplyMonitorReset i mv) s (fun t => s.resetTo t .supply ∧ t.sys.stage = .held)) ∧
      (s.sys.thermHeld = false → ∀ tj, tripPoint < tj →
        Completes (.thermalTrip tj) s (fun t => s.resetTo t .thermal ∧ t.sys.stage = .held)) ∧
      Completes .warmNAssert s (fun t => s.resetTo t .warm)) ∧
    (∀ (i : Fin 10) (mv : Nat), monitorMv.getD i 0 ≤ mv → exec (.supplyMonitorReset i mv) s = .next s) ∧
    (∀ tj, tj ≤ tripPoint → exec (.thermalTrip tj) s = .next s) ∧
    (s.running = true →
      Completes .sageWatchdogExpiry s (fun t => s.resetTo t .watchdog ∧
        t.rmy.latched = some { reason := 0x0E, island := 3, stamp := s.time.t, rst := s.sys.rstCount }) ∧
      (s.sage.coldDue = true → Completes .lifecycleColdReset s (fun t => s.resetTo t .lifeCycle)) ∧
      (s.sage.warmDue = true → Completes .requestedWarmReset s (fun t => s.resetTo t .request))) ∧
    (s.sys.stage = .fatalSeq → s.rmy.dumpWritten = true → s.rmy.dumpState = 1 →
      (s.rmy.dumpRel = true ∨ s.rmy.offerAt + ms (s.fld 0x0B01 0 0x10 2 2000) ≤ s.sys.mono) →
      Completes .fatalReset s (fun t => s.resetTo t .fatal ∧ t.rmy.latched = s.rmy.latched)) ∧
    (s.rmy.dumpRel = false → s.sys.mono < s.rmy.offerAt + ms (s.fld 0x0B01 0 0x10 2 2000) →
      exec .fatalReset s = .next s) ∧
    (s.sys.mono < s.rmy.fatalAt + sec 10 → s.rmy.fatal.any (fun f => f.reason == 4) = false →
      exec .fatalRecordLatch s = .next s) ∧
    (s.sys.stage = .fatalSeq → s.rmy.dumpWritten = false → s.rmy.dumpState = 0 →
      (s.rmy.fatal.any (fun f => f.reason == 4) = true ∨ s.rmy.fatalAt + sec 10 ≤ s.sys.mono) →
      Completes .fatalRecordLatch s (fun t => s.resetTo t .fatal ∧ t.rmy.latched = s.rmy.fatal))

namespace Sys2Proof.Machine

/-- A cause that arises while the reset is held is part of that reset and the lowest code stands; a further reset is not
counted (R44; the reading is log 90). -/
def CausesWhileHeldJoinTheReset : Prop :=
  ∀ (s : State), s.sys.stage = .held →
    exec .warmNAssert s = .next s ∧
    (s.sys.thermHeld = false → ∀ tj, tripPoint < tj → Completes (.thermalTrip tj) s (fun t =>
      t.sys.cause.code = min 2 s.sys.cause.code ∧ t.sys.rstCount = s.sys.rstCount ∧ t.sys.stage = .held)) ∧
    (s.sys.porHeld = false → Completes .porNAssert s (fun t =>
      t.sys.cause = .por ∧ t.sys.rstCount = 0 ∧ t.sys.stage = .held))

end Sys2Proof.Machine

open Sys2Proof Sys2Proof.Machine in
/-- The end of the last hold begins the cold always-on stage: the wipe with REFCLK_A, the 10 ms wait with REFCLK_B
alone, the 1 ms check with neither; while another source holds, the device stays held. The monitor releases once every
rail has stood more than 10 mV above its threshold, the thermal trip below the release point (R51, R54, R512, R522). -/
def Obligations.ReleaseBeginsTheAlwaysOnStage : Prop :=
  CausesWhileHeldJoinTheReset ∧
  ∀ (s : State) (x : Clocks),
    let stage := if x.a then Stage.wiping else if x.b then .refWait else .clockWait
    let y := { s.sys with refA := x.a, refB := x.b, refbHz := x.hz }
    (s.sys.porHeld = true → s.sys.supplyHeld = false → s.sys.thermHeld = false →
      exec (.porNRelease x) s = .next { s with sys := { y with porHeld := false, stage := stage } }) ∧
    (∀ mv, (∃ i, i < 10 ∧ mv.getD i 0 ≤ monitorMv.getD i 0 + 10) → exec (.supplyMonitorRelease x mv) s = .next s) ∧
    (∀ tj, releasePoint ≤ tj → exec (.thermalRelease x tj) s = .next s) ∧
    (s.sys.supplyHeld = true → s.sys.porHeld = false → s.sys.thermHeld = false →
      ∀ mv, (∀ i, i < 10 → monitorMv.getD i 0 + 10 < mv.getD i 0) →
      exec (.supplyMonitorRelease x mv) s = .next { s with sys := { y with supplyHeld := false, stage := stage } }) ∧
    (s.sys.thermHeld = true → s.sys.porHeld = false → s.sys.supplyHeld = false →
      ∀ tj, tj < releasePoint →
      exec (.thermalRelease x tj) s = .next { s with sys := { y with thermHeld := false, stage := stage } }) ∧
    (s.sys.porHeld = true → (s.sys.supplyHeld = true ∨ s.sys.thermHeld = true) →
      exec (.porNRelease x) s = .next { s with sys := { y with porHeld := false, stage := .held } }) ∧
    (s.sys.stage = .clockWait → s.sys.porHeld = false → s.sys.supplyHeld = false → s.sys.thermHeld = false →
      exec (.resetClockCheck x) s = .next { s with sys := { y with stage := stage } }) ∧
    (s.sys.stage = .refWait → exec .refclkAAbsentTimeout s = .next { s with sys := { s.sys with stage := .wiping } })

open Sys2Proof Sys2Proof.Machine in
/-- The wipe's completion takes the device through start-up to READY, and its time-out holds it, FAULT_N and ALARM_N
asserted (R48, R49, R55, R77). -/
def Obligations.WipeLeadsToReady : Prop :=
  ∀ (s : State) (f : BootFind), (s.sys.stage = .wiping ∨ s.sys.stage = .wipeFailed) →
    Completes (.wipeComplete f) s (fun t => t.sys.stage = .running ∧ t.sys.ready = true ∧ t.sys.up = true ∧
      t.sys.faultPin = false ∧ t.sys.bootTime = f.micros ∧ t.sys.cause = s.sys.cause ∧
      t.sys.rstCount = s.sys.rstCount ∧ t.sys.lc = s.sys.lc ∧ t.otp = s.otp ∧ t.sage.pufFail = !f.puf ∧
      t.pending = s.pending) ∧
    exec .wipeTimeout s = .next { s with sys := { s.sys with stage := .wipeFailed, faultPin := true, alarmPin := true } }

open Sys2Proof Sys2Proof.Machine in
/-- ALARM_N falls hold_ms after its last cause has cleared; PE_PERST_N resets the PCIe function alone and counts, and its
release lets the link train; TRST_N resets the TAP alone; 0xC01 answers DONE and makes a warm reset due, unless an image
write or a store append is open (R45, R76, R486, R505, R518). -/
def Obligations.PinsAndRequestedReset : Prop :=
  ∀ (s : State),
    (∀ a, s.alarmCause = false → s.sys.alarmAt = some a →
      (a + ms s.holdMs ≤ s.sys.mono →
        exec .alarmHoldEnd s = .next { s with sys := { s.sys with alarmPin := false, alarmAt := none } }) ∧
      (s.sys.mono < a + ms s.holdMs → exec .alarmHoldEnd s = .next s)) ∧
    (s.alarmCause = true → exec .alarmHoldEnd s = .next s) ∧
    (s.host.perst = false → Completes .pePerstNAssert s (fun t =>
      t.host.perst = true ∧ t.host.perstCount = satInc s.host.perstCount ∧ t.host.dlActive = false ∧
      t.host.msixEn = false ∧ t.host.busMaster = false ∧ t.host.msix = [] ∧ t.host.armed = 0xFFFFFFFFFFFFFFFF ∧
      t.host.devEvent = s.host.devEvent ∧ t.host.scratch = s.host.scratch ∧ s.within [.host] t)) ∧
    (∀ l, s.sys.up = true → Completes (.pePerstNRelease (some l)) s (fun t =>
      t.host.perst = false ∧ t.host.dlActive = true ∧ t.host.width = l.width ∧ t.host.speed = l.speed ∧
      s.within [.host] t)) ∧
    exec .trstNAssert s = .next { s with sage := { s.sage with tap := 0 } } ∧
    (∀ (q : Req) (u : State), s.asked q 0xC01 0 u →
      (u.host.img = none → u.engs.append = none → u.sage.coldDue = false →
        Becomes (.resetRequest q) s
          (State.finish { u with sage := { u.sage with warmDue := true } } q 0xC01)) ∧
      (u.host.img ≠ none → Becomes (.resetRequest q) s (u.refuse q 0xC01 0x14)))

open Sys2Proof Sys2Proof.Machine in
/-- Right after a reset nothing has run: cause POR, no reset counted, READY low, the wipe running, every vector
armed, every Chive entry idle, no command waiting (R15, R44, R48, R494, Table 15-9). -/
def Obligations.ResetStateAsStated : Prop :=
  State.reset.sys.cause = .por ∧ State.reset.sys.rstCount = 0 ∧ State.reset.sys.ready = false ∧
  State.reset.sys.stage = .wiping ∧ State.reset.host.armed = 0xFFFFFFFFFFFFFFFF ∧ State.reset.host.devEvent = 0 ∧
  (State.reset.core 0).pc = 0 ∧ (State.reset.grp 0).entry0 = 0xFFFFFFFF ∧ State.reset.mem.wf = true ∧
  State.reset.pending = []

open Sys2Proof Sys2Proof.Machine in
/-- The command at the front of the queue is what a step runs, on the machine with the queue's rest; an empty queue
lets 2 ns pass once the device's clocks run (the tick is the model's choice, log 4). -/
def Obligations.StepRunsTheFrontCommand : Prop :=
  (∀ (c : Instr) (l : List Instr) (s : State), s.pending = c :: l → step s = exec c { s with pending := l }) ∧
  (∀ (s : State), s.pending = [] → s.clocked = true →
    step s = .next { s with sys := { s.sys with mono := s.sys.mono + 8 }, time := s.time.tick }) ∧
  (∀ (s : State), s.pending = [] → s.clocked = false → step s = .next s)

open Sys2Proof Sys2Proof.Machine in
/-- No command stops the device: every command of the table, in every state, has a next state. -/
def Obligations.EveryCommandHasANextState : Prop := ∀ (c : Instr) (s : State), ∃ t, exec c s = .next t

open Sys2Proof Sys2Proof.Machine in
/-- The queue is first in, first out: a step takes its front away and adds nothing. -/
def Obligations.StepsDrainTheQueueInOrder : Prop :=
  ∀ (s t : State), step s = .next t → t.pending = s.pending.drop 1

open Sys2Proof Sys2Proof.Machine in
/-- The memories keep their canonical form through every step, so that equal memories are equal data. -/
def Obligations.MemoriesStayCanonical : Prop :=
  ∀ (s t : State), s.mem.wf = true → step s = .next t → t.mem.wf = true

namespace Sys2Proof.Machine

/-! ### Sage: requests, keys, life-cycle, debug (spec/03) -/

/-- A request that Sage does not come to yet stays where it is; one that a common check turns away is refused with that
check's status and counted; no other effect (R87 to R93). -/
def Refuses (mk : Req → Instr) (code words : Nat) : Prop :=
  ∀ (q : Req) (s : State), s.running = true →
    (s.reqDue q code = false → Idles (mk q) s) ∧
    (∀ st, s.reqDue q code = true → (s.fetchReq q code).reqCheck q code words = some st →
      Becomes (mk q) s ((s.fetchReq q code).refuse q code st))

/-- A request that passes the common checks and meets `ok` has the effect `act` on the state Sage reads it in. -/
def Grants (mk : Req → Instr) (code words : Nat) (ok : Req → State → Prop) (act : Req → State → State) : Prop :=
  ∀ (q : Req) (s u : State), s.asked q code words u → ok q u → Becomes (mk q) s (act q u)

/-- A request that passes the common checks and meets `bad` is refused with `st`. -/
def Denies (mk : Req → Instr) (code words st : Nat) (bad : Req → State → Prop) : Prop :=
  Grants mk code words bad (fun q u => u.refuse q code st)

end Sys2Proof.Machine

open Sys2Proof Sys2Proof.Machine in
/-- The common checks in the model's order (log 22): class not granted 0x10, four requests in flight 0x14, reserved bits
of word 0 or the body length 0x12; and every request they turn away is refused so, in each class. -/
def Obligations.CommonChecksRefuseRequests : Prop :=
  (∀ (q : Req) (s : State) (code words : Nat),
    (tst (s.classes q.src.val) (code / 256) = false → s.reqCheck q code words = some 0x10) ∧
    (tst (s.classes q.src.val) (code / 256) = true → 4 ≤ s.inFlight q.src.val → s.reqCheck q code words = some 0x14) ∧
    (tst (s.classes q.src.val) (code / 256) = true → s.inFlight q.src.val < 4 →
      (q.low ≠ 0 ∨ q.body.length ≠ words) → s.reqCheck q code words = some 0x12) ∧
    (tst (s.classes q.src.val) (code / 256) = true → s.inFlight q.src.val < 4 → q.low = 0 →
      q.body.length = words → s.reqCheck q code words = none)) ∧
  Refuses .challenge 0x001 0 ∧ Refuses .attestation 0x002 6 ∧ Refuses .tableEditCore 0x101 3 ∧
  Refuses .tableEditPort 0x102 3 ∧ Refuses .tableEditFdb 0x106 3 ∧ Refuses .linkCostSet 0x201 1 ∧
  Refuses .deviceExclude 0x202 1 ∧ Refuses .routeRecompute 0x203 0 ∧ (∀ t, Refuses (.keySign · t) 0x301 3) ∧
  (∀ t o, Refuses (.keyExchange · t o) 0x302 3) ∧ (∀ t, Refuses (.keyExport · t) 0x303 3) ∧
  Refuses .timeStepRequest 0x401 2 ∧ Refuses .timeSetRequest 0x402 2 ∧ Refuses .utcOffsetSet 0x403 1 ∧
  Refuses .scheduleLoad 0x501 3 ∧ Refuses .scheduleSwapRequest 0x502 3 ∧ Refuses .chiveProgramWrite 0x510 3 ∧
  Refuses .personalityRestart 0x601 1 ∧ Refuses .storeAppendOpen 0x610 3 ∧ Refuses .storeAppendWrite 0x611 3 ∧
  Refuses .quotaChange 0x709 3 ∧ Refuses .imageWriteOpen 0x901 3 ∧ Refuses .imageWriteClose 0x904 0 ∧
  Refuses .lifecycleProvision 0xA01 2 ∧ (∀ v, Refuses (.lifecycleOperational · v) 0xA02 2) ∧
  Refuses .lifecycleServiceExit 0xA04 0 ∧ (∀ v, Refuses (.ownerRotate · v) 0xA06 2) ∧
  (∀ v, Refuses (.debugUnlock · v) 0xB01 2) ∧ Refuses .debugLock 0xB02 0 ∧ Refuses .resetRequest 0xC01 0 ∧
  (∀ (op : Byte), Refuses (.ownerCertificateWrite · op) (0xD00 + op.toNat) 2)

namespace Sys2Proof.Machine

/-- The bulk descriptor of a request with `len` bytes given. -/
abbrev bulkIs (q : Req) (i len : Nat) : Prop := bulkOk q.src.val (q.word i) (q.word (i + 1)) = true ∧ q.word (i + 1) = len

end Sys2Proof.Machine

open Sys2Proof Sys2Proof.Machine in
/-- CHALLENGE answers a nonce, which is from then on the requester's one, and the serial; ATTESTATION puts the signed
report in the bulk area; KEY_SIGN, KEY_EXCHANGE and KEY_EXPORT use a slot that SEC.KEY grants and that holds a key, and
put their result there; without the grant 0x13, without the key 0x19. Nonces, signatures, secrets and unwrapped keys are
values nothing constrains (R82, R100, R101, R103, R305). -/
def Obligations.ChallengeReportAndKeyUse : Prop :=
  (∀ (q : Req) (s u : State), s.asked q 0x001 0 u → ∃ v : BitVec 128,
    Becomes (.challenge q) s (State.finish { u.draw with sage := { u.sage with
      nonces := u.sage.nonces.set q.src.val { value := v, taken := u.sys.mono, used := false } } } q 0x001
      (wordsOf 4 v.toNat ++ wordsOf 2 u.otp.serial.toNat))) ∧
  (∀ (q : Req) (s u : State), s.asked q 0x002 6 u → bulkOk q.src.val (q.word 5) (q.word 6) = true →
    288 ≤ q.word 6 →
    (u.sage.pufFail = false → ∃ sig : List Byte, sig.length = 64 ∧ Becomes (.attestation q) s
      ((u.draw.bulkWrite q.src.val (q.word 5) (u.attestation ((q.body.take 4).flatMap (fun w => leBytes 4 w.toNat))
        u.persDigest ++ sig)).finish q 0x002)) ∧
    (u.sage.pufFail = true → Becomes (.attestation q) s (u.refuse q 0x002 0x19))) ∧
  (∀ (q : Req) (s u : State) (out : Nat → Nat → Instr) (code len : Nat),
    (out = (fun _ _ => .keySign q true) ∧ code = 0x301 ∧ bulkIs q 2 32 ∧ q.word 2 + 64 ≤ bulkSize q.src.val ∧
        u.fld 0x0E03 (q.word 1) 0 1 0xFF = 0 ∧ len = 64 ∨
      out = (fun _ _ => .keyExchange q true true) ∧ code = 0x302 ∧ bulkIs q 2 64 ∧
        q.word 2 + 96 ≤ bulkSize q.src.val ∧ u.fld 0x0E03 (q.word 1) 0 1 0xFF = 1 ∧ q.word 1 ≠ 0xFF ∧ len = 96 ∨
      out = (fun _ _ => .keyExport q true) ∧ code = 0x303 ∧ bulkOk q.src.val (q.word 2) (q.word 3) = true ∧
        tst (u.fld 0x0E03 (q.word 1) 1 1 0) 0 = true ∧ 2 ≤ u.fld 0x0E03 (q.word 1) 0 1 0xFF ∧
        u.fld 0x0E03 (q.word 1) 0 1 0xFF ≤ 4 ∧
        (∃ r, u.region? 6 0 = some r ∧ len = u.nvmLE (r.off + 256 * q.word 1 + 4) 2) ∧ len ≤ q.word 3) →
    s.asked q code 3 u →
    (u.keyGranted q.src.val (q.word 1) = false → Becomes (out 0 0) s (u.refuse q code 0x13)) ∧
    (u.keyGranted q.src.val (q.word 1) = true → u.sage.pufFail = false → u.keyPresent (q.word 1) true = true →
      ∃ b : List Byte, b.length = len ∧
        Becomes (out 0 0) s ((u.draw.bulkWrite q.src.val (q.word 2) b).finish q code)) ∧
    (u.keyGranted q.src.val (q.word 1) = true → (u.sage.pufFail = true ∨ u.keyPresent (q.word 1) true = false) →
      Becomes (out 0 0) s (u.refuse q code 0x19)))

namespace Sys2Proof.Machine

/-- The authorisation block of a request is good for it: it quotes the requester's own nonce, at most 60 s old and
unused, this device's serial and this operation; its reserved bytes are 0, the digest is that of the payload `pay` and
the signature stands, and the key is one whose certificate of the valid owner region carries the usage asked for, or with
none asked for the owner root key (R98, R101, R102). -/
abbrev State.authorised (u : State) (q : Req) (code : Nat) (usage : Option Nat) (pay : List Byte) (v : Verdict) : Prop :=
  let b := u.authBlk q
  (u.sage.nonces.find? q.src.val).any (fun n =>
    n.value.toNat == rdLE b 0x10 16 && !n.used && decide (u.sys.mono < n.taken + sec 60)) = true ∧
  rdLE b 0x20 8 = u.otp.serial.toNat ∧ rdLE b 0x08 4 = code ∧ rdLE b 0x28 24 = 0 ∧
  rdBE b 0x40 32 = (if pay = [] then 0 else (Free.sm3 pay).toNat) ∧ v.sig = true ∧
  (match usage with
    | some k => v.cert = true ∧ u.ownerKey (rdLE b 0 8) k = true
    | none => ∃ h, u.otp.ownerRoot = some h ∧ rdLE b 0 8 = (Free.keyId h).toNat)

/-- A transition: `burn` changes OTP, the dump region is erased, the cold reset is due, DONE and notice 0xF01 are sent
(R50, R95, R106). -/
def State.moved (u : State) (q : Req) (code : Nat) (burn : Otp → Otp) (target : Nat) : State :=
  let t := State.eraseRegion { u with otp := burn u.otp } 5 0
  (State.finish { t with rmy := { t.rmy with dumpPresent := false }, sage := { t.sage with coldDue := true } } q
    code).notice 0xF01 [BitVec.ofNat 32 target]

/-- Nothing that excludes a life-cycle request is in progress, an OTP state holds, and the authorisation stands. -/
abbrev LcOk (lc : LifeCycle) (usage : Option Nat) (code len : Nat) (v : Verdict) (q : Req) (u : State) : Prop :=
  bulkIs q 1 len ∧ u.sys.lc = lc ∧ u.exclusive = false ∧ u.authorised q code usage (u.authPay q len) v

end Sys2Proof.Machine

open Sys2Proof Sys2Proof.Machine in
/-- Each life-cycle request burns its fuses in the state Table 3-11 gives and is refused 0x15 in another; RETIRE burns
its group before it erases the personality store, the keys and the owner certificates; OWNER_ROTATE burns the next
owner slot and revokes the current one, with no reset; an accepted authorisation uses the nonce up (R98, R104 to R108;
that RETIRE of a BLANK device has no body is the model's choice, log 138). -/
def Obligations.LifeCycleTransitions : Prop :=
  Grants .lifecycleProvision 0xA01 2 (fun q u => bulkIs q 1 64 ∧ u.sys.lc = .blank ∧ u.exclusive = false)
    (fun q u => u.moved q 0xA01 (fun o =>
      { o with owners := [Free.sm3 (u.bulkRead q.src.val (q.word 1) 64)], prov := 0xFF }) 1) ∧
  Denies .lifecycleProvision 0xA01 2 0x15 (fun q u => bulkIs q 1 64 ∧ u.sys.lc ≠ .blank) ∧
  (∀ v, Grants (.lifecycleOperational · v) 0xA02 2
    (fun q u => LcOk .provisioned (some 2) 0xA02 160 v q u ∧ u.sys.cfgUnsigned = false ∧ u.sys.cfgDefault = false ∧
      u.sage.certsOk = true)
    (fun q u => (u.useNonce q.src.val).moved q 0xA02 (fun o => { o with oper := 0xFF }) 2)) ∧
  (∀ v, Denies (.lifecycleOperational · v) 0xA02 2 0x15 (fun q u => bulkIs q 1 160 ∧
    (u.sys.lc ≠ .provisioned ∨ u.sys.cfgUnsigned = true ∨ u.sys.cfgDefault = true ∨ u.sage.certsOk = false))) ∧
  (∀ v, Grants (.lifecycleServiceEntry · v) 0xA03 2
    (fun q u => LcOk .operational (some 2) 0xA03 160 v q u ∧ u.otp.entry < 256)
    (fun q u => (u.useNonce q.src.val).moved q 0xA03 (fun o => { o with entry := o.entry + 1 }) 3)) ∧
  (∀ v, Denies (.lifecycleServiceEntry · v) 0xA03 2 0x15
    (fun q u => bulkIs q 1 160 ∧ (u.sys.lc ≠ .operational ∨ 256 ≤ u.otp.entry))) ∧
  Grants .lifecycleServiceExit 0xA04 0 (fun _ u => u.sys.lc = .service ∧ u.exclusive = false)
    (fun q u => u.moved q 0xA04 (fun o => { o with exit := o.exit + 1 }) 2) ∧
  Denies .lifecycleServiceExit 0xA04 0 0x15 (fun _ u => u.sys.lc ≠ .service) ∧
  (∀ v, Grants (.lifecycleRetire · v) 0xA05 0 (fun _ u => u.sys.lc = .blank ∧ u.exclusive = false)
    (fun q u => (((State.eraseRegion { u with otp := { u.otp with retd := 0xFF } } 3 0).eraseRegion 6
      0).eraseRegion 7 0).moved q 0xA05 id 4)) ∧
  (∀ v, Grants (.lifecycleRetire · v) 0xA05 2
    (fun q u => u.sys.lc ≠ .blank ∧ u.sys.lc ≠ .retired ∧ LcOk u.sys.lc none 0xA05 160 v q u)
    (fun q u => (((State.eraseRegion { u.useNonce q.src.val with otp := { u.otp with retd := 0xFF } } 3 0).eraseRegion 6
      0).eraseRegion 7 0).moved q 0xA05 id 4)) ∧
  (∀ v, Grants (.ownerRotate · v) 0xA06 2
    (fun q u => LcOk u.sys.lc none 0xA06 224 v q u ∧ u.sys.lc ≠ .blank ∧ u.sys.lc ≠ .retired ∧ u.otp.owners.length < 4)
    (fun q u => State.finish { u.useNonce q.src.val with otp := { u.otp with
      owners := u.otp.owners ++ [Free.sm3 (u.bulkRead q.src.val (q.word 1 + 160) 64)],
      revoked := u.otp.revoked ||| BitVec.ofNat 4 (2 ^ (u.otp.owners.length - 1)) } } q 0xA06)) ∧
  (∀ v, Denies (.ownerRotate · v) 0xA06 2 0x18
    (fun q u => LcOk u.sys.lc none 0xA06 224 v q u ∧ u.sys.lc ≠ .blank ∧ u.sys.lc ≠ .retired ∧ 4 ≤ u.otp.owners.length))

open Sys2Proof Sys2Proof.Machine in
/-- A debug scope opens in SERVICE for the minutes of a good authorisation, and closes by request or when they have
passed; a TAP instruction other than boundary scan executes only in BLANK or with a scope open; keys and owner
certificates are written as accepted NVM jobs (R99, R105, R106, R109). -/
def Obligations.DebugAndKeyWrites : Prop :=
  (∀ v, Grants (.debugUnlock · v) 0xB01 2
    (fun q u => let a := rdLE (u.authBlk q) 0x0C 4
      bulkIs q 1 160 ∧ u.sys.lc = .service ∧ u.authorised q 0xB01 (some 3) [] v ∧ 1 ≤ bits a 7 0 ∧ bits a 7 0 ≤ 2 ∧
      1 ≤ bits a 31 16 ∧ bits a 31 16 ≤ 480 ∧ bits a 15 8 = 0)
    (fun q u => let a := rdLE (u.authBlk q) 0x0C 4
      let t := u.useNonce q.src.val
      State.finish { t with
        sage := { t.sage with scope := BitVec.ofNat 2 (bits a 7 0), unlockEnd := u.sys.mono + sec (60 * bits a 31 16) },
        host := { t.host with devEvent := t.host.devEvent ||| 32 } } q 0xB01)) ∧
  (∀ v, Denies (.debugUnlock · v) 0xB01 2 0x15 (fun q u => bulkIs q 1 160 ∧ u.sys.lc ≠ .service)) ∧
  Grants .debugLock 0xB02 0 (fun _ u => u.sage.scope ≠ 0) (fun q u => State.finish { u with
    sage := { u.sage with scope := 0 }, host := { u.host with devEvent := u.host.devEvent ||| 32 } } q 0xB02) ∧
  Grants .debugLock 0xB02 0 (fun _ u => u.sage.scope = 0) (fun q u => u.finish q 0xB02) ∧
  (∀ s : State, s.sys.mono < s.sage.unlockEnd → exec .debugScopeExpiry s = .next s) ∧
  (∀ s : State, s.running = true → s.sage.scope ≠ 0 → s.sage.unlockEnd ≤ s.sys.mono → Becomes .debugScopeExpiry s { s with
    sage := { s.sage with scope := 0 }, host := { s.host with devEvent := s.host.devEvent ||| 32 } }) ∧
  (∀ (n : Nat) (s : State), Completes (.jtagTapInstruction n true) s
    (fun t => t = { s with sage := { s.sage with tap := n } })) ∧
  (∀ (n : Nat) (s : State), s.sys.lc = .blank ∨ s.sys.lc = .service ∧ s.sage.scope ≠ 0 →
    Completes (.jtagTapInstruction n false) s (fun t => t = { s with sage := { s.sage with tap := n } })) ∧
  (∀ (n : Nat) (s : State), s.sys.lc ≠ .blank → ¬ (s.sys.lc = .service ∧ s.sage.scope ≠ 0) →
    Completes (.jtagTapInstruction n false) s (fun t => t = s)) ∧
  (∀ (q : Req) (op : Byte) (n : BitVec 8) (s u : State) (r : Region), s.asked q (0xD00 + op.toNat) 3 u →
    bulkOk q.src.val (q.word 2) (q.word 3) = true → u.sys.lc ≠ .retired → u.exclusive = false →
    u.sage.pufFail = false → u.region? 6 0 = some r →
    (192 < n.toNat → Becomes (.keyImport q op (some n)) s (u.refuse q (0xD00 + op.toNat) 0x12)) ∧
    (n.toNat ≤ 192 → ∃ b : List Byte, b.length = 256 ∧ rdLE b 0 2 = 0x4B59 ∧ rdLE b 4 2 = n.toNat ∧
      Becomes (.keyImport q op (some n)) s
        (u.draw.startJob q (0xD00 + op.toNat) .keyImport (r.off + 256 * bits (q.word 1) 7 0) b))) ∧
  (∀ (q : Req) (op : Byte) (s u : State) (r : Region), s.asked q (0xD00 + op.toNat) 2 u →
    bulkOk q.src.val (q.word 1) (q.word 2) = true → u.sys.lc ≠ .retired → u.exclusive = false →
    u.region? 7 0 = some r → q.word 2 ≤ r.size →
    Becomes (.ownerCertificateWrite q op) s (u.startJob q (0xD00 + op.toNat) .ownerCert r.off
      (u.bulkRead q.src.val (q.word 1) (q.word 2))))

open Sys2Proof Sys2Proof.Machine in
/-- A disagreeing voter core is masked, the third time within 1 s fenced with notice 0xF03, and fatal in duplex
operation; three failed TRNG restarts are fatal; a host request whose body does not come is discarded and counted, an
unknown operation is refused 0x11; a response or notice that waits is posted when its mailbox has room (R78, R79,
R81, R91, R111, R499, R502). -/
def Obligations.SageWatchesItself : Prop :=
  (∀ (core : Fin 3) (s : State), s.running = true → tst s.sage.coreActive.toNat core = true →
    let old := s.sage.disagree.filter (fun p => s.sys.mono < p.2 + sec 1)
    let t : State := { s with sage := { s.sage with vote := satInc s.sage.vote, disagree := old ++ [(core.val,
      s.sys.mono)] } }
    (s.sage.duplex = true → Becomes (.voterDisagreement core) s (s.fatal 0x04 3 5)) ∧
    (s.sage.duplex = false → (old.filter (fun p => p.1 == core.val)).length < 2 →
      Becomes (.voterDisagreement core) s (t.logFault 5 3 0xFF 0 0)) ∧
    (s.sage.duplex = false → 2 ≤ (old.filter (fun p => p.1 == core.val)).length →
      let v := t.logFault 5 3 0xFF 1 0
      Becomes (.voterDisagreement core) s (State.notice { v with
        sage := { v.sage with coreActive := v.sage.coreActive &&& ~~~ BitVec.ofNat 3 (2 ^ core.val), duplex := true },
        host := { v.host with devEvent := v.host.devEvent ||| 16 } } 0xF03 [BitVec.ofNat 32 core]))) ∧
  (∀ s : State, s.running = true →
    Becomes (.trngHealthFail true) s { s with sage := { s.sage with trngFails := 0 } } ∧
    (s.sage.trngFails < 2 → Becomes (.trngHealthFail false) s
      { s with sage := { s.sage with trngFails := s.sage.trngFails + 1 } }) ∧
    (s.sage.trngFails = 2 → Becomes (.trngHealthFail false) s
      (State.fatal { s with sage := { s.sage with trngFails := 3 } } 0x06 0 10))) ∧
  (∀ (s : State) (w : MbWord) (rest : List MbWord), s.running = true → (s.mb 56).toHome = w :: rest →
    rest.length < bits w.word.toNat 19 16 →
    Becomes .requestBodyTimeout s (s.setMb 56 { s.mb 56 with toHome := [] }).countRefused) ∧
  (∀ (q : Req) (code : BitVec 12) (s : State), s.running = true → unknownCode code.toNat = true →
    s.reqDue q code.toNat = true →
    let u := s.fetchReq q code.toNat
    (u.inFlight q.src.val < 4 → Becomes (.requestReservedClass q code) s (u.refuse q code.toNat 0x11)) ∧
    (4 ≤ u.inFlight q.src.val → Becomes (.requestReservedClass q code) s (u.refuse q code.toNat 0x14))) ∧
  (∀ (s : State) (src : Nat) (ws : List Word) (rest : List SageReply), s.running = true →
    s.sage.waiting = { mb := 56, src := src, ws := ws } :: rest → s.mbRoom 56 false ws.length = true →
    Becomes (.sageResponseDeliver 56) s ({ s with sage := { s.sage with waiting := rest } }.sagePost 56 false ws)) ∧
  (∀ (s : State) (ws : List Word) (rest : List (List Word)), s.running = true →
    s.sage.notices = ws :: rest → s.mbRoom 57 false ws.length = true →
    Becomes (.sageResponseDeliver 57) s ({ s with sage := { s.sage with notices := rest } }.sagePost 57 false ws))

namespace Sys2Proof.Machine

/-! ### Run-time edits of the switch tables (spec/06) -/

/-- The edit of one record of type `typ`: applied as a generation, or refused as `edit` finds. -/
def EditClaim (mk : Req → Instr) (code typ : Nat) : Prop :=
  ∀ (q : Req) (s u : State), s.asked q code 3 u →
    let r : Rec := { typ := typ, ver := 1, flags := 0, inst := q.word 1, body := u.bulkRead q.src.val (q.word 2) (q.word 3) }
    (bulkOk q.src.val (q.word 2) (q.word 3) = false → Becomes (mk q) s (u.refuse q code 0x12)) ∧
    (bulkOk q.src.val (q.word 2) (q.word 3) = true → q.word 1 < 2 ^ 16 →
      (∀ t, u.edit [r] = .inl t → Becomes (mk q) s (t.finish q code)) ∧
      (u.edit [r] = .inr 0x14 → Becomes (mk q) s (State.refuse { u with sw := { u.sw with
        genBusy := satInc u.sw.genBusy, event := u.sw.event ||| 4 } } q code 0x14)) ∧
      (∀ st, st ≠ 0x14 → u.edit [r] = .inr st → Becomes (mk q) s (u.refuse q code st)))

end Sys2Proof.Machine

open Sys2Proof Sys2Proof.Machine in
/-- An edit becomes one new generation: with every record within its ranges, fewer than 64 generations held and pool
slots for it, the records take the place of those of their types and instances, the number advances by one (more only
over numbers still held), and frames keep theirs. Records out of range are refused 0x12 before anything else is looked
at, 64 held generations 0x14. SW.CORE takes effect without a generation and restarts the capture ring; a batch is all of
its records or none; a quota change sets the port's registers, or answers 0x18 (R202, R204, R207, R208). -/
def Obligations.TableEditsMakeGenerations : Prop :=
  EditClaim .tableEditPort 0x102 0x0302 ∧ EditClaim .tableEditRed 0x103 0x0303 ∧
  EditClaim .tableEditMeter 0x104 0x0304 ∧ EditClaim .tableEditVlan 0x105 0x0305 ∧
  EditClaim .tableEditFdb 0x106 0x0306 ∧ EditClaim .tableEditMcast 0x107 0x0307 ∧
  EditClaim .tableEditRule 0x108 0x0308 ∧
  (∀ (s t : State) (rs : List Rec), s.edit rs = .inl t →
    rs.all (swRecOk (rs.foldl putRec s.sw.tables) (s.recsOf 0x0305).isEmpty true) = true ∧ s.gensHeld.length < 64 ∧
    t.sw.frames = s.sw.frames ∧ (s.sw.gen + 1 ∉ s.gensHeld → t.sw.gen = s.sw.gen + 1) ∧
    (∀ x ∈ s.sw.tables, (∀ r ∈ rs, ¬ (r.typ = x.typ ∧ r.inst = x.inst)) → x ∈ t.sw.tables) ∧
    (∀ r, rs = [r] → r.typ ≠ 0x0306 → r ∈ t.sw.tables) ∧ s.within [.sw] t) ∧
  (∀ (s : State) (rs : List Rec),
    rs.all (swRecOk (rs.foldl putRec s.sw.tables) (s.recsOf 0x0305).isEmpty true) = false → s.edit rs = .inr 0x12) ∧
  (∀ (s : State) (rs : List Rec),
    rs.all (swRecOk (rs.foldl putRec s.sw.tables) (s.recsOf 0x0305).isEmpty true) = true → 64 ≤ s.gensHeld.length →
    s.edit rs = .inr 0x14) ∧
  Grants .tableEditCore 0x101 3 (fun q u => bulkOk q.src.val (q.word 2) (q.word 3) = true ∧ q.word 1 = 0 ∧
      swCoreOk (u.bulkRead q.src.val (q.word 2) (q.word 3)) = true)
    (fun q u =>
      let b := u.bulkRead q.src.val (q.word 2) (q.word 3)
      State.finish { u with sw := { u.sw with
        ageS := rdLE b 0 4, capCtrl := BitVec.ofNat 32 (byteAt b 4 * 2 ^ 16 + rdLE b 6 2),
        filters := (List.range (byteAt b 5)).map (fun f => (b.drop (0x10 + 16 * f)).take 16),
        capSeen := [], capWr := 0, capRd := 0 } } q 0x101) ∧
  (∀ (q : Req) (s u : State) (rs : List Rec), s.asked q 0x1FF 2 u → bulkOk q.src.val (q.word 1) (q.word 2) = true →
    q.word 2 ≤ 65536 → takeRecs 4096 (u.bulkRead q.src.val (q.word 1) (q.word 2)) = some (rs, true, true) → rs ≠ [] →
    ((∀ r ∈ rs, 0x0302 ≤ r.typ ∧ r.typ ≤ 0x0308 ∧ r.ver = 1) →
      (∀ t, u.edit rs = .inl t → Becomes (.tableEditBatch q) s (t.finish q 0x1FF)) ∧
      (u.edit rs = .inr 0x12 → Becomes (.tableEditBatch q) s (u.refuse q 0x1FF 0x12))) ∧
    ((∃ r ∈ rs, r.typ < 0x0302 ∨ 0x0308 < r.typ ∨ r.ver ≠ 1) →
      Becomes (.tableEditBatch q) s (u.refuse q 0x1FF 0x12))) ∧
  Grants .quotaChange 0x709 3 (fun q u => bulkOk q.src.val (q.word 2) (q.word 3) = true ∧
      swQuotaOk (q.word 1) (u.bulkRead q.src.val (q.word 2) (q.word 3)) = true ∧
      (u.applyQuota (q.word 1) (u.bulkRead q.src.val (q.word 2) (q.word 3))).reserves + 65536 ≤ 262144)
    (fun q u => (u.applyQuota (q.word 1) (u.bulkRead q.src.val (q.word 2) (q.word 3))).finish q 0x709) ∧
  Denies .quotaChange 0x709 3 0x18 (fun q u => bulkOk q.src.val (q.word 2) (q.word 3) = true ∧
    swQuotaOk (q.word 1) (u.bulkRead q.src.val (q.word 2) (q.word 3)) = true ∧
    262144 < (u.applyQuota (q.word 1) (u.bulkRead q.src.val (q.word 2) (q.word 3))).reserves + 65536)

namespace Sys2Proof.Machine

/-! ### The Jabex fabric (spec/08) -/

/-- One event bit of the FAB block raised. -/
def State.fabRaised (s : State) (b : BitVec 5) : State := { s with fab := { s.fab with event := s.fab.event ||| b } }

/-- A neighbour that a check turns away: state stranger with the reason, no key, no handshake, counted, event, what
waits for it dropped but for HELLO and ADMIT (R241). -/
def State.strange (s : State) (n reason : Nat) : State :=
  let p := s.fport n
  let q : FabPort := { p with
    st := .stranger, reason := reason, shake := none, key := none, admitFail := satInc p.admitFail }
  ((s.setFport n q).fabRaised 2).fabFlush n

/-- The whole database but the own LSA sent on a port, in the database's order (R244). -/
def State.floodTo (s : State) (n : Nat) : State :=
  (s.fab.db.filter (fun l => l.id != Free.deviceKeyId)).foldl (fun s l => s.lsaSend n l) s

end Sys2Proof.Machine

open Sys2Proof Sys2Proof.Machine in
/-- The commands of class 0x2 need FAB.NODE; a link cost is set and advertised, a device is excluded or restored, routes
are computed anew. HELLO shows the peer and starts the handshake of its own fabric_id; the handshake's end admits with a
new link key or makes a stranger with the first failing check's reason; 50 ms without an end, a retry, and 300 ms
without HELLO act as Table 8-4 and R242 say (R240 to R243, R255). -/
def Obligations.FabricNeighboursAreAdmitted : Prop :=
  Denies .linkCostSet 0x201 1 0x15 (fun _ u => u.fabNode = false) ∧
  Denies .linkCostSet 0x201 1 0x12 (fun q u => u.fabNode = true ∧ q.word 1 / 2 ^ 16 = 0) ∧
  Grants .linkCostSet 0x201 1
    (fun q u => u.fabNode = true ∧ bits (q.word 1) 15 2 = 0 ∧ q.word 1 / 2 ^ 16 ≠ 0)
    (fun q u => ((u.setFport (q.word 1 % 4) { u.fport (q.word 1 % 4) with
      cost := BitVec.ofNat 16 (q.word 1 / 2 ^ 16) }).originate.install).finish q 0x201) ∧
  Grants .deviceExclude 0x202 1
    (fun q u => u.fabNode = true ∧ bits (q.word 1) 15 12 = 0 ∧ q.word 1 < 2 ^ 17 ∧
      bits (q.word 1) 11 0 ≠ u.fab.addr ∧ (u.binding (bits (q.word 1) 11 0)).isSome = true)
    (fun q u =>
      let a := bits (q.word 1) 11 0
      let rest := u.fab.exclude.filter (· ≠ a)
      (State.install { u with fab := { u.fab with
        exclude := if tst (q.word 1) 16 then rest ++ [a] else rest } }).finish q 0x202) ∧
  Denies .deviceExclude 0x202 1 0x12 (fun q u => u.fabNode = true ∧ bits (q.word 1) 11 0 = u.fab.addr) ∧
  Grants .routeRecompute 0x203 0 (fun _ u => u.fabNode = true) (fun q u => u.install.finish q 0x203) ∧
  (∀ (n : Fin 4) (s : State), s.takesPort (64 + n) = true →
    Becomes (.helloSend n) s (s.ctlSend n 2 (s.helloBytes n))) ∧
  (∀ (n : Fin 4) (s : State),
    let b := s.ctlFrame n 2 (s.helloBytes n)
    b.length = 70 ∧ b.take 6 = List.replicate 6 0xFF ∧ (b.drop 6).take 6 = leBytes 6 (s.derivedAddr (64 + n)).toNat ∧
    rdBE b 12 2 = 0x88B5 ∧ byteAt b 14 = 0x12 ∧ rdLE b 38 4 = s.fld 0x0601 0 4 4 0 % 2 ^ 32 ∧
    rdLE b 42 8 = Free.deviceKeyId.toNat ∧ rdLE b 50 8 = s.otp.serial.toNat ∧ byteAt b 60 = s.sys.lc.code % 256 ∧
    byteAt b 61 = n.val ∧ b.drop 62 = List.replicate 8 0) ∧
  (∀ (n : Fin 4) (m : HelloMsg) (s : State), s.takesPort (64 + n) = true →
    let p := s.fport n
    let shown : FabPort := { p with
      peerId := m.keyId, peerAddr := m.addr.toNat, peerMac := m.mac, peerLc := m.lc.toNat, heard := some m.fabricId }
    (m.hdrOk = false → Becomes (.hello n m) s { s with fab := { s.fab with hdrErr := satInc s.fab.hdrErr } }) ∧
    (m.hdrOk = true → s.fabMode n = false → Becomes (.hello n m) s (s.setFport n shown)) ∧
    (m.hdrOk = true → s.fabMode n = true → p.st = .admitted → Becomes (.hello n m) s
      (s.setFport n { p with peerAddr := m.addr.toNat, heard := some m.fabricId })) ∧
    (m.hdrOk = true → s.fabMode n = true → p.st = .admitting → p.shake = none →
      m.fabricId.toNat = s.fld 0x0601 0 4 4 0 →
      Becomes (.hello n m) s ((s.setFport n { shown with shake := some m.fabricId }).admitSend n 1)) ∧
    (m.hdrOk = true → s.fabMode n = true → p.st = .admitting → p.shake = none →
      m.fabricId.toNat ≠ s.fld 0x0601 0 4 4 0 →
      Becomes (.hello n m) s ((s.setFport n shown).strange n 1))) ∧
  (∀ (n : Fin 4) (m : AdmitMsg) (s : State) (id : Word), s.takesPort (64 + n) = true → s.fabMode n = true →
    m.hdrOk = true → (s.fport n).shake = some id →
    let p := s.fport n
    let known := id.toNat = s.fld 0x0601 0 4 4 0
    let lc := p.peerLc = 1 ∨ p.peerLc = 2 ∨ p.peerLc = 3
    (m.last = false → Becomes (.admitFrame n m) s (s.admitSend n 2)) ∧
    (m.last = true → known → m.cert = false → Becomes (.admitFrame n m) s (s.strange n 2)) ∧
    (m.last = true → known → m.cert = true → m.sig = false → Becomes (.admitFrame n m) s (s.strange n 3)) ∧
    (m.last = true → known → m.cert = true → m.sig = true → ¬ lc → Becomes (.admitFrame n m) s (s.strange n 4)) ∧
    (m.last = true → known → m.cert = true → m.sig = true → lc → s.fld 0x0601 0 3 1 0 = 0 →
      ∀ a, s.otp.active = some a →
      (s.otp.owners[a]? ≠ some m.owner → Becomes (.admitFrame n m) s (s.strange n 5)) ∧
      (s.otp.owners[a]? = some m.owner → p.peerId ≠ Free.deviceKeyId → ∃ k : Nat,
        Becomes (.admitFrame n m) s
          ((((s.draw.setFport n { p with st := .admitted, reason := 0, shake := none, key := some k }).fabRaised
            1).originate).floodTo n)))) ∧
  (∀ (n : Fin 4) (s : State), s.running = true → (s.fport n).shake ≠ none →
    Becomes (.admissionTimeout n) s (s.strange n 7)) ∧
  (∀ (n : Fin 4) (s : State) (id : Word), s.running = true → s.fabState n = 4 → (s.fport n).heard = some id →
    (id.toNat = s.fld 0x0601 0 4 4 0 → Becomes (.strangerRetry n) s
      ((s.setFport n { s.fport n with st := .admitting, shake := some id }).admitSend n 1)) ∧
    (id.toNat ≠ s.fld 0x0601 0 4 4 0 → Becomes (.strangerRetry n) s (s.strange n 1))) ∧
  (∀ (n : Fin 4) (s : State), s.running = true → s.fabMode n = true →
    let p := s.fport n
    (p.st = .admitted → Becomes (.neighbourLoss n) s
      ((((s.setFport n { p with st := .admitting, heard := none, key := none, shake := none, sync := none }).fabRaised
        1).fabFlush n).originate)) ∧
    (p.st ≠ .admitted → Becomes (.neighbourLoss n) s
      (s.setFport n { p with heard := none, shake := none, sync := none })))

namespace Sys2Proof.Machine

/-- A changed database and its windows; a computation is due (R245). -/
def State.withDb (s : State) (db : List Lsa) (ws : List StreamWin) : State :=
  { s with fab := { s.fab with db := db, windows := ws, spfDue := true } }

end Sys2Proof.Machine

open Sys2Proof Sys2Proof.Machine in
/-- A newer LSA takes its device's place in the database and the own claim is judged against it; an older one changes
nothing; the device originates with the next sequence number each 30 s and when its qualification has changed; a newer
LSA is flooded on; an LSA ages out with its windows; a tentative claim that no other beats is held; a due computation installs the routes; a window is freed (R243 to R245, R248). -/
def Obligations.FabricDatabaseAndClaims : Prop :=
  (∀ (n : Fin 4) (l : Lsa) (s : State), s.fabTakes n = true → l.id ≠ Free.deviceKeyId →
    (Becomes (.lsa n false false l) s { s with fab := { s.fab with hdrErr := satInc s.fab.hdrErr } }) ∧
    (Becomes (.lsa n false true l) s { s with fab := { s.fab with authFail := satInc s.fab.authFail } }) ∧
    ((∀ x ∈ s.fab.db, x.id = l.id → x.inc = l.inc ∧ l.seq ≤ x.seq) → (∃ x ∈ s.fab.db, x.id = l.id) →
      Becomes (.lsa n true true l) s s) ∧
    ((∀ x ∈ s.fab.db, x.id = l.id → x.inc ≠ l.inc ∨ x.seq < l.seq) →
      Becomes (.lsa n true true l) s
        (((s.withDb (s.fab.db.filter (fun x => x.id != l.id) ++ [l]) s.fab.windows).flood l (some n)).settleClaim))) ∧
  (∀ (n : Fin 4) (l : Lsa) (a b : Bool) (s : State), s.running = true → s.fabTakes n = false → s.fabState n = 4 →
    Becomes (.lsa n a b l) s { s with fab := { s.fab with strangerDrop := satInc s.fab.strangerDrop } }) ∧
  (∀ s : State, s.tt.lsaDue = false → s.sys.mono < s.fab.lsaAt + sec 30 → exec .lsaOriginate s = .next s) ∧
  (∀ s : State, s.running = true → s.fabNode = true → s.tt.lsaDue = true ∨ s.fab.lsaAt + sec 30 ≤ s.sys.mono →
    Completes .lsaOriginate s (fun t =>
    t.fab.lsaAt = s.sys.mono ∧ t.fab.lsaSeq = s.fab.lsaSeq + 1 ∧ t.fab.spfDue = true ∧ t.tt.lsaDue = false ∧
    (∃ l ∈ t.fab.db, l.id = Free.deviceKeyId ∧ l.seq = s.fab.lsaSeq + 1 ∧ l.inc = s.fab.inc ∧ l.qual = s.qualified) ∧
    (∀ l, l.id ≠ Free.deviceKeyId → (l ∈ t.fab.db ↔ l ∈ s.fab.db)) ∧ s.within [.fab, .tt, .sys, .host, .sw, .mem, .engs] t)) ∧
  (∀ (id : DWord) (s : State), s.running = true → id ≠ Free.deviceKeyId → (∃ l ∈ s.fab.db, l.id = id) →
    s.fab.claim ≠ 3 → Becomes (.lsaAgeOut id) s (s.withDb (s.fab.db.filter (fun l => l.id != id)) (s.fab.windows.filter (fun w => w.src != id)))) ∧
  (∀ s : State, s.running = true → s.fab.claim = 1 →
    (s.claimLoses = true → Becomes .claimHeld s s.settleClaim) ∧
    (s.claimLoses = false →
      Becomes .claimHeld s (State.originate { s with fab := { s.fab with claim := 2 } }).settleClaim)) ∧
  (∀ s : State, s.running = true → s.fab.claim ≠ 1 → Completes .claimHeld s (· = s)) ∧
  (∀ s : State, s.running = true → s.fabNode = true → s.fab.spfDue = true → Completes .pathComputation s (fun t =>
    t.fab.spfDue = false ∧ t.fab.routeInstall = satInc s.fab.routeInstall ∧ t.fab.db = s.fab.db ∧
    (∀ st, s.rec? 0x0604 st = none → t.fab.routes.find? st = none) ∧ s.within [.fab, .sys, .host] t)) ∧
  (∀ (src : DWord) (st : BitVec 10) (s : State), s.running = true → Becomes (.streamWindowFree src st) s
    { s with fab := { s.fab with windows := s.fab.windows.filter (fun w => !(w.src == src && w.stream == st.toNat)) } })

namespace Sys2Proof.Machine

/-- The header of a data frame is right: its check, version, and a kind of Table 8-1. -/
abbrev jabexOk (b : List Byte) : Prop :=
  let h := (b.drop 14).take 24
  (crc32c (h.take 22)).toNat % 65536 = rdLE h 0x16 2 ∧ byteAt h 0 / 16 = 1 ∧ byteAt h 0 % 16 < 6

end Sys2Proof.Machine

open Sys2Proof Sys2Proof.Machine in
/-- A data frame with a wrong header is counted; one in transit takes the port of its route entry with hop advanced, or
is counted misrouted; one that has arrived waits for the end of its reception, is judged then by the window of its
source and stream, delivered once, a copy of it counted as a duplicate, one older than the window or of another
incarnation as late (R237, R238, R248, R250). The end of reception counts a frame with an error in its counter, one with
an uncorrectable codeword as an FCS error (R154, R156). A waiting frame that its egress queue held 4 ms is discarded, a
PNT stream whose batch is due sends at most 64 staged updates, and the TIME frames answer a request, set the link delay,
or make a servo sample (R249 to R254). -/
def Obligations.FabricFramesAndTime : Prop :=
  (∀ (n : Fin 4) (b : List Byte) (c : BitVec 12) (raw : DWord) (s : State), s.fabTakes n = true → 38 ≤ b.length →
    (s.port (64 + n)).rx = none →
    let h := (b.drop 14).take 24
    let dst := rdLE h 2 2 % 4096
    let port := routeEntry (rdLE h 8 6) (byteAt h 6)
    let home := byteAt h 6 = byteAt h 7 ∧ dst = s.fab.addr ∧ dst ≠ 0
    let x : JabRx := { here := decide home, port := port, kind := byteAt h 0 % 16, src := rdLE h 4 2 % 4096, stream := rdLE h 14 2,
                       inc := BitVec.ofNat 8 (byteAt h 0x14), seq := BitVec.ofNat 32 (rdLE h 16 4), ctx := c.toNat }
    let f : Frame := { src := 64 + n, stamp := s.inStamp (64 + n) raw, gen := s.sw.gen, bytes := b, len := b.length + 4,
                       cls := byteAt h 1 / 2 % 8, colour := 0, jab := some x }
    let stray : State := { s with fab := { s.fab with misroute := satInc s.fab.misroute } }
    (¬ jabexOk b → Becomes (.dataFrame n b c raw) s { s with fab := { s.fab with hdrErr := satInc s.fab.hdrErr } }) ∧
    (jabexOk b → byteAt h 0 % 16 < 2 →
      (byteAt h 6 < byteAt h 7 → s.admitted port = false → Becomes (.dataFrame n b c raw) s stray) ∧
      (byteAt h 6 < byteAt h 7 → s.admitted port = true → Becomes (.dataFrame n b c raw) s (s.transit n f x)) ∧
      (byteAt h 7 < byteAt h 6 ∨ byteAt h 6 = byteAt h 7 ∧ ¬ home → Becomes (.dataFrame n b c raw) s stray) ∧
      (home → let r := s.newFrame f
        Becomes (.dataFrame n b c raw) s (r.2.setPort (64 + n) ((r.2.port (64 + n)).fill false r.1))))) ∧
  (∀ (port : Nat) (b : List Byte) (s : State), 38 ≤ b.length → byteAt b 20 < 255 →
    let o := s.jabForward port b
    o.length = b.length ∧ o.drop 38 = b.drop 38 ∧ byteAt o 20 = byteAt b 20 + 1 ∧
    (o.drop 21).take 15 = (b.drop 21).take 15 ∧ rdLE o 36 2 = (crc32c ((o.drop 14).take 22)).toNat % 65536) ∧
  (∀ (n : Fin 4) (b : List Byte) (pcs : Pcs) (raw : DWord) (s : State), s.takesPort (64 + n) = true →
    let o := rxOutcome b.length 9216 (fcsOk b) pcs.sym
    let body := b.take (b.length - 4)
    (s.fecOn (64 + n) = false → (s.port (64 + n)).rx = none → o ≠ 0 →
      Becomes (.frameReceiveEnd (Fin.natAdd 64 n) b pcs raw) s (s.stat (64 + n) o)) ∧
    (s.fecOn (64 + n) = true → (s.port (64 + n)).rx = none → 64 ≤ b.length → b.length ≤ 9216 → pcs.sym = false →
      pcs.unc ≠ 0 → let p := s.port (64 + n)
      Becomes (.frameReceiveEnd (Fin.natAdd 64 n) b pcs raw) s ((s.setPort (64 + n)
        { p with fecCorr := satAdd p.fecCorr pcs.corr, fecUnc := satAdd p.fecUnc pcs.unc }).stat (64 + n) 18)) ∧
    (∀ fid, s.fecOn (64 + n) = false → (s.port (64 + n)).rx = some fid → o = 0 → pauseOp (parse body) body = none →
      Becomes (.frameReceiveEnd (Fin.natAdd 64 n) b pcs raw) s
        ((s.countGood (64 + n) b.length (byteAt body 15 / 2 % 8) (parse body) body).fabGood n fid body
          (b.drop (b.length - 4))))) ∧
  (∀ (n fid : Nat) (f : Frame) (x : JabRx) (body fcs : List Byte) (s : State), s.frame fid = some f → f.jab = some x →
    let k := s.clearRx (64 + n) fid
    let whole : Frame := { f with len := body.length + 4 }
    (x.here = true → let g : Frame := { whole with bytes := body, fcs := fcs }
      s.fabGood n fid body fcs = ((k.setFrame fid g).jabDeliver n fid g x (body.drop 38)).finishRx (64 + n) fid) ∧
    (∀ d, x.here = false → f.dests = [d] →
      let g : Frame := { whole with bytes := k.jabForward x.port body, fcs := [] }
      let cells := ceilDiv (body.length + 4) 64
      s.fabGood n fid body fcs =
        ((((k.setFrame fid g).creditCt fid cells).judgeAt fid d cells false).finishRx (64 + n) fid))) ∧
  (∀ (n fid : Nat) (f : Frame) (x : JabRx) (payload : List Byte) (s : State),
    let key := match s.binding x.src with
      | some l => l.id
      | none => BitVec.ofNat 64 x.src
    let judged := s.windowJudge key x.stream x.inc x.seq
    let turned : State := judged.2.setFrame fid { f with refused := [0x03] }
    (judged.1 = false → s.jabDeliver n fid f x payload = turned) ∧
    (judged.1 = true → x.kind = 1 →
      s.jabDeliver n fid f x payload = (judged.2.setFrame fid { f with delivered := true }).fabPnt x.src payload) ∧
    (judged.1 = true → x.kind ≠ 1 → judged.2.ctxImport x.src x.ctx = false → s.jabDeliver n fid f x payload =
      { turned with fab := { turned.fab with grantViol := satInc turned.fab.grantViol } }) ∧
    (judged.1 = true → x.kind ≠ 1 → judged.2.ctxImport x.src x.ctx = true →
      let g : Frame := { f with ctx := some x.ctx }
      s.jabDeliver n fid f x payload = (judged.2.setFrame fid g).judgeCluster fid g
        { ctx := x.ctx, bytes := payload, port := 64 + n, cls := f.cls, jab := true, stamp := f.stamp })) ∧
  (∀ (s : State) (src : DWord) (st : Nat) (inc : Byte) (seq : Word) (w : StreamWin),
    s.fab.windows = [w] → w.src = src → w.stream = st →
    let d := (seq - w.h).toInt
    let late : State := { s with fab := { s.fab with late := satInc s.fab.late } }
    let win : StreamWin → Bool × State := fun x => (true, { s with fab := { s.fab with windows := [{ x with at_ := s.time.t }] } })
    (inc = w.inc → 0 < d → s.windowJudge src st inc seq = win { w with h := seq, bitmap := (w.bitmap <<< d.toNat) ||| 1 }) ∧
    (inc = w.inc → -64 < d → d ≤ 0 → w.bitmap.getLsbD d.natAbs = true →
      s.windowJudge src st inc seq = (false, { s with fab := { s.fab with dup := satInc s.fab.dup } })) ∧
    (inc = w.inc → -64 < d → d ≤ 0 → w.bitmap.getLsbD d.natAbs = false →
      s.windowJudge src st inc seq = win { w with bitmap := w.bitmap ||| BitVec.ofNat 64 (2 ^ d.natAbs) }) ∧
    (inc = w.inc → d ≤ -64 → s.windowJudge src st inc seq = (false, late)) ∧
    (inc ≠ w.inc → s.time.t.toNat ≤ w.at_.toNat + 4000000 → s.windowJudge src st inc seq = (false, late)) ∧
    (inc ≠ w.inc → w.at_.toNat + 4000000 < s.time.t.toNat →
      s.windowJudge src st inc seq = win { w with inc := inc, h := seq, bitmap := 1 })) ∧
  (∀ (n : Fin 4) (c : Fin 8) (x : Copy) (rest : List Copy) (s : State), s.running = true →
    s.queue (64 + n) c = x :: rest → s.begun (64 + n) x = false → x.since + ms 4 ≤ s.sys.mono →
    (s.frame x.fid).any (fun f => decide (jabexKind f.bytes < 2)) = true → Becomes (.fabricEgressDiscard n c) s
      (State.dropCopy { s with fab := { s.fab with late := satInc s.fab.late } } (64 + n) c x (some 0x10))) ∧
  (∀ (n : Fin 4) (c : Fin 8) (s : State), (∀ x ∈ s.queue (64 + n) c, s.sys.mono < x.since + ms 4) →
    exec (.fabricEgressDiscard n c) s = .next s) ∧
  (∀ (st : Fin 1024) (s : State), s.mayOriginate = false ∨ s.batchDue st = false → exec (.pntBatchSend st) s = .next s) ∧
  (∀ (st : Fin 1024) (s : State), s.running = true → s.mayOriginate = true → s.batchDue st = true →
    s.fld 0x0604 st 2 1 0 = 1 → Becomes (.pntBatchSend st) s
      (State.streamSend { s with pnt := { s.pnt with stage := s.pnt.stage.set st ((s.pnt.stage.get [] st).drop 64) } } st 1
        84 (s.fld 0x0604 st 3 1 0) (((s.pnt.stage.get [] st).take 64).flatMap pntUpdate) none)) ∧
  (∀ (n : Fin 4) (t1 t2 t3 t4 : DWord) (s : State) (k : Int), s.fabTakes n = true →
    (t2 - t1).toInt + (t4 - t3).toInt = 2 * k →
    let d (u : State) : State := { u with
      time := { u.time with linkDelay := u.time.linkDelay.set (64 + n) (BitVec.ofInt 32 k) } }
    Becomes (.delayExchange n t1 t2 t3 t4) s (d (s.ctlSend n 5 (ctlBody 5 [0]))) ∧
    Becomes (.time n true true (.response t1 t2 t3 t4)) s (d s)) ∧
  (∀ (n : Fin 4) (s : State), s.fabTakes n = true →
    let u := s.ctlSend n 5 (ctlBody 5 [2])
    Becomes (.syncSend n) s (u.ctlSend n 5 (ctlBody 5 [3, (s.outStamp (64 + n) s.time.t).toNat, s.refOffset.toNat]))) ∧
  (∀ (n : Fin 4) (s : State), s.fabTakes n = true →
    (∀ m, Becomes (.time n false true m) s { s with fab := { s.fab with authFail := satInc s.fab.authFail } }) ∧
    (Becomes (.time n true true .request) s (s.ctlSend n 5 (ctlBody 5 [1, s.time.t.toNat]))) ∧
    (∀ i, s.parentPort = some n.val →
      Becomes (.time n true true (.sync i)) s (s.setFport n { s.fport n with sync := some i })) ∧
    (∀ e o, (s.fport n).sync = none → Becomes (.time n true true (.followUp e o)) s s) ∧
    (∀ e o, (s.fport n).sync.isSome = true → s.parentPort ≠ some n.val → Becomes (.time n true true (.followUp e o)) s
      (s.setFport n { s.fport n with sync := none, refOfs := o }))) ∧
  (∀ (n : Fin 4) (s : State), s.running = true →
    Becomes (.followUpTimeout n) s (s.setFport n { s.fport n with sync := none }))

namespace Sys2Proof.Machine

/-! ### The time island (spec/04) -/

/-- Device time moved by `d` at once: the instants it passes over are skipped, the step is recorded and counted, the
integrator cleared, and the point engine told (R134, R219). -/
def State.movedBy (s : State) (d : DWord) : State :=
  let k := (s.recsOf 0x0503).foldl (fun u r => u.skipInstants (s.time.t + d).toNat r) s
  let x : TimeBlk := { k.time with
    t := s.time.t + d, intReset := true, stepLast := d, stepCount := satInc k.time.stepCount, stepped := true }
  let y : TtBlk := { k.tt with stepAt := some k.sys.mono, stepTo := some (s.time.t + d) }
  ((State.soeStep { k with time := x, tt := y } d.toInt).pntStep).qualUpdate

end Sys2Proof.Machine

open Sys2Proof Sys2Proof.Machine in
/-- Device time is stepped or set by request only where the servo state allows it, else 0x15; a posted step is applied
in FREERUN and ACQUIRE and discarded elsewhere; the UTC offset is set with no source or Jabex active; a leap second
moves it at its end and at no other time; the alarm bits of R142, R215 and R233 are set when their times have passed
and not before (R118, R132, R134). The
loss of REFCLK_A moves device time to REFCLK_B, and is fatal with reason 0x05 when that is bad or absent; the loss of
REFCLK_B is fatal while device time runs on it and otherwise puts the guardian on its ring oscillator; each is logged
with class 6; both restores undo it (R119 to R121, R223). -/
def Obligations.TimeStepsAndReferenceClocks : Prop :=
  (∀ (q : Req) (s u : State), s.asked q 0x401 2 u →
    (u.time.st = .freerun ∨ u.time.st = .acquire → Becomes (.timeStepRequest q) s ((u.movedBy (q.dword 1)).finish q 0x401)) ∧
    (u.time.st = .locked ∨ u.time.st = .holdover → Becomes (.timeStepRequest q) s (u.refuse q 0x401 0x15))) ∧
  (∀ (q : Req) (s u : State), s.asked q 0x402 2 u →
    (u.time.st = .freerun →
      Becomes (.timeSetRequest q) s ((u.movedBy (q.dword 1 - u.time.t)).finish q 0x402)) ∧
    (u.time.st ≠ .freerun → Becomes (.timeSetRequest q) s (u.refuse q 0x402 0x15))) ∧
  (∀ (q : Req) (s u : State), s.asked q 0x403 1 u →
    let w := q.word 1
    (u.time.src = 1 ∨ u.time.src = 2 → Becomes (.utcOffsetSet q) s (u.refuse q 0x403 0x15)) ∧
    (u.time.src = 0 ∨ u.time.src = 3 → w < 1024 → ¬ (tst w 8 = true ∧ tst w 9 = true) → Becomes (.utcOffsetSet q) s
      (State.finish { u with time := { u.time with utc := BitVec.ofNat 8 w, leap61 := tst w 8, leap59 := tst w 9 } } q
        0x403)) ∧
    (u.time.src = 0 ∨ u.time.src = 3 → tst w 8 = true → tst w 9 = true →
      Becomes (.utcOffsetSet q) s (u.refuse q 0x403 0x12))) ∧
  (∀ (s : State) (n : Int), s.running = true → s.time.posted = some (16384 * n) →
    (s.time.st = .freerun ∨ s.time.st = .acquire →
      Becomes .servoStepApply s
        ((State.take62 { s with time := { s.time with posted := none } } 34).movedBy (BitVec.ofInt 64 (-n)))) ∧
    (s.time.st = .locked ∨ s.time.st = .holdover →
      Becomes .servoStepApply s (State.take62 { s with time := { s.time with posted := none } } 34))) ∧
  (∀ s : State, s.running = true → s.time.leap61 = true → s.pastMidnight 1 = true →
    Becomes .leapSecond s { s with time := { s.time with utc := s.time.utc + 1, leap61 := false } }) ∧
  (∀ s : State, s.running = true → s.time.leap61 = false → s.time.leap59 = true → s.pastMidnight (-1) = true →
    Becomes .leapSecond s { s with time := { s.time with utc := s.time.utc - 1, leap59 := false } }) ∧
  (∀ s : State, s.running = true → (s.time.leap61 = true → s.pastMidnight 1 = false) →
    (s.time.leap59 = true → s.pastMidnight (-1) = false) → Idles .leapSecond s) ∧
  (∀ s : State, s.running = true →
    (s.longUp = true → Becomes .timeUnlockedAlarm s { s with time := { s.time with late := true } }) ∧
    (s.longUp = false → exec .timeUnlockedAlarm s = .next s) ∧
    (s.qualified = false → s.longUp = true → s.tt.qualAt + sec 120 < s.sys.mono →
      Becomes .ttUnqualifiedAlarm s { s with tt := { s.tt with unqLong := true } }) ∧
    (s.qualified = true ∨ s.sys.mono ≤ s.tt.qualAt + sec 120 → exec .ttUnqualifiedAlarm s = .next s)) ∧
  (∀ s : State, s.running = true →
    (s.time.st = .holdover → s.holdoverOk = false → Completes .holdoverMaxExpiry s (fun t =>
      t.tt.wasQual = (s.selfRef && s.stepClear) ∧ t.qualified = (s.selfRef && s.stepClear) ∧
      s.within [.tt, .sys, .host] t)) ∧
    (s.holdoverOk = true → exec .holdoverMaxExpiry s = .next s) ∧
    (s.stepClear = true → Completes .selfRefStepHoldEnd s (fun t =>
      t.tt.wasQual = t.qualified ∧ (s.selfRef = true → t.qualified = true) ∧ s.within [.tt, .sys, .host] t)) ∧
    (s.stepClear = false → exec .selfRefStepHoldEnd s = .next s)) ∧
  (∀ s : State, s.running = true →
    let a : State := { s with sys := { s.sys with refA := false } }
    let b : State := { s with sys := { s.sys with refB := false } }
    (s.sys.refA = true → s.sys.refbBad = false → s.sys.refB = true →
      let t := a.logFault 6 1 0xFF 0 0
      Becomes .refclkALoss s { t with time := { t.time with onRefb := true, refaLoss := satInc t.time.refaLoss } }) ∧
    (s.sys.refA = true → (s.sys.refbBad = true ∨ s.sys.refB = false) → Becomes .refclkALoss s (a.fatal 0x05 1 6)) ∧
    Becomes .refclkARestore s { s with sys := { s.sys with refA := true }, time := { s.time with onRefb := false } } ∧
    (s.sys.refB = true → s.time.onRefb = true → Becomes .refclkBLoss s (b.fatal 0x05 1 6)) ∧
    (s.sys.refB = true → s.time.onRefb = false → s.tt.ring = false →
      let t := (b.logFault 6 2 0xFF 0 0).ttLog 0xF0 6 0
      Becomes .refclkBLoss s { t with tt := { t.tt with ring := true } }) ∧
    Becomes .refclkBRestore s { s with sys := { s.sys with refB := true }, tt := { s.tt with ring := s.sys.refbBad } })

namespace Sys2Proof.Machine

/-- A sample of the active source that the servo takes (R129). -/
abbrev State.sampled (s : State) (src : Fin 4) (m : Sample) : Prop :=
  s.running = true ∧ s.time.src = src.val ∧ src.val ≠ 0 ∧ s.time.posted = none ∧ m.offValid = true ∧
  m.newRef = false ∧ m.pdValid = false

end Sys2Proof.Machine

open Sys2Proof Sys2Proof.Machine in
/-- The servo takes samples of the active source only, and none while a step waits; FREERUN goes to ACQUIRE with the
first, ACQUIRE to LOCKED with the eighth low one in a row, LOCKED to ACQUIRE with the outlier_n-th outlier in a row,
which otherwise only counts; an offset beyond step_thr in ACQUIRE is posted to Sage; the source lost for loss_s moves
to the secondary, or to FREERUN or HOLDOVER (R129 to R133). An IRIG-B frame that is not valid, has a pulse of no class
or is not the next second is counted; PPS_IN edges are judged against their limit; the two monitors fail after 2 s and
after loss_s without an edge or a frame, and not before (R140, R141). -/
def Obligations.ServoFollowsItsSource : Prop :=
  (∀ (src : Fin 4) (m : Sample) (u : Option UtcInfo) (s : State), s.running = true →
    (src.val = 0 ∨ src.val = s.time.src ∧ s.time.posted ≠ none ∨ src.val ≠ s.time.src ∧ m.offValid = false) →
    Becomes (.servoSample src m u) s { s with time := { s.time with srcDrop := satInc s.time.srcDrop } }) ∧
  (∀ (src : Fin 4) (m : Sample) (s : State), s.sampled src m → s.time.st = .locked →
    s.time.stepAt ≤ m.offset.toInt.natAbs → s.time.lockAt ≤ m.offset.toInt.natAbs →
    Completes (.servoSample src m none) s (fun t => t.time.outlier = satInc s.time.outlier ∧ t.time.freq = s.time.freq ∧
      t.time.offset = s.time.offset ∧ t.time.t = s.time.t ∧
      t.time.st = (if s.outlierN ≤ s.time.runOut + 1 then .acquire else .locked))) ∧
  (∀ (src : Fin 4) (m : Sample) (s : State), s.sampled src m → s.time.st = .acquire →
    s.time.stepAt ≤ m.offset.toInt.natAbs → s.time.lockAt ≤ m.offset.toInt.natAbs →
    Completes (.servoSample src m none) s (fun t => t.time.posted = some m.offset.toInt ∧ t.time.offset = m.offset ∧
      t.time.freq = s.time.freq ∧ t.time.t = s.time.t ∧ t.time.st = .acquire)) ∧
  (∀ (src : Fin 4) (m : Sample) (s : State), s.sampled src m → s.time.st = .acquire →
    m.offset.toInt.natAbs < s.time.lockAt → Completes (.servoSample src m none) s (fun t =>
      t.time.st = (if 8 ≤ s.time.runLow + 1 then .locked else .acquire) ∧ t.time.offset = m.offset ∧
      t.time.posted = none ∧ t.time.lastStamp = m.stamp ∧ t.time.t = s.time.t)) ∧
  (∀ (src : Fin 4) (m : Sample) (s : State), s.sampled src m → s.time.st = .freerun →
    m.offset.toInt.natAbs < s.time.lockAt → Completes (.servoSample src m none) s (fun t =>
      t.time.st = .acquire ∧ t.time.runLow = 1 ∧ t.time.offset = m.offset ∧ t.time.t = s.time.t)) ∧
  (∀ s : State, s.sys.mono < s.time.validAt + s.lossTime → exec .sourceLossTimeout s = .next s) ∧
  (∀ s : State, s.running = true → s.time.src ≠ 0 → s.time.validAt + s.lossTime ≤ s.sys.mono →
    (s.time.src = s.primary → s.secondary ≠ 0 → s.time.secAt.isSome = true → Completes .sourceLossTimeout s
      (fun t => t.time.src = s.secondary ∧ t.time.st = .acquire ∧ t.time.t = s.time.t)) ∧
    (s.time.src ≠ s.primary ∨ s.secondary = 0 ∨ s.time.secAt = none →
      (s.time.st = .acquire → Completes .sourceLossTimeout s (fun t => t.time.st = .freerun ∧ t.time.src = s.time.src)) ∧
      (s.time.st = .locked → ∀ (n : Nat) (f : Int), s.time.freqs = List.replicate (n + 1) f →
        Completes .sourceLossTimeout s (fun t => t.time.st = .holdover ∧ t.time.freq = BitVec.ofInt 64 f ∧
          t.time.holdAt = s.sys.mono)) ∧
      (s.time.st = .freerun → Idles .sourceLossTimeout s))) ∧
  (∀ (f : IrigFrame) (s : State), s.running = true → s.irigIn = true →
    let rest := s.time.irigPulses.drop (s.time.irigPulses.length - 1)
    let clean := ∀ x ∈ s.time.irigPulses, x.1 ≠ 3
    (f.valid = false ∨ ¬ clean → Becomes (.irigBFrame f) s
      { s with time := { s.time with irigPulses := rest, irigErr := satInc s.time.irigErr } }) ∧
    (∀ l : Nat, f.valid = true → clean → s.time.irigLast = some l → f.second ≠ l + 1 → Becomes (.irigBFrame f) s
      { s with time := { s.time with
          irigPulses := rest, irigLast := some f.second, irigErr := satInc s.time.irigErr } }) ∧
    (f.valid = true → clean → (∀ l, s.time.irigLast = some l → f.second = l + 1) → s.time.src = 2 →
      s.time.posted = none → Completes (.irigBFrame f) s (fun t => t.time.irigBad = false ∧ t.time.irigPulses = rest ∧
        t.time.irigLast = some f.second ∧ t.time.irigErr = s.time.irigErr ∧ t.time.irigAt = s.sys.mono ∧
        t.time.irigZone = f.zone ∧ t.time.irigDst = f.dst ∧ t.time.irigQual = f.quality.toNat))) ∧
  (∀ s : State, s.running = true → s.irigIn = true →
    (max s.time.irigAt s.sys.readyAt + s.lossTime ≤ s.sys.mono →
      Becomes .irigBLossTimeout s { s with time := { s.time with irigBad := true } }) ∧
    (s.sys.mono < max s.time.irigAt s.sys.readyAt + s.lossTime → exec .irigBLossTimeout s = .next s)) ∧
  (∀ (x : DWord) (s : State) (ns : Int), s.running = true → s.ppsMode = 1 →
    ((x.toNat % 4000000000 : Nat) : Int) = 4 * ns ∨ ((x.toNat % 4000000000 : Nat) : Int) - 4000000000 = 4 * ns →
    -500000000 < ns → ns ≤ 500000000 →
    let bad := s.ppsLimit ≠ 0 ∧ s.ppsLimit < ns.natAbs
    Completes (.ppsInEdge x) s (fun t => t.time.ppsOfs = BitVec.ofInt 32 ns ∧ t.time.ppsStamp = x ∧ t.time.ppsAt = s.sys.mono ∧
      (bad → t.time.ppsBad = true ∧ t.time.ppsGood = 0) ∧
      (¬ bad → t.time.ppsBad = (s.time.ppsBad && decide (s.time.ppsGood < 3))) ∧ s.within [.time, .sys, .host] t)) ∧
  (∀ (x : DWord) (s : State), s.running = true → s.ppsMode = 2 →
    Becomes (.ppsInEdge x) s
      { s with time := { s.time with ppsStamp := x, ppsAt := s.sys.mono } }) ∧
  (∀ s : State, s.running = true → s.ppsMode = 1 →
    (max s.time.ppsAt s.sys.readyAt + sec 2 ≤ s.sys.mono →
      Becomes .ppsInTimeout s { s with time := { s.time with ppsBad := true, ppsGood := 0 } }) ∧
    (s.sys.mono < max s.time.ppsAt s.sys.readyAt + sec 2 → exec .ppsInTimeout s = .next s))

namespace Sys2Proof.Machine

/-! ### Schedules and the guardian (spec/07) -/

/-- A guarded port after its guardian's cut: the driver off, listen-only since now, counted in the statistics. -/
def State.cutPort (s : State) (n : Nat) : State :=
  let t := ((s.cutTx n).stat n 79).listenPort n
  t.setTport n { t.tport n with cuts := satInc (t.tport n).cuts }

/-- The inactive bank of a unit holds `b`. -/
def State.loadBank (s : State) (u : Nat) (b : List Byte) : State :=
  { s with tt := { s.tt with bank := s.tt.bank.set (2 * u + (1 - s.ttActive u)) b } }

end Sys2Proof.Machine

open Sys2Proof Sys2Proof.Machine in
/-- A schedule is loaded into the inactive bank of a unit, unless a swap of that unit is due; an accepted swap stands
until its boundary within 10 s, or until the reference that starts a named channel's matrix cycle, then every named
unit changes banks, with a log entry each and, on a port, both banks judged for sync_tol; the guardian cuts a
transmission at its close and not before, closes what its comparison finds beyond sync_tol, and opens
again as R216 and R222 to R224 say (R211, R220 to R230). -/
def Obligations.SchedulesAndTheGuardian : Prop :=
  Grants .scheduleLoad 0x501 3 (fun q u => bulkOk q.src.val (q.word 2) (q.word 3) = true ∧ q.word 1 < 64 ∧
      u.gateOk (u.bulkRead q.src.val (q.word 2) (q.word 3)) = true ∧ q.word 1 ∉ u.swapUnits)
    (fun q u => (u.loadBank (q.word 1) (u.bulkRead q.src.val (q.word 2) (q.word 3))).finish q 0x501) ∧
  Grants .scheduleLoad 0x501 3 (fun q u => bulkOk q.src.val (q.word 2) (q.word 3) = true ∧ 0x80 ≤ q.word 1 ∧
      q.word 1 < 0x90 ∧ canBodyOk (u.bulkRead q.src.val (q.word 2) (q.word 3)) = true ∧ q.word 1 ∉ u.swapUnits)
    (fun q u => (u.loadBank (q.word 1) (u.bulkRead q.src.val (q.word 2) (q.word 3))).finish q 0x501) ∧
  Denies .scheduleLoad 0x501 3 0x14 (fun q u => bulkOk q.src.val (q.word 2) (q.word 3) = true ∧ q.word 1 < 64 ∧
    u.gateOk (u.bulkRead q.src.val (q.word 2) (q.word 3)) = true ∧ q.word 1 ∈ u.swapUnits) ∧
  (∀ (q : Req) (s u : State) (p : Fin 64) (c : Nat), s.asked q 0x502 3 u → (q.dword 1).toNat = 2 ^ p.val →
    q.word 3 = 0 → u.tt.swap = none → u.ttBank p 0 ≠ [] → u.ttBank p 1 ≠ [] →
    gateCycle (u.ttBank p 0) = c → gateCycle (u.ttBank p 1) = c → 0 < c → c < 2 ^ 32 →
    gatePhase (u.ttBank p 0) = 0 → gatePhase (u.ttBank p 1) = 0 → u.time.t.toNat < 2 ^ 63 →
    Completes (.scheduleSwapRequest q) s (fun t => ∃ w, t.tt.swap = some w ∧ w.src = q.src.val ∧ w.tag = q.tag ∧
      w.units = [p.val] ∧ w.at_.toNat % c = 0 ∧ u.time.t.toNat + us 10 ≤ w.at_.toNat ∧
      w.at_.toNat < u.time.t.toNat + us 10 + c ∧ t.tt.active = u.tt.active)) ∧
  (∀ (s : State) (w : TtSwap) (k : Option (Fin 16)), s.tt.swap = some w → s.time.t < w.at_ →
    exec (.scheduleSwap k) s = .next s) ∧
  (∀ (s : State) (w : TtSwap) (k : Fin 16), s.running = true → s.tt.swap = some w → w.at_ ≤ s.time.t →
    w.units = [0x80 + k.val] →
    ((s.tchan k).count = 0 → (s.tchan k).prio.isSome = true → w.at_ ≤ (s.tchan k).refAt →
      Becomes (.scheduleSwap (some k)) s (State.final { s.swapUnit (0x80 + k.val) with
        tt := { (s.swapUnit (0x80 + k.val)).tt with swap := none } } w.src 0x502 w.tag 0x00 [])) ∧
    ((s.tchan k).count ≠ 0 ∨ (s.tchan k).prio = none ∨ (s.tchan k).refAt < w.at_ →
      Idles (.scheduleSwap (some k)) s)) ∧
  (∀ (s : State) (w : TtSwap) (p : Fin 64), s.running = true → s.tt.swap = some w → w.at_ ≤ s.time.t →
    w.units = [p.val] → Becomes (.scheduleSwap none) s
      (State.final { s.swapUnit p with tt := { (s.swapUnit p).tt with swap := none } } w.src 0x502 w.tag 0x00 [])) ∧
  (∀ (s : State) (u : Nat), u < 64 →
    (s.swapUnit u).ttActive u = 1 - s.ttActive u ∧ (s.swapUnit u).tt.bank = s.tt.bank ∧
    (s.swapUnit u).tt.bothTill.find? u = some (s.time.t + BitVec.ofNat 64 s.syncTol) ∧
    (s.swapUnit u).tt.logWr = s.tt.logWr + 1 ∧ (∀ v, v ≠ u → (s.swapUnit u).ttActive v = s.ttActive v)) ∧
  (∀ (p : Fin 64) (s : State), s.running = true → s.guarded p = true →
    Becomes (.gateEntryBoundary p) s (s.setTport p { s.tport p with
      index := (gateAt (gateEntries (s.sched p)) (gatePos (s.sched p) (s.time.t.toNat : Nat)) 0).1 })) ∧
  (∀ (p : Fin 64) (s : State), s.running = true → s.guarded p = true → (s.tport p).ecc = false →
    (s.mayReturn p = true → s.mayResume p = false → Becomes (.ttResume p) s
      ((s.setTport p { s.tport p with listen := false }).ttLog p 4 (s.tport p).index)) ∧
    (s.mayReturn p = false → s.mayResume p = true → Becomes (.ttResume p) s
      ((s.setTport p { s.tport p with stopped := false, good := 0 }).ttLog p 4 (s.tport p).index)) ∧
    (s.mayReturn p = false → s.mayResume p = false → Idles (.ttResume p) s)) ∧
  (∀ (p : Fin 64) (s : State), s.running = true → s.guarded p = true → (s.tport p).ecc = true →
    s.mayReturn p = false → s.mayResume p = false →
    ((((s.tport p).reloadAt.toNat : Int) ≤ s.lastBoundary p) →
      Becomes (.ttResume p) s (s.setTport p { s.tport p with ecc := false })) ∧
    (s.lastBoundary p < ((s.tport p).reloadAt.toNat : Int) → Idles (.ttResume p) s)) ∧
  (∀ (p : Fin 64) (s : State) (x : TxNow), s.running = true → s.guarded p = true → (s.port p).tx = some x →
    x.cut = false →
    (s.cutDue p x = true → Becomes (.guardCut p) s ((s.cutPort p).ttLog p 1 (s.tport p).index)) ∧
    (s.cutDue p x = false → exec (.guardCut p) s = .next s)) ∧
  (∀ s : State, s.running = true →
    (s.mayRearm = true →
      Becomes .guardianRearm s (State.take62 { s with tt := { s.tt with disagree := false, gOff := 0 } } 35)) ∧
    (s.mayRearm = false → exec .guardianRearm s = .next s)) ∧
  (∀ (n : Int) (s : State), s.running = true →
    ((4 * n).natAbs ≤ s.syncTol → Becomes (.guardianCompare (4 * n)) s
      { s with tt := { s.tt with gOff := 0, gsync := BitVec.ofInt 32 n, cmpOk := true } }) ∧
    (s.syncTol < (4 * n).natAbs → (s.tt.disagree = true ∨ s.tt.guardFail = true) →
      Becomes (.guardianCompare (4 * n)) s
        { s with tt := { s.tt with gOff := 4 * n, gsync := BitVec.ofInt 32 n, cmpOk := false } }) ∧
    (s.syncTol < (4 * n).natAbs → s.tt.disagree = false → s.tt.guardFail = false → s.tt.disAt = [] →
      Completes (.guardianCompare (4 * n)) s (fun t => t.tt.disagree = true ∧ t.tt.guardFail = false ∧
        t.tt.disAt = [s.sys.mono] ∧ t.tt.cmpOk = false ∧
        (∀ p : Fin 64, s.guarded p = true → (t.tport p).listen = true)))) ∧
  (∀ (p : Fin 64) (s : State), s.running = true → s.guarded p = true →
    let x : TtPort := { s.tport p with ecc := true, cutAt := s.time.t, reloadAt := s.time.t }
    Becomes (.guardEcc (p.castLE (by decide))) s (((s.cutTx p).setTport p x).ttLog p 7 x.index))

namespace Sys2Proof.Machine

/-! ### The CAN FD channels (spec/14) -/

/-- After every command of a channel the objects of a bus-off channel that its partner takes are handed over, and the
ends of local requests noted (R422, R426). -/
abbrev Relays (c : Instr) (s t : State) : Prop := Becomes c s t.canSettle

end Sys2Proof.Machine

open Sys2Proof Sys2Proof.Machine in
/-- A frame of a channel that is neither time-triggered nor in network management, to no object, is counted; one to an
object stands in its current buffer, or its shadow while it is selected; the best candidate of an idle bus starts, its
completion marks the object done with its stamp; errors count by kind and move the counters, bus-off ends by its
recovery; cancel, request, selection and data writes act on the objects as R413, R416 and R418 say; a periodic object
is triggered at its multiples and a missing frame reported once its time has passed, and not before (R415, R416). An FD
frame that the channel may not take is a protocol exception or a form error (Table 14-1). -/
def Obligations.CanFramesAndObjects : Prop :=
  (∀ (c : Fin 16) (m : CanMsg) (x : DWord) (s : State), s.canOn c = true → (s.chan c).busOff = false →
    let st := s.canStamp c x
    ((s.chan c).ps ≠ .sleep → (s.chan c).ps ≠ .quiet → Relays (.canFrameReceive c m x) s (s.canTake c m st)) ∧
    ((s.chan c).ps = .sleep → (s.chan c).gts = false → Relays (.canFrameReceive c m x) s s) ∧
    ((s.chan c).ps = .sleep → (s.chan c).gts = true → Relays (.canFrameReceive c m x) s (s.wakeEvent c 0 true st))) ∧
  (∀ (c : Fin 16) (m : CanMsg) (st : DWord) (s : State), m.fdf = false → (s.chan c).tx = none → (s.chan c).rec_ = 0 →
    (s.chan c).ps = .awake → s.canNm c = false → s.ttCan c = false → m.rtr = false →
    let n := s.canCount c 0
    (s.matchObj c m = none → s.canTake c m st = n.canCount c 2) ∧
    (∀ k, s.matchObj c m = some k → s.objPoint c k = none → s.objFlag c k 2 = false →
      let o := s.cobj c k
      let sel := (s.chan c).selValid = true ∧ (s.chan c).sel.toNat = k
      (¬ sel → o.cur = none →
        s.canTake c m st = n.setCobj c k { o with cur := some (m, st), timedOut := false, lastAt := s.sys.mono }) ∧
      (sel → o.shadow = none →
        s.canTake c m st = n.setCobj c k { o with shadow := some (m, st), timedOut := false, lastAt := s.sys.mono }) ∧
      (¬ sel → o.cur ≠ none → s.canTake c m st = ((n.setCobj c k
        { o with cur := some (m, st), timedOut := false, lastAt := s.sys.mono }).canCount c 3).canEvent c 8))) ∧
  (∀ (c : Fin 16) (m : CanMsg) (st : DWord) (s : State), m.fdf = true →
    (tst (s.chanFld c 1 1) 0 = false ∨ m.res = true) →
    (tst (s.chanFld c 1 1) 4 = true → s.canTake c m st = (s.canCount c 18).canEvent c 14) ∧
    (tst (s.chanFld c 1 1) 4 = false → s.canTake c m st = s.canError c
      { kind := .form, dataPhase := false, sending := false, special := false, field := false })) ∧
  (∀ (c : Fin 16) (x : DWord) (a : CanCand) (s : State), s.canOn c = true → s.ttCan c = false →
    CanCand.best (s.canOffer c) = some a → Relays (.arbitration c x) s (s.canStart c a (s.canStamp c x))) ∧
  (∀ (l : List CanCand) (a : CanCand), CanCand.best l = some a → a ∈ l ∧ ∀ b ∈ l, b.before a = false) ∧
  (∀ (c : Fin 16) (d : BitVec 8) (k : Nat) (t : CanTx) (s : State), s.canOn c = true → (s.chan c).tx = some t →
    t.what = .obj k → t.msg.fdf = false → (s.chan c).recObj = none →
    Completes (.canTransmitComplete c d) s (fun u => (u.chan c).tx = none ∧ (u.chan c).out = some (t.msg, t.stamp) ∧
      (u.chan c).tec = (s.chan c).tec - 1 ∧ (u.cobj c k).pending = false ∧ (u.cobj c k).status = 2 ∧
      (u.cobj c k).stamp = t.stamp ∧ (u.cobj c k).sent = t.val ∧ (u.chan c).cnt.get 0 1 = satInc ((s.chan c).cnt.get 0 1) ∧
      s.within [.can, .sys, .host] u)) ∧
  (∀ (c : Fin 16) (e : CanErr) (s : State), s.canOn c = true → (s.chan c).ps = .awake → (s.chan c).busOff = false →
    s.canMode c = 1 → (s.chan c).tx = none → e.sending = false → e.kind ≠ .arbitration → e.special = false →
    (s.chan c).rec_ < 95 → (s.chan c).tec < 96 → Completes (.canError c e) s (fun u => (u.chan c).rec_ = (s.chan c).rec_ + 1 ∧
      (u.chan c).tec = (s.chan c).tec ∧ (u.chan c).lec = e.kind.lec ∧ (u.chan c).dataPhase = e.dataPhase ∧
      (u.chan c).busOff = false ∧ (u.chan c).cnt.get 0 e.kind.cnt = satInc ((s.chan c).cnt.get 0 e.kind.cnt) ∧
      s.within [.can, .sys, .host] u)) ∧
  (∀ (c : Fin 16) (e : CanErr) (s : State) (t : CanTx) (k : Nat), s.canOn c = true → (s.chan c).ps = .awake →
    (s.chan c).busOff = false → s.canMode c = 1 → (s.chan c).tx = some t → t.what = .obj k → (s.cobj c k).cancel = false →
    e.sending = true → e.kind = .ack → e.special = false → 248 ≤ (s.chan c).tec → (s.chan c).tec ≤ 255 →
    Completes (.canError c e) s (fun u => (u.chan c).busOff = true ∧ (u.chan c).tec = 256 ∧ (u.chan c).tx = none ∧
      (u.chan c).recovering = tst (s.chanFld c 1 1) 3 ∧ (u.chan c).event.getLsbD 4 = true)) ∧
  (∀ (c : Fin 16) (s : State), s.canOn c = true → (s.chan c).busOff = true → (s.chan c).recovering = true →
    let y : CanChan := { s.chan c with
      busOff := false, recovering := false, tec := 0, rec_ := 0, recFirst := true, recObj := none }
    Relays (.busOffRecoveryComplete c) s ((s.setChan c y).canEvent c 5)) ∧
  (∀ (c : Fin 16) (s : State), s.sys.up = true →
    let x := s.chan c
    (x.busOff = true → Relays (.canRecover c) s (s.setChan c { x with recovering := true })) ∧
    (x.busOff = false → Relays (.canRecover c) s s) ∧
    Relays (.canCounterClear c) s (s.setChan c { x with cnt := [] }) ∧
    (∀ k : Fin 64, let o := s.cobj c k
      (o.pending = false → Relays (.canCancel c k) s s) ∧
      (o.pending = true → x.tx = none → Relays (.canCancel c k) s
        ((s.setCobj c k { o with pending := false, cancel := false, clash := 0, status := 4 }).canCount c 11)) ∧
      (∀ t, o.pending = true → x.tx = some t → t.what = .obj k → Relays (.canCancel c k) s
        ((s.setCobj c k { o with cancel := true }).canEvent c 7)) ∧
      (s.canMode c ≠ 0 → s.objTrigger c k = 0 → Relays (.canTxReq c k) s (s.trigger c k)) ∧
      (s.objTrigger c k ≠ 0 → Relays (.canTxReq c k) s s) ∧
      (∀ v, x.selValid = false →
        Relays (.canObjSel c v k) s (s.setChan c { x with selValid := v, sel := BitVec.ofNat 6 k }))) ∧
    (∀ (i : Fin 16) (w : Word), x.selValid = true → s.objDir c x.sel.toNat = 2 →
      let o := s.cobj c x.sel.toNat
      (o.pending = true → Relays (.canObjDataWrite c i w) s (s.canEvent c 15)) ∧
      (o.pending = false → Relays (.canObjDataWrite c i w) s (s.setCobj c x.sel.toNat { o with
        data := splice (padTo 64 o.data) (4 * i) (leBytes 4 w.toNat) })))) ∧
  (∀ (c : Fin 16) (k : Fin 64) (s : State), s.canOn c = true →
    (s.objTrigger c k = 1 → s.periodDue c k = true → Relays (.canPeriodTrigger c k) s
      ((s.setCobj c k { s.cobj c k with perAt := some s.sys.mono }).trigger c k)) ∧
    (s.objTrigger c k ≠ 1 ∨ s.periodDue c k = false → exec (.canPeriodTrigger c k) s = .next s) ∧
    let due := max (s.cobj c k).lastAt (s.awakeSince c) + ms (s.objFld c k 0x18 4)
    (∀ v, (s.chan c).ps = .awake → s.objDir c k = 1 → (s.objPoint c k).isSome = true → s.objFld c k 0x18 4 ≠ 0 →
      (s.cobj c k).timedOut = false → (s.cobj c k).lastVal = some v → due ≤ s.sys.mono → Relays (.canRxTimeout c k) s
        ((((s.setCobj c k { s.cobj c k with timedOut := true }).canPut c k v 0x81 s.time.t).canCount c 19).canEvent
          c 16)) ∧
    (s.sys.mono < due → exec (.canRxTimeout c k) s = .next s))

open Sys2Proof Sys2Proof.Machine in
/-- A wake request and the words of network management move a channel between its power states: AWAKE to PREPARE by a
sleep command, at the commit instant to SLEEP or QUIET, by a wake event to WAKING, after the settling time to AWAKE; a
coordinator that has waited too long names the keepers and forces the sleep, each at its time and not before (R424 to
R428). Time-triggered channels: a potential master sends the reference of the next basic cycle when that is due, or of
cycle 0 after two cycles of silence; a follower that misses it by 8 NTU
stops; the guardian cuts a message at its window's end and closes a channel whose time mark is off by more than half of
guard_bits; a mark within it opens the window of its trigger (R226 to R228). -/
def Obligations.CanSleepAndReferences : Prop :=
  (∀ (c : Fin 16) (s : State), s.sys.up = true →
    Relays (.wakeReq c) s ((s.setChan c { s.chan c with hostKeep := true }).wakeEvent c 2 true s.time.t) ∧
    Relays (.sleepOk c) s (s.setChan c { s.chan c with hostKeep := false })) ∧
  (∀ (c b : Nat) (hard : Bool) (st : DWord) (s : State),
    let x := s.chan c
    let l : CanChan := { x with wake := x.wake ||| BitVec.ofNat 3 (2 ^ b), wakeDue := true }
    (x.ps = .awake ∨ x.ps = .waking → s.wakeEvent c b hard st = s) ∧
    (x.ps = .prepare → x.forced = true → s.wakeEvent c b false st = s) ∧
    (x.ps = .prepare → x.forced = false ∨ hard = true → st < x.commitAt →
      ((s.wakeEvent c b hard st).chan c).ps = .awake) ∧
    (x.ps = .prepare → x.forced = false ∨ hard = true → x.commitAt ≤ st → s.wakeEvent c b hard st = s.setChan c l) ∧
    (x.ps = .sleep → x.gts = true → s.wakeEvent c b hard st = s.setChan c l) ∧
    (x.ps = .sleep ∧ x.gts = false ∨ x.ps = .quiet → ((s.wakeEvent c b hard st).chan c).ps = .waking)) ∧
  (∀ (c : Fin 16) (x : DWord) (s : State), s.canOn c = true → s.canNm c = true →
    let w := s.nmFld c 0x14 4
    let k := s.setChan c { s.chan c with nmAt := some s.sys.mono, keepNow := tst w 31 && s.pointOn (bits w 22 0) }
    (∀ t, (s.chan c).nmAt = some t → s.sys.mono < t + ms (s.nmFld c 4 2) → exec (.nmFrameSend c x) s = .next s) ∧
    ((∀ t, (s.chan c).nmAt = some t → t + ms (s.nmFld c 4 2) ≤ s.sys.mono) →
      s.localReq c = true ∨ k.localReq c = false →
      (s.canSends c = true → (s.chan c).ps = .awake → Relays (.nmFrameSend c x) s
        (k.nmSend c (bit (k.localReq c)) (k.canStamp c x))) ∧
      ((s.chan c).ps ≠ .awake → (s.chan c).ps ≠ .prepare → Relays (.nmFrameSend c x) s k)) ∧
    (s.canSends c = true → s.nmFld c 0 1 = 1 → (s.chan c).ps = .awake → s.sleepDue c = true →
      Completes (.sleepCommand c x) s (fun t => (t.chan c).ps = .prepare ∧ (t.chan c).forced = false ∧
        (t.chan c).commitAt = s.canStamp c x + BitVec.ofNat 64 (ms (s.nmFld c 8 4)) ∧
        (t.chan c).tec = (s.chan c).tec - 1 ∧ s.within [.can, .sys, .host] t)) ∧
    (s.sleepDue c = false → exec (.sleepCommand c x) s = .next s) ∧
    (s.sys.mono < s.awakeSince c + sec (s.nmFld c 0xC 4) → exec (.maxAwakeExpiry c x) s = .next s) ∧
    (s.canSends c = true → s.nmFld c 0 1 = 1 → (s.chan c).ps = .awake → s.nmFld c 0xC 4 ≠ 0 → s.keepers c ≠ [] →
      s.awakeSince c + sec (s.nmFld c 0xC 4) ≤ s.sys.mono → Completes (.maxAwakeExpiry c x) s (fun t => (t.chan c).ps = .prepare ∧ (t.chan c).forced = true ∧
        (t.chan c).nmFirst = (s.keepers c).head? ∧ (t.chan c).event.getLsbD 12 = true ∧
        (t.chan c).keeper = BitVec.ofNat 64 (fields ((s.keepers c).map (fun n => (1, n)))) ∧
        s.within [.can, .sys, .host] t))) ∧
  (∀ (c : Fin 16) (s : State), s.canOn c = true →
    let x := s.chan c
    (x.ps = .prepare → x.commitAt ≤ s.time.t → s.nmFld c 7 1 = 1 → x.wakeDue = false →
      Relays (.sleepCommit c) s ((s.setChan c { x with ps := .quiet, forced := false }).canEvent c 9)) ∧
    (x.ps = .prepare → x.commitAt ≤ s.time.t → s.nmFld c 7 1 ≠ 1 →
      Relays (.sleepCommit c) s ((s.setChan c { x with ps := .sleep, gts := true, forced := false, tx := none }).canEvent
        c 9)) ∧
    let ends := x.commitAt.toNat + s.chanFld c 0x14 2 * 4000
    (x.ps = .sleep → x.gts = true → ends ≤ s.time.t.toNat →
      (x.wakeDue = false → Relays (.sleepPatternEnd c) s (s.setChan c { x with gts := false })) ∧
      (x.wakeDue = true → Relays (.sleepPatternEnd c) s (s.enterWaking c))) ∧
    (s.time.t.toNat < ends → exec (.sleepPatternEnd c) s = .next s) ∧
    (s.time.t < x.commitAt → exec (.sleepCommit c) s = .next s) ∧
    (∀ nm st, Relays (.wakeEvent c false nm st) s (s.wakeEvent c 1 true st)) ∧
    (∀ nm st, x.ps ≠ .quiet → ¬ (x.ps = .sleep ∧ x.gts = false) →
      Relays (.wakeEvent c true nm st) s (s.wakeEvent c 0 (!nm) st)) ∧
    (∀ st, s.sys.mono < x.wakingAt + ms (s.nmFld c 0x10 2) → exec (.wakeSettleEnd c st) s = .next s) ∧
    (∀ st, x.ps = .waking → x.wakingAt + ms (s.nmFld c 0x10 2) ≤ s.sys.mono → Completes (.wakeSettleEnd c st) s (fun t => (t.chan c).ps = .awake ∧
      (t.chan c).awakeAt = s.sys.mono ∧ (t.chan c).forced = false ∧ s.within [.can, .sys, .host] t))) ∧
  (∀ (c : Fin 16) (x : DWord) (s : State), s.mayLead c = true →
    ((s.tchan c).prio.isSome = true → s.cycleDue c (s.canStamp c x) = true → Relays (.referenceMessageSend c x) s
      (s.sendReference c (((s.tchan c).count + 1) % max 1 (canMatrix (s.sched (0x80 + c.val)))) (s.canStamp c x))) ∧
    (s.cycleDue c (s.canStamp c x) = false → exec (.referenceMessageSend c x) s = .next s) ∧
    ((s.tchan c).prio = none → s.sys.readyAt + 2 * s.cycleLen c ≤ s.sys.mono → Relays (.coldStart c x) s
      ((s.sendReference c 0 (s.canStamp c x)).ttLog (0x80 + c) 0xB (s.tchan c).index)) ∧
    (s.sys.mono < s.sys.readyAt + 2 * s.cycleLen c → exec (.coldStart c x) s = .next s)) ∧
  (∀ (c : Fin 16) (s : State), s.canOn c = true → s.ttCan c = true →
    let x := s.tchan c
    let late := x.refAt.toNat + s.cycleLen c + 8 * s.canNtu c
    (s.time.t.toNat ≤ late → exec (.refLost c) s = .next s) ∧
    (x.prio.isSome = true → x.master = false → x.stopped = false → late < s.time.t.toNat → Relays (.refLost c) s
      ((s.setTchan c { x with stopped := true, lost := satInc x.lost }).ttLog (0x80 + c) 9 x.index)) ∧
    (s.canWindow c s.time.t ≠ none → exec (.canGuardCut c) s = .next s) ∧
    ((s.chan c).tx.isSome = true → s.canWindow c s.time.t = none →
      let t := s.cutChan c
      Relays (.canGuardCut c) s ((t.setTchan c { t.tchan c with cuts := satInc (t.tchan c).cuts }).ttLog (0x80 + c) 1
        (t.tchan c).index)) ∧
    (∀ (k : Fin 64) (n : Int), k.val < canCount (s.sched (0x80 + c)) →
      let t := s.setTchan c { x with index := k, gRef := (x.refAt.toNat : Int) + s.tt.gOff - 4 * n }
      (canGuardBits (s.sched (0x80 + c)) * s.canNtu c < 2 * (4 * n).natAbs → Relays (.timeMark c k (4 * n)) s
        ((t.cutChan c).ttLog (0x80 + c) 5 k (BitVec.ofInt 32 n))) ∧
      (2 * (4 * n).natAbs ≤ canGuardBits (s.sched (0x80 + c)) * s.canNtu c → Relays (.timeMark c k (4 * n)) s
        (t.fireTrigger c k))))

namespace Sys2Proof.Machine

/-! ### The point engine (spec/09) -/

/-- A class 0x8 request while the point engine is enabled. -/
def PntGrants (mk : Req → Instr) (code words : Nat) (ok : Req → State → Prop) (act : Req → State → State) : Prop :=
  Denies mk code words 0x15 (fun _ u => u.pnt.enabled = false) ∧
  Grants mk code words (fun q u => u.pnt.enabled = true ∧ ok q u) act

/-- The counts of an update that is judged: the total, and those of the present and the last millisecond. -/
def State.counted (s : State) : State :=
  let m := s.time.t.toNat / 4000000
  { s with pnt := { s.pnt with
      updates := satInc s.pnt.updates, rateMs := m,
      rateCur := if m = s.pnt.rateMs then s.pnt.rateCur + 1 else 1,
      rateLast := if m = s.pnt.rateMs then s.pnt.rateLast else if m = s.pnt.rateMs + 1 then s.pnt.rateCur else 0 } }

end Sys2Proof.Machine

open Sys2Proof Sys2Proof.Machine in
/-- The requests of class 0x8 answer 0x15 while the engine is disabled. A grant is set or removed and waits for the epoch
starts of the running clusters; a substitution enters Sage's FIFO, and at its turn writes value and quality with
substituted set and source 4, blocks the point, appends an SOE record of kind 7, is delivered as a change and answered
DONE; its end unblocks the point; subscriptions are
appended all or none and removed all or none. The host's read counts are stored, that of the SOE ring at most its write
count (R265, R272, R274, R275, R277, R284, R287, R288). -/
def Obligations.PointRequests : Prop :=
  PntGrants .pointGrantSet 0x801 3 (fun q u => q.word 1 ≤ 1023 ∧ bulkIs q 2 16 ∧
      grantOk (u.bulkRead q.src.val (q.word 2) 16) = true)
    (fun q u => State.grantWait { u with pnt := { u.pnt with
      grants := u.pnt.grants.set (q.word 1) (.ofBytes (u.bulkRead q.src.val (q.word 2) 16)) } } q 0x801) ∧
  PntGrants .pointGrantRemove 0x802 1 (fun q u => (u.pnt.grants.find? (q.word 1)).isSome = true)
    (fun q u => State.grantWait { u with pnt := { u.pnt with grants := u.pnt.grants.del (q.word 1) } } q 0x802) ∧
  Denies .pointGrantRemove 0x802 1 0x12 (fun q u => u.pnt.enabled = true ∧ u.pnt.grants.find? (q.word 1) = none) ∧
  PntGrants .pointSubstitute 0x803 4 (fun q u => q.word 1 < 2 ^ 23 ∧ (u.point (q.word 1)).typ ≠ 0)
    (fun q u => (u.hold q 0x803).sageOp (.subst (q.word 1) (BitVec.ofNat 64 (q.word 2 + q.word 3 * 2 ^ 32))
      (BitVec.ofNat 32 (q.word 4)) q.src.val q.tag)) ∧
  (∀ (s : State) (p rq : Nat) (tag : Byte) (v0 : DWord) (w0 : Word) (rest : List PntOp), s.running = true →
    s.pnt.fifo.get [] 35 = .subst p v0 w0 rq tag :: rest → s.pointReady p = true →
    let u := (s.fifoPut 35 rest).counted
    let r := u.point p
    let v := normValue r.typ v0
    let w := storeQuality ((w0 &&& 0x3FFF) ||| 0x400) 4
    let x : Point := { r with value := v, quality := w, stamp := u.time.t, subst := true, postSub := false }
    let t := (u.setPoint p x).soeAppend 7 p u.time.t v w 0
    Becomes (.pointUpdate 35) s (((State.fanOut { t with pnt := { t.pnt with changes := satInc t.pnt.changes } } p true
      (qlow w != qlow r.quality) w v u.time.t).final rq 0x803 tag 0 []).pntSettle)) ∧
  Denies .pointSubstitute 0x803 4 0x12 (fun q u => u.pnt.enabled = true ∧ (u.point (q.word 1)).typ = 0) ∧
  (∀ (q : Req) (s : State), s.pnt.enabled = true → s.sageFree (q.word 1) = false →
    exec (.pointSubstituteEnd q) s = .next s) ∧
  PntGrants .pointSubstituteEnd 0x804 1
    (fun q u => u.sageFree (q.word 1) = true ∧ q.word 1 < 2 ^ 23 ∧ (u.point (q.word 1)).subst = true)
    (fun q u =>
      let p := q.word 1
      let r := u.point p
      ((u.setPoint p { r with subst := false, postSub := true }).soeAppend 7 p u.time.t r.value r.quality 0).finish q
        0x804) ∧
  Denies .pointSubstituteEnd 0x804 1 0x12 (fun q u => u.pnt.enabled = true ∧
    u.sageFree (q.word 1) = true ∧ (u.point (q.word 1)).subst = false) ∧
  (∀ (q : Req) (s u : State), s.asked q 0x805 2 u → u.pnt.enabled = true →
    bulkItems q.src.val (q.word 1) (q.word 2) 20 = true →
    let items := chunks 20 (u.bulkRead q.src.val (q.word 1) (q.word 2)) (q.word 2 / 20)
    (items.all u.subOk = false → Becomes (.subscriptionAppend q) s (u.refuse q 0x805 0x12)) ∧
    (items.all u.subOk = true → u.subAppendAll (items.map SubEntry.ofBytes) = none →
      Becomes (.subscriptionAppend q) s (u.refuse q 0x805 0x18)) ∧
    (∀ t, items.all u.subOk = true → u.subAppendAll (items.map SubEntry.ofBytes) = some t →
      Becomes (.subscriptionAppend q) s (t.finish q 0x805))) ∧
  (∀ (s t : State) (e : SubEntry), s.subAppend e = some t →
    t.pnt.lists.get [] e.point = s.pnt.lists.get [] e.point ++ [freeEntry s.pnt.subs 0] ∧
    t.pnt.subs.find? (freeEntry s.pnt.subs 0) = some e ∧ (s.pnt.lists.get [] e.point).length < 255 ∧
    (∀ p, p ≠ e.point → t.pnt.lists.get [] p = s.pnt.lists.get [] p)) ∧
  (∀ (q : Req) (s u : State), s.asked q 0x806 2 u → u.pnt.enabled = true →
    bulkItems q.src.val (q.word 1) (q.word 2) 8 = true →
    let items := chunks 8 (u.bulkRead q.src.val (q.word 1) (q.word 2)) (q.word 2 / 8)
    (u.subRemoveAll items = none → Becomes (.subscriptionRemove q) s (u.refuse q 0x806 0x12)) ∧
    (∀ t, u.subRemoveAll items = some t → Becomes (.subscriptionRemove q) s (t.finish q 0x806))) ∧
  (∀ (hi : Bool) (w : Word) (s : State), s.sys.up = true → Completes (.pntSoeRdWrite hi w) s (fun t =>
    t.pnt.soeRd.toNat ≤ s.pnt.soeWr.toNat ∧
    (hi = false → s.pnt.soeRd.toNat / 2 ^ 32 * 2 ^ 32 + w.toNat ≤ s.pnt.soeWr.toNat →
      t.pnt.soeRd.toNat = s.pnt.soeRd.toNat / 2 ^ 32 * 2 ^ 32 + w.toNat) ∧
    (hi = true → s.pnt.soeRd.toNat % 2 ^ 32 + w.toNat * 2 ^ 32 ≤ s.pnt.soeWr.toNat →
      t.pnt.soeRd.toNat = s.pnt.soeRd.toNat % 2 ^ 32 + w.toNat * 2 ^ 32) ∧
    t.pnt.points = s.pnt.points ∧ t.pnt.soe = s.pnt.soe ∧ s.within [.pnt, .sys, .host] t)) ∧
  (∀ (h : Fin 4) (w : Word) (s : State), s.sys.up = true →
    Becomes (.pntHqRdWrite h w) s { s with pnt := { s.pnt with hqRd := s.pnt.hqRd.set h w } }) ∧
  (∀ s : State, s.running = true → s.throttle = true →
    Becomes .throttleAlarm s { s with pnt := { s.pnt with thrLong := true } })

open Sys2Proof Sys2Proof.Machine in
/-- The first update of a FIFO whose record can be reached is judged in the order of R269: an unused point, a substituted one, one with an older
stamp under its profile's filter; no change of value or quality; a change, which writes value, quality and stamp,
appends to the SOE ring and walks the point's list. An engine's PUT gets its reply code. GET returns value, quality and
stamp; a held double-point state, a chatter block and a window end at their times; deliveries are written to their
queues in order, and a pending entry with the present value as space frees (R267 to R272, R275 to R282). -/
def Obligations.PointUpdatesAndDeliveries : Prop :=
  (∀ (src : Fin 36) (s : State) (u : Update) (rest : List PntOp), s.running = true →
    s.fifoTake src = some (.upd u, rest) →
    let j := (s.fifoPut src rest).judge u
    (u.from_.tag = none → src.val ≠ 34 → src.val ≠ 32 → Becomes (.pointUpdate src) s j.2.pntSettle) ∧
    (u.from_.tag = none → src.val = 34 → Becomes (.pointUpdate src) s j.2.drainFab.pntSettle) ∧
    (u.from_.tag = none → src.val = 32 → Becomes (.pointUpdate src) s j.2.drainCan.pntSettle) ∧
    (∀ tag, u.from_.tag = some tag → src.val < 32 → Becomes (.pointUpdate src) s
      (State.pntSettle (j.2.setEng src { j.2.eng src with putDone := (j.2.eng src).putDone ++ [(tag, j.1.code)] })))) ∧
  (∀ (src : Nat) (s : State) (o : PntOp) (rest : List PntOp), s.pnt.fifo.get [] src = o :: rest →
    (s.pointReady o.point = true → s.fifoTake src = some (o, rest)) ∧
    (s.pointReady o.point = false → (∀ x ∈ rest, s.pointReady x.point = false) → s.fifoTake src = none)) ∧
  (∀ (s : State) (u : Update), u.from_.src ≠ 1 → u.from_.src ≠ 2 →
    let r := s.point u.point
    let c := s.counted
    let v := normValue r.typ u.value
    let valChg := valueChanged r.typ v r.value (s.filt r.profile 0 8)
    let qualChg := qlow u.quality != qlow r.quality || r.postSub
    let goes := s.pnt.enabled = true ∧ r.typ ≠ 0 ∧ r.subst = false ∧ r.stamp.toNat ≤ u.stamp.toNat
    (s.pnt.enabled = false ∨ r.typ = 0 →
      s.judge u = (.unused, { c with pnt := { c.pnt with unused := satInc c.pnt.unused } })) ∧
    (s.pnt.enabled = true → r.typ ≠ 0 → r.subst = true → u.from_.src ≠ 4 →
      s.judge u = (.blocked, { c with pnt := { c.pnt with blockedC := satInc c.pnt.blockedC } })) ∧
    (s.pnt.enabled = true → r.typ ≠ 0 → r.subst = false → tst (s.filt r.profile 20 1) 0 = true →
      u.stamp.toNat < r.stamp.toNat →
      s.judge u = (.stale, { c with pnt := { c.pnt with stale := satInc c.pnt.stale } })) ∧
    (goes → r.typ ≠ 11 → u.force = false → r.typ ≠ 2 → valChg = false → qualChg = false →
      s.judge u = (.noChange, c)) ∧
    (goes → r.typ ≠ 11 → u.force = false → r.typ ≠ 2 → valChg = true ∨ qualChg = true → s.filt r.profile 10 1 = 0 →
      s.judge u = (.change, c.deliverChange u.point valChg qualChg v (storeQuality u.quality u.from_.src) u.stamp 0
        u.from_)) ∧
    (goes → r.typ = 11 ∨ u.force = true →
      s.judge u = (.change, c.deliverChange u.point true qualChg v (storeQuality u.quality u.from_.src) u.stamp 0
        u.from_))) ∧
  (∀ (s : State) (p : Nat) (a b : Bool) (v : DWord) (q : Word) (st : DWord) (k : Nat) (f : PntSrc),
    let t := s.deliverChange p a b v q st k f
    (t.point p).value = v ∧ (t.point p).quality = q ∧ (t.point p).stamp = st ∧ (t.point p).postSub = false ∧
    (t.point p).typ = (s.point p).typ ∧ (∀ x, x ≠ p → t.point x = s.point x) ∧ t.pnt.changes = satInc s.pnt.changes) ∧
  (∀ (src : Fin 32) (s : State) (e tag p : Nat) (rest : List PntOp), s.running = true →
    s.fifoTake src = some (.get e tag p, rest) →
    ∃ code : Byte,
      let t := (s.fifoPut src rest).draw
      let r := s.point p
      let b := if s.pnt.enabled = false ∨ r.typ = 0 then leBytes 4 1 ++ leBytes 16 0 ++ leBytes 1 5
        else leBytes 4 r.quality.toNat ++ leBytes 8 r.value.toNat ++ leBytes 8 r.stamp.toNat ++ [code]
      Becomes (.pointGet src) s
        (State.pntSettle (t.setEng e { t.eng e with getDone := (t.eng e).getDone ++ [(tag, b)] }))) ∧
  (∀ (p : Fin 8388608) (s : State), s.running = true → s.pnt.enabled = true → (s.point p).subst = false →
    s.pointReady p = true →
    let r := s.point p
    (∀ t, s.heldTimer p = some t → t.deadline ≤ s.time.t → s.filt r.profile 10 1 = 0 → Becomes (.dpHoldExpiry p) s
      ((((s.counted.delTimer (2 * p)).setPoint p { r with held := false }).deliverChange p (t.value != r.value)
        (qlow t.quality != qlow r.quality || r.postSub) t.value (storeQuality t.quality 5) t.stamp 2
        { src := 5 }).pntSettle)) ∧
    (∀ t, s.heldTimer p = some t → t.deadline ≤ s.time.t → r.blocked = false → t.value ≠ r.value →
      0 < r.chatCount → chatterOpens r (s.filt r.profile 12 2) t.stamp = false →
      r.chatCount + 1 < min 256 (s.filt r.profile 10 1) → Becomes (.dpHoldExpiry p) s
      ((((s.counted.delTimer (2 * p)).setPoint p { r with held := false, chatCount := r.chatCount + 1 }).deliverChange p true
        (qlow t.quality != qlow r.quality || r.postSub) t.value (storeQuality t.quality 5) t.stamp 2
        { src := 5 }).pntSettle)) ∧
    (s.heldTimer p = none → Becomes (.dpHoldExpiry p) s s.pntSettle) ∧
    (∀ t, s.heldTimer p = some t → s.time.t < t.deadline → Becomes (.dpHoldExpiry p) s s.pntSettle) ∧
    (∀ t, s.relTimer p = some t → s.time.t < t.deadline → Becomes (.chatterRelease p) s s.pntSettle) ∧
    (∀ t, s.relTimer p = some t → t.deadline ≤ s.time.t → Becomes (.chatterRelease p) s
      ((((s.counted.delTimer (2 * p + 1)).setPoint p { r with blocked := false, chatCount := 0 }).deliverChange p true true r.value
        (storeQuality ((r.quality &&& 0x00FFFFDF) ||| (t.quality &&& 0xFF000000)) 5) r.stamp 5 { src := 5 }).pntSettle))) ∧
  (∀ (w : Fin 65) (s : State), s.running = true → s.pnt.enabled = true → (s.rec? 0x0706 w).isSome = true →
    Becomes (.windowClose w) s (s.windowClose w).pntSettle) ∧
  (∀ (q : Fin 36) (s : State) (d : Delivery) (rest : List Delivery), s.queueOpen q = true →
    s.pnt.waiting = d :: rest → d.queue = q →
    let t : State := { s with pnt := { s.pnt with waiting := rest } }
    (t.queuePending q = false → t.queueFull q = false → Becomes (.deliveryWrite q) s (t.queueWrite q d).pntSettle) ∧
    ((t.queuePending q = true ∨ t.queueFull q = true) →
      Becomes (.deliveryWrite q) s (t.coalesce d.entry q).pntSettle)) ∧
  (∀ (q : Fin 36) (s : State) (i : Nat) (e : SubEntry), s.queueOpen q = true → s.lowestPend q = some i →
    s.queueFull q = false → s.pnt.subs.find? i = some e → s.pointReady e.point = true →
    (∀ d ∈ s.pnt.waiting, d.entry ≠ i) →
    let r := s.point e.point
    let d : Delivery := { entry := i, queue := q, point := e.point, quality := r.quality, value := r.value, stamp := r.stamp,
                          tag := e.tag, window := e.window, coal := true }
    Becomes (.pendingDeliveryWrite (q.castLE (by decide))) s
      (State.pntSettle (State.queueWrite { s with pnt := { s.pnt with pend := s.pnt.pend.filter (· ≠ i) } } q d)))

namespace Sys2Proof.Machine

/-! ### Ports (spec/05) and instants (spec/07) -/

/-- A port's link comes up at a speed with its measured calibration: event, count, verification begun where preemption
is enabled at 1 Gb/s or above, the calibration compared with the last one (R122, R123, R149, R164). -/
def State.linkedUp (s : State) (n code : Nat) (rx tx : BitVec 16) : State :=
  let q := s.port n
  let shift := q.lastUp.isSome && calShift (s.time.sdRx.get 0 n) (s.time.sdTx.get 0 n) rx tx
  let u : State := s.setPort n { q with
    up := true, speed := code, lastUp := some code, laneFault := false, hiBer := false, verifyTries := 0
    verify := if q.preemptEn && n < 64 && 2 ≤ code then .verifying else .off }
  let x : TimeBlk := { u.time with
    sdRx := s.time.sdRx.set n rx, sdTx := s.time.sdTx.set n tx
    calShift := if shift then satInc s.time.calShift else s.time.calShift }
  (State.stat { u with time := x } n 93).portEvent n 0

/-- The traffic of a lane also travels elsewhere: every enabled port of a station lane is in a pair, every stream that
leaves by a fabric lane has its second path (R151). -/
abbrev State.lanePaired (s : State) (l : Fin 20) : Prop :=
  if l.val < 16 then ∀ n ∈ lanePorts l.val, s.portPresent n = true → (s.port n).enabled = true → (s.pairOf n).isSome = true
  else ∀ r ∈ s.recsOf 0x0604, (s.fab.routes.get {} r.inst).a.head? = some (l.val - 16) →
    (s.fab.routes.get {} r.inst).b ≠ []

end Sys2Proof.Machine

open Sys2Proof Sys2Proof.Machine in
/-- A link negotiates only a full-duplex speed of its lane mode, comes up with its calibration, event and count, and goes
down with the frames of its queues lost; a lane fault takes every port of the lane down and is logged with class 7; high
BER takes a fabric port down. Pause and PFC frames pause the classes that are not exempt, until the quanta or the
watchdog end it, and none during the holdoff; verification is active with an answer and failed after three attempts;
fragments are reassembled in order. A generator issues its latest instant once (R147 to R151, R154, R162 to R167,
R218). -/
def Obligations.PortsLinksAndPause : Prop :=
  (∀ (p : Fin 64) (v : Fin 4) (s : State), s.running = true → s.portPresent p = true → (s.port p).enabled = true →
    s.negotiates p = true → (s.port p).up = false → (s.port p).mdioFail = false →
    let q := s.port p
    let off := (s.setPort p { q with duplexFail := false, anDone := false }).stat p 94
    Becomes (.autonegotiationAttempt p v false) s ((s.setPort p { q with duplexFail := true, anDone := false }).stat p 94) ∧
    (v.val ∉ offers (s.laneMode p) → Becomes (.autonegotiationAttempt p v true) s off) ∧
    (v.val ∈ offers (s.laneMode p) → Becomes (.autonegotiationAttempt p v true) s
      (s.setPort p { q with duplexFail := false, anDone := true, speed := v.val }))) ∧
  (∀ (p : Fin 64) (v : Fin 4) (full : Bool) (s : State), s.negotiates p = false ∨ (s.port p).mdioFail = true →
    exec (.autonegotiationAttempt p v full) s = .next s) ∧
  (∀ (p : Fin 68) (a b : BitVec 16) (s : State), s.running = true → s.portPresent p = true →
    (s.port p).enabled = true → (s.port p).up = false → (s.port p).mdioFail = false →
    let q := s.port p
    (64 ≤ p.val → Becomes (.linkUp p a b) s (s.linkedUp p (bits q.cfg.toNat 1 1) a b)) ∧
    (p.val < 64 → 1 ≤ q.sel → Becomes (.linkUp p a b) s (s.linkedUp p (q.sel - 1) a b)) ∧
    (p.val < 64 → q.sel = 0 → s.laneMode p = 5 → Becomes (.linkUp p a b) s (s.linkedUp p 3 a b)) ∧
    (p.val < 64 → q.sel = 0 → s.laneMode p ≠ 5 → q.anDone = true →
      Becomes (.linkUp p a b) s (s.linkedUp p q.speed a b)) ∧
    (p.val < 64 → q.sel = 0 → s.laneMode p ≠ 5 → q.anDone = false → exec (.linkUp p a b) s = .next s)) ∧
  (∀ (p : Fin 68) (s : State), s.running = true → (s.port p).up = false → Idles (.linkDown p) s) ∧
  (∀ (p : Fin 68) (s : State), s.running = true → (s.port p).up = true → Completes (.linkDown p) s (fun t =>
      (t.port p).up = false ∧ (t.port p).tx = none ∧ (t.port p).held = none ∧ (t.port p).paused = 0 ∧
      (t.port p).frag = none ∧ (t.port p).anDone = false ∧ (t.port p).verify = .off ∧
      (t.port p).event = (s.port p).event ||| 1 ∧ (t.port p).stat.get 0 92 = (s.port p).stat.get 0 92 + 1)) ∧
  (∀ (p : Fin 64) (s : State), s.running = true → (s.port p).up = true → (s.port p).rx = none → (s.port p).rxp = none →
    Completes (.linkDown (p.castLE (by decide))) s (fun t => (∀ c, c < 8 → t.queue p c = []) ∧
      (t.port p).stat.get 0 55 = (s.port p).stat.get 0 55 +
        BitVec.ofNat 32 (((List.range 8).map (fun c => (s.queue p c).length)).foldl (· + ·) 0) ∧
      s.within [.ports, .sw, .mem, .engs, .sys, .host] t)) ∧
  (∀ (l : Fin 20) (s : State), s.running = true →
    let ps := (lanePorts l.val).filter s.portPresent
    let down (o : Nat) : State := ps.foldl (fun u n =>
      let u := u.linkDown n
      (u.setPort n { u.port n with laneFault := true }).portEvent n 1) (s.logFault 7 (10 + l.val) 0xFF o 0)
    (s.lanePaired l → Becomes (.laneFault l) s (down 0)) ∧ (¬ s.lanePaired l → Becomes (.laneFault l) s (down 4))) ∧
  (∀ (p : Fin 4) (s : State), s.running = true →
    let t := s.linkDown (64 + p)
    Becomes (.highBer p) s (t.setPort (64 + p) { t.port (64 + p) with hiBer := true })) ∧
  (∀ (p : Fin 64) (quanta : BitVec 16) (s : State), s.takesPort p = true →
    let t := s.pauseCount p
    let q := s.port p
    let m := ~~~ BitVec.ofNat 8 q.exempt
    let ends := s.sys.mono + s.byteTime p (64 * quanta.toNat)
    let held : List Nat := if q.holdoff then [95] else []
    (q.rxPause = false → Becomes (.pauseFrame p quanta) s (t.stats p ([5, 6] ++ held))) ∧
    (q.rxPause = true → q.holdoff = true → Becomes (.pauseFrame p quanta) s (t.stats p [5, 95])) ∧
    (q.rxPause = true → q.holdoff = false → Completes (.pauseFrame p quanta) s (fun u =>
      (u.port p).paused = (if quanta = 0 then q.paused &&& ~~~ m else q.paused ||| m) ∧
      (∀ c, c < 8 → (u.port p).till.get 0 c = ends) ∧ s.within [.ports, .sys, .host] u)) ∧
    (∀ (m : BitVec 8) (l : List (BitVec 16)), q.pfcEn = false ∨ q.holdoff = true → Becomes (.pfcFrame p m l) s
      (t.stats p ([5] ++ (if q.pfcEn then [] else [6]) ++ held))) ∧
    (∀ (m : BitVec 8) (l : List (BitVec 16)), q.pfcEn = true → q.holdoff = false →
      Completes (.pfcFrame p m l) s (fun u =>
        (∀ c : Fin 8, (u.port p).paused.getLsbD c =
          (if m.getLsbD c = true ∧ tst q.exempt c = false then l.getD c 0 != 0 else q.paused.getLsbD c)) ∧
        (∀ c : Fin 8, m.getLsbD c = true →
          (u.port p).till.get 0 c = s.sys.mono + s.byteTime p (64 * (l.getD c 0).toNat)) ∧
        s.within [.ports, .sys, .host] u))) ∧
  (∀ (p : Fin 64) (m : BitVec 8) (s : State), s.running = true →
    let q := s.port p
    let dog := q.pausedAt + ms (bits q.pauseWd.toNat 15 0)
    let rest := q.holdAt + ms (bits q.pauseWd.toNat 31 16)
    Completes (.pauseQuantaExpiry p m) s (fun u => s.within [.ports, .sys, .host] u ∧
      ∀ c : Fin 8, (u.port p).paused.getLsbD c =
        (q.paused.getLsbD c && !(m.getLsbD c && decide (q.till.get 0 c ≤ s.sys.mono)))) ∧
    (q.paused ≠ 0 → dog ≤ s.sys.mono → Becomes (.pauseWatchdog p) s
      (((s.setPort p { q with paused := 0, holdoff := true, holdAt := s.sys.mono }).stat p 81).portEvent p 2)) ∧
    (q.paused = 0 ∨ s.sys.mono < dog → exec (.pauseWatchdog p) s = .next s) ∧
    (rest ≤ s.sys.mono → Becomes (.pauseHoldoffEnd p) s (s.setPort p { q with holdoff := false })) ∧
    (s.sys.mono < rest → exec (.pauseHoldoffEnd p) s = .next s) ∧
    (q.verify = .verifying →
      let t := s.stat p 74
      let w : Port := { t.port p with out := s.verifyBytes p }
      Becomes (.verifyAttempt p true) s (t.setPort p { w with verify := .active, verifyTries := q.verifyTries + 1 }) ∧
      (q.verifyTries < 2 → Becomes (.verifyAttempt p false) s
        (t.setPort p { w with verifyTries := q.verifyTries + 1 })) ∧
      (2 ≤ q.verifyTries → Becomes (.verifyAttempt p false) s
        ((t.setPort p { w with verify := .failed, verifyTries := q.verifyTries + 1 }).portEvent p 3))) ∧
    (s.verifyBytes p).length = 64 ∧ ((s.verifyBytes p).drop 6).take 6 = leBytes 6 (s.ownAddr p).toNat) ∧
  (∀ (p : Fin 64) (b : List Byte) (r : DWord) (s : State), s.takesPort p = true →
    let q := s.port p
    let late := s.dropFrag p 29
    let heard := s.stat p 75
    (q.frag = none →
      Becomes (.fragmentReceive p (.start b r)) s (s.setPort p { q with frag := some (b, r) }) ∧
      Becomes (.fragmentReceive p (.next b)) s (s.dropFrag p 28) ∧
      Becomes (.fragmentReceive p (.last b)) s (s.dropFrag p 28)) ∧
    (∀ a r0, q.frag = some (a, r0) →
      Becomes (.fragmentReceive p (.start b r)) s (late.setPort p { late.port p with frag := some (b, r) }) ∧
      Becomes (.fragmentReceive p (.next b)) s (s.setPort p { q with frag := some (a ++ b, r0) }) ∧
      Becomes (.fragmentReceive p (.last b)) s
        (((s.setPort p { q with frag := none }).stat p 27).receiveEnd p (a ++ b) false r0 true)) ∧
    Becomes (.fragmentReceive p .badSmd) s (s.dropFrag p 28) ∧
    Becomes (.fragmentReceive p .badMcrc) s late ∧
    Becomes (.fragmentReceive p .verify) s (heard.setPort p { heard.port p with out := s.verifyBytes p })) ∧
  (∀ (i : Fin 32) (r : Rec) (s : State), s.running = true → s.rec? 0x0203 i = some r →
    let due := (s.pair i).supAt + ms (rdLE r.body 6 2)
    (due ≤ s.sys.mono → Completes (.supervisionFrameSend i) s (fun t => (t.pair i).supSeq = (s.pair i).supSeq + 1 ∧
      (t.pair i).seq = (s.pair i).seq + 1 ∧ (t.pair i).supAt = s.sys.mono ∧
      s.within [.pairs, .sw, .mem, .engs, .sys, .host] t)) ∧
    (s.sys.mono < due → exec (.supervisionFrameSend i) s = .next s)) ∧
  (∀ (j : Fin 8) (r : Rec) (s : State), s.running = true → s.rec? 0x0503 j = some r →
    let k := instCount (rdLE r.body 4 4) (rdLE r.body 8 4) s.time.t.toNat
    let v := BitVec.ofNat 64 (instAt (rdLE r.body 4 4) (rdLE r.body 8 4) k)
    (k ≠ 0 → s.tt.last.find? j = none → s.tt.stepTo.all (fun t => decide (t < v)) = true → Becomes (.instantIssue j) s
      (State.canSettle (State.instantOut { s with tt := { s.tt with last := s.tt.last.set j (v, 1) } } j r v 1))) ∧
    (∀ last n, k ≠ 0 → s.tt.last.find? j = some (last, n) → last < v → s.tt.stepTo.all (fun t => decide (t < v)) = true →
      Becomes (.instantIssue j) s (State.canSettle
        (State.instantOut { s with tt := { s.tt with last := s.tt.last.set j (v, n + 1) } } j r v (n + 1)))) ∧
    (∀ t, s.tt.stepTo = some t → v ≤ t → exec (.instantIssue j) s = .next s) ∧
    (∀ last n, s.tt.last.find? j = some (last, n) → v ≤ last → exec (.instantIssue j) s = .next s))

namespace Sys2Proof.Machine

/-! ### The switch core (spec/06) -/

/-- The end of a frame's reception on a station port, by its outcome: a good frame judged, any other counted and its
decision abandoned (R156, R157). -/
def State.ended (s : State) (n fid : Nat) (b : List Byte) (pcs : Pcs) (raw : DWord) : State :=
  let body := (rxParts b).1
  let m := s.rxLimit n (parse body).tags.length ((prpOf body).isSome || (parse body).hsr.isSome) raw
  let o := rxOutcome b.length m (fcsOk b) pcs.sym
  if o = 0 then s.receiveGood n fid body (rxParts b).2
  else (s.stat n o).abandon n fid (min 16383 b.length) m body (rxParts b).2

end Sys2Proof.Machine

open Sys2Proof Sys2Proof.Machine in
/-- A frame on a VLAN its port does not know takes verdict 0x08 and stays with its reception; a runt is counted, a bad
frame abandoned and a good one judged at its end; learned and duplicate entries age out at their times; an idle port
sends the head of the highest class that may send, stamped at its egress, one that the guardian withholds stays queued,
one too long is dropped, and a fragment's frame waits for its next; a deadline drops the oldest waiting frame; a cell
that has arrived is acknowledged, one that arrives again is a duplicate, a failed one goes through the next plane or is
lost, and a plane is retired for the spare, with fewer than three left fatally (R156, R158, R165, R169, R179, R181, R189
to R194, R214). -/
def Obligations.SwitchFramesAndPlanes : Prop :=
  (∀ (p : Fin 64) (b : List Byte) (len : Nat) (prp : Bool) (raw : DWord) (s : State), s.takesPort p = true →
    64 ≤ len →
    let pre := (s.port p).frag.any (fun x => x.2 == raw)
    (s.port p).slot pre = none →
    Becomes (.frameClassify p b len prp raw) s (s.classify p b len prp raw pre) ∧
    ((parse b).tags = [] → (parse b).hsr = none → pauseOp (parse b) b = none → s.vlan (s.swPort p).pvid = none →
      Completes (.frameClassify p b len prp raw) s (fun t =>
        ∃ f, t.frame (s.sw.nextFid + 1) = some f ∧ (t.port p).slot pre = some (s.sw.nextFid + 1) ∧ f.src = p.val ∧
        f.stamp = s.inStamp p raw ∧ f.gen = s.sw.gen ∧ f.bytes = b ∧ f.len = len ∧ f.vid = (s.swPort p).pvid ∧
        f.cls = (s.swPort p).defClass ∧ f.refused = [0x08] ∧ f.dests = [] ∧ s.within [.sw, .ports, .sys, .host] t))) ∧
  (∀ (p : Fin 64) (b : List Byte) (pcs : Pcs) (raw : DWord) (s : State), s.takesPort p = true →
    let body := (rxParts b).1
    let c : Instr := .frameReceiveEnd (p.castLE (by decide)) b pcs raw
    ((s.port p).rx = none → b.length < 64 →
      b.length ≤ s.rxLimit p (parse body).tags.length ((prpOf body).isSome || (parse body).hsr.isSome) raw →
      Becomes c s (s.stat p (if fcsOk b = true then 16 else 17))) ∧
    (∀ fid, (s.port p).rx = some fid → Becomes c s (s.ended p fid b pcs raw)) ∧
    ((s.port p).rx = none → 64 ≤ b.length →
      let k := s.classify p (body.take 128) b.length (prpOf body).isSome raw false
      ∀ fid, (k.port p).rx = some fid → Becomes c s (k.ended p fid b pcs raw))) ∧
  (∀ (a : BitVec 48) (v : BitVec 12) (s : State), s.running = true → s.sw.ageS ≠ 0 → Becomes (.fdbAgeOut a v) s
    { s with sw := { s.sw with fdb := s.sw.fdb.filter (fun e =>
        e.static || !(e.addr == a && e.vid == v.toNat) || decide (s.sys.mono < e.seen + sec s.sw.ageS)) } }) ∧
  (∀ (i : Fin 32) (a : BitVec 48) (q : BitVec 16) (s : State), s.running = true → Becomes (.ddEntryAgeOut i a q) s
    (s.setPair i { s.pair i with dd := (s.pair i).dd.filter (fun e =>
        !(e.src == a && e.seq == q && decide (e.at_ + ms (s.fld 0x0203 i 4 2 0) ≤ s.sys.mono))) })) ∧
  (∀ (p : Fin 68) (s : State), s.takesPort p = true → (s.port p).tx = none → (s.port p).held = none →
    ((∀ c, c < 8 → s.queue p c = []) → Idles (.frameTransmitStart p) s) ∧
    (∀ (c : Fin 8) (x : Copy) (rest : List Copy) (f : Frame), (∀ k, k < 8 → k ≠ c.val → s.queue p k = []) →
      s.queue p c = x :: rest → s.classOpen p c = true → s.frame x.fid = some f →
      let d := s.sendTime f p 0
      let body := s.egressBody f p 0
      let long := s.limitM p (parse body).tags.length (s.sendsRed f p).isSome < s.handedLen f p
      s.gateFits p c d = true →
      (s.guardFits p c d = true → ¬ long → Completes (.frameTransmitStart p) s (fun t =>
        (t.port p).tx = some { fid := x.fid, cls := c, stamp := s.outStamp p s.time.t, from_ := s.time.t, bank := s.ttActive p } ∧
        s.within [.sw, .ports, .sys, .host] t)) ∧
      (s.guardFits p c d = true → long → Becomes (.frameTransmitStart p) s
        ((s.stat p 54).dropCopy p c x (some 0x10))) ∧
      (s.guardFits p c d = false → Becomes (.frameTransmitStart p) s (s.guardHold p)))) ∧
  (∀ (p : Fin 68) (s : State) (x : TxNow), s.running = true → (s.port p).tx = some x →
    (x.lim = none ∨ x.cut = true → Becomes (.frameTransmitEnd p none) s (s.endTx p x)) ∧
    (x.lim ≠ none → x.cut = false → exec (.frameTransmitEnd p none) s = .next s) ∧
    (∀ k, s.preemptable p x.cls = true → x.cut = false → s.fragOk p x k = true →
      let u := if x.sent = 0 then (s.stat p 72).stat p 73 else s.stat p 72
      Becomes (.frameTransmitEnd p (some k)) s
        (u.setPort p { u.port p with tx := none, held := some { x with sent := x.sent + k } })) ∧
    (∀ k, s.preemptable p x.cls = false ∨ s.fragOk p x k = false → exec (.frameTransmitEnd p (some k)) s = .next s)) ∧
  (∀ (p : Fin 64) (c : Fin 8) (s : State) (x : Copy) (rest : List Copy), s.running = true → s.guarded p = true →
    tst (gateMask (s.sched p)) c = true → s.queue p c = x :: rest → s.begun p x = false →
    let q := s.swPort p
    let due := x.since + gateDeadline (s.sched p)
    (due ≤ s.sys.mono → Becomes (.guardianDeadlineDrop p c) s
      ((s.setSwPort p { q with dropGuard := satInc q.dropGuard }).dropCopy p c x (some 0x0B))) ∧
    (s.sys.mono < due → exec (.guardianDeadlineDrop p c) s = .next s)) ∧
  (∀ (i : Fin 37) (o : Fin 85) (seq : Nat) (s : State), s.running = true →
    (∀ c, s.cell? i o seq = some c →
      Becomes (.cellArrival i o seq true) s { s with sw := { s.sw with cells := s.sw.cells.filter (fun x => !(x == c)) } } ∧
      Becomes (.cellArrival i o seq false) s (s.cellRetry c) ∧ Becomes (.cellAckTimeout i o seq) s (s.cellRetry c)) ∧
    (s.cell? i o seq = none →
      (seq < s.sw.cellSeq.get 0 (85 * i.val + o.val) → Becomes (.cellArrival i o seq true) s
        { s with sw := { s.sw with cellDup := satInc s.sw.cellDup } }) ∧
      exec (.cellArrival i o seq false) s = .next s ∧ exec (.cellAckTimeout i o seq) s = .next s)) ∧
  (∀ (s : State) (c : CellTx),
    let tried := c.plane :: c.tried
    let u := (s.dropCells (fun x => x == c)).planeFail c.plane
    ((∃ p, p < 5 ∧ tst u.sw.working.toNat p = true ∧ p ∉ tried) → s.cellRetry c = { u with sw := { u.sw with
      cells := u.sw.cells ++ [{ c with plane := u.nextPlane c.plane, tried := tried }]
      cellRetry := satInc u.sw.cellRetry } }) ∧
    ((∀ p, p < 5 → tst u.sw.working.toNat p = true → p ∈ tried) → s.cellRetry c =
      State.loseAt { u with sw := { u.sw with
        cellLost := satInc u.sw.cellLost, event := u.sw.event ||| 2 } } c.fid c.out)) ∧
  (∀ (s : State) (p : Nat), s.sw.working ≠ 0 → tst s.sw.working.toNat (s.nextPlane p) = true) ∧
  (∀ (p : Fin 5) (s : State), s.running = true →
    (tst s.sw.retired.toNat p = true → Idles (.planeTestFail p) s) ∧
    (tst s.sw.retired.toNat p = false →
      let left := s.sw.working &&& ~~~ BitVec.ofNat 5 (2 ^ p.val)
      let w := if tst s.sw.working.toNat p = true ∧ s.sw.spare < 5 then left ||| BitVec.ofNat 5 (2 ^ s.sw.spare) else left
      let k : State := { s with sw := { s.sw with
        working := w, retired := s.sw.retired ||| BitVec.ofNat 5 (2 ^ p.val), spare := 7
        planeRetire := satInc s.sw.planeRetire, event := s.sw.event ||| 1 } }
      let t : State := { k with sw := { k.sw with cells := s.sw.cells.map (fun c =>
        if c.plane = p.val then { c with plane := k.nextPlane p } else c) } }
      (3 ≤ (maskBits 5 w.toNat).length → Becomes (.planeTestFail p) s (t.logFault 4 9 0xFF 0 0)) ∧
      ((maskBits 5 w.toNat).length < 3 → Becomes (.planeTestFail p) s (t.fatal 0x07 9 4))))

namespace Sys2Proof.Machine

/-! ### Personalities, the store and images (spec/10, spec/18) -/

/-- The engine of a request has an instance and no other stop, start or restart is due. -/
abbrev InstFree (q : Req) (u : State) : Prop := q.word 1 < 32 ∧ u.hasInstance (q.word 1) = true ∧ u.instPending (q.word 1) = false

end Sys2Proof.Machine

open Sys2Proof Sys2Proof.Machine in
/-- Restart, stop and start of an instance are scheduled for the epoch boundary of its cluster, refused 0x14 while
another is due and 0x15 for a start of what is not stopped; the restart answers DONE, or 0x1A with the instance left
stopped when its section cannot be read (R300 to R302). An append is opened after the last committed entry, filled in
ascending order, checked and committed by an NVM job; an entry's live word is programmed to 0; the store is erased under
authorisation (Table 10-9). -/
def Obligations.InstancesAndTheStore : Prop :=
  Grants .personalityRestart 0x601 1 InstFree
    (fun q u => (u.hold q 0x601).schedule (q.word 1) .restart (some (q.src.val, q.tag))) ∧
  Grants .personalityStop 0x602 1 (fun q u => InstFree q u ∧ u.instStopped (q.word 1) = true)
    (fun q u => u.finish q 0x602) ∧
  Grants .personalityStop 0x602 1 (fun q u => InstFree q u ∧ u.instStopped (q.word 1) = false)
    (fun q u => (u.hold q 0x602).schedule (q.word 1) .stop (some (q.src.val, q.tag))) ∧
  Grants .personalityStart 0x603 1 (fun q u => InstFree q u ∧ u.instStopped (q.word 1) = true)
    (fun q u => (u.hold q 0x603).schedule (q.word 1) .start (some (q.src.val, q.tag))) ∧
  Denies .personalityStart 0x603 1 0x15 (fun q u => InstFree q u ∧ u.instStopped (q.word 1) = false) ∧
  Denies .personalityRestart 0x601 1 0x12 (fun q _ => 32 ≤ q.word 1) ∧
  Denies .personalityRestart 0x601 1 0x14 (fun q u => q.word 1 < 32 ∧ u.hasInstance (q.word 1) = true ∧
    u.instPending (q.word 1) = true) ∧
  (∀ (e : Fin 32) (s : State) (k : InstReq) (src : Nat) (tag : Byte), s.running = true →
    s.restartDue e = some (e.val, k, some (src, tag)) →
    let c := s.cl (e.val / 2)
    let t := s.setCl (e.val / 2) { c with instReq := c.instReq.filter (fun x => x.1 != e.val) }
    let u := if (s.eng e).status = 1 then t else t.haltInstance e 1
    (u.sys.dramFail = false → Becomes (.instanceRestart e true) s ((u.restartInstance e).final src k.code tag 0 [])) ∧
    Becomes (.instanceRestart e false) s ((u.failInstance e).final src k.code tag 0x1A [])) ∧
  (∀ (e : Fin 32) (s : State), s.restartDue e = none → ∀ ok, exec (.instanceRestart e ok) s = .next s) ∧
  (∀ (s : State) (e : Nat), e < 32 →
    let t := s.release e 0x100
    (t.eng e).st = .running ∧ (t.core e).pc = 0x100 ∧ (t.core e).r 1 = 0x5FF00 ∧ (t.core e).r 2 = BitVec.ofNat 32 e ∧
    (∀ k, k ≠ 1 → k ≠ 2 → (t.core e).r k = 0) ∧ (t.core e).gie = false ∧
    (∀ x, x ≠ e → t.eng x = s.eng x)) ∧
  (∀ (q : Req) (s u : State) (r : Region), s.asked q 0x610 3 u → bulkIs q 2 256 → u.sys.lc ≠ .retired →
    u.exclusive = false → u.region? 3 0 = some r →
    let off := u.storeNext r
    (264 ≤ q.word 1 → off + q.word 1 ≤ r.off + r.size →
      let h := u.bulkRead q.src.val (q.word 2) 256
      let t := (u.nvmErase off (roundUp (q.word 1) 4096)).nvmWrite off h
      let a : Append := { total := q.word 1, off := off, done := 256, commit := false }
      Becomes (.storeAppendOpen q) s (State.finish { t with engs := { t.engs with append := some a } } q 0x610)) ∧
    (r.off + r.size < off + q.word 1 → Becomes (.storeAppendOpen q) s (u.refuse q 0x610 0x18))) ∧
  (∀ (q : Req) (s u : State) (a : Append), s.asked q 0x611 3 u → bulkOk q.src.val (q.word 2) (q.word 3) = true →
    q.word 3 ≤ 0x8000 → u.engs.append = some a → a.commit = false →
    (a.done ≤ q.word 1 → q.word 1 + q.word 3 ≤ a.total - 8 →
      let t := u.nvmWrite (a.off + q.word 1) (u.bulkRead q.src.val (q.word 2) (q.word 3))
      Becomes (.storeAppendWrite q) s (State.finish { t with engs := { t.engs with
        append := some { a with done := q.word 1 + q.word 3 } } } q 0x611)) ∧
    (q.word 1 < a.done → Becomes (.storeAppendWrite q) s (u.refuse q 0x611 0x12))) ∧
  (∀ (q : Req) (v : Verdict) (k : Bool) (s u : State) (a : Append) (r : Region), s.asked q 0x612 0 u →
    u.engs.append = some a → u.region? 3 0 = some r → a.commit = false → u.sage.job = none →
    let closed : State := { u with engs := { u.engs with append := none } }
    Becomes (.storeAppendCommit q v k false) s (closed.refuse q 0x612 0x1A) ∧
    (∀ st, u.appendCheck r a v k = some st → Becomes (.storeAppendCommit q v k true) s (closed.refuse q 0x612 st)) ∧
    (u.appendCheck r a v k = none → Becomes (.storeAppendCommit q v k true) s (State.startJob
      { u with engs := { u.engs with append := some { a with commit := true } } } q 0x612 .append (a.off + a.total - 8)
      (leBytes 4 0x54494D43 ++ leBytes 4 (crc32c (u.nvmBytes (a.off + 256) (a.total - 264))).toNat)))) ∧
  (∀ (q : Req) (s u : State) (a : Nat), s.asked q 0x613 1 u → bits (q.word 1) 15 8 = 0 →
    u.storeEntry? (bits (q.word 1) 7 0) (bits (q.word 1) 31 16) = some a →
    let bound := ∃ r ∈ u.recsOf 0x0801, rdLE r.body 0 1 = bits (q.word 1) 7 0 ∧ rdLE r.body 2 2 = bits (q.word 1) 31 16
    (¬ bound → Becomes (.storeEntryRemove q) s ((u.nvmWrite (a + 4) (leBytes 4 0)).finish q 0x613)) ∧
    (bound → Becomes (.storeEntryRemove q) s (u.refuse q 0x613 0x15))) ∧
  (∀ v, Grants (.storeErase · v) 0x614 2
    (fun q u => bulkIs q 1 160 ∧ (u.sys.lc = .provisioned ∨ u.sys.lc = .service) ∧ u.exclusive = false ∧
      u.authorised q 0x614 (some 1) (u.authPay q 160) v ∧ (u.region? 3 0).isSome = true)
    (fun q u => let off := ((u.region? 3 0).getD ⟨0, 0, 0, 0⟩).off
      (u.useNonce q.src.val).startJob q 0x614 .storeErase off (u.nvmBytes off 0x1000)))

open Sys2Proof Sys2Proof.Machine in
/-- An image write is opened on the slot that is not selected with a good header of a higher sequence, and its slot is
erased; data come in ascending order, repeat the header and begin the 60 s anew; the commit checks the whole image and programs its trailer,
or closes the write with the reason; close, status and abandonment act as Table 18-9 says. An NVM job that completes
does its programming, answers its request and sends its notice (R502 to R504). -/
def Obligations.ImagesAreWritten : Prop :=
  (∀ (q : Req) (s u : State) (r : Region), s.asked q 0x901 3 u → u.sys.lc ≠ .retired → u.exclusive = false →
    bulkIs q 2 64 → u.imgSlot = some r → q.word 1 ≤ r.size →
    let h := u.bulkRead q.src.val (q.word 2) 64
    let good := firstFail (headerChecks h r.size) = 0 ∧ rdLE h 0x10 4 = q.word 1
    (¬ good → Becomes (.imageWriteOpen q) s (u.refuse q 0x901 0x12)) ∧
    (good → rdLE h 8 8 ≤ u.sys.cfgSeq.toNat → Becomes (.imageWriteOpen q) s (u.refuse q 0x901 0x17)) ∧
    (good → u.sys.cfgSeq.toNat < rdLE h 8 8 →
      let w : ImgWrite := { total := q.word 1, header := h, done := 0, at_ := u.sys.mono, erased := false, commit := false }
      Becomes (.imageWriteOpen q) s
        (State.startJob { u with host := { u.host with img := some w } } q 0x901 .imgErase r.off (leBytes 8 r.size)))) ∧
  (∀ (q : Req) (s u : State) (w : ImgWrite) (r : Region), s.asked q 0x902 3 u →
    bulkOk q.src.val (q.word 2) (q.word 3) = true → 4 ≤ q.word 3 → q.word 3 ≤ 0x8000 → u.host.img = some w →
    u.imgSlot = some r → w.commit = false →
    let b := u.bulkRead q.src.val (q.word 2) (q.word 3)
    let head := (w.header.drop (q.word 1)).take (q.word 3)
    let now (x : ImgWrite) : State := { u with host := { u.host with img := some { x with at_ := u.sys.mono } } }
    (w.erased = false → ∀ ok, Becomes (.imageWriteData q ok) s ((now w).refuse q 0x902 0x14)) ∧
    (w.erased = true → q.word 1 ≠ w.done → ∀ ok, Becomes (.imageWriteData q ok) s ((now w).refuse q 0x902 0x12)) ∧
    (w.erased = true → q.word 1 = w.done → q.word 1 + q.word 3 ≤ w.total - 128 → b.take head.length = head →
      Becomes (.imageWriteData q false) s ((u.imgClose.refuse q 0x902 0x1A).notice 0xF04 [1]) ∧
      Becomes (.imageWriteData q true) s
        (((now { w with done := q.word 1 + q.word 3 }).nvmWrite (r.off + q.word 1) b).finish q 0x902))) ∧
  (∀ (q : Req) (v : Verdict) (p ok : Bool) (s u : State) (w : ImgWrite) (r : Region), s.asked q 0x903 2 u →
    u.host.img = some w → u.imgSlot = some r → w.commit = false → u.sage.job = none → bulkIs q 1 128 →
    w.done = w.total - 128 →
    let tr := u.bulkRead q.src.val (q.word 1) 128
    let x : ImgWrite := { w with at_ := u.sys.mono }
    let k : State := { u with host := { u.host with img := some x } }
    let reason := if ok = true then k.imageReason (u.nvmBytes r.off (w.total - 128) ++ tr) r.size v p else 0x12
    (reason ≠ 0 → Becomes (.imageWriteCommit q v p ok) s
      (u.imgClose.refuse q 0x903 (commitStatus reason) [BitVec.ofNat 32 reason])) ∧
    (reason = 0 → Becomes (.imageWriteCommit q v p ok) s (State.startJob
      { u with host := { u.host with img := some { x with commit := true } } } q 0x903 .imgCommit
      (r.off + (w.total - 128)) tr))) ∧
  Grants .imageWriteClose 0x904 0 (fun _ u => ∃ w, u.host.img = some w ∧ w.commit = false)
    (fun q u => State.finish { u with host := { u.host with img := none } } q 0x904) ∧
  Denies .imageWriteClose 0x904 0 0x12 (fun _ u => u.host.img = none) ∧
  Grants .imageWriteStatus 0x905 0 (fun _ u => u.host.img = none) (fun q u => u.finish q 0x905 [0, 0]) ∧
  (∀ (q : Req) (s u : State) (w : ImgWrite), s.asked q 0x905 0 u → u.host.img = some w →
    Becomes (.imageWriteStatus q) s (u.finish q 0x905 [if w.commit = true then 2 else 1, BitVec.ofNat 32 w.done])) ∧
  (∀ (s : State) (w : ImgWrite), s.host.img = some w → (w.commit = true ∨ s.sys.mono < w.at_ + sec 60) →
    exec (.imageWriteAbandon false) s = .next s) ∧
  (∀ (s : State) (w : ImgWrite) (nvm : Bool), s.running = true → s.host.img = some w →
    (nvm = true ∨ w.commit = false ∧ w.at_ + sec 60 ≤ s.sys.mono) → Becomes (.imageWriteAbandon nvm) s
      (State.notice { s with host := { s.host with img := none } } 0xF04 [if nvm = true then 1 else 0])) ∧
  (∀ (s : State) (j : NvmJob), s.running = true → s.sage.job = some j →
    let t : State := { s with sage := { s.sage with job := none } }
    (j.kind = .imgErase → Becomes (.nvmWriteComplete true) s
      (State.final { (t.nvmErase j.off (leNat j.bytes)) with host := { s.host with
        img := s.host.img.map (fun i => { i with erased := true }) } } j.src j.code j.tag 0 [])) ∧
    (j.kind = .append → Becomes (.nvmWriteComplete true) s
      ((State.final { (t.nvmWrite j.off j.bytes) with engs := { s.engs with append := none } } j.src j.code j.tag 0
        []).notice 0xF02 [3, 0])) ∧
    (j.kind = .keyImport → Becomes (.nvmWriteComplete true) s
      ((((t.nvmErase j.off 256).nvmWrite j.off j.bytes).final j.src j.code j.tag 0 []).notice 0xF02 [6, 0]) ∧
      Becomes (.nvmWriteComplete false) s ((t.final j.src j.code j.tag 0x1A []).notice 0xF02 [6, 0x1A])) ∧
    (j.kind = .imgCommit → Becomes (.nvmWriteComplete false) s
      ((State.final { t with host := { s.host with img := none } } j.src j.code j.tag 0x1A [0x12]).notice 0xF04 [1])))

namespace Sys2Proof.Machine

/-! ### The host registers and the mailboxes (spec/12, spec/18) -/

/-- The mailbox queue that a master's post of one word makes. -/
def State.posted (s : State) (n : Nat) (home : Bool) (src : Nat) (w : Word) : List MbWord :=
  ((s.mb n).q home) ++ [{ src := src, word := w }]

end Sys2Proof.Machine

open Sys2Proof Sys2Proof.Machine in
/-- A host write of a BAR0 register acts by the register's access code, is dropped before READY, refused and counted for
a configuration register outside development states, and dropped as a whole when it is not whole words; a read returns
the register's bytes, a wide register's from its capture. A read of BAR2 returns the bytes of the records that its views
show, 0 elsewhere and while the point engine is disabled; a write of it does nothing. A vector that is armed, pending and open sends its message
once and is armed again by IRQ_VARM (R9 to R13, R55, R290, R486, R490 to R498). -/
def Obligations.HostRegistersAndInterrupts : Prop :=
  (∀ (a : BitVec 26) (w : Word) (s : State), s.sys.up = true → a.toNat % 4 = 0 → msixSpan a.toNat = false →
    let r := s.reg a.toNat
    (r.act = none → Becomes (.registerWrite (.bar0 a) (leBytes 4 w.toNat)) s s.canSettle) ∧
    (∀ f, r.act = some f → r.cfg = false →
      Becomes (.registerWrite (.bar0 a) (leBytes 4 w.toNat)) s (f w.toNat).canSettle) ∧
    (∀ f, r.act = some f → r.cfg = true → s.sys.lc = .operational ∨ s.sys.lc = .retired →
      Becomes (.registerWrite (.bar0 a) (leBytes 4 w.toNat)) s (s.wrViol a.toNat).canSettle) ∧
    (∀ f, r.act = some f → r.cfg = true → s.sys.lc = .provisioned ∨ s.sys.lc = .service ∨ s.sys.lc = .blank →
      Becomes (.registerWrite (.bar0 a) (leBytes 4 w.toNat)) s (f w.toNat).canSettle)) ∧
  (∀ (a : BitVec 26) (b : List Byte) (s : State), msixSpan a.toNat = false →
    (s.sys.up = false ∨ a.toNat % 4 ≠ 0 ∨ b.length % 4 ≠ 0) → Becomes (.registerWrite (.bar0 a) b) s s.canSettle) ∧
  (∀ (w : Word) (s : State), s.sys.up = true →
    Becomes (.registerWrite (.bar0 0x10004) (leBytes 4 w.toNat)) s
      (State.canSettle { s with host := { s.host with irqEn := w.setWidth 14 } }) ∧
    Becomes (.registerWrite (.bar0 0x10000) (leBytes 4 w.toNat)) s s.canSettle) ∧
  (∀ (v : Fin 64) (w : Word) (s : State), Becomes (.registerWrite (.bar0 (BitVec.ofNat 26 (0x18000 + 16 * v + 8)))
    (leBytes 4 w.toNat)) s (State.canSettle { s with host := { s.host with
      msix := s.host.msix.set v { s.host.msix.get {} v with data := w } } })) ∧
  (∀ (a : BitVec 26) (s : State), a.toNat % 4 = 0 → Completes (.wideRegisterRead (.bar0 a) 4) s (fun t =>
    let r := (s.readView a.toNat).reg a.toNat
    (r.wide = false → t.host.readData = leBytes 4 (r.val % 2 ^ 32)) ∧
    (r.wide = true → r.word = 0 → t.host.readData = leBytes 4 (r.val % 2 ^ 32) ∧
      t.host.capture.find? a.toNat = some r.val) ∧
    (∀ v, r.wide = true → r.word ≠ 0 → s.host.capture.find? (a.toNat - 4 * r.word) = some v →
      t.host.readData = leBytes 4 (bits v (32 * r.word + 31) (32 * r.word))))) ∧
  (∀ (a : BitVec 28) (b : List Byte) (s : State), exec (.registerWrite (.bar2 a) b) s = .next s) ∧
  (∀ (a : BitVec 28) (n : BitVec 12) (s : State), Completes (.wideRegisterRead (.bar2 a) n) s (fun t =>
    t.host.readData.length = n.toNat ∧ s.within [.host] t ∧
    ∀ i, i < n.toNat →
      (s.pnt.enabled = false ∨ s.viewAddr (a.toNat + i) = none → byteAt t.host.readData i = 0) ∧
      (s.pnt.enabled = true → ∀ d ∈ s.viewAddr (a.toNat + i),
        byteAt t.host.readData i = (s.dramByte d).toNat))) ∧
  (∀ (s : State) (r : Rec) (i : Nat), s.recsOf 0x0708 = [r] →
    s.viewAddr (rdLE r.body 4 4 + i) = (if i < rdLE r.body 0xC 4 then
      some ((if byteAt r.body 0 = 0 then 0 else 0x20800000) + rdLE r.body 8 4 + i) else none)) ∧
  (∀ (hi : Bool) (w : Word) (s : State), s.sys.up = true → Completes (.irqVarm hi w) s (fun t => t = { s with
    host := { s.host with armed := s.host.armed ||| (w.setWidth 64 <<< (if hi = true then 32 else 0)) } })) ∧
  (∀ (v : Fin 64) (s : State),
    (s.vecPending v = true → s.armed v = true → s.msgBlocked v = false → Completes (.msiXMessage v) s (fun t =>
      t.host.message = some ((s.host.msix.get {} v).addr, (s.host.msix.get {} v).data) ∧ t.armed v = false ∧
      t.host.msgCount = satInc s.host.msgCount ∧ (∀ u : Fin 64, u ≠ v → t.armed u = s.armed u) ∧ s.within [.host] t)) ∧
    (s.vecPending v = false ∨ s.armed v = false ∨ s.msgBlocked v = true →
      Completes (.msiXMessage v) s (fun t => t = s))) ∧
  (∀ (d m f b : Bool) (s : State),
    Completes (.powerStateChange d) s (fun t => t = { s with host := { s.host with d3hot := d } }) ∧
    Completes (.pcieConfigurationWrite m f b) s (fun t => t = { s with
      host := { s.host with msixEn := m, fnMask := f, busMaster := b } }))

open Sys2Proof Sys2Proof.Machine in
/-- The host is master 32 on the mailboxes: its post enters a granted queue with room, else overflow or refusal is
counted; a pop takes the head; a lock read claims a free lock, a release by its holder frees it; its reset flushes the
queues it reads and breaks its locks, and Sage breaks a lock of its own mailboxes held too long (R358 to R370). ECC
corrections, late scrubs and starved requests are counted with their events; a statistics snapshot copies and a clear
empties its counters; the capture read count advances (R172, R206, R352, R355, R356). -/
def Obligations.MailboxesOfTheHost : Prop :=
  (∀ (n : Fin 64) (w : Word) (s : State) (home : Bool), s.sys.up = true → (s.mb n).outQ 32 = some home →
    (s.mbRoom n home 1 = true → s.readerDown ((s.mb n).reader home) = false → Completes (.mbnTxWrite n w) s (fun t =>
      (t.mb n).q home = s.posted n home 32 w ∧ (t.mb n).lock = (s.mb n).lock ∧ (t.mb n).ovf = (s.mb n).ovf)) ∧
    (s.mbRoom n home 1 = false → Becomes (.mbnTxWrite n w) s (s.setMb n { s.mb n with
      ovf := satInc (s.mb n).ovf, event := (s.mb n).event ||| 8 }))) ∧
  (∀ (n : Fin 64) (w : Word) (s : State), s.sys.up = true → n.val < 56 → (s.mb n).outQ 32 = none →
    Becomes (.mbnTxWrite n w) s (s.setMb n { s.mb n with refused := satInc (s.mb n).refused })) ∧
  (∀ (n : Fin 64) (s : State) (home : Bool) (x y : MbWord) (rest : List MbWord), s.sys.up = true →
    (s.mb n).inQ 32 = some home → (s.mb n).q home = x :: y :: rest → x.bad = false → y.bad = false →
    Becomes (.mbnPop n) s (s.setMb n ((s.mb n).setQ home (y :: rest)))) ∧
  (∀ (n : Fin 64) (s : State) (home : Bool), s.sys.up = true → (s.mb n).inQ 32 = some home → (s.mb n).q home = [] →
    Completes (.mbnPop n) s (fun t => t.mb n = s.mb n)) ∧
  (∀ (n : Fin 64) (s : State), s.sys.up = true → (s.mb n).granted 32 = true →
    ((s.mb n).lock = none → Completes (.mbnLockRead n) s (fun t => (t.mb n).lock = some 32 ∧
      t.host.readData = leBytes 4 0 ∧ (∀ k, k ≠ n.val → t.mb k = s.mb k))) ∧
    (∀ o, o ≠ 32 → (s.mb n).lock = some o → Completes (.mbnLockRead n) s (fun t => t.mb n = s.mb n ∧
      t.host.readData = leBytes 4 (o + 1))) ∧
    ((s.mb n).lock = some 32 → Becomes (.mbnLockRelease n) s (s.setMb n { s.mb n with lock := none })) ∧
    ((s.mb n).lock ≠ some 32 →
      Becomes (.mbnLockRelease n) s (s.setMb n { s.mb n with refused := satInc (s.mb n).refused }))) ∧
  (∀ s : State, s.sys.up = true → Becomes .hostReset s (s.resetMaster 32)) ∧
  (∀ (s : State) (n id : Nat), n < 64 → id ≠ 33 → (s.mb n).home.toNat = id → (s.mb n).farReader.toNat ≠ id →
    (s.mb n).lock ≠ some id → ((s.resetMaster id).mb n).toHome = [] ∧
      ((s.resetMaster id).mb n).discard = satAdd (s.mb n).discard (s.mb n).toHome.length) ∧
  (∀ (n : Fin 64) (s : State), s.running = true → 58 ≤ n.val → n.val ≤ 61 → (s.mb n).lock ≠ none →
    ((s.mb n).lockAt + ms 1 ≤ s.sys.mono →
      Completes (.mailboxLockBreak n) s (fun t => (t.mb n).lock = none ∧ (t.mb n).event.getLsbD 2 = true)) ∧
    (s.sys.mono < (s.mb n).lockAt + ms 1 → exec (.mailboxLockBreak n) s = .next s)) ∧
  (∀ (m : Fin 38) (s : State), Completes (.eccCorrectable m) s (fun t => t = { s with mbx := { s.mbx with
    eccCorr := s.mbx.eccCorr.set m (satInc (s.mbx.eccCorr.get 0 m)), event := s.mbx.event ||| 2 } })) ∧
  (∀ s : State, Completes .scrubLate s (fun t => t = { s with mbx := { s.mbx with
    scrubLate := satInc s.mbx.scrubLate, event := s.mbx.event ||| 8 } })) ∧
  (∀ (n : Fin 32) (k : Word) (s : State), Completes (.bankStarve n k) s (fun t =>
    (t.mbx.wait.get 0 n).toNat = max (s.mbx.wait.get 0 n).toNat k.toNat ∧
    (2048 ≤ k.toNat → t.mbx.starve.get 0 n = satInc (s.mbx.starve.get 0 n) ∧ t.mbx.event = s.mbx.event ||| 1) ∧
    (k.toNat < 2048 → t.mbx.starve = s.mbx.starve ∧ t.mbx.event = s.mbx.event) ∧ s.within [.mbx] t)) ∧
  (∀ (n : Fin 68) (s : State), s.sys.up = true → s.portAbsent n = false →
    Becomes (.portStatSnap n) s (s.setPort n { s.port n with snap := (s.port n).stat }) ∧
    Becomes (.portStatClear n) s (s.setPort n { s.port n with stat := [] })) ∧
  (∀ (w : Word) (s : State), s.sys.up = true →
    Becomes (.captureReadAdvance w) s { s with sw := { s.sw with capRd := w } })

namespace Sys2Proof.Machine

/-! ### Rosemary: epochs, commits and recovery (spec/12, spec/13) -/

end Sys2Proof.Machine

open Sys2Proof Sys2Proof.Machine in
/-- The epoch of a running cluster whose last epoch has committed ends when it is due, or early when a limit is near, and
not before, and awaits its commit; a commit makes its end
state the checkpoint and empties its journal and undo log; a commit that has not come in its time, a signature mismatch or a failed
plausibility check takes the cluster back to its checkpoint; a second fault before the replayed epoch commits is fatal
(R312, R375, R377, R384, R385, R386, R388). -/
def Obligations.EpochsCommitOrRollBack : Prop :=
  (∀ (k : Fin 16) (busy : Fin 101) (early : Bool) (s : State), s.running = true → (s.cl k).st.steady = true →
    s.clusterRuns k = true → (s.cl k).awaiting = false →
    ((if early then s.epochDue k = false ∧ s.epochTight k = true else s.epochDue k = true) →
      Becomes (.epochEnd k busy early) s (s.endEpoch k busy early)) ∧
    (s.epochDue k = false → exec (.epochEnd k busy false) s = .next s)) ∧
  (∀ (k : Fin 16) (s : State), s.running = true → (s.cl k).st.steady = true → (s.cl k).awaiting = true →
    s.dbgHeld k = false → Completes (.epochCommit k) s (fun t =>
      let c := s.cl k
      (t.cl k).ckptLo = c.endLo ∧ (t.cl k).ckptHi = c.endHi ∧ (t.cl k).jPrev = [] ∧ (t.cl k).undoPrev = [] ∧
      (t.cl k).awaiting = false ∧ (t.cl k).closing = false ∧ (t.cl k).commits = c.commits + 1 ∧
      (t.cl k).jCur = c.jCur ∧ (t.cl k).outbox = c.outbox ∧ (∀ j, j ≠ k.val → t.cl j = s.cl j) ∧
      (∀ e, t.core e = s.core e) ∧ t.mem.bank = s.mem.bank)) ∧
  (∀ (k : Fin 16) (s : State), s.running = true → (s.cl k).awaiting = true → s.dbgHeld k = false →
    ((s.cl k).endedAt + 800 ≤ s.sys.mono →
      Becomes (.commitDeadlineMiss k .signature) s (s.draw.rollback { k := k, cls := 1 }) ∧
      Becomes (.commitDeadlineMiss k .ecc) s (s.draw.rollback { k := k, cls := 3 })) ∧
    (∀ why, s.sys.mono < (s.cl k).endedAt + 800 → exec (.commitDeadlineMiss k why) s = .next s)) ∧
  (∀ (k : Fin 16) (s : State), s.checks k = true → s.paired k = true →
    Becomes (.signatureMismatch k) s (s.rollback { k := k, cls := 1, sig := some (s.core (2 * k.val)).ret })) ∧
  (∀ (e : Fin 32) (s : State), s.checks (e.val / 2) = true → s.fenced e = false → (s.eng (s.lead e)).st = .running →
    (s.twin (e.val / 2) = true → Becomes (.plausibilityFail e) s (s.rollback
      { k := e.val / 2, cls := 1, logEng := e, sig := some (s.core (s.lead e)).ret })) ∧
    (s.twin (e.val / 2) = false → Becomes (.plausibilityFail e) s (s.rollback
      { k := e.val / 2, cls := 1, eng := some e.val, logEng := e }))) ∧
  (∀ (f : Flaw) (s : State), (s.cl f.k).st.steady = true → (s.cl f.k).closing = false →
    let t := s.rollback f
    (t.cl f.k).st = .restore ∧ (t.cl f.k).rolls = satInc (s.cl f.k).rolls ∧ t.rmy.rollback = satInc s.rmy.rollback ∧
    (t.cl f.k).jPrev = (s.cl f.k).jPrev ∧ (t.cl f.k).jCur = (s.cl f.k).jCur ∧
    (∀ o ∈ (t.cl f.k).outbox, o ∈ (s.cl f.k).outbox ∧
      ((t.recovered f.k).contains o.eng = true → (s.cl f.k).live o.epoch = false)) ∧
    (∀ j, j ≠ f.k → t.cl j = s.cl j) ∧ s.within [.rmy] t) ∧
  (∀ (f : Flaw) (s : State), s.sys.stage ≠ .fatalSeq → (s.cl f.k).st.steady = false ∨ (s.cl f.k).closing = true →
    let t := s.rollback f
    let r := if (s.cl f.k).recurs f = true then 0x01 else 0x02
    t.sys.stage = .fatalSeq ∧ t.sys.faultPin = true ∧
    t.rmy.fatal = some { reason := r, island := clIsland f.k, stamp := s.time.t, rst := s.sys.rstCount } ∧
    t.rmy.fatalAt = s.sys.mono ∧ t.sage.job = none ∧
    (∀ e, (t.eng e).st = .stopped))

namespace Sys2Proof.Machine

/-- Every uncorrectable word but those of a bank or of Sage's bank, by its memory: counted under the memory's number, its
outcome in the classes of Table 13-5 and Table 12-3; a word outside the listed classes is counted in REC_OUTSIDE. -/
def UncorrectableWordsAreHandled : Prop :=
  (∀ (w : EccAt) (s : State), let u := s.countEcc w
    (∀ m, w.index = some m → u.mbx.eccUnc.get 0 m = satInc (s.mbx.eccUnc.get 0 m) ∧ u.mbx.event.getLsbD 2 = true) ∧
    (w.index = none → u = s) ∧ s.within [.mbx] u) ∧
  (∀ (s : State), s.running = true →
    Becomes (.eccUncorrectable (.packet none)) s (s.countEcc (.packet none)) ∧
    (∀ f, Becomes (.eccUncorrectable (.packet (some f))) s ((s.countEcc (.packet (some f))).loseFrame f)) ∧
    (∀ k, Completes (.eccUncorrectable (.journal k false)) s (fun t => (t.cl k).jdamage = true ∧
      t.rmy.event.getLsbD 4 = true ∧ t.rmy.outside = satInc s.rmy.outside ∧ (∀ j, j ≠ k.val → t.cl j = s.cl j))) ∧
    (∀ k, Completes (.eccUncorrectable (.journal k true)) s (fun t => t.rmy.clusters = s.rmy.clusters ∧
      t.rmy.outside = satInc s.rmy.outside)) ∧
    (∀ a v, Completes (.eccUncorrectable (.learned a v)) s (fun t => t.rmy.outside = satInc s.rmy.outside ∧
      t.sw.fdb = s.sw.fdb.filter (fun x => x.static || !(x.addr == a && x.vid == v.toNat)))) ∧
    (∀ d, Completes (.eccUncorrectable (.table d)) s (fun t => t.rmy.tblDrop = satAdd s.rmy.tblDrop d ∧
      t.rmy.outside = satInc s.rmy.outside ∧ t.cfg = s.cfg ∧ t.sw = s.sw)) ∧
    Completes (.eccUncorrectable .hotCache) s (fun t => t.rmy.outside = satInc s.rmy.outside ∧ t.pnt = s.pnt) ∧
    (∀ i, Completes (.eccUncorrectable (.capture i)) s (fun t => t.sw.capLost = satInc s.sw.capLost ∧
      ∀ x, Mem.read 0 t.mem.cap x =
        (if 160 * i.val ≤ x ∧ x < 160 * i.val + 160 then 0 else Mem.read 0 s.mem.cap x))) ∧
    (∀ p i, Completes (.eccUncorrectable (.portStat p false i)) s (fun t => (t.port p).stat.get 0 i = 0 ∧
      (t.port p).snap = (s.port p).snap ∧ t.rmy.outside = satInc s.rmy.outside)) ∧
    (∀ p i, Completes (.eccUncorrectable (.portStat p true i)) s (fun t => (t.port p).snap.get 0 i = 0 ∧
      (t.port p).stat = (s.port p).stat)) ∧
    (∀ i, Completes (.eccUncorrectable (.blockStat i)) s (fun t => t.sw = s.sw.zero i.val ∧
      t.rmy.outside = satInc s.rmy.outside)) ∧
    (∀ n home i, Becomes (.eccUncorrectable (.mailbox n home i)) s
      ((s.countEcc (.mailbox n home i)).mailboxEcc n home i)) ∧
    (∀ u, Completes (.eccUncorrectable (.schedule u false)) s (fun t => t.tt = s.tt ∧
      t.rmy.outside = satInc s.rmy.outside)) ∧
    (∀ off, s.mem.wf = true → Completes (.eccUncorrectable (.service off)) s (fun t =>
      ∀ x, x < off - off % 8 ∨ off - off % 8 + 8 ≤ x → Mem.read 0 t.mem.svc x = Mem.read 0 s.mem.svc x)) ∧
    (∀ p, Becomes (.eccUncorrectable (.dramPoint p)) s (s.pointEcc p.toNat)))

end Sys2Proof.Machine

open Sys2Proof Sys2Proof.Machine in
/-- After the restore the fault is judged: fatal when both engines of a pair fail their self-test or a live journal is
damaged, one engine fenced when it alone fails, transient otherwise; the replay begins at the checkpoint and ends at
the count of the fault. A watchdog that has run out restarts its instance and rolls nothing back; DRAM that stays lost
for 100 ms is fatal; an
uncorrectable bank word of a pair is repaired from the partner; outputs leave the outbox in order, each number once,
and under the COMMIT release only after their epoch's commit (R36, R37, R357, R376, R386, R389 to R392, R395). -/
def Obligations.RecoveryRunsItsCourse : Prop :=
  UncorrectableWordsAreHandled ∧
  (∀ (k : Fin 16) (lo hi : Bool) (s : State), s.running = true → (s.cl k).st = .restore →
    let c := s.cl k
    (c.jdamage = true → Becomes (.restoreComplete k lo hi) s
      (s.fatal 0x03 (clIsland k) c.faultClass c.faultEng c.faultDetail)) ∧
    (c.jdamage = false → s.paired k = true →
      Becomes (.restoreComplete k false false) s (s.fatal 0x01 (clIsland k) 2 c.faultEng c.faultDetail) ∧
      Becomes (.restoreComplete k true false) s
        (((s.logFaultAt c.detT 2 (clIsland k) (2 * k + 1) 1 c.faultDetail).fence (2 * k + 1)).restore k) ∧
      Becomes (.restoreComplete k false true) s
        (((s.logFaultAt c.detT 2 (clIsland k) (2 * k) 1 c.faultDetail).fence (2 * k)).restore k)) ∧
    (c.jdamage = false → lo = true ∧ hi = true ∨ s.paired k = false → Becomes (.restoreComplete k lo hi) s
      ((s.logFaultAt c.detT c.faultClass (clIsland k) c.faultEng 0 c.faultDetail).restore k))) ∧
  (∀ (s : State) (k : Nat), let t := s.restore k
    (t.cl k).st = .replay ∧ (t.cl k).awaiting = false ∧ (t.cl k).jCur = []) ∧
  (∀ (s : State) (e : Nat), ∃ u : State, s.fence e = u.statusPoint (s.lead e) 3 ∧ u.fenced e = true ∧
    u.rmy.fence = satInc s.rmy.fence ∧ u.rmy.event.getLsbD 1 = true ∧ (∀ k, k ≠ e / 2 → u.cl k = s.cl k) ∧
    s.within [.rmy] u) ∧
  (∀ (k : Fin 16) (busy : Fin 101) (s : State), s.running = true → (s.cl k).st = .replay → s.replayDone k = true →
    Becomes (.replayEnd k busy) s (s.closeReplay k busy)) ∧
  (∀ (e : Fin 32) (s : State), s.running = true → s.twin (e.val / 2) = false → s.hasInstance e = true →
    (s.eng e).st = .running → s.recovering e = false →
    (s.unserviced e 1 = true →
      Completes (.watchdogExpiry e) s (fun t => (t.eng e).wdog = satInc (s.eng e).wdog ∧
        (t.eng e).wdsAt = s.sys.mono ∧ t.core e = s.core e ∧
        (t.cl (e.val / 2)).st = (s.cl (e.val / 2)).st ∧ t.rmy.rollback = s.rmy.rollback)) ∧
    (s.unserviced e 1 = false → exec (.watchdogExpiry e) s = .next s)) ∧
  (∀ (s : State) (at_ : Nat), s.running = true → s.sys.dramFail = false →
    (s.rmy.dramFailAt = none → Becomes (.dramIslandFailure .failed) s
      { s with rmy := { s.rmy with dramFailAt := some s.sys.mono } }) ∧
    (s.rmy.dramFailAt = some at_ → Becomes (.dramIslandFailure .cleared) s
      { s with rmy := { s.rmy with dramFailAt := none } }) ∧
    (s.rmy.dramFailAt = some at_ → s.sys.mono < at_ + ms 100 →
      exec (.dramIslandFailure .overdue) s = .next s) ∧
    (s.rmy.dramFailAt = some at_ → at_ + ms 100 ≤ s.sys.mono →
      Completes (.dramIslandFailure .overdue) s (fun t => t.sys.stage = .fatalSeq ∧
        t.rmy.outside = satInc s.rmy.outside ∧ t.rmy.fatal.map FatalRec.reason = some 0x0A))) ∧
  (∀ (e : Fin 32) (line : Fin 6144) (s : State), s.running = true → s.fenced e = false → s.failedLately e line = false →
    s.paired (e.val / 2) = true → Completes (.eccUncorrectable (.bank e line)) s (fun t =>
      t.rmy.repair = satInc s.rmy.repair ∧ t.mem = s.mem ∧
      t.mbx.eccUnc.get 0 e.val = satInc (s.mbx.eccUnc.get 0 e.val) ∧ t.mbx.event.getLsbD 2 = true)) ∧
  (∀ (s : State), s.running = true → Completes (.eccUncorrectable (.sageBank false)) s (fun t =>
      t.rmy.outside = satInc s.rmy.outside ∧ t.mbx.eccUnc.get 0 34 = satInc (s.mbx.eccUnc.get 0 34)) ∧
    Completes (.eccUncorrectable (.sageBank true)) s (fun t =>
      t.sys.stage = .fatalSeq ∧ t.rmy.fatal.map FatalRec.reason = some 0x0B)) ∧
  (∀ (e : Fin 32) (bad : Bool) (s : State), s.running = true → s.outReady e = none →
    Idles (.outboxRelease e bad) s) ∧
  (∀ (e : Fin 32) (bad : Bool) (s u : State) (o : OutEntry) (rest : List OutEntry), s.running = true →
    s.outReady e = some (o, rest) →
    let t := s.setCl (e.val / 2) { s.cl (e.val / 2) with outbox := rest }
    ((s.eng e).hasLeft o.seq = true → Becomes (.outboxRelease e bad) s
      { t with rmy := { t.rmy with suppress := satInc t.rmy.suppress } }) ∧
    ((s.eng e).hasLeft o.seq = false →
      ((t.setEng e { s.eng e with left := o.seq + 1 }).carry o bad = some u → Becomes (.outboxRelease e bad) s u) ∧
      ((t.setEng e { s.eng e with left := o.seq + 1 }).carry o bad = none → Idles (.outboxRelease e bad) s))) ∧
  (∀ (s : State) (e : Nat) (o : OutEntry) (rest : List OutEntry), s.outReady e = some (o, rest) →
    s.commitRel (e / 2) = true → (s.cl (e / 2)).live o.epoch = false)

namespace Sys2Proof.Machine

/-! ### Age and the fatal dump (spec/13, spec/16) -/

end Sys2Proof.Machine

open Sys2Proof Sys2Proof.Machine in
/-- A planning cycle begins only when it is due, no other is under way and no ledger write waits; a rail
whose settling time has passed takes its next increment, or is frozen when a check fails; a canary sample below the
guard drops a boosted island to step 0
or raises its rail by one increment within the ceiling; PMB_ALERT_N freezes a rail with a fault; a deferred step is
applied after the replay; a ledger write takes its slot or is counted as failed (R22, R456 to R460, R464 to R468). -/
def Obligations.AgePlansAndGuards : Prop :=
  (∀ (l : List Sentinel) (eyes : List (Fin 20 × Byte × BitVec 16)) (s : State), s.running = true →
    (s.age.cycle = none → s.age.write = none → s.planDue = true → Completes (.planningCycle l eyes) s (fun t =>
      t.age.began = some s.time.t ∧
      (t.age.cycle = some s.time.t ∨ t.age.cycle = none ∧ t.age.write.isSome = true))) ∧
    (s.age.write.isSome = true ∨ s.planDue = false → exec (.planningCycle l eyes) s = .next s)) ∧
  (∀ s : State, (s.age.began = none → (s.planDue = true ↔ s.sys.readyAt + sec 60 ≤ s.sys.mono)) ∧
    (∀ b, s.age.began = some b → (s.planDue = true ↔ b.toNat + sec 599 ≤ s.time.t.toNat))) ∧
  (∀ (r : Fin 3) (x : RailCheck) (s : State), s.running = true → (s.rail r).target.isSome = true →
    (s.sys.mono < (s.rail r).incrAt + s.settleTime r → exec (.railSettle r x) s = .next s) ∧
    ((s.rail r).incrAt + s.settleTime r ≤ s.sys.mono → x.ack = false ∨ x.linear = false ∧ s.pmbus r = true →
      Completes (.railSettle r x) s (fun t => (t.rail r).frozen = true ∧ (t.rail r).target = none ∧
      (t.rail r).set = (s.rail r).set ∧ (t.rail r).status = x.status ∧ t.age.railFail = satInc s.age.railFail ∧
      t.age.event.getLsbD 2 = true)) ∧
    (∀ v, (s.rail r).incrAt + s.settleTime r ≤ s.sys.mono → x.ack = true → x.linear = true ∨ s.pmbus r = false →
      near15 x.readback.toNat (s.rail r).set = true → x.islands = [] → (s.rail r).target = some v → v ≠ (s.rail r).set →
      Completes (.railSettle r x) s (fun t =>
        t.rail r = { ({ s.rail r with readback := x.readback } : AgeRail).next with incrAt := s.sys.mono } ∧
        (∀ q, q ≠ r.val → t.rail q = s.rail q) ∧ t.age.island = s.age.island ∧ t.age.event = s.age.event))) ∧
  (∀ (x : AgeRail) (v : Nat), x.target = some v →
    (v = x.set → x.next = { x with target := none }) ∧
    (x.set < v → x.next.set = min v (x.set + 10) ∧ x.next.target = some v) ∧
    (v < x.set → x.next.set = max v (x.set - 10) ∧ x.next.target = some v)) ∧
  (∀ (i : Fin 46) (slack : Int) (s : State), s.running = true →
    ((s.guardPs : Int) ≤ slack → exec (.fastGuardTrip i slack) s = .next s) ∧
    (slack < (s.guardPs : Int) → Completes (.fastGuardTrip i slack) s (fun t =>
      t.age.guardTrip = satInc s.age.guardTrip ∧ t.age.event.getLsbD 0 = true ∧ (t.island i).guard = true))) ∧
  (∀ (i : Fin 46) (slack : Int) (r : Nat) (s : State), s.running = true → slack < (s.guardPs : Int) →
    railOf i = some r → (s.island i).step = 0 →
    (s.rail r).frozen = false → (s.rail r).set < s.ceilingMv r → Completes (.fastGuardTrip i slack) s (fun t =>
      (t.rail r).set = min ((s.rail r).set + 10) (s.ceilingMv r) ∧ (t.island i).step = 0 ∧
      (∀ q, q ≠ r → t.rail q = s.rail q))) ∧
  (∀ (i : Fin 46) (slack : Int) (s : State), s.running = true → slack < (s.guardPs : Int) → 0 < (s.island i).step →
    (i.val < 30 ∨ (s.cl (i.val - 30)).st.recovers = false) →
    Completes (.fastGuardTrip i slack) s (fun t => (t.island i).step = 0 ∧ t.age.rail = s.age.rail)) ∧
  (∀ (r : Fin 3) (f : Bool) (b : Byte) (s : State), s.running = true →
    (s.fld 0x0C02 r 0 1 0 ≠ 1 → Becomes (.pmbAlert [(r, f, b)]) s s.cycleDone) ∧
    (s.fld 0x0C02 r 0 1 0 = 1 → f = true → (s.rail r).frozen = false → Completes (.pmbAlert [(r, f, b)]) s (fun t =>
      (t.rail r).frozen = true ∧ (t.rail r).alert = true ∧ (t.rail r).status = b ∧ (t.rail r).target = none))) ∧
  (∀ (k : Fin 16) (n : Nat) (s : State), s.running = true → (s.cl k).st.steady = true → (s.cl k).stepDue = some n →
    Completes (.stepDeferApply k) s (fun t => (t.island (30 + k.val)).step = n ∧ (t.cl k).stepDue = none ∧
      (∀ j, j ≠ 30 + k.val → t.island j = s.island j) ∧ s.within [.age, .rmy, .sys, .host] t)) ∧
  (∀ (b : List Byte) (s : State), s.running = true → s.age.write = some b →
    (∀ r, s.ledger? = some r → Completes (.ledgerWriteComplete true) s (fun t =>
      t.age.ledgerSeq = BitVec.ofNat 64 s.age.nextSeq ∧ t.age.nextSeq = s.age.nextSeq + 1 ∧ t.age.write = none ∧
      t.age.planCount = satInc s.age.planCount ∧
      t.mem.nvm = ((s.nvmErase (r.off + s.age.nextSeq % 64 * 4096) 4096).nvmWrite
        (r.off + s.age.nextSeq % 64 * 4096) b).mem.nvm)) ∧
    Completes (.ledgerWriteComplete false) s (fun t => t.mem = s.mem ∧ t.age.write = none ∧
      t.age.ledgerSeq = s.age.ledgerSeq ∧ t.age.ledgerFail = satInc s.age.ledgerFail ∧ t.age.event.getLsbD 8 = true))

open Sys2Proof Sys2Proof.Machine in
/-- A fatal error closes every transmitter, stops every engine, asserts FAULT_N and offers the dump; the dump goes to
an empty slot and is otherwise counted as lost; after READY a written dump is shown in the window, cleared on request
and its slot erased; a latched record becomes a dump of its own (R396 to R403). -/
def Obligations.FatalErrorsLeaveADump : Prop :=
  (∀ (s : State) (reason island cls eng : Nat) (detail : Word), s.sys.stage ≠ .fatalSeq →
    let t := s.fatal reason island cls eng detail
    t.sys.stage = .fatalSeq ∧ t.sys.faultPin = true ∧ t.sys.ready = false ∧ (∀ e, (t.eng e).st = .stopped) ∧
    (∀ n, (t.port n).tx = none ∧ (t.port n).held = none) ∧
    t.rmy.fatal = some { reason := reason, island := island, stamp := s.time.t, rst := s.sys.rstCount } ∧
    t.rmy.fatalAt = s.sys.mono ∧ t.rmy.logWr = s.rmy.logWr + 1 ∧ t.sage.job = none ∧ t.host.img = none ∧
    t.mem = s.cutJob.mem ∧ (s.sage.job = none → t.mem = s.mem) ∧ t.cfg = s.cfg) ∧
  (∀ s : State, s.running = true → s.rmy.dumpState ≠ 1 →
    (let u := s.fatal 0x08 0 10
     Becomes (.fatalError (some .alwaysOn)) s (u.offerDump ((u.rmy.fatal).getD ⟨0, 0, 0, 0⟩)) ∧
     u.rmy.fatal.map FatalRec.reason = some 0x08)) ∧
  (∀ (s : State) (f : FatalRec), s.sys.stage = .fatalSeq → s.rmy.fatal = some f →
    (f.reason ≠ 4 → s.rmy.dumpState ≠ 1 → Becomes (.fatalError none) s (s.offerDump f)) ∧
    (f.reason = 4 ∨ s.rmy.dumpState = 1 → Idles (.fatalError none) s)) ∧
  (∀ (s : State) (f : FatalRec), let t := s.offerDump f
    t.rmy.dumpState = 1 ∧ t.rmy.dumpReason = BitVec.ofNat 8 f.reason ∧ t.rmy.dumpUnsigned = s.sage.pufFail ∧
    t.rmy.dumpRel = false ∧ t.rmy.dumpEvent.getLsbD 0 = true ∧ t.mem = s.mem ∧
    t.rmy.dumpLost = (if s.dumpBlocked = true then satInc s.rmy.dumpLost else s.rmy.dumpLost)) ∧
  (∀ (s : State) (r : Region), s.region? 5 0 = some r → s.sys.stage = .fatalSeq → s.rmy.dumpState = 1 →
    (s.rmy.dumpWritten = false → s.dumpBlocked = false →
      let t := s.storeDump r
      Becomes .dumpNvmWriteComplete s { t with rmy := { t.rmy with dumpWritten := true, dumpPresent := true } }) ∧
    (s.dumpBlocked = true → exec .dumpNvmWriteComplete s = .next s)) ∧
  (∀ (s : State) (r : Region), s.running = true → s.region? 5 0 = some r → s.rmy.dumpPresent = true →
    s.rmy.dumpState = 0 → Completes .dumpCopyComplete s (fun t => t.rmy.dumpState = 2 ∧ t.rmy.dumpWritten = false ∧
      t.rmy.dumpEvent.getLsbD 1 = true ∧ t.mem = s.mem ∧ (s.sys.dramFail = true → t.rmy.dumpWin = []))) ∧
  (∀ s : State, s.sys.up = true →
    (s.rmy.dumpState = 2 → Completes .dumpClear s (fun t => t.rmy.dumpState = 3 ∧ t.rmy.erasing = true ∧
      t.rmy.dumpWin = [] ∧ t.dumpStatus = 3 ∧ t.mem = s.mem)) ∧
    (s.rmy.dumpState ≠ 2 → Idles .dumpClear s) ∧
    (s.rmy.dumpState = 1 → Becomes .dumpRelease s { s with rmy := { s.rmy with dumpRel := true } }) ∧
    (s.rmy.dumpState ≠ 1 → Idles .dumpRelease s)) ∧
  (∀ s : State, s.running = true → s.rmy.erasing = true → Completes .dumpEraseComplete s (fun t =>
    t.rmy.dumpState = 0 ∧ t.rmy.erasing = false ∧ t.rmy.dumpEvent.getLsbD 2 = true ∧
    t.mem.nvm = (s.eraseRegion 5 0).mem.nvm)) ∧
  (∀ (s : State) (f : FatalRec) (r : Region), s.running = true → s.rmy.latched = some f → s.region? 5 0 = some r →
    (s.dumpBlocked = true → Becomes .reasonOnlyDumpWrite s
      { s with rmy := { s.rmy with latched := none, dumpLost := satInc s.rmy.dumpLost } }) ∧
    (s.dumpBlocked = false → Completes .reasonOnlyDumpWrite s (fun t =>
      t.rmy.latched = none ∧ t.rmy.dumpPresent = true ∧ t.rmy.dumpLost = s.rmy.dumpLost)))

namespace Sys2Proof.Machine


end Sys2Proof.Machine
end

