-- ==== Sys2Proof/Laws/Bits.lean ====
section
/-! SUPPORT. Numbers as bytes and back. -/

namespace Sys2Proof

/-- Bytes written least significant first read back as the number they hold. -/
theorem leNat_leBytes (n x : Nat) : leNat (leBytes n x) = x % 256 ^ n := by
  induction n generalizing x with
  | zero => simp [leBytes, leNat, Nat.mod_one]
  | succ n ih =>
    have h : (BitVec.ofNat 8 x).toNat = x % 256 := by simp
    simp only [leBytes, leNat, ih, h]
    rw [Nat.pow_succ, Nat.mul_comm (256 ^ n), Nat.mod_mul]

/-- Wire order reads the same bytes from the other end. -/
theorem beNat_reverse (l : List Byte) : beNat l.reverse = leNat l := by
  induction l with
  | nil => rfl
  | cons b l ih =>
    simp only [beNat, List.reverse_cons, List.foldl_append, List.foldl_cons, List.foldl_nil, leNat] at *
    omega

/-- Bytes written most significant first read back as the number they hold. -/
theorem beNat_beBytes (n x : Nat) : beNat (beBytes n x) = x % 256 ^ n := by
  rw [beBytes, beNat_reverse, leNat_leBytes]

end Sys2Proof
end

