-- ==== Sys2Proof/Laws/Dispatch.lean ====
section
/-! SUPPORT. Each arm of the dispatch, so that no proof unfolds exec. -/

namespace Sys2Proof.Machine

@[simp] theorem exec_porNAssert (s : State) :
    exec (.porNAssert) s = execPorNAssert s := rfl
@[simp] theorem exec_supplyMonitorReset (rail : Fin 10) (mv : Nat) (s : State) :
    exec (.supplyMonitorReset rail mv) s = execSupplyMonitorReset rail mv s := rfl
@[simp] theorem exec_thermalTrip (tj : Int) (s : State) :
    exec (.thermalTrip tj) s = execThermalTrip tj s := rfl
@[simp] theorem exec_thermalRelease (x : Clocks) (tj : Int) (s : State) :
    exec (.thermalRelease x tj) s = execThermalRelease x tj s := rfl
@[simp] theorem exec_warmNAssert (s : State) :
    exec (.warmNAssert) s = execWarmNAssert s := rfl
@[simp] theorem exec_sageWatchdogExpiry (s : State) :
    exec (.sageWatchdogExpiry) s = execSageWatchdogExpiry s := rfl
@[simp] theorem exec_pePerstNAssert (s : State) :
    exec (.pePerstNAssert) s = execPePerstNAssert s := rfl
@[simp] theorem exec_pePerstNRelease (link : Option PcieLink) (s : State) :
    exec (.pePerstNRelease link) s = execPePerstNRelease link s := rfl
@[simp] theorem exec_trstNAssert (s : State) :
    exec (.trstNAssert) s = execTrstNAssert s := rfl
@[simp] theorem exec_porNRelease (x : Clocks) (s : State) :
    exec (.porNRelease x) s = execPorNRelease x s := rfl
@[simp] theorem exec_resetClockCheck (x : Clocks) (s : State) :
    exec (.resetClockCheck x) s = execResetClockCheck x s := rfl
@[simp] theorem exec_refclkAAbsentTimeout (s : State) :
    exec (.refclkAAbsentTimeout) s = execRefclkAAbsentTimeout s := rfl
@[simp] theorem exec_wipeComplete (f : BootFind) (s : State) :
    exec (.wipeComplete f) s = execWipeComplete f s := rfl
@[simp] theorem exec_wipeTimeout (s : State) :
    exec (.wipeTimeout) s = execWipeTimeout s := rfl
@[simp] theorem exec_alarmHoldEnd (s : State) :
    exec (.alarmHoldEnd) s = execAlarmHoldEnd s := rfl
@[simp] theorem exec_voterDisagreement (core : Fin 3) (s : State) :
    exec (.voterDisagreement core) s = execVoterDisagreement core s := rfl
@[simp] theorem exec_trngHealthFail (restarted : Bool) (s : State) :
    exec (.trngHealthFail restarted) s = execTrngHealthFail restarted s := rfl
@[simp] theorem exec_requestBodyTimeout (s : State) :
    exec (.requestBodyTimeout) s = execRequestBodyTimeout s := rfl
@[simp] theorem exec_requestReservedClass (q : Req) (code : BitVec 12) (s : State) :
    exec (.requestReservedClass q code) s = execRequestReservedClass q code s := rfl
@[simp] theorem exec_sageResponseDeliver (n : Fin 64) (s : State) :
    exec (.sageResponseDeliver n) s = execSageResponseDeliver n s := rfl
@[simp] theorem exec_challenge (q : Req) (s : State) :
    exec (.challenge q) s = execChallenge q s := rfl
@[simp] theorem exec_attestation (q : Req) (s : State) :
    exec (.attestation q) s = execAttestation q s := rfl
@[simp] theorem exec_tableEditCore (q : Req) (s : State) :
    exec (.tableEditCore q) s = execTableEditCore q s := rfl
@[simp] theorem exec_tableEditPort (q : Req) (s : State) :
    exec (.tableEditPort q) s = execTableEditPort q s := rfl
@[simp] theorem exec_tableEditRed (q : Req) (s : State) :
    exec (.tableEditRed q) s = execTableEditRed q s := rfl
@[simp] theorem exec_tableEditMeter (q : Req) (s : State) :
    exec (.tableEditMeter q) s = execTableEditMeter q s := rfl
@[simp] theorem exec_tableEditVlan (q : Req) (s : State) :
    exec (.tableEditVlan q) s = execTableEditVlan q s := rfl
@[simp] theorem exec_tableEditFdb (q : Req) (s : State) :
    exec (.tableEditFdb q) s = execTableEditFdb q s := rfl
@[simp] theorem exec_tableEditMcast (q : Req) (s : State) :
    exec (.tableEditMcast q) s = execTableEditMcast q s := rfl
@[simp] theorem exec_tableEditRule (q : Req) (s : State) :
    exec (.tableEditRule q) s = execTableEditRule q s := rfl
@[simp] theorem exec_tableEditBatch (q : Req) (s : State) :
    exec (.tableEditBatch q) s = execTableEditBatch q s := rfl
@[simp] theorem exec_linkCostSet (q : Req) (s : State) :
    exec (.linkCostSet q) s = execLinkCostSet q s := rfl
@[simp] theorem exec_deviceExclude (q : Req) (s : State) :
    exec (.deviceExclude q) s = execDeviceExclude q s := rfl
@[simp] theorem exec_routeRecompute (q : Req) (s : State) :
    exec (.routeRecompute q) s = execRouteRecompute q s := rfl
@[simp] theorem exec_keySign (q : Req) (tagOk : Bool) (s : State) :
    exec (.keySign q tagOk) s = execKeySign q tagOk s := rfl
@[simp] theorem exec_keyExchange (q : Req) (tagOk : Bool) (onCurve : Bool) (s : State) :
    exec (.keyExchange q tagOk onCurve) s = execKeyExchange q tagOk onCurve s := rfl
@[simp] theorem exec_keyExport (q : Req) (tagOk : Bool) (s : State) :
    exec (.keyExport q tagOk) s = execKeyExport q tagOk s := rfl
@[simp] theorem exec_timeStepRequest (q : Req) (s : State) :
    exec (.timeStepRequest q) s = execTimeStepRequest q s := rfl
@[simp] theorem exec_timeSetRequest (q : Req) (s : State) :
    exec (.timeSetRequest q) s = execTimeSetRequest q s := rfl
@[simp] theorem exec_utcOffsetSet (q : Req) (s : State) :
    exec (.utcOffsetSet q) s = execUtcOffsetSet q s := rfl
@[simp] theorem exec_scheduleLoad (q : Req) (s : State) :
    exec (.scheduleLoad q) s = execScheduleLoad q s := rfl
@[simp] theorem exec_scheduleSwapRequest (q : Req) (s : State) :
    exec (.scheduleSwapRequest q) s = execScheduleSwapRequest q s := rfl
@[simp] theorem exec_scheduleSwap (chan : Option (Fin 16)) (s : State) :
    exec (.scheduleSwap chan) s = execScheduleSwap chan s := rfl
@[simp] theorem exec_chiveProgramWrite (q : Req) (s : State) :
    exec (.chiveProgramWrite q) s = execChiveProgramWrite q s := rfl
@[simp] theorem exec_chiveRestartRequest (q : Req) (s : State) :
    exec (.chiveRestartRequest q) s = execChiveRestartRequest q s := rfl
@[simp] theorem exec_personalityRestart (q : Req) (s : State) :
    exec (.personalityRestart q) s = execPersonalityRestart q s := rfl
@[simp] theorem exec_personalityStop (q : Req) (s : State) :
    exec (.personalityStop q) s = execPersonalityStop q s := rfl
@[simp] theorem exec_personalityStart (q : Req) (s : State) :
    exec (.personalityStart q) s = execPersonalityStart q s := rfl
@[simp] theorem exec_instanceRestart (e : Fin 32) (ok : Bool) (s : State) :
    exec (.instanceRestart e ok) s = execInstanceRestart e ok s := rfl
@[simp] theorem exec_storeAppendOpen (q : Req) (s : State) :
    exec (.storeAppendOpen q) s = execStoreAppendOpen q s := rfl
@[simp] theorem exec_storeAppendWrite (q : Req) (s : State) :
    exec (.storeAppendWrite q) s = execStoreAppendWrite q s := rfl
@[simp] theorem exec_storeAppendCommit (q : Req) (v : Verdict) (vpkSig : Bool) (nvmOk : Bool) (s : State) :
    exec (.storeAppendCommit q v vpkSig nvmOk) s = execStoreAppendCommit q v vpkSig nvmOk s := rfl
@[simp] theorem exec_storeEntryRemove (q : Req) (s : State) :
    exec (.storeEntryRemove q) s = execStoreEntryRemove q s := rfl
@[simp] theorem exec_storeErase (q : Req) (v : Verdict) (s : State) :
    exec (.storeErase q v) s = execStoreErase q v s := rfl
@[simp] theorem exec_nvmWriteComplete (ok : Bool) (s : State) :
    exec (.nvmWriteComplete ok) s = execNvmWriteComplete ok s := rfl
@[simp] theorem exec_quotaChange (q : Req) (s : State) :
    exec (.quotaChange q) s = execQuotaChange q s := rfl
@[simp] theorem exec_pointGrantSet (q : Req) (s : State) :
    exec (.pointGrantSet q) s = execPointGrantSet q s := rfl
@[simp] theorem exec_pointGrantRemove (q : Req) (s : State) :
    exec (.pointGrantRemove q) s = execPointGrantRemove q s := rfl
@[simp] theorem exec_pointSubstitute (q : Req) (s : State) :
    exec (.pointSubstitute q) s = execPointSubstitute q s := rfl
@[simp] theorem exec_pointSubstituteEnd (q : Req) (s : State) :
    exec (.pointSubstituteEnd q) s = execPointSubstituteEnd q s := rfl
@[simp] theorem exec_subscriptionAppend (q : Req) (s : State) :
    exec (.subscriptionAppend q) s = execSubscriptionAppend q s := rfl
@[simp] theorem exec_subscriptionRemove (q : Req) (s : State) :
    exec (.subscriptionRemove q) s = execSubscriptionRemove q s := rfl
@[simp] theorem exec_imageWriteOpen (q : Req) (s : State) :
    exec (.imageWriteOpen q) s = execImageWriteOpen q s := rfl
@[simp] theorem exec_imageWriteData (q : Req) (nvmOk : Bool) (s : State) :
    exec (.imageWriteData q nvmOk) s = execImageWriteData q nvmOk s := rfl
@[simp] theorem exec_imageWriteCommit (q : Req) (v : Verdict) (pers : Bool) (nvmOk : Bool) (s : State) :
    exec (.imageWriteCommit q v pers nvmOk) s = execImageWriteCommit q v pers nvmOk s := rfl
@[simp] theorem exec_imageWriteClose (q : Req) (s : State) :
    exec (.imageWriteClose q) s = execImageWriteClose q s := rfl
@[simp] theorem exec_imageWriteStatus (q : Req) (s : State) :
    exec (.imageWriteStatus q) s = execImageWriteStatus q s := rfl
@[simp] theorem exec_imageWriteAbandon (nvm : Bool) (s : State) :
    exec (.imageWriteAbandon nvm) s = execImageWriteAbandon nvm s := rfl
@[simp] theorem exec_lifecycleProvision (q : Req) (s : State) :
    exec (.lifecycleProvision q) s = execLifecycleProvision q s := rfl
@[simp] theorem exec_lifecycleOperational (q : Req) (v : Verdict) (s : State) :
    exec (.lifecycleOperational q v) s = execLifecycleOperational q v s := rfl
@[simp] theorem exec_lifecycleServiceEntry (q : Req) (v : Verdict) (s : State) :
    exec (.lifecycleServiceEntry q v) s = execLifecycleServiceEntry q v s := rfl
@[simp] theorem exec_lifecycleServiceExit (q : Req) (s : State) :
    exec (.lifecycleServiceExit q) s = execLifecycleServiceExit q s := rfl
@[simp] theorem exec_lifecycleRetire (q : Req) (v : Verdict) (s : State) :
    exec (.lifecycleRetire q v) s = execLifecycleRetire q v s := rfl
@[simp] theorem exec_ownerRotate (q : Req) (v : Verdict) (s : State) :
    exec (.ownerRotate q v) s = execOwnerRotate q v s := rfl
@[simp] theorem exec_lifecycleColdReset (s : State) :
    exec (.lifecycleColdReset) s = execLifecycleColdReset s := rfl
@[simp] theorem exec_debugUnlock (q : Req) (v : Verdict) (s : State) :
    exec (.debugUnlock q v) s = execDebugUnlock q v s := rfl
@[simp] theorem exec_debugLock (q : Req) (s : State) :
    exec (.debugLock q) s = execDebugLock q s := rfl
@[simp] theorem exec_debugScopeExpiry (s : State) :
    exec (.debugScopeExpiry) s = execDebugScopeExpiry s := rfl
@[simp] theorem exec_resetRequest (q : Req) (s : State) :
    exec (.resetRequest q) s = execResetRequest q s := rfl
@[simp] theorem exec_requestedWarmReset (s : State) :
    exec (.requestedWarmReset) s = execRequestedWarmReset s := rfl
@[simp] theorem exec_keyImport (q : Req) (op : Byte) (keyLen : Option (BitVec 8)) (s : State) :
    exec (.keyImport q op keyLen) s = execKeyImport q op keyLen s := rfl
@[simp] theorem exec_ownerCertificateWrite (q : Req) (op : Byte) (s : State) :
    exec (.ownerCertificateWrite q op) s = execOwnerCertificateWrite q op s := rfl
@[simp] theorem exec_refclkALoss (s : State) :
    exec (.refclkALoss) s = execRefclkALoss s := rfl
@[simp] theorem exec_refclkARestore (s : State) :
    exec (.refclkARestore) s = execRefclkARestore s := rfl
@[simp] theorem exec_refclkBLoss (s : State) :
    exec (.refclkBLoss) s = execRefclkBLoss s := rfl
@[simp] theorem exec_servoSample (source : Fin 4) (m : Sample) (utc : Option UtcInfo) (s : State) :
    exec (.servoSample source m utc) s = execServoSample source m utc s := rfl
@[simp] theorem exec_servoStepApply (s : State) :
    exec (.servoStepApply) s = execServoStepApply s := rfl
@[simp] theorem exec_sourceLossTimeout (s : State) :
    exec (.sourceLossTimeout) s = execSourceLossTimeout s := rfl
@[simp] theorem exec_leapSecond (s : State) :
    exec (.leapSecond) s = execLeapSecond s := rfl
@[simp] theorem exec_ppsOutEdge (rise : Bool) (s : State) :
    exec (.ppsOutEdge rise) s = execPpsOutEdge rise s := rfl
@[simp] theorem exec_ppsInEdge (stamp : DWord) (s : State) :
    exec (.ppsInEdge stamp) s = execPpsInEdge stamp s := rfl
@[simp] theorem exec_ppsInTimeout (s : State) :
    exec (.ppsInTimeout) s = execPpsInTimeout s := rfl
@[simp] theorem exec_irigBFrame (f : IrigFrame) (s : State) :
    exec (.irigBFrame f) s = execIrigBFrame f s := rfl
@[simp] theorem exec_irigBLossTimeout (s : State) :
    exec (.irigBLossTimeout) s = execIrigBLossTimeout s := rfl
@[simp] theorem exec_autonegotiationAttempt (p : Fin 64) (speed : Fin 4) (full : Bool) (s : State) :
    exec (.autonegotiationAttempt p speed full) s = execAutonegotiationAttempt p speed full s := rfl
@[simp] theorem exec_linkUp (p : Fin 68) (sdRx : BitVec 16) (sdTx : BitVec 16) (s : State) :
    exec (.linkUp p sdRx sdTx) s = execLinkUp p sdRx sdTx s := rfl
@[simp] theorem exec_linkDown (p : Fin 68) (s : State) :
    exec (.linkDown p) s = execLinkDown p s := rfl
@[simp] theorem exec_laneFault (lane : Fin 20) (s : State) :
    exec (.laneFault lane) s = execLaneFault lane s := rfl
@[simp] theorem exec_highBer (p : Fin 4) (s : State) :
    exec (.highBer p) s = execHighBer p s := rfl
@[simp] theorem exec_frameClassify (p : Fin 64) (head : List Byte) (len : Nat) (prp : Bool) (raw : DWord) (s : State) :
    exec (.frameClassify p head len prp raw) s = execFrameClassify p head len prp raw s := rfl
@[simp] theorem exec_frameReceiveEnd (p : Fin 68) (b : List Byte) (pcs : Pcs) (raw : DWord) (s : State) :
    exec (.frameReceiveEnd p b pcs raw) s = execFrameReceiveEnd p b pcs raw s := rfl
@[simp] theorem exec_fdbAgeOut (addr : BitVec 48) (vid : BitVec 12) (s : State) :
    exec (.fdbAgeOut addr vid) s = execFdbAgeOut addr vid s := rfl
@[simp] theorem exec_pauseFrame (p : Fin 64) (quanta : BitVec 16) (s : State) :
    exec (.pauseFrame p quanta) s = execPauseFrame p quanta s := rfl
@[simp] theorem exec_pfcFrame (p : Fin 64) (classes : BitVec 8) (quanta : List (BitVec 16)) (s : State) :
    exec (.pfcFrame p classes quanta) s = execPfcFrame p classes quanta s := rfl
@[simp] theorem exec_pauseQuantaExpiry (p : Fin 64) (classes : BitVec 8) (s : State) :
    exec (.pauseQuantaExpiry p classes) s = execPauseQuantaExpiry p classes s := rfl
@[simp] theorem exec_pauseWatchdog (p : Fin 64) (s : State) :
    exec (.pauseWatchdog p) s = execPauseWatchdog p s := rfl
@[simp] theorem exec_pauseHoldoffEnd (p : Fin 64) (s : State) :
    exec (.pauseHoldoffEnd p) s = execPauseHoldoffEnd p s := rfl
@[simp] theorem exec_verifyAttempt (p : Fin 64) (responds : Bool) (s : State) :
    exec (.verifyAttempt p responds) s = execVerifyAttempt p responds s := rfl
@[simp] theorem exec_fragmentReceive (p : Fin 64) (x : Frag) (s : State) :
    exec (.fragmentReceive p x) s = execFragmentReceive p x s := rfl
@[simp] theorem exec_ddEntryAgeOut (pair : Fin 32) (addr : BitVec 48) (seq : BitVec 16) (s : State) :
    exec (.ddEntryAgeOut pair addr seq) s = execDdEntryAgeOut pair addr seq s := rfl
@[simp] theorem exec_supervisionFrameSend (pair : Fin 32) (s : State) :
    exec (.supervisionFrameSend pair) s = execSupervisionFrameSend pair s := rfl
@[simp] theorem exec_cellArrival (inp : Fin 37) (out : Fin 85) (seq : Nat) (crcGood : Bool) (s : State) :
    exec (.cellArrival inp out seq crcGood) s = execCellArrival inp out seq crcGood s := rfl
@[simp] theorem exec_cellAckTimeout (inp : Fin 37) (out : Fin 85) (seq : Nat) (s : State) :
    exec (.cellAckTimeout inp out seq) s = execCellAckTimeout inp out seq s := rfl
@[simp] theorem exec_planeTestFail (plane : Fin 5) (s : State) :
    exec (.planeTestFail plane) s = execPlaneTestFail plane s := rfl
@[simp] theorem exec_frameTransmitStart (p : Fin 68) (s : State) :
    exec (.frameTransmitStart p) s = execFrameTransmitStart p s := rfl
@[simp] theorem exec_frameTransmitEnd (p : Fin 68) (frag : Option Nat) (s : State) :
    exec (.frameTransmitEnd p frag) s = execFrameTransmitEnd p frag s := rfl
@[simp] theorem exec_guardianDeadlineDrop (p : Fin 64) (c : Fin 8) (s : State) :
    exec (.guardianDeadlineDrop p c) s = execGuardianDeadlineDrop p c s := rfl
@[simp] theorem exec_gateEntryBoundary (p : Fin 64) (s : State) :
    exec (.gateEntryBoundary p) s = execGateEntryBoundary p s := rfl
@[simp] theorem exec_ttResume (p : Fin 64) (s : State) :
    exec (.ttResume p) s = execTtResume p s := rfl
@[simp] theorem exec_guardCut (p : Fin 64) (s : State) :
    exec (.guardCut p) s = execGuardCut p s := rfl
@[simp] theorem exec_guardianCompare (diff : Int) (s : State) :
    exec (.guardianCompare diff) s = execGuardianCompare diff s := rfl
@[simp] theorem exec_guardianRearm (s : State) :
    exec (.guardianRearm) s = execGuardianRearm s := rfl
@[simp] theorem exec_guardEcc (u : Fin 80) (s : State) :
    exec (.guardEcc u) s = execGuardEcc u s := rfl
@[simp] theorem exec_instantIssue (j : Fin 8) (s : State) :
    exec (.instantIssue j) s = execInstantIssue j s := rfl
@[simp] theorem exec_referenceMessageSend (c : Fin 16) (edge : DWord) (s : State) :
    exec (.referenceMessageSend c edge) s = execReferenceMessageSend c edge s := rfl
@[simp] theorem exec_coldStart (c : Fin 16) (edge : DWord) (s : State) :
    exec (.coldStart c edge) s = execColdStart c edge s := rfl
@[simp] theorem exec_refLost (c : Fin 16) (s : State) :
    exec (.refLost c) s = execRefLost c s := rfl
@[simp] theorem exec_canGuardCut (c : Fin 16) (s : State) :
    exec (.canGuardCut c) s = execCanGuardCut c s := rfl
@[simp] theorem exec_helloSend (n : Fin 4) (s : State) :
    exec (.helloSend n) s = execHelloSend n s := rfl
@[simp] theorem exec_hello (n : Fin 4) (m : HelloMsg) (s : State) :
    exec (.hello n m) s = execHello n m s := rfl
@[simp] theorem exec_admitFrame (n : Fin 4) (m : AdmitMsg) (s : State) :
    exec (.admitFrame n m) s = execAdmit n m s := rfl
@[simp] theorem exec_admissionTimeout (n : Fin 4) (s : State) :
    exec (.admissionTimeout n) s = execAdmissionTimeout n s := rfl
@[simp] theorem exec_strangerRetry (n : Fin 4) (s : State) :
    exec (.strangerRetry n) s = execStrangerRetry n s := rfl
@[simp] theorem exec_neighbourLoss (n : Fin 4) (s : State) :
    exec (.neighbourLoss n) s = execNeighbourLoss n s := rfl
@[simp] theorem exec_lsa (n : Fin 4) (tagOk : Bool) (hdrOk : Bool) (l : Lsa) (s : State) :
    exec (.lsa n tagOk hdrOk l) s = execLsa n tagOk hdrOk l s := rfl
@[simp] theorem exec_lsaOriginate (s : State) :
    exec (.lsaOriginate) s = execLsaOriginate s := rfl
@[simp] theorem exec_lsaAgeOut (id : DWord) (s : State) :
    exec (.lsaAgeOut id) s = execLsaAgeOut id s := rfl
@[simp] theorem exec_claimHeld (s : State) :
    exec (.claimHeld) s = execClaimHeld s := rfl
@[simp] theorem exec_pathComputation (s : State) :
    exec (.pathComputation) s = execPathComputation s := rfl
@[simp] theorem exec_dataFrame (n : Fin 4) (head : List Byte) (ctx : BitVec 12) (raw : DWord) (s : State) :
    exec (.dataFrame n head ctx raw) s = execDataFrame n head ctx raw s := rfl
@[simp] theorem exec_streamWindowFree (src : DWord) (stream : BitVec 10) (s : State) :
    exec (.streamWindowFree src stream) s = execStreamWindowFree src stream s := rfl
@[simp] theorem exec_fabricEgressDiscard (n : Fin 4) (c : Fin 8) (s : State) :
    exec (.fabricEgressDiscard n c) s = execFabricEgressDiscard n c s := rfl
@[simp] theorem exec_pntBatchSend (st : Fin 1024) (s : State) :
    exec (.pntBatchSend st) s = execPntBatchSend st s := rfl
@[simp] theorem exec_delayExchange (n : Fin 4) (t1 : DWord) (t2 : DWord) (t3 : DWord) (t4 : DWord) (s : State) :
    exec (.delayExchange n t1 t2 t3 t4) s = execDelayExchange n t1 t2 t3 t4 s := rfl
@[simp] theorem exec_syncSend (n : Fin 4) (s : State) :
    exec (.syncSend n) s = execSyncSend n s := rfl
@[simp] theorem exec_time (n : Fin 4) (tagOk : Bool) (hdrOk : Bool) (m : TimeMsg) (s : State) :
    exec (.time n tagOk hdrOk m) s = execTime n tagOk hdrOk m s := rfl
@[simp] theorem exec_followUpTimeout (n : Fin 4) (s : State) :
    exec (.followUpTimeout n) s = execFollowUpTimeout n s := rfl
@[simp] theorem exec_pointUpdate (src : Fin 36) (s : State) :
    exec (.pointUpdate src) s = execPointUpdate src s := rfl
@[simp] theorem exec_pointGet (src : Fin 32) (s : State) :
    exec (.pointGet src) s = execPointGet src s := rfl
@[simp] theorem exec_dpHoldExpiry (p : Fin 8388608) (s : State) :
    exec (.dpHoldExpiry p) s = execDpHoldExpiry p s := rfl
@[simp] theorem exec_chatterRelease (p : Fin 8388608) (s : State) :
    exec (.chatterRelease p) s = execChatterRelease p s := rfl
@[simp] theorem exec_windowClose (w : Fin 65) (s : State) :
    exec (.windowClose w) s = execWindowClose w s := rfl
@[simp] theorem exec_pendingDeliveryWrite (q : Fin 1088) (s : State) :
    exec (.pendingDeliveryWrite q) s = execPendingDeliveryWrite q s := rfl
@[simp] theorem exec_deliveryWrite (q : Fin 36) (s : State) :
    exec (.deliveryWrite q) s = execDeliveryWrite q s := rfl
@[simp] theorem exec_pntSoeRdWrite (hi : Bool) (w : Word) (s : State) :
    exec (.pntSoeRdWrite hi w) s = execPntSoeRdWrite hi w s := rfl
@[simp] theorem exec_pntHqRdWrite (q : Fin 4) (w : Word) (s : State) :
    exec (.pntHqRdWrite q w) s = execPntHqRdWrite q w s := rfl
@[simp] theorem exec_canFrameReceive (c : Fin 16) (m : CanMsg) (edge : DWord) (s : State) :
    exec (.canFrameReceive c m edge) s = execCanFrameReceive c m edge s := rfl
@[simp] theorem exec_canTransmitComplete (c : Fin 16) (delay : BitVec 8) (s : State) :
    exec (.canTransmitComplete c delay) s = execCanTransmitComplete c delay s := rfl
@[simp] theorem exec_canError (c : Fin 16) (e : CanErr) (s : State) :
    exec (.canError c e) s = execCanError c e s := rfl
@[simp] theorem exec_busOffRecoveryComplete (c : Fin 16) (s : State) :
    exec (.busOffRecoveryComplete c) s = execBusOffRecoveryComplete c s := rfl
@[simp] theorem exec_canRecover (c : Fin 16) (s : State) :
    exec (.canRecover c) s = execCanRecover c s := rfl
@[simp] theorem exec_canCounterClear (c : Fin 16) (s : State) :
    exec (.canCounterClear c) s = execCanCounterClear c s := rfl
@[simp] theorem exec_wakeReq (c : Fin 16) (s : State) :
    exec (.wakeReq c) s = execWakeReq c s := rfl
@[simp] theorem exec_sleepOk (c : Fin 16) (s : State) :
    exec (.sleepOk c) s = execSleepOk c s := rfl
@[simp] theorem exec_canCancel (c : Fin 16) (k : Fin 64) (s : State) :
    exec (.canCancel c k) s = execCanCancel c k s := rfl
@[simp] theorem exec_canTxReq (c : Fin 16) (k : Fin 64) (s : State) :
    exec (.canTxReq c k) s = execCanTxReq c k s := rfl
@[simp] theorem exec_canObjSel (c : Fin 16) (valid : Bool) (k : Fin 64) (s : State) :
    exec (.canObjSel c valid k) s = execCanObjSel c valid k s := rfl
@[simp] theorem exec_canObjDataWrite (c : Fin 16) (i : Fin 16) (w : Word) (s : State) :
    exec (.canObjDataWrite c i w) s = execCanObjDataWrite c i w s := rfl
@[simp] theorem exec_canPeriodTrigger (c : Fin 16) (k : Fin 64) (s : State) :
    exec (.canPeriodTrigger c k) s = execCanPeriodTrigger c k s := rfl
@[simp] theorem exec_canRxTimeout (c : Fin 16) (k : Fin 64) (s : State) :
    exec (.canRxTimeout c k) s = execCanRxTimeout c k s := rfl
@[simp] theorem exec_nmFrameSend (c : Fin 16) (edge : DWord) (s : State) :
    exec (.nmFrameSend c edge) s = execNmFrameSend c edge s := rfl
@[simp] theorem exec_sleepCommand (c : Fin 16) (edge : DWord) (s : State) :
    exec (.sleepCommand c edge) s = execSleepCommand c edge s := rfl
@[simp] theorem exec_sleepCommit (c : Fin 16) (s : State) :
    exec (.sleepCommit c) s = execSleepCommit c s := rfl
@[simp] theorem exec_sleepPatternEnd (c : Fin 16) (s : State) :
    exec (.sleepPatternEnd c) s = execSleepPatternEnd c s := rfl
@[simp] theorem exec_wakeEvent (c : Fin 16) (bus : Bool) (nm : Bool) (stamp : DWord) (s : State) :
    exec (.wakeEvent c bus nm stamp) s = execWakeEvent c bus nm stamp s := rfl
@[simp] theorem exec_wakeSettleEnd (c : Fin 16) (edge : DWord) (s : State) :
    exec (.wakeSettleEnd c edge) s = execWakeSettleEnd c edge s := rfl
@[simp] theorem exec_maxAwakeExpiry (c : Fin 16) (edge : DWord) (s : State) :
    exec (.maxAwakeExpiry c edge) s = execMaxAwakeExpiry c edge s := rfl
@[simp] theorem exec_pinEdge (p : Fin 65) (level : Bool) (stamp : DWord) (s : State) :
    exec (.pinEdge p level stamp) s = execPinEdge p level stamp s := rfl
@[simp] theorem exec_filteredChange (pins : List (Fin 65)) (s : State) :
    exec (.filteredChange pins) s = execFilteredChange pins s := rfl
@[simp] theorem exec_timedChangeApply (e : Fin 32) (s : State) :
    exec (.timedChangeApply e) s = execTimedChangeApply e s := rfl
@[simp] theorem exec_chiveGroupRestart (g : Fin 8) (s : State) :
    exec (.chiveGroupRestart g) s = execChiveGroupRestart g s := rfl
@[simp] theorem exec_chiveGctrlRestart (g : Fin 8) (s : State) :
    exec (.chiveGctrlRestart g) s = execChiveGctrlRestart g s := rfl
@[simp] theorem exec_chiveInPop (e : Fin 32) (s : State) :
    exec (.chiveInPop e) s = execChiveInPop e s := rfl
@[simp] theorem exec_chiveOutWrite (e : Fin 32) (w : Word) (s : State) :
    exec (.chiveOutWrite e w) s = execChiveOutWrite e w s := rfl
@[simp] theorem exec_lineFrameClose (l : Fin 16) (s : State) :
    exec (.lineFrameClose l) s = execLineFrameClose l s := rfl
@[simp] theorem exec_lineCharacter (l : Fin 16) (s : State) :
    exec (.lineCharacter l) s = execLineCharacter l s := rfl
@[simp] theorem exec_pulseEnd (p : Fin 64) (s : State) :
    exec (.pulseEnd p) s = execPulseEnd p s := rfl
@[simp] theorem exec_binaryOutputDelivery (n : Fin 64) (s : State) :
    exec (.binaryOutputDelivery n) s = execBinaryOutputDelivery n s := rfl
@[simp] theorem exec_setv (e : Fin 32) (s : State) :
    exec (.setv e) s = execSetv e s := rfl
@[simp] theorem exec_chiveAdd (e : Fin 32) (s : State) :
    exec (.chiveAdd e) s = execChiveAdd e s := rfl
@[simp] theorem exec_chiveSub (e : Fin 32) (s : State) :
    exec (.chiveSub e) s = execChiveSub e s := rfl
@[simp] theorem exec_chiveAddi (e : Fin 32) (s : State) :
    exec (.chiveAddi e) s = execChiveAddi e s := rfl
@[simp] theorem exec_chiveSubi (e : Fin 32) (s : State) :
    exec (.chiveSubi e) s = execChiveSubi e s := rfl
@[simp] theorem exec_chiveAnd (e : Fin 32) (s : State) :
    exec (.chiveAnd e) s = execChiveAnd e s := rfl
@[simp] theorem exec_chiveOr (e : Fin 32) (s : State) :
    exec (.chiveOr e) s = execChiveOr e s := rfl
@[simp] theorem exec_chiveXor (e : Fin 32) (s : State) :
    exec (.chiveXor e) s = execChiveXor e s := rfl
@[simp] theorem exec_chiveMov (e : Fin 32) (s : State) :
    exec (.chiveMov e) s = execChiveMov e s := rfl
@[simp] theorem exec_shri (e : Fin 32) (s : State) :
    exec (.shri e) s = execShri e s := rfl
@[simp] theorem exec_shli (e : Fin 32) (s : State) :
    exec (.shli e) s = execShli e s := rfl
@[simp] theorem exec_chiveOri (e : Fin 32) (s : State) :
    exec (.chiveOri e) s = execChiveOri e s := rfl
@[simp] theorem exec_ldk (e : Fin 32) (s : State) :
    exec (.ldk e) s = execLdk e s := rfl
@[simp] theorem exec_chiveAndi (e : Fin 32) (s : State) :
    exec (.chiveAndi e) s = execChiveAndi e s := rfl
@[simp] theorem exec_driveLevel (e : Fin 32) (s : State) :
    exec (.driveLevel e) s = execDriveLevel e s := rfl
@[simp] theorem exec_driveDirection (e : Fin 32) (s : State) :
    exec (.driveDirection e) s = execDriveDirection e s := rfl
@[simp] theorem exec_drivePpsOut (e : Fin 32) (s : State) :
    exec (.drivePpsOut e) s = execDrivePpsOut e s := rfl
@[simp] theorem exec_driveIndexed (e : Fin 32) (s : State) :
    exec (.driveIndexed e) s = execDriveIndexed e s := rfl
@[simp] theorem exec_senseShift (e : Fin 32) (s : State) :
    exec (.senseShift e) s = execSenseShift e s := rfl
@[simp] theorem exec_senseLevel (e : Fin 32) (s : State) :
    exec (.senseLevel e) s = execSenseLevel e s := rfl
@[simp] theorem exec_senseAll (e : Fin 32) (s : State) :
    exec (.senseAll e) s = execSenseAll e s := rfl
@[simp] theorem exec_timeAdd (e : Fin 32) (s : State) :
    exec (.timeAdd e) s = execTimeAdd e s := rfl
@[simp] theorem exec_timeNow (e : Fin 32) (s : State) :
    exec (.timeNow e) s = execTimeNow e s := rfl
@[simp] theorem exec_timeFromStamp (e : Fin 32) (s : State) :
    exec (.timeFromStamp e) s = execTimeFromStamp e s := rfl
@[simp] theorem exec_timeRead (e : Fin 32) (s : State) :
    exec (.timeRead e) s = execTimeRead e s := rfl
@[simp] theorem exec_timeWrite (e : Fin 32) (s : State) :
    exec (.timeWrite e) s = execTimeWrite e s := rfl
@[simp] theorem exec_awaitTime (e : Fin 32) (s : State) :
    exec (.awaitTime e) s = execAwaitTime e s := rfl
@[simp] theorem exec_awaitLevel (e : Fin 32) (s : State) :
    exec (.awaitLevel e) s = execAwaitLevel e s := rfl
@[simp] theorem exec_awaitEdge (e : Fin 32) (s : State) :
    exec (.awaitEdge e) s = execAwaitEdge e s := rfl
@[simp] theorem exec_awaitFlag (e : Fin 32) (s : State) :
    exec (.awaitFlag e) s = execAwaitFlag e s := rfl
@[simp] theorem exec_awaitInstant (e : Fin 32) (s : State) :
    exec (.awaitInstant e) s = execAwaitInstant e s := rfl
@[simp] theorem exec_awaitChange (e : Fin 32) (s : State) :
    exec (.awaitChange e) s = execAwaitChange e s := rfl
@[simp] theorem exec_awaitOutFifo (e : Fin 32) (s : State) :
    exec (.awaitOutFifo e) s = execAwaitOutFifo e s := rfl
@[simp] theorem exec_chiveBranch (e : Fin 32) (s : State) :
    exec (.chiveBranch e) s = execChiveBranch e s := rfl
@[simp] theorem exec_stamp (e : Fin 32) (s : State) :
    exec (.stamp e) s = execStamp e s := rfl
@[simp] theorem exec_xferTake (e : Fin 32) (s : State) :
    exec (.xferTake e) s = execXferTake e s := rfl
@[simp] theorem exec_xferGive (e : Fin 32) (s : State) :
    exec (.xferGive e) s = execXferGive e s := rfl
@[simp] theorem exec_flagSet (e : Fin 32) (s : State) :
    exec (.flagSet e) s = execFlagSet e s := rfl
@[simp] theorem exec_flagClear (e : Fin 32) (s : State) :
    exec (.flagClear e) s = execFlagClear e s := rfl
@[simp] theorem exec_flagSig (e : Fin 32) (s : State) :
    exec (.flagSig e) s = execFlagSig e s := rfl
@[simp] theorem exec_chiveReservedOpcode (e : Fin 32) (s : State) :
    exec (.chiveReservedOpcode e) s = execChiveReservedOpcode e s := rfl
@[simp] theorem exec_add (i : Issue) (s : State) :
    exec (.add i) s = execAdd i s := rfl
@[simp] theorem exec_sub (i : Issue) (s : State) :
    exec (.sub i) s = execSub i s := rfl
@[simp] theorem exec_and (i : Issue) (s : State) :
    exec (.and i) s = execAnd i s := rfl
@[simp] theorem exec_or (i : Issue) (s : State) :
    exec (.or i) s = execOr i s := rfl
@[simp] theorem exec_xor (i : Issue) (s : State) :
    exec (.xor i) s = execXor i s := rfl
@[simp] theorem exec_andn (i : Issue) (s : State) :
    exec (.andn i) s = execAndn i s := rfl
@[simp] theorem exec_sll (i : Issue) (s : State) :
    exec (.sll i) s = execSll i s := rfl
@[simp] theorem exec_srl (i : Issue) (s : State) :
    exec (.srl i) s = execSrl i s := rfl
@[simp] theorem exec_sra (i : Issue) (s : State) :
    exec (.sra i) s = execSra i s := rfl
@[simp] theorem exec_ror (i : Issue) (s : State) :
    exec (.ror i) s = execRor i s := rfl
@[simp] theorem exec_min (i : Issue) (s : State) :
    exec (.min i) s = execMin i s := rfl
@[simp] theorem exec_max (i : Issue) (s : State) :
    exec (.max i) s = execMax i s := rfl
@[simp] theorem exec_minu (i : Issue) (s : State) :
    exec (.minu i) s = execMinu i s := rfl
@[simp] theorem exec_maxu (i : Issue) (s : State) :
    exec (.maxu i) s = execMaxu i s := rfl
@[simp] theorem exec_mul (i : Issue) (s : State) :
    exec (.mul i) s = execMul i s := rfl
@[simp] theorem exec_mulh (i : Issue) (s : State) :
    exec (.mulh i) s = execMulh i s := rfl
@[simp] theorem exec_mulhu (i : Issue) (s : State) :
    exec (.mulhu i) s = execMulhu i s := rfl
@[simp] theorem exec_div (i : Issue) (s : State) :
    exec (.div i) s = execDiv i s := rfl
@[simp] theorem exec_divu (i : Issue) (s : State) :
    exec (.divu i) s = execDivu i s := rfl
@[simp] theorem exec_rem (i : Issue) (s : State) :
    exec (.rem i) s = execRem i s := rfl
@[simp] theorem exec_remu (i : Issue) (s : State) :
    exec (.remu i) s = execRemu i s := rfl
@[simp] theorem exec_clz (i : Issue) (s : State) :
    exec (.clz i) s = execClz i s := rfl
@[simp] theorem exec_ctz (i : Issue) (s : State) :
    exec (.ctz i) s = execCtz i s := rfl
@[simp] theorem exec_popc (i : Issue) (s : State) :
    exec (.popc i) s = execPopc i s := rfl
@[simp] theorem exec_bswap (i : Issue) (s : State) :
    exec (.bswap i) s = execBswap i s := rfl
@[simp] theorem exec_addi (i : Issue) (s : State) :
    exec (.addi i) s = execAddi i s := rfl
@[simp] theorem exec_andi (i : Issue) (s : State) :
    exec (.andi i) s = execAndi i s := rfl
@[simp] theorem exec_ori (i : Issue) (s : State) :
    exec (.ori i) s = execOri i s := rfl
@[simp] theorem exec_xori (i : Issue) (s : State) :
    exec (.xori i) s = execXori i s := rfl
@[simp] theorem exec_shi (i : Issue) (s : State) :
    exec (.shi i) s = execShi i s := rfl
@[simp] theorem exec_lil (i : Issue) (s : State) :
    exec (.lil i) s = execLil i s := rfl
@[simp] theorem exec_lih (i : Issue) (s : State) :
    exec (.lih i) s = execLih i s := rfl
@[simp] theorem exec_cmp (i : Issue) (s : State) :
    exec (.cmp i) s = execCmp i s := rfl
@[simp] theorem exec_cmpi (i : Issue) (s : State) :
    exec (.cmpi i) s = execCmpi i s := rfl
@[simp] theorem exec_plog (i : Issue) (s : State) :
    exec (.plog i) s = execPlog i s := rfl
@[simp] theorem exec_ldb (i : Issue) (s : State) :
    exec (.ldb i) s = execLdb i s := rfl
@[simp] theorem exec_ldbu (i : Issue) (s : State) :
    exec (.ldbu i) s = execLdbu i s := rfl
@[simp] theorem exec_ldh (i : Issue) (s : State) :
    exec (.ldh i) s = execLdh i s := rfl
@[simp] theorem exec_ldhu (i : Issue) (s : State) :
    exec (.ldhu i) s = execLdhu i s := rfl
@[simp] theorem exec_ldw (i : Issue) (s : State) :
    exec (.ldw i) s = execLdw i s := rfl
@[simp] theorem exec_stb (i : Issue) (s : State) :
    exec (.stb i) s = execStb i s := rfl
@[simp] theorem exec_sth (i : Issue) (s : State) :
    exec (.sth i) s = execSth i s := rfl
@[simp] theorem exec_stw (i : Issue) (s : State) :
    exec (.stw i) s = execStw i s := rfl
@[simp] theorem exec_aadd (i : Issue) (s : State) :
    exec (.aadd i) s = execAadd i s := rfl
@[simp] theorem exec_aswap (i : Issue) (s : State) :
    exec (.aswap i) s = execAswap i s := rfl
@[simp] theorem exec_br (i : Issue) (s : State) :
    exec (.br i) s = execBr i s := rfl
@[simp] theorem exec_call (i : Issue) (s : State) :
    exec (.call i) s = execCall i s := rfl
@[simp] theorem exec_jr (i : Issue) (s : State) :
    exec (.jr i) s = execJr i s := rfl
@[simp] theorem exec_jalr (i : Issue) (s : State) :
    exec (.jalr i) s = execJalr i s := rfl
@[simp] theorem exec_reti (i : Issue) (s : State) :
    exec (.reti i) s = execReti i s := rfl
@[simp] theorem exec_loop (i : Issue) (s : State) :
    exec (.loop i) s = execLoop i s := rfl
@[simp] theorem exec_repI (i : Issue) (next : Word) (s : State) :
    exec (.repI i next) s = execRepI i next s := rfl
@[simp] theorem exec_repA (i : Issue) (next : Word) (s : State) :
    exec (.repA i next) s = execRepA i next s := rfl
@[simp] theorem exec_smov (i : Issue) (s : State) :
    exec (.smov i) s = execSmov i s := rfl
@[simp] theorem exec_sfil (i : Issue) (s : State) :
    exec (.sfil i) s = execSfil i s := rfl
@[simp] theorem exec_scmp (i : Issue) (s : State) :
    exec (.scmp i) s = execScmp i s := rfl
@[simp] theorem exec_sscn (i : Issue) (s : State) :
    exec (.sscn i) s = execSscn i s := rfl
@[simp] theorem exec_scrc (i : Issue) (s : State) :
    exec (.scrc i) s = execScrc i s := rfl
@[simp] theorem exec_sber (i : Issue) (s : State) :
    exec (.sber i) s = execSber i s := rfl
@[simp] theorem exec_put (i : Issue) (s : State) :
    exec (.put i) s = execPut i s := rfl
@[simp] theorem exec_get (i : Issue) (s : State) :
    exec (.get i) s = execGet i s := rfl
@[simp] theorem exec_txq (i : Issue) (s : State) :
    exec (.txq i) s = execTxq i s := rfl
@[simp] theorem exec_rxq (i : Issue) (s : State) :
    exec (.rxq i) s = execRxq i s := rfl
@[simp] theorem exec_dma (i : Issue) (s : State) :
    exec (.dma i) s = execDma i s := rfl
@[simp] theorem exec_putCompletion (e : Fin 32) (tag : Fin 16) (s : State) :
    exec (.putCompletion e tag) s = execPutCompletion e tag s := rfl
@[simp] theorem exec_getCompletion (e : Fin 32) (tag : Fin 16) (s : State) :
    exec (.getCompletion e tag) s = execGetCompletion e tag s := rfl
@[simp] theorem exec_txqCompletion (e : Fin 32) (tag : Fin 16) (s : State) :
    exec (.txqCompletion e tag) s = execTxqCompletion e tag s := rfl
@[simp] theorem exec_rxqCompletion (e : Fin 32) (s : State) :
    exec (.rxqCompletion e) s = execRxqCompletion e s := rfl
@[simp] theorem exec_dmaCompletion (e : Fin 32) (tag : Fin 16) (bad : Bool) (s : State) :
    exec (.dmaCompletion e tag bad) s = execDmaCompletion e tag bad s := rfl
@[simp] theorem exec_opwait (i : Issue) (s : State) :
    exec (.opwait i) s = execOpwait i s := rfl
@[simp] theorem exec_mpost (i : Issue) (s : State) :
    exec (.mpost i) s = execMpost i s := rfl
@[simp] theorem exec_mrecv (i : Issue) (s : State) :
    exec (.mrecv i) s = execMrecv i s := rfl
@[simp] theorem exec_mlock (i : Issue) (s : State) :
    exec (.mlock i) s = execMlock i s := rfl
@[simp] theorem exec_munlk (i : Issue) (s : State) :
    exec (.munlk i) s = execMunlk i s := rfl
@[simp] theorem exec_mstat (i : Issue) (s : State) :
    exec (.mstat i) s = execMstat i s := rfl
@[simp] theorem exec_mailboxOutputArrival (e : Fin 32) (s : State) :
    exec (.mailboxOutputArrival e) s = execMailboxOutputArrival e s := rfl
@[simp] theorem exec_rdtime (i : Issue) (s : State) :
    exec (.rdtime i) s = execRdtime i s := rfl
@[simp] theorem exec_rand (i : Issue) (s : State) :
    exec (.rand i) s = execRand i s := rfl
@[simp] theorem exec_wds (i : Issue) (s : State) :
    exec (.wds i) s = execWds i s := rfl
@[simp] theorem exec_wait (i : Issue) (s : State) :
    exec (.wait i) s = execWait i s := rfl
@[simp] theorem exec_fence (i : Issue) (s : State) :
    exec (.fence i) s = execFence i s := rfl
@[simp] theorem exec_brk (i : Issue) (s : State) :
    exec (.brk i) s = execBreak i s := rfl
@[simp] theorem exec_csrr (i : Issue) (s : State) :
    exec (.csrr i) s = execCsrr i s := rfl
@[simp] theorem exec_csrw (i : Issue) (s : State) :
    exec (.csrw i) s = execCsrw i s := rfl
@[simp] theorem exec_csrs (i : Issue) (s : State) :
    exec (.csrs i) s = execCsrs i s := rfl
@[simp] theorem exec_csrc (i : Issue) (s : State) :
    exec (.csrc i) s = execCsrc i s := rfl
@[simp] theorem exec_instPop (i : Issue) (s : State) :
    exec (.instPop i) s = execInstPop i s := rfl
@[simp] theorem exec_timerArm (i : Issue) (s : State) :
    exec (.timerArm i) s = execTimerArm i s := rfl
@[simp] theorem exec_reservedMajor (i : Issue) (s : State) :
    exec (.reservedMajor i) s = execReservedMajor i s := rfl
@[simp] theorem exec_interruptEntry (e : Fin 32) (s : State) :
    exec (.interruptEntry e) s = execInterruptEntry e s := rfl
@[simp] theorem exec_engineTimer (e : Fin 32) (s : State) :
    exec (.engineTimer e) s = execEngineTimer e s := rfl
@[simp] theorem exec_watchdogExpiry (e : Fin 32) (s : State) :
    exec (.watchdogExpiry e) s = execWatchdogExpiry e s := rfl
@[simp] theorem exec_wdw (e : Fin 32) (s : State) :
    exec (.wdw e) s = execWdw e s := rfl
@[simp] theorem exec_debugHalt (e : Fin 32) (s : State) :
    exec (.debugHalt e) s = execDebugHalt e s := rfl
@[simp] theorem exec_debugStep (e : Fin 32) (s : State) :
    exec (.debugStep e) s = execDebugStep e s := rfl
@[simp] theorem exec_debugResume (e : Fin 32) (s : State) :
    exec (.debugResume e) s = execDebugResume e s := rfl
@[simp] theorem exec_outboxRelease (e : Fin 32) (bad : Bool) (s : State) :
    exec (.outboxRelease e bad) s = execOutboxRelease e bad s := rfl
@[simp] theorem exec_epochEnd (k : Fin 16) (busy : Fin 101) (early : Bool) (s : State) :
    exec (.epochEnd k busy early) s = execEpochEnd k busy early s := rfl
@[simp] theorem exec_epochCommit (k : Fin 16) (s : State) :
    exec (.epochCommit k) s = execEpochCommit k s := rfl
@[simp] theorem exec_commitDeadlineMiss (k : Fin 16) (why : CommitMiss) (s : State) :
    exec (.commitDeadlineMiss k why) s = execCommitDeadlineMiss k why s := rfl
@[simp] theorem exec_signatureMismatch (k : Fin 16) (s : State) :
    exec (.signatureMismatch k) s = execSignatureMismatch k s := rfl
@[simp] theorem exec_plausibilityFail (e : Fin 32) (s : State) :
    exec (.plausibilityFail e) s = execPlausibilityFail e s := rfl
@[simp] theorem exec_restoreComplete (k : Fin 16) (lo : Bool) (hi : Bool) (s : State) :
    exec (.restoreComplete k lo hi) s = execRestoreComplete k lo hi s := rfl
@[simp] theorem exec_replayEnd (k : Fin 16) (busy : Fin 101) (s : State) :
    exec (.replayEnd k busy) s = execReplayEnd k busy s := rfl
@[simp] theorem exec_eccCorrectable (m : Fin 38) (s : State) :
    exec (.eccCorrectable m) s = execEccCorrectable m s := rfl
@[simp] theorem exec_eccUncorrectable (w : EccAt) (s : State) :
    exec (.eccUncorrectable w) s = execEccUncorrectable w s := rfl
@[simp] theorem exec_scrubLate (s : State) :
    exec (.scrubLate) s = execScrubLate s := rfl
@[simp] theorem exec_bankStarve (n : Fin 32) (cycles : Word) (s : State) :
    exec (.bankStarve n cycles) s = execBankStarve n cycles s := rfl
@[simp] theorem exec_fatalError (x : Option FatalCause) (s : State) :
    exec (.fatalError x) s = execFatalError x s := rfl
@[simp] theorem exec_dumpNvmWriteComplete (s : State) :
    exec (.dumpNvmWriteComplete) s = execDumpNvmWriteComplete s := rfl
@[simp] theorem exec_fatalReset (s : State) :
    exec (.fatalReset) s = execFatalReset s := rfl
@[simp] theorem exec_fatalRecordLatch (s : State) :
    exec (.fatalRecordLatch) s = execFatalRecordLatch s := rfl
@[simp] theorem exec_reasonOnlyDumpWrite (s : State) :
    exec (.reasonOnlyDumpWrite) s = execReasonOnlyDumpWrite s := rfl
@[simp] theorem exec_dumpCopyComplete (s : State) :
    exec (.dumpCopyComplete) s = execDumpCopyComplete s := rfl
@[simp] theorem exec_dumpEraseComplete (s : State) :
    exec (.dumpEraseComplete) s = execDumpEraseComplete s := rfl
@[simp] theorem exec_dumpClear (s : State) :
    exec (.dumpClear) s = execDumpClear s := rfl
@[simp] theorem exec_dumpRelease (s : State) :
    exec (.dumpRelease) s = execDumpRelease s := rfl
@[simp] theorem exec_planningCycle (l : List Sentinel) (eyes : List (Fin 20 × Byte × BitVec 16)) (s : State) :
    exec (.planningCycle l eyes) s = execPlanningCycle l eyes s := rfl
@[simp] theorem exec_railSettle (r : Fin 3) (x : RailCheck) (s : State) :
    exec (.railSettle r x) s = execRailSettle r x s := rfl
@[simp] theorem exec_fastGuardTrip (i : Fin 46) (slack : Int) (s : State) :
    exec (.fastGuardTrip i slack) s = execFastGuardTrip i slack s := rfl
@[simp] theorem exec_stepDeferApply (k : Fin 16) (s : State) :
    exec (.stepDeferApply k) s = execStepDeferApply k s := rfl
@[simp] theorem exec_pmbAlert (l : List (Fin 3 × Bool × Byte)) (s : State) :
    exec (.pmbAlert l) s = execPmbAlert l s := rfl
@[simp] theorem exec_ledgerWriteComplete (ok : Bool) (s : State) :
    exec (.ledgerWriteComplete ok) s = execLedgerWriteComplete ok s := rfl
@[simp] theorem exec_mbnTxWrite (n : Fin 64) (w : Word) (s : State) :
    exec (.mbnTxWrite n w) s = execMbnTxWrite n w s := rfl
@[simp] theorem exec_mbnPop (n : Fin 64) (s : State) :
    exec (.mbnPop n) s = execMbnPop n s := rfl
@[simp] theorem exec_mbnLockRead (n : Fin 64) (s : State) :
    exec (.mbnLockRead n) s = execMbnLockRead n s := rfl
@[simp] theorem exec_mbnLockRelease (n : Fin 64) (s : State) :
    exec (.mbnLockRelease n) s = execMbnLockRelease n s := rfl
@[simp] theorem exec_hostReset (s : State) :
    exec (.hostReset) s = execHostReset s := rfl
@[simp] theorem exec_mailboxLockBreak (n : Fin 64) (s : State) :
    exec (.mailboxLockBreak n) s = execMailboxLockBreak n s := rfl
@[simp] theorem exec_portStatSnap (n : Fin 68) (s : State) :
    exec (.portStatSnap n) s = execPortStatSnap n s := rfl
@[simp] theorem exec_portStatClear (n : Fin 68) (s : State) :
    exec (.portStatClear n) s = execPortStatClear n s := rfl
@[simp] theorem exec_captureReadAdvance (w : Word) (s : State) :
    exec (.captureReadAdvance w) s = execCaptureReadAdvance w s := rfl
@[simp] theorem exec_irqVarm (hi : Bool) (w : Word) (s : State) :
    exec (.irqVarm hi w) s = execIrqVarm hi w s := rfl
@[simp] theorem exec_msiXMessage (v : Fin 64) (s : State) :
    exec (.msiXMessage v) s = execMsiXMessage v s := rfl
@[simp] theorem exec_powerStateChange (d3hot : Bool) (s : State) :
    exec (.powerStateChange d3hot) s = execPowerStateChange d3hot s := rfl
@[simp] theorem exec_wideRegisterRead (addr : BarAddr) (len : BitVec 12) (s : State) :
    exec (.wideRegisterRead addr len) s = execWideRegisterRead addr len s := rfl
@[simp] theorem exec_registerWrite (addr : BarAddr) (data : List Byte) (s : State) :
    exec (.registerWrite addr data) s = execRegisterWrite addr data s := rfl
@[simp] theorem exec_supplyMonitorRelease (x : Clocks) (mv : List Nat) (s : State) :
    exec (.supplyMonitorRelease x mv) s = execSupplyMonitorRelease x mv s := rfl
@[simp] theorem exec_holdoverMaxExpiry (s : State) :
    exec (.holdoverMaxExpiry) s = execHoldoverMaxExpiry s := rfl
@[simp] theorem exec_selfRefStepHoldEnd (s : State) :
    exec (.selfRefStepHoldEnd) s = execSelfRefStepHoldEnd s := rfl
@[simp] theorem exec_timeUnlockedAlarm (s : State) :
    exec (.timeUnlockedAlarm) s = execTimeUnlockedAlarm s := rfl
@[simp] theorem exec_ttUnqualifiedAlarm (s : State) :
    exec (.ttUnqualifiedAlarm) s = execTtUnqualifiedAlarm s := rfl
@[simp] theorem exec_throttleAlarm (s : State) :
    exec (.throttleAlarm) s = execThrottleAlarm s := rfl
@[simp] theorem exec_refclkBRestore (s : State) :
    exec (.refclkBRestore) s = execRefclkBRestore s := rfl
@[simp] theorem exec_timeMark (c : Fin 16) (k : Fin 64) (diff : Int) (s : State) :
    exec (.timeMark c k diff) s = execTimeMark c k diff s := rfl
@[simp] theorem exec_arbitration (c : Fin 16) (edge : DWord) (s : State) :
    exec (.arbitration c edge) s = execArbitration c edge s := rfl
@[simp] theorem exec_dramIslandFailure (x : DramEvent) (s : State) :
    exec (.dramIslandFailure x) s = execDramIslandFailure x s := rfl
@[simp] theorem exec_pcieConfigurationWrite (msixEn : Bool) (fnMask : Bool) (busMaster : Bool) (s : State) :
    exec (.pcieConfigurationWrite msixEn fnMask busMaster) s = execPcieConfigurationWrite msixEn fnMask busMaster s := rfl
@[simp] theorem exec_jtagTapInstruction (code : Nat) (boundaryScan : Bool) (s : State) :
    exec (.jtagTapInstruction code boundaryScan) s = execJtagTapInstruction code boundaryScan s := rfl

end Sys2Proof.Machine
end

