-- ==== Sys2Proof/Laws/Engine.lean ====
section
/-! SUPPORT. What the issue of a Polnil instruction comes to, said once: an executed word acts, an annulled
one only retires, and an engine without a recovery sees no journal. -/

namespace Sys2Proof.Machine

/-- Without a recovery nothing is presented from the journal. -/
theorem not_replaying {s : State} {e : Nat} (h : s.recovering e = false) : s.replaying e = false := by
  unfold State.recovering at h
  unfold State.replaying
  cases hs : (s.cl (e / 2)).st <;> simp_all

theorem present_of_not_replaying {s : State} {e : Nat} (h : s.replaying e = false) (n : Nat) :
    s.present e n = s := by
  cases n <;> simp [State.present, h]

theorem presentAll_of_not_recovering {s : State} {e : Nat} (h : s.recovering e = false) :
    s.presentAll e = s := present_of_not_replaying (not_replaying h) _

theorem wake_of_running {s : State} {e : Nat} (h : (s.eng e).st = .running) : s.wake e = s := by
  simp [State.wake, h]

/-- The word of an engine about to execute it acts: no check stands in its way. -/
theorem issue_go {s : State} {i : Issue} {row : Row} (f : State → Nat → Nat → Eff)
    (h : s.issues i row.major = true) (hr : row.rsv i.word.toNat = false)
    (hi : row.is i.word.toNat = true) (hb : row.bad i.word.toNat = false)
    (hn : row.badIn (s.core i.eng.val) i.word.toNat = false := by rfl) :
    s.issue i row f = (f s i.eng.val i.word.toNat).state i.eng.val i.word.toNat := by
  simp only [State.issues, State.fetches, Bool.and_eq_true, beq_iff_eq, bne_iff_ne, decide_eq_true_eq, Bool.not_eq_true'] at h
  obtain ⟨⟨⟨⟨⟨⟨⟨⟨⟨h1, h2⟩, h3⟩, h4⟩, h0⟩, h5⟩, h6⟩, h7⟩, h8⟩, h9⟩ := h
  have hc : s.canExec i.eng.val = true := by simp [State.canExec, h1, ← h2, h3, h4, h0]
  have h9' : (s.eng i.eng.val).core.cond i.word.toNat = true := h9
  have h6' : (s.eng i.eng.val).core.pc.toNat % 4 = 0 := h6
  have h5' : ¬ (393216 ≤ (s.eng i.eng.val).core.pc.toNat) := Nat.not_le.mpr h5
  have hn' : row.badIn (s.eng i.eng.val).core i.word.toNat = false := hn
  simp only [State.issue, hc, presentAll_of_not_recovering h4, wake_of_running h3, h3, h7, hr, hi, hb]
  simp [h5', h6', h8, h9', hn']

/-- The outcome of an executed word. -/
theorem instr_go {s : State} {i : Issue} {row : Row} (f : State → Nat → Nat → Eff)
    (h : s.issues i row.major = true) (hr : row.rsv i.word.toNat = false)
    (hi : row.is i.word.toNat = true) (hb : row.bad i.word.toNat = false)
    (hn : row.badIn (s.core i.eng.val) i.word.toNat = false := by rfl) :
    s.instr i row f = .next ((f s i.eng.val i.word.toNat).state i.eng.val i.word.toNat).settle := by
  rw [State.instr, issue_go f h hr hi hb hn]; rfl

end Sys2Proof.Machine
end

