-- ==== Sys2Proof/Laws/Tab.lean ====
section
/-! SUPPORT. Tables and byte memories: a read after a write, and the canonical form that every operation keeps. -/

namespace Sys2Proof

namespace Tab
variable {α : Type}

theorem get_set (d : α) (t : Tab α) (k j : Nat) (v : α) :
    get d (set t k v) j = if j = k then v else get d t j := by
  induction t with
  | nil => simp only [set, get]; split <;> split <;> simp_all
  | cons p t ih =>
    obtain ⟨i, w⟩ := p
    simp only [set]
    split
    · simp only [get]; repeat' split
      all_goals first | rfl | omega
    · split
      · simp only [get]; repeat' split
        all_goals first | rfl | omega
      · simp only [get, ih]; repeat' split
        all_goals first | rfl | omega

@[simp] theorem get_set_self (d : α) (t : Tab α) (k : Nat) (v : α) : get d (set t k v) k = v := by
  simp [get_set]

theorem get_set_ne (d : α) (t : Tab α) {k j : Nat} (v : α) (h : j ≠ k) : get d (set t k v) j = get d t j := by
  simp [get_set, h]

theorem find?_set (t : Tab α) (k j : Nat) (v : α) :
    find? (set t k v) j = if j = k then some v else find? t j := by
  induction t with
  | nil => simp only [set, find?]; split <;> split <;> simp_all
  | cons p t ih =>
    obtain ⟨i, w⟩ := p
    simp only [set]
    split
    · simp only [find?]; repeat' split
      all_goals first | rfl | omega
    · split
      · simp only [find?]; repeat' split
        all_goals first | rfl | omega
      · simp only [find?, ih]; repeat' split
        all_goals first | rfl | omega

@[simp] theorem find?_set_self (t : Tab α) (k : Nat) (v : α) : find? (set t k v) k = some v := by
  simp [find?_set]

@[simp] theorem set_set (t : Tab α) (k : Nat) (v w : α) : set (set t k v) k w = set t k w := by
  induction t with
  | nil => simp [set]
  | cons p t ih =>
    obtain ⟨i, x⟩ := p
    by_cases h : k < i
    · simp [set, h]
    · by_cases h2 : i = k
      · simp [set, h2]
      · simp [set, h, h2, ih]

@[simp] theorem get_upd_self (d : α) (t : Tab α) (k : Nat) (f : α → α) : get d (upd d t k f) k = f (get d t k) := by
  simp [upd]

theorem get_upd (d : α) (t : Tab α) (k j : Nat) (f : α → α) :
    get d (upd d t k f) j = if j = k then f (get d t k) else get d t j := by
  simp [upd, get_set]

theorem get_map (d : α) (f : α → α) (hd : f d = d) (t : Tab α) (k : Nat) :
    get d (t.map (fun p => (p.1, f p.2))) k = f (get d t k) := by
  induction t with
  | nil => simp [get, hd]
  | cons p t ih =>
    obtain ⟨i, w⟩ := p
    simp only [List.map_cons, get]
    split
    · rfl
    · exact ih

theorem find?_del (t : Tab α) (k j : Nat) : find? (del t k) j = if j = k then none else find? t j := by
  induction t with
  | nil => simp [del, find?]
  | cons p t ih =>
    obtain ⟨i, w⟩ := p
    simp only [del]
    split
    · simp only [ih, find?]; repeat' split
      all_goals first | rfl | omega
    · simp only [find?, ih]; repeat' split
      all_goals first | rfl | omega

end Tab

namespace Mem

theorem above_trans {m : Mem} {i j : Nat} (h : above j m = true) (hi : i ≤ j) : above i m = true := by
  cases m with
  | nil => rfl
  | cons p m => obtain ⟨k, c⟩ := p; simp only [above, decide_eq_true_eq] at h ⊢; omega

/-- Below the lowest listed address every byte is the default. -/
theorem read_above {d : Byte} {m : Mem} {j y : Nat} (hm : wf d m = true) (h : above j m = true) (hy : y ≤ j) :
    read d m y = d := by
  induction m generalizing j with
  | nil => rfl
  | cons q m ih =>
    obtain ⟨i, e⟩ := q
    simp only [above, decide_eq_true_eq] at h
    simp only [wf, Bool.and_eq_true] at hm
    simp only [read]
    rw [if_neg (by omega)]
    exact ih hm.2 hm.1.1 (by omega)

theorem read_write {d : Byte} {m : Mem} (hm : wf d m = true) (a x : Nat) (b : Byte) :
    read d (write d m a b) x = if x = a then b else read d m x := by
  induction m with
  | nil =>
    simp only [write]
    repeat' split
    all_goals simp_all [read]
    omega
  | cons p m ih =>
    obtain ⟨j, c⟩ := p
    simp only [wf, Bool.and_eq_true] at hm
    have ih := ih hm.2
    by_cases h1 : a < j
    · simp only [write, h1, if_true]
      by_cases h2 : b = d
      · subst h2
        simp only [if_true]
        by_cases h3 : x = a
        · subst h3; rw [if_pos rfl]; simp only [read]; rw [if_neg (by omega)]
          exact read_above hm.2 hm.1.1 (by omega)
        · rw [if_neg h3]
      · simp only [h2, if_false, read]
        repeat' split
        all_goals first | rfl | omega
    · by_cases h3 : j = a
      · subst h3
        simp only [write, Nat.lt_irrefl, if_false, if_true]
        by_cases h2 : b = d
        · subst h2
          simp only [if_true, read]
          by_cases h4 : x = j
          · subst h4; simp [read_above hm.2 hm.1.1 (Nat.le_refl _)]
          · rw [if_neg h4, if_neg (fun h => h4 h.symm)]
        · simp only [h2, if_false, read]
          repeat' split
          all_goals first | rfl | omega
      · simp only [write, h1, h3, if_false, read, ih]
        repeat' split
        all_goals first | rfl | omega

theorem above_write {d : Byte} {m : Mem} {i a : Nat} (b : Byte) (hm : wf d m = true) (h : above i m = true) (ha : i < a) :
    above i (write d m a b) = true := by
  cases m with
  | nil => by_cases hb : b = d <;> simp [write, hb, above, ha]
  | cons p m =>
    obtain ⟨j, c⟩ := p
    simp only [wf, Bool.and_eq_true] at hm
    simp only [above, decide_eq_true_eq] at h
    simp only [write]
    repeat' split
    all_goals first
      | exact above_trans hm.1.1 (by omega)
      | (simp only [above, decide_eq_true_eq]; omega)

/-- A write keeps the canonical form. -/
theorem wf_write {d : Byte} {m : Mem} (hm : wf d m = true) (a : Nat) (b : Byte) : wf d (write d m a b) = true := by
  induction m with
  | nil => by_cases hb : b = d <;> simp [write, hb, wf, above]
  | cons p m ih =>
    obtain ⟨j, c⟩ := p
    have hm0 := hm
    simp only [wf, Bool.and_eq_true] at hm
    have ih := ih hm.2
    by_cases h1 : a < j
    · by_cases hb : b = d
      · simpa [write, h1, hb] using hm0
      · simp only [write, h1, hb, if_true, if_false]
        simp only [wf, Bool.and_eq_true]
        exact ⟨⟨by simpa [above] using h1, by simpa using hb⟩, by simpa [wf] using hm⟩
    · by_cases h3 : j = a
      · subst h3
        by_cases hb : b = d
        · simpa [write, hb] using hm.2
        · simp only [write, Nat.lt_irrefl, hb, if_true, if_false]
          simp only [wf, Bool.and_eq_true]
          exact ⟨⟨hm.1.1, by simpa using hb⟩, hm.2⟩
      · simp only [write, h1, h3, if_false]
        simp only [wf, Bool.and_eq_true]
        exact ⟨⟨above_write b hm.2 hm.1.1 (by omega), hm.1.2⟩, ih⟩

theorem wf_writeBytes {d : Byte} {m : Mem} (hm : wf d m = true) (a : Nat) (l : List Byte) :
    wf d (writeBytes d m a l) = true := by
  induction l generalizing m a with
  | nil => exact hm
  | cons b l ih => exact ih (wf_write hm a b) (a + 1)

theorem read_writeBytes_out {d : Byte} {m : Mem} (hm : wf d m = true) (a x : Nat) (l : List Byte)
    (h : x < a ∨ a + l.length ≤ x) : read d (writeBytes d m a l) x = read d m x := by
  induction l generalizing m a with
  | nil => rfl
  | cons b l ih =>
    simp only [List.length_cons] at h
    rw [writeBytes, ih (wf_write hm a b) (a + 1) (by omega), read_write hm, if_neg (by omega)]

theorem read_writeBytes_in {d : Byte} {m : Mem} (hm : wf d m = true) (a i : Nat) (l : List Byte) (h : i < l.length) :
    read d (writeBytes d m a l) (a + i) = l[i] := by
  induction l generalizing m a i with
  | nil => simp at h
  | cons b l ih =>
    rw [writeBytes]
    cases i with
    | zero => rw [read_writeBytes_out (wf_write hm a b) _ _ _ (by omega), read_write hm]; simp
    | succ i =>
      have := ih (wf_write hm a b) (a + 1) i (by simpa using h)
      rw [show a + (i + 1) = a + 1 + i by omega]
      simpa using this

@[simp] theorem length_readBytes (d : Byte) (m : Mem) (a n : Nat) : (readBytes d m a n).length = n := by
  induction n generalizing a with
  | zero => rfl
  | succ n ih => simp [readBytes, ih]

theorem above_clearRange {m : Mem} {d : Byte} {i : Nat} (lo hi : Nat) (hm : wf d m = true) (h : above i m = true) :
    above i (clearRange m lo hi) = true := by
  induction m generalizing i with
  | nil => rfl
  | cons p m ih =>
    obtain ⟨j, c⟩ := p
    simp only [wf, Bool.and_eq_true] at hm
    simp only [above, decide_eq_true_eq] at h
    simp only [clearRange]
    split
    · exact ih hm.2 (above_trans hm.1.1 (by omega))
    · simpa [above] using h

theorem wf_clearRange {d : Byte} {m : Mem} (hm : wf d m = true) (lo hi : Nat) : wf d (clearRange m lo hi) = true := by
  induction m with
  | nil => rfl
  | cons p m ih =>
    obtain ⟨j, c⟩ := p
    simp only [wf, Bool.and_eq_true] at hm
    simp only [clearRange]
    split
    · exact ih hm.2
    · simp only [wf, Bool.and_eq_true]
      exact ⟨⟨above_clearRange lo hi hm.2 hm.1.1, hm.1.2⟩, ih hm.2⟩

theorem read_clearRange (d : Byte) (m : Mem) (lo hi x : Nat) :
    read d (clearRange m lo hi) x = if lo ≤ x ∧ x < hi then d else read d m x := by
  induction m with
  | nil => simp [clearRange, read]
  | cons p m ih =>
    obtain ⟨j, c⟩ := p
    simp only [clearRange]
    split
    · rw [ih]; simp only [read]; repeat' split
      all_goals first | rfl | omega
    · simp only [read, ih]; repeat' split
      all_goals first | rfl | omega

end Mem
end Sys2Proof
end

