-- ==== Sys2Proof/Laws/State.lean ====
section
/-! SUPPORT. One lemma per block and per accessor for each update of State, so that no proof unfolds a record
update. -/

namespace Sys2Proof.Machine
variable (s : State)

/-! ### State.setEng -/

@[simp] theorem setEng_sys (e : Nat) (x : Eng) : (s.setEng e x).sys = s.sys := rfl
@[simp] theorem setEng_otp (e : Nat) (x : Eng) : (s.setEng e x).otp = s.otp := rfl
@[simp] theorem setEng_sage (e : Nat) (x : Eng) : (s.setEng e x).sage = s.sage := rfl
@[simp] theorem setEng_mbx (e : Nat) (x : Eng) : (s.setEng e x).mbx = s.mbx := rfl
@[simp] theorem setEng_mem (e : Nat) (x : Eng) : (s.setEng e x).mem = s.mem := rfl
@[simp] theorem setEng_host (e : Nat) (x : Eng) : (s.setEng e x).host = s.host := rfl
@[simp] theorem setEng_cfg (e : Nat) (x : Eng) : (s.setEng e x).cfg = s.cfg := rfl
@[simp] theorem setEng_rmy (e : Nat) (x : Eng) : (s.setEng e x).rmy = s.rmy := rfl
@[simp] theorem setEng_time (e : Nat) (x : Eng) : (s.setEng e x).time = s.time := rfl
@[simp] theorem setEng_pnt (e : Nat) (x : Eng) : (s.setEng e x).pnt = s.pnt := rfl
@[simp] theorem setEng_tt (e : Nat) (x : Eng) : (s.setEng e x).tt = s.tt := rfl
@[simp] theorem setEng_ports (e : Nat) (x : Eng) : (s.setEng e x).ports = s.ports := rfl
@[simp] theorem setEng_pairs (e : Nat) (x : Eng) : (s.setEng e x).pairs = s.pairs := rfl
@[simp] theorem setEng_sw (e : Nat) (x : Eng) : (s.setEng e x).sw = s.sw := rfl
@[simp] theorem setEng_fab (e : Nat) (x : Eng) : (s.setEng e x).fab = s.fab := rfl
@[simp] theorem setEng_can (e : Nat) (x : Eng) : (s.setEng e x).can = s.can := rfl
@[simp] theorem setEng_chv (e : Nat) (x : Eng) : (s.setEng e x).chv = s.chv := rfl
@[simp] theorem setEng_age (e : Nat) (x : Eng) : (s.setEng e x).age = s.age := rfl
@[simp] theorem setEng_pending (e : Nat) (x : Eng) : (s.setEng e x).pending = s.pending := rfl
theorem eng_setEng (e : Nat) (x : Eng) (j : Nat) :
    (s.setEng e x).eng j = if j = e then x else s.eng j := by
  simp only [State.eng, State.setEng, Tab.get_set]
@[simp] theorem eng_setEng_self (e : Nat) (x : Eng) : (s.setEng e x).eng e = x := by
  simp [eng_setEng]
@[simp] theorem setEng_setEng (e : Nat) (x y : Eng) : (s.setEng e x).setEng e y = s.setEng e y := by
  simp [State.setEng]
@[simp] theorem cl_setEng (e : Nat) (x : Eng) (j : Nat) : (s.setEng e x).cl j = s.cl j := rfl
@[simp] theorem mb_setEng (e : Nat) (x : Eng) (j : Nat) : (s.setEng e x).mb j = s.mb j := rfl
@[simp] theorem port_setEng (e : Nat) (x : Eng) (j : Nat) : (s.setEng e x).port j = s.port j := rfl
@[simp] theorem point_setEng (e : Nat) (x : Eng) (j : Nat) : (s.setEng e x).point j = s.point j := rfl
@[simp] theorem tport_setEng (e : Nat) (x : Eng) (j : Nat) : (s.setEng e x).tport j = s.tport j := rfl
@[simp] theorem tchan_setEng (e : Nat) (x : Eng) (j : Nat) : (s.setEng e x).tchan j = s.tchan j := rfl
@[simp] theorem chan_setEng (e : Nat) (x : Eng) (j : Nat) : (s.setEng e x).chan j = s.chan j := rfl
@[simp] theorem ce_setEng (e : Nat) (x : Eng) (j : Nat) : (s.setEng e x).ce j = s.ce j := rfl
@[simp] theorem island_setEng (e : Nat) (x : Eng) (j : Nat) : (s.setEng e x).island j = s.island j := rfl
@[simp] theorem rail_setEng (e : Nat) (x : Eng) (j : Nat) : (s.setEng e x).rail j = s.rail j := rfl

/-! ### State.setCl -/

@[simp] theorem setCl_sys (k : Nat) (x : Cluster) : (s.setCl k x).sys = s.sys := rfl
@[simp] theorem setCl_otp (k : Nat) (x : Cluster) : (s.setCl k x).otp = s.otp := rfl
@[simp] theorem setCl_sage (k : Nat) (x : Cluster) : (s.setCl k x).sage = s.sage := rfl
@[simp] theorem setCl_mbx (k : Nat) (x : Cluster) : (s.setCl k x).mbx = s.mbx := rfl
@[simp] theorem setCl_mem (k : Nat) (x : Cluster) : (s.setCl k x).mem = s.mem := rfl
@[simp] theorem setCl_host (k : Nat) (x : Cluster) : (s.setCl k x).host = s.host := rfl
@[simp] theorem setCl_cfg (k : Nat) (x : Cluster) : (s.setCl k x).cfg = s.cfg := rfl
@[simp] theorem setCl_engs (k : Nat) (x : Cluster) : (s.setCl k x).engs = s.engs := rfl
@[simp] theorem setCl_time (k : Nat) (x : Cluster) : (s.setCl k x).time = s.time := rfl
@[simp] theorem setCl_pnt (k : Nat) (x : Cluster) : (s.setCl k x).pnt = s.pnt := rfl
@[simp] theorem setCl_tt (k : Nat) (x : Cluster) : (s.setCl k x).tt = s.tt := rfl
@[simp] theorem setCl_ports (k : Nat) (x : Cluster) : (s.setCl k x).ports = s.ports := rfl
@[simp] theorem setCl_pairs (k : Nat) (x : Cluster) : (s.setCl k x).pairs = s.pairs := rfl
@[simp] theorem setCl_sw (k : Nat) (x : Cluster) : (s.setCl k x).sw = s.sw := rfl
@[simp] theorem setCl_fab (k : Nat) (x : Cluster) : (s.setCl k x).fab = s.fab := rfl
@[simp] theorem setCl_can (k : Nat) (x : Cluster) : (s.setCl k x).can = s.can := rfl
@[simp] theorem setCl_chv (k : Nat) (x : Cluster) : (s.setCl k x).chv = s.chv := rfl
@[simp] theorem setCl_age (k : Nat) (x : Cluster) : (s.setCl k x).age = s.age := rfl
@[simp] theorem setCl_pending (k : Nat) (x : Cluster) : (s.setCl k x).pending = s.pending := rfl
theorem cl_setCl (k : Nat) (x : Cluster) (j : Nat) :
    (s.setCl k x).cl j = if j = k then x else s.cl j := by
  simp only [State.cl, State.setCl, Tab.get_set]
@[simp] theorem cl_setCl_self (k : Nat) (x : Cluster) : (s.setCl k x).cl k = x := by
  simp [cl_setCl]
@[simp] theorem setCl_setCl (k : Nat) (x y : Cluster) : (s.setCl k x).setCl k y = s.setCl k y := by
  simp [State.setCl]
@[simp] theorem eng_setCl (k : Nat) (x : Cluster) (j : Nat) : (s.setCl k x).eng j = s.eng j := rfl
@[simp] theorem mb_setCl (k : Nat) (x : Cluster) (j : Nat) : (s.setCl k x).mb j = s.mb j := rfl
@[simp] theorem port_setCl (k : Nat) (x : Cluster) (j : Nat) : (s.setCl k x).port j = s.port j := rfl
@[simp] theorem point_setCl (k : Nat) (x : Cluster) (j : Nat) : (s.setCl k x).point j = s.point j := rfl
@[simp] theorem tport_setCl (k : Nat) (x : Cluster) (j : Nat) : (s.setCl k x).tport j = s.tport j := rfl
@[simp] theorem tchan_setCl (k : Nat) (x : Cluster) (j : Nat) : (s.setCl k x).tchan j = s.tchan j := rfl
@[simp] theorem chan_setCl (k : Nat) (x : Cluster) (j : Nat) : (s.setCl k x).chan j = s.chan j := rfl
@[simp] theorem ce_setCl (k : Nat) (x : Cluster) (j : Nat) : (s.setCl k x).ce j = s.ce j := rfl
@[simp] theorem island_setCl (k : Nat) (x : Cluster) (j : Nat) : (s.setCl k x).island j = s.island j := rfl
@[simp] theorem rail_setCl (k : Nat) (x : Cluster) (j : Nat) : (s.setCl k x).rail j = s.rail j := rfl

/-! ### State.setMb -/

@[simp] theorem setMb_sys (n : Nat) (x : Mbox) : (s.setMb n x).sys = s.sys := rfl
@[simp] theorem setMb_otp (n : Nat) (x : Mbox) : (s.setMb n x).otp = s.otp := rfl
@[simp] theorem setMb_sage (n : Nat) (x : Mbox) : (s.setMb n x).sage = s.sage := rfl
@[simp] theorem setMb_mem (n : Nat) (x : Mbox) : (s.setMb n x).mem = s.mem := rfl
@[simp] theorem setMb_host (n : Nat) (x : Mbox) : (s.setMb n x).host = s.host := rfl
@[simp] theorem setMb_cfg (n : Nat) (x : Mbox) : (s.setMb n x).cfg = s.cfg := rfl
@[simp] theorem setMb_engs (n : Nat) (x : Mbox) : (s.setMb n x).engs = s.engs := rfl
@[simp] theorem setMb_rmy (n : Nat) (x : Mbox) : (s.setMb n x).rmy = s.rmy := rfl
@[simp] theorem setMb_time (n : Nat) (x : Mbox) : (s.setMb n x).time = s.time := rfl
@[simp] theorem setMb_pnt (n : Nat) (x : Mbox) : (s.setMb n x).pnt = s.pnt := rfl
@[simp] theorem setMb_tt (n : Nat) (x : Mbox) : (s.setMb n x).tt = s.tt := rfl
@[simp] theorem setMb_ports (n : Nat) (x : Mbox) : (s.setMb n x).ports = s.ports := rfl
@[simp] theorem setMb_pairs (n : Nat) (x : Mbox) : (s.setMb n x).pairs = s.pairs := rfl
@[simp] theorem setMb_sw (n : Nat) (x : Mbox) : (s.setMb n x).sw = s.sw := rfl
@[simp] theorem setMb_fab (n : Nat) (x : Mbox) : (s.setMb n x).fab = s.fab := rfl
@[simp] theorem setMb_can (n : Nat) (x : Mbox) : (s.setMb n x).can = s.can := rfl
@[simp] theorem setMb_chv (n : Nat) (x : Mbox) : (s.setMb n x).chv = s.chv := rfl
@[simp] theorem setMb_age (n : Nat) (x : Mbox) : (s.setMb n x).age = s.age := rfl
@[simp] theorem setMb_pending (n : Nat) (x : Mbox) : (s.setMb n x).pending = s.pending := rfl
theorem mb_setMb (n : Nat) (x : Mbox) (j : Nat) :
    (s.setMb n x).mb j = if j = n then x else s.mb j := by
  simp only [State.mb, State.setMb, Tab.get_set]
@[simp] theorem mb_setMb_self (n : Nat) (x : Mbox) : (s.setMb n x).mb n = x := by
  simp [mb_setMb]
@[simp] theorem setMb_setMb (n : Nat) (x y : Mbox) : (s.setMb n x).setMb n y = s.setMb n y := by
  simp [State.setMb]
@[simp] theorem eng_setMb (n : Nat) (x : Mbox) (j : Nat) : (s.setMb n x).eng j = s.eng j := rfl
@[simp] theorem cl_setMb (n : Nat) (x : Mbox) (j : Nat) : (s.setMb n x).cl j = s.cl j := rfl
@[simp] theorem port_setMb (n : Nat) (x : Mbox) (j : Nat) : (s.setMb n x).port j = s.port j := rfl
@[simp] theorem point_setMb (n : Nat) (x : Mbox) (j : Nat) : (s.setMb n x).point j = s.point j := rfl
@[simp] theorem tport_setMb (n : Nat) (x : Mbox) (j : Nat) : (s.setMb n x).tport j = s.tport j := rfl
@[simp] theorem tchan_setMb (n : Nat) (x : Mbox) (j : Nat) : (s.setMb n x).tchan j = s.tchan j := rfl
@[simp] theorem chan_setMb (n : Nat) (x : Mbox) (j : Nat) : (s.setMb n x).chan j = s.chan j := rfl
@[simp] theorem ce_setMb (n : Nat) (x : Mbox) (j : Nat) : (s.setMb n x).ce j = s.ce j := rfl
@[simp] theorem island_setMb (n : Nat) (x : Mbox) (j : Nat) : (s.setMb n x).island j = s.island j := rfl
@[simp] theorem rail_setMb (n : Nat) (x : Mbox) (j : Nat) : (s.setMb n x).rail j = s.rail j := rfl

/-! ### State.setPort -/

@[simp] theorem setPort_sys (n : Nat) (x : Port) : (s.setPort n x).sys = s.sys := rfl
@[simp] theorem setPort_otp (n : Nat) (x : Port) : (s.setPort n x).otp = s.otp := rfl
@[simp] theorem setPort_sage (n : Nat) (x : Port) : (s.setPort n x).sage = s.sage := rfl
@[simp] theorem setPort_mbx (n : Nat) (x : Port) : (s.setPort n x).mbx = s.mbx := rfl
@[simp] theorem setPort_mem (n : Nat) (x : Port) : (s.setPort n x).mem = s.mem := rfl
@[simp] theorem setPort_host (n : Nat) (x : Port) : (s.setPort n x).host = s.host := rfl
@[simp] theorem setPort_cfg (n : Nat) (x : Port) : (s.setPort n x).cfg = s.cfg := rfl
@[simp] theorem setPort_engs (n : Nat) (x : Port) : (s.setPort n x).engs = s.engs := rfl
@[simp] theorem setPort_rmy (n : Nat) (x : Port) : (s.setPort n x).rmy = s.rmy := rfl
@[simp] theorem setPort_time (n : Nat) (x : Port) : (s.setPort n x).time = s.time := rfl
@[simp] theorem setPort_pnt (n : Nat) (x : Port) : (s.setPort n x).pnt = s.pnt := rfl
@[simp] theorem setPort_tt (n : Nat) (x : Port) : (s.setPort n x).tt = s.tt := rfl
@[simp] theorem setPort_pairs (n : Nat) (x : Port) : (s.setPort n x).pairs = s.pairs := rfl
@[simp] theorem setPort_sw (n : Nat) (x : Port) : (s.setPort n x).sw = s.sw := rfl
@[simp] theorem setPort_fab (n : Nat) (x : Port) : (s.setPort n x).fab = s.fab := rfl
@[simp] theorem setPort_can (n : Nat) (x : Port) : (s.setPort n x).can = s.can := rfl
@[simp] theorem setPort_chv (n : Nat) (x : Port) : (s.setPort n x).chv = s.chv := rfl
@[simp] theorem setPort_age (n : Nat) (x : Port) : (s.setPort n x).age = s.age := rfl
@[simp] theorem setPort_pending (n : Nat) (x : Port) : (s.setPort n x).pending = s.pending := rfl
theorem port_setPort (n : Nat) (x : Port) (j : Nat) :
    (s.setPort n x).port j = if j = n then x else s.port j := by
  simp only [State.port, State.setPort, Tab.get_set]
@[simp] theorem port_setPort_self (n : Nat) (x : Port) : (s.setPort n x).port n = x := by
  simp [port_setPort]
@[simp] theorem setPort_setPort (n : Nat) (x y : Port) : (s.setPort n x).setPort n y = s.setPort n y := by
  simp [State.setPort]
@[simp] theorem eng_setPort (n : Nat) (x : Port) (j : Nat) : (s.setPort n x).eng j = s.eng j := rfl
@[simp] theorem cl_setPort (n : Nat) (x : Port) (j : Nat) : (s.setPort n x).cl j = s.cl j := rfl
@[simp] theorem mb_setPort (n : Nat) (x : Port) (j : Nat) : (s.setPort n x).mb j = s.mb j := rfl
@[simp] theorem point_setPort (n : Nat) (x : Port) (j : Nat) : (s.setPort n x).point j = s.point j := rfl
@[simp] theorem tport_setPort (n : Nat) (x : Port) (j : Nat) : (s.setPort n x).tport j = s.tport j := rfl
@[simp] theorem tchan_setPort (n : Nat) (x : Port) (j : Nat) : (s.setPort n x).tchan j = s.tchan j := rfl
@[simp] theorem chan_setPort (n : Nat) (x : Port) (j : Nat) : (s.setPort n x).chan j = s.chan j := rfl
@[simp] theorem ce_setPort (n : Nat) (x : Port) (j : Nat) : (s.setPort n x).ce j = s.ce j := rfl
@[simp] theorem island_setPort (n : Nat) (x : Port) (j : Nat) : (s.setPort n x).island j = s.island j := rfl
@[simp] theorem rail_setPort (n : Nat) (x : Port) (j : Nat) : (s.setPort n x).rail j = s.rail j := rfl

/-! ### State.setPoint -/

@[simp] theorem setPoint_sys (p : Nat) (x : Point) : (s.setPoint p x).sys = s.sys := rfl
@[simp] theorem setPoint_otp (p : Nat) (x : Point) : (s.setPoint p x).otp = s.otp := rfl
@[simp] theorem setPoint_sage (p : Nat) (x : Point) : (s.setPoint p x).sage = s.sage := rfl
@[simp] theorem setPoint_mbx (p : Nat) (x : Point) : (s.setPoint p x).mbx = s.mbx := rfl
@[simp] theorem setPoint_mem (p : Nat) (x : Point) : (s.setPoint p x).mem = s.mem := rfl
@[simp] theorem setPoint_host (p : Nat) (x : Point) : (s.setPoint p x).host = s.host := rfl
@[simp] theorem setPoint_cfg (p : Nat) (x : Point) : (s.setPoint p x).cfg = s.cfg := rfl
@[simp] theorem setPoint_engs (p : Nat) (x : Point) : (s.setPoint p x).engs = s.engs := rfl
@[simp] theorem setPoint_rmy (p : Nat) (x : Point) : (s.setPoint p x).rmy = s.rmy := rfl
@[simp] theorem setPoint_time (p : Nat) (x : Point) : (s.setPoint p x).time = s.time := rfl
@[simp] theorem setPoint_tt (p : Nat) (x : Point) : (s.setPoint p x).tt = s.tt := rfl
@[simp] theorem setPoint_ports (p : Nat) (x : Point) : (s.setPoint p x).ports = s.ports := rfl
@[simp] theorem setPoint_pairs (p : Nat) (x : Point) : (s.setPoint p x).pairs = s.pairs := rfl
@[simp] theorem setPoint_sw (p : Nat) (x : Point) : (s.setPoint p x).sw = s.sw := rfl
@[simp] theorem setPoint_fab (p : Nat) (x : Point) : (s.setPoint p x).fab = s.fab := rfl
@[simp] theorem setPoint_can (p : Nat) (x : Point) : (s.setPoint p x).can = s.can := rfl
@[simp] theorem setPoint_chv (p : Nat) (x : Point) : (s.setPoint p x).chv = s.chv := rfl
@[simp] theorem setPoint_age (p : Nat) (x : Point) : (s.setPoint p x).age = s.age := rfl
@[simp] theorem setPoint_pending (p : Nat) (x : Point) : (s.setPoint p x).pending = s.pending := rfl
theorem point_setPoint (p : Nat) (x : Point) (j : Nat) :
    (s.setPoint p x).point j = if j = p then x else s.point j := by
  unfold State.point State.setPoint
  simp only [Tab.find?_set]
  by_cases h : j = p <;> simp [h] <;> rfl
@[simp] theorem point_setPoint_self (p : Nat) (x : Point) : (s.setPoint p x).point p = x := by
  simp [point_setPoint]
@[simp] theorem setPoint_setPoint (p : Nat) (x y : Point) : (s.setPoint p x).setPoint p y = s.setPoint p y := by
  simp [State.setPoint]
@[simp] theorem eng_setPoint (p : Nat) (x : Point) (j : Nat) : (s.setPoint p x).eng j = s.eng j := rfl
@[simp] theorem cl_setPoint (p : Nat) (x : Point) (j : Nat) : (s.setPoint p x).cl j = s.cl j := rfl
@[simp] theorem mb_setPoint (p : Nat) (x : Point) (j : Nat) : (s.setPoint p x).mb j = s.mb j := rfl
@[simp] theorem port_setPoint (p : Nat) (x : Point) (j : Nat) : (s.setPoint p x).port j = s.port j := rfl
@[simp] theorem tport_setPoint (p : Nat) (x : Point) (j : Nat) : (s.setPoint p x).tport j = s.tport j := rfl
@[simp] theorem tchan_setPoint (p : Nat) (x : Point) (j : Nat) : (s.setPoint p x).tchan j = s.tchan j := rfl
@[simp] theorem chan_setPoint (p : Nat) (x : Point) (j : Nat) : (s.setPoint p x).chan j = s.chan j := rfl
@[simp] theorem ce_setPoint (p : Nat) (x : Point) (j : Nat) : (s.setPoint p x).ce j = s.ce j := rfl
@[simp] theorem island_setPoint (p : Nat) (x : Point) (j : Nat) : (s.setPoint p x).island j = s.island j := rfl
@[simp] theorem rail_setPoint (p : Nat) (x : Point) (j : Nat) : (s.setPoint p x).rail j = s.rail j := rfl

/-! ### State.setSwPort -/

@[simp] theorem setSwPort_sys (n : Nat) (x : SwPort) : (s.setSwPort n x).sys = s.sys := rfl
@[simp] theorem setSwPort_otp (n : Nat) (x : SwPort) : (s.setSwPort n x).otp = s.otp := rfl
@[simp] theorem setSwPort_sage (n : Nat) (x : SwPort) : (s.setSwPort n x).sage = s.sage := rfl
@[simp] theorem setSwPort_mbx (n : Nat) (x : SwPort) : (s.setSwPort n x).mbx = s.mbx := rfl
@[simp] theorem setSwPort_mem (n : Nat) (x : SwPort) : (s.setSwPort n x).mem = s.mem := rfl
@[simp] theorem setSwPort_host (n : Nat) (x : SwPort) : (s.setSwPort n x).host = s.host := rfl
@[simp] theorem setSwPort_cfg (n : Nat) (x : SwPort) : (s.setSwPort n x).cfg = s.cfg := rfl
@[simp] theorem setSwPort_engs (n : Nat) (x : SwPort) : (s.setSwPort n x).engs = s.engs := rfl
@[simp] theorem setSwPort_rmy (n : Nat) (x : SwPort) : (s.setSwPort n x).rmy = s.rmy := rfl
@[simp] theorem setSwPort_time (n : Nat) (x : SwPort) : (s.setSwPort n x).time = s.time := rfl
@[simp] theorem setSwPort_pnt (n : Nat) (x : SwPort) : (s.setSwPort n x).pnt = s.pnt := rfl
@[simp] theorem setSwPort_tt (n : Nat) (x : SwPort) : (s.setSwPort n x).tt = s.tt := rfl
@[simp] theorem setSwPort_ports (n : Nat) (x : SwPort) : (s.setSwPort n x).ports = s.ports := rfl
@[simp] theorem setSwPort_pairs (n : Nat) (x : SwPort) : (s.setSwPort n x).pairs = s.pairs := rfl
@[simp] theorem setSwPort_fab (n : Nat) (x : SwPort) : (s.setSwPort n x).fab = s.fab := rfl
@[simp] theorem setSwPort_can (n : Nat) (x : SwPort) : (s.setSwPort n x).can = s.can := rfl
@[simp] theorem setSwPort_chv (n : Nat) (x : SwPort) : (s.setSwPort n x).chv = s.chv := rfl
@[simp] theorem setSwPort_age (n : Nat) (x : SwPort) : (s.setSwPort n x).age = s.age := rfl
@[simp] theorem setSwPort_pending (n : Nat) (x : SwPort) : (s.setSwPort n x).pending = s.pending := rfl
theorem swPort_setSwPort (n : Nat) (x : SwPort) (j : Nat) :
    (s.setSwPort n x).swPort j = if j = n then x else s.swPort j := by
  simp only [State.swPort, State.setSwPort, Tab.get_set]
@[simp] theorem swPort_setSwPort_self (n : Nat) (x : SwPort) : (s.setSwPort n x).swPort n = x := by
  simp [swPort_setSwPort]
@[simp] theorem setSwPort_setSwPort (n : Nat) (x y : SwPort) : (s.setSwPort n x).setSwPort n y = s.setSwPort n y := by
  simp [State.setSwPort]
@[simp] theorem eng_setSwPort (n : Nat) (x : SwPort) (j : Nat) : (s.setSwPort n x).eng j = s.eng j := rfl
@[simp] theorem cl_setSwPort (n : Nat) (x : SwPort) (j : Nat) : (s.setSwPort n x).cl j = s.cl j := rfl
@[simp] theorem mb_setSwPort (n : Nat) (x : SwPort) (j : Nat) : (s.setSwPort n x).mb j = s.mb j := rfl
@[simp] theorem port_setSwPort (n : Nat) (x : SwPort) (j : Nat) : (s.setSwPort n x).port j = s.port j := rfl
@[simp] theorem point_setSwPort (n : Nat) (x : SwPort) (j : Nat) : (s.setSwPort n x).point j = s.point j := rfl
@[simp] theorem tport_setSwPort (n : Nat) (x : SwPort) (j : Nat) : (s.setSwPort n x).tport j = s.tport j := rfl
@[simp] theorem tchan_setSwPort (n : Nat) (x : SwPort) (j : Nat) : (s.setSwPort n x).tchan j = s.tchan j := rfl
@[simp] theorem chan_setSwPort (n : Nat) (x : SwPort) (j : Nat) : (s.setSwPort n x).chan j = s.chan j := rfl
@[simp] theorem ce_setSwPort (n : Nat) (x : SwPort) (j : Nat) : (s.setSwPort n x).ce j = s.ce j := rfl
@[simp] theorem island_setSwPort (n : Nat) (x : SwPort) (j : Nat) : (s.setSwPort n x).island j = s.island j := rfl
@[simp] theorem rail_setSwPort (n : Nat) (x : SwPort) (j : Nat) : (s.setSwPort n x).rail j = s.rail j := rfl

/-! ### State.setTport -/

@[simp] theorem setTport_sys (n : Nat) (x : TtPort) : (s.setTport n x).sys = s.sys := rfl
@[simp] theorem setTport_otp (n : Nat) (x : TtPort) : (s.setTport n x).otp = s.otp := rfl
@[simp] theorem setTport_sage (n : Nat) (x : TtPort) : (s.setTport n x).sage = s.sage := rfl
@[simp] theorem setTport_mbx (n : Nat) (x : TtPort) : (s.setTport n x).mbx = s.mbx := rfl
@[simp] theorem setTport_mem (n : Nat) (x : TtPort) : (s.setTport n x).mem = s.mem := rfl
@[simp] theorem setTport_host (n : Nat) (x : TtPort) : (s.setTport n x).host = s.host := rfl
@[simp] theorem setTport_cfg (n : Nat) (x : TtPort) : (s.setTport n x).cfg = s.cfg := rfl
@[simp] theorem setTport_engs (n : Nat) (x : TtPort) : (s.setTport n x).engs = s.engs := rfl
@[simp] theorem setTport_rmy (n : Nat) (x : TtPort) : (s.setTport n x).rmy = s.rmy := rfl
@[simp] theorem setTport_time (n : Nat) (x : TtPort) : (s.setTport n x).time = s.time := rfl
@[simp] theorem setTport_pnt (n : Nat) (x : TtPort) : (s.setTport n x).pnt = s.pnt := rfl
@[simp] theorem setTport_ports (n : Nat) (x : TtPort) : (s.setTport n x).ports = s.ports := rfl
@[simp] theorem setTport_pairs (n : Nat) (x : TtPort) : (s.setTport n x).pairs = s.pairs := rfl
@[simp] theorem setTport_sw (n : Nat) (x : TtPort) : (s.setTport n x).sw = s.sw := rfl
@[simp] theorem setTport_fab (n : Nat) (x : TtPort) : (s.setTport n x).fab = s.fab := rfl
@[simp] theorem setTport_can (n : Nat) (x : TtPort) : (s.setTport n x).can = s.can := rfl
@[simp] theorem setTport_chv (n : Nat) (x : TtPort) : (s.setTport n x).chv = s.chv := rfl
@[simp] theorem setTport_age (n : Nat) (x : TtPort) : (s.setTport n x).age = s.age := rfl
@[simp] theorem setTport_pending (n : Nat) (x : TtPort) : (s.setTport n x).pending = s.pending := rfl
theorem tport_setTport (n : Nat) (x : TtPort) (j : Nat) :
    (s.setTport n x).tport j = if j = n then x else s.tport j := by
  simp only [State.tport, State.setTport, Tab.get_set]
@[simp] theorem tport_setTport_self (n : Nat) (x : TtPort) : (s.setTport n x).tport n = x := by
  simp [tport_setTport]
@[simp] theorem setTport_setTport (n : Nat) (x y : TtPort) : (s.setTport n x).setTport n y = s.setTport n y := by
  simp [State.setTport]
@[simp] theorem eng_setTport (n : Nat) (x : TtPort) (j : Nat) : (s.setTport n x).eng j = s.eng j := rfl
@[simp] theorem cl_setTport (n : Nat) (x : TtPort) (j : Nat) : (s.setTport n x).cl j = s.cl j := rfl
@[simp] theorem mb_setTport (n : Nat) (x : TtPort) (j : Nat) : (s.setTport n x).mb j = s.mb j := rfl
@[simp] theorem port_setTport (n : Nat) (x : TtPort) (j : Nat) : (s.setTport n x).port j = s.port j := rfl
@[simp] theorem point_setTport (n : Nat) (x : TtPort) (j : Nat) : (s.setTport n x).point j = s.point j := rfl
@[simp] theorem tchan_setTport (n : Nat) (x : TtPort) (j : Nat) : (s.setTport n x).tchan j = s.tchan j := rfl
@[simp] theorem chan_setTport (n : Nat) (x : TtPort) (j : Nat) : (s.setTport n x).chan j = s.chan j := rfl
@[simp] theorem ce_setTport (n : Nat) (x : TtPort) (j : Nat) : (s.setTport n x).ce j = s.ce j := rfl
@[simp] theorem island_setTport (n : Nat) (x : TtPort) (j : Nat) : (s.setTport n x).island j = s.island j := rfl
@[simp] theorem rail_setTport (n : Nat) (x : TtPort) (j : Nat) : (s.setTport n x).rail j = s.rail j := rfl

/-! ### State.setTchan -/

@[simp] theorem setTchan_sys (k : Nat) (x : TtChan) : (s.setTchan k x).sys = s.sys := rfl
@[simp] theorem setTchan_otp (k : Nat) (x : TtChan) : (s.setTchan k x).otp = s.otp := rfl
@[simp] theorem setTchan_sage (k : Nat) (x : TtChan) : (s.setTchan k x).sage = s.sage := rfl
@[simp] theorem setTchan_mbx (k : Nat) (x : TtChan) : (s.setTchan k x).mbx = s.mbx := rfl
@[simp] theorem setTchan_mem (k : Nat) (x : TtChan) : (s.setTchan k x).mem = s.mem := rfl
@[simp] theorem setTchan_host (k : Nat) (x : TtChan) : (s.setTchan k x).host = s.host := rfl
@[simp] theorem setTchan_cfg (k : Nat) (x : TtChan) : (s.setTchan k x).cfg = s.cfg := rfl
@[simp] theorem setTchan_engs (k : Nat) (x : TtChan) : (s.setTchan k x).engs = s.engs := rfl
@[simp] theorem setTchan_rmy (k : Nat) (x : TtChan) : (s.setTchan k x).rmy = s.rmy := rfl
@[simp] theorem setTchan_time (k : Nat) (x : TtChan) : (s.setTchan k x).time = s.time := rfl
@[simp] theorem setTchan_pnt (k : Nat) (x : TtChan) : (s.setTchan k x).pnt = s.pnt := rfl
@[simp] theorem setTchan_ports (k : Nat) (x : TtChan) : (s.setTchan k x).ports = s.ports := rfl
@[simp] theorem setTchan_pairs (k : Nat) (x : TtChan) : (s.setTchan k x).pairs = s.pairs := rfl
@[simp] theorem setTchan_sw (k : Nat) (x : TtChan) : (s.setTchan k x).sw = s.sw := rfl
@[simp] theorem setTchan_fab (k : Nat) (x : TtChan) : (s.setTchan k x).fab = s.fab := rfl
@[simp] theorem setTchan_can (k : Nat) (x : TtChan) : (s.setTchan k x).can = s.can := rfl
@[simp] theorem setTchan_chv (k : Nat) (x : TtChan) : (s.setTchan k x).chv = s.chv := rfl
@[simp] theorem setTchan_age (k : Nat) (x : TtChan) : (s.setTchan k x).age = s.age := rfl
@[simp] theorem setTchan_pending (k : Nat) (x : TtChan) : (s.setTchan k x).pending = s.pending := rfl
theorem tchan_setTchan (k : Nat) (x : TtChan) (j : Nat) :
    (s.setTchan k x).tchan j = if j = k then x else s.tchan j := by
  simp only [State.tchan, State.setTchan, Tab.get_set]
@[simp] theorem tchan_setTchan_self (k : Nat) (x : TtChan) : (s.setTchan k x).tchan k = x := by
  simp [tchan_setTchan]
@[simp] theorem setTchan_setTchan (k : Nat) (x y : TtChan) : (s.setTchan k x).setTchan k y = s.setTchan k y := by
  simp [State.setTchan]
@[simp] theorem eng_setTchan (k : Nat) (x : TtChan) (j : Nat) : (s.setTchan k x).eng j = s.eng j := rfl
@[simp] theorem cl_setTchan (k : Nat) (x : TtChan) (j : Nat) : (s.setTchan k x).cl j = s.cl j := rfl
@[simp] theorem mb_setTchan (k : Nat) (x : TtChan) (j : Nat) : (s.setTchan k x).mb j = s.mb j := rfl
@[simp] theorem port_setTchan (k : Nat) (x : TtChan) (j : Nat) : (s.setTchan k x).port j = s.port j := rfl
@[simp] theorem point_setTchan (k : Nat) (x : TtChan) (j : Nat) : (s.setTchan k x).point j = s.point j := rfl
@[simp] theorem tport_setTchan (k : Nat) (x : TtChan) (j : Nat) : (s.setTchan k x).tport j = s.tport j := rfl
@[simp] theorem chan_setTchan (k : Nat) (x : TtChan) (j : Nat) : (s.setTchan k x).chan j = s.chan j := rfl
@[simp] theorem ce_setTchan (k : Nat) (x : TtChan) (j : Nat) : (s.setTchan k x).ce j = s.ce j := rfl
@[simp] theorem island_setTchan (k : Nat) (x : TtChan) (j : Nat) : (s.setTchan k x).island j = s.island j := rfl
@[simp] theorem rail_setTchan (k : Nat) (x : TtChan) (j : Nat) : (s.setTchan k x).rail j = s.rail j := rfl

/-! ### State.setChan -/

@[simp] theorem setChan_sys (c : Nat) (x : CanChan) : (s.setChan c x).sys = s.sys := rfl
@[simp] theorem setChan_otp (c : Nat) (x : CanChan) : (s.setChan c x).otp = s.otp := rfl
@[simp] theorem setChan_sage (c : Nat) (x : CanChan) : (s.setChan c x).sage = s.sage := rfl
@[simp] theorem setChan_mbx (c : Nat) (x : CanChan) : (s.setChan c x).mbx = s.mbx := rfl
@[simp] theorem setChan_mem (c : Nat) (x : CanChan) : (s.setChan c x).mem = s.mem := rfl
@[simp] theorem setChan_host (c : Nat) (x : CanChan) : (s.setChan c x).host = s.host := rfl
@[simp] theorem setChan_cfg (c : Nat) (x : CanChan) : (s.setChan c x).cfg = s.cfg := rfl
@[simp] theorem setChan_engs (c : Nat) (x : CanChan) : (s.setChan c x).engs = s.engs := rfl
@[simp] theorem setChan_rmy (c : Nat) (x : CanChan) : (s.setChan c x).rmy = s.rmy := rfl
@[simp] theorem setChan_time (c : Nat) (x : CanChan) : (s.setChan c x).time = s.time := rfl
@[simp] theorem setChan_pnt (c : Nat) (x : CanChan) : (s.setChan c x).pnt = s.pnt := rfl
@[simp] theorem setChan_tt (c : Nat) (x : CanChan) : (s.setChan c x).tt = s.tt := rfl
@[simp] theorem setChan_ports (c : Nat) (x : CanChan) : (s.setChan c x).ports = s.ports := rfl
@[simp] theorem setChan_pairs (c : Nat) (x : CanChan) : (s.setChan c x).pairs = s.pairs := rfl
@[simp] theorem setChan_sw (c : Nat) (x : CanChan) : (s.setChan c x).sw = s.sw := rfl
@[simp] theorem setChan_fab (c : Nat) (x : CanChan) : (s.setChan c x).fab = s.fab := rfl
@[simp] theorem setChan_chv (c : Nat) (x : CanChan) : (s.setChan c x).chv = s.chv := rfl
@[simp] theorem setChan_age (c : Nat) (x : CanChan) : (s.setChan c x).age = s.age := rfl
@[simp] theorem setChan_pending (c : Nat) (x : CanChan) : (s.setChan c x).pending = s.pending := rfl
theorem chan_setChan (c : Nat) (x : CanChan) (j : Nat) :
    (s.setChan c x).chan j = if j = c then x else s.chan j := by
  simp only [State.chan, State.setChan, Tab.get_set]
@[simp] theorem chan_setChan_self (c : Nat) (x : CanChan) : (s.setChan c x).chan c = x := by
  simp [chan_setChan]
@[simp] theorem setChan_setChan (c : Nat) (x y : CanChan) : (s.setChan c x).setChan c y = s.setChan c y := by
  simp [State.setChan]
@[simp] theorem eng_setChan (c : Nat) (x : CanChan) (j : Nat) : (s.setChan c x).eng j = s.eng j := rfl
@[simp] theorem cl_setChan (c : Nat) (x : CanChan) (j : Nat) : (s.setChan c x).cl j = s.cl j := rfl
@[simp] theorem mb_setChan (c : Nat) (x : CanChan) (j : Nat) : (s.setChan c x).mb j = s.mb j := rfl
@[simp] theorem port_setChan (c : Nat) (x : CanChan) (j : Nat) : (s.setChan c x).port j = s.port j := rfl
@[simp] theorem point_setChan (c : Nat) (x : CanChan) (j : Nat) : (s.setChan c x).point j = s.point j := rfl
@[simp] theorem tport_setChan (c : Nat) (x : CanChan) (j : Nat) : (s.setChan c x).tport j = s.tport j := rfl
@[simp] theorem tchan_setChan (c : Nat) (x : CanChan) (j : Nat) : (s.setChan c x).tchan j = s.tchan j := rfl
@[simp] theorem ce_setChan (c : Nat) (x : CanChan) (j : Nat) : (s.setChan c x).ce j = s.ce j := rfl
@[simp] theorem island_setChan (c : Nat) (x : CanChan) (j : Nat) : (s.setChan c x).island j = s.island j := rfl
@[simp] theorem rail_setChan (c : Nat) (x : CanChan) (j : Nat) : (s.setChan c x).rail j = s.rail j := rfl

/-! ### State.setFport -/

@[simp] theorem setFport_sys (n : Nat) (x : FabPort) : (s.setFport n x).sys = s.sys := rfl
@[simp] theorem setFport_otp (n : Nat) (x : FabPort) : (s.setFport n x).otp = s.otp := rfl
@[simp] theorem setFport_sage (n : Nat) (x : FabPort) : (s.setFport n x).sage = s.sage := rfl
@[simp] theorem setFport_mbx (n : Nat) (x : FabPort) : (s.setFport n x).mbx = s.mbx := rfl
@[simp] theorem setFport_mem (n : Nat) (x : FabPort) : (s.setFport n x).mem = s.mem := rfl
@[simp] theorem setFport_host (n : Nat) (x : FabPort) : (s.setFport n x).host = s.host := rfl
@[simp] theorem setFport_cfg (n : Nat) (x : FabPort) : (s.setFport n x).cfg = s.cfg := rfl
@[simp] theorem setFport_engs (n : Nat) (x : FabPort) : (s.setFport n x).engs = s.engs := rfl
@[simp] theorem setFport_rmy (n : Nat) (x : FabPort) : (s.setFport n x).rmy = s.rmy := rfl
@[simp] theorem setFport_time (n : Nat) (x : FabPort) : (s.setFport n x).time = s.time := rfl
@[simp] theorem setFport_pnt (n : Nat) (x : FabPort) : (s.setFport n x).pnt = s.pnt := rfl
@[simp] theorem setFport_tt (n : Nat) (x : FabPort) : (s.setFport n x).tt = s.tt := rfl
@[simp] theorem setFport_ports (n : Nat) (x : FabPort) : (s.setFport n x).ports = s.ports := rfl
@[simp] theorem setFport_pairs (n : Nat) (x : FabPort) : (s.setFport n x).pairs = s.pairs := rfl
@[simp] theorem setFport_sw (n : Nat) (x : FabPort) : (s.setFport n x).sw = s.sw := rfl
@[simp] theorem setFport_can (n : Nat) (x : FabPort) : (s.setFport n x).can = s.can := rfl
@[simp] theorem setFport_chv (n : Nat) (x : FabPort) : (s.setFport n x).chv = s.chv := rfl
@[simp] theorem setFport_age (n : Nat) (x : FabPort) : (s.setFport n x).age = s.age := rfl
@[simp] theorem setFport_pending (n : Nat) (x : FabPort) : (s.setFport n x).pending = s.pending := rfl
theorem fport_setFport (n : Nat) (x : FabPort) (j : Nat) :
    (s.setFport n x).fport j = if j = n then x else s.fport j := by
  simp only [State.fport, State.setFport, Tab.get_set]
@[simp] theorem fport_setFport_self (n : Nat) (x : FabPort) : (s.setFport n x).fport n = x := by
  simp [fport_setFport]
@[simp] theorem setFport_setFport (n : Nat) (x y : FabPort) : (s.setFport n x).setFport n y = s.setFport n y := by
  simp [State.setFport]
@[simp] theorem eng_setFport (n : Nat) (x : FabPort) (j : Nat) : (s.setFport n x).eng j = s.eng j := rfl
@[simp] theorem cl_setFport (n : Nat) (x : FabPort) (j : Nat) : (s.setFport n x).cl j = s.cl j := rfl
@[simp] theorem mb_setFport (n : Nat) (x : FabPort) (j : Nat) : (s.setFport n x).mb j = s.mb j := rfl
@[simp] theorem port_setFport (n : Nat) (x : FabPort) (j : Nat) : (s.setFport n x).port j = s.port j := rfl
@[simp] theorem point_setFport (n : Nat) (x : FabPort) (j : Nat) : (s.setFport n x).point j = s.point j := rfl
@[simp] theorem tport_setFport (n : Nat) (x : FabPort) (j : Nat) : (s.setFport n x).tport j = s.tport j := rfl
@[simp] theorem tchan_setFport (n : Nat) (x : FabPort) (j : Nat) : (s.setFport n x).tchan j = s.tchan j := rfl
@[simp] theorem chan_setFport (n : Nat) (x : FabPort) (j : Nat) : (s.setFport n x).chan j = s.chan j := rfl
@[simp] theorem ce_setFport (n : Nat) (x : FabPort) (j : Nat) : (s.setFport n x).ce j = s.ce j := rfl
@[simp] theorem island_setFport (n : Nat) (x : FabPort) (j : Nat) : (s.setFport n x).island j = s.island j := rfl
@[simp] theorem rail_setFport (n : Nat) (x : FabPort) (j : Nat) : (s.setFport n x).rail j = s.rail j := rfl

/-! ### State.setPair -/

@[simp] theorem setPair_sys (i : Nat) (x : Pair) : (s.setPair i x).sys = s.sys := rfl
@[simp] theorem setPair_otp (i : Nat) (x : Pair) : (s.setPair i x).otp = s.otp := rfl
@[simp] theorem setPair_sage (i : Nat) (x : Pair) : (s.setPair i x).sage = s.sage := rfl
@[simp] theorem setPair_mbx (i : Nat) (x : Pair) : (s.setPair i x).mbx = s.mbx := rfl
@[simp] theorem setPair_mem (i : Nat) (x : Pair) : (s.setPair i x).mem = s.mem := rfl
@[simp] theorem setPair_host (i : Nat) (x : Pair) : (s.setPair i x).host = s.host := rfl
@[simp] theorem setPair_cfg (i : Nat) (x : Pair) : (s.setPair i x).cfg = s.cfg := rfl
@[simp] theorem setPair_engs (i : Nat) (x : Pair) : (s.setPair i x).engs = s.engs := rfl
@[simp] theorem setPair_rmy (i : Nat) (x : Pair) : (s.setPair i x).rmy = s.rmy := rfl
@[simp] theorem setPair_time (i : Nat) (x : Pair) : (s.setPair i x).time = s.time := rfl
@[simp] theorem setPair_pnt (i : Nat) (x : Pair) : (s.setPair i x).pnt = s.pnt := rfl
@[simp] theorem setPair_tt (i : Nat) (x : Pair) : (s.setPair i x).tt = s.tt := rfl
@[simp] theorem setPair_ports (i : Nat) (x : Pair) : (s.setPair i x).ports = s.ports := rfl
@[simp] theorem setPair_sw (i : Nat) (x : Pair) : (s.setPair i x).sw = s.sw := rfl
@[simp] theorem setPair_fab (i : Nat) (x : Pair) : (s.setPair i x).fab = s.fab := rfl
@[simp] theorem setPair_can (i : Nat) (x : Pair) : (s.setPair i x).can = s.can := rfl
@[simp] theorem setPair_chv (i : Nat) (x : Pair) : (s.setPair i x).chv = s.chv := rfl
@[simp] theorem setPair_age (i : Nat) (x : Pair) : (s.setPair i x).age = s.age := rfl
@[simp] theorem setPair_pending (i : Nat) (x : Pair) : (s.setPair i x).pending = s.pending := rfl
theorem pair_setPair (i : Nat) (x : Pair) (j : Nat) :
    (s.setPair i x).pair j = if j = i then x else s.pair j := by
  simp only [State.pair, State.setPair, Tab.get_set]
@[simp] theorem pair_setPair_self (i : Nat) (x : Pair) : (s.setPair i x).pair i = x := by
  simp [pair_setPair]
@[simp] theorem setPair_setPair (i : Nat) (x y : Pair) : (s.setPair i x).setPair i y = s.setPair i y := by
  simp [State.setPair]
@[simp] theorem eng_setPair (i : Nat) (x : Pair) (j : Nat) : (s.setPair i x).eng j = s.eng j := rfl
@[simp] theorem cl_setPair (i : Nat) (x : Pair) (j : Nat) : (s.setPair i x).cl j = s.cl j := rfl
@[simp] theorem mb_setPair (i : Nat) (x : Pair) (j : Nat) : (s.setPair i x).mb j = s.mb j := rfl
@[simp] theorem port_setPair (i : Nat) (x : Pair) (j : Nat) : (s.setPair i x).port j = s.port j := rfl
@[simp] theorem point_setPair (i : Nat) (x : Pair) (j : Nat) : (s.setPair i x).point j = s.point j := rfl
@[simp] theorem tport_setPair (i : Nat) (x : Pair) (j : Nat) : (s.setPair i x).tport j = s.tport j := rfl
@[simp] theorem tchan_setPair (i : Nat) (x : Pair) (j : Nat) : (s.setPair i x).tchan j = s.tchan j := rfl
@[simp] theorem chan_setPair (i : Nat) (x : Pair) (j : Nat) : (s.setPair i x).chan j = s.chan j := rfl
@[simp] theorem ce_setPair (i : Nat) (x : Pair) (j : Nat) : (s.setPair i x).ce j = s.ce j := rfl
@[simp] theorem island_setPair (i : Nat) (x : Pair) (j : Nat) : (s.setPair i x).island j = s.island j := rfl
@[simp] theorem rail_setPair (i : Nat) (x : Pair) (j : Nat) : (s.setPair i x).rail j = s.rail j := rfl

/-! ### State.setCe -/

@[simp] theorem setCe_sys (e : Nat) (x : CeEng) : (s.setCe e x).sys = s.sys := rfl
@[simp] theorem setCe_otp (e : Nat) (x : CeEng) : (s.setCe e x).otp = s.otp := rfl
@[simp] theorem setCe_sage (e : Nat) (x : CeEng) : (s.setCe e x).sage = s.sage := rfl
@[simp] theorem setCe_mbx (e : Nat) (x : CeEng) : (s.setCe e x).mbx = s.mbx := rfl
@[simp] theorem setCe_mem (e : Nat) (x : CeEng) : (s.setCe e x).mem = s.mem := rfl
@[simp] theorem setCe_host (e : Nat) (x : CeEng) : (s.setCe e x).host = s.host := rfl
@[simp] theorem setCe_cfg (e : Nat) (x : CeEng) : (s.setCe e x).cfg = s.cfg := rfl
@[simp] theorem setCe_engs (e : Nat) (x : CeEng) : (s.setCe e x).engs = s.engs := rfl
@[simp] theorem setCe_rmy (e : Nat) (x : CeEng) : (s.setCe e x).rmy = s.rmy := rfl
@[simp] theorem setCe_time (e : Nat) (x : CeEng) : (s.setCe e x).time = s.time := rfl
@[simp] theorem setCe_pnt (e : Nat) (x : CeEng) : (s.setCe e x).pnt = s.pnt := rfl
@[simp] theorem setCe_tt (e : Nat) (x : CeEng) : (s.setCe e x).tt = s.tt := rfl
@[simp] theorem setCe_ports (e : Nat) (x : CeEng) : (s.setCe e x).ports = s.ports := rfl
@[simp] theorem setCe_pairs (e : Nat) (x : CeEng) : (s.setCe e x).pairs = s.pairs := rfl
@[simp] theorem setCe_sw (e : Nat) (x : CeEng) : (s.setCe e x).sw = s.sw := rfl
@[simp] theorem setCe_fab (e : Nat) (x : CeEng) : (s.setCe e x).fab = s.fab := rfl
@[simp] theorem setCe_can (e : Nat) (x : CeEng) : (s.setCe e x).can = s.can := rfl
@[simp] theorem setCe_age (e : Nat) (x : CeEng) : (s.setCe e x).age = s.age := rfl
@[simp] theorem setCe_pending (e : Nat) (x : CeEng) : (s.setCe e x).pending = s.pending := rfl
theorem ce_setCe (e : Nat) (x : CeEng) (j : Nat) :
    (s.setCe e x).ce j = if j = e then x else s.ce j := by
  simp only [State.ce, State.setCe, Tab.get_set]
@[simp] theorem ce_setCe_self (e : Nat) (x : CeEng) : (s.setCe e x).ce e = x := by
  simp [ce_setCe]
@[simp] theorem setCe_setCe (e : Nat) (x y : CeEng) : (s.setCe e x).setCe e y = s.setCe e y := by
  simp [State.setCe]
@[simp] theorem eng_setCe (e : Nat) (x : CeEng) (j : Nat) : (s.setCe e x).eng j = s.eng j := rfl
@[simp] theorem cl_setCe (e : Nat) (x : CeEng) (j : Nat) : (s.setCe e x).cl j = s.cl j := rfl
@[simp] theorem mb_setCe (e : Nat) (x : CeEng) (j : Nat) : (s.setCe e x).mb j = s.mb j := rfl
@[simp] theorem port_setCe (e : Nat) (x : CeEng) (j : Nat) : (s.setCe e x).port j = s.port j := rfl
@[simp] theorem point_setCe (e : Nat) (x : CeEng) (j : Nat) : (s.setCe e x).point j = s.point j := rfl
@[simp] theorem tport_setCe (e : Nat) (x : CeEng) (j : Nat) : (s.setCe e x).tport j = s.tport j := rfl
@[simp] theorem tchan_setCe (e : Nat) (x : CeEng) (j : Nat) : (s.setCe e x).tchan j = s.tchan j := rfl
@[simp] theorem chan_setCe (e : Nat) (x : CeEng) (j : Nat) : (s.setCe e x).chan j = s.chan j := rfl
@[simp] theorem grp_setCe (e : Nat) (x : CeEng) (j : Nat) : (s.setCe e x).grp j = s.grp j := rfl
@[simp] theorem cpin_setCe (e : Nat) (x : CeEng) (j : Nat) : (s.setCe e x).cpin j = s.cpin j := rfl
@[simp] theorem line_setCe (e : Nat) (x : CeEng) (j : Nat) : (s.setCe e x).line j = s.line j := rfl
@[simp] theorem island_setCe (e : Nat) (x : CeEng) (j : Nat) : (s.setCe e x).island j = s.island j := rfl
@[simp] theorem rail_setCe (e : Nat) (x : CeEng) (j : Nat) : (s.setCe e x).rail j = s.rail j := rfl

/-! ### State.setGrp -/

@[simp] theorem setGrp_sys (g : Nat) (x : CeGroup) : (s.setGrp g x).sys = s.sys := rfl
@[simp] theorem setGrp_otp (g : Nat) (x : CeGroup) : (s.setGrp g x).otp = s.otp := rfl
@[simp] theorem setGrp_sage (g : Nat) (x : CeGroup) : (s.setGrp g x).sage = s.sage := rfl
@[simp] theorem setGrp_mbx (g : Nat) (x : CeGroup) : (s.setGrp g x).mbx = s.mbx := rfl
@[simp] theorem setGrp_mem (g : Nat) (x : CeGroup) : (s.setGrp g x).mem = s.mem := rfl
@[simp] theorem setGrp_host (g : Nat) (x : CeGroup) : (s.setGrp g x).host = s.host := rfl
@[simp] theorem setGrp_cfg (g : Nat) (x : CeGroup) : (s.setGrp g x).cfg = s.cfg := rfl
@[simp] theorem setGrp_engs (g : Nat) (x : CeGroup) : (s.setGrp g x).engs = s.engs := rfl
@[simp] theorem setGrp_rmy (g : Nat) (x : CeGroup) : (s.setGrp g x).rmy = s.rmy := rfl
@[simp] theorem setGrp_time (g : Nat) (x : CeGroup) : (s.setGrp g x).time = s.time := rfl
@[simp] theorem setGrp_pnt (g : Nat) (x : CeGroup) : (s.setGrp g x).pnt = s.pnt := rfl
@[simp] theorem setGrp_tt (g : Nat) (x : CeGroup) : (s.setGrp g x).tt = s.tt := rfl
@[simp] theorem setGrp_ports (g : Nat) (x : CeGroup) : (s.setGrp g x).ports = s.ports := rfl
@[simp] theorem setGrp_pairs (g : Nat) (x : CeGroup) : (s.setGrp g x).pairs = s.pairs := rfl
@[simp] theorem setGrp_sw (g : Nat) (x : CeGroup) : (s.setGrp g x).sw = s.sw := rfl
@[simp] theorem setGrp_fab (g : Nat) (x : CeGroup) : (s.setGrp g x).fab = s.fab := rfl
@[simp] theorem setGrp_can (g : Nat) (x : CeGroup) : (s.setGrp g x).can = s.can := rfl
@[simp] theorem setGrp_age (g : Nat) (x : CeGroup) : (s.setGrp g x).age = s.age := rfl
@[simp] theorem setGrp_pending (g : Nat) (x : CeGroup) : (s.setGrp g x).pending = s.pending := rfl
theorem grp_setGrp (g : Nat) (x : CeGroup) (j : Nat) :
    (s.setGrp g x).grp j = if j = g then x else s.grp j := by
  simp only [State.grp, State.setGrp, Tab.get_set]
@[simp] theorem grp_setGrp_self (g : Nat) (x : CeGroup) : (s.setGrp g x).grp g = x := by
  simp [grp_setGrp]
@[simp] theorem setGrp_setGrp (g : Nat) (x y : CeGroup) : (s.setGrp g x).setGrp g y = s.setGrp g y := by
  simp [State.setGrp]
@[simp] theorem eng_setGrp (g : Nat) (x : CeGroup) (j : Nat) : (s.setGrp g x).eng j = s.eng j := rfl
@[simp] theorem cl_setGrp (g : Nat) (x : CeGroup) (j : Nat) : (s.setGrp g x).cl j = s.cl j := rfl
@[simp] theorem mb_setGrp (g : Nat) (x : CeGroup) (j : Nat) : (s.setGrp g x).mb j = s.mb j := rfl
@[simp] theorem port_setGrp (g : Nat) (x : CeGroup) (j : Nat) : (s.setGrp g x).port j = s.port j := rfl
@[simp] theorem point_setGrp (g : Nat) (x : CeGroup) (j : Nat) : (s.setGrp g x).point j = s.point j := rfl
@[simp] theorem tport_setGrp (g : Nat) (x : CeGroup) (j : Nat) : (s.setGrp g x).tport j = s.tport j := rfl
@[simp] theorem tchan_setGrp (g : Nat) (x : CeGroup) (j : Nat) : (s.setGrp g x).tchan j = s.tchan j := rfl
@[simp] theorem chan_setGrp (g : Nat) (x : CeGroup) (j : Nat) : (s.setGrp g x).chan j = s.chan j := rfl
@[simp] theorem ce_setGrp (g : Nat) (x : CeGroup) (j : Nat) : (s.setGrp g x).ce j = s.ce j := rfl
@[simp] theorem cpin_setGrp (g : Nat) (x : CeGroup) (j : Nat) : (s.setGrp g x).cpin j = s.cpin j := rfl
@[simp] theorem line_setGrp (g : Nat) (x : CeGroup) (j : Nat) : (s.setGrp g x).line j = s.line j := rfl
@[simp] theorem island_setGrp (g : Nat) (x : CeGroup) (j : Nat) : (s.setGrp g x).island j = s.island j := rfl
@[simp] theorem rail_setGrp (g : Nat) (x : CeGroup) (j : Nat) : (s.setGrp g x).rail j = s.rail j := rfl

/-! ### State.setCpin -/

@[simp] theorem setCpin_sys (p : Nat) (x : CePin) : (s.setCpin p x).sys = s.sys := rfl
@[simp] theorem setCpin_otp (p : Nat) (x : CePin) : (s.setCpin p x).otp = s.otp := rfl
@[simp] theorem setCpin_sage (p : Nat) (x : CePin) : (s.setCpin p x).sage = s.sage := rfl
@[simp] theorem setCpin_mbx (p : Nat) (x : CePin) : (s.setCpin p x).mbx = s.mbx := rfl
@[simp] theorem setCpin_mem (p : Nat) (x : CePin) : (s.setCpin p x).mem = s.mem := rfl
@[simp] theorem setCpin_host (p : Nat) (x : CePin) : (s.setCpin p x).host = s.host := rfl
@[simp] theorem setCpin_cfg (p : Nat) (x : CePin) : (s.setCpin p x).cfg = s.cfg := rfl
@[simp] theorem setCpin_engs (p : Nat) (x : CePin) : (s.setCpin p x).engs = s.engs := rfl
@[simp] theorem setCpin_rmy (p : Nat) (x : CePin) : (s.setCpin p x).rmy = s.rmy := rfl
@[simp] theorem setCpin_time (p : Nat) (x : CePin) : (s.setCpin p x).time = s.time := rfl
@[simp] theorem setCpin_pnt (p : Nat) (x : CePin) : (s.setCpin p x).pnt = s.pnt := rfl
@[simp] theorem setCpin_tt (p : Nat) (x : CePin) : (s.setCpin p x).tt = s.tt := rfl
@[simp] theorem setCpin_ports (p : Nat) (x : CePin) : (s.setCpin p x).ports = s.ports := rfl
@[simp] theorem setCpin_pairs (p : Nat) (x : CePin) : (s.setCpin p x).pairs = s.pairs := rfl
@[simp] theorem setCpin_sw (p : Nat) (x : CePin) : (s.setCpin p x).sw = s.sw := rfl
@[simp] theorem setCpin_fab (p : Nat) (x : CePin) : (s.setCpin p x).fab = s.fab := rfl
@[simp] theorem setCpin_can (p : Nat) (x : CePin) : (s.setCpin p x).can = s.can := rfl
@[simp] theorem setCpin_age (p : Nat) (x : CePin) : (s.setCpin p x).age = s.age := rfl
@[simp] theorem setCpin_pending (p : Nat) (x : CePin) : (s.setCpin p x).pending = s.pending := rfl
theorem cpin_setCpin (p : Nat) (x : CePin) (j : Nat) :
    (s.setCpin p x).cpin j = if j = p then x else s.cpin j := by
  simp only [State.cpin, State.setCpin, Tab.get_set]
@[simp] theorem cpin_setCpin_self (p : Nat) (x : CePin) : (s.setCpin p x).cpin p = x := by
  simp [cpin_setCpin]
@[simp] theorem setCpin_setCpin (p : Nat) (x y : CePin) : (s.setCpin p x).setCpin p y = s.setCpin p y := by
  simp [State.setCpin]
@[simp] theorem eng_setCpin (p : Nat) (x : CePin) (j : Nat) : (s.setCpin p x).eng j = s.eng j := rfl
@[simp] theorem cl_setCpin (p : Nat) (x : CePin) (j : Nat) : (s.setCpin p x).cl j = s.cl j := rfl
@[simp] theorem mb_setCpin (p : Nat) (x : CePin) (j : Nat) : (s.setCpin p x).mb j = s.mb j := rfl
@[simp] theorem port_setCpin (p : Nat) (x : CePin) (j : Nat) : (s.setCpin p x).port j = s.port j := rfl
@[simp] theorem point_setCpin (p : Nat) (x : CePin) (j : Nat) : (s.setCpin p x).point j = s.point j := rfl
@[simp] theorem tport_setCpin (p : Nat) (x : CePin) (j : Nat) : (s.setCpin p x).tport j = s.tport j := rfl
@[simp] theorem tchan_setCpin (p : Nat) (x : CePin) (j : Nat) : (s.setCpin p x).tchan j = s.tchan j := rfl
@[simp] theorem chan_setCpin (p : Nat) (x : CePin) (j : Nat) : (s.setCpin p x).chan j = s.chan j := rfl
@[simp] theorem ce_setCpin (p : Nat) (x : CePin) (j : Nat) : (s.setCpin p x).ce j = s.ce j := rfl
@[simp] theorem grp_setCpin (p : Nat) (x : CePin) (j : Nat) : (s.setCpin p x).grp j = s.grp j := rfl
@[simp] theorem line_setCpin (p : Nat) (x : CePin) (j : Nat) : (s.setCpin p x).line j = s.line j := rfl
@[simp] theorem island_setCpin (p : Nat) (x : CePin) (j : Nat) : (s.setCpin p x).island j = s.island j := rfl
@[simp] theorem rail_setCpin (p : Nat) (x : CePin) (j : Nat) : (s.setCpin p x).rail j = s.rail j := rfl

/-! ### State.setLine -/

@[simp] theorem setLine_sys (l : Nat) (x : Line) : (s.setLine l x).sys = s.sys := rfl
@[simp] theorem setLine_otp (l : Nat) (x : Line) : (s.setLine l x).otp = s.otp := rfl
@[simp] theorem setLine_sage (l : Nat) (x : Line) : (s.setLine l x).sage = s.sage := rfl
@[simp] theorem setLine_mbx (l : Nat) (x : Line) : (s.setLine l x).mbx = s.mbx := rfl
@[simp] theorem setLine_mem (l : Nat) (x : Line) : (s.setLine l x).mem = s.mem := rfl
@[simp] theorem setLine_host (l : Nat) (x : Line) : (s.setLine l x).host = s.host := rfl
@[simp] theorem setLine_cfg (l : Nat) (x : Line) : (s.setLine l x).cfg = s.cfg := rfl
@[simp] theorem setLine_engs (l : Nat) (x : Line) : (s.setLine l x).engs = s.engs := rfl
@[simp] theorem setLine_rmy (l : Nat) (x : Line) : (s.setLine l x).rmy = s.rmy := rfl
@[simp] theorem setLine_time (l : Nat) (x : Line) : (s.setLine l x).time = s.time := rfl
@[simp] theorem setLine_pnt (l : Nat) (x : Line) : (s.setLine l x).pnt = s.pnt := rfl
@[simp] theorem setLine_tt (l : Nat) (x : Line) : (s.setLine l x).tt = s.tt := rfl
@[simp] theorem setLine_ports (l : Nat) (x : Line) : (s.setLine l x).ports = s.ports := rfl
@[simp] theorem setLine_pairs (l : Nat) (x : Line) : (s.setLine l x).pairs = s.pairs := rfl
@[simp] theorem setLine_sw (l : Nat) (x : Line) : (s.setLine l x).sw = s.sw := rfl
@[simp] theorem setLine_fab (l : Nat) (x : Line) : (s.setLine l x).fab = s.fab := rfl
@[simp] theorem setLine_can (l : Nat) (x : Line) : (s.setLine l x).can = s.can := rfl
@[simp] theorem setLine_age (l : Nat) (x : Line) : (s.setLine l x).age = s.age := rfl
@[simp] theorem setLine_pending (l : Nat) (x : Line) : (s.setLine l x).pending = s.pending := rfl
theorem line_setLine (l : Nat) (x : Line) (j : Nat) :
    (s.setLine l x).line j = if j = l then x else s.line j := by
  simp only [State.line, State.setLine, Tab.get_set]
@[simp] theorem line_setLine_self (l : Nat) (x : Line) : (s.setLine l x).line l = x := by
  simp [line_setLine]
@[simp] theorem setLine_setLine (l : Nat) (x y : Line) : (s.setLine l x).setLine l y = s.setLine l y := by
  simp [State.setLine]
@[simp] theorem eng_setLine (l : Nat) (x : Line) (j : Nat) : (s.setLine l x).eng j = s.eng j := rfl
@[simp] theorem cl_setLine (l : Nat) (x : Line) (j : Nat) : (s.setLine l x).cl j = s.cl j := rfl
@[simp] theorem mb_setLine (l : Nat) (x : Line) (j : Nat) : (s.setLine l x).mb j = s.mb j := rfl
@[simp] theorem port_setLine (l : Nat) (x : Line) (j : Nat) : (s.setLine l x).port j = s.port j := rfl
@[simp] theorem point_setLine (l : Nat) (x : Line) (j : Nat) : (s.setLine l x).point j = s.point j := rfl
@[simp] theorem tport_setLine (l : Nat) (x : Line) (j : Nat) : (s.setLine l x).tport j = s.tport j := rfl
@[simp] theorem tchan_setLine (l : Nat) (x : Line) (j : Nat) : (s.setLine l x).tchan j = s.tchan j := rfl
@[simp] theorem chan_setLine (l : Nat) (x : Line) (j : Nat) : (s.setLine l x).chan j = s.chan j := rfl
@[simp] theorem ce_setLine (l : Nat) (x : Line) (j : Nat) : (s.setLine l x).ce j = s.ce j := rfl
@[simp] theorem grp_setLine (l : Nat) (x : Line) (j : Nat) : (s.setLine l x).grp j = s.grp j := rfl
@[simp] theorem cpin_setLine (l : Nat) (x : Line) (j : Nat) : (s.setLine l x).cpin j = s.cpin j := rfl
@[simp] theorem island_setLine (l : Nat) (x : Line) (j : Nat) : (s.setLine l x).island j = s.island j := rfl
@[simp] theorem rail_setLine (l : Nat) (x : Line) (j : Nat) : (s.setLine l x).rail j = s.rail j := rfl

/-! ### State.setIsland -/

@[simp] theorem setIsland_sys (i : Nat) (x : AgeIsland) : (s.setIsland i x).sys = s.sys := rfl
@[simp] theorem setIsland_otp (i : Nat) (x : AgeIsland) : (s.setIsland i x).otp = s.otp := rfl
@[simp] theorem setIsland_sage (i : Nat) (x : AgeIsland) : (s.setIsland i x).sage = s.sage := rfl
@[simp] theorem setIsland_mbx (i : Nat) (x : AgeIsland) : (s.setIsland i x).mbx = s.mbx := rfl
@[simp] theorem setIsland_mem (i : Nat) (x : AgeIsland) : (s.setIsland i x).mem = s.mem := rfl
@[simp] theorem setIsland_host (i : Nat) (x : AgeIsland) : (s.setIsland i x).host = s.host := rfl
@[simp] theorem setIsland_cfg (i : Nat) (x : AgeIsland) : (s.setIsland i x).cfg = s.cfg := rfl
@[simp] theorem setIsland_engs (i : Nat) (x : AgeIsland) : (s.setIsland i x).engs = s.engs := rfl
@[simp] theorem setIsland_rmy (i : Nat) (x : AgeIsland) : (s.setIsland i x).rmy = s.rmy := rfl
@[simp] theorem setIsland_time (i : Nat) (x : AgeIsland) : (s.setIsland i x).time = s.time := rfl
@[simp] theorem setIsland_pnt (i : Nat) (x : AgeIsland) : (s.setIsland i x).pnt = s.pnt := rfl
@[simp] theorem setIsland_tt (i : Nat) (x : AgeIsland) : (s.setIsland i x).tt = s.tt := rfl
@[simp] theorem setIsland_ports (i : Nat) (x : AgeIsland) : (s.setIsland i x).ports = s.ports := rfl
@[simp] theorem setIsland_pairs (i : Nat) (x : AgeIsland) : (s.setIsland i x).pairs = s.pairs := rfl
@[simp] theorem setIsland_sw (i : Nat) (x : AgeIsland) : (s.setIsland i x).sw = s.sw := rfl
@[simp] theorem setIsland_fab (i : Nat) (x : AgeIsland) : (s.setIsland i x).fab = s.fab := rfl
@[simp] theorem setIsland_can (i : Nat) (x : AgeIsland) : (s.setIsland i x).can = s.can := rfl
@[simp] theorem setIsland_chv (i : Nat) (x : AgeIsland) : (s.setIsland i x).chv = s.chv := rfl
@[simp] theorem setIsland_pending (i : Nat) (x : AgeIsland) : (s.setIsland i x).pending = s.pending := rfl
theorem island_setIsland (i : Nat) (x : AgeIsland) (j : Nat) :
    (s.setIsland i x).island j = if j = i then x else s.island j := by
  simp only [State.island, State.setIsland, Tab.get_set]
@[simp] theorem island_setIsland_self (i : Nat) (x : AgeIsland) : (s.setIsland i x).island i = x := by
  simp [island_setIsland]
@[simp] theorem setIsland_setIsland (i : Nat) (x y : AgeIsland) : (s.setIsland i x).setIsland i y = s.setIsland i y := by
  simp [State.setIsland]
@[simp] theorem eng_setIsland (i : Nat) (x : AgeIsland) (j : Nat) : (s.setIsland i x).eng j = s.eng j := rfl
@[simp] theorem cl_setIsland (i : Nat) (x : AgeIsland) (j : Nat) : (s.setIsland i x).cl j = s.cl j := rfl
@[simp] theorem mb_setIsland (i : Nat) (x : AgeIsland) (j : Nat) : (s.setIsland i x).mb j = s.mb j := rfl
@[simp] theorem port_setIsland (i : Nat) (x : AgeIsland) (j : Nat) : (s.setIsland i x).port j = s.port j := rfl
@[simp] theorem point_setIsland (i : Nat) (x : AgeIsland) (j : Nat) : (s.setIsland i x).point j = s.point j := rfl
@[simp] theorem tport_setIsland (i : Nat) (x : AgeIsland) (j : Nat) : (s.setIsland i x).tport j = s.tport j := rfl
@[simp] theorem tchan_setIsland (i : Nat) (x : AgeIsland) (j : Nat) : (s.setIsland i x).tchan j = s.tchan j := rfl
@[simp] theorem chan_setIsland (i : Nat) (x : AgeIsland) (j : Nat) : (s.setIsland i x).chan j = s.chan j := rfl
@[simp] theorem ce_setIsland (i : Nat) (x : AgeIsland) (j : Nat) : (s.setIsland i x).ce j = s.ce j := rfl
@[simp] theorem rail_setIsland (i : Nat) (x : AgeIsland) (j : Nat) : (s.setIsland i x).rail j = s.rail j := rfl

/-! ### State.setRail -/

@[simp] theorem setRail_sys (r : Nat) (x : AgeRail) : (s.setRail r x).sys = s.sys := rfl
@[simp] theorem setRail_otp (r : Nat) (x : AgeRail) : (s.setRail r x).otp = s.otp := rfl
@[simp] theorem setRail_sage (r : Nat) (x : AgeRail) : (s.setRail r x).sage = s.sage := rfl
@[simp] theorem setRail_mbx (r : Nat) (x : AgeRail) : (s.setRail r x).mbx = s.mbx := rfl
@[simp] theorem setRail_mem (r : Nat) (x : AgeRail) : (s.setRail r x).mem = s.mem := rfl
@[simp] theorem setRail_host (r : Nat) (x : AgeRail) : (s.setRail r x).host = s.host := rfl
@[simp] theorem setRail_cfg (r : Nat) (x : AgeRail) : (s.setRail r x).cfg = s.cfg := rfl
@[simp] theorem setRail_engs (r : Nat) (x : AgeRail) : (s.setRail r x).engs = s.engs := rfl
@[simp] theorem setRail_rmy (r : Nat) (x : AgeRail) : (s.setRail r x).rmy = s.rmy := rfl
@[simp] theorem setRail_time (r : Nat) (x : AgeRail) : (s.setRail r x).time = s.time := rfl
@[simp] theorem setRail_pnt (r : Nat) (x : AgeRail) : (s.setRail r x).pnt = s.pnt := rfl
@[simp] theorem setRail_tt (r : Nat) (x : AgeRail) : (s.setRail r x).tt = s.tt := rfl
@[simp] theorem setRail_ports (r : Nat) (x : AgeRail) : (s.setRail r x).ports = s.ports := rfl
@[simp] theorem setRail_pairs (r : Nat) (x : AgeRail) : (s.setRail r x).pairs = s.pairs := rfl
@[simp] theorem setRail_sw (r : Nat) (x : AgeRail) : (s.setRail r x).sw = s.sw := rfl
@[simp] theorem setRail_fab (r : Nat) (x : AgeRail) : (s.setRail r x).fab = s.fab := rfl
@[simp] theorem setRail_can (r : Nat) (x : AgeRail) : (s.setRail r x).can = s.can := rfl
@[simp] theorem setRail_chv (r : Nat) (x : AgeRail) : (s.setRail r x).chv = s.chv := rfl
@[simp] theorem setRail_pending (r : Nat) (x : AgeRail) : (s.setRail r x).pending = s.pending := rfl
theorem rail_setRail (r : Nat) (x : AgeRail) (j : Nat) :
    (s.setRail r x).rail j = if j = r then x else s.rail j := by
  simp only [State.rail, State.setRail, Tab.get_set]
@[simp] theorem rail_setRail_self (r : Nat) (x : AgeRail) : (s.setRail r x).rail r = x := by
  simp [rail_setRail]
@[simp] theorem setRail_setRail (r : Nat) (x y : AgeRail) : (s.setRail r x).setRail r y = s.setRail r y := by
  simp [State.setRail]
@[simp] theorem eng_setRail (r : Nat) (x : AgeRail) (j : Nat) : (s.setRail r x).eng j = s.eng j := rfl
@[simp] theorem cl_setRail (r : Nat) (x : AgeRail) (j : Nat) : (s.setRail r x).cl j = s.cl j := rfl
@[simp] theorem mb_setRail (r : Nat) (x : AgeRail) (j : Nat) : (s.setRail r x).mb j = s.mb j := rfl
@[simp] theorem port_setRail (r : Nat) (x : AgeRail) (j : Nat) : (s.setRail r x).port j = s.port j := rfl
@[simp] theorem point_setRail (r : Nat) (x : AgeRail) (j : Nat) : (s.setRail r x).point j = s.point j := rfl
@[simp] theorem tport_setRail (r : Nat) (x : AgeRail) (j : Nat) : (s.setRail r x).tport j = s.tport j := rfl
@[simp] theorem tchan_setRail (r : Nat) (x : AgeRail) (j : Nat) : (s.setRail r x).tchan j = s.tchan j := rfl
@[simp] theorem chan_setRail (r : Nat) (x : AgeRail) (j : Nat) : (s.setRail r x).chan j = s.chan j := rfl
@[simp] theorem ce_setRail (r : Nat) (x : AgeRail) (j : Nat) : (s.setRail r x).ce j = s.ce j := rfl
@[simp] theorem island_setRail (r : Nat) (x : AgeRail) (j : Nat) : (s.setRail r x).island j = s.island j := rfl

/-! ### State.setCore -/

@[simp] theorem core_setCore_self (e : Nat) (c : EngCore) : (s.setCore e c).core e = c := by
  simp [State.core, State.setCore]
theorem core_setCore (e : Nat) (c : EngCore) (j : Nat) :
    (s.setCore e c).core j = if j = e then c else s.core j := by
  simp only [State.core, State.setCore, eng_setEng]; split <;> simp_all
@[simp] theorem setCore_setCore (e : Nat) (c d : EngCore) : (s.setCore e c).setCore e d = s.setCore e d := by
  simp [State.setCore]
@[simp] theorem core_setCl (k : Nat) (x : Cluster) (j : Nat) : (s.setCl k x).core j = s.core j := rfl
@[simp] theorem setCore_sys (e : Nat) (c : EngCore) : (s.setCore e c).sys = s.sys := rfl
@[simp] theorem setCore_otp (e : Nat) (c : EngCore) : (s.setCore e c).otp = s.otp := rfl
@[simp] theorem setCore_sage (e : Nat) (c : EngCore) : (s.setCore e c).sage = s.sage := rfl
@[simp] theorem setCore_mbx (e : Nat) (c : EngCore) : (s.setCore e c).mbx = s.mbx := rfl
@[simp] theorem setCore_mem (e : Nat) (c : EngCore) : (s.setCore e c).mem = s.mem := rfl
@[simp] theorem setCore_host (e : Nat) (c : EngCore) : (s.setCore e c).host = s.host := rfl
@[simp] theorem setCore_cfg (e : Nat) (c : EngCore) : (s.setCore e c).cfg = s.cfg := rfl
@[simp] theorem setCore_rmy (e : Nat) (c : EngCore) : (s.setCore e c).rmy = s.rmy := rfl
@[simp] theorem setCore_time (e : Nat) (c : EngCore) : (s.setCore e c).time = s.time := rfl
@[simp] theorem setCore_pnt (e : Nat) (c : EngCore) : (s.setCore e c).pnt = s.pnt := rfl
@[simp] theorem setCore_tt (e : Nat) (c : EngCore) : (s.setCore e c).tt = s.tt := rfl
@[simp] theorem setCore_ports (e : Nat) (c : EngCore) : (s.setCore e c).ports = s.ports := rfl
@[simp] theorem setCore_pairs (e : Nat) (c : EngCore) : (s.setCore e c).pairs = s.pairs := rfl
@[simp] theorem setCore_sw (e : Nat) (c : EngCore) : (s.setCore e c).sw = s.sw := rfl
@[simp] theorem setCore_fab (e : Nat) (c : EngCore) : (s.setCore e c).fab = s.fab := rfl
@[simp] theorem setCore_can (e : Nat) (c : EngCore) : (s.setCore e c).can = s.can := rfl
@[simp] theorem setCore_chv (e : Nat) (c : EngCore) : (s.setCore e c).chv = s.chv := rfl
@[simp] theorem setCore_age (e : Nat) (c : EngCore) : (s.setCore e c).age = s.age := rfl
@[simp] theorem setCore_pending (e : Nat) (c : EngCore) : (s.setCore e c).pending = s.pending := rfl

/-! ### ALARM_N brought up to date -/

@[simp] theorem settle_otp : s.settle.otp = s.otp := rfl
@[simp] theorem settle_sage : s.settle.sage = s.sage := rfl
@[simp] theorem settle_mbx : s.settle.mbx = s.mbx := rfl
@[simp] theorem settle_mem : s.settle.mem = s.mem := rfl
@[simp] theorem settle_cfg : s.settle.cfg = s.cfg := rfl
@[simp] theorem settle_engs : s.settle.engs = s.engs := rfl
@[simp] theorem settle_rmy : s.settle.rmy = s.rmy := rfl
@[simp] theorem settle_time : s.settle.time = s.time := rfl
@[simp] theorem settle_pnt : s.settle.pnt = s.pnt := rfl
@[simp] theorem settle_tt : s.settle.tt = s.tt := rfl
@[simp] theorem settle_ports : s.settle.ports = s.ports := rfl
@[simp] theorem settle_pairs : s.settle.pairs = s.pairs := rfl
@[simp] theorem settle_sw : s.settle.sw = s.sw := rfl
@[simp] theorem settle_fab : s.settle.fab = s.fab := rfl
@[simp] theorem settle_can : s.settle.can = s.can := rfl
@[simp] theorem settle_chv : s.settle.chv = s.chv := rfl
@[simp] theorem settle_age : s.settle.age = s.age := rfl
@[simp] theorem settle_pending : s.settle.pending = s.pending := rfl
@[simp] theorem settle_eng (j : Nat) : s.settle.eng j = s.eng j := rfl
@[simp] theorem settle_cl (j : Nat) : s.settle.cl j = s.cl j := rfl
@[simp] theorem settle_mb (j : Nat) : s.settle.mb j = s.mb j := rfl
@[simp] theorem settle_port (j : Nat) : s.settle.port j = s.port j := rfl
@[simp] theorem settle_point (j : Nat) : s.settle.point j = s.point j := rfl
@[simp] theorem settle_swPort (j : Nat) : s.settle.swPort j = s.swPort j := rfl
@[simp] theorem settle_tport (j : Nat) : s.settle.tport j = s.tport j := rfl
@[simp] theorem settle_tchan (j : Nat) : s.settle.tchan j = s.tchan j := rfl
@[simp] theorem settle_chan (j : Nat) : s.settle.chan j = s.chan j := rfl
@[simp] theorem settle_fport (j : Nat) : s.settle.fport j = s.fport j := rfl
@[simp] theorem settle_pair (j : Nat) : s.settle.pair j = s.pair j := rfl
@[simp] theorem settle_ce (j : Nat) : s.settle.ce j = s.ce j := rfl
@[simp] theorem settle_grp (j : Nat) : s.settle.grp j = s.grp j := rfl
@[simp] theorem settle_cpin (j : Nat) : s.settle.cpin j = s.cpin j := rfl
@[simp] theorem settle_line (j : Nat) : s.settle.line j = s.line j := rfl
@[simp] theorem settle_island (j : Nat) : s.settle.island j = s.island j := rfl
@[simp] theorem settle_rail (j : Nat) : s.settle.rail j = s.rail j := rfl
@[simp] theorem settle_core (j : Nat) : s.settle.core j = s.core j := rfl
@[simp] theorem settle_sys_stage : s.settle.sys.stage = s.sys.stage := rfl
@[simp] theorem settle_sys_porHeld : s.settle.sys.porHeld = s.sys.porHeld := rfl
@[simp] theorem settle_sys_supplyHeld : s.settle.sys.supplyHeld = s.sys.supplyHeld := rfl
@[simp] theorem settle_sys_thermHeld : s.settle.sys.thermHeld = s.sys.thermHeld := rfl
@[simp] theorem settle_sys_up : s.settle.sys.up = s.sys.up := rfl
@[simp] theorem settle_sys_cause : s.settle.sys.cause = s.sys.cause := rfl
@[simp] theorem settle_sys_rstCount : s.settle.sys.rstCount = s.sys.rstCount := rfl
@[simp] theorem settle_sys_ready : s.settle.sys.ready = s.sys.ready := rfl
@[simp] theorem settle_sys_faultPin : s.settle.sys.faultPin = s.sys.faultPin := rfl
@[simp] theorem settle_sys_lc : s.settle.sys.lc = s.sys.lc := rfl
@[simp] theorem settle_sys_refA : s.settle.sys.refA = s.sys.refA := rfl
@[simp] theorem settle_sys_refB : s.settle.sys.refB = s.sys.refB := rfl
@[simp] theorem settle_sys_cfgSeq : s.settle.sys.cfgSeq = s.sys.cfgSeq := rfl
@[simp] theorem settle_sys_bootTime : s.settle.sys.bootTime = s.sys.bootTime := rfl
@[simp] theorem settle_sys_mono : s.settle.sys.mono = s.sys.mono := rfl
@[simp] theorem settle_sys_draws : s.settle.sys.draws = s.sys.draws := rfl
@[simp] theorem settle_sys_dramFail : s.settle.sys.dramFail = s.sys.dramFail := rfl
@[simp] theorem settle_host_scratch : s.settle.host.scratch = s.host.scratch := rfl
@[simp] theorem settle_host_armed : s.settle.host.armed = s.host.armed := rfl
@[simp] theorem settle_host_readData : s.settle.host.readData = s.host.readData := rfl
@[simp] theorem settle_host_message : s.settle.host.message = s.host.message := rfl
@[simp] theorem settle_host_perst : s.settle.host.perst = s.host.perst := rfl
@[simp] theorem settle_host_perstCount : s.settle.host.perstCount = s.host.perstCount := rfl
@[simp] theorem settle_host_dlActive : s.settle.host.dlActive = s.host.dlActive := rfl
@[simp] theorem settle_host_width : s.settle.host.width = s.host.width := rfl
@[simp] theorem settle_host_speed : s.settle.host.speed = s.host.speed := rfl
@[simp] theorem settle_host_msix : s.settle.host.msix = s.host.msix := rfl
@[simp] theorem settle_host_msgCount : s.settle.host.msgCount = s.host.msgCount := rfl
@[simp] theorem settle_host_img : s.settle.host.img = s.host.img := rfl
@[simp] theorem settle_host_capture : s.settle.host.capture = s.host.capture := rfl
@[simp] theorem settle_host_devIrqEn : s.settle.host.devIrqEn = s.host.devIrqEn := rfl
@[simp] theorem settle_host_irqEn : s.settle.host.irqEn = s.host.irqEn := rfl

/-! ### One more free value drawn -/

@[simp] theorem draw_otp : s.draw.otp = s.otp := rfl
@[simp] theorem draw_sage : s.draw.sage = s.sage := rfl
@[simp] theorem draw_mbx : s.draw.mbx = s.mbx := rfl
@[simp] theorem draw_mem : s.draw.mem = s.mem := rfl
@[simp] theorem draw_host : s.draw.host = s.host := rfl
@[simp] theorem draw_cfg : s.draw.cfg = s.cfg := rfl
@[simp] theorem draw_engs : s.draw.engs = s.engs := rfl
@[simp] theorem draw_rmy : s.draw.rmy = s.rmy := rfl
@[simp] theorem draw_time : s.draw.time = s.time := rfl
@[simp] theorem draw_pnt : s.draw.pnt = s.pnt := rfl
@[simp] theorem draw_tt : s.draw.tt = s.tt := rfl
@[simp] theorem draw_ports : s.draw.ports = s.ports := rfl
@[simp] theorem draw_pairs : s.draw.pairs = s.pairs := rfl
@[simp] theorem draw_sw : s.draw.sw = s.sw := rfl
@[simp] theorem draw_fab : s.draw.fab = s.fab := rfl
@[simp] theorem draw_can : s.draw.can = s.can := rfl
@[simp] theorem draw_chv : s.draw.chv = s.chv := rfl
@[simp] theorem draw_age : s.draw.age = s.age := rfl
@[simp] theorem draw_pending : s.draw.pending = s.pending := rfl

end Sys2Proof.Machine
end

