-- ==== Sys2Proof/Laws/Ops.lean ====
section
/-! SUPPORT. What each shared operation of Machine/Ops.lean can do to the memories and to the queue of waiting
commands, said once, so that no later proof unfolds one. -/

namespace Sys2Proof.Machine

/-- A fold keeps whatever each of its steps keeps. -/
theorem foldl_keeps {α β : Type} (P : β → Prop) (f : β → α → β) (h : ∀ b a, P b → P (f b a)) (l : List α) (b : β)
    (hb : P b) : P (l.foldl f b) := by
  induction l generalizing b with
  | nil => exact hb
  | cons a l ih => exact ih _ (h _ _ hb)

/-- A fold whose steps leave a part of the state as it is leaves it. -/
theorem foldl_same {α β γ : Type} (g : β → γ) (f : β → α → β) (h : ∀ b a, g (f b a) = g b) (l : List α) (b : β) :
    g (l.foldl f b) = g b := by
  induction l generalizing b with
  | nil => rfl
  | cons a l ih => exact (ih _).trans (h _ _)

variable (s : State)

/-! ### Counters -/

@[simp] theorem countRefused_mem : s.countRefused.mem = s.mem := rfl
@[simp] theorem countRefused_pending : s.countRefused.pending = s.pending := rfl
@[simp] theorem countViol_mem : s.countViol.mem = s.mem := rfl
@[simp] theorem countViol_pending : s.countViol.pending = s.pending := rfl
@[simp] theorem wrViol_mem (a : Nat) : (s.wrViol a).mem = s.mem := rfl
@[simp] theorem wrViol_pending (a : Nat) : (s.wrViol a).pending = s.pending := rfl

/-! ### NVM -/

/-- The parts of the canonical form. -/
theorem mems_wf_iff (m : Mems) : m.wf = true ↔ Mem.wf 0xFF m.nvm = true ∧ Mem.wf 0 m.bank = true ∧
    Mem.wf 0 m.svc = true ∧ Mem.wf 0 m.cap = true ∧ Mem.wf 0 m.dram = true := by
  simp [Mems.wf, and_assoc]

@[simp] theorem nvmWrite_pending (a : Nat) (l : List Byte) : (s.nvmWrite a l).pending = s.pending := rfl
@[simp] theorem nvmErase_pending (a n : Nat) : (s.nvmErase a n).pending = s.pending := rfl

theorem nvmWrite_wf {s : State} (h : s.mem.wf = true) (a : Nat) (l : List Byte) : (s.nvmWrite a l).mem.wf = true := by
  rw [mems_wf_iff] at h ⊢
  exact ⟨Mem.wf_writeBytes h.1 a l, h.2⟩

theorem nvmErase_wf {s : State} (h : s.mem.wf = true) (a n : Nat) : (s.nvmErase a n).mem.wf = true := by
  rw [mems_wf_iff] at h ⊢
  exact ⟨Mem.wf_clearRange h.1 a (a + n), h.2⟩

/-- A byte that an append does not reach stays. -/
theorem nvmByte_nvmWrite {s : State} (h : s.mem.wf = true) (a x : Nat) (l : List Byte)
    (hx : x < a ∨ a + l.length ≤ x) : (s.nvmWrite a l).nvmByte x = s.nvmByte x :=
  Mem.read_writeBytes_out ((mems_wf_iff _).1 h).1 a x l hx

/-- An erased byte reads 0xFF, every other byte stays (R63). -/
theorem nvmByte_nvmErase (a n x : Nat) :
    (s.nvmErase a n).nvmByte x = if a ≤ x ∧ x < a + n then 0xFF else s.nvmByte x :=
  Mem.read_clearRange 0xFF s.mem.nvm a (a + n) x

theorem eraseRegion_wf {s : State} (h : s.mem.wf = true) (t i : Nat) : (s.eraseRegion t i).mem.wf = true := by
  unfold State.eraseRegion
  split
  · exact nvmErase_wf h _ _
  · exact h

@[simp] theorem eraseRegion_pending (t i : Nat) : (s.eraseRegion t i).pending = s.pending := by
  unfold State.eraseRegion
  split <;> rfl

/-! ### Engine banks -/

@[simp] theorem undoLine_mem (e l : Nat) : (s.undoLine e l).mem = s.mem := by
  unfold State.undoLine
  dsimp only
  split <;> rfl
@[simp] theorem undoLine_pending (e l : Nat) : (s.undoLine e l).pending = s.pending := by
  unfold State.undoLine
  dsimp only
  split <;> rfl

@[simp] theorem bankPut_pending (e a : Nat) (l : List Byte) : (s.bankPut e a l).pending = s.pending := rfl

theorem bankPut_wf {s : State} (h : s.mem.wf = true) (e a : Nat) (l : List Byte) : (s.bankPut e a l).mem.wf = true := by
  rw [mems_wf_iff] at h ⊢
  exact ⟨h.1, Mem.wf_writeBytes h.2.1 _ l, h.2.2⟩

/-- A store changes no memory but the bank, and there what `bankPut` does. -/
theorem bankStore_mem (e a : Nat) (l : List Byte) : (s.bankStore e a l).mem = (s.bankPut e a l).mem := by
  have h : ∀ ls : List Nat, (ls.foldl (fun s l => s.undoLine e l) s).mem = s.mem :=
    fun ls => foldl_same State.mem _ (fun b x => undoLine_mem b e x) ls s
  simp only [State.bankStore, State.bankPut, h]

@[simp] theorem bankStore_pending (e a : Nat) (l : List Byte) : (s.bankStore e a l).pending = s.pending :=
  foldl_same State.pending _ (fun b x => undoLine_pending b e x) _ s

theorem bankStore_wf {s : State} (h : s.mem.wf = true) (e a : Nat) (l : List Byte) : (s.bankStore e a l).mem.wf = true := by
  rw [bankStore_mem]
  exact bankPut_wf h e a l

/-- A byte of any bank that a store does not reach stays. -/
theorem bankByte_bankStore_out {s : State} (h : s.mem.wf = true) (e a e' x : Nat) (l : List Byte)
    (hx : e' * bankSize + x < e * bankSize + a ∨ e * bankSize + a + l.length ≤ e' * bankSize + x) :
    (s.bankStore e a l).bankByte e' x = s.bankByte e' x := by
  simp only [State.bankByte, bankStore_mem]
  exact Mem.read_writeBytes_out ((mems_wf_iff _).1 h).2.1 _ _ l hx

/-- A stored byte reads back. -/
theorem bankByte_bankStore_in {s : State} (h : s.mem.wf = true) (e a i : Nat) (l : List Byte) (hi : i < l.length) :
    (s.bankStore e a l).bankByte e (a + i) = l[i] := by
  simp only [State.bankByte, bankStore_mem, ← Nat.add_assoc]
  exact Mem.read_writeBytes_in ((mems_wf_iff _).1 h).2.1 _ i l hi

/-! ### Inputs -/

@[simp] theorem opDone_mem (e t : Nat) : (s.opDone e t).mem = s.mem := rfl
@[simp] theorem opDone_pending (e t : Nat) : (s.opDone e t).pending = s.pending := rfl
@[simp] theorem irqBits_mem (e b : Nat) : (s.irqBits e b).mem = s.mem := rfl
@[simp] theorem irqBits_pending (e b : Nat) : (s.irqBits e b).pending = s.pending := rfl
@[simp] theorem instPush_mem (e : Nat) (i : Instant) : (s.instPush e i).mem = s.mem := by
  unfold State.instPush
  dsimp only
  split <;> rfl
@[simp] theorem instPush_pending (e : Nat) (i : Instant) : (s.instPush e i).pending = s.pending := by
  unfold State.instPush
  dsimp only
  split <;> rfl
@[simp] theorem journal_mem (j : JEntry) : (s.journal j).mem = s.mem := rfl
@[simp] theorem journal_pending (j : JEntry) : (s.journal j).pending = s.pending := rfl

/-- The bank writes that an input brings. -/
theorem writes_wf {s : State} (h : s.mem.wf = true) (e : Nat) (l : List (Nat × List Byte)) :
    (l.foldl (fun s w => s.bankStore e w.1 w.2) s).mem.wf = true :=
  foldl_keeps (fun t : State => t.mem.wf = true) _ (fun _ w hb => bankStore_wf hb e w.1 w.2) l s h

theorem writes_pending (e : Nat) (l : List (Nat × List Byte)) :
    (l.foldl (fun s w => s.bankStore e w.1 w.2) s).pending = s.pending :=
  foldl_same State.pending _ (fun b w => bankStore_pending b e w.1 w.2) l s

/-- After the bytes it brings, an input touches no memory. -/
theorem applyInput_mem (j : JEntry) :
    (s.applyInput j).mem = (j.writes.foldl (fun s w => s.bankStore j.eng w.1 w.2) s).mem := by
  unfold State.applyInput
  split <;> simp

@[simp] theorem applyInput_pending (j : JEntry) : (s.applyInput j).pending = s.pending := by
  unfold State.applyInput
  split <;> simp [writes_pending]

theorem applyInput_wf {s : State} (h : s.mem.wf = true) (j : JEntry) : (s.applyInput j).mem.wf = true := by
  rw [applyInput_mem]
  exact writes_wf h j.eng j.writes

@[simp] theorem input_pending (j : JEntry) : (s.input j).pending = s.pending := by
  unfold State.input
  dsimp only
  split <;> simp

theorem input_wf {s : State} (h : s.mem.wf = true) (j : JEntry) : (s.input j).mem.wf = true := by
  unfold State.input
  dsimp only
  split
  · exact h
  · exact applyInput_wf (s := s.journal j) h j

/-- An input that brings no bytes leaves the memories. -/
theorem input_mem (j : JEntry) (hj : j.writes = []) : (s.input j).mem = s.mem := by
  unfold State.input
  dsimp only
  split
  · rfl
  · rw [applyInput_mem, hj]; rfl

@[simp] theorem raiseIpend_mem (e b : Nat) : (s.raiseIpend e b).mem = s.mem := input_mem s _ rfl
@[simp] theorem raiseIpend_pending (e b : Nat) : (s.raiseIpend e b).pending = s.pending := input_pending s _

/-! ### Mailboxes -/

@[simp] theorem mbIrq_mem (n m b : Nat) : (s.mbIrq n m b).mem = s.mem := by
  unfold State.mbIrq
  split
  · simp
  · split <;> rfl
@[simp] theorem mbIrq_pending (n m b : Nat) : (s.mbIrq n m b).pending = s.pending := by
  unfold State.mbIrq
  split
  · simp
  · split <;> rfl
@[simp] theorem mbIrqAll_mem (n b : Nat) (l : List Nat) : (s.mbIrqAll n b l).mem = s.mem :=
  foldl_same State.mem _ (fun t m => mbIrq_mem t n m b) l s
@[simp] theorem mbIrqAll_pending (n b : Nat) (l : List Nat) : (s.mbIrqAll n b l).pending = s.pending :=
  foldl_same State.pending _ (fun t m => mbIrq_pending t n m b) l s

@[simp] theorem mbPost_mem (n : Nat) (home : Bool) (src : Nat) (w : Word) : (s.mbPost n home src w).mem = s.mem := by
  simp only [State.mbPost]
  repeat' split
  all_goals simp
@[simp] theorem mbPost_pending (n : Nat) (home : Bool) (src : Nat) (w : Word) :
    (s.mbPost n home src w).pending = s.pending := by
  simp only [State.mbPost]
  repeat' split
  all_goals simp

@[simp] theorem mbTake_mem (n : Nat) (home : Bool) : (s.mbTake n home).2.mem = s.mem := by
  simp only [State.mbTake]
  repeat' split
  all_goals simp
@[simp] theorem mbTake_pending (n : Nat) (home : Bool) : (s.mbTake n home).2.pending = s.pending := by
  simp only [State.mbTake]
  repeat' split
  all_goals simp

@[simp] theorem mbTakeN_mem (n : Nat) (home : Bool) (k : Nat) : (s.mbTakeN n home k).mem = s.mem := by
  induction k generalizing s with
  | zero => rfl
  | succ k ih => simp [State.mbTakeN, ih]
@[simp] theorem mbTakeN_pending (n : Nat) (home : Bool) (k : Nat) : (s.mbTakeN n home k).pending = s.pending := by
  induction k generalizing s with
  | zero => rfl
  | succ k ih => simp [State.mbTakeN, ih]

@[simp] theorem mbFlush_mem (n : Nat) (home : Bool) : (s.mbFlush n home).mem = s.mem := by simp [State.mbFlush]
@[simp] theorem mbFlush_pending (n : Nat) (home : Bool) : (s.mbFlush n home).pending = s.pending := by simp [State.mbFlush]

@[simp] theorem dropIncomplete_mem (n : Nat) : (s.dropIncomplete n).mem = s.mem := by
  unfold State.dropIncomplete
  dsimp only
  split <;> simp
@[simp] theorem dropIncomplete_pending (n : Nat) : (s.dropIncomplete n).pending = s.pending := by
  unfold State.dropIncomplete
  dsimp only
  split <;> simp

@[simp] theorem breakLock_mem (n : Nat) : (s.breakLock n).mem = s.mem := by
  unfold State.breakLock
  dsimp only
  split <;> simp
@[simp] theorem breakLock_pending (n : Nat) : (s.breakLock n).pending = s.pending := by
  unfold State.breakLock
  dsimp only
  split <;> simp

@[simp] theorem resetMaster_mem (m : Nat) : (s.resetMaster m).mem = s.mem := by
  refine foldl_same State.mem _ (fun t n => ?_) _ s
  dsimp only
  repeat' split
  all_goals simp
@[simp] theorem resetMaster_pending (m : Nat) : (s.resetMaster m).pending = s.pending := by
  refine foldl_same State.pending _ (fun t n => ?_) _ s
  dsimp only
  repeat' split
  all_goals simp

@[simp] theorem lockRead_mem (n m : Nat) : (s.lockRead n m).2.mem = s.mem := by
  simp only [State.lockRead]
  repeat' split
  all_goals rfl
@[simp] theorem lockRead_pending (n m : Nat) : (s.lockRead n m).2.pending = s.pending := by
  simp only [State.lockRead]
  repeat' split
  all_goals rfl
@[simp] theorem lockRelease_mem (n m : Nat) : (s.lockRelease n m).mem = s.mem := by
  simp only [State.lockRelease]
  split <;> rfl
@[simp] theorem lockRelease_pending (n m : Nat) : (s.lockRelease n m).pending = s.pending := by
  simp only [State.lockRelease]
  split <;> rfl

/-! ### Requests to Sage -/

@[simp] theorem sagePost_mem (n : Nat) (home : Bool) (l : List Word) : (s.sagePost n home l).mem = s.mem :=
  foldl_same State.mem _ (fun t w => mbPost_mem t n home 33 w) l s
@[simp] theorem sagePost_pending (n : Nat) (home : Bool) (l : List Word) : (s.sagePost n home l).pending = s.pending :=
  foldl_same State.pending _ (fun t w => mbPost_pending t n home 33 w) l s

@[simp] theorem sendWords_mem (n : Nat) (home : Bool) (src : Nat) (l : List Word) :
    (s.sendWords n home src l).mem = s.mem := by
  unfold State.sendWords
  split <;> simp
@[simp] theorem sendWords_pending (n : Nat) (home : Bool) (src : Nat) (l : List Word) :
    (s.sendWords n home src l).pending = s.pending := by
  unfold State.sendWords
  split <;> simp

@[simp] theorem respond_mem (src code : Nat) (tag : Byte) (st : Nat) (b : List Word) :
    (s.respond src code tag st b).mem = s.mem := by
  simp [State.respond]
@[simp] theorem respond_pending (src code : Nat) (tag : Byte) (st : Nat) (b : List Word) :
    (s.respond src code tag st b).pending = s.pending := by
  simp [State.respond]

@[simp] theorem refuse_mem (c : Req) (code st : Nat) (b : List Word) : (s.refuse c code st b).mem = s.mem := by
  simp [State.refuse]
@[simp] theorem refuse_pending (c : Req) (code st : Nat) (b : List Word) : (s.refuse c code st b).pending = s.pending := by
  simp [State.refuse]
@[simp] theorem finish_mem (c : Req) (code : Nat) (b : List Word) : (s.finish c code b).mem = s.mem := by
  simp [State.finish]
@[simp] theorem finish_pending (c : Req) (code : Nat) (b : List Word) : (s.finish c code b).pending = s.pending := by
  simp [State.finish]
@[simp] theorem accept_mem (c : Req) (code : Nat) : (s.accept c code).mem = s.mem := by simp [State.accept]
@[simp] theorem accept_pending (c : Req) (code : Nat) : (s.accept c code).pending = s.pending := by simp [State.accept]
@[simp] theorem final_mem (src code : Nat) (tag : Byte) (st : Nat) (b : List Word) :
    (s.final src code tag st b).mem = s.mem := by
  unfold State.final
  dsimp only
  split <;> simp
@[simp] theorem final_pending (src code : Nat) (tag : Byte) (st : Nat) (b : List Word) :
    (s.final src code tag st b).pending = s.pending := by
  unfold State.final
  dsimp only
  split <;> simp
@[simp] theorem fetchReq_mem (c : Req) (code : Nat) : (s.fetchReq c code).mem = s.mem := by
  unfold State.fetchReq
  dsimp only
  split <;> simp
@[simp] theorem fetchReq_pending (c : Req) (code : Nat) : (s.fetchReq c code).pending = s.pending := by
  unfold State.fetchReq
  dsimp only
  split <;> simp

/-- A request answers one of four things: nothing while Sage does not serve it yet, a refusal by a common check,
what its own service gives, or a refusal with the status of the service. -/
theorem serve_cases (c : Req) (code words : Nat) (f : State → State ⊕ Nat) :
    (s.reqDue c code = false ∧ s.serve c code words f = s) ∨ (s.reqDue c code = true ∧
    ((∃ st, (s.fetchReq c code).reqCheck c code words = some st ∧
      s.serve c code words f = (s.fetchReq c code).refuse c code st) ∨
    ((s.fetchReq c code).reqCheck c code words = none ∧
      ((∃ t, f (s.fetchReq c code) = .inl t ∧ s.serve c code words f = t) ∨
       (∃ st, f (s.fetchReq c code) = .inr st ∧
         s.serve c code words f = (s.fetchReq c code).refuse c code st))))) := by
  cases hd : s.reqDue c code with
  | false => exact .inl ⟨rfl, by simp [State.serve, hd]⟩
  | true =>
    refine .inr ⟨rfl, ?_⟩
    simp only [State.serve, hd, Bool.not_true, Bool.false_eq_true, if_false]
    cases h : (s.fetchReq c code).reqCheck c code words with
    | some st => exact .inl ⟨st, rfl, rfl⟩
    | none =>
      cases hf : f (s.fetchReq c code) with
      | inl t => exact .inr ⟨rfl, .inl ⟨t, rfl, rfl⟩⟩
      | inr st => exact .inr ⟨rfl, .inr ⟨st, rfl, rfl⟩⟩

/-- What waiting and a refusal keep, a request keeps where its own service does. -/
theorem serve_keeps (P : State → Prop) (c : Req) (code words : Nat) (f : State → State ⊕ Nat) (hw : P s)
    (hr : ∀ st, P ((s.fetchReq c code).refuse c code st))
    (h : ∀ t, f (s.fetchReq c code) = .inl t → P t) : P (s.serve c code words f) := by
  rcases serve_cases s c code words f with ⟨-, e⟩ | ⟨-, ⟨st, -, e⟩ | ⟨-, ⟨t, ht, e⟩ | ⟨st, -, e⟩⟩⟩
  · exact e.symm ▸ hw
  · exact e.symm ▸ hr st
  · exact e.symm ▸ h t ht
  · exact e.symm ▸ hr st

theorem bulkWrite_wf {s : State} (h : s.mem.wf = true) (src off : Nat) (l : List Byte) :
    (s.bulkWrite src off l).mem.wf = true := by
  unfold State.bulkWrite
  split
  · rw [mems_wf_iff] at h ⊢
    exact ⟨h.1, h.2.1, Mem.wf_writeBytes h.2.2.1 _ l, h.2.2.2⟩
  · exact input_wf h _

@[simp] theorem bulkWrite_pending (src off : Nat) (l : List Byte) : (s.bulkWrite src off l).pending = s.pending := by
  unfold State.bulkWrite
  split <;> simp

@[simp] theorem notice_mem (code : Nat) (b : List Word) : (s.notice code b).mem = s.mem := by
  simp only [State.notice]
  repeat' split
  all_goals simp
@[simp] theorem notice_pending (code : Nat) (b : List Word) : (s.notice code b).pending = s.pending := by
  simp only [State.notice]
  repeat' split
  all_goals simp

/-! ### Faults -/

@[simp] theorem logFaultAt_mem (t : DWord) (c i e o : Nat) (d : Word) : (s.logFaultAt t c i e o d).mem = s.mem := rfl
@[simp] theorem logFaultAt_pending (t : DWord) (c i e o : Nat) (d : Word) : (s.logFaultAt t c i e o d).pending = s.pending := rfl
@[simp] theorem logFault_mem (c i e o : Nat) (d : Word) : (s.logFault c i e o d).mem = s.mem := rfl
@[simp] theorem logFault_pending (c i e o : Nat) (d : Word) : (s.logFault c i e o d).pending = s.pending := rfl
@[simp] theorem outsideFault_mem (i o : Nat) (d : Word) : (s.outsideFault i o d).mem = s.mem := rfl
@[simp] theorem outsideFault_pending (i o : Nat) (d : Word) : (s.outsideFault i o d).pending = s.pending := rfl
@[simp] theorem stopEngines_mem : s.stopEngines.mem = s.mem := rfl
@[simp] theorem closeOutputs_mem : s.closeOutputs.mem = s.mem := rfl


/-- An abandoned NVM write is an erasure and then writes of one byte each: the NVM and the count of draws are
all it changes. -/
theorem cutWrite_eq (p : NvmPart) :
    ∃ m d, s.cutWrite p = { s with mem := { s.mem with nvm := m }, sys := { s.sys with draws := d } } := by
  have h : ∀ (l : List (Nat × Byte)) (u : State), (∃ m, u = { s with mem := { s.mem with nvm := m } }) →
      ∃ m, l.foldl (fun s b => s.nvmWrite b.1 [b.2]) u = { s with mem := { s.mem with nvm := m } } := by
    intro l
    induction l with
    | nil => exact fun _ h => h
    | cons b l ih => rintro _ ⟨m, rfl⟩; exact ih _ ⟨_, rfl⟩
  obtain ⟨m, hm⟩ := h (p.prog.take (if (Free.word s.sys.draws).toNat % (p.size + 1) = p.size then
    (Free.word (s.sys.draws + 1)).toNat % (p.prog.length + 1) else 0)) (s.nvmErase p.at_ ((Free.word s.sys.draws).toNat % (p.size + 1))) ⟨_, rfl⟩
  exact ⟨m, s.sys.draws + 2, by simp only [State.cutWrite, hm]⟩

theorem cutWrite_wf {s : State} (h : s.mem.wf = true) (p : NvmPart) : (s.cutWrite p).mem.wf = true := by
  unfold State.cutWrite
  exact foldl_keeps (fun t : State => t.mem.wf = true) (fun t (b : Nat × Byte) => t.nvmWrite b.1 [b.2])
    (fun _ b hb => nvmWrite_wf hb b.1 [b.2]) _ _ (nvmErase_wf h _ _)

/-- So an abandoned job changes nothing but the NVM, the draws and the job. -/
theorem cutJob_eq : ∃ m d j, s.cutJob =
    { s with mem := { s.mem with nvm := m }, sys := { s.sys with draws := d }, sage := { s.sage with job := j } } := by
  unfold State.cutJob
  split
  · obtain ⟨m, d, h⟩ := cutWrite_eq { s with sage := { s.sage with job := none } } (s.jobPart _)
    exact ⟨m, d, none, h⟩
  · exact ⟨_, _, _, rfl⟩

theorem cutJob_wf {s : State} (h : s.mem.wf = true) : s.cutJob.mem.wf = true := by
  unfold State.cutJob
  split
  · exact cutWrite_wf (s := { s with sage := { s.sage with job := none } }) h _
  · exact h
@[simp] theorem cutJob_pending : s.cutJob.pending = s.pending := by
  obtain ⟨_, _, _, h⟩ := cutJob_eq s
  rw [h]

/-- Only the NVM write that a fatal error abandons changes a memory. -/
theorem fatal_wf {s : State} (h : s.mem.wf = true) (r i c e : Nat) (d : Word) : (s.fatal r i c e d).mem.wf = true := by
  unfold State.fatal
  split
  · exact h
  · exact cutJob_wf (s := (s.logFault c i e 5 d).stopEngines.closeOutputs) h
@[simp] theorem fatal_pending (r i c e : Nat) (d : Word) : (s.fatal r i c e d).pending = s.pending := by
  unfold State.fatal
  split
  · rfl
  · exact cutJob_pending _

/-- A fatal error begins the sequence: READY low, FAULT_N asserted, the record latched. One in an unfinished
sequence changes nothing. -/
theorem fatal_begins (r i c e : Nat) (d : Word) (h : s.sys.stage ≠ .fatalSeq) :
    (s.fatal r i c e d).sys.stage = .fatalSeq ∧ (s.fatal r i c e d).sys.ready = false ∧
    (s.fatal r i c e d).sys.faultPin = true ∧
    (s.fatal r i c e d).rmy.fatal = some { reason := r, island := i, stamp := s.time.t, rst := s.sys.rstCount } := by
  have h' : (s.sys.stage == .fatalSeq) = false := by simpa using h
  obtain ⟨m, k, j, hj⟩ := cutJob_eq (s.logFault c i e 5 d).stopEngines.closeOutputs
  simp only [State.fatal, h', Bool.false_eq_true, if_false]
  refine ⟨trivial, trivial, trivial, ?_⟩
  rw [hj]
  rfl

theorem fatal_again (r i c e : Nat) (d : Word) (h : s.sys.stage = .fatalSeq) : s.fatal r i c e d = s := by
  simp [State.fatal, h]

end Sys2Proof.Machine
end

