-- ==== Sys2Proof/Laws/PerInstr.lean ====
section
/-! SUPPORT. The family F of statements over every constructor: a well-formed request announces its body
words in the four bits of word 0 (Table 3-3), and no other command carries a request. -/

namespace Sys2Proof.Laws.F

/-- The request a command carries. -/
def carried : Instr → Option Req
  | .porNAssert => none
  | .supplyMonitorReset _ _ => none
  | .thermalTrip _ => none
  | .thermalRelease _ _ => none
  | .warmNAssert => none
  | .sageWatchdogExpiry => none
  | .pePerstNAssert => none
  | .pePerstNRelease _ => none
  | .trstNAssert => none
  | .porNRelease _ => none
  | .resetClockCheck _ => none
  | .refclkAAbsentTimeout => none
  | .wipeComplete _ => none
  | .wipeTimeout => none
  | .alarmHoldEnd => none
  | .voterDisagreement _ => none
  | .trngHealthFail _ => none
  | .requestBodyTimeout => none
  | .requestReservedClass q _ => some q
  | .sageResponseDeliver _ => none
  | .challenge q => some q
  | .attestation q => some q
  | .tableEditCore q => some q
  | .tableEditPort q => some q
  | .tableEditRed q => some q
  | .tableEditMeter q => some q
  | .tableEditVlan q => some q
  | .tableEditFdb q => some q
  | .tableEditMcast q => some q
  | .tableEditRule q => some q
  | .tableEditBatch q => some q
  | .linkCostSet q => some q
  | .deviceExclude q => some q
  | .routeRecompute q => some q
  | .keySign q _ => some q
  | .keyExchange q _ _ => some q
  | .keyExport q _ => some q
  | .timeStepRequest q => some q
  | .timeSetRequest q => some q
  | .utcOffsetSet q => some q
  | .scheduleLoad q => some q
  | .scheduleSwapRequest q => some q
  | .scheduleSwap _ => none
  | .chiveProgramWrite q => some q
  | .chiveRestartRequest q => some q
  | .personalityRestart q => some q
  | .personalityStop q => some q
  | .personalityStart q => some q
  | .instanceRestart _ _ => none
  | .storeAppendOpen q => some q
  | .storeAppendWrite q => some q
  | .storeAppendCommit q _ _ _ => some q
  | .storeEntryRemove q => some q
  | .storeErase q _ => some q
  | .nvmWriteComplete _ => none
  | .quotaChange q => some q
  | .pointGrantSet q => some q
  | .pointGrantRemove q => some q
  | .pointSubstitute q => some q
  | .pointSubstituteEnd q => some q
  | .subscriptionAppend q => some q
  | .subscriptionRemove q => some q
  | .imageWriteOpen q => some q
  | .imageWriteData q _ => some q
  | .imageWriteCommit q _ _ _ => some q
  | .imageWriteClose q => some q
  | .imageWriteStatus q => some q
  | .imageWriteAbandon _ => none
  | .lifecycleProvision q => some q
  | .lifecycleOperational q _ => some q
  | .lifecycleServiceEntry q _ => some q
  | .lifecycleServiceExit q => some q
  | .lifecycleRetire q _ => some q
  | .ownerRotate q _ => some q
  | .lifecycleColdReset => none
  | .debugUnlock q _ => some q
  | .debugLock q => some q
  | .debugScopeExpiry => none
  | .resetRequest q => some q
  | .requestedWarmReset => none
  | .keyImport q _ _ => some q
  | .ownerCertificateWrite q _ => some q
  | .refclkALoss => none
  | .refclkARestore => none
  | .refclkBLoss => none
  | .servoSample _ _ _ => none
  | .servoStepApply => none
  | .sourceLossTimeout => none
  | .leapSecond => none
  | .ppsOutEdge _ => none
  | .ppsInEdge _ => none
  | .ppsInTimeout => none
  | .irigBFrame _ => none
  | .irigBLossTimeout => none
  | .autonegotiationAttempt _ _ _ => none
  | .linkUp _ _ _ => none
  | .linkDown _ => none
  | .laneFault _ => none
  | .highBer _ => none
  | .frameClassify _ _ _ _ _ => none
  | .frameReceiveEnd _ _ _ _ => none
  | .fdbAgeOut _ _ => none
  | .pauseFrame _ _ => none
  | .pfcFrame _ _ _ => none
  | .pauseQuantaExpiry _ _ => none
  | .pauseWatchdog _ => none
  | .pauseHoldoffEnd _ => none
  | .verifyAttempt _ _ => none
  | .fragmentReceive _ _ => none
  | .ddEntryAgeOut _ _ _ => none
  | .supervisionFrameSend _ => none
  | .cellArrival _ _ _ _ => none
  | .cellAckTimeout _ _ _ => none
  | .planeTestFail _ => none
  | .frameTransmitStart _ => none
  | .frameTransmitEnd _ _ => none
  | .guardianDeadlineDrop _ _ => none
  | .gateEntryBoundary _ => none
  | .ttResume _ => none
  | .guardCut _ => none
  | .guardianCompare _ => none
  | .guardianRearm => none
  | .guardEcc _ => none
  | .instantIssue _ => none
  | .referenceMessageSend _ _ => none
  | .coldStart _ _ => none
  | .refLost _ => none
  | .canGuardCut _ => none
  | .helloSend _ => none
  | .hello _ _ => none
  | .admitFrame _ _ => none
  | .admissionTimeout _ => none
  | .strangerRetry _ => none
  | .neighbourLoss _ => none
  | .lsa _ _ _ _ => none
  | .lsaOriginate => none
  | .lsaAgeOut _ => none
  | .claimHeld => none
  | .pathComputation => none
  | .dataFrame _ _ _ _ => none
  | .streamWindowFree _ _ => none
  | .fabricEgressDiscard _ _ => none
  | .pntBatchSend _ => none
  | .delayExchange _ _ _ _ _ => none
  | .syncSend _ => none
  | .time _ _ _ _ => none
  | .followUpTimeout _ => none
  | .pointUpdate _ => none
  | .pointGet _ => none
  | .dpHoldExpiry _ => none
  | .chatterRelease _ => none
  | .windowClose _ => none
  | .pendingDeliveryWrite _ => none
  | .deliveryWrite _ => none
  | .pntSoeRdWrite _ _ => none
  | .pntHqRdWrite _ _ => none
  | .canFrameReceive _ _ _ => none
  | .canTransmitComplete _ _ => none
  | .canError _ _ => none
  | .busOffRecoveryComplete _ => none
  | .canRecover _ => none
  | .canCounterClear _ => none
  | .wakeReq _ => none
  | .sleepOk _ => none
  | .canCancel _ _ => none
  | .canTxReq _ _ => none
  | .canObjSel _ _ _ => none
  | .canObjDataWrite _ _ _ => none
  | .canPeriodTrigger _ _ => none
  | .canRxTimeout _ _ => none
  | .nmFrameSend _ _ => none
  | .sleepCommand _ _ => none
  | .sleepCommit _ => none
  | .sleepPatternEnd _ => none
  | .wakeEvent _ _ _ _ => none
  | .wakeSettleEnd _ _ => none
  | .maxAwakeExpiry _ _ => none
  | .pinEdge _ _ _ => none
  | .filteredChange _ => none
  | .timedChangeApply _ => none
  | .chiveGroupRestart _ => none
  | .chiveGctrlRestart _ => none
  | .chiveInPop _ => none
  | .chiveOutWrite _ _ => none
  | .lineFrameClose _ => none
  | .lineCharacter _ => none
  | .pulseEnd _ => none
  | .binaryOutputDelivery _ => none
  | .setv _ => none
  | .chiveAdd _ => none
  | .chiveSub _ => none
  | .chiveAddi _ => none
  | .chiveSubi _ => none
  | .chiveAnd _ => none
  | .chiveOr _ => none
  | .chiveXor _ => none
  | .chiveMov _ => none
  | .shri _ => none
  | .shli _ => none
  | .chiveOri _ => none
  | .ldk _ => none
  | .chiveAndi _ => none
  | .driveLevel _ => none
  | .driveDirection _ => none
  | .drivePpsOut _ => none
  | .driveIndexed _ => none
  | .senseShift _ => none
  | .senseLevel _ => none
  | .senseAll _ => none
  | .timeAdd _ => none
  | .timeNow _ => none
  | .timeFromStamp _ => none
  | .timeRead _ => none
  | .timeWrite _ => none
  | .awaitTime _ => none
  | .awaitLevel _ => none
  | .awaitEdge _ => none
  | .awaitFlag _ => none
  | .awaitInstant _ => none
  | .awaitChange _ => none
  | .awaitOutFifo _ => none
  | .chiveBranch _ => none
  | .stamp _ => none
  | .xferTake _ => none
  | .xferGive _ => none
  | .flagSet _ => none
  | .flagClear _ => none
  | .flagSig _ => none
  | .chiveReservedOpcode _ => none
  | .add _ => none
  | .sub _ => none
  | .and _ => none
  | .or _ => none
  | .xor _ => none
  | .andn _ => none
  | .sll _ => none
  | .srl _ => none
  | .sra _ => none
  | .ror _ => none
  | .min _ => none
  | .max _ => none
  | .minu _ => none
  | .maxu _ => none
  | .mul _ => none
  | .mulh _ => none
  | .mulhu _ => none
  | .div _ => none
  | .divu _ => none
  | .rem _ => none
  | .remu _ => none
  | .clz _ => none
  | .ctz _ => none
  | .popc _ => none
  | .bswap _ => none
  | .addi _ => none
  | .andi _ => none
  | .ori _ => none
  | .xori _ => none
  | .shi _ => none
  | .lil _ => none
  | .lih _ => none
  | .cmp _ => none
  | .cmpi _ => none
  | .plog _ => none
  | .ldb _ => none
  | .ldbu _ => none
  | .ldh _ => none
  | .ldhu _ => none
  | .ldw _ => none
  | .stb _ => none
  | .sth _ => none
  | .stw _ => none
  | .aadd _ => none
  | .aswap _ => none
  | .br _ => none
  | .call _ => none
  | .jr _ => none
  | .jalr _ => none
  | .reti _ => none
  | .loop _ => none
  | .repI _ _ => none
  | .repA _ _ => none
  | .smov _ => none
  | .sfil _ => none
  | .scmp _ => none
  | .sscn _ => none
  | .scrc _ => none
  | .sber _ => none
  | .put _ => none
  | .get _ => none
  | .txq _ => none
  | .rxq _ => none
  | .dma _ => none
  | .putCompletion _ _ => none
  | .getCompletion _ _ => none
  | .txqCompletion _ _ => none
  | .rxqCompletion _ => none
  | .dmaCompletion _ _ _ => none
  | .opwait _ => none
  | .mpost _ => none
  | .mrecv _ => none
  | .mlock _ => none
  | .munlk _ => none
  | .mstat _ => none
  | .mailboxOutputArrival _ => none
  | .rdtime _ => none
  | .rand _ => none
  | .wds _ => none
  | .wait _ => none
  | .fence _ => none
  | .brk _ => none
  | .csrr _ => none
  | .csrw _ => none
  | .csrs _ => none
  | .csrc _ => none
  | .instPop _ => none
  | .timerArm _ => none
  | .reservedMajor _ => none
  | .interruptEntry _ => none
  | .engineTimer _ => none
  | .watchdogExpiry _ => none
  | .wdw _ => none
  | .debugHalt _ => none
  | .debugStep _ => none
  | .debugResume _ => none
  | .outboxRelease _ _ => none
  | .epochEnd _ _ _ => none
  | .epochCommit _ => none
  | .commitDeadlineMiss _ _ => none
  | .signatureMismatch _ => none
  | .plausibilityFail _ => none
  | .restoreComplete _ _ _ => none
  | .replayEnd _ _ => none
  | .eccCorrectable _ => none
  | .eccUncorrectable _ => none
  | .scrubLate => none
  | .bankStarve _ _ => none
  | .fatalError _ => none
  | .dumpNvmWriteComplete => none
  | .fatalReset => none
  | .fatalRecordLatch => none
  | .reasonOnlyDumpWrite => none
  | .dumpCopyComplete => none
  | .dumpEraseComplete => none
  | .dumpClear => none
  | .dumpRelease => none
  | .planningCycle _ _ => none
  | .railSettle _ _ => none
  | .fastGuardTrip _ _ => none
  | .stepDeferApply _ => none
  | .pmbAlert _ => none
  | .ledgerWriteComplete _ => none
  | .mbnTxWrite _ _ => none
  | .mbnPop _ => none
  | .mbnLockRead _ => none
  | .mbnLockRelease _ => none
  | .hostReset => none
  | .mailboxLockBreak _ => none
  | .portStatSnap _ => none
  | .portStatClear _ => none
  | .captureReadAdvance _ => none
  | .irqVarm _ _ => none
  | .msiXMessage _ => none
  | .powerStateChange _ => none
  | .wideRegisterRead _ _ => none
  | .registerWrite _ _ => none
  | .supplyMonitorRelease _ _ => none
  | .holdoverMaxExpiry => none
  | .selfRefStepHoldEnd => none
  | .timeUnlockedAlarm => none
  | .ttUnqualifiedAlarm => none
  | .throttleAlarm => none
  | .refclkBRestore => none
  | .timeMark _ _ _ => none
  | .arbitration _ _ => none
  | .dramIslandFailure _ => none
  | .pcieConfigurationWrite _ _ _ => none
  | .jtagTapInstruction _ _ => none

/-- A well-formed command's request has at most 15 body words. -/
def Statement (i : Instr) : Prop := ∀ q, carried i = some q → WellFormed i = true → q.body.length ≤ 15

theorem carries_none {i : Instr} (h : carried i = none) : Statement i :=
  by
  intro q hq
  rw [h] at hq
  cases hq

theorem carries_wf {i : Instr} {q : Req} (h : carried i = some q) (w : WellFormed i = q.wf) : Statement i := by
  intro r hr hw
  cases h.symm.trans hr
  exact of_decide_eq_true (w.symm.trans hw)

theorem porNAssert : Statement (.porNAssert) := carries_none rfl
theorem supplyMonitorReset (rail : Fin 10) (mv : Nat) : Statement (.supplyMonitorReset rail mv) := carries_none rfl
theorem thermalTrip (tj : Int) : Statement (.thermalTrip tj) := carries_none rfl
theorem thermalRelease (x : Clocks) (tj : Int) : Statement (.thermalRelease x tj) := carries_none rfl
theorem warmNAssert : Statement (.warmNAssert) := carries_none rfl
theorem sageWatchdogExpiry : Statement (.sageWatchdogExpiry) := carries_none rfl
theorem pePerstNAssert : Statement (.pePerstNAssert) := carries_none rfl
theorem pePerstNRelease (link : Option PcieLink) : Statement (.pePerstNRelease link) := carries_none rfl
theorem trstNAssert : Statement (.trstNAssert) := carries_none rfl
theorem porNRelease (x : Clocks) : Statement (.porNRelease x) := carries_none rfl
theorem resetClockCheck (x : Clocks) : Statement (.resetClockCheck x) := carries_none rfl
theorem refclkAAbsentTimeout : Statement (.refclkAAbsentTimeout) := carries_none rfl
theorem wipeComplete (f : BootFind) : Statement (.wipeComplete f) := carries_none rfl
theorem wipeTimeout : Statement (.wipeTimeout) := carries_none rfl
theorem alarmHoldEnd : Statement (.alarmHoldEnd) := carries_none rfl
theorem voterDisagreement (core : Fin 3) : Statement (.voterDisagreement core) := carries_none rfl
theorem trngHealthFail (restarted : Bool) : Statement (.trngHealthFail restarted) := carries_none rfl
theorem requestBodyTimeout : Statement (.requestBodyTimeout) := carries_none rfl
theorem requestReservedClass (q : Req) (code : BitVec 12) : Statement (.requestReservedClass q code) := carries_wf rfl rfl
theorem sageResponseDeliver (n : Fin 64) : Statement (.sageResponseDeliver n) := carries_none rfl
theorem challenge (q : Req) : Statement (.challenge q) := carries_wf rfl rfl
theorem attestation (q : Req) : Statement (.attestation q) := carries_wf rfl rfl
theorem tableEditCore (q : Req) : Statement (.tableEditCore q) := carries_wf rfl rfl
theorem tableEditPort (q : Req) : Statement (.tableEditPort q) := carries_wf rfl rfl
theorem tableEditRed (q : Req) : Statement (.tableEditRed q) := carries_wf rfl rfl
theorem tableEditMeter (q : Req) : Statement (.tableEditMeter q) := carries_wf rfl rfl
theorem tableEditVlan (q : Req) : Statement (.tableEditVlan q) := carries_wf rfl rfl
theorem tableEditFdb (q : Req) : Statement (.tableEditFdb q) := carries_wf rfl rfl
theorem tableEditMcast (q : Req) : Statement (.tableEditMcast q) := carries_wf rfl rfl
theorem tableEditRule (q : Req) : Statement (.tableEditRule q) := carries_wf rfl rfl
theorem tableEditBatch (q : Req) : Statement (.tableEditBatch q) := carries_wf rfl rfl
theorem linkCostSet (q : Req) : Statement (.linkCostSet q) := carries_wf rfl rfl
theorem deviceExclude (q : Req) : Statement (.deviceExclude q) := carries_wf rfl rfl
theorem routeRecompute (q : Req) : Statement (.routeRecompute q) := carries_wf rfl rfl
theorem keySign (q : Req) (tagOk : Bool) : Statement (.keySign q tagOk) := carries_wf rfl rfl
theorem keyExchange (q : Req) (tagOk : Bool) (onCurve : Bool) : Statement (.keyExchange q tagOk onCurve) := carries_wf rfl rfl
theorem keyExport (q : Req) (tagOk : Bool) : Statement (.keyExport q tagOk) := carries_wf rfl rfl
theorem timeStepRequest (q : Req) : Statement (.timeStepRequest q) := carries_wf rfl rfl
theorem timeSetRequest (q : Req) : Statement (.timeSetRequest q) := carries_wf rfl rfl
theorem utcOffsetSet (q : Req) : Statement (.utcOffsetSet q) := carries_wf rfl rfl
theorem scheduleLoad (q : Req) : Statement (.scheduleLoad q) := carries_wf rfl rfl
theorem scheduleSwapRequest (q : Req) : Statement (.scheduleSwapRequest q) := carries_wf rfl rfl
theorem scheduleSwap (chan : Option (Fin 16)) : Statement (.scheduleSwap chan) := carries_none rfl
theorem chiveProgramWrite (q : Req) : Statement (.chiveProgramWrite q) := carries_wf rfl rfl
theorem chiveRestartRequest (q : Req) : Statement (.chiveRestartRequest q) := carries_wf rfl rfl
theorem personalityRestart (q : Req) : Statement (.personalityRestart q) := carries_wf rfl rfl
theorem personalityStop (q : Req) : Statement (.personalityStop q) := carries_wf rfl rfl
theorem personalityStart (q : Req) : Statement (.personalityStart q) := carries_wf rfl rfl
theorem instanceRestart (e : Fin 32) (ok : Bool) : Statement (.instanceRestart e ok) := carries_none rfl
theorem storeAppendOpen (q : Req) : Statement (.storeAppendOpen q) := carries_wf rfl rfl
theorem storeAppendWrite (q : Req) : Statement (.storeAppendWrite q) := carries_wf rfl rfl
theorem storeAppendCommit (q : Req) (v : Verdict) (vpkSig : Bool) (nvmOk : Bool) : Statement (.storeAppendCommit q v vpkSig nvmOk) := carries_wf rfl rfl
theorem storeEntryRemove (q : Req) : Statement (.storeEntryRemove q) := carries_wf rfl rfl
theorem storeErase (q : Req) (v : Verdict) : Statement (.storeErase q v) := carries_wf rfl rfl
theorem nvmWriteComplete (ok : Bool) : Statement (.nvmWriteComplete ok) := carries_none rfl
theorem quotaChange (q : Req) : Statement (.quotaChange q) := carries_wf rfl rfl
theorem pointGrantSet (q : Req) : Statement (.pointGrantSet q) := carries_wf rfl rfl
theorem pointGrantRemove (q : Req) : Statement (.pointGrantRemove q) := carries_wf rfl rfl
theorem pointSubstitute (q : Req) : Statement (.pointSubstitute q) := carries_wf rfl rfl
theorem pointSubstituteEnd (q : Req) : Statement (.pointSubstituteEnd q) := carries_wf rfl rfl
theorem subscriptionAppend (q : Req) : Statement (.subscriptionAppend q) := carries_wf rfl rfl
theorem subscriptionRemove (q : Req) : Statement (.subscriptionRemove q) := carries_wf rfl rfl
theorem imageWriteOpen (q : Req) : Statement (.imageWriteOpen q) := carries_wf rfl rfl
theorem imageWriteData (q : Req) (nvmOk : Bool) : Statement (.imageWriteData q nvmOk) := carries_wf rfl rfl
theorem imageWriteCommit (q : Req) (v : Verdict) (pers : Bool) (nvmOk : Bool) : Statement (.imageWriteCommit q v pers nvmOk) := carries_wf rfl rfl
theorem imageWriteClose (q : Req) : Statement (.imageWriteClose q) := carries_wf rfl rfl
theorem imageWriteStatus (q : Req) : Statement (.imageWriteStatus q) := carries_wf rfl rfl
theorem imageWriteAbandon (nvm : Bool) : Statement (.imageWriteAbandon nvm) := carries_none rfl
theorem lifecycleProvision (q : Req) : Statement (.lifecycleProvision q) := carries_wf rfl rfl
theorem lifecycleOperational (q : Req) (v : Verdict) : Statement (.lifecycleOperational q v) := carries_wf rfl rfl
theorem lifecycleServiceEntry (q : Req) (v : Verdict) : Statement (.lifecycleServiceEntry q v) := carries_wf rfl rfl
theorem lifecycleServiceExit (q : Req) : Statement (.lifecycleServiceExit q) := carries_wf rfl rfl
theorem lifecycleRetire (q : Req) (v : Verdict) : Statement (.lifecycleRetire q v) := carries_wf rfl rfl
theorem ownerRotate (q : Req) (v : Verdict) : Statement (.ownerRotate q v) := carries_wf rfl rfl
theorem lifecycleColdReset : Statement (.lifecycleColdReset) := carries_none rfl
theorem debugUnlock (q : Req) (v : Verdict) : Statement (.debugUnlock q v) := carries_wf rfl rfl
theorem debugLock (q : Req) : Statement (.debugLock q) := carries_wf rfl rfl
theorem debugScopeExpiry : Statement (.debugScopeExpiry) := carries_none rfl
theorem resetRequest (q : Req) : Statement (.resetRequest q) := carries_wf rfl rfl
theorem requestedWarmReset : Statement (.requestedWarmReset) := carries_none rfl
theorem keyImport (q : Req) (op : Byte) (keyLen : Option (BitVec 8)) : Statement (.keyImport q op keyLen) := carries_wf rfl rfl
theorem ownerCertificateWrite (q : Req) (op : Byte) : Statement (.ownerCertificateWrite q op) := carries_wf rfl rfl
theorem refclkALoss : Statement (.refclkALoss) := carries_none rfl
theorem refclkARestore : Statement (.refclkARestore) := carries_none rfl
theorem refclkBLoss : Statement (.refclkBLoss) := carries_none rfl
theorem servoSample (source : Fin 4) (m : Sample) (utc : Option UtcInfo) : Statement (.servoSample source m utc) := carries_none rfl
theorem servoStepApply : Statement (.servoStepApply) := carries_none rfl
theorem sourceLossTimeout : Statement (.sourceLossTimeout) := carries_none rfl
theorem leapSecond : Statement (.leapSecond) := carries_none rfl
theorem ppsOutEdge (rise : Bool) : Statement (.ppsOutEdge rise) := carries_none rfl
theorem ppsInEdge (stamp : DWord) : Statement (.ppsInEdge stamp) := carries_none rfl
theorem ppsInTimeout : Statement (.ppsInTimeout) := carries_none rfl
theorem irigBFrame (f : IrigFrame) : Statement (.irigBFrame f) := carries_none rfl
theorem irigBLossTimeout : Statement (.irigBLossTimeout) := carries_none rfl
theorem autonegotiationAttempt (p : Fin 64) (speed : Fin 4) (full : Bool) : Statement (.autonegotiationAttempt p speed full) := carries_none rfl
theorem linkUp (p : Fin 68) (sdRx : BitVec 16) (sdTx : BitVec 16) : Statement (.linkUp p sdRx sdTx) := carries_none rfl
theorem linkDown (p : Fin 68) : Statement (.linkDown p) := carries_none rfl
theorem laneFault (lane : Fin 20) : Statement (.laneFault lane) := carries_none rfl
theorem highBer (p : Fin 4) : Statement (.highBer p) := carries_none rfl
theorem frameClassify (p : Fin 64) (head : List Byte) (len : Nat) (prp : Bool) (raw : DWord) : Statement (.frameClassify p head len prp raw) := carries_none rfl
theorem frameReceiveEnd (p : Fin 68) (b : List Byte) (pcs : Pcs) (raw : DWord) : Statement (.frameReceiveEnd p b pcs raw) := carries_none rfl
theorem fdbAgeOut (addr : BitVec 48) (vid : BitVec 12) : Statement (.fdbAgeOut addr vid) := carries_none rfl
theorem pauseFrame (p : Fin 64) (quanta : BitVec 16) : Statement (.pauseFrame p quanta) := carries_none rfl
theorem pfcFrame (p : Fin 64) (classes : BitVec 8) (quanta : List (BitVec 16)) : Statement (.pfcFrame p classes quanta) := carries_none rfl
theorem pauseQuantaExpiry (p : Fin 64) (classes : BitVec 8) : Statement (.pauseQuantaExpiry p classes) := carries_none rfl
theorem pauseWatchdog (p : Fin 64) : Statement (.pauseWatchdog p) := carries_none rfl
theorem pauseHoldoffEnd (p : Fin 64) : Statement (.pauseHoldoffEnd p) := carries_none rfl
theorem verifyAttempt (p : Fin 64) (responds : Bool) : Statement (.verifyAttempt p responds) := carries_none rfl
theorem fragmentReceive (p : Fin 64) (x : Frag) : Statement (.fragmentReceive p x) := carries_none rfl
theorem ddEntryAgeOut (pair : Fin 32) (addr : BitVec 48) (seq : BitVec 16) : Statement (.ddEntryAgeOut pair addr seq) := carries_none rfl
theorem supervisionFrameSend (pair : Fin 32) : Statement (.supervisionFrameSend pair) := carries_none rfl
theorem cellArrival (inp : Fin 37) (out : Fin 85) (seq : Nat) (crcGood : Bool) : Statement (.cellArrival inp out seq crcGood) := carries_none rfl
theorem cellAckTimeout (inp : Fin 37) (out : Fin 85) (seq : Nat) : Statement (.cellAckTimeout inp out seq) := carries_none rfl
theorem planeTestFail (plane : Fin 5) : Statement (.planeTestFail plane) := carries_none rfl
theorem frameTransmitStart (p : Fin 68) : Statement (.frameTransmitStart p) := carries_none rfl
theorem frameTransmitEnd (p : Fin 68) (frag : Option Nat) : Statement (.frameTransmitEnd p frag) := carries_none rfl
theorem guardianDeadlineDrop (p : Fin 64) (c : Fin 8) : Statement (.guardianDeadlineDrop p c) := carries_none rfl
theorem gateEntryBoundary (p : Fin 64) : Statement (.gateEntryBoundary p) := carries_none rfl
theorem ttResume (p : Fin 64) : Statement (.ttResume p) := carries_none rfl
theorem guardCut (p : Fin 64) : Statement (.guardCut p) := carries_none rfl
theorem guardianCompare (diff : Int) : Statement (.guardianCompare diff) := carries_none rfl
theorem guardianRearm : Statement (.guardianRearm) := carries_none rfl
theorem guardEcc (u : Fin 80) : Statement (.guardEcc u) := carries_none rfl
theorem instantIssue (j : Fin 8) : Statement (.instantIssue j) := carries_none rfl
theorem referenceMessageSend (c : Fin 16) (edge : DWord) : Statement (.referenceMessageSend c edge) := carries_none rfl
theorem coldStart (c : Fin 16) (edge : DWord) : Statement (.coldStart c edge) := carries_none rfl
theorem refLost (c : Fin 16) : Statement (.refLost c) := carries_none rfl
theorem canGuardCut (c : Fin 16) : Statement (.canGuardCut c) := carries_none rfl
theorem helloSend (n : Fin 4) : Statement (.helloSend n) := carries_none rfl
theorem hello (n : Fin 4) (m : HelloMsg) : Statement (.hello n m) := carries_none rfl
theorem admitFrame (n : Fin 4) (m : AdmitMsg) : Statement (.admitFrame n m) := carries_none rfl
theorem admissionTimeout (n : Fin 4) : Statement (.admissionTimeout n) := carries_none rfl
theorem strangerRetry (n : Fin 4) : Statement (.strangerRetry n) := carries_none rfl
theorem neighbourLoss (n : Fin 4) : Statement (.neighbourLoss n) := carries_none rfl
theorem lsa (n : Fin 4) (tagOk : Bool) (hdrOk : Bool) (l : Lsa) : Statement (.lsa n tagOk hdrOk l) := carries_none rfl
theorem lsaOriginate : Statement (.lsaOriginate) := carries_none rfl
theorem lsaAgeOut (id : DWord) : Statement (.lsaAgeOut id) := carries_none rfl
theorem claimHeld : Statement (.claimHeld) := carries_none rfl
theorem pathComputation : Statement (.pathComputation) := carries_none rfl
theorem dataFrame (n : Fin 4) (head : List Byte) (ctx : BitVec 12) (raw : DWord) : Statement (.dataFrame n head ctx raw) := carries_none rfl
theorem streamWindowFree (src : DWord) (stream : BitVec 10) : Statement (.streamWindowFree src stream) := carries_none rfl
theorem fabricEgressDiscard (n : Fin 4) (c : Fin 8) : Statement (.fabricEgressDiscard n c) := carries_none rfl
theorem pntBatchSend (st : Fin 1024) : Statement (.pntBatchSend st) := carries_none rfl
theorem delayExchange (n : Fin 4) (t1 : DWord) (t2 : DWord) (t3 : DWord) (t4 : DWord) : Statement (.delayExchange n t1 t2 t3 t4) := carries_none rfl
theorem syncSend (n : Fin 4) : Statement (.syncSend n) := carries_none rfl
theorem time (n : Fin 4) (tagOk : Bool) (hdrOk : Bool) (m : TimeMsg) : Statement (.time n tagOk hdrOk m) := carries_none rfl
theorem followUpTimeout (n : Fin 4) : Statement (.followUpTimeout n) := carries_none rfl
theorem pointUpdate (src : Fin 36) : Statement (.pointUpdate src) := carries_none rfl
theorem pointGet (src : Fin 32) : Statement (.pointGet src) := carries_none rfl
theorem dpHoldExpiry (p : Fin 8388608) : Statement (.dpHoldExpiry p) := carries_none rfl
theorem chatterRelease (p : Fin 8388608) : Statement (.chatterRelease p) := carries_none rfl
theorem windowClose (w : Fin 65) : Statement (.windowClose w) := carries_none rfl
theorem pendingDeliveryWrite (q : Fin 1088) : Statement (.pendingDeliveryWrite q) := carries_none rfl
theorem deliveryWrite (q : Fin 36) : Statement (.deliveryWrite q) := carries_none rfl
theorem pntSoeRdWrite (hi : Bool) (w : Word) : Statement (.pntSoeRdWrite hi w) := carries_none rfl
theorem pntHqRdWrite (q : Fin 4) (w : Word) : Statement (.pntHqRdWrite q w) := carries_none rfl
theorem canFrameReceive (c : Fin 16) (m : CanMsg) (edge : DWord) : Statement (.canFrameReceive c m edge) := carries_none rfl
theorem canTransmitComplete (c : Fin 16) (delay : BitVec 8) : Statement (.canTransmitComplete c delay) := carries_none rfl
theorem canError (c : Fin 16) (e : CanErr) : Statement (.canError c e) := carries_none rfl
theorem busOffRecoveryComplete (c : Fin 16) : Statement (.busOffRecoveryComplete c) := carries_none rfl
theorem canRecover (c : Fin 16) : Statement (.canRecover c) := carries_none rfl
theorem canCounterClear (c : Fin 16) : Statement (.canCounterClear c) := carries_none rfl
theorem wakeReq (c : Fin 16) : Statement (.wakeReq c) := carries_none rfl
theorem sleepOk (c : Fin 16) : Statement (.sleepOk c) := carries_none rfl
theorem canCancel (c : Fin 16) (k : Fin 64) : Statement (.canCancel c k) := carries_none rfl
theorem canTxReq (c : Fin 16) (k : Fin 64) : Statement (.canTxReq c k) := carries_none rfl
theorem canObjSel (c : Fin 16) (valid : Bool) (k : Fin 64) : Statement (.canObjSel c valid k) := carries_none rfl
theorem canObjDataWrite (c : Fin 16) (i : Fin 16) (w : Word) : Statement (.canObjDataWrite c i w) := carries_none rfl
theorem canPeriodTrigger (c : Fin 16) (k : Fin 64) : Statement (.canPeriodTrigger c k) := carries_none rfl
theorem canRxTimeout (c : Fin 16) (k : Fin 64) : Statement (.canRxTimeout c k) := carries_none rfl
theorem nmFrameSend (c : Fin 16) (edge : DWord) : Statement (.nmFrameSend c edge) := carries_none rfl
theorem sleepCommand (c : Fin 16) (edge : DWord) : Statement (.sleepCommand c edge) := carries_none rfl
theorem sleepCommit (c : Fin 16) : Statement (.sleepCommit c) := carries_none rfl
theorem sleepPatternEnd (c : Fin 16) : Statement (.sleepPatternEnd c) := carries_none rfl
theorem wakeEvent (c : Fin 16) (bus : Bool) (nm : Bool) (stamp : DWord) : Statement (.wakeEvent c bus nm stamp) := carries_none rfl
theorem wakeSettleEnd (c : Fin 16) (edge : DWord) : Statement (.wakeSettleEnd c edge) := carries_none rfl
theorem maxAwakeExpiry (c : Fin 16) (edge : DWord) : Statement (.maxAwakeExpiry c edge) := carries_none rfl
theorem pinEdge (p : Fin 65) (level : Bool) (stamp : DWord) : Statement (.pinEdge p level stamp) := carries_none rfl
theorem filteredChange (pins : List (Fin 65)) : Statement (.filteredChange pins) := carries_none rfl
theorem timedChangeApply (e : Fin 32) : Statement (.timedChangeApply e) := carries_none rfl
theorem chiveGroupRestart (g : Fin 8) : Statement (.chiveGroupRestart g) := carries_none rfl
theorem chiveGctrlRestart (g : Fin 8) : Statement (.chiveGctrlRestart g) := carries_none rfl
theorem chiveInPop (e : Fin 32) : Statement (.chiveInPop e) := carries_none rfl
theorem chiveOutWrite (e : Fin 32) (w : Word) : Statement (.chiveOutWrite e w) := carries_none rfl
theorem lineFrameClose (l : Fin 16) : Statement (.lineFrameClose l) := carries_none rfl
theorem lineCharacter (l : Fin 16) : Statement (.lineCharacter l) := carries_none rfl
theorem pulseEnd (p : Fin 64) : Statement (.pulseEnd p) := carries_none rfl
theorem binaryOutputDelivery (n : Fin 64) : Statement (.binaryOutputDelivery n) := carries_none rfl
theorem setv (e : Fin 32) : Statement (.setv e) := carries_none rfl
theorem chiveAdd (e : Fin 32) : Statement (.chiveAdd e) := carries_none rfl
theorem chiveSub (e : Fin 32) : Statement (.chiveSub e) := carries_none rfl
theorem chiveAddi (e : Fin 32) : Statement (.chiveAddi e) := carries_none rfl
theorem chiveSubi (e : Fin 32) : Statement (.chiveSubi e) := carries_none rfl
theorem chiveAnd (e : Fin 32) : Statement (.chiveAnd e) := carries_none rfl
theorem chiveOr (e : Fin 32) : Statement (.chiveOr e) := carries_none rfl
theorem chiveXor (e : Fin 32) : Statement (.chiveXor e) := carries_none rfl
theorem chiveMov (e : Fin 32) : Statement (.chiveMov e) := carries_none rfl
theorem shri (e : Fin 32) : Statement (.shri e) := carries_none rfl
theorem shli (e : Fin 32) : Statement (.shli e) := carries_none rfl
theorem chiveOri (e : Fin 32) : Statement (.chiveOri e) := carries_none rfl
theorem ldk (e : Fin 32) : Statement (.ldk e) := carries_none rfl
theorem chiveAndi (e : Fin 32) : Statement (.chiveAndi e) := carries_none rfl
theorem driveLevel (e : Fin 32) : Statement (.driveLevel e) := carries_none rfl
theorem driveDirection (e : Fin 32) : Statement (.driveDirection e) := carries_none rfl
theorem drivePpsOut (e : Fin 32) : Statement (.drivePpsOut e) := carries_none rfl
theorem driveIndexed (e : Fin 32) : Statement (.driveIndexed e) := carries_none rfl
theorem senseShift (e : Fin 32) : Statement (.senseShift e) := carries_none rfl
theorem senseLevel (e : Fin 32) : Statement (.senseLevel e) := carries_none rfl
theorem senseAll (e : Fin 32) : Statement (.senseAll e) := carries_none rfl
theorem timeAdd (e : Fin 32) : Statement (.timeAdd e) := carries_none rfl
theorem timeNow (e : Fin 32) : Statement (.timeNow e) := carries_none rfl
theorem timeFromStamp (e : Fin 32) : Statement (.timeFromStamp e) := carries_none rfl
theorem timeRead (e : Fin 32) : Statement (.timeRead e) := carries_none rfl
theorem timeWrite (e : Fin 32) : Statement (.timeWrite e) := carries_none rfl
theorem awaitTime (e : Fin 32) : Statement (.awaitTime e) := carries_none rfl
theorem awaitLevel (e : Fin 32) : Statement (.awaitLevel e) := carries_none rfl
theorem awaitEdge (e : Fin 32) : Statement (.awaitEdge e) := carries_none rfl
theorem awaitFlag (e : Fin 32) : Statement (.awaitFlag e) := carries_none rfl
theorem awaitInstant (e : Fin 32) : Statement (.awaitInstant e) := carries_none rfl
theorem awaitChange (e : Fin 32) : Statement (.awaitChange e) := carries_none rfl
theorem awaitOutFifo (e : Fin 32) : Statement (.awaitOutFifo e) := carries_none rfl
theorem chiveBranch (e : Fin 32) : Statement (.chiveBranch e) := carries_none rfl
theorem stamp (e : Fin 32) : Statement (.stamp e) := carries_none rfl
theorem xferTake (e : Fin 32) : Statement (.xferTake e) := carries_none rfl
theorem xferGive (e : Fin 32) : Statement (.xferGive e) := carries_none rfl
theorem flagSet (e : Fin 32) : Statement (.flagSet e) := carries_none rfl
theorem flagClear (e : Fin 32) : Statement (.flagClear e) := carries_none rfl
theorem flagSig (e : Fin 32) : Statement (.flagSig e) := carries_none rfl
theorem chiveReservedOpcode (e : Fin 32) : Statement (.chiveReservedOpcode e) := carries_none rfl
theorem add (i : Issue) : Statement (.add i) := carries_none rfl
theorem sub (i : Issue) : Statement (.sub i) := carries_none rfl
theorem and (i : Issue) : Statement (.and i) := carries_none rfl
theorem or (i : Issue) : Statement (.or i) := carries_none rfl
theorem xor (i : Issue) : Statement (.xor i) := carries_none rfl
theorem andn (i : Issue) : Statement (.andn i) := carries_none rfl
theorem sll (i : Issue) : Statement (.sll i) := carries_none rfl
theorem srl (i : Issue) : Statement (.srl i) := carries_none rfl
theorem sra (i : Issue) : Statement (.sra i) := carries_none rfl
theorem ror (i : Issue) : Statement (.ror i) := carries_none rfl
theorem min (i : Issue) : Statement (.min i) := carries_none rfl
theorem max (i : Issue) : Statement (.max i) := carries_none rfl
theorem minu (i : Issue) : Statement (.minu i) := carries_none rfl
theorem maxu (i : Issue) : Statement (.maxu i) := carries_none rfl
theorem mul (i : Issue) : Statement (.mul i) := carries_none rfl
theorem mulh (i : Issue) : Statement (.mulh i) := carries_none rfl
theorem mulhu (i : Issue) : Statement (.mulhu i) := carries_none rfl
theorem div (i : Issue) : Statement (.div i) := carries_none rfl
theorem divu (i : Issue) : Statement (.divu i) := carries_none rfl
theorem rem (i : Issue) : Statement (.rem i) := carries_none rfl
theorem remu (i : Issue) : Statement (.remu i) := carries_none rfl
theorem clz (i : Issue) : Statement (.clz i) := carries_none rfl
theorem ctz (i : Issue) : Statement (.ctz i) := carries_none rfl
theorem popc (i : Issue) : Statement (.popc i) := carries_none rfl
theorem bswap (i : Issue) : Statement (.bswap i) := carries_none rfl
theorem addi (i : Issue) : Statement (.addi i) := carries_none rfl
theorem andi (i : Issue) : Statement (.andi i) := carries_none rfl
theorem ori (i : Issue) : Statement (.ori i) := carries_none rfl
theorem xori (i : Issue) : Statement (.xori i) := carries_none rfl
theorem shi (i : Issue) : Statement (.shi i) := carries_none rfl
theorem lil (i : Issue) : Statement (.lil i) := carries_none rfl
theorem lih (i : Issue) : Statement (.lih i) := carries_none rfl
theorem cmp (i : Issue) : Statement (.cmp i) := carries_none rfl
theorem cmpi (i : Issue) : Statement (.cmpi i) := carries_none rfl
theorem plog (i : Issue) : Statement (.plog i) := carries_none rfl
theorem ldb (i : Issue) : Statement (.ldb i) := carries_none rfl
theorem ldbu (i : Issue) : Statement (.ldbu i) := carries_none rfl
theorem ldh (i : Issue) : Statement (.ldh i) := carries_none rfl
theorem ldhu (i : Issue) : Statement (.ldhu i) := carries_none rfl
theorem ldw (i : Issue) : Statement (.ldw i) := carries_none rfl
theorem stb (i : Issue) : Statement (.stb i) := carries_none rfl
theorem sth (i : Issue) : Statement (.sth i) := carries_none rfl
theorem stw (i : Issue) : Statement (.stw i) := carries_none rfl
theorem aadd (i : Issue) : Statement (.aadd i) := carries_none rfl
theorem aswap (i : Issue) : Statement (.aswap i) := carries_none rfl
theorem br (i : Issue) : Statement (.br i) := carries_none rfl
theorem call (i : Issue) : Statement (.call i) := carries_none rfl
theorem jr (i : Issue) : Statement (.jr i) := carries_none rfl
theorem jalr (i : Issue) : Statement (.jalr i) := carries_none rfl
theorem reti (i : Issue) : Statement (.reti i) := carries_none rfl
theorem loop (i : Issue) : Statement (.loop i) := carries_none rfl
theorem repI (i : Issue) (next : Word) : Statement (.repI i next) := carries_none rfl
theorem repA (i : Issue) (next : Word) : Statement (.repA i next) := carries_none rfl
theorem smov (i : Issue) : Statement (.smov i) := carries_none rfl
theorem sfil (i : Issue) : Statement (.sfil i) := carries_none rfl
theorem scmp (i : Issue) : Statement (.scmp i) := carries_none rfl
theorem sscn (i : Issue) : Statement (.sscn i) := carries_none rfl
theorem scrc (i : Issue) : Statement (.scrc i) := carries_none rfl
theorem sber (i : Issue) : Statement (.sber i) := carries_none rfl
theorem put (i : Issue) : Statement (.put i) := carries_none rfl
theorem get (i : Issue) : Statement (.get i) := carries_none rfl
theorem txq (i : Issue) : Statement (.txq i) := carries_none rfl
theorem rxq (i : Issue) : Statement (.rxq i) := carries_none rfl
theorem dma (i : Issue) : Statement (.dma i) := carries_none rfl
theorem putCompletion (e : Fin 32) (tag : Fin 16) : Statement (.putCompletion e tag) := carries_none rfl
theorem getCompletion (e : Fin 32) (tag : Fin 16) : Statement (.getCompletion e tag) := carries_none rfl
theorem txqCompletion (e : Fin 32) (tag : Fin 16) : Statement (.txqCompletion e tag) := carries_none rfl
theorem rxqCompletion (e : Fin 32) : Statement (.rxqCompletion e) := carries_none rfl
theorem dmaCompletion (e : Fin 32) (tag : Fin 16) (bad : Bool) : Statement (.dmaCompletion e tag bad) := carries_none rfl
theorem opwait (i : Issue) : Statement (.opwait i) := carries_none rfl
theorem mpost (i : Issue) : Statement (.mpost i) := carries_none rfl
theorem mrecv (i : Issue) : Statement (.mrecv i) := carries_none rfl
theorem mlock (i : Issue) : Statement (.mlock i) := carries_none rfl
theorem munlk (i : Issue) : Statement (.munlk i) := carries_none rfl
theorem mstat (i : Issue) : Statement (.mstat i) := carries_none rfl
theorem mailboxOutputArrival (e : Fin 32) : Statement (.mailboxOutputArrival e) := carries_none rfl
theorem rdtime (i : Issue) : Statement (.rdtime i) := carries_none rfl
theorem rand (i : Issue) : Statement (.rand i) := carries_none rfl
theorem wds (i : Issue) : Statement (.wds i) := carries_none rfl
theorem wait (i : Issue) : Statement (.wait i) := carries_none rfl
theorem fence (i : Issue) : Statement (.fence i) := carries_none rfl
theorem brk (i : Issue) : Statement (.brk i) := carries_none rfl
theorem csrr (i : Issue) : Statement (.csrr i) := carries_none rfl
theorem csrw (i : Issue) : Statement (.csrw i) := carries_none rfl
theorem csrs (i : Issue) : Statement (.csrs i) := carries_none rfl
theorem csrc (i : Issue) : Statement (.csrc i) := carries_none rfl
theorem instPop (i : Issue) : Statement (.instPop i) := carries_none rfl
theorem timerArm (i : Issue) : Statement (.timerArm i) := carries_none rfl
theorem reservedMajor (i : Issue) : Statement (.reservedMajor i) := carries_none rfl
theorem interruptEntry (e : Fin 32) : Statement (.interruptEntry e) := carries_none rfl
theorem engineTimer (e : Fin 32) : Statement (.engineTimer e) := carries_none rfl
theorem watchdogExpiry (e : Fin 32) : Statement (.watchdogExpiry e) := carries_none rfl
theorem wdw (e : Fin 32) : Statement (.wdw e) := carries_none rfl
theorem debugHalt (e : Fin 32) : Statement (.debugHalt e) := carries_none rfl
theorem debugStep (e : Fin 32) : Statement (.debugStep e) := carries_none rfl
theorem debugResume (e : Fin 32) : Statement (.debugResume e) := carries_none rfl
theorem outboxRelease (e : Fin 32) (bad : Bool) : Statement (.outboxRelease e bad) := carries_none rfl
theorem epochEnd (k : Fin 16) (busy : Fin 101) (early : Bool) : Statement (.epochEnd k busy early) := carries_none rfl
theorem epochCommit (k : Fin 16) : Statement (.epochCommit k) := carries_none rfl
theorem commitDeadlineMiss (k : Fin 16) (why : CommitMiss) : Statement (.commitDeadlineMiss k why) := carries_none rfl
theorem signatureMismatch (k : Fin 16) : Statement (.signatureMismatch k) := carries_none rfl
theorem plausibilityFail (e : Fin 32) : Statement (.plausibilityFail e) := carries_none rfl
theorem restoreComplete (k : Fin 16) (lo : Bool) (hi : Bool) : Statement (.restoreComplete k lo hi) := carries_none rfl
theorem replayEnd (k : Fin 16) (busy : Fin 101) : Statement (.replayEnd k busy) := carries_none rfl
theorem eccCorrectable (m : Fin 38) : Statement (.eccCorrectable m) := carries_none rfl
theorem eccUncorrectable (w : EccAt) : Statement (.eccUncorrectable w) := carries_none rfl
theorem scrubLate : Statement (.scrubLate) := carries_none rfl
theorem bankStarve (n : Fin 32) (cycles : Word) : Statement (.bankStarve n cycles) := carries_none rfl
theorem fatalError (x : Option FatalCause) : Statement (.fatalError x) := carries_none rfl
theorem dumpNvmWriteComplete : Statement (.dumpNvmWriteComplete) := carries_none rfl
theorem fatalReset : Statement (.fatalReset) := carries_none rfl
theorem fatalRecordLatch : Statement (.fatalRecordLatch) := carries_none rfl
theorem reasonOnlyDumpWrite : Statement (.reasonOnlyDumpWrite) := carries_none rfl
theorem dumpCopyComplete : Statement (.dumpCopyComplete) := carries_none rfl
theorem dumpEraseComplete : Statement (.dumpEraseComplete) := carries_none rfl
theorem dumpClear : Statement (.dumpClear) := carries_none rfl
theorem dumpRelease : Statement (.dumpRelease) := carries_none rfl
theorem planningCycle (l : List Sentinel) (eyes : List (Fin 20 × Byte × BitVec 16)) : Statement (.planningCycle l eyes) := carries_none rfl
theorem railSettle (r : Fin 3) (x : RailCheck) : Statement (.railSettle r x) := carries_none rfl
theorem fastGuardTrip (i : Fin 46) (slack : Int) : Statement (.fastGuardTrip i slack) := carries_none rfl
theorem stepDeferApply (k : Fin 16) : Statement (.stepDeferApply k) := carries_none rfl
theorem pmbAlert (l : List (Fin 3 × Bool × Byte)) : Statement (.pmbAlert l) := carries_none rfl
theorem ledgerWriteComplete (ok : Bool) : Statement (.ledgerWriteComplete ok) := carries_none rfl
theorem mbnTxWrite (n : Fin 64) (w : Word) : Statement (.mbnTxWrite n w) := carries_none rfl
theorem mbnPop (n : Fin 64) : Statement (.mbnPop n) := carries_none rfl
theorem mbnLockRead (n : Fin 64) : Statement (.mbnLockRead n) := carries_none rfl
theorem mbnLockRelease (n : Fin 64) : Statement (.mbnLockRelease n) := carries_none rfl
theorem hostReset : Statement (.hostReset) := carries_none rfl
theorem mailboxLockBreak (n : Fin 64) : Statement (.mailboxLockBreak n) := carries_none rfl
theorem portStatSnap (n : Fin 68) : Statement (.portStatSnap n) := carries_none rfl
theorem portStatClear (n : Fin 68) : Statement (.portStatClear n) := carries_none rfl
theorem captureReadAdvance (w : Word) : Statement (.captureReadAdvance w) := carries_none rfl
theorem irqVarm (hi : Bool) (w : Word) : Statement (.irqVarm hi w) := carries_none rfl
theorem msiXMessage (v : Fin 64) : Statement (.msiXMessage v) := carries_none rfl
theorem powerStateChange (d3hot : Bool) : Statement (.powerStateChange d3hot) := carries_none rfl
theorem wideRegisterRead (addr : BarAddr) (len : BitVec 12) : Statement (.wideRegisterRead addr len) := carries_none rfl
theorem registerWrite (addr : BarAddr) (data : List Byte) : Statement (.registerWrite addr data) := carries_none rfl
theorem supplyMonitorRelease (x : Clocks) (mv : List Nat) : Statement (.supplyMonitorRelease x mv) := carries_none rfl
theorem holdoverMaxExpiry : Statement (.holdoverMaxExpiry) := carries_none rfl
theorem selfRefStepHoldEnd : Statement (.selfRefStepHoldEnd) := carries_none rfl
theorem timeUnlockedAlarm : Statement (.timeUnlockedAlarm) := carries_none rfl
theorem ttUnqualifiedAlarm : Statement (.ttUnqualifiedAlarm) := carries_none rfl
theorem throttleAlarm : Statement (.throttleAlarm) := carries_none rfl
theorem refclkBRestore : Statement (.refclkBRestore) := carries_none rfl
theorem timeMark (c : Fin 16) (k : Fin 64) (diff : Int) : Statement (.timeMark c k diff) := carries_none rfl
theorem arbitration (c : Fin 16) (edge : DWord) : Statement (.arbitration c edge) := carries_none rfl
theorem dramIslandFailure (x : DramEvent) : Statement (.dramIslandFailure x) := carries_none rfl
theorem pcieConfigurationWrite (msixEn : Bool) (fnMask : Bool) (busMaster : Bool) : Statement (.pcieConfigurationWrite msixEn fnMask busMaster) := carries_none rfl
theorem jtagTapInstruction (code : Nat) (boundaryScan : Bool) : Statement (.jtagTapInstruction code boundaryScan) := carries_none rfl

end Sys2Proof.Laws.F
end

