-- ==== Sys2Proof/Tests/Slice0.lean ====
section
/-! SUPPORT. Tests: ill-formed commands that WellFormed refuses, one state per clause of every statement
that meets the clause's hypotheses, and single steps with results worked out by hand from the spec. -/

namespace Sys2Proof.Tests
open Sys2Proof Sys2Proof.Machine
set_option maxRecDepth 16000

/-- READY asserted, everything else as after reset. -/
def up : State := { State.reset with sys := { State.reset.sys with stage := .running, ready := true, up := true } }

/-- Engine 0 of a twin cluster runs with the given registers. -/
def eng0 (c : EngCore) : State := up.setEng 0 { st := .running, core := c }

/-- A word of engine 0. -/
def is0 (w : Word) : Issue := { eng := 0, word := w }

/-- Fields of Table 11-1: major, rd, rs1, rs2 and fn, or rd, rs1 and imm12. -/
def enc (major rd rs1 rs2 fn : Nat) : Word :=
  BitVec.ofNat 32 (major * 2 ^ 22 + rd * 2 ^ 17 + rs1 * 2 ^ 12 + rs2 * 2 ^ 7 + fn)
def encI (major rd rs1 imm : Nat) : Word :=
  BitVec.ofNat 32 (major * 2 ^ 22 + rd * 2 ^ 17 + rs1 * 2 ^ 12 + imm)

/-- w1 and w2 given. -/
def regs (a b : Word) : EngCore := { w := [(1, a), (2, b)] }


/-- The hardware's count at `n`, in 250 ps. -/
def monoAt (n : Nat) (s : State) : State := { s with sys := { s.sys with mono := n } }

/-! ### Polnil engines -/

theorem test_hyps_AluFunctionsWriteRd :
    (∀ fn ∈ [0, 1, 2, 3, 4, 5, 8, 9, 10, 11, 16, 17, 18, 19, 24, 25, 26, 28, 29, 30, 31],
      (eng0 (regs 7 9)).issues (is0 (enc 0 3 1 2 fn)) 0 = true ∧ fFn (enc 0 3 1 2 fn).toNat = fn) ∧
    (∀ fn ∈ [0x20, 0x21, 0x22, 0x23],
      (eng0 (regs 7 9)).issues (is0 (enc 0 3 1 0 fn)) 0 = true ∧ fFn (enc 0 3 1 0 fn).toNat = fn ∧
      fRs2 (enc 0 3 1 0 fn).toNat = 0) ∧
    (∀ m ∈ [1, 2, 3, 4], (eng0 (regs 7 9)).issues (is0 (encI m 3 1 0xFFF)) m = true) ∧
    (eng0 (regs 7 9)).issues (is0 (encI 5 3 1 0xC1F)) 5 = true ∧ bits (encI 5 3 1 0xC1F).toNat 9 5 = 0 ∧
    (∀ m ∈ [6, 7], (eng0 (regs 7 9)).issues (is0 (encI m 3 15 0xFFF)) m = true ∧
      tst (encI m 3 15 0xFFF).toNat 16 = false) := by decide

theorem test_hyps_ComparesWritePredicate :
    (eng0 (regs 7 9)).issues (is0 (encI 8 0x0F 0x01 0x080)) 8 = true ∧ bits (encI 8 0x0F 0x01 0x080).toNat 5 0 = 0 ∧
    (eng0 (regs 7 9)).issues (is0 (encI 9 0x04 0x00 0x7FF)) 9 = true ∧
    (eng0 (regs 7 9)).issues (is0 (encI 10 0x0F 0x1F 0x800)) 10 = true ∧
    bits (encI 10 0x0F 0x1F 0x800).toNat 10 0 = 0 := by decide

/-- Loads, stores and atomics at the last address of the bank, just past it, and misaligned. -/
theorem test_hyps_LoadsReadTheBank :
    (∀ p ∈ [(0x0B, 1), (0x0C, 1), (0x0D, 2), (0x0E, 2), (0x0F, 4)],
      let s := eng0 (regs 0x60000 0)
      s.issues (is0 (encI p.1 3 1 (0x1000 - p.2))) p.1 = true ∧
      s.addrOf (is0 (encI p.1 3 1 (0x1000 - p.2))) = 0x60000 - p.2 ∧ (0x60000 - p.2) % p.2 = 0 ∧
      s.addrOf (is0 (encI p.1 3 1 0)) = 0x60000 ∧ s.issues (is0 (encI p.1 3 1 0)) p.1 = true) ∧
    (∀ p ∈ [(0x0D, 2), (0x0E, 2), (0x0F, 4)],
      let s := eng0 (regs 0x60000 0)
      s.issues (is0 (encI p.1 3 1 0xFFF)) p.1 = true ∧ s.addrOf (is0 (encI p.1 3 1 0xFFF)) = 0x5FFFF ∧
      0x5FFFF % p.2 ≠ 0) := by decide

theorem test_hyps_StoresWriteOnlyTheirBytes :
    (∀ p ∈ [(0x10, 1), (0x11, 2), (0x12, 4)],
      let s := eng0 (regs 0x60000 0)
      s.mem.wf = true ∧ s.issues (is0 (encI p.1 2 1 (0x1000 - p.2))) p.1 = true ∧
      s.addrOf (is0 (encI p.1 2 1 (0x1000 - p.2))) = 0x60000 - p.2 ∧ (0x60000 - p.2) % p.2 = 0 ∧
      s.addrOf (is0 (encI p.1 2 1 0)) = 0x60000 ∧ (1 < p.2 → s.addrOf (is0 (encI p.1 2 1 0xFFF)) % p.2 ≠ 0)) ∧
    (∀ fn ∈ [0, 1],
      (eng0 (regs 0x5FFFC 1)).issues (is0 (enc 0x13 3 1 2 fn)) 0x13 = true ∧
      fFn (enc 0x13 3 1 2 fn).toNat = fn ∧ ((eng0 (regs 0x5FFFC 1)).gpr 0 1).toNat = 0x5FFFC ∧
      (eng0 (regs 0x5FFFE 1)).issues (is0 (enc 0x13 3 1 2 fn)) 0x13 = true ∧
      ((eng0 (regs 0x5FFFE 1)).gpr 0 1).toNat % 4 ≠ 0 ∧
      (eng0 (regs 0x60000 1)).issues (is0 (enc 0x13 3 1 2 fn)) 0x13 = true) := by decide

theorem test_hyps_TrapsEnterTheHandler :
    ((eng0 { exc := true }).core 0).exc = true ∧ ((eng0 {}).core 0).exc = false ∧
    (eng0 {}).fetches (is0 (encI 0x26 0 0 0)) = true ∧ 0x26 ≤ bits (encI 0x26 0 0 0).toNat 27 22 ∧
    (eng0 {}).issues (is0 (enc 0x21 0 0 0 5)) 0x21 = true ∧ fFn (enc 0x21 0 0 0 5).toNat = 5 := by decide

theorem test_hyps_AnnulledInstructionsOnlyRetire :
    ∀ m ∈ [1, 2, 3, 4, 9, 0x0B, 0x0C, 0x0D, 0x0E, 0x0F, 0x10, 0x11, 0x12, 0x14, 0x15, 0x1F],
      let i := is0 (BitVec.ofNat 32 (9 * 2 ^ 28 + m * 2 ^ 22))
      let s := eng0 { pr := 3 }
      s.fetches i = true ∧ bits i.word.toNat 27 22 = m ∧ bits i.word.toNat 31 28 ≠ 8 ∧
      (s.core 0).cond i.word.toNat = false ∧ (s.core 0).rep = none := by decide

theorem test_hyps_JumpsGoToTheirTargets :
    (eng0 {}).issues (is0 (encI 0x14 31 31 0xFFF)) 0x14 = true ∧
    (eng0 {}).issues (is0 (encI 0x15 0 0 1)) 0x15 = true ∧
    (∀ fn ∈ [0, 1], ∀ a ∈ [0x5FFFC, 0x5FFFD, 0x60000],
      (eng0 (regs (BitVec.ofNat 32 a) 0)).issues (is0 (enc 0x16 31 1 0 fn)) 0x16 = true ∧ fFn (enc 0x16 31 1 0 fn).toNat = fn ∧
      ((eng0 (regs (BitVec.ofNat 32 a) 0)).gpr 0 1).toNat = a ∧ fRs1 (enc 0x16 31 1 0 fn).toNat = 1) ∧
    (∀ x : Bool, (eng0 { exc := x }).issues (is0 (enc 0x16 0 0 0 2)) 0x16 = true ∧
      ((eng0 { exc := x }).core 0).exc = x) := by decide

theorem test_hyps_LoopOpensALevel :
    (∀ d ∈ [0, 1, 2], ∀ n ∈ [0, 2047],
      let w := BitVec.ofNat 32 (0x17 * 2 ^ 22 + 3 * 2 ^ 12 + 2 ^ 11 + n)
      (eng0 { loops := { depth := d } }).issues (is0 w) 0x17 = true ∧ tst w.toNat 11 = true ∧ bits w.toNat 10 0 = n) ∧
    (let w := BitVec.ofNat 32 (0x17 * 2 ^ 22 + 3 * 2 ^ 12 + 1)
     (eng0 (regs 5 0)).issues (is0 w) 0x17 = true ∧ tst w.toNat 11 = false ∧ bits w.toNat 10 5 = 0 ∧
     (eng0 (regs 5 0)).gpr 0 (bits w.toNat 4 0) = 5) := by decide

/-- Every case of the end test, the innermost end at pc = 0x40. -/
theorem test_hyps_RetirementAppliesTheEndTest :
    let c := fun d n l1 n1 => (eng0 { pc := 0x40, loops := { lc0 := n, ls0 := 0x20, le0 := 0x40, lc1 := n1, ls1 := 0x10, le1 := l1, depth := d } }).core 0
    (c 0 2 0 0).loops.depth = 0 ∧
    ((c 1 2 0 0).loops.le0 = (c 1 2 0 0).pc ∧ 1 < (c 1 2 0 0).loops.lc0.toNat) ∧
    ((c 1 1 0 0).loops.depth = 1 ∧ (c 1 1 0 0).loops.lc0.toNat ≤ 1) ∧
    ((c 2 1 0x44 3).loops.depth = 2 ∧ (c 2 1 0x44 3).loops.le1 ≠ (c 2 1 0x44 3).pc) ∧
    ((c 2 1 0x40 2).loops.le1 = (c 2 1 0x40 2).pc ∧ 1 < (c 2 1 0x40 2).loops.lc1.toNat) := by decide

/-- sa, da and sc. -/
def strs (sa da sc : Word) (rep : Option Bool := none) : EngCore := { w := [(1, 0x41), (25, sa), (26, da), (27, sc)], rep := rep }

theorem test_hyps_StringsIterateOnce :
    let w := fun op ty k => BitVec.ofNat 32 (0x19 * 2 ^ 22 + 2 ^ 17 + ty * 2 ^ 14 + op * 16 + k)
    let s := eng0 (strs 0x5FFFF 0x5FFFE 1)
    (∀ op ∈ [0, 1, 2, 3, 4], ∀ k ∈ [0, 1, 2],
      let v := w op (if op = 2 ∨ op = 3 then 7 else 0) k
      s.issues (is0 v) 0x19 = true ∧ bits v.toNat 6 4 = op ∧ bits v.toNat 13 7 = 0 ∧ bits v.toNat 3 2 = 0 ∧
      bits v.toNat 1 0 = k) ∧
    (s.core 0).rep = none ∧ (s.core 0).r 27 ≠ 0 ∧ elemOk 0x5FFFF 1 = true ∧ elemOk 0x5FFFE 2 = true ∧
    elemOk 0x5FFFC 4 = true ∧ s.bankBytes 0 0x5FFFF 1 = s.bankBytes 0 0x5FFFE 1 ∧
    (s.bankPut 0 0x5FFFF [1]).bankBytes 0 0x5FFFF 1 ≠ (s.bankPut 0 0x5FFFF [1]).bankBytes 0 0x5FFFE 1 ∧
    (s.bankPut 0 0x5FFFF [0x41]).bankBytes 0 0x5FFFF 1 = leBytes 1 ((s.core 0).r 1) ∧
    s.bankBytes 0 0x5FFFF 1 ≠ leBytes 1 ((s.core 0).r 1) ∧
    ((eng0 (strs 0 0 0)).core 0).r 27 = 0 ∧ (eng0 (strs 0 0 0)).issues (is0 (w 0 0 0)) 0x19 = true := by decide

theorem test_hyps_BerHeadersAreDecoded :
    let w := BitVec.ofNat 32 (0x19 * 2 ^ 22 + 22 * 2 ^ 17 + 2 ^ 14 + 5 * 16)
    let s := (eng0 (strs 0x5FFFE 0 2)).bankPut 0 0x5FFFE [0xBE, 0x80]
    s.issues (is0 w) 0x19 = true ∧ bits w.toNat 6 4 = 5 ∧ bits w.toNat 13 7 = 0 ∧ fRd w.toNat = 22 ∧
    (s.core 0).r 25 + 1 < 0x60000 ∧ 2 ≤ (s.core 0).r 27 ∧ (s.bankByte 0 0x5FFFE).toNat % 32 ≠ 31 ∧
    (s.bankByte 0 0x5FFFF).toNat ≤ 0x80 ∧ ((eng0 (strs 0x5FFFE 0 1)).core 0).r 27 < 2 := by decide

theorem test_hyps_RepPrefixGovernsAString :
    let p := fun fn => enc 0x18 0 0 0 fn
    let str : Word := 0x6400000
    let s := fun pc d l => eng0 { pc := pc, loops := { depth := d, le0 := l } }
    (∀ fn ∈ [0, 1], ∀ pc ∈ [0x5FFF8, 0x5FFFC], (s (BitVec.ofNat 32 pc) 0 0).issues (is0 (p fn)) 0x18 = true ∧
      bits (p fn).toNat 31 28 = 0 ∧ bits (p fn).toNat 21 7 = 0 ∧ fFn (p fn).toNat = fn) ∧
    (bits str.toNat 27 22 = 0x19 ∧ bits str.toNat 6 4 ≠ 5) ∧ bits (str + 0x50).toNat 6 4 = 5 ∧
    ((s 0x40 1 0x40).core 0).loops.le0 = ((s 0x40 1 0x40).core 0).pc ∧
    (let w := BitVec.ofNat 32 (0x19 * 2 ^ 22 + 2 ^ 17 + 16)
     (eng0 (strs 0 0 65 (some false))).issues (is0 w) 0x19 = true ∧ bits w.toNat 6 4 = 1 ∧
     ((eng0 (strs 0 0 65 (some false))).core 0).r 27 = 65) := by decide

theorem test_hyps_RepAFillsTheBlock :
    let w := BitVec.ofNat 32 (0x19 * 2 ^ 22 + 2 ^ 17 + 16 + 2)
    let s := eng0 (strs 0 0x5FF00 64 (some false))
    s.mem.wf = true ∧ s.issues (is0 w) 0x19 = true ∧ bits w.toNat 6 4 = 1 ∧ bits w.toNat 1 0 = 2 ∧
    bits w.toNat 13 7 = 0 ∧ bits w.toNat 16 14 = 0 ∧ (s.core 0).rep = some false ∧ (s.core 0).r 27 = 64 ∧
    (s.core 0).r 26 + 4 * 64 ≤ 0x60000 ∧ (s.core 0).loops.depth = 0 ∧ (s.eng 0).haltReq = false ∧
    (s.eng 0).stepReq = false ∧ fRd w.toNat < 25 := by decide

/-! ### Operations, mailboxes, system instructions, CSRs -/

/-- A record of a type and instance. -/
def rcd (typ inst : Nat) (body : List Byte) : Rec := { typ := typ, ver := 1, flags := 0, inst := inst, body := body }

/-- Records applied. -/
def withRecs (s : State) (l : List Rec) : State := { s with cfg := { s.cfg with recs := l } }

/-- Engine 0 with its operation block at w1: the last block of the bank, the byte before it, and one that runs past the
end; grants and records that let every operation through. -/
def opAt (a : Word) (blk : List Byte) (ops : Tab Op := []) : State :=
  let s := (eng0 { w := [(1, a)], ops := ops }).bankPut 0 0x5FFE0 blk
  let s := { s with pnt := { s.pnt with clGrants := [(0, [(0, { engines := 1, base := 5, count := 1, rights := 3 })])] } }
  withRecs s [rcd 0x0801 0 ([9, 0, 0, 0, 0, 0, 0, 0, 2] ++ List.replicate 11 0 ++ [7]),
    rcd 0x0E02 3 [0, 1, 0, 0, 1, 0, 0, 0, 0, 0, 0, 0, 0, 0x10, 0, 0]]

def opWord (major : Nat) : Issue := is0 (encI major 3 1 0)
/-- Point 5; a frame of 14 bytes to P1; a buffer of 64 bytes; 4 bytes to window 3. -/
def pointBlk : List Byte := [5]
def frameBlk : List Byte := [0, 0, 1, 0, 14]
def bufBlk : List Byte := [0, 0, 0, 0, 64]
def dmaBlk : List Byte := [3, 1, 0, 0, 0, 0, 0, 0, 0, 0, 0, 0, 4]
def allTags (k : OpKind) : Tab Op := (List.range 16).map (fun t => (t, { kind := k, blk := 0, desc := [] }))

/-- A change of grants answered while cluster 0 ran no epoch. -/
def lagging (a : Word) (blk : List Byte) : State :=
  let s := opAt a blk
  { s with pnt := { s.pnt with grants := [(0, { engines := 1, base := 5, count := 1, rights := 3 })] } }

/-- Engine 0's block at the end of the bank, outputs of the running epoch in the outbox, under a profile. -/
def waiting (profile : Byte) (n : Nat) (blk : List Byte) : State :=
  let s := opAt 0x5FFE0 blk
  let s := withRecs s (s.cfg.recs ++ [rcd 0x0102 0 [0, 0, 0, 0, profile]])
  s.setCl 0 { s.cl 0 with outbox := List.replicate n { eng := 0, seq := 0, epoch := 0, out := .post 0 0 } }

/-- Engine 0 awaits tag 15 alone. -/
def waitsFor (k : OpKind) (desc : List Byte) (f : Eng → Eng) : State :=
  let s := eng0 { w := [(1, 0x8000)], ops := [(15, { kind := k, blk := 0x5FFE0, desc := desc })] }
  s.setEng 0 (f (s.eng 0))
def op15 (k : OpKind) (desc : List Byte) : Op := { kind := k, blk := 0x5FFE0, desc := desc }

/-- A frame of 63 bytes waits for engine 0, which has asked for two frames. -/
def rxFrame : RxFrame := { ctx := 4, bytes := List.replicate 63 7, port := 0, cls := 0, stamp := 9 }
def rxOp : Op := { kind := .rxq, blk := 0x5FFE0, desc := [0, 0xFF, 5, 0, 64] }
def rxWaits : State :=
  let s := withRecs (eng0 { rxqs := [2, 1], ops := [(1, rxOp), (2, rxOp)] })
    [rcd 0x0802 0 [4, 0, 1, 0, 0]]
  s.setCl 0 { s.cl 0 with rx := [rxFrame] }

/-- Mailbox 40: engine 0 is its home, or may post. -/
def boxOf (m : Mbox) (w : Word := 40) : State := (eng0 (regs w 0x12345678)).setMb 40 m


theorem test_hyps_OperationsTakeATag :
    (let major : Nat := 0x1A; let kind : OpKind := .put; let i : Issue := opWord 0x1A;
    let s : State := lagging 0x5FFE0 pointBlk;
    let e := i.eng.val; s.issues i major = true ∧ bits i.word.toNat 11 0 = 0 ∧ (kind = .put ∨ kind = .get) ∧
        s.grantLag e = true) ∧
    (let major : Nat := 0x1A; let kind : OpKind := .put; let i : Issue := opWord 0x1A;
    let s : State := opAt 0x5FFE1 []; let e := i.eng.val;
    let a := (s.gpr e (fRs1 i.word.toNat)).toNat; s.issues i major = true ∧ bits i.word.toNat 11 0 = 0 ∧ ((kind = .put
        ∨ kind = .get) → s.grantLag e = false) ∧ 0x60000 < a + 32) ∧
    (let major : Nat := 0x1A; let kind : OpKind := .put; let i : Issue := opWord 0x1A;
    let s : State := opAt 0x5FFDF []; let e := i.eng.val;
    let a := (s.gpr e (fRs1 i.word.toNat)).toNat; s.issues i major = true ∧ bits i.word.toNat 11 0 = 0 ∧ ((kind = .put
        ∨ kind = .get) → s.grantLag e = false) ∧ a + 32 ≤ 0x60000 ∧ a % 32 ≠ 0) ∧
    (let major : Nat := 0x1A; let kind : OpKind := .put;
    let ok : State → Nat → List Byte → Bool := (fun s e b => s.pntBlockOk e 0 b); let i : Issue := opWord 0x1A;
    let s : State := opAt 0x5FFE0 [6]; let e := i.eng.val; let a := (s.gpr e (fRs1 i.word.toNat)).toNat;
    let b := s.bankBytes e a 32; s.issues i major = true ∧ bits i.word.toNat 11 0 = 0 ∧ ((kind = .put ∨ kind = .get) →
        s.grantLag e = false) ∧ a + 32 ≤ 0x60000 ∧ a % 32 = 0 ∧ ok s e b = false) ∧
    (let major : Nat := 0x1A; let kind : OpKind := .put;
    let ok : State → Nat → List Byte → Bool := (fun s e b => s.pntBlockOk e 0 b); let i : Issue := opWord 0x1A;
    let s : State := opAt 0x5FFE0 pointBlk (allTags .put); let e := i.eng.val;
    let a := (s.gpr e (fRs1 i.word.toNat)).toNat;
    let b := s.bankBytes e a 32; s.issues i major = true ∧ bits i.word.toNat 11 0 = 0 ∧ ((kind = .put ∨ kind = .get) →
        s.grantLag e = false) ∧ a + 32 ≤ 0x60000 ∧ a % 32 = 0 ∧ ok s e b = true ∧ (∀ t, t < 16 → (s.core e).ops.find?
        t ≠ none)) ∧
    (let major : Nat := 0x1A; let kind : OpKind := .put;
    let ok : State → Nat → List Byte → Bool := (fun s e b => s.pntBlockOk e 0 b);
    let out : List Byte → Bool := (fun _ => true); let i : Issue := opWord 0x1A;
    let s : State := opAt 0x5FFE0 pointBlk ((allTags .put).take 15); let e := i.eng.val;
    let a := (s.gpr e (fRs1 i.word.toNat)).toNat; let b := s.bankBytes e a 32;
    let t := 15; s.issues i major = true ∧ bits i.word.toNat 11 0 = 0 ∧ ((kind = .put ∨ kind = .get) → s.grantLag e =
        false) ∧ a + 32 ≤ 0x60000 ∧ a % 32 = 0 ∧ ok s e b = true ∧ (out b = true → (s.cl (e / 2)).outbox.length < 256
        ∧ s.outShare (e / 2) = true) ∧ t < 16 ∧ (s.core e).ops.find? t = none ∧ (∀ u, u < t → (s.core e).ops.find? u ≠
        none)) ∧
    (let major : Nat := 0x1A; let kind : OpKind := .put;
    let ok : State → Nat → List Byte → Bool := (fun s e b => s.pntBlockOk e 0 b);
    let out : List Byte → Bool := (fun _ => true); let i : Issue := opWord 0x1A;
    let s : State := waiting 0 128 pointBlk; let e := i.eng.val; let a := (s.gpr e (fRs1 i.word.toNat)).toNat;
    let b := s.bankBytes e a 32; s.issues i major = true ∧ bits i.word.toNat 11 0 = 0 ∧ ((kind = .put ∨ kind = .get) →
        s.grantLag e = false) ∧ a + 32 ≤ 0x60000 ∧ a % 32 = 0 ∧ ok s e b = true ∧ out b = true ∧ (∃ t, t < 16 ∧
        (s.core e).ops.find? t = none) ∧ s.outShare (e / 2) = false) ∧
    (let major : Nat := 0x1A; let kind : OpKind := .put;
    let ok : State → Nat → List Byte → Bool := (fun s e b => s.pntBlockOk e 0 b);
    let out : List Byte → Bool := (fun _ => true); let i : Issue := opWord 0x1A;
    let s : State := waiting 1 256 pointBlk; let e := i.eng.val; let a := (s.gpr e (fRs1 i.word.toNat)).toNat;
    let b := s.bankBytes e a 32; s.issues i major = true ∧ bits i.word.toNat 11 0 = 0 ∧ ((kind = .put ∨ kind = .get) →
        s.grantLag e = false) ∧ a + 32 ≤ 0x60000 ∧ a % 32 = 0 ∧ ok s e b = true ∧ out b = true ∧ (∃ t, t < 16 ∧
        (s.core e).ops.find? t = none) ∧ s.outShare (e / 2) = true ∧ 256 ≤ (s.cl (e / 2)).outbox.length ∧ (s.eng
        e).stalled = false) ∧
    (let major : Nat := 0x1B; let kind : OpKind := .get; let i : Issue := opWord 0x1B;
    let s : State := lagging 0x5FFE0 pointBlk;
    let e := i.eng.val; s.issues i major = true ∧ bits i.word.toNat 11 0 = 0 ∧ (kind = .put ∨ kind = .get) ∧
        s.grantLag e = true) ∧
    (let major : Nat := 0x1B; let kind : OpKind := .get; let i : Issue := opWord 0x1B;
    let s : State := opAt 0x5FFE1 []; let e := i.eng.val;
    let a := (s.gpr e (fRs1 i.word.toNat)).toNat; s.issues i major = true ∧ bits i.word.toNat 11 0 = 0 ∧ ((kind = .put
        ∨ kind = .get) → s.grantLag e = false) ∧ 0x60000 < a + 32) ∧
    (let major : Nat := 0x1B; let kind : OpKind := .get; let i : Issue := opWord 0x1B;
    let s : State := opAt 0x5FFDF []; let e := i.eng.val;
    let a := (s.gpr e (fRs1 i.word.toNat)).toNat; s.issues i major = true ∧ bits i.word.toNat 11 0 = 0 ∧ ((kind = .put
        ∨ kind = .get) → s.grantLag e = false) ∧ a + 32 ≤ 0x60000 ∧ a % 32 ≠ 0) ∧
    (let major : Nat := 0x1B; let kind : OpKind := .get;
    let ok : State → Nat → List Byte → Bool := (fun s e b => s.pntBlockOk e 1 b); let i : Issue := opWord 0x1B;
    let s : State := opAt 0x5FFE0 [6]; let e := i.eng.val; let a := (s.gpr e (fRs1 i.word.toNat)).toNat;
    let b := s.bankBytes e a 32; s.issues i major = true ∧ bits i.word.toNat 11 0 = 0 ∧ ((kind = .put ∨ kind = .get) →
        s.grantLag e = false) ∧ a + 32 ≤ 0x60000 ∧ a % 32 = 0 ∧ ok s e b = false) ∧
    (let major : Nat := 0x1B; let kind : OpKind := .get;
    let ok : State → Nat → List Byte → Bool := (fun s e b => s.pntBlockOk e 1 b); let i : Issue := opWord 0x1B;
    let s : State := opAt 0x5FFE0 pointBlk (allTags .put); let e := i.eng.val;
    let a := (s.gpr e (fRs1 i.word.toNat)).toNat;
    let b := s.bankBytes e a 32; s.issues i major = true ∧ bits i.word.toNat 11 0 = 0 ∧ ((kind = .put ∨ kind = .get) →
        s.grantLag e = false) ∧ a + 32 ≤ 0x60000 ∧ a % 32 = 0 ∧ ok s e b = true ∧ (∀ t, t < 16 → (s.core e).ops.find?
        t ≠ none)) ∧
    (let major : Nat := 0x1B; let kind : OpKind := .get;
    let ok : State → Nat → List Byte → Bool := (fun s e b => s.pntBlockOk e 1 b);
    let out : List Byte → Bool := (fun _ => false); let i : Issue := opWord 0x1B;
    let s : State := opAt 0x5FFE0 pointBlk ((allTags .put).take 15); let e := i.eng.val;
    let a := (s.gpr e (fRs1 i.word.toNat)).toNat; let b := s.bankBytes e a 32;
    let t := 15; s.issues i major = true ∧ bits i.word.toNat 11 0 = 0 ∧ ((kind = .put ∨ kind = .get) → s.grantLag e =
        false) ∧ a + 32 ≤ 0x60000 ∧ a % 32 = 0 ∧ ok s e b = true ∧ (out b = true → (s.cl (e / 2)).outbox.length < 256
        ∧ s.outShare (e / 2) = true) ∧ t < 16 ∧ (s.core e).ops.find? t = none ∧ (∀ u, u < t → (s.core e).ops.find? u ≠
        none)) ∧
    (let major : Nat := 0x1C; let kind : OpKind := .txq; let i : Issue := opWord 0x1C;
    let s : State := opAt 0x5FFE1 []; let e := i.eng.val;
    let a := (s.gpr e (fRs1 i.word.toNat)).toNat; s.issues i major = true ∧ bits i.word.toNat 11 0 = 0 ∧ ((kind = .put
        ∨ kind = .get) → s.grantLag e = false) ∧ 0x60000 < a + 32) ∧
    (let major : Nat := 0x1C; let kind : OpKind := .txq; let i : Issue := opWord 0x1C;
    let s : State := opAt 0x5FFDF []; let e := i.eng.val;
    let a := (s.gpr e (fRs1 i.word.toNat)).toNat; s.issues i major = true ∧ bits i.word.toNat 11 0 = 0 ∧ ((kind = .put
        ∨ kind = .get) → s.grantLag e = false) ∧ a + 32 ≤ 0x60000 ∧ a % 32 ≠ 0) ∧
    (let major : Nat := 0x1C; let kind : OpKind := .txq;
    let ok : State → Nat → List Byte → Bool := (fun s e b => s.txqOk e b); let i : Issue := opWord 0x1C;
    let s : State := opAt 0x5FFE0 [6]; let e := i.eng.val; let a := (s.gpr e (fRs1 i.word.toNat)).toNat;
    let b := s.bankBytes e a 32; s.issues i major = true ∧ bits i.word.toNat 11 0 = 0 ∧ ((kind = .put ∨ kind = .get) →
        s.grantLag e = false) ∧ a + 32 ≤ 0x60000 ∧ a % 32 = 0 ∧ ok s e b = false) ∧
    (let major : Nat := 0x1C; let kind : OpKind := .txq;
    let ok : State → Nat → List Byte → Bool := (fun s e b => s.txqOk e b); let i : Issue := opWord 0x1C;
    let s : State := opAt 0x5FFE0 frameBlk (allTags .put); let e := i.eng.val;
    let a := (s.gpr e (fRs1 i.word.toNat)).toNat;
    let b := s.bankBytes e a 32; s.issues i major = true ∧ bits i.word.toNat 11 0 = 0 ∧ ((kind = .put ∨ kind = .get) →
        s.grantLag e = false) ∧ a + 32 ≤ 0x60000 ∧ a % 32 = 0 ∧ ok s e b = true ∧ (∀ t, t < 16 → (s.core e).ops.find?
        t ≠ none)) ∧
    (let major : Nat := 0x1C; let kind : OpKind := .txq;
    let ok : State → Nat → List Byte → Bool := (fun s e b => s.txqOk e b);
    let out : List Byte → Bool := (fun _ => true); let i : Issue := opWord 0x1C;
    let s : State := opAt 0x5FFE0 frameBlk ((allTags .put).take 15); let e := i.eng.val;
    let a := (s.gpr e (fRs1 i.word.toNat)).toNat; let b := s.bankBytes e a 32;
    let t := 15; s.issues i major = true ∧ bits i.word.toNat 11 0 = 0 ∧ ((kind = .put ∨ kind = .get) → s.grantLag e =
        false) ∧ a + 32 ≤ 0x60000 ∧ a % 32 = 0 ∧ ok s e b = true ∧ (out b = true → (s.cl (e / 2)).outbox.length < 256
        ∧ s.outShare (e / 2) = true) ∧ t < 16 ∧ (s.core e).ops.find? t = none ∧ (∀ u, u < t → (s.core e).ops.find? u ≠
        none)) ∧
    (let major : Nat := 0x1C; let kind : OpKind := .txq;
    let ok : State → Nat → List Byte → Bool := (fun s e b => s.txqOk e b);
    let out : List Byte → Bool := (fun _ => true); let i : Issue := opWord 0x1C;
    let s : State := waiting 0 128 frameBlk; let e := i.eng.val; let a := (s.gpr e (fRs1 i.word.toNat)).toNat;
    let b := s.bankBytes e a 32; s.issues i major = true ∧ bits i.word.toNat 11 0 = 0 ∧ ((kind = .put ∨ kind = .get) →
        s.grantLag e = false) ∧ a + 32 ≤ 0x60000 ∧ a % 32 = 0 ∧ ok s e b = true ∧ out b = true ∧ (∃ t, t < 16 ∧
        (s.core e).ops.find? t = none) ∧ s.outShare (e / 2) = false) ∧
    (let major : Nat := 0x1C; let kind : OpKind := .txq;
    let ok : State → Nat → List Byte → Bool := (fun s e b => s.txqOk e b);
    let out : List Byte → Bool := (fun _ => true); let i : Issue := opWord 0x1C;
    let s : State := waiting 1 256 frameBlk; let e := i.eng.val; let a := (s.gpr e (fRs1 i.word.toNat)).toNat;
    let b := s.bankBytes e a 32; s.issues i major = true ∧ bits i.word.toNat 11 0 = 0 ∧ ((kind = .put ∨ kind = .get) →
        s.grantLag e = false) ∧ a + 32 ≤ 0x60000 ∧ a % 32 = 0 ∧ ok s e b = true ∧ out b = true ∧ (∃ t, t < 16 ∧
        (s.core e).ops.find? t = none) ∧ s.outShare (e / 2) = true ∧ 256 ≤ (s.cl (e / 2)).outbox.length ∧ (s.eng
        e).stalled = false) ∧
    (let major : Nat := 0x1D; let kind : OpKind := .rxq; let i : Issue := opWord 0x1D;
    let s : State := opAt 0x5FFE1 []; let e := i.eng.val;
    let a := (s.gpr e (fRs1 i.word.toNat)).toNat; s.issues i major = true ∧ bits i.word.toNat 11 0 = 0 ∧ ((kind = .put
        ∨ kind = .get) → s.grantLag e = false) ∧ 0x60000 < a + 32) ∧
    (let major : Nat := 0x1D; let kind : OpKind := .rxq; let i : Issue := opWord 0x1D;
    let s : State := opAt 0x5FFDF []; let e := i.eng.val;
    let a := (s.gpr e (fRs1 i.word.toNat)).toNat; s.issues i major = true ∧ bits i.word.toNat 11 0 = 0 ∧ ((kind = .put
        ∨ kind = .get) → s.grantLag e = false) ∧ a + 32 ≤ 0x60000 ∧ a % 32 ≠ 0) ∧
    (let major : Nat := 0x1D; let kind : OpKind := .rxq;
    let ok : State → Nat → List Byte → Bool := (fun _ _ b => rxqOk b); let i : Issue := opWord 0x1D;
    let s : State := opAt 0x5FFE0 [6]; let e := i.eng.val; let a := (s.gpr e (fRs1 i.word.toNat)).toNat;
    let b := s.bankBytes e a 32; s.issues i major = true ∧ bits i.word.toNat 11 0 = 0 ∧ ((kind = .put ∨ kind = .get) →
        s.grantLag e = false) ∧ a + 32 ≤ 0x60000 ∧ a % 32 = 0 ∧ ok s e b = false) ∧
    (let major : Nat := 0x1D; let kind : OpKind := .rxq;
    let ok : State → Nat → List Byte → Bool := (fun _ _ b => rxqOk b); let i : Issue := opWord 0x1D;
    let s : State := opAt 0x5FFE0 bufBlk (allTags .put); let e := i.eng.val;
    let a := (s.gpr e (fRs1 i.word.toNat)).toNat;
    let b := s.bankBytes e a 32; s.issues i major = true ∧ bits i.word.toNat 11 0 = 0 ∧ ((kind = .put ∨ kind = .get) →
        s.grantLag e = false) ∧ a + 32 ≤ 0x60000 ∧ a % 32 = 0 ∧ ok s e b = true ∧ (∀ t, t < 16 → (s.core e).ops.find?
        t ≠ none)) ∧
    (let major : Nat := 0x1D; let kind : OpKind := .rxq;
    let ok : State → Nat → List Byte → Bool := (fun _ _ b => rxqOk b);
    let out : List Byte → Bool := (fun _ => false); let i : Issue := opWord 0x1D;
    let s : State := opAt 0x5FFE0 bufBlk ((allTags .put).take 15); let e := i.eng.val;
    let a := (s.gpr e (fRs1 i.word.toNat)).toNat; let b := s.bankBytes e a 32;
    let t := 15; s.issues i major = true ∧ bits i.word.toNat 11 0 = 0 ∧ ((kind = .put ∨ kind = .get) → s.grantLag e =
        false) ∧ a + 32 ≤ 0x60000 ∧ a % 32 = 0 ∧ ok s e b = true ∧ (out b = true → (s.cl (e / 2)).outbox.length < 256
        ∧ s.outShare (e / 2) = true) ∧ t < 16 ∧ (s.core e).ops.find? t = none ∧ (∀ u, u < t → (s.core e).ops.find? u ≠
        none)) ∧
    (let major : Nat := 0x1E; let kind : OpKind := .dma; let i : Issue := opWord 0x1E;
    let s : State := opAt 0x5FFE1 []; let e := i.eng.val;
    let a := (s.gpr e (fRs1 i.word.toNat)).toNat; s.issues i major = true ∧ bits i.word.toNat 11 0 = 0 ∧ ((kind = .put
        ∨ kind = .get) → s.grantLag e = false) ∧ 0x60000 < a + 32) ∧
    (let major : Nat := 0x1E; let kind : OpKind := .dma; let i : Issue := opWord 0x1E;
    let s : State := opAt 0x5FFDF []; let e := i.eng.val;
    let a := (s.gpr e (fRs1 i.word.toNat)).toNat; s.issues i major = true ∧ bits i.word.toNat 11 0 = 0 ∧ ((kind = .put
        ∨ kind = .get) → s.grantLag e = false) ∧ a + 32 ≤ 0x60000 ∧ a % 32 ≠ 0) ∧
    (let major : Nat := 0x1E; let kind : OpKind := .dma;
    let ok : State → Nat → List Byte → Bool := (fun s e b => s.dmaOk e b); let i : Issue := opWord 0x1E;
    let s : State := opAt 0x5FFE0 [6]; let e := i.eng.val; let a := (s.gpr e (fRs1 i.word.toNat)).toNat;
    let b := s.bankBytes e a 32; s.issues i major = true ∧ bits i.word.toNat 11 0 = 0 ∧ ((kind = .put ∨ kind = .get) →
        s.grantLag e = false) ∧ a + 32 ≤ 0x60000 ∧ a % 32 = 0 ∧ ok s e b = false) ∧
    (let major : Nat := 0x1E; let kind : OpKind := .dma;
    let ok : State → Nat → List Byte → Bool := (fun s e b => s.dmaOk e b); let i : Issue := opWord 0x1E;
    let s : State := opAt 0x5FFE0 dmaBlk (allTags .put); let e := i.eng.val;
    let a := (s.gpr e (fRs1 i.word.toNat)).toNat;
    let b := s.bankBytes e a 32; s.issues i major = true ∧ bits i.word.toNat 11 0 = 0 ∧ ((kind = .put ∨ kind = .get) →
        s.grantLag e = false) ∧ a + 32 ≤ 0x60000 ∧ a % 32 = 0 ∧ ok s e b = true ∧ (∀ t, t < 16 → (s.core e).ops.find?
        t ≠ none)) ∧
    (let major : Nat := 0x1E; let kind : OpKind := .dma;
    let ok : State → Nat → List Byte → Bool := (fun s e b => s.dmaOk e b);
    let out : List Byte → Bool := (fun b => rdLE b 1 1 == 1); let i : Issue := opWord 0x1E;
    let s : State := opAt 0x5FFE0 dmaBlk ((allTags .put).take 15); let e := i.eng.val;
    let a := (s.gpr e (fRs1 i.word.toNat)).toNat; let b := s.bankBytes e a 32;
    let t := 15; s.issues i major = true ∧ bits i.word.toNat 11 0 = 0 ∧ ((kind = .put ∨ kind = .get) → s.grantLag e =
        false) ∧ a + 32 ≤ 0x60000 ∧ a % 32 = 0 ∧ ok s e b = true ∧ (out b = true → (s.cl (e / 2)).outbox.length < 256
        ∧ s.outShare (e / 2) = true) ∧ t < 16 ∧ (s.core e).ops.find? t = none ∧ (∀ u, u < t → (s.core e).ops.find? u ≠
        none)) ∧
    (let major : Nat := 0x1E; let kind : OpKind := .dma;
    let ok : State → Nat → List Byte → Bool := (fun s e b => s.dmaOk e b);
    let out : List Byte → Bool := (fun b => rdLE b 1 1 == 1); let i : Issue := opWord 0x1E;
    let s : State := waiting 0 128 dmaBlk; let e := i.eng.val; let a := (s.gpr e (fRs1 i.word.toNat)).toNat;
    let b := s.bankBytes e a 32; s.issues i major = true ∧ bits i.word.toNat 11 0 = 0 ∧ ((kind = .put ∨ kind = .get) →
        s.grantLag e = false) ∧ a + 32 ≤ 0x60000 ∧ a % 32 = 0 ∧ ok s e b = true ∧ out b = true ∧ (∃ t, t < 16 ∧
        (s.core e).ops.find? t = none) ∧ s.outShare (e / 2) = false) ∧
    (let major : Nat := 0x1E; let kind : OpKind := .dma;
    let ok : State → Nat → List Byte → Bool := (fun s e b => s.dmaOk e b);
    let out : List Byte → Bool := (fun b => rdLE b 1 1 == 1); let i : Issue := opWord 0x1E;
    let s : State := waiting 1 256 dmaBlk; let e := i.eng.val; let a := (s.gpr e (fRs1 i.word.toNat)).toNat;
    let b := s.bankBytes e a 32; s.issues i major = true ∧ bits i.word.toNat 11 0 = 0 ∧ ((kind = .put ∨ kind = .get) →
        s.grantLag e = false) ∧ a + 32 ≤ 0x60000 ∧ a % 32 = 0 ∧ ok s e b = true ∧ out b = true ∧ (∃ t, t < 16 ∧
        (s.core e).ops.find? t = none) ∧ s.outShare (e / 2) = true ∧ 256 ≤ (s.cl (e / 2)).outbox.length ∧ (s.eng
        e).stalled = false) := by
  refine ⟨?_, ?_, ?_, ?_, ?_, ?_, ?_, ?_, ?_, ?_, ?_, ?_, ?_, ?_, ?_, ?_, ?_, ?_, ?_, ?_, ?_, ?_, ?_, ?_, ?_, ?_, ?_,
        ?_, ?_, ?_, ?_, ?_, ?_⟩ <;> decide

theorem test_hyps_CompletionsFreeTheTag :
    (let i : Issue := is0 (encI 0x1F 3 1 0); let s : State := eng0 (regs 0x8000 0); let e := i.eng.val;
    let c := s.core e;
    let m := (s.gpr e (fRs1 i.word.toNat)).toNat % 2 ^ 16; s.issues i 0x1F = true ∧ (∀ p ∈ c.ops, tst m p.1 = false))
        ∧
    (let i : Issue := is0 (encI 0x1F 3 1 0); let s : State := waitsFor .put [] id; let e := i.eng.val;
    let c := s.core e;
    let m := (s.gpr e (fRs1 i.word.toNat)).toNat % 2 ^ 16; s.issues i 0x1F = true ∧ (∃ p ∈ c.ops, tst m p.1 = true) ∧
        m &&& c.opdone.toNat = 0) ∧
    (let i : Issue := is0 (encI 0x1F 3 1 0);
    let s : State := (waitsFor .put [] id).setCore 0 { (waitsFor .put [] id).core 0 with opdone := 0x8000 };
    let e := i.eng.val; let c := s.core e; let m := (s.gpr e (fRs1 i.word.toNat)).toNat % 2 ^ 16;
    let t := 15; s.issues i 0x1F = true ∧ t < 16 ∧ (∃ p ∈ c.ops, tst m p.1 = true) ∧ tst m t = true ∧ tst
        c.opdone.toNat t = true ∧ (∀ u, u < t → tst (m &&& c.opdone.toNat) u = false)) ∧
    (let e : Fin 32 := 0; let tag : Fin 16 := 15;
    let s : State := waitsFor .put [] (fun g => { g with putDone := [(15, 0)] }); let o : Op := op15 .put [];
    let r : Nat := 0; s.takesInput e = true ∧ s.opOf e tag .put = some o ∧ takeFirst (fun p => p.1 == tag.val) (s.eng
        e).putDone = some ((tag.val, r), (s.eng e).putDone.drop 1)) ∧
    (let e : Fin 32 := 0; let tag : Fin 16 := 15;
    let s : State := waitsFor .get [] (fun g => { g with getDone := [(15, [1, 2])] }); let o : Op := op15 .get [];
    let b : List Byte := [1, 2]; s.takesInput e = true ∧ s.opOf e tag .get = some o ∧ takeFirst (fun p => p.1 ==
        tag.val) (s.eng e).getDone = some ((tag.val, b), (s.eng e).getDone.drop 1)) ∧
    (let e : Fin 32 := 0; let tag : Fin 16 := 15;
    let s : State := waitsFor .txq [] (fun g => { g with txDone := [(15, 0, none)] }); let o : Op := op15 .txq [];
    let st : Nat := 0; s.takesInput e = true ∧ s.opOf e tag .txq = some o ∧ takeFirst (fun p => p.1 == tag.val) (s.eng
        e).txDone = some ((tag.val, st, none), (s.eng e).txDone.drop 1)) ∧
    (let e : Fin 32 := 0; let tag : Fin 16 := 15;
    let s : State := waitsFor .dma [3, 1] (fun g => { g with dmaDone := [15] });
    let o : Op := op15 .dma [3, 1]; s.takesInput e = true ∧ s.opOf e tag .dma = some o ∧ rdLE o.desc 1 1 = 1 ∧ tag.val
        ∈ (s.eng e).dmaDone) := by
  refine ⟨?_, ?_, ?_, ?_, ?_, ?_, ?_⟩ <;> decide

theorem test_hyps_ReceivedFrameFillsTheBuffer :
    (let e : Fin 32 := 0; let s : State := rxWaits; let tag : Nat := 2; let rest : List Nat := [1];
    let f : RxFrame := rxFrame; let fs : List RxFrame := [];
    let o : Op := rxOp; s.mem.wf = true ∧ s.takesInput e = true ∧ (s.core e).rxqs = tag :: rest ∧ tag < 16 ∧ rest ≠ []
        ∧ (s.cl (e.val / 2)).rx = f :: fs ∧ s.ctxOwner f.ctx = some e.val ∧ (s.core e).ops.find? tag = some o ∧
        f.bytes.length < rdLE o.desc 4 2 ∧ f.bytes.length < 2 ^ 16 ∧ o.blk + 32 ≤ 0x60000 ∧ (rdLE o.desc 0 4 +
        f.bytes.length ≤ o.blk + 8 ∨ o.blk + 24 ≤ rdLE o.desc 0 4)) := by
  decide

theorem test_hyps_MailboxInstructions :
    (let op : Nat := 0; let g : Mbox → Nat → Bool := (fun m e => (m.outQ e).isSome);
    let i : Issue := is0 (encI 0x20 3 1 (2 * 128 + 0x00)); let s : State := boxOf {}; let e := i.eng.val;
    let n := (s.gpr e (fRs1 i.word.toNat)).toNat % 64; s.issues i 0x20 = true ∧ bits i.word.toNat 6 4 = op ∧ tst
        i.word.toNat 0 = false ∧ (op ≠ 1 → bits i.word.toNat 3 1 = 0) ∧ g (s.mb n) e = false) ∧
    (let op : Nat := 0; let g : Mbox → Nat → Bool := (fun m e => (m.outQ e).isSome);
    let i : Issue := is0 (encI 0x20 3 1 (2 * 128 + 0x00)); let s : State := boxOf { far := 1 }; let e := i.eng.val;
    let n := (s.gpr e (fRs1 i.word.toNat)).toNat % 64; s.issues i 0x20 = true ∧ bits i.word.toNat 6 4 = op ∧ tst
        i.word.toNat 0 = false ∧ (op ≠ 1 → bits i.word.toNat 3 1 = 0) ∧ g (s.mb n) e = true ∧ (s.cl (e /
        2)).outbox.length < 256 ∧ s.outShare (e / 2) = true ∧ s.munlkWaits e n = false) ∧
    (let op : Nat := 3; let g : Mbox → Nat → Bool := Mbox.granted; let i : Issue := is0 (encI 0x20 3 1 0x30);
    let s : State := boxOf {}; let e := i.eng.val;
    let n := (s.gpr e (fRs1 i.word.toNat)).toNat % 64; s.issues i 0x20 = true ∧ bits i.word.toNat 6 4 = op ∧ tst
        i.word.toNat 0 = false ∧ (op ≠ 1 → bits i.word.toNat 3 1 = 0) ∧ g (s.mb n) e = false) ∧
    (let op : Nat := 3; let g : Mbox → Nat → Bool := Mbox.granted; let i : Issue := is0 (encI 0x20 3 1 0x30);
    let s : State := boxOf { home := 0 }; let e := i.eng.val;
    let n := (s.gpr e (fRs1 i.word.toNat)).toNat % 64; s.issues i 0x20 = true ∧ bits i.word.toNat 6 4 = op ∧ tst
        i.word.toNat 0 = false ∧ (op ≠ 1 → bits i.word.toNat 3 1 = 0) ∧ g (s.mb n) e = true ∧ (s.cl (e /
        2)).outbox.length < 256 ∧ s.outShare (e / 2) = true ∧ s.munlkWaits e n = false) ∧
    (let op : Nat := 2; let g : Mbox → Nat → Bool := Mbox.granted; let i : Issue := is0 (encI 0x20 3 1 0x20);
    let s : State := boxOf {}; let e := i.eng.val;
    let n := (s.gpr e (fRs1 i.word.toNat)).toNat % 64; s.issues i 0x20 = true ∧ bits i.word.toNat 6 4 = op ∧ tst
        i.word.toNat 0 = false ∧ (op ≠ 1 → bits i.word.toNat 3 1 = 0) ∧ g (s.mb n) e = false) ∧
    (let op : Nat := 2; let g : Mbox → Nat → Bool := Mbox.granted; let i : Issue := is0 (encI 0x20 3 1 0x20);
    let s : State := boxOf { home := 0, lock := some 31 }; let e := i.eng.val;
    let n := (s.gpr e (fRs1 i.word.toNat)).toNat % 64; s.issues i 0x20 = true ∧ bits i.word.toNat 6 4 = op ∧ tst
        i.word.toNat 0 = false ∧ (op ≠ 1 → bits i.word.toNat 3 1 = 0) ∧ g (s.mb n) e = true ∧ (s.cl (e /
        2)).outbox.length < 256 ∧ s.outShare (e / 2) = true ∧ s.munlkWaits e n = false) ∧
    (let op : Nat := 4; let g : Mbox → Nat → Bool := Mbox.granted; let i : Issue := is0 (encI 0x20 3 1 0x40);
    let s : State := boxOf {}; let e := i.eng.val;
    let n := (s.gpr e (fRs1 i.word.toNat)).toNat % 64; s.issues i 0x20 = true ∧ bits i.word.toNat 6 4 = op ∧ tst
        i.word.toNat 0 = false ∧ (op ≠ 1 → bits i.word.toNat 3 1 = 0) ∧ g (s.mb n) e = false) ∧
    (let op : Nat := 4; let g : Mbox → Nat → Bool := Mbox.granted; let i : Issue := is0 (encI 0x20 3 1 0x40);
    let s : State := boxOf { home := 0, toHome := [{ src := 1, word := 7 }] }; let e := i.eng.val;
    let n := (s.gpr e (fRs1 i.word.toNat)).toNat % 64; s.issues i 0x20 = true ∧ bits i.word.toNat 6 4 = op ∧ tst
        i.word.toNat 0 = false ∧ (op ≠ 1 → bits i.word.toNat 3 1 = 0) ∧ g (s.mb n) e = true ∧ (s.cl (e /
        2)).outbox.length < 256 ∧ s.outShare (e / 2) = true ∧ s.munlkWaits e n = false) ∧
    (let op : Nat := 1; let g : Mbox → Nat → Bool := (fun m e => (m.inQ e).isSome);
    let i : Issue := is0 (encI 0x20 3 1 0x1E); let s : State := boxOf { far := 1 }; let e := i.eng.val;
    let n := (s.gpr e (fRs1 i.word.toNat)).toNat % 64; s.issues i 0x20 = true ∧ bits i.word.toNat 6 4 = op ∧ tst
        i.word.toNat 0 = false ∧ (op ≠ 1 → bits i.word.toNat 3 1 = 0) ∧ g (s.mb n) e = false) ∧
    (let op : Nat := 1; let g : Mbox → Nat → Bool := (fun m e => (m.inQ e).isSome);
    let i : Issue := is0 (encI 0x20 3 1 0x1E);
    let s : State := boxOf { home := 0, toHome := [{ src := 1, word := 7 }] }; let e := i.eng.val;
    let n := (s.gpr e (fRs1 i.word.toNat)).toNat % 64; s.issues i 0x20 = true ∧ bits i.word.toNat 6 4 = op ∧ tst
        i.word.toNat 0 = false ∧ (op ≠ 1 → bits i.word.toNat 3 1 = 0) ∧ g (s.mb n) e = true ∧ (s.cl (e /
        2)).outbox.length < 256 ∧ s.outShare (e / 2) = true ∧ s.munlkWaits e n = false) ∧
    (let e : Fin 32 := 31;
    let s : State :=
        { (up.setMb 55 { far := 0x80000000, toHome := List.replicate 7 { src := 1, word := 7 } }) with engs := { up.engs with mbActs := [(31, .post 55 9)] } };
    let n : Nat := 55; let w : Word := 9; let rest : List (Nat × Output) := [];
    let home : Bool := true; s.running = true ∧ s.engs.mbActs = (e.val, .post n w) :: rest ∧ (s.mb n).outQ e = some
        home ∧ n < 56 ∧ s.mbRoom n home 1 = true) ∧
    (let e : Fin 32 := 0;
    let s : State := { (up.setMb 63 { lock := some 0 }) with engs := { up.engs with mbActs := [(0, .unlock 63)] } };
    let n : Nat := 63;
    let rest : List (Nat × Output) := []; s.running = true ∧ s.engs.mbActs = (e.val, .unlock n) :: rest ∧ (s.mb
        n).lock = some e.val) := by
  refine ⟨?_, ?_, ?_, ?_, ?_, ?_, ?_, ?_, ?_, ?_, ?_, ?_⟩ <;> decide

/-! ### System instructions, CSRs, interrupts, debug, Chive -/

def sysOp (fn : Nat) (rd : Nat := 2) : Issue := is0 (enc 0x21 rd 0 0 fn)
def csrWr (major num : Nat) : Issue := is0 (encI major 0 1 num)

/-- Chive engine `e` before a word. -/
def chiveAt (e w : Nat) (x : CeEng := {}) (g : CeGroup := {}) : State :=
  (up.setGrp (e / 4) { g with started := true, store := [(0, BitVec.ofNat 24 w)] }).setCe e { x with st := .running }

/-- Device time. -/
def at' (s : State) (t : DWord) : State := { s with time := { s.time with t := t } }
/-- A timed change that is pending, and T one unit ahead. -/
def held : Option (Word × PinChange) := some (5, .level 0 true)


theorem test_hyps_SystemInstructions :
    (let i : Issue := sysOp 0; let s : State := eng0 {}; let w := i.word.toNat;
    let rd := fRd w; s.issues i 0x21 = true ∧ fFn w = 0 ∧ rd % 2 = 0 ∧ 2 ≤ rd) ∧
    (let i : Issue := sysOp 1; let s : State := eng0 {}; let w := i.word.toNat; s.issues i 0x21 = true ∧ fFn w = 1) ∧
    (let i : Issue := sysOp 2; let s : State := eng0 {}; let w := i.word.toNat; s.issues i 0x21 = true ∧ fFn w = 2) ∧
    (let i : Issue := sysOp 3;
    let s : State := eng0 { ien := 1, insts := [{ gen := 0, latch := false, qual := true, at_ := 0 }] };
    let w := i.word.toNat; let e := i.eng.val; s.issues i 0x21 = true ∧ fFn w = 3 ∧ (s.core e).pendEn ≠ 0) ∧
    (let i : Issue := sysOp 3; let s : State := eng0 { ien := 0xFFFFFFFF }; let w := i.word.toNat;
    let e := i.eng.val; s.issues i 0x21 = true ∧ fFn w = 3 ∧ (s.core e).pendEn = 0) ∧
    (let i : Issue := sysOp 4; let s : State := eng0 {}; let w := i.word.toNat; s.issues i 0x21 = true ∧ fFn w = 4) ∧
    (let i : Issue := sysOp 6; let s : State := eng0 {};
    let w := i.word.toNat; s.issues i 0x21 = true ∧ 6 ≤ fFn w) := by
  refine ⟨?_, ?_, ?_, ?_, ?_, ?_, ?_⟩ <;> decide

theorem test_hyps_CsrAccess :
    (let i : Issue := is0 (encI 0x22 3 0 0x023); let s : State := eng0 { ecause := 3 };
    let w := i.word.toNat; s.issues i 0x22 = true ∧ fRs1 w = 0 ∧ fImm12 w = 0x023) ∧
    (let i : Issue := is0 (encI 0x22 3 0 0); let s : State := eng0 {};
    let w := i.word.toNat; s.issues i 0x22 = true ∧ fRs1 w = 0 ∧ fImm12 w = 0x000) ∧
    (let i : Issue := is0 (encI 0x22 3 0 0x041); let s : State := eng0 { ret := 0x500000001 };
    let w := i.word.toNat; let e := i.eng.val;
    let c := s.core e; s.issues i 0x22 = true ∧ fRs1 w = 0 ∧ fImm12 w = 0x041 ∧ c.retCap = none) ∧
    (let i : Issue := is0 (encI 0x22 3 0 0x003); let s : State := eng0 {};
    let w := i.word.toNat; s.issues i 0x22 = true ∧ fImm12 w = 0x003) ∧
    (let i : Issue := csrWr 35 33; let s : State := eng0 (regs 3 0);
    let w := i.word.toNat; s.issues i 0x23 = true ∧ fRd w = 0 ∧ fImm12 w = 0x021) ∧
    (let i : Issue := csrWr 35 32; let s : State := eng0 (regs 3 0);
    let w := i.word.toNat; s.issues i 0x23 = true ∧ fRd w = 0 ∧ fImm12 w = 0x020) ∧
    (let i : Issue := csrWr 35 48; let s : State := eng0 (regs 3 0);
    let w := i.word.toNat; s.issues i 0x23 = true ∧ fRd w = 0 ∧ fImm12 w = 0x030) ∧
    (let i : Issue := csrWr 35 49; let s : State := eng0 (regs 3 0);
    let w := i.word.toNat; s.issues i 0x23 = true ∧ fRd w = 0 ∧ fImm12 w = 0x031) ∧
    (let i : Issue := csrWr 35 35; let s : State := eng0 (regs 3 0);
    let w := i.word.toNat; s.issues i 0x23 = true ∧ fRd w = 0 ∧ fImm12 w = 0x023) ∧
    (let i : Issue := csrWr 36 48; let s : State := eng0 (regs 3 0);
    let w := i.word.toNat; s.issues i 0x24 = true ∧ fRd w = 0 ∧ fImm12 w = 0x030) ∧
    (let i : Issue := csrWr 36 32; let s : State := eng0 (regs 3 0); let w := i.word.toNat; let e := i.eng.val;
    let v := s.gpr e (fRs1 w); s.issues i 0x24 = true ∧ fRd w = 0 ∧ fImm12 w = 0x020 ∧ v.getLsbD 1 = true) ∧
    (let i : Issue := csrWr 37 48; let s : State := eng0 (regs 3 0);
    let w := i.word.toNat; s.issues i 0x25 = true ∧ fRd w = 0 ∧ fImm12 w = 0x030) ∧
    (let i : Issue := csrWr 37 32; let s : State := eng0 (regs 3 0); let w := i.word.toNat; let e := i.eng.val;
    let v := s.gpr e (fRs1 w); s.issues i 0x25 = true ∧ fRd w = 0 ∧ fImm12 w = 0x020 ∧ v.getLsbD 1 = true) ∧
    (let i : Issue := csrWr 37 80; let s : State := eng0 (regs 3 0);
    let w := i.word.toNat; s.issues i 0x25 = true ∧ fRd w = 0 ∧ fImm12 w = 0x050) ∧
    (let i : Issue := csrWr 35 22; let s : State := eng0 (regs 3 0); let w := i.word.toNat; let e := i.eng.val;
    let c := s.core e;
    let v := s.gpr e (fRs1 w); s.issues i 0x23 = true ∧ fRd w = 0 ∧ fImm12 w = 0x016 ∧ c.loops.depth < v.toNat) ∧
    (let i : Issue := csrWr 35 11; let s : State := eng0 (regs 3 0);
    let w := i.word.toNat; s.issues i 0x23 = true ∧ fRd w = 0 ∧ fImm12 w = 0x00B) ∧
    (let i : Issue := csrWr 35 12; let s : State := eng0 (regs 3 0);
    let w := i.word.toNat; s.issues i 0x23 = true ∧ fRd w = 0 ∧ fImm12 w = 0x00C) := by
  refine ⟨?_, ?_, ?_, ?_, ?_, ?_, ?_, ?_, ?_, ?_, ?_, ?_, ?_, ?_, ?_, ?_, ?_⟩ <;> decide

theorem test_hyps_InterruptsAndDebug :
    (let e : Fin 32 := 0;
    let s : State := eng0 { gie := true, ien := 0x80000000, ipend := 0x80000001, rep := some true };
    let b : Nat := 31; s.canExec e = true ∧ s.recovering e = false ∧ (s.eng e).st = .running ∧ (s.core e).gie = true ∧
        (s.core e).exc = false ∧ (s.core e).rep ≠ some false ∧ b < 32 ∧ tst (s.core e).pendEn b = true ∧ (∀ k, k < b →
        tst (s.core e).pendEn k = false)) ∧
    (let e : Fin 32 := 0;
    let s : State := at' (eng0 { timerArmed := true, tcmp := 100 }) 100; s.lead e = e.val ∧ s.takesInput e = true ∧
        (s.core e).timerArmed = true ∧ (s.core e).tcmp.toNat ≤ s.time.t.toNat) ∧
    (let e : Fin 32 := 0;
    let s : State := monoAt (ms 50) (eng0 {}); s.lead e = e.val ∧ s.running = true ∧ s.recovering e = false ∧ (s.eng
        e).st = .running ∧ (s.eng e).wdwSet = false ∧ (s.eng e).wdsAt * 2 + ms (s.watchdogMs e) ≤ s.sys.mono * 2) ∧
    (let e : Fin 32 := 0;
    let s : State := monoAt (ms 50 - 1) (eng0 {}); s.lead e = e.val ∧ s.sys.mono * 2 < (s.eng e).wdsAt * 2 + ms
        (s.watchdogMs e)) ∧
    (let e : Fin 32 := 0; let s : State := eng0 {};
    let g := s.eng e; s.running = true ∧ s.debugOpen = true ∧ s.lead e = e.val ∧ g.st = .running) ∧
    (let e : Fin 32 := 0; let s : State := up.setEng 0 { st := .dbgHalt };
    let g := s.eng e; s.running = true ∧ s.debugOpen = true ∧ s.lead e = e.val ∧ g.st = .dbgHalt) ∧
    (let s : State := { up with sys := { up.sys with lc := .operational } }; s.running = true ∧ s.debugOpen = false)
        := by
  refine ⟨?_, ?_, ?_, ?_, ?_, ?_, ?_⟩ <;> decide

theorem test_hyps_ChiveEnginesAdvanceOrFault :
    (let s : State := chiveAt 3 0 { pc := 46 }; let e : Nat := 3; (s.ce e).pc < 47) ∧
    (let s : State := chiveAt 3 0 { pc := 47 }; let e : Nat := 3; (s.ce e).pc = 47) ∧
    (let s : State := chiveAt 3 0 { prog := 5 }; let e : Nat := 3; (s.ce e).prog ≠ 6) ∧
    (let e : Fin 32 := 31; let s : State := chiveAt 31 0xA00000; s.ceRuns e = true ∧ 10 ≤ s.ceFetch e / 2 ^ 20) := by
  refine ⟨?_, ?_, ?_, ?_⟩ <;> decide

theorem test_hyps_ChiveAluWritesRegister :
    (let e : Fin 32 := 0; let s : State := chiveAt 0 0x0F8001 { g := [(3, 0xABCD1234)] }; s.ceAt e 0 = true) ∧
    (let op : Nat := 0; let src : Bool := true; let imm : Nat := 0; let e : Fin 32 := 0;
    let s : State := chiveAt 0 0x106000 { g := [(1, 0x80000003), (2, 5)], k := 9 };
    let w := s.ceFetch e; s.ceAt e 1 = true ∧ bits (s.ceFetch e) 19 16 = op ∧ (src = true ∨ bits w 13 12 = 0) ∧ bits w
        11 0 ≤ imm) ∧
    (let op : Nat := 0; let imm : Nat := 0; let e : Fin 32 := 0; let s : State := chiveAt 0 0x104001;
    let w := s.ceFetch e; s.ceAt e 1 = true ∧ bits (s.ceFetch e) 19 16 = op ∧ imm < bits w 11 0) ∧
    (let op : Nat := 1; let src : Bool := true; let imm : Nat := 0; let e : Fin 32 := 0;
    let s : State := chiveAt 0 0x116000 { g := [(1, 0x80000003), (2, 5)], k := 9 };
    let w := s.ceFetch e; s.ceAt e 1 = true ∧ bits (s.ceFetch e) 19 16 = op ∧ (src = true ∨ bits w 13 12 = 0) ∧ bits w
        11 0 ≤ imm) ∧
    (let op : Nat := 1; let imm : Nat := 0; let e : Fin 32 := 0; let s : State := chiveAt 0 0x114001;
    let w := s.ceFetch e; s.ceAt e 1 = true ∧ bits (s.ceFetch e) 19 16 = op ∧ imm < bits w 11 0) ∧
    (let op : Nat := 2; let src : Bool := false; let imm : Nat := 4095; let e : Fin 32 := 0;
    let s : State := chiveAt 0 0x124fff { g := [(1, 0x80000003), (2, 5)], k := 9 };
    let w := s.ceFetch e; s.ceAt e 1 = true ∧ bits (s.ceFetch e) 19 16 = op ∧ (src = true ∨ bits w 13 12 = 0) ∧ bits w
        11 0 ≤ imm) ∧
    (let op : Nat := 2; let src : Bool := false; let e : Fin 32 := 0; let s : State := chiveAt 0 0x125000;
    let w := s.ceFetch e; s.ceAt e 1 = true ∧ bits (s.ceFetch e) 19 16 = op ∧ src = false ∧ bits w 13 12 ≠ 0) ∧
    (let op : Nat := 3; let src : Bool := false; let imm : Nat := 4095; let e : Fin 32 := 0;
    let s : State := chiveAt 0 0x134fff { g := [(1, 0x80000003), (2, 5)], k := 9 };
    let w := s.ceFetch e; s.ceAt e 1 = true ∧ bits (s.ceFetch e) 19 16 = op ∧ (src = true ∨ bits w 13 12 = 0) ∧ bits w
        11 0 ≤ imm) ∧
    (let op : Nat := 3; let src : Bool := false; let e : Fin 32 := 0; let s : State := chiveAt 0 0x135000;
    let w := s.ceFetch e; s.ceAt e 1 = true ∧ bits (s.ceFetch e) 19 16 = op ∧ src = false ∧ bits w 13 12 ≠ 0) ∧
    (let op : Nat := 4; let src : Bool := true; let imm : Nat := 0; let e : Fin 32 := 0;
    let s : State := chiveAt 0 0x146000 { g := [(1, 0x80000003), (2, 5)], k := 9 };
    let w := s.ceFetch e; s.ceAt e 1 = true ∧ bits (s.ceFetch e) 19 16 = op ∧ (src = true ∨ bits w 13 12 = 0) ∧ bits w
        11 0 ≤ imm) ∧
    (let op : Nat := 4; let imm : Nat := 0; let e : Fin 32 := 0; let s : State := chiveAt 0 0x144001;
    let w := s.ceFetch e; s.ceAt e 1 = true ∧ bits (s.ceFetch e) 19 16 = op ∧ imm < bits w 11 0) ∧
    (let op : Nat := 5; let src : Bool := true; let imm : Nat := 0; let e : Fin 32 := 0;
    let s : State := chiveAt 0 0x156000 { g := [(1, 0x80000003), (2, 5)], k := 9 };
    let w := s.ceFetch e; s.ceAt e 1 = true ∧ bits (s.ceFetch e) 19 16 = op ∧ (src = true ∨ bits w 13 12 = 0) ∧ bits w
        11 0 ≤ imm) ∧
    (let op : Nat := 5; let imm : Nat := 0; let e : Fin 32 := 0; let s : State := chiveAt 0 0x154001;
    let w := s.ceFetch e; s.ceAt e 1 = true ∧ bits (s.ceFetch e) 19 16 = op ∧ imm < bits w 11 0) ∧
    (let op : Nat := 6; let src : Bool := true; let imm : Nat := 0; let e : Fin 32 := 0;
    let s : State := chiveAt 0 0x166000 { g := [(1, 0x80000003), (2, 5)], k := 9 };
    let w := s.ceFetch e; s.ceAt e 1 = true ∧ bits (s.ceFetch e) 19 16 = op ∧ (src = true ∨ bits w 13 12 = 0) ∧ bits w
        11 0 ≤ imm) ∧
    (let op : Nat := 6; let imm : Nat := 0; let e : Fin 32 := 0; let s : State := chiveAt 0 0x164001;
    let w := s.ceFetch e; s.ceAt e 1 = true ∧ bits (s.ceFetch e) 19 16 = op ∧ imm < bits w 11 0) ∧
    (let op : Nat := 7; let src : Bool := true; let imm : Nat := 0; let e : Fin 32 := 0;
    let s : State := chiveAt 0 0x176000 { g := [(1, 0x80000003), (2, 5)], k := 9 };
    let w := s.ceFetch e; s.ceAt e 1 = true ∧ bits (s.ceFetch e) 19 16 = op ∧ (src = true ∨ bits w 13 12 = 0) ∧ bits w
        11 0 ≤ imm) ∧
    (let op : Nat := 7; let imm : Nat := 0; let e : Fin 32 := 0; let s : State := chiveAt 0 0x174001;
    let w := s.ceFetch e; s.ceAt e 1 = true ∧ bits (s.ceFetch e) 19 16 = op ∧ imm < bits w 11 0) ∧
    (let op : Nat := 8; let src : Bool := false; let imm : Nat := 31; let e : Fin 32 := 0;
    let s : State := chiveAt 0 0x18401f { g := [(1, 0x80000003), (2, 5)], k := 9 };
    let w := s.ceFetch e; s.ceAt e 1 = true ∧ bits (s.ceFetch e) 19 16 = op ∧ (src = true ∨ bits w 13 12 = 0) ∧ bits w
        11 0 ≤ imm) ∧
    (let op : Nat := 8; let src : Bool := false; let e : Fin 32 := 0; let s : State := chiveAt 0 0x185000;
    let w := s.ceFetch e; s.ceAt e 1 = true ∧ bits (s.ceFetch e) 19 16 = op ∧ src = false ∧ bits w 13 12 ≠ 0) ∧
    (let op : Nat := 8; let imm : Nat := 31; let e : Fin 32 := 0; let s : State := chiveAt 0 0x184020;
    let w := s.ceFetch e; s.ceAt e 1 = true ∧ bits (s.ceFetch e) 19 16 = op ∧ imm < bits w 11 0) ∧
    (let op : Nat := 9; let src : Bool := false; let imm : Nat := 31; let e : Fin 32 := 0;
    let s : State := chiveAt 0 0x19401f { g := [(1, 0x80000003), (2, 5)], k := 9 };
    let w := s.ceFetch e; s.ceAt e 1 = true ∧ bits (s.ceFetch e) 19 16 = op ∧ (src = true ∨ bits w 13 12 = 0) ∧ bits w
        11 0 ≤ imm) ∧
    (let op : Nat := 9; let src : Bool := false; let e : Fin 32 := 0; let s : State := chiveAt 0 0x195000;
    let w := s.ceFetch e; s.ceAt e 1 = true ∧ bits (s.ceFetch e) 19 16 = op ∧ src = false ∧ bits w 13 12 ≠ 0) ∧
    (let op : Nat := 9; let imm : Nat := 31; let e : Fin 32 := 0; let s : State := chiveAt 0 0x194020;
    let w := s.ceFetch e; s.ceAt e 1 = true ∧ bits (s.ceFetch e) 19 16 = op ∧ imm < bits w 11 0) ∧
    (let op : Nat := 10; let src : Bool := false; let imm : Nat := 4095; let e : Fin 32 := 0;
    let s : State := chiveAt 0 0x1a4fff { g := [(1, 0x80000003), (2, 5)], k := 9 };
    let w := s.ceFetch e; s.ceAt e 1 = true ∧ bits (s.ceFetch e) 19 16 = op ∧ (src = true ∨ bits w 13 12 = 0) ∧ bits w
        11 0 ≤ imm) ∧
    (let op : Nat := 10; let src : Bool := false; let e : Fin 32 := 0; let s : State := chiveAt 0 0x1a5000;
    let w := s.ceFetch e; s.ceAt e 1 = true ∧ bits (s.ceFetch e) 19 16 = op ∧ src = false ∧ bits w 13 12 ≠ 0) ∧
    (let op : Nat := 11; let src : Bool := false; let imm : Nat := 0; let e : Fin 32 := 0;
    let s : State := chiveAt 0 0x1b4000 { g := [(1, 0x80000003), (2, 5)], k := 9 };
    let w := s.ceFetch e; s.ceAt e 1 = true ∧ bits (s.ceFetch e) 19 16 = op ∧ (src = true ∨ bits w 13 12 = 0) ∧ bits w
        11 0 ≤ imm) ∧
    (let op : Nat := 11; let src : Bool := false; let e : Fin 32 := 0; let s : State := chiveAt 0 0x1b5000;
    let w := s.ceFetch e; s.ceAt e 1 = true ∧ bits (s.ceFetch e) 19 16 = op ∧ src = false ∧ bits w 13 12 ≠ 0) ∧
    (let op : Nat := 11; let imm : Nat := 0; let e : Fin 32 := 0; let s : State := chiveAt 0 0x1b4001;
    let w := s.ceFetch e; s.ceAt e 1 = true ∧ bits (s.ceFetch e) 19 16 = op ∧ imm < bits w 11 0) ∧
    (let op : Nat := 13; let src : Bool := false; let imm : Nat := 4095; let e : Fin 32 := 0;
    let s : State := chiveAt 0 0x1d4fff { g := [(1, 0x80000003), (2, 5)], k := 9 };
    let w := s.ceFetch e; s.ceAt e 1 = true ∧ bits (s.ceFetch e) 19 16 = op ∧ (src = true ∨ bits w 13 12 = 0) ∧ bits w
        11 0 ≤ imm) ∧
    (let op : Nat := 13; let src : Bool := false; let e : Fin 32 := 0; let s : State := chiveAt 0 0x1d5000;
    let w := s.ceFetch e; s.ceAt e 1 = true ∧ bits (s.ceFetch e) 19 16 = op ∧ src = false ∧ bits w 13 12 ≠ 0) := by
  refine ⟨?_, ?_, ?_, ?_, ?_, ?_, ?_, ?_, ?_, ?_, ?_, ?_, ?_, ?_, ?_, ?_, ?_, ?_, ?_, ?_, ?_, ?_, ?_, ?_, ?_, ?_, ?_,
        ?_, ?_, ?_⟩ <;> decide

theorem test_hyps_ChiveDriveSetsPins :
    (let e : Fin 32 := 0;
    let s : State := chiveAt 0 0x201200 { po := 3 }; s.ceAt e 2 = true ∧ (bits (s.ceFetch e) 8 0 = 0 ∧ (
    let w := s.ceFetch e; let x := s.ce e; let po := x.po.toNat;
    let i := bits w 13 10; bits w 19 18 = 0 ∧ (i < 8 ∧ (i + po < 8 ∧ (
    let timed : Bool := (tst w 17); timed = false)))))) ∧
    (let e : Fin 32 := 0;
    let s : State := chiveAt 0 0x221200 { po := 3, timed := held }; s.ceAt e 2 = true ∧ (bits (s.ceFetch e) 8 0 = 0 ∧
        (
    let w := s.ceFetch e; let x := s.ce e; let po := x.po.toNat;
    let i := bits w 13 10; bits w 19 18 = 0 ∧ (i < 8 ∧ (i + po < 8 ∧ (let timed : Bool := (tst w 17);
    let x := s.ce e; timed = true ∧ (x.timed ≠ none))))))) ∧
    (let e : Fin 32 := 0;
    let s : State := at' (chiveAt 0 0x221200 { po := 3, t := 7 }) 7; s.ceAt e 2 = true ∧ (bits (s.ceFetch e) 8 0 = 0 ∧
        (
    let w := s.ceFetch e; let x := s.ce e; let po := x.po.toNat;
    let i := bits w 13 10; bits w 19 18 = 0 ∧ (i < 8 ∧ (i + po < 8 ∧ (let timed : Bool := (tst w 17);
    let x := s.ce e;
    let due := 0 ≤ (s.time.t.setWidth 32 - x.t).toInt; timed = true ∧ (x.timed = none ∧ (due)))))))) ∧
    (let e : Fin 32 := 0;
    let s : State := at' (chiveAt 0 0x221200 { po := 3, t := 8 }) 7; s.ceAt e 2 = true ∧ (bits (s.ceFetch e) 8 0 = 0 ∧
        (
    let w := s.ceFetch e; let x := s.ce e; let po := x.po.toNat;
    let i := bits w 13 10; bits w 19 18 = 0 ∧ (i < 8 ∧ (i + po < 8 ∧ (let timed : Bool := (tst w 17);
    let x := s.ce e;
    let due := 0 ≤ (s.time.t.setWidth 32 - x.t).toInt; timed = true ∧ (x.timed = none ∧ (¬ due)))))))) ∧
    (let e : Fin 32 := 0; let s : State := chiveAt 0 0x201c00 { po := 1 }; let w := s.ceFetch e; let x := s.ce e;
    let po := x.po.toNat;
    let i := bits w 13 10; s.ceAt e 2 = true ∧ bits (s.ceFetch e) 8 0 = 0 ∧ bits w 19 18 = 0 ∧ i < 8 ∧ 8 ≤ i + po) ∧
    (let e : Fin 32 := 28;
    let s : State := chiveAt 28 0x202600 {}; s.ceAt e 2 = true ∧ (bits (s.ceFetch e) 8 0 = 0 ∧ (
    let w := s.ceFetch e; let i := bits w 13 10; bits w 19 18 = 0 ∧ (e.val / 4 = 7 ∧ (i = 9 ∧ (
    let timed : Bool := (tst w 17); timed = false)))))) ∧
    (let e : Fin 32 := 28;
    let s : State := chiveAt 28 0x222600 { timed := held }; s.ceAt e 2 = true ∧ (bits (s.ceFetch e) 8 0 = 0 ∧ (
    let w := s.ceFetch e; let x := s.ce e; let i := bits w 13 10; bits w 19 18 = 0 ∧ (e.val / 4 = 7 ∧ (i = 9 ∧ (
    let timed : Bool := (tst w 17); let x := s.ce e; timed = true ∧ (x.timed ≠ none))))))) ∧
    (let e : Fin 32 := 28;
    let s : State := at' (chiveAt 28 0x222600 { t := 7 }) 7; s.ceAt e 2 = true ∧ (bits (s.ceFetch e) 8 0 = 0 ∧ (
    let w := s.ceFetch e; let x := s.ce e; let i := bits w 13 10; bits w 19 18 = 0 ∧ (e.val / 4 = 7 ∧ (i = 9 ∧ (
    let timed : Bool := (tst w 17); let x := s.ce e;
    let due := 0 ≤ (s.time.t.setWidth 32 - x.t).toInt; timed = true ∧ (x.timed = none ∧ (due)))))))) ∧
    (let e : Fin 32 := 28;
    let s : State := at' (chiveAt 28 0x222600 { t := 8 }) 7; s.ceAt e 2 = true ∧ (bits (s.ceFetch e) 8 0 = 0 ∧ (
    let w := s.ceFetch e; let x := s.ce e; let i := bits w 13 10; bits w 19 18 = 0 ∧ (e.val / 4 = 7 ∧ (i = 9 ∧ (
    let timed : Bool := (tst w 17); let x := s.ce e;
    let due := 0 ≤ (s.time.t.setWidth 32 - x.t).toInt; timed = true ∧ (x.timed = none ∧ (¬ due)))))))) ∧
    (let e : Fin 32 := 5;
    let s : State := chiveAt 5 0x241e00 {}; s.ceAt e 2 = true ∧ (bits (s.ceFetch e) 8 0 = 0 ∧ (
    let w := s.ceFetch e; let x := s.ce e; let po := x.po.toNat;
    let i := bits w 13 10; bits w 19 18 = 1 ∧ (i < 8 ∧ (i + po < 8 ∧ (
    let timed : Bool := (tst w 17); timed = false)))))) ∧
    (let e : Fin 32 := 5;
    let s : State := chiveAt 5 0x261e00 { timed := held }; s.ceAt e 2 = true ∧ (bits (s.ceFetch e) 8 0 = 0 ∧ (
    let w := s.ceFetch e; let x := s.ce e; let po := x.po.toNat;
    let i := bits w 13 10; bits w 19 18 = 1 ∧ (i < 8 ∧ (i + po < 8 ∧ (let timed : Bool := (tst w 17);
    let x := s.ce e; timed = true ∧ (x.timed ≠ none))))))) ∧
    (let e : Fin 32 := 5;
    let s : State := at' (chiveAt 5 0x261e00 { t := 7 }) 7; s.ceAt e 2 = true ∧ (bits (s.ceFetch e) 8 0 = 0 ∧ (
    let w := s.ceFetch e; let x := s.ce e; let po := x.po.toNat;
    let i := bits w 13 10; bits w 19 18 = 1 ∧ (i < 8 ∧ (i + po < 8 ∧ (let timed : Bool := (tst w 17);
    let x := s.ce e;
    let due := 0 ≤ (s.time.t.setWidth 32 - x.t).toInt; timed = true ∧ (x.timed = none ∧ (due)))))))) ∧
    (let e : Fin 32 := 5;
    let s : State := at' (chiveAt 5 0x261e00 { t := 8 }) 7; s.ceAt e 2 = true ∧ (bits (s.ceFetch e) 8 0 = 0 ∧ (
    let w := s.ceFetch e; let x := s.ce e; let po := x.po.toNat;
    let i := bits w 13 10; bits w 19 18 = 1 ∧ (i < 8 ∧ (i + po < 8 ∧ (let timed : Bool := (tst w 17);
    let x := s.ce e;
    let due := 0 ≤ (s.time.t.setWidth 32 - x.t).toInt; timed = true ∧ (x.timed = none ∧ (¬ due)))))))) ∧
    (let e : Fin 32 := 5; let s : State := chiveAt 5 0x241000 { po := 4 }; let w := s.ceFetch e; let x := s.ce e;
    let po := x.po.toNat;
    let i := bits w 13 10; s.ceAt e 2 = true ∧ bits (s.ceFetch e) 8 0 = 0 ∧ bits w 19 18 = 1 ∧ i < 8 ∧ 8 ≤ i + po) ∧
    (let e : Fin 32 := 31;
    let s : State := chiveAt 31 0x280200 {}; s.ceAt e 2 = true ∧ (bits (s.ceFetch e) 8 0 = 0 ∧ (
    let w := s.ceFetch e; let i := bits w 13 10; bits w 19 18 = 2 ∧ (e.val / 4 = 7 ∧ (i = 0 ∧ (
    let timed : Bool := (tst w 17); timed = false)))))) ∧
    (let e : Fin 32 := 31;
    let s : State := chiveAt 31 0x2a0200 { timed := held }; s.ceAt e 2 = true ∧ (bits (s.ceFetch e) 8 0 = 0 ∧ (
    let w := s.ceFetch e; let x := s.ce e; let i := bits w 13 10; bits w 19 18 = 2 ∧ (e.val / 4 = 7 ∧ (i = 0 ∧ (
    let timed : Bool := (tst w 17); let x := s.ce e; timed = true ∧ (x.timed ≠ none))))))) ∧
    (let e : Fin 32 := 31;
    let s : State := at' (chiveAt 31 0x2a0200 { t := 7 }) 7; s.ceAt e 2 = true ∧ (bits (s.ceFetch e) 8 0 = 0 ∧ (
    let w := s.ceFetch e; let x := s.ce e; let i := bits w 13 10; bits w 19 18 = 2 ∧ (e.val / 4 = 7 ∧ (i = 0 ∧ (
    let timed : Bool := (tst w 17); let x := s.ce e;
    let due := 0 ≤ (s.time.t.setWidth 32 - x.t).toInt; timed = true ∧ (x.timed = none ∧ (due)))))))) ∧
    (let e : Fin 32 := 31;
    let s : State := at' (chiveAt 31 0x2a0200 { t := 8 }) 7; s.ceAt e 2 = true ∧ (bits (s.ceFetch e) 8 0 = 0 ∧ (
    let w := s.ceFetch e; let x := s.ce e; let i := bits w 13 10; bits w 19 18 = 2 ∧ (e.val / 4 = 7 ∧ (i = 0 ∧ (
    let timed : Bool := (tst w 17); let x := s.ce e;
    let due := 0 ≤ (s.time.t.setWidth 32 - x.t).toInt; timed = true ∧ (x.timed = none ∧ (¬ due)))))))) ∧
    (let e : Fin 32 := 27; let s : State := chiveAt 27 0x280000;
    let w := s.ceFetch e; s.ceAt e 2 = true ∧ bits (s.ceFetch e) 8 0 = 0 ∧ bits w 19 18 = 2 ∧ e.val / 4 ≠ 7) ∧
    (let e : Fin 32 := 4;
    let s : State := chiveAt 4 0x2d4000 { g := [(1, 0x107)] }; s.ceAt e 2 = true ∧ (bits (s.ceFetch e) 8 0 = 0 ∧ (
    let w := s.ceFetch e; let x := s.ce e; let po := x.po.toNat; let r := x.r (bits w 15 14);
    let j := r.toNat % 16 + po; bits w 19 18 = 3 ∧ (bits w 13 9 = 0 ∧ (tst w 16 = true ∧ (j < 8 ∧ (x.prog ≠ 8 ∧ (
    let timed : Bool := (tst w 17); timed = false)))))))) ∧
    (let e : Fin 32 := 4;
    let s : State := chiveAt 4 0x2f4000 { g := [(1, 0x107)], timed := held }; s.ceAt e 2 = true ∧ (bits (s.ceFetch e)
        8 0 = 0 ∧ (
    let w := s.ceFetch e; let x := s.ce e; let po := x.po.toNat; let r := x.r (bits w 15 14);
    let j := r.toNat % 16 + po; bits w 19 18 = 3 ∧ (bits w 13 9 = 0 ∧ (tst w 16 = true ∧ (j < 8 ∧ (x.prog ≠ 8 ∧ (
    let timed : Bool := (tst w 17); let x := s.ce e; timed = true ∧ (x.timed ≠ none))))))))) ∧
    (let e : Fin 32 := 4;
    let s : State := at' (chiveAt 4 0x2f4000 { g := [(1, 0x107)], t := 7 }) 7; s.ceAt e 2 = true ∧ (bits (s.ceFetch e)
        8 0 = 0 ∧ (
    let w := s.ceFetch e; let x := s.ce e; let po := x.po.toNat; let r := x.r (bits w 15 14);
    let j := r.toNat % 16 + po; bits w 19 18 = 3 ∧ (bits w 13 9 = 0 ∧ (tst w 16 = true ∧ (j < 8 ∧ (x.prog ≠ 8 ∧ (
    let timed : Bool := (tst w 17); let x := s.ce e;
    let due := 0 ≤ (s.time.t.setWidth 32 - x.t).toInt; timed = true ∧ (x.timed = none ∧ (due)))))))))) ∧
    (let e : Fin 32 := 4;
    let s : State := at' (chiveAt 4 0x2f4000 { g := [(1, 0x107)], t := 8 }) 7; s.ceAt e 2 = true ∧ (bits (s.ceFetch e)
        8 0 = 0 ∧ (
    let w := s.ceFetch e; let x := s.ce e; let po := x.po.toNat; let r := x.r (bits w 15 14);
    let j := r.toNat % 16 + po; bits w 19 18 = 3 ∧ (bits w 13 9 = 0 ∧ (tst w 16 = true ∧ (j < 8 ∧ (x.prog ≠ 8 ∧ (
    let timed : Bool := (tst w 17); let x := s.ce e;
    let due := 0 ≤ (s.time.t.setWidth 32 - x.t).toInt; timed = true ∧ (x.timed = none ∧ (¬ due)))))))))) ∧
    (let e : Fin 32 := 4; let s : State := chiveAt 4 0x2d4000 { g := [(1, 7)], po := 1 }; let w := s.ceFetch e;
    let x := s.ce e; let po := x.po.toNat; let r := x.r (bits w 15 14);
    let j := r.toNat % 16 + po; s.ceAt e 2 = true ∧ bits (s.ceFetch e) 8 0 = 0 ∧ bits w 19 18 = 3 ∧ bits w 13 9 = 0 ∧
        tst w 16 = true ∧ 8 ≤ j) := by
  refine ⟨?_, ?_, ?_, ?_, ?_, ?_, ?_, ?_, ?_, ?_, ?_, ?_, ?_, ?_, ?_, ?_, ?_, ?_, ?_, ?_, ?_, ?_, ?_, ?_⟩ <;> decide

theorem test_hyps_ChiveSenseAndTime :
    (let e : Fin 32 := 4; let s : State := (chiveAt 4 0x317000 { g := [(1, 3)] }).setCpin 15 { raw := true };
    let w := s.ceFetch e; let x := s.ce e; let i := bits w 15 12;
    let sense := s.ceAt e 3 = true ∧ bits w 11 0 = 0; sense ∧ bits w 19 18 = 0 ∧ i + x.po.toNat < 8) ∧
    (let e : Fin 32 := 4; let s : State := (chiveAt 4 0x356000 { po := 1 }).setCpin 15 { raw := true };
    let w := s.ceFetch e; let x := s.ce e; let i := bits w 15 12;
    let sense := s.ceAt e 3 = true ∧ bits w 11 0 = 0; sense ∧ bits w 19 18 = 1 ∧ i + x.po.toNat < 8) ∧
    (let e : Fin 32 := 27; let s : State := (chiveAt 27 0x390000).setCpin 48 { raw := true }; let w := s.ceFetch e;
    let i := bits w 15 12;
    let sense := s.ceAt e 3 = true ∧ bits w 11 0 = 0; sense ∧ bits w 19 18 = 2 ∧ i = 0 ∧ e.val / 4 ≠ 7) ∧
    (let e : Fin 32 := 27; let s : State := chiveAt 27 0x3C0000;
    let w := s.ceFetch e; s.ceAt e 3 = true ∧ bits w 19 18 = 3) ∧
    (let e : Fin 32 := 0; let s : State := chiveAt 0 0x408000 { t := 0xFFFFFFFF, g := [(1, 2)] };
    let w := s.ceFetch e;
    let time := fun k => s.ceAt e 4 = true ∧ bits w 19 17 = k ∧ bits w 14 12 = 0 ∧ (k ≠ 1 → bits w 11 0 = 0); time 0)
        ∧
    (let e : Fin 32 := 0; let s : State := at' (chiveAt 0 0x420FFF) 0x1FFFFFFFF; let w := s.ceFetch e;
    let r := bits w 16 15;
    let time := fun k => s.ceAt e 4 = true ∧ bits w 19 17 = k ∧ bits w 14 12 = 0 ∧ (k ≠ 1 → bits w 11 0 = 0); time 1 ∧
        r = 0) ∧
    (let e : Fin 32 := 0; let s : State := chiveAt 0 0x448000 { e := 0x1FFFFFFFF, g := [(1, 2)] };
    let w := s.ceFetch e;
    let time := fun k => s.ceAt e 4 = true ∧ bits w 19 17 = k ∧ bits w 14 12 = 0 ∧ (k ≠ 1 → bits w 11 0 = 0); time 2)
        ∧
    (let e : Fin 32 := 0; let s : State := chiveAt 0 0x468000 { t := 6 }; let w := s.ceFetch e;
    let time := fun k => s.ceAt e 4 = true ∧ bits w 19 17 = k ∧ bits w 14 12 = 0 ∧ (k ≠ 1 → bits w 11 0 = 0); time 3)
        ∧
    (let e : Fin 32 := 0; let s : State := chiveAt 0 0x488000 { g := [(1, 2)] }; let w := s.ceFetch e;
    let time := fun k => s.ceAt e 4 = true ∧ bits w 19 17 = k ∧ bits w 14 12 = 0 ∧ (k ≠ 1 → bits w 11 0 = 0); time 4)
        ∧
    (let e : Fin 32 := 0; let s : State := chiveAt 0 0x4A0000;
    let w := s.ceFetch e; s.ceAt e 4 = true ∧ 5 ≤ bits w 19 17) := by
  refine ⟨?_, ?_, ?_, ?_, ?_, ?_, ?_, ?_, ?_, ?_⟩ <;> decide

theorem test_hyps_ChiveAwaitsItsCondition :
    (let e : Fin 32 := 0; let s : State := at' (chiveAt 0 0x500000 { t := 7 }) 7; let w := s.ceFetch e;
    let x := s.ce e; let i := bits w 15 12; let pol := tst w 11;
    let holds : Prop := (0 ≤ (s.time.t.setWidth 32 - x.t).toInt); s.ceAt e 5 = true ∧ bits (s.ceFetch e) 10 8 = 0 ∧
        bits w 19 16 = 0 ∧ i = 0 ∧ pol = false ∧ bits w 7 0 = 0 ∧ holds) ∧
    (let e : Fin 32 := 0; let s : State := at' (chiveAt 0 0x500000 { t := 8 }) 7; let w := s.ceFetch e;
    let x := s.ce e; let i := bits w 15 12; let pol := tst w 11;
    let holds : Prop := (0 ≤ (s.time.t.setWidth 32 - x.t).toInt); s.ceAt e 5 = true ∧ bits (s.ceFetch e) 10 8 = 0 ∧
        bits w 19 16 = 0 ∧ i = 0 ∧ pol = false ∧ bits w 7 0 = 0 ∧ ¬ holds) ∧
    (let e : Fin 32 := 0; let s : State := (chiveAt 0 0x517800).setCpin 7 { raw := true }; let w := s.ceFetch e;
    let x := s.ce e; let i := bits w 15 12; let pol := tst w 11;
    let p := s.cpin (8 * (e.val / 4) + i + x.po.toNat); let pinOk := bits w 7 0 = 0 ∧ i < 8 ∧ i + x.po.toNat < 8;
    let holds : Prop := (p.raw = pol); s.ceAt e 5 = true ∧ bits (s.ceFetch e) 10 8 = 0 ∧ bits w 19 16 = 1 ∧ pinOk ∧
        holds) ∧
    (let e : Fin 32 := 0; let s : State := chiveAt 0 0x517800; let w := s.ceFetch e; let x := s.ce e;
    let i := bits w 15 12; let pol := tst w 11; let p := s.cpin (8 * (e.val / 4) + i + x.po.toNat);
    let pinOk := bits w 7 0 = 0 ∧ i < 8 ∧ i + x.po.toNat < 8;
    let holds : Prop := (p.raw = pol); s.ceAt e 5 = true ∧ bits (s.ceFetch e) 10 8 = 0 ∧ bits w 19 16 = 1 ∧ pinOk ∧ ¬
        holds) ∧
    (let e : Fin 32 := 0; let s : State := (chiveAt 0 0x527800).setCpin 7 { riseLatch := true };
    let w := s.ceFetch e; let x := s.ce e; let i := bits w 15 12; let pol := tst w 11;
    let p := s.cpin (8 * (e.val / 4) + i + x.po.toNat); let pinOk := bits w 7 0 = 0 ∧ i < 8 ∧ i + x.po.toNat < 8;
    let holds : Prop := ((if pol then p.riseLatch else p.fallLatch) = true); s.ceAt e 5 = true ∧ bits (s.ceFetch e) 10
        8 = 0 ∧ bits w 19 16 = 2 ∧ pinOk ∧ holds) ∧
    (let e : Fin 32 := 0; let s : State := (chiveAt 0 0x527000).setCpin 7 { riseLatch := true };
    let w := s.ceFetch e; let x := s.ce e; let i := bits w 15 12; let pol := tst w 11;
    let p := s.cpin (8 * (e.val / 4) + i + x.po.toNat); let pinOk := bits w 7 0 = 0 ∧ i < 8 ∧ i + x.po.toNat < 8;
    let holds : Prop := ((if pol then p.riseLatch else p.fallLatch) = true); s.ceAt e 5 = true ∧ bits (s.ceFetch e) 10
        8 = 0 ∧ bits w 19 16 = 2 ∧ pinOk ∧ ¬ holds) ∧
    (let e : Fin 32 := 0; let s : State := chiveAt 0 0x537800 {} { flags := 0x81 }; let w := s.ceFetch e;
    let g := s.grp (e.val / 4); let i := bits w 15 12;
    let holds : Prop := (g.flags.getLsbD i = true); s.ceAt e 5 = true ∧ bits (s.ceFetch e) 10 8 = 0 ∧ bits w 19 16 = 3
        ∧ bits w 7 0 = 0 ∧ i < 8 ∧ holds) ∧
    (let e : Fin 32 := 0; let s : State := chiveAt 0 0x537800 {} { flags := 0x7F }; let w := s.ceFetch e;
    let g := s.grp (e.val / 4); let i := bits w 15 12;
    let holds : Prop := (g.flags.getLsbD i = true); s.ceAt e 5 = true ∧ bits (s.ceFetch e) 10 8 = 0 ∧ bits w 19 16 = 3
        ∧ bits w 7 0 = 0 ∧ i < 8 ∧ ¬ holds) ∧
    (let e : Fin 32 := 0; let s : State := chiveAt 0 0x540800 { insts := [(false, 1), (true, 2)] };
    let w := s.ceFetch e; let x := s.ce e; let i := bits w 15 12; let pol := tst w 11;
    let h := ((true, 2) : Bool × DWord);
    let rest := ([(false, 1)] : List (Bool × DWord)); s.ceAt e 5 = true ∧ bits (s.ceFetch e) 10 8 = 0 ∧ bits w 19 16 =
        4 ∧ i = 0 ∧ bits w 7 0 = 0 ∧ takeFirst (fun q : Bool × DWord => q.1 == pol) x.insts = some (h, rest)) ∧
    (let e : Fin 32 := 0; let s : State := chiveAt 0 0x540800 { insts := [(false, 1)] }; let w := s.ceFetch e;
    let x := s.ce e; let i := bits w 15 12;
    let pol := tst w 11; s.ceAt e 5 = true ∧ bits (s.ceFetch e) 10 8 = 0 ∧ bits w 19 16 = 4 ∧ i = 0 ∧ bits w 7 0 = 0 ∧
        takeFirst (fun q : Bool × DWord => q.1 == pol) x.insts = none) ∧
    (let e : Fin 32 := 4;
    let s : State := chiveAt 4 0x550080 {}
        { queue := [{ pin := 8, level := true, stamp := 1 }, { pin := 15, level := true, stamp := 2 }] };
    let w := s.ceFetch e; let g := s.grp (e.val / 4); let i := bits w 15 12; let pol := tst w 11;
    let h := ({ pin := 15, level := true, stamp := 2 } : CeChange);
    let rest := ([{ pin := 8, level := true, stamp := 1 }] : List CeChange); s.ceAt e 5 = true ∧ bits (s.ceFetch e) 10
        8 = 0 ∧ bits w 19 16 = 5 ∧ i = 0 ∧ pol = false ∧ takeFirst (fun q : CeChange => tst (bits w 7 0) (q.pin % 8))
        g.queue = some (h, rest)) ∧
    (let e : Fin 32 := 4;
    let s : State := chiveAt 4 0x550080 {} { queue := [{ pin := 8, level := true, stamp := 1 }] };
    let w := s.ceFetch e; let g := s.grp (e.val / 4); let i := bits w 15 12;
    let pol := tst w 11; s.ceAt e 5 = true ∧ bits (s.ceFetch e) 10 8 = 0 ∧ bits w 19 16 = 5 ∧ i = 0 ∧ pol = false ∧
        takeFirst (fun q : CeChange => tst (bits w 7 0) (q.pin % 8)) g.queue = none) ∧
    (let e : Fin 32 := 0; let s : State := chiveAt 0 0x560000 { outF := [1] }; let w := s.ceFetch e;
    let x := s.ce e; let i := bits w 15 12; let pol := tst w 11;
    let holds : Prop := (x.outF ≠ []); s.ceAt e 5 = true ∧ bits (s.ceFetch e) 10 8 = 0 ∧ bits w 19 16 = 6 ∧ i = 0 ∧
        pol = false ∧ bits w 7 0 = 0 ∧ holds) ∧
    (let e : Fin 32 := 0; let s : State := chiveAt 0 0x560000; let w := s.ceFetch e; let x := s.ce e;
    let i := bits w 15 12; let pol := tst w 11;
    let holds : Prop := (x.outF ≠ []); s.ceAt e 5 = true ∧ bits (s.ceFetch e) 10 8 = 0 ∧ bits w 19 16 = 6 ∧ i = 0 ∧
        pol = false ∧ bits w 7 0 = 0 ∧ ¬ holds) ∧
    (let e : Fin 32 := 0; let s : State := chiveAt 0 0x570000;
    let w := s.ceFetch e; s.ceAt e 5 = true ∧ bits (s.ceFetch e) 10 8 = 0 ∧ 7 ≤ bits w 19 16) := by
  refine ⟨?_, ?_, ?_, ?_, ?_, ?_, ?_, ?_, ?_, ?_, ?_, ?_, ?_, ?_, ?_⟩ <;> decide

/-! ### Chive flow, FIFOs, lines and restarts; requests of the host -/

/-- A request of the host whose bulk area holds `bulk`. -/
def hreq (body : List Word) : Req := { src := 32, tag := 0x5A, body := body }
def ereq (body : List Word) : Req := { src := 0, tag := 0x5A, body := body }
def bulk (s : State) (bs : List Byte) : State :=
  { s with mem := { s.mem with svc := Mem.writeBytes 0 s.mem.svc 0x4000 bs } }

/-- A program of one word at the end of the bank. -/
def prog1 : List Byte :=
  [47] ++ List.replicate 15 0 ++ ([0xFF] ++ List.replicate 15 0) ++ ([0xFF] ++ List.replicate 15 0) ++
  ([0xFF] ++ List.replicate 15 0) ++ [47, 1, 0, 0, 0, 0, 0, 0, 1, 2, 3, 0]
def full8 : List CeIn := List.replicate 8 { word := 1, e := 0, eid := 0 }
/-- Line 15 without parity, of idle_bits 1, served by engine 3. -/
def lined (w : Word) (l : Line := {}) : State :=
  withRecs ((up.setCe 3 { prog := 5, line := 15, inF := [{ word := w, e := 3, eid := 0 }] }).setLine 15 l) [rcd 0x0806 15 [0, 0, 0, 0, 0, 0, 0, 0, 0, 0, 0, 0, 1]]

def ppsOut (st : ServoState) (up_ : DWord := 0) : State :=
  withRecs { (chiveAt 28 0 { prog := 2 }) with time := { up.time with st := st, ppsUp := up_ } }
    [rcd 0x0401 0 [0, 0, 0, 0, 0, 0, 0, 1]]
def pin63 (x : CePin) : State := up.setCpin 63 x


theorem test_hyps_ChiveFlowAndFifos :
    (let e : Fin 32 := 31; let s : State := chiveAt 31 0x60002F; let w := s.ceFetch e; let dest := bits w 5 0;
    let br := s.ceAt e 6 = true ∧ bits w 9 6 = 0; br ∧ bits w 19 17 = 0 ∧ bits w 16 10 = 0 ∧ dest < 48) ∧
    (let e : Fin 32 := 0; let s : State := chiveAt 0 0x62802F; let w := s.ceFetch e; let x := s.ce e;
    let r := x.r (bits w 16 15); let dest := bits w 5 0; let br := s.ceAt e 6 = true ∧ bits w 9 6 = 0;
    let sel := bits w 14 10; br ∧ bits w 19 17 = 1 ∧ sel = 0 ∧ dest < 48 ∧ r = 0) ∧
    (let e : Fin 32 := 0; let s : State := chiveAt 0 0x62802F { g := [(1, 4)] }; let w := s.ceFetch e;
    let x := s.ce e; let r := x.r (bits w 16 15); let dest := bits w 5 0;
    let br := s.ceAt e 6 = true ∧ bits w 9 6 = 0;
    let sel := bits w 14 10; br ∧ bits w 19 17 = 1 ∧ sel = 0 ∧ dest < 48 ∧ r ≠ 0) ∧
    (let e : Fin 32 := 0; let s : State := chiveAt 0 0x64802F { g := [(1, 4)] }; let w := s.ceFetch e;
    let x := s.ce e; let r := x.r (bits w 16 15); let dest := bits w 5 0;
    let br := s.ceAt e 6 = true ∧ bits w 9 6 = 0;
    let sel := bits w 14 10; br ∧ bits w 19 17 = 2 ∧ sel = 0 ∧ dest < 48 ∧ r ≠ 0) ∧
    (let e : Fin 32 := 0; let s : State := chiveAt 0 0x64802F; let w := s.ceFetch e; let x := s.ce e;
    let r := x.r (bits w 16 15); let dest := bits w 5 0; let br := s.ceAt e 6 = true ∧ bits w 9 6 = 0;
    let sel := bits w 14 10; br ∧ bits w 19 17 = 2 ∧ sel = 0 ∧ dest < 48 ∧ r = 0) ∧
    (let e : Fin 32 := 0; let s : State := chiveAt 0 0x66FC2F { g := [(1, 0x80000000)] }; let w := s.ceFetch e;
    let x := s.ce e; let r := x.r (bits w 16 15); let dest := bits w 5 0;
    let br := s.ceAt e 6 = true ∧ bits w 9 6 = 0;
    let sel := bits w 14 10; br ∧ bits w 19 17 = 3 ∧ dest < 48 ∧ r.getLsbD sel = true) ∧
    (let e : Fin 32 := 0; let s : State := chiveAt 0 0x66FC2F { g := [(1, 0x7FFFFFFF)] }; let w := s.ceFetch e;
    let x := s.ce e; let r := x.r (bits w 16 15); let dest := bits w 5 0;
    let br := s.ceAt e 6 = true ∧ bits w 9 6 = 0;
    let sel := bits w 14 10; br ∧ bits w 19 17 = 3 ∧ dest < 48 ∧ r.getLsbD sel = false) ∧
    (let e : Fin 32 := 0; let s : State := chiveAt 0 0x600030; let w := s.ceFetch e; let dest := bits w 5 0;
    let br := s.ceAt e 6 = true ∧ bits w 9 6 = 0; br ∧ bits w 19 17 = 0 ∧ bits w 16 10 = 0 ∧ 48 ≤ dest) ∧
    (let e : Fin 32 := 0; let s : State := chiveAt 0 0x7C6000 { po := 1 }; let w := s.ceFetch e; let x := s.ce e;
    let i := bits w 15 12; s.ceAt e 7 = true ∧ tst w 16 = false ∧ bits w 11 0 = 0 ∧ i < 8 ∧ i + x.po.toNat < 8 ∧ tst w
        17 = false) ∧
    (let e : Fin 32 := 0;
    let s : State := (chiveAt 0 0x7A6000 { po := 1 }).setCpin 7 { riseLatch := true, fallLatch := true };
    let w := s.ceFetch e; let x := s.ce e;
    let i := bits w 15 12; s.ceAt e 7 = true ∧ tst w 16 = false ∧ bits w 11 0 = 0 ∧ i < 8 ∧ i + x.po.toNat < 8 ∧ tst w
        17 = true) ∧
    (let e : Fin 32 := 0; let s : State := chiveAt 0 0x830000 { outF := [7, 8] }; let w := s.ceFetch e;
    let x := s.ce e; let v := (7 : Word);
    let rest := ([8] : List Word); s.ceAt e 8 = true ∧ tst w 19 = false ∧ bits w 15 0 = 0 ∧ x.prog ≠ 6 ∧ x.prog ≠ 4 ∧
        x.prog ≠ 2 ∧ x.outF = v :: rest) ∧
    (let e : Fin 32 := 0; let s : State := chiveAt 0 0x840000; let w := s.ceFetch e;
    let x := s.ce e; s.ceAt e 8 = true ∧ tst w 19 = false ∧ bits w 15 0 = 0 ∧ x.prog ≠ 6 ∧ x.prog ≠ 4 ∧ x.prog ≠ 2 ∧
        x.outF = [] ∧ tst w 18 = true) ∧
    (let e : Fin 32 := 0; let s : State := chiveAt 0 0x800000; let w := s.ceFetch e;
    let x := s.ce e; s.ceAt e 8 = true ∧ tst w 19 = false ∧ bits w 15 0 = 0 ∧ x.prog ≠ 6 ∧ x.prog ≠ 4 ∧ x.prog ≠ 2 ∧
        x.outF = [] ∧ tst w 18 = false) ∧
    (let e : Fin 32 := 28; let s : State := chiveAt 28 0x830000 { prog := 2 }; let w := s.ceFetch e;
    let x := s.ce e; let t := 4000000000;
    let v := true; s.ceAt e 8 = true ∧ tst w 19 = false ∧ bits w 15 0 = 0 ∧ (x.prog = 2 ∨ x.prog = 4) ∧ x.outF = [] ∧
        x.pc < 47 ∧ s.nextEdge x.prog.toNat x.edgeAt x.edgeUp = some (t, v)) ∧
    (let e : Fin 32 := 0; let s : State := chiveAt 0 0x880000 { prog := 1, inF := full8.drop 1 };
    let w := s.ceFetch e;
    let x := s.ce e; s.ceAt e 8 = true ∧ tst w 19 = true ∧ bits w 15 0 = 0 ∧ x.prog = 1 ∧ x.sink = 0 ∧ x.inF.length <
        8) ∧
    (let e : Fin 32 := 0; let s : State := chiveAt 0 0x8C0000 { prog := 1, inF := full8 }; let w := s.ceFetch e;
    let x := s.ce e; s.ceAt e 8 = true ∧ tst w 19 = true ∧ bits w 15 0 = 0 ∧ x.prog = 1 ∧ x.sink = 0 ∧ 8 ≤
        x.inF.length ∧ tst w 18 = true) ∧
    (let e : Fin 32 := 0; let s : State := chiveAt 0 0x880000 { prog := 1, inF := full8 }; let w := s.ceFetch e;
    let x := s.ce e; s.ceAt e 8 = true ∧ tst w 19 = true ∧ bits w 15 0 = 0 ∧ x.prog = 1 ∧ x.sink = 0 ∧ 8 ≤
        x.inF.length ∧ tst w 18 = false) ∧
    (let e : Fin 32 := 0; let s : State := chiveAt 0 0x907000; let w := s.ceFetch e;
    let i := bits w 15 12; s.ceAt e 9 = true ∧ bits w 17 16 = 0 ∧ bits w 11 0 = 0 ∧ bits w 19 18 = 0 ∧ i < 8) ∧
    (let e : Fin 32 := 0; let s : State := chiveAt 0 0x947000 {} { flags := 0xFF }; let w := s.ceFetch e;
    let i := bits w 15 12; s.ceAt e 9 = true ∧ bits w 17 16 = 0 ∧ bits w 11 0 = 0 ∧ bits w 19 18 = 1 ∧ i < 8) ∧
    (let e : Fin 32 := 0; let s : State := chiveAt 0 0x908000; let w := s.ceFetch e;
    let i := bits w 15 12; s.ceAt e 9 = true ∧ bits w 17 16 = 0 ∧ bits w 11 0 = 0 ∧ bits w 19 18 = 0 ∧ 8 ≤ i) ∧
    (let e : Fin 32 := 0; let s : State := chiveAt 0 0x980000; let w := s.ceFetch e;
    let i := bits w 15 12; s.ceAt e 9 = true ∧ bits w 17 16 = 0 ∧ bits w 11 0 = 0 ∧ bits w 19 18 = 2 ∧ i = 0) := by
  refine ⟨?_, ?_, ?_, ?_, ?_, ?_, ?_, ?_, ?_, ?_, ?_, ?_, ?_, ?_, ?_, ?_, ?_, ?_, ?_, ?_, ?_⟩ <;> decide

theorem test_hyps_ChivePinsAct :
    (let p : Fin 65 := 64; let v : Bool := true;
    let s : State := up; s.running = true ∧ (s.cpin p).out = false ∧ (s.cpin p).raw ≠ v ∧ s.txLine p = none) ∧
    (let p : Fin 64 := 63; let s : State := pin63 { raw := true, func := 1, filterUs := 1 };
    let x := s.cpin p; s.running = true ∧ (s.cpin p).raw ≠ (s.cpin p).filtered ∧ (s.cpin p).func = 1 ∧ s.sys.mono <
        x.edgeAt + us x.filterUs.toNat) ∧
    (let p : Fin 64 := 63; let s : State := pin63 { raw := true, func := 1 }; let x := s.cpin p;
    let g := s.grp (p / 8); s.running = true ∧ (s.cpin p).raw ≠ (s.cpin p).filtered ∧ (s.cpin p).func = 1 ∧ x.edgeAt +
        us x.filterUs.toNat ≤ s.sys.mono ∧ g.queue.length < 64) ∧
    (let p : Fin 64 := 63;
    let s : State := (pin63 { raw := true, func := 1 }).setGrp 7
        { queue := List.replicate 64 { pin := 56, level := true, stamp := 0 } };
    let x := s.cpin p;
    let g := s.grp (p / 8); s.running = true ∧ (s.cpin p).raw ≠ (s.cpin p).filtered ∧ (s.cpin p).func = 1 ∧ x.edgeAt +
        us x.filterUs.toNat ≤ s.sys.mono ∧ 64 ≤ g.queue.length) ∧
    (let e : Fin 32 := 31; let s : State := at' (up.setCe 31 { timed := some (100, .level 63 true) }) 100;
    let t : Word := 100;
    let c : PinChange := .level 63 true; s.running = true ∧ (s.ce e).timed = some (t, c) ∧ 0 ≤ (s.time.t.setWidth 32 -
        t).toInt) ∧
    (let p : Fin 64 := 63; let s : State := pin63 { pulse := true, raw := true, out := true };
    let t := (s.cpin p).pulseAt + ms (s.pinFld p 8 2); s.running = true ∧ (s.cpin p).pulse = true ∧ t ≤ s.sys.mono) ∧
    (let p : Fin 64 := 63; let s : State := pin63 { pulse := true, raw := true, out := true, pulseAt := 1 };
    let t := (s.cpin p).pulseAt + ms (s.pinFld p 8 2); s.running = true ∧ (s.cpin p).pulse = true ∧ s.sys.mono < t) ∧
    (let n : Fin 64 := 63;
    let s : State := (({ (chiveAt 28 0 { prog := 8 }) with pnt := { up.pnt with outs := [(63, 1)] } } : State).setCpin
        63 { func := 3 });
    let v : DWord := 1;
    let e := 4 * (n.val / 8); s.pnt.outs.find? n = some v ∧ (s.cpin n).func = 3 ∧ (s.ce e).prog = 8 ∧ s.ceRuns e =
        true ∧ (s.ce e).outF.length < 8) ∧
    (let s : State := ppsOut .locked; let now := s.time.t.toNat;
    let width := s.fld 0x0401 0 8 2 1 * 4000000; s.running = true ∧ s.fld 0x0401 0 7 1 0 ≠ 0 ∧ (s.ce 28).prog = 2 ∧
        s.ceRuns 28 = true ∧ s.time.ppsUp.toNat + width ≤ now + 8) ∧
    (let s : State := ppsOut .locked 100; let now := s.time.t.toNat;
    let width := s.fld 0x0401 0 8 2 1 * 4000000; s.running = true ∧ s.fld 0x0401 0 7 1 0 ≠ 0 ∧ (s.ce 28).prog = 2 ∧
        s.ceRuns 28 = true ∧ now + 8 < s.time.ppsUp.toNat + width) ∧
    (let s : State := ppsOut .locked;
    let now := s.time.t.toNat; s.running = true ∧ s.fld 0x0401 0 7 1 0 ≠ 0 ∧ (s.ce 28).prog = 2 ∧ s.ceRuns 28 = true ∧
        now % 4000000000 ≤ 8 ∧ s.fld 0x0401 0 7 1 0 = 1 ∧ s.time.st = .locked) ∧
    (let s : State := at' (ppsOut .locked) 9;
    let now := s.time.t.toNat; s.running = true ∧ s.fld 0x0401 0 7 1 0 ≠ 0 ∧ (s.ce 28).prog = 2 ∧ s.ceRuns 28 = true ∧
        8 < now % 4000000000 ∧ now % 4000000000 + 8 < 4000000000) ∧
    (let s : State := ppsOut .acquire; s.running = true ∧ s.fld 0x0401 0 7 1 0 ≠ 0 ∧ (s.ce 28).prog = 2 ∧ s.ceRuns 28
        = true ∧ s.fld 0x0401 0 7 1 0 = 1 ∧ s.time.st = .acquire) := by
  refine ⟨?_, ?_, ?_, ?_, ?_, ?_, ?_, ?_, ?_, ?_, ?_, ?_, ?_⟩ <;> decide

theorem test_hyps_ChiveHostAndLines :
    (let s : State := chiveAt 31 0 { inF := full8 }; s.sys.up = true) ∧
    (let e : Fin 32 := 31;
    let s : State := chiveAt 31 0 { outF := List.replicate 7 0 }; s.sys.up = true ∧ (s.ce e).outF.length < 8) ∧
    (let e : Fin 32 := 31;
    let s : State := chiveAt 31 0 { outF := List.replicate 8 0 }; s.sys.up = true ∧ 8 ≤ (s.ce e).outF.length) ∧
    (let l : Fin 16 := 15; let s : State := lined 0x400000; let e : Nat := 3;
    let c : CeIn := { word := 0x400000, e := 3, eid := 0 }; let rest : List CeIn := [];
    let v := c.word.toNat / 2 ^ (32 - s.lineBits l); s.running = true ∧ s.lineEng l 5 = some e ∧ (s.ce e).inF = c ::
        rest ∧ s.lineParity l = 0 ∧ (s.line l).de = false ∧ tst v 0 = true) ∧
    (let l : Fin 16 := 15; let s : State := lined 0x80000000; let e : Nat := 3;
    let c : CeIn := { word := 0x80000000, e := 3, eid := 0 }; let rest : List CeIn := [];
    let v := c.word.toNat / 2 ^ (32 - s.lineBits l); s.running = true ∧ s.lineEng l 5 = some e ∧ (s.ce e).inF = c ::
        rest ∧ s.lineParity l = 0 ∧ (s.line l).de = false ∧ tst v 0 = false ∧ s.lineStops l = 1) ∧
    (let l : Fin 16 := 15; let s : State := lined 0 { rxOn := true, rxEnd := 1 }; s.rxQuiet l = false) ∧
    (let l : Fin 16 := 15; let s : State := lined 0 { rxOn := true, flagged := true };
    let y := s.line l; s.running = true ∧ (s.line l).rxOn = true ∧ s.rxQuiet l = true ∧ (y.flagged = true ∨ 2048 <
        y.rx.length)) ∧
    (let l : Fin 16 := 15; let s : State := lined 0 { rxOn := true, rx := [0x41] };
    let y := s.line l; s.running = true ∧ (s.line l).rxOn = true ∧ s.rxQuiet l = true ∧ y.flagged = false ∧
        y.rx.length ≤ 2048) := by
  refine ⟨?_, ?_, ?_, ?_, ?_, ?_, ?_, ?_⟩ <;> decide

theorem test_hyps_ChiveGroupsRestart :
    (let g : Fin 8 := 7;
    let s : State := at' (up.setGrp 7
        { restart := some { at_ := 40000, keep := false, req := none }, entry1 := 0xFFFF2F00 }) 40000;
    let r : CeRestart := { at_ := 40000, keep := false, req := none }; s.running = true ∧ (s.grp g).restart = some r ∧
        r.req = none ∧ r.at_ ≤ s.time.t) ∧
    (let g : Fin 8 := 7;
    let s : State := at' { up with sys := { up.sys with lc := .service } } 1; s.sys.up = true ∧ s.sys.lc = .service ∧
        (s.grp g).restart = none ∧ s.time.t.toNat < 2 ^ 63) ∧
    (let s : State := { up with sys := { up.sys with lc := .operational } }; s.sys.up = true ∧ s.sys.lc =
        .operational) ∧
    (let q : Req := hreq [7, 0, 76]; let s : State := bulk up prog1; let u : State := s.fetchReq q 0x510;
    let g := q.word 1;
    let b := u.bulkRead q.src.val (q.word 2) (q.word 3); s.running = true ∧ s.reqDue q 0x510 = true ∧ (s.fetchReq q
        0x510).reqCheck q 0x510 3 = none ∧ g < 8 ∧ bulkOk q.src.val (q.word 2) (q.word 3) = true ∧ chiveProgOk b =
        true ∧ u.progFits g b = true ∧ (u.grp g).restart = none) ∧
    (let q : Req := hreq [7, 0, 76];
    let s : State := bulk (up.setGrp 7 { restart := some { at_ := 40000, keep := false, req := none } }) prog1;
    let u : State := s.fetchReq q 0x510; let g := q.word 1;
    let b := u.bulkRead q.src.val (q.word 2) (q.word 3); s.running = true ∧ s.reqDue q 0x510 = true ∧ (s.fetchReq q
        0x510).reqCheck q 0x510 3 = none ∧ g < 8 ∧ bulkOk q.src.val (q.word 2) (q.word 3) = true ∧ chiveProgOk b =
        true ∧ u.progFits g b = true ∧ (u.grp g).restart ≠ none) ∧
    (let q : Req := hreq [128, 40000, 0]; let s : State := up; let u : State := s.fetchReq q 0x511;
    let g : Fin 8 := 7; s.running = true ∧ s.reqDue q 0x511 = true ∧ (s.fetchReq q 0x511).reqCheck q 0x511 3 = none ∧
        q.word 1 = 2 ^ g.val ∧ u.time.t.toNat + 40000 ≤ (q.dword 2).toNat ∧ (q.dword 2).toNat ≤ u.time.t.toNat +
        40000000000 ∧ (u.grp g).restart = none) := by
  refine ⟨?_, ?_, ?_, ?_, ?_, ?_⟩ <;> decide

/-! ### Resets, start-up, the queue, the common checks -/

def staged (st : Stage) : State := { State.reset with sys := { State.reset.sys with stage := st } }
def sysUp (f : Sys → Sys) : State := { up with sys := f up.sys }
def clocks (a b : Bool) : Clocks := { a := a, b := b, hz := 10000000 }
def heldBy (f : Sys → Sys) : State := { State.reset with sys := f { State.reset.sys with stage := .held } }
def slotFind : SlotFind := ⟨false, false, ⟨false, false, false⟩, false⟩
def bootFind : BootFind :=
  { dir0 := false, dir1 := false, kern0 := false, kern1 := false, a := slotFind, b := slotFind, puf := true,
    dram := true, ledger := [], mdio := [], link := none, micros := 9 }
/-- More body words than any request has. -/
def longReq : Req := hreq (List.replicate 15 0)
/-- A held nonce, a fatal record and four requests in flight. -/
def inFlight4 : State := { up with sage := { up.sage with flights := List.replicate 4 ⟨32, 0x904, 1⟩ } }

/-- Another word stands before the host's request. -/
def busy : State := up.setMb 56 { up.mb 56 with toHome := [{ src := 32, word := 7 }] }

theorem test_hyps_thermal :
    (up.sys.stage ≠ .held ∧ up.sys.thermHeld = false ∧ tripPoint < 541) ∧ (480 : Int) ≤ tripPoint ∧
    releasePoint ≤ 460 ∧ (399 : Int) < releasePoint := by
  unfold tripPoint releasePoint
  cases Free.extendedGrade <;> decide

theorem test_hyps_StepsDrainTheQueueInOrder :
    step { up with pending := [.trstNAssert, .alarmHoldEnd] } = .next { up with pending := [.alarmHoldEnd] } := rfl

theorem test_hyps_MemoriesStayCanonical :
    ({ up with mem := { nvm := [(7, 0)] } } : State).mem.wf = true ∧
    step { up with mem := { nvm := [(7, 0)] }, pending := [.trstNAssert] } = .next { up with mem := { nvm := [(7, 0)] } } :=
  ⟨by decide, rfl⟩


theorem test_hyps_ResetSourcesResetTheDevice :
    (let s : State := up; let i : Fin 10 := 9;
    let mv : Nat := 2969; s.sys.stage ≠ .held ∧ s.sys.porHeld = false ∧ s.sys.supplyHeld = false ∧ mv < monitorMv.getD
        i 0) ∧
    (let i : Fin 10 := 9; let mv : Nat := 2970; let s : State := up; monitorMv.getD i 0 ≤ mv ∧ s.running = true) ∧
    (let s : State := { up with sage := { up.sage with coldDue := true } }; s.running = true ∧ s.sage.coldDue = true)
        ∧
    (let s : State := { up with sage := { up.sage with warmDue := true } }; s.running = true ∧ s.sage.warmDue = true)
        ∧
    (let s : State :=
        { staged .fatalSeq with rmy := { dumpWritten := true, dumpState := 1, dumpRel := true, latched := some ⟨3, 4, 5, 6⟩ } };
        s.sys.stage = .fatalSeq ∧ s.rmy.dumpWritten = true ∧ s.rmy.dumpState = 1 ∧ (s.rmy.dumpRel = true ∨
        s.rmy.offerAt + ms (s.fld 0x0B01 0 0x10 2 2000) ≤ s.sys.mono)) ∧
    (let s : State := monoAt (ms 2000 - 1) (staged .fatalSeq); s.rmy.dumpRel = false ∧ s.sys.mono < s.rmy.offerAt + ms
        (s.fld 0x0B01 0 0x10 2 2000)) ∧
    (let s : State := monoAt (sec 10 - 1) (staged .fatalSeq); s.sys.mono < s.rmy.fatalAt + sec 10 ∧ s.rmy.fatal.any
        (fun f => f.reason == 4) = false) ∧
    (let s : State := { staged .fatalSeq with rmy := { fatal := some ⟨4, 4, 5, 6⟩ } }; s.sys.stage = .fatalSeq ∧
        s.rmy.dumpWritten = false ∧ s.rmy.dumpState = 0 ∧ (s.rmy.fatal.any (fun f => f.reason == 4) = true ∨
        s.rmy.fatalAt + sec 10 ≤ s.sys.mono)) := by
  refine ⟨?_, ?_, ?_, ?_, ?_, ?_, ?_, ?_⟩ <;> decide

theorem test_hyps_ReleaseBeginsTheAlwaysOnStage :
    (let s : State := heldBy (fun y => { y with supplyHeld := true, cause := .supply }); s.sys.stage = .held ∧
        s.sys.porHeld = false) ∧
    (let s : State := heldBy (fun y => { y with porHeld := true });
    let mv := monitorMv.map (· + 10); s.sys.porHeld = true ∧ s.sys.supplyHeld = false ∧ s.sys.thermHeld = false ∧ (∃
        i, i < 10 ∧ mv.getD i 0 ≤ monitorMv.getD i 0 + 10)) ∧
    (let s : State := heldBy (fun y => { y with supplyHeld := true });
    let mv := monitorMv.map (· + 11); s.sys.supplyHeld = true ∧ s.sys.porHeld = false ∧ s.sys.thermHeld = false ∧ (∀
        i, i < 10 → monitorMv.getD i 0 + 10 < mv.getD i 0)) ∧
    (let s : State := heldBy (fun y => { y with porHeld := true, thermHeld := true }); s.sys.porHeld = true ∧
        (s.sys.supplyHeld = true ∨ s.sys.thermHeld = true)) ∧
    (let s : State := staged .clockWait; s.sys.stage = .clockWait ∧ s.sys.porHeld = false ∧ s.sys.supplyHeld = false ∧
        s.sys.thermHeld = false) ∧
    (let s : State := staged .refWait; s.sys.stage = .refWait) := by
  refine ⟨?_, ?_, ?_, ?_, ?_, ?_⟩ <;> decide

theorem test_hyps_WipeLeadsToReady :
    (let s : State := staged .wiping; (s.sys.stage = .wiping ∨ s.sys.stage = .wipeFailed)) := by
  decide

theorem test_hyps_PinsAndRequestedReset :
    (let s : State := sysUp (fun y => { y with alarmPin := true, alarmAt := some 0, mono := ms 100 });
    let a := 0; s.alarmCause = false ∧ s.sys.alarmAt = some a ∧ a + ms s.holdMs ≤ s.sys.mono) ∧
    (let s : State := sysUp (fun y => { y with alarmPin := true, alarmAt := some 0, mono := ms 100 - 1 });
    let a := 0; s.alarmCause = false ∧ s.sys.alarmAt = some a ∧ s.sys.mono < a + ms s.holdMs) ∧
    (let s : State := sysUp (fun y => { y with alarmPin := true, refbBad := true }); s.alarmCause = true) ∧
    (let s : State := up; s.host.perst = false) ∧
    (let s : State := { up with host := { up.host with perst := true } }; s.sys.up = true) ∧
    (let s : State := up; let q : Req := hreq [];
    let u : State := s.fetchReq q 0xC01; s.running = true ∧ s.reqDue q 0xC01 = true ∧ (s.fetchReq q 0xC01).reqCheck q
        0xC01 0 = none ∧ u.host.img = none ∧ u.engs.append = none ∧ u.sage.coldDue = false) ∧
    (let s : State := { up with host := { up.host with img := some ⟨4096, [], 0, 1, true, false⟩ } };
    let q : Req := hreq [];
    let u : State := s.fetchReq q 0xC01; s.running = true ∧ s.reqDue q 0xC01 = true ∧ (s.fetchReq q 0xC01).reqCheck q
        0xC01 0 = none ∧ u.host.img ≠ none) := by
  refine ⟨?_, ?_, ?_, ?_, ?_, ?_, ?_⟩ <;> decide

theorem test_hyps_StepRunsTheFrontCommand :
    (let c : Instr := .trstNAssert; let l : List Instr := [.alarmHoldEnd];
    let s : State := { up with pending := [.trstNAssert, .alarmHoldEnd] }; s.pending = c :: l) ∧
    (let s : State := up; s.pending = [] ∧ s.clocked = true) ∧
    (let s : State := State.reset; s.pending = [] ∧ s.clocked = false) := by
  refine ⟨?_, ?_, ?_⟩ <;> decide

theorem test_hyps_CommonChecksRefuseRequests :
    (let q : Req := hreq []; let s : State := up;
    let code : Nat := 0x301; tst (s.classes q.src.val) (code / 256) = false) ∧
    (let q : Req := hreq []; let s : State := inFlight4;
    let code : Nat := 0xC01; tst (s.classes q.src.val) (code / 256) = true ∧ 4 ≤ s.inFlight q.src.val) ∧
    (let q : Req := hreq [1]; let s : State := up; let code : Nat := 0xC01;
    let words : Nat := 0; tst (s.classes q.src.val) (code / 256) = true ∧ s.inFlight q.src.val < 4 ∧ (q.low ≠ 0 ∨
        q.body.length ≠ words)) ∧
    (let q : Req := hreq []; let s : State := up; let code : Nat := 0xC01;
    let words : Nat := 0; tst (s.classes q.src.val) (code / 256) = true ∧ s.inFlight q.src.val < 4 ∧ q.low = 0 ∧
        q.body.length = words) ∧
    (let code : Nat := 0x001; let q : Req := longReq;
    let s : State := busy; s.running = true ∧ s.reqDue q code = false) ∧
    (let code : Nat := 0x001; let words : Nat := 0; let q : Req := longReq; let s : State := up;
    let st := 0x12; s.running = true ∧ s.reqDue q code = true ∧ (s.fetchReq q code).reqCheck q code words = some st) ∧
    (let code : Nat := 0x002; let q : Req := longReq;
    let s : State := busy; s.running = true ∧ s.reqDue q code = false) ∧
    (let code : Nat := 0x002; let words : Nat := 6; let q : Req := longReq; let s : State := up;
    let st := 0x12; s.running = true ∧ s.reqDue q code = true ∧ (s.fetchReq q code).reqCheck q code words = some st) ∧
    (let code : Nat := 0x101; let q : Req := longReq;
    let s : State := busy; s.running = true ∧ s.reqDue q code = false) ∧
    (let code : Nat := 0x101; let words : Nat := 3; let q : Req := longReq; let s : State := up;
    let st := 0x12; s.running = true ∧ s.reqDue q code = true ∧ (s.fetchReq q code).reqCheck q code words = some st) ∧
    (let code : Nat := 0x102; let q : Req := longReq;
    let s : State := busy; s.running = true ∧ s.reqDue q code = false) ∧
    (let code : Nat := 0x102; let words : Nat := 3; let q : Req := longReq; let s : State := up;
    let st := 0x12; s.running = true ∧ s.reqDue q code = true ∧ (s.fetchReq q code).reqCheck q code words = some st) ∧
    (let code : Nat := 0x106; let q : Req := longReq;
    let s : State := busy; s.running = true ∧ s.reqDue q code = false) ∧
    (let code : Nat := 0x106; let words : Nat := 3; let q : Req := longReq; let s : State := up;
    let st := 0x12; s.running = true ∧ s.reqDue q code = true ∧ (s.fetchReq q code).reqCheck q code words = some st) ∧
    (let code : Nat := 0x201; let q : Req := longReq;
    let s : State := busy; s.running = true ∧ s.reqDue q code = false) ∧
    (let code : Nat := 0x201; let words : Nat := 1; let q : Req := longReq; let s : State := up;
    let st := 0x12; s.running = true ∧ s.reqDue q code = true ∧ (s.fetchReq q code).reqCheck q code words = some st) ∧
    (let code : Nat := 0x202; let q : Req := longReq;
    let s : State := busy; s.running = true ∧ s.reqDue q code = false) ∧
    (let code : Nat := 0x202; let words : Nat := 1; let q : Req := longReq; let s : State := up;
    let st := 0x12; s.running = true ∧ s.reqDue q code = true ∧ (s.fetchReq q code).reqCheck q code words = some st) ∧
    (let code : Nat := 0x203; let q : Req := longReq;
    let s : State := busy; s.running = true ∧ s.reqDue q code = false) ∧
    (let code : Nat := 0x203; let words : Nat := 0; let q : Req := longReq; let s : State := up;
    let st := 0x12; s.running = true ∧ s.reqDue q code = true ∧ (s.fetchReq q code).reqCheck q code words = some st) ∧
    (let code : Nat := 0x301; let q : Req := longReq;
    let s : State := busy; s.running = true ∧ s.reqDue q code = false) ∧
    (let code : Nat := 0x301; let words : Nat := 3; let q : Req := longReq; let s : State := up;
    let st := 0x10; s.running = true ∧ s.reqDue q code = true ∧ (s.fetchReq q code).reqCheck q code words = some st) ∧
    (let code : Nat := 0x302; let q : Req := longReq;
    let s : State := busy; s.running = true ∧ s.reqDue q code = false) ∧
    (let code : Nat := 0x302; let words : Nat := 3; let q : Req := longReq; let s : State := up;
    let st := 0x10; s.running = true ∧ s.reqDue q code = true ∧ (s.fetchReq q code).reqCheck q code words = some st) ∧
    (let code : Nat := 0x303; let q : Req := longReq;
    let s : State := busy; s.running = true ∧ s.reqDue q code = false) ∧
    (let code : Nat := 0x303; let words : Nat := 3; let q : Req := longReq; let s : State := up;
    let st := 0x10; s.running = true ∧ s.reqDue q code = true ∧ (s.fetchReq q code).reqCheck q code words = some st) ∧
    (let code : Nat := 0x401; let q : Req := longReq;
    let s : State := busy; s.running = true ∧ s.reqDue q code = false) ∧
    (let code : Nat := 0x401; let words : Nat := 2; let q : Req := longReq; let s : State := up;
    let st := 0x12; s.running = true ∧ s.reqDue q code = true ∧ (s.fetchReq q code).reqCheck q code words = some st) ∧
    (let code : Nat := 0x402; let q : Req := longReq;
    let s : State := busy; s.running = true ∧ s.reqDue q code = false) ∧
    (let code : Nat := 0x402; let words : Nat := 2; let q : Req := longReq; let s : State := up;
    let st := 0x12; s.running = true ∧ s.reqDue q code = true ∧ (s.fetchReq q code).reqCheck q code words = some st) ∧
    (let code : Nat := 0x403; let q : Req := longReq;
    let s : State := busy; s.running = true ∧ s.reqDue q code = false) ∧
    (let code : Nat := 0x403; let words : Nat := 1; let q : Req := longReq; let s : State := up;
    let st := 0x12; s.running = true ∧ s.reqDue q code = true ∧ (s.fetchReq q code).reqCheck q code words = some st) ∧
    (let code : Nat := 0x501; let q : Req := longReq;
    let s : State := busy; s.running = true ∧ s.reqDue q code = false) ∧
    (let code : Nat := 0x501; let words : Nat := 3; let q : Req := longReq; let s : State := up;
    let st := 0x12; s.running = true ∧ s.reqDue q code = true ∧ (s.fetchReq q code).reqCheck q code words = some st) ∧
    (let code : Nat := 0x502; let q : Req := longReq;
    let s : State := busy; s.running = true ∧ s.reqDue q code = false) ∧
    (let code : Nat := 0x502; let words : Nat := 3; let q : Req := longReq; let s : State := up;
    let st := 0x12; s.running = true ∧ s.reqDue q code = true ∧ (s.fetchReq q code).reqCheck q code words = some st) ∧
    (let code : Nat := 0x510; let q : Req := longReq;
    let s : State := busy; s.running = true ∧ s.reqDue q code = false) ∧
    (let code : Nat := 0x510; let words : Nat := 3; let q : Req := longReq; let s : State := up;
    let st := 0x12; s.running = true ∧ s.reqDue q code = true ∧ (s.fetchReq q code).reqCheck q code words = some st) ∧
    (let code : Nat := 0x601; let q : Req := longReq;
    let s : State := busy; s.running = true ∧ s.reqDue q code = false) ∧
    (let code : Nat := 0x601; let words : Nat := 1; let q : Req := longReq; let s : State := up;
    let st := 0x12; s.running = true ∧ s.reqDue q code = true ∧ (s.fetchReq q code).reqCheck q code words = some st) ∧
    (let code : Nat := 0x610; let q : Req := longReq;
    let s : State := busy; s.running = true ∧ s.reqDue q code = false) ∧
    (let code : Nat := 0x610; let words : Nat := 3; let q : Req := longReq; let s : State := up;
    let st := 0x12; s.running = true ∧ s.reqDue q code = true ∧ (s.fetchReq q code).reqCheck q code words = some st) ∧
    (let code : Nat := 0x611; let q : Req := longReq;
    let s : State := busy; s.running = true ∧ s.reqDue q code = false) ∧
    (let code : Nat := 0x611; let words : Nat := 3; let q : Req := longReq; let s : State := up;
    let st := 0x12; s.running = true ∧ s.reqDue q code = true ∧ (s.fetchReq q code).reqCheck q code words = some st) ∧
    (let code : Nat := 0x709; let q : Req := longReq;
    let s : State := busy; s.running = true ∧ s.reqDue q code = false) ∧
    (let code : Nat := 0x709; let words : Nat := 3; let q : Req := longReq; let s : State := up;
    let st := 0x12; s.running = true ∧ s.reqDue q code = true ∧ (s.fetchReq q code).reqCheck q code words = some st) ∧
    (let code : Nat := 0x901; let q : Req := longReq;
    let s : State := busy; s.running = true ∧ s.reqDue q code = false) ∧
    (let code : Nat := 0x901; let words : Nat := 3; let q : Req := longReq; let s : State := up;
    let st := 0x12; s.running = true ∧ s.reqDue q code = true ∧ (s.fetchReq q code).reqCheck q code words = some st) ∧
    (let code : Nat := 0x904; let q : Req := longReq;
    let s : State := busy; s.running = true ∧ s.reqDue q code = false) ∧
    (let code : Nat := 0x904; let words : Nat := 0; let q : Req := longReq; let s : State := up;
    let st := 0x12; s.running = true ∧ s.reqDue q code = true ∧ (s.fetchReq q code).reqCheck q code words = some st) ∧
    (let code : Nat := 0xA01; let q : Req := longReq;
    let s : State := busy; s.running = true ∧ s.reqDue q code = false) ∧
    (let code : Nat := 0xA01; let words : Nat := 2; let q : Req := longReq; let s : State := up;
    let st := 0x12; s.running = true ∧ s.reqDue q code = true ∧ (s.fetchReq q code).reqCheck q code words = some st) ∧
    (let code : Nat := 0xA02; let q : Req := longReq;
    let s : State := busy; s.running = true ∧ s.reqDue q code = false) ∧
    (let code : Nat := 0xA02; let words : Nat := 2; let q : Req := longReq; let s : State := up;
    let st := 0x12; s.running = true ∧ s.reqDue q code = true ∧ (s.fetchReq q code).reqCheck q code words = some st) ∧
    (let code : Nat := 0xA04; let q : Req := longReq;
    let s : State := busy; s.running = true ∧ s.reqDue q code = false) ∧
    (let code : Nat := 0xA04; let words : Nat := 0; let q : Req := longReq; let s : State := up;
    let st := 0x12; s.running = true ∧ s.reqDue q code = true ∧ (s.fetchReq q code).reqCheck q code words = some st) ∧
    (let code : Nat := 0xA06; let q : Req := longReq;
    let s : State := busy; s.running = true ∧ s.reqDue q code = false) ∧
    (let code : Nat := 0xA06; let words : Nat := 2; let q : Req := longReq; let s : State := up;
    let st := 0x12; s.running = true ∧ s.reqDue q code = true ∧ (s.fetchReq q code).reqCheck q code words = some st) ∧
    (let code : Nat := 0xB01; let q : Req := longReq;
    let s : State := busy; s.running = true ∧ s.reqDue q code = false) ∧
    (let code : Nat := 0xB01; let words : Nat := 2; let q : Req := longReq; let s : State := up;
    let st := 0x12; s.running = true ∧ s.reqDue q code = true ∧ (s.fetchReq q code).reqCheck q code words = some st) ∧
    (let code : Nat := 0xB02; let q : Req := longReq;
    let s : State := busy; s.running = true ∧ s.reqDue q code = false) ∧
    (let code : Nat := 0xB02; let words : Nat := 0; let q : Req := longReq; let s : State := up;
    let st := 0x12; s.running = true ∧ s.reqDue q code = true ∧ (s.fetchReq q code).reqCheck q code words = some st) ∧
    (let code : Nat := 0xC01; let q : Req := longReq;
    let s : State := busy; s.running = true ∧ s.reqDue q code = false) ∧
    (let code : Nat := 0xC01; let words : Nat := 0; let q : Req := longReq; let s : State := up;
    let st := 0x12; s.running = true ∧ s.reqDue q code = true ∧ (s.fetchReq q code).reqCheck q code words = some st) ∧
    (let op : Byte := 0x3; let code : Nat := (0xD00 + op.toNat); let q : Req := longReq;
    let s : State := busy; s.running = true ∧ s.reqDue q code = false) ∧
    (let op : Byte := 0x3; let code : Nat := (0xD00 + op.toNat); let words : Nat := 2; let q : Req := longReq;
    let s : State := up;
    let st := 0x12; s.running = true ∧ s.reqDue q code = true ∧ (s.fetchReq q code).reqCheck q code words = some st)
        := by
  refine ⟨?_, ?_, ?_, ?_, ?_, ?_, ?_, ?_, ?_, ?_, ?_, ?_, ?_, ?_, ?_, ?_, ?_, ?_, ?_, ?_, ?_, ?_, ?_, ?_, ?_, ?_, ?_,
        ?_, ?_, ?_, ?_, ?_, ?_, ?_, ?_, ?_, ?_, ?_, ?_, ?_, ?_, ?_, ?_, ?_, ?_, ?_, ?_, ?_, ?_, ?_, ?_, ?_, ?_, ?_,
        ?_, ?_, ?_, ?_, ?_, ?_, ?_, ?_, ?_, ?_, ?_, ?_⟩ <;> decide

/-! ### Sage -/

/-- The owner certificate region with key 7 of every usage, and a key in slot 2 of the key-material region. -/
def sageNvm : List Region := [⟨5, 0, 0x8000, 0x1000⟩, ⟨6, 0, 0x10000, 0x10000⟩, ⟨7, 0, 0x1000, 0x1000⟩]
def certs (s : State) : State :=
  let s := s.nvmWrite 0x1000 (leBytes 4 0x4F574E52 ++ leBytes 2 1 ++ leBytes 2 1)
  let s := (s.nvmWrite 0x1060 (leBytes 8 7 ++ leBytes 4 15)).nvmWrite 0x10200 (leBytes 2 0x4B59 ++ [0, 0, 32, 0])
  { s with cfg := { s.cfg with dir := sageNvm } }

/-- The device in a life-cycle state, an authorisation block in the host's bulk area, its nonce outstanding. -/
def lcAt (lc : LifeCycle) (code arg : Nat) (o : Otp := { owners := [1] }) : State :=
  let s := bulk (certs up)
    (leBytes 8 7 ++ leBytes 4 code ++ leBytes 4 arg ++ leBytes 16 9 ++ leBytes 8 0 ++ List.replicate 120 0)
  { s with
    sys := { s.sys with lc := lc, mono := sec 60 - 1 }, otp := o
    sage := { s.sage with nonces := [(32, { value := 9, taken := 0, used := false })], certsOk := true } }
def good : Verdict := ⟨true, true, true⟩

/-- Key 2 of a kind, granted to engine 0. -/
def keyed (kind : Byte) (puf : Bool := false) : State :=
  let s := withRecs (certs up) [rcd 0x0E03 2 [kind, 1, 0, 0, 1]]
  { s with sage := { s.sage with pufFail := puf } }
def sageIs (f : Sage → Sage) : State := { up with sage := f up.sage }

/-- An owner root authorisation of the host: the key ID of the active root key, a nonce of 9, the digest of 64 bytes 0. -/
def rootAt (lc : LifeCycle) (code : Byte) (n : Nat) (digest : Nat) : State :=
  let cells (a : Nat) (l : List Byte) : Mem := l.zipIdx.map (fun p => (a + p.2, p.1))
  let s := certs up
  let svc := cells 0x4000 (leBytes 8 (Free.keyId 1).toNat) ++ cells 0x4008 [code, 0x0A] ++ cells 0x4010 [9] ++
    cells 0x4040 (beBytes 32 digest)
  { s with
    mem := { s.mem with svc := svc }
    sys := { s.sys with lc := lc }
    otp := { owners := List.replicate n 1 }
    sage := { s.sage with nonces := [(32, { value := 9, taken := 0, used := false })] } }

theorem test_hyps_LifeCycleTransitions_root :
    (∀ s q u, s = rootAt .operational 5 1 0 → q = hreq [0, 160] → u = s.fetchReq q 0xA05 →
      s.asked q 0xA05 2 u ∧ u.sys.lc ≠ .blank ∧ u.sys.lc ≠ .retired ∧ LcOk u.sys.lc none 0xA05 160 good q u) ∧
    (∀ n s q u, n = 3 ∨ n = 4 → s = rootAt .operational 6 n (Free.sm3 (List.replicate 64 0)).toNat →
      q = hreq [0, 224] → u = s.fetchReq q 0xA06 →
      s.asked q 0xA06 2 u ∧ LcOk u.sys.lc none 0xA06 224 good q u ∧ u.sys.lc ≠ .blank ∧ u.sys.lc ≠ .retired ∧
      u.otp.owners.length = n) := by
  constructor
  · rintro s q u rfl rfl rfl
    refine ⟨⟨by decide, by decide, rfl, by decide⟩, by decide, by decide, by decide, rfl, by decide, by decide, by decide,
      by decide, by decide, by decide, rfl, 1, rfl, ?_⟩
    exact (leNat_leBytes 8 _).trans (Nat.mod_eq_of_lt (Free.keyId 1).isLt)
  · rintro n s q u (rfl | rfl) rfl rfl rfl
    all_goals
      refine ⟨⟨by decide, by decide, rfl, by decide⟩, ⟨by decide, rfl, by decide, by decide, by decide, by decide,
        by decide, ?_, rfl, 1, rfl, ?_⟩, by decide, by decide, by decide⟩
      · rw [if_neg (by decide)]
        exact (beNat_beBytes 32 _).trans (Nat.mod_eq_of_lt (Free.sm3 _).isLt)
      · exact (leNat_leBytes 8 _).trans (Nat.mod_eq_of_lt (Free.keyId 1).isLt)

theorem test_hyps_ChallengeReportAndKeyUse_keys :
    (bulkIs (ereq [2, 0x5FFC0, 32]) 2 32 ∧ 0x5FFC0 + 64 ≤ bulkSize 0 ∧ (keyed 0).fld 0x0E03 2 0 1 0xFF = 0) ∧
    (bulkIs (ereq [2, 0x5FFA0, 64]) 2 64 ∧ 0x5FFA0 + 96 ≤ bulkSize 0 ∧ (keyed 1).fld 0x0E03 2 0 1 0xFF = 1) ∧
    (bulkOk 0 0x5FFE0 32 = true ∧ tst ((keyed 4).fld 0x0E03 2 1 1 0) 0 = true ∧ (keyed 4).fld 0x0E03 2 0 1 0xFF = 4 ∧
      (keyed 4).region? 6 0 = some ⟨6, 0, 0x10000, 0x10000⟩ ∧ (keyed 4).nvmLE (0x10000 + 256 * 2 + 4) 2 = 32) ∧
    (∀ k ∈ [0, 1, 4], (keyed k).running = true ∧ (keyed k).reqDue (ereq [2, 0, 32]) 0x301 = true ∧
      ((keyed k).fetchReq (ereq [2, 0, 32]) 0x301).reqCheck (ereq [2, 0, 32]) 0x301 3 = none ∧
      (keyed k).keyGranted 0 2 = true ∧ (keyed k).keyPresent 2 true = true ∧ (keyed k true).sage.pufFail = true) ∧
    up.keyGranted 0 2 = false := by decide


theorem test_hyps_ChallengeReportAndKeyUse :
    (let q : Req := hreq [];
    let s : State := up; s.running = true ∧ s.reqDue q 0x001 = true ∧ (s.fetchReq q 0x001).reqCheck q 0x001 0 = none)
        ∧
    (let q : Req := hreq [1, 2, 3, 4, 0xFEE0, 288]; let s : State := up;
    let u : State := s.fetchReq q 0x002; s.running = true ∧ s.reqDue q 0x002 = true ∧ (s.fetchReq q 0x002).reqCheck q
        0x002 6 = none ∧ bulkOk q.src.val (q.word 5) (q.word 6) = true ∧ 288 ≤ q.word 6 ∧ u.sage.pufFail = false) ∧
    (let q : Req := hreq [1, 2, 3, 4, 0xFEE0, 288]; let s : State := sageIs (fun g => { g with pufFail := true });
    let u : State := s.fetchReq q 0x002; s.running = true ∧ s.reqDue q 0x002 = true ∧ (s.fetchReq q 0x002).reqCheck q
        0x002 6 = none ∧ bulkOk q.src.val (q.word 5) (q.word 6) = true ∧ 288 ≤ q.word 6 ∧ u.sage.pufFail = true) := by
  refine ⟨?_, ?_, ?_⟩ <;> decide

theorem test_hyps_LifeCycleTransitions :
    (let code : Nat := 0xA01; let words : Nat := 2;
    let ok : Req → State → Prop := (fun q u => bulkIs q 1 64 ∧ u.sys.lc = .blank ∧ u.exclusive = false);
    let q : Req := hreq [0, 64]; let s : State := lcAt .blank 0 0 {};
    let u : State := s.fetchReq q code; s.running = true ∧ s.reqDue q code = true ∧ (s.fetchReq q code).reqCheck q
        code words = none ∧ ok q u) ∧
    (let code : Nat := 0xA01; let words : Nat := 2;
    let bad : Req → State → Prop := (fun q u => bulkIs q 1 64 ∧ u.sys.lc ≠ .blank);
    let ok : Req → State → Prop := bad; let q : Req := hreq [0, 64]; let s : State := lcAt .retired 0 0 {};
    let u : State := s.fetchReq q code; s.running = true ∧ s.reqDue q code = true ∧ (s.fetchReq q code).reqCheck q
        code words = none ∧ ok q u) ∧
    (let v := good; let code : Nat := 0xA02; let words : Nat := 2;
    let ok : Req → State → Prop := (fun q u => LcOk .provisioned (some 2) 0xA02 160 v q u ∧ u.sys.cfgUnsigned = false
        ∧ u.sys.cfgDefault = false ∧
      u.sage.certsOk = true); let q : Req := hreq [0, 160]; let s : State := lcAt .provisioned 0xA02 0;
    let u : State := s.fetchReq q code; s.running = true ∧ s.reqDue q code = true ∧ (s.fetchReq q code).reqCheck q
        code words = none ∧ ok q u) ∧
    (let code : Nat := 0xA02; let words : Nat := 2; let bad : Req → State → Prop := (fun q u => bulkIs q 1 160 ∧
    (u.sys.lc ≠ .provisioned ∨ u.sys.cfgUnsigned = true ∨ u.sys.cfgDefault = true ∨ u.sage.certsOk = false));
    let ok : Req → State → Prop := bad; let q : Req := hreq [0, 160]; let s : State := lcAt .operational 0xA02 0;
    let u : State := s.fetchReq q code; s.running = true ∧ s.reqDue q code = true ∧ (s.fetchReq q code).reqCheck q
        code words = none ∧ ok q u) ∧
    (let v := good; let code : Nat := 0xA03; let words : Nat := 2;
    let ok : Req → State → Prop := (fun q u => LcOk .operational (some 2) 0xA03 160 v q u ∧ u.otp.entry < 256);
    let q : Req := hreq [0, 160]; let s : State := lcAt .operational 0xA03 0 { owners := [1], entry := 255 };
    let u : State := s.fetchReq q code; s.running = true ∧ s.reqDue q code = true ∧ (s.fetchReq q code).reqCheck q
        code words = none ∧ ok q u) ∧
    (let code : Nat := 0xA03; let words : Nat := 2;
    let bad : Req → State → Prop := (fun q u => bulkIs q 1 160 ∧ (u.sys.lc ≠ .operational ∨ 256 ≤ u.otp.entry));
    let ok : Req → State → Prop := bad; let q : Req := hreq [0, 160];
    let s : State := lcAt .operational 0xA03 0 { owners := [1], entry := 256 };
    let u : State := s.fetchReq q code; s.running = true ∧ s.reqDue q code = true ∧ (s.fetchReq q code).reqCheck q
        code words = none ∧ ok q u) ∧
    (let code : Nat := 0xA04; let words : Nat := 0;
    let ok : Req → State → Prop := (fun _ u => u.sys.lc = .service ∧ u.exclusive = false); let q : Req := hreq [];
    let s : State := lcAt .service 0 0;
    let u : State := s.fetchReq q code; s.running = true ∧ s.reqDue q code = true ∧ (s.fetchReq q code).reqCheck q
        code words = none ∧ ok q u) ∧
    (let code : Nat := 0xA04; let words : Nat := 0;
    let bad : Req → State → Prop := (fun _ u => u.sys.lc ≠ .service); let ok : Req → State → Prop := bad;
    let q : Req := hreq []; let s : State := lcAt .blank 0 0;
    let u : State := s.fetchReq q code; s.running = true ∧ s.reqDue q code = true ∧ (s.fetchReq q code).reqCheck q
        code words = none ∧ ok q u) ∧
    (let code : Nat := 0xA05; let words : Nat := 0;
    let ok : Req → State → Prop := (fun _ u => u.sys.lc = .blank ∧ u.exclusive = false); let q : Req := hreq [];
    let s : State := lcAt .blank 0 0 {};
    let u : State := s.fetchReq q code; s.running = true ∧ s.reqDue q code = true ∧ (s.fetchReq q code).reqCheck q
        code words = none ∧ ok q u) := by
  refine ⟨?_, ?_, ?_, ?_, ?_, ?_, ?_, ?_, ?_⟩ <;> decide

theorem test_hyps_DebugAndKeyWrites :
    (let v := good; let code : Nat := 0xB01; let words : Nat := 2;
    let ok : Req → State → Prop := (fun q u => let a := rdLE (u.authBlk q) 0x0C 4
      bulkIs q 1 160 ∧ u.sys.lc = .service ∧ u.authorised q 0xB01 (some 3) [] v ∧ 1 ≤ bits a 7 0 ∧ bits a 7 0 ≤ 2 ∧
      1 ≤ bits a 31 16 ∧ bits a 31 16 ≤ 480 ∧ bits a 15 8 = 0); let q : Req := hreq [0, 160];
    let s : State := lcAt .service 0xB01 0x01E00002;
    let u : State := s.fetchReq q code; s.running = true ∧ s.reqDue q code = true ∧ (s.fetchReq q code).reqCheck q
        code words = none ∧ ok q u) ∧
    (let code : Nat := 0xB01; let words : Nat := 2;
    let bad : Req → State → Prop := (fun q u => bulkIs q 1 160 ∧ u.sys.lc ≠ .service);
    let ok : Req → State → Prop := bad; let q : Req := hreq [0, 160];
    let s : State := lcAt .operational 0xB01 0x01E00002;
    let u : State := s.fetchReq q code; s.running = true ∧ s.reqDue q code = true ∧ (s.fetchReq q code).reqCheck q
        code words = none ∧ ok q u) ∧
    (let code : Nat := 0xB02; let words : Nat := 0; let ok : Req → State → Prop := (fun _ u => u.sage.scope ≠ 0);
    let q : Req := hreq []; let s : State := sageIs (fun g => { g with scope := 1 });
    let u : State := s.fetchReq q code; s.running = true ∧ s.reqDue q code = true ∧ (s.fetchReq q code).reqCheck q
        code words = none ∧ ok q u) ∧
    (let code : Nat := 0xB02; let words : Nat := 0; let ok : Req → State → Prop := (fun _ u => u.sage.scope = 0);
    let q : Req := hreq []; let s : State := up;
    let u : State := s.fetchReq q code; s.running = true ∧ s.reqDue q code = true ∧ (s.fetchReq q code).reqCheck q
        code words = none ∧ ok q u) ∧
    (let s : State := sageIs (fun g => { g with unlockEnd := 1 }); s.sys.mono < s.sage.unlockEnd) ∧
    (let s : State := sageIs (fun g => { g with scope := 2 }); s.running = true ∧ s.sage.scope ≠ 0 ∧ s.sage.unlockEnd
        ≤ s.sys.mono) ∧
    (let s : State := up; s.sys.lc = .blank ∨ s.sys.lc = .service ∧ s.sage.scope ≠ 0) ∧
    (let s : State := sysUp (fun y => { y with lc := .operational }); s.sys.lc ≠ .blank ∧ ¬ (s.sys.lc = .service ∧
        s.sage.scope ≠ 0)) ∧
    (let q : Req := ereq [5, 0, 64]; let op : Byte := 3; let n : BitVec 8 := 193;
    let s : State := withRecs (certs up) [rcd 0x0801 0 [0x0C]]; let u : State := s.fetchReq q (0xD00 + op.toNat);
    let r : Region := ⟨6, 0, 0x10000, 0x10000⟩; s.running = true ∧ s.reqDue q (0xD00 + op.toNat) = true ∧ (s.fetchReq
        q (0xD00 + op.toNat)).reqCheck q (0xD00 + op.toNat) 3 = none ∧ bulkOk q.src.val (q.word 2) (q.word 3) = true ∧
        u.sys.lc ≠ .retired ∧ u.exclusive = false ∧ u.sage.pufFail = false ∧ u.region? 6 0 = some r ∧ 192 < n.toNat) ∧
    (let q : Req := ereq [5, 0, 64]; let op : Byte := 3; let n : BitVec 8 := 192;
    let s : State := withRecs (certs up) [rcd 0x0801 0 [0x0C]]; let u : State := s.fetchReq q (0xD00 + op.toNat);
    let r : Region := ⟨6, 0, 0x10000, 0x10000⟩; s.running = true ∧ s.reqDue q (0xD00 + op.toNat) = true ∧ (s.fetchReq
        q (0xD00 + op.toNat)).reqCheck q (0xD00 + op.toNat) 3 = none ∧ bulkOk q.src.val (q.word 2) (q.word 3) = true ∧
        u.sys.lc ≠ .retired ∧ u.exclusive = false ∧ u.sage.pufFail = false ∧ u.region? 6 0 = some r ∧ n.toNat ≤ 192) ∧
    (let q : Req := ereq [0, 0x1000]; let op : Byte := 3;
    let s : State := withRecs (certs up) [rcd 0x0801 0 [0x0C]]; let u : State := s.fetchReq q (0xD00 + op.toNat);
    let r : Region := ⟨7, 0, 0x1000, 0x1000⟩; s.running = true ∧ s.reqDue q (0xD00 + op.toNat) = true ∧ (s.fetchReq q
        (0xD00 + op.toNat)).reqCheck q (0xD00 + op.toNat) 2 = none ∧ bulkOk q.src.val (q.word 1) (q.word 2) = true ∧
        u.sys.lc ≠ .retired ∧ u.exclusive = false ∧ u.region? 7 0 = some r ∧ q.word 2 ≤ r.size) := by
  refine ⟨?_, ?_, ?_, ?_, ?_, ?_, ?_, ?_, ?_, ?_, ?_⟩ <;> decide

theorem test_hyps_SageWatchesItself :
    (let core : Fin 3 := 2;
    let s : State := sageIs (fun g => { g with duplex := true }); s.running = true ∧ tst s.sage.coreActive.toNat core
        = true ∧ s.sage.duplex = true) ∧
    (let core : Fin 3 := 2; let s : State := sageIs (fun g => { g with disagree := [(2, 0), (1, 0)] });
    let old := s.sage.disagree.filter (fun p => s.sys.mono < p.2 + sec 1); s.running = true ∧ tst
        s.sage.coreActive.toNat core = true ∧ s.sage.duplex = false ∧ (old.filter (fun p => p.1 == core.val)).length <
        2) ∧
    (let core : Fin 3 := 2; let s : State := sageIs (fun g => { g with disagree := [(2, 0), (2, 0)] });
    let old := s.sage.disagree.filter (fun p => s.sys.mono < p.2 + sec 1); s.running = true ∧ tst
        s.sage.coreActive.toNat core = true ∧ s.sage.duplex = false ∧ 2 ≤ (old.filter (fun p => p.1 ==
        core.val)).length) ∧
    (let s : State := sageIs (fun g => { g with trngFails := 2 }); s.running = true) ∧
    (let s : State := sageIs (fun g => { g with trngFails := 1 }); s.running = true ∧ s.sage.trngFails < 2) ∧
    (let s : State := sageIs (fun g => { g with trngFails := 2 }); s.running = true ∧ s.sage.trngFails = 2) ∧
    (let s : State := up.setMb 56 { toHome := [{ src := 32, word := 0x00110000 }] };
    let w : MbWord := { src := 32, word := 0x00110000 };
    let rest : List MbWord := []; s.running = true ∧ (s.mb 56).toHome = w :: rest ∧ rest.length < bits w.word.toNat 19
        16) ∧
    (let q : Req := hreq []; let code : BitVec 12 := 0x405; let s : State := up;
    let u := s.fetchReq q code.toNat; s.running = true ∧ unknownCode code.toNat = true ∧ s.reqDue q code.toNat = true
        ∧ u.inFlight q.src.val < 4) ∧
    (let q : Req := hreq []; let code : BitVec 12 := 0x405; let s : State := inFlight4;
    let u := s.fetchReq q code.toNat; s.running = true ∧ unknownCode code.toNat = true ∧ s.reqDue q code.toNat = true
        ∧ 4 ≤ u.inFlight q.src.val) ∧
    (let s : State := sageIs (fun g => { g with waiting := [{ mb := 56, src := 32, ws := [1, 2] }] });
    let src : Nat := 32; let ws : List Word := [1, 2];
    let rest : List SageReply := []; s.running = true ∧ s.sage.waiting = { mb := 56, src := src, ws := ws } :: rest ∧
        s.mbRoom 56 false ws.length = true) ∧
    (let s : State := sageIs (fun g => { g with notices := [[1, 2], [3]] }); let ws : List Word := [1, 2];
    let rest : List (List Word) := [[3]]; s.running = true ∧ s.sage.notices = ws :: rest ∧ s.mbRoom 57 false ws.length
        = true) := by
  refine ⟨?_, ?_, ?_, ?_, ?_, ?_, ?_, ?_, ?_, ?_, ?_⟩ <;> decide

/-! ### Edits of the switch tables -/

def zeros (n : Nat) : List Byte := List.replicate n 0
/-- One good body for each type of record. -/
def portBody : List Byte := [1, 0, 7, 8, 2, 31, 0, 0, 0, 1, 2, 3, 4, 5, 6, 7] ++ List.replicate 24 1 ++ zeros 8
def redBody : List Byte := [0xFD, 0xFF, 0xFE, 0xFF, 1, 15, 0, 0]
def meterBody : List Byte := leBytes 4 64 ++ leBytes 4 25000000 ++ leBytes 4 1518 ++ leBytes 4 16777216 ++ zeros 8
def vlanBody : List Byte := leBytes 8 3 ++ leBytes 8 1 ++ zeros 8
def fdbBody : List Byte := [0, 1, 2, 3, 4, 5, 1, 0, 0, 0, 63, 0, 0, 0, 0, 0]
def mcastBody : List Byte := leBytes 8 5 ++ zeros 8
def ruleBody : List Byte := zeros 80
def coreBody : List Byte := leBytes 4 10 ++ [3, 0, 1, 0] ++ zeros 136
def quotaBody : List Byte := leBytes 4 4 ++ leBytes 4 0 ++ (List.replicate 8 (leBytes 4 4 ++ leBytes 4 4)).flatten
/-- All the pool, twice. -/
def quotaBig : List Byte := leBytes 4 262140 ++ leBytes 4 0 ++ (List.replicate 8 (leBytes 4 262140 ++ leBytes 4 262140)).flatten

/-- A frame of each of `n` generations. -/
def gens (n : Nat) (s : State := up) : State :=
  { s with sw := { s.sw with frames := (List.range n).map (fun k =>
      (k, { src := 0, stamp := 0, gen := BitVec.ofNat 16 k, bytes := [], len := 64, cls := 0, colour := 0 })) } }
def editReq (inst len : Nat) : Req := hreq [BitVec.ofNat 32 inst, 0, BitVec.ofNat 32 len]
def done (x : State ⊕ Nat) : State := x.elim id (fun _ => up)
def tabled : State := { up with sw := { up.sw with tables := [rcd 0x0304 1022 meterBody] } }
def batch (r : Rec) : State := bulk up (recBytes r)


theorem test_hyps_TableEditsMakeGenerations :
    (let code : Nat := 0x102; let q : Req := hreq [1, 2, 48];
    let s : State := up; s.running = true ∧ s.reqDue q code = true ∧ (s.fetchReq q code).reqCheck q code 3 = none ∧
        bulkOk q.src.val (q.word 2) (q.word 3) = false) ∧
    (let code : Nat := 0x102; let typ : Nat := 0x0302; let q : Req := editReq 63 48;
    let s : State := bulk (gens 63) portBody; let u : State := s.fetchReq q code;
    let r : Rec :=
        { typ := typ, ver := 1, flags := 0, inst := q.word 1, body := u.bulkRead q.src.val (q.word 2) (q.word 3) };
    let t := done (u.edit [r]); s.running = true ∧ s.reqDue q code = true ∧ (s.fetchReq q code).reqCheck q code 3 =
        none ∧ bulkOk q.src.val (q.word 2) (q.word 3) = true ∧ q.word 1 < 2 ^ 16 ∧ u.edit [r] = .inl t) ∧
    (let code : Nat := 0x102; let typ : Nat := 0x0302; let q : Req := editReq 63 48;
    let s : State := bulk (gens 64) portBody; let u : State := s.fetchReq q code;
    let r : Rec :=
        { typ := typ, ver := 1, flags := 0, inst := q.word 1, body := u.bulkRead q.src.val (q.word 2) (q.word 3) };
        s.running = true ∧ s.reqDue q code = true ∧ (s.fetchReq q code).reqCheck q code 3 = none ∧ bulkOk q.src.val
        (q.word 2) (q.word 3) = true ∧ q.word 1 < 2 ^ 16 ∧ u.edit [r] = .inr 0x14) ∧
    (let code : Nat := 0x102; let typ : Nat := 0x0302; let q : Req := editReq 68 48;
    let s : State := bulk (gens 64) portBody; let u : State := s.fetchReq q code;
    let r : Rec :=
        { typ := typ, ver := 1, flags := 0, inst := q.word 1, body := u.bulkRead q.src.val (q.word 2) (q.word 3) };
    let st := (0x12 : Nat); s.running = true ∧ s.reqDue q code = true ∧ (s.fetchReq q code).reqCheck q code 3 = none ∧
        bulkOk q.src.val (q.word 2) (q.word 3) = true ∧ q.word 1 < 2 ^ 16 ∧ st ≠ 0x14 ∧ u.edit [r] = .inr st) ∧
    (let code : Nat := 0x103; let q : Req := hreq [1, 2, 48];
    let s : State := up; s.running = true ∧ s.reqDue q code = true ∧ (s.fetchReq q code).reqCheck q code 3 = none ∧
        bulkOk q.src.val (q.word 2) (q.word 3) = false) ∧
    (let code : Nat := 0x103; let typ : Nat := 0x0303; let q : Req := editReq 31 8;
    let s : State := bulk (gens 63) redBody; let u : State := s.fetchReq q code;
    let r : Rec :=
        { typ := typ, ver := 1, flags := 0, inst := q.word 1, body := u.bulkRead q.src.val (q.word 2) (q.word 3) };
    let t := done (u.edit [r]); s.running = true ∧ s.reqDue q code = true ∧ (s.fetchReq q code).reqCheck q code 3 =
        none ∧ bulkOk q.src.val (q.word 2) (q.word 3) = true ∧ q.word 1 < 2 ^ 16 ∧ u.edit [r] = .inl t) ∧
    (let code : Nat := 0x103; let typ : Nat := 0x0303; let q : Req := editReq 31 8;
    let s : State := bulk (gens 64) redBody; let u : State := s.fetchReq q code;
    let r : Rec :=
        { typ := typ, ver := 1, flags := 0, inst := q.word 1, body := u.bulkRead q.src.val (q.word 2) (q.word 3) };
        s.running = true ∧ s.reqDue q code = true ∧ (s.fetchReq q code).reqCheck q code 3 = none ∧ bulkOk q.src.val
        (q.word 2) (q.word 3) = true ∧ q.word 1 < 2 ^ 16 ∧ u.edit [r] = .inr 0x14) ∧
    (let code : Nat := 0x103; let typ : Nat := 0x0303; let q : Req := editReq 32 8;
    let s : State := bulk (gens 64) redBody; let u : State := s.fetchReq q code;
    let r : Rec :=
        { typ := typ, ver := 1, flags := 0, inst := q.word 1, body := u.bulkRead q.src.val (q.word 2) (q.word 3) };
    let st := (0x12 : Nat); s.running = true ∧ s.reqDue q code = true ∧ (s.fetchReq q code).reqCheck q code 3 = none ∧
        bulkOk q.src.val (q.word 2) (q.word 3) = true ∧ q.word 1 < 2 ^ 16 ∧ st ≠ 0x14 ∧ u.edit [r] = .inr st) ∧
    (let code : Nat := 0x104; let q : Req := hreq [1, 2, 48];
    let s : State := up; s.running = true ∧ s.reqDue q code = true ∧ (s.fetchReq q code).reqCheck q code 3 = none ∧
        bulkOk q.src.val (q.word 2) (q.word 3) = false) ∧
    (let code : Nat := 0x104; let typ : Nat := 0x0304; let q : Req := editReq 1023 24;
    let s : State := bulk (gens 63) meterBody; let u : State := s.fetchReq q code;
    let r : Rec :=
        { typ := typ, ver := 1, flags := 0, inst := q.word 1, body := u.bulkRead q.src.val (q.word 2) (q.word 3) };
    let t := done (u.edit [r]); s.running = true ∧ s.reqDue q code = true ∧ (s.fetchReq q code).reqCheck q code 3 =
        none ∧ bulkOk q.src.val (q.word 2) (q.word 3) = true ∧ q.word 1 < 2 ^ 16 ∧ u.edit [r] = .inl t) ∧
    (let code : Nat := 0x104; let typ : Nat := 0x0304; let q : Req := editReq 1023 24;
    let s : State := bulk (gens 64) meterBody; let u : State := s.fetchReq q code;
    let r : Rec :=
        { typ := typ, ver := 1, flags := 0, inst := q.word 1, body := u.bulkRead q.src.val (q.word 2) (q.word 3) };
        s.running = true ∧ s.reqDue q code = true ∧ (s.fetchReq q code).reqCheck q code 3 = none ∧ bulkOk q.src.val
        (q.word 2) (q.word 3) = true ∧ q.word 1 < 2 ^ 16 ∧ u.edit [r] = .inr 0x14) ∧
    (let code : Nat := 0x104; let typ : Nat := 0x0304; let q : Req := editReq 1024 24;
    let s : State := bulk (gens 64) meterBody; let u : State := s.fetchReq q code;
    let r : Rec :=
        { typ := typ, ver := 1, flags := 0, inst := q.word 1, body := u.bulkRead q.src.val (q.word 2) (q.word 3) };
    let st := (0x12 : Nat); s.running = true ∧ s.reqDue q code = true ∧ (s.fetchReq q code).reqCheck q code 3 = none ∧
        bulkOk q.src.val (q.word 2) (q.word 3) = true ∧ q.word 1 < 2 ^ 16 ∧ st ≠ 0x14 ∧ u.edit [r] = .inr st) ∧
    (let code : Nat := 0x105; let q : Req := hreq [1, 2, 48];
    let s : State := up; s.running = true ∧ s.reqDue q code = true ∧ (s.fetchReq q code).reqCheck q code 3 = none ∧
        bulkOk q.src.val (q.word 2) (q.word 3) = false) ∧
    (let code : Nat := 0x105; let typ : Nat := 0x0305; let q : Req := editReq 4094 24;
    let s : State := bulk (gens 63) vlanBody; let u : State := s.fetchReq q code;
    let r : Rec :=
        { typ := typ, ver := 1, flags := 0, inst := q.word 1, body := u.bulkRead q.src.val (q.word 2) (q.word 3) };
    let t := done (u.edit [r]); s.running = true ∧ s.reqDue q code = true ∧ (s.fetchReq q code).reqCheck q code 3 =
        none ∧ bulkOk q.src.val (q.word 2) (q.word 3) = true ∧ q.word 1 < 2 ^ 16 ∧ u.edit [r] = .inl t) ∧
    (let code : Nat := 0x105; let typ : Nat := 0x0305; let q : Req := editReq 4094 24;
    let s : State := bulk (gens 64) vlanBody; let u : State := s.fetchReq q code;
    let r : Rec :=
        { typ := typ, ver := 1, flags := 0, inst := q.word 1, body := u.bulkRead q.src.val (q.word 2) (q.word 3) };
        s.running = true ∧ s.reqDue q code = true ∧ (s.fetchReq q code).reqCheck q code 3 = none ∧ bulkOk q.src.val
        (q.word 2) (q.word 3) = true ∧ q.word 1 < 2 ^ 16 ∧ u.edit [r] = .inr 0x14) ∧
    (let code : Nat := 0x105; let typ : Nat := 0x0305; let q : Req := editReq 4095 24;
    let s : State := bulk (gens 64) vlanBody; let u : State := s.fetchReq q code;
    let r : Rec :=
        { typ := typ, ver := 1, flags := 0, inst := q.word 1, body := u.bulkRead q.src.val (q.word 2) (q.word 3) };
    let st := (0x12 : Nat); s.running = true ∧ s.reqDue q code = true ∧ (s.fetchReq q code).reqCheck q code 3 = none ∧
        bulkOk q.src.val (q.word 2) (q.word 3) = true ∧ q.word 1 < 2 ^ 16 ∧ st ≠ 0x14 ∧ u.edit [r] = .inr st) ∧
    (let code : Nat := 0x106; let q : Req := hreq [1, 2, 48];
    let s : State := up; s.running = true ∧ s.reqDue q code = true ∧ (s.fetchReq q code).reqCheck q code 3 = none ∧
        bulkOk q.src.val (q.word 2) (q.word 3) = false) ∧
    (let code : Nat := 0x106; let typ : Nat := 0x0306; let q : Req := editReq 0 16;
    let s : State := bulk (gens 63) fdbBody; let u : State := s.fetchReq q code;
    let r : Rec :=
        { typ := typ, ver := 1, flags := 0, inst := q.word 1, body := u.bulkRead q.src.val (q.word 2) (q.word 3) };
    let t := done (u.edit [r]); s.running = true ∧ s.reqDue q code = true ∧ (s.fetchReq q code).reqCheck q code 3 =
        none ∧ bulkOk q.src.val (q.word 2) (q.word 3) = true ∧ q.word 1 < 2 ^ 16 ∧ u.edit [r] = .inl t) ∧
    (let code : Nat := 0x106; let typ : Nat := 0x0306; let q : Req := editReq 0 16;
    let s : State := bulk (gens 64) fdbBody; let u : State := s.fetchReq q code;
    let r : Rec :=
        { typ := typ, ver := 1, flags := 0, inst := q.word 1, body := u.bulkRead q.src.val (q.word 2) (q.word 3) };
        s.running = true ∧ s.reqDue q code = true ∧ (s.fetchReq q code).reqCheck q code 3 = none ∧ bulkOk q.src.val
        (q.word 2) (q.word 3) = true ∧ q.word 1 < 2 ^ 16 ∧ u.edit [r] = .inr 0x14) ∧
    (let code : Nat := 0x106; let typ : Nat := 0x0306; let q : Req := editReq 1 16;
    let s : State := bulk (gens 64) fdbBody; let u : State := s.fetchReq q code;
    let r : Rec :=
        { typ := typ, ver := 1, flags := 0, inst := q.word 1, body := u.bulkRead q.src.val (q.word 2) (q.word 3) };
    let st := (0x12 : Nat); s.running = true ∧ s.reqDue q code = true ∧ (s.fetchReq q code).reqCheck q code 3 = none ∧
        bulkOk q.src.val (q.word 2) (q.word 3) = true ∧ q.word 1 < 2 ^ 16 ∧ st ≠ 0x14 ∧ u.edit [r] = .inr st) ∧
    (let code : Nat := 0x107; let q : Req := hreq [1, 2, 48];
    let s : State := up; s.running = true ∧ s.reqDue q code = true ∧ (s.fetchReq q code).reqCheck q code 3 = none ∧
        bulkOk q.src.val (q.word 2) (q.word 3) = false) ∧
    (let code : Nat := 0x107; let typ : Nat := 0x0307; let q : Req := editReq 8191 16;
    let s : State := bulk (gens 63) mcastBody; let u : State := s.fetchReq q code;
    let r : Rec :=
        { typ := typ, ver := 1, flags := 0, inst := q.word 1, body := u.bulkRead q.src.val (q.word 2) (q.word 3) };
    let t := done (u.edit [r]); s.running = true ∧ s.reqDue q code = true ∧ (s.fetchReq q code).reqCheck q code 3 =
        none ∧ bulkOk q.src.val (q.word 2) (q.word 3) = true ∧ q.word 1 < 2 ^ 16 ∧ u.edit [r] = .inl t) ∧
    (let code : Nat := 0x107; let typ : Nat := 0x0307; let q : Req := editReq 8191 16;
    let s : State := bulk (gens 64) mcastBody; let u : State := s.fetchReq q code;
    let r : Rec :=
        { typ := typ, ver := 1, flags := 0, inst := q.word 1, body := u.bulkRead q.src.val (q.word 2) (q.word 3) };
        s.running = true ∧ s.reqDue q code = true ∧ (s.fetchReq q code).reqCheck q code 3 = none ∧ bulkOk q.src.val
        (q.word 2) (q.word 3) = true ∧ q.word 1 < 2 ^ 16 ∧ u.edit [r] = .inr 0x14) ∧
    (let code : Nat := 0x107; let typ : Nat := 0x0307; let q : Req := editReq 8192 16;
    let s : State := bulk (gens 64) mcastBody; let u : State := s.fetchReq q code;
    let r : Rec :=
        { typ := typ, ver := 1, flags := 0, inst := q.word 1, body := u.bulkRead q.src.val (q.word 2) (q.word 3) };
    let st := (0x12 : Nat); s.running = true ∧ s.reqDue q code = true ∧ (s.fetchReq q code).reqCheck q code 3 = none ∧
        bulkOk q.src.val (q.word 2) (q.word 3) = true ∧ q.word 1 < 2 ^ 16 ∧ st ≠ 0x14 ∧ u.edit [r] = .inr st) ∧
    (let code : Nat := 0x108; let q : Req := hreq [1, 2, 48];
    let s : State := up; s.running = true ∧ s.reqDue q code = true ∧ (s.fetchReq q code).reqCheck q code 3 = none ∧
        bulkOk q.src.val (q.word 2) (q.word 3) = false) ∧
    (let code : Nat := 0x108; let typ : Nat := 0x0308; let q : Req := editReq 1023 80;
    let s : State := bulk (gens 63) ruleBody; let u : State := s.fetchReq q code;
    let r : Rec :=
        { typ := typ, ver := 1, flags := 0, inst := q.word 1, body := u.bulkRead q.src.val (q.word 2) (q.word 3) };
    let t := done (u.edit [r]); s.running = true ∧ s.reqDue q code = true ∧ (s.fetchReq q code).reqCheck q code 3 =
        none ∧ bulkOk q.src.val (q.word 2) (q.word 3) = true ∧ q.word 1 < 2 ^ 16 ∧ u.edit [r] = .inl t) ∧
    (let code : Nat := 0x108; let typ : Nat := 0x0308; let q : Req := editReq 1023 80;
    let s : State := bulk (gens 64) ruleBody; let u : State := s.fetchReq q code;
    let r : Rec :=
        { typ := typ, ver := 1, flags := 0, inst := q.word 1, body := u.bulkRead q.src.val (q.word 2) (q.word 3) };
        s.running = true ∧ s.reqDue q code = true ∧ (s.fetchReq q code).reqCheck q code 3 = none ∧ bulkOk q.src.val
        (q.word 2) (q.word 3) = true ∧ q.word 1 < 2 ^ 16 ∧ u.edit [r] = .inr 0x14) ∧
    (let code : Nat := 0x108; let typ : Nat := 0x0308; let q : Req := editReq 1024 80;
    let s : State := bulk (gens 64) ruleBody; let u : State := s.fetchReq q code;
    let r : Rec :=
        { typ := typ, ver := 1, flags := 0, inst := q.word 1, body := u.bulkRead q.src.val (q.word 2) (q.word 3) };
    let st := (0x12 : Nat); s.running = true ∧ s.reqDue q code = true ∧ (s.fetchReq q code).reqCheck q code 3 = none ∧
        bulkOk q.src.val (q.word 2) (q.word 3) = true ∧ q.word 1 < 2 ^ 16 ∧ st ≠ 0x14 ∧ u.edit [r] = .inr st) ∧
    (let s : State := up; let t : State := done (up.edit [rcd 0x0304 1023 meterBody]);
    let rs : List Rec := [rcd 0x0304 1023 meterBody]; s.edit rs = .inl t ∧ s.sw.gen + 1 ∉ s.gensHeld) ∧
    (let s : State := tabled; let t : State := done (tabled.edit [rcd 0x0304 1023 meterBody]);
    let rs : List Rec := [rcd 0x0304 1023 meterBody];
    let x := rcd 0x0304 1022 meterBody; s.edit rs = .inl t ∧ x ∈ s.sw.tables ∧ (∀ r ∈ rs, ¬ (r.typ = x.typ ∧ r.inst =
        x.inst))) ∧
    (let s : State := up; let t : State := done (up.edit [rcd 0x0304 1023 meterBody]);
    let rs : List Rec := [rcd 0x0304 1023 meterBody];
    let r := rcd 0x0304 1023 meterBody; s.edit rs = .inl t ∧ rs = [r] ∧ r.typ ≠ 0x0306) ∧
    (let s : State := up;
    let rs : List Rec := [rcd 0x0304 1024 meterBody]; rs.all (swRecOk (rs.foldl putRec s.sw.tables) (s.recsOf
        0x0305).isEmpty true) = false) ∧
    (let s : State := gens 64;
    let rs : List Rec := [rcd 0x0304 1023 meterBody]; rs.all (swRecOk (rs.foldl putRec s.sw.tables) (s.recsOf
        0x0305).isEmpty true) = true ∧ 64 ≤ s.gensHeld.length) ∧
    (let code : Nat := 0x101; let words : Nat := 3;
    let ok : Req → State → Prop := (fun q u => bulkOk q.src.val (q.word 2) (q.word 3) = true ∧ q.word 1 = 0 ∧
      swCoreOk (u.bulkRead q.src.val (q.word 2) (q.word 3)) = true); let q : Req := editReq 0 144;
    let s : State := bulk up coreBody;
    let u : State := s.fetchReq q code; s.running = true ∧ s.reqDue q code = true ∧ (s.fetchReq q code).reqCheck q
        code words = none ∧ ok q u) ∧
    (let q : Req := hreq [0, 40]; let s : State := batch (rcd 0x0304 1023 meterBody);
    let u : State := s.fetchReq q 0x1FF; let rs : List Rec := [rcd 0x0304 1023 meterBody];
    let t := done (u.edit rs); s.running = true ∧ s.reqDue q 0x1FF = true ∧ (s.fetchReq q 0x1FF).reqCheck q 0x1FF 2 =
        none ∧ bulkOk q.src.val (q.word 1) (q.word 2) = true ∧ q.word 2 ≤ 65536 ∧ takeRecs 4096 (u.bulkRead q.src.val
        (q.word 1) (q.word 2)) = some (rs, true, true) ∧ rs ≠ [] ∧ (∀ r ∈ rs, 0x0302 ≤ r.typ ∧ r.typ ≤ 0x0308 ∧ r.ver
        = 1) ∧ u.edit rs = .inl t) ∧
    (let q : Req := hreq [0, 40]; let s : State := batch (rcd 0x0304 1024 meterBody);
    let u : State := s.fetchReq q 0x1FF;
    let rs : List Rec := [rcd 0x0304 1024 meterBody]; s.running = true ∧ s.reqDue q 0x1FF = true ∧ (s.fetchReq q
        0x1FF).reqCheck q 0x1FF 2 = none ∧ bulkOk q.src.val (q.word 1) (q.word 2) = true ∧ q.word 2 ≤ 65536 ∧ takeRecs
        4096 (u.bulkRead q.src.val (q.word 1) (q.word 2)) = some (rs, true, true) ∧ rs ≠ [] ∧ (∀ r ∈ rs, 0x0302 ≤
        r.typ ∧ r.typ ≤ 0x0308 ∧ r.ver = 1) ∧ u.edit rs = .inr 0x12) ∧
    (let q : Req := hreq [0, 40]; let s : State := batch (rcd 0x0309 0 meterBody);
    let u : State := s.fetchReq q 0x1FF;
    let rs : List Rec := [rcd 0x0309 0 meterBody]; s.running = true ∧ s.reqDue q 0x1FF = true ∧ (s.fetchReq q
        0x1FF).reqCheck q 0x1FF 2 = none ∧ bulkOk q.src.val (q.word 1) (q.word 2) = true ∧ q.word 2 ≤ 65536 ∧ takeRecs
        4096 (u.bulkRead q.src.val (q.word 1) (q.word 2)) = some (rs, true, true) ∧ rs ≠ [] ∧ (∃ r ∈ rs, r.typ <
        0x0302 ∨ 0x0308 < r.typ ∨ r.ver ≠ 1)) ∧
    (let code : Nat := 0x709; let words : Nat := 3;
    let ok : Req → State → Prop := (fun q u => bulkOk q.src.val (q.word 2) (q.word 3) = true ∧
      swQuotaOk (q.word 1) (u.bulkRead q.src.val (q.word 2) (q.word 3)) = true ∧
      (u.applyQuota (q.word 1) (u.bulkRead q.src.val (q.word 2) (q.word 3))).reserves + 65536 ≤ 262144);
    let q : Req := editReq 63 72; let s : State := bulk up quotaBody;
    let u : State := s.fetchReq q code; s.running = true ∧ s.reqDue q code = true ∧ (s.fetchReq q code).reqCheck q
        code words = none ∧ ok q u) ∧
    (let code : Nat := 0x709; let words : Nat := 3;
    let bad : Req → State → Prop := (fun q u => bulkOk q.src.val (q.word 2) (q.word 3) = true ∧
    swQuotaOk (q.word 1) (u.bulkRead q.src.val (q.word 2) (q.word 3)) = true ∧
    262144 < (u.applyQuota (q.word 1) (u.bulkRead q.src.val (q.word 2) (q.word 3))).reserves + 65536);
    let ok : Req → State → Prop := bad; let q : Req := editReq 63 72; let s : State := bulk up quotaBig;
    let u : State := s.fetchReq q code; s.running = true ∧ s.reqDue q code = true ∧ (s.fetchReq q code).reqCheck q
        code words = none ∧ ok q u) := by
  refine ⟨?_, ?_, ?_, ?_, ?_, ?_, ?_, ?_, ?_, ?_, ?_, ?_, ?_, ?_, ?_, ?_, ?_, ?_, ?_, ?_, ?_, ?_, ?_, ?_, ?_, ?_, ?_,
        ?_, ?_, ?_, ?_, ?_, ?_, ?_, ?_, ?_, ?_, ?_, ?_⟩ <;> decide

/-! ### The Jabex fabric -/

/-- Every fabric port admitted, FAB.NODE with fabric_id 9, own address 5. -/
def fabUp (f : FabBlk → FabBlk := id) (st : FabState := .admitted) (mode : Byte := 1) : State :=
  let s := withRecs { up with ports := (List.range 4).map (fun n => (64 + n, { cfg := 1, up := true })) }
    (rcd 0x0601 0 [0, 0, 0, 0, 9, 0, 0, 0] :: (List.range 4).map (fun n => rcd 0x0603 n [mode]))
  let p : Tab FabPort := (List.range 4).map (fun n => (n, { st := st }))
  { s with fab := f { s.fab with port := p, addr := 5 } }
def portIs (s : State) (f : FabPort → FabPort) : State := s.setFport 3 (f (s.fport 3))
def hello (id : Word) : HelloMsg :=
  { hdrOk := true, mac := 1, fabricId := id, keyId := 2, serial := 3, addr := 6, claim := 2, lc := 2, port := 0 }
def shaken (lc : Nat) : State := portIs (fabUp id .admitting) (fun p => { p with shake := some 9, peerLc := lc })
def admMsg (last cert sig : Bool) (owner : BitVec 256 := 0) : AdmitMsg := ⟨true, last, cert, sig, owner⟩
def owned (s : State) : State := { s with otp := { s.otp with owners := [7, 8], revoked := 1 } }

/-- A key ID that is not the device's. -/
theorem other_ne : Free.deviceKeyId + 1 ≠ Free.deviceKeyId := by simp

def lsaOf (id : DWord) (seq : Word := 5) : Lsa :=
  { id := id, inc := 1, seq := seq, addr := 7, claim := 2, fixed := false, prio := 0, qual := true, adj := [] }
def other : Lsa := lsaOf (Free.deviceKeyId + 1)

/-- A Jabex frame: 14 bytes, the header with its hcrc, a payload. -/
def jab (h : List Byte) : List Byte := zeros 14 ++ h ++ leBytes 2 ((crc32c h).toNat % 65536) ++ zeros 4
/-- kind, dst, hop, hops, route, inc 1, seq 100, stream 3. -/
def jabHead (kind dst hop hops route : Byte) : List Byte :=
  [0x10 + kind, 0, dst, 0, 7, 0, hop, hops, route, 0, 0, 0, 0, 0, 3, 0, 100, 0, 0, 0, 1, 0]
/-- Bytes with the FCS after them. -/
def withFcs (l : List Byte) : List Byte := l ++ leBytes 4 (crc32 l).toNat
def home70 : List Byte := jab (jabHead 0 5 1 1 2) ++ zeros 28
def jabOf (here : Bool) (kind : Nat) : JabRx :=
  { here := here, port := 2, kind := kind, src := 7, stream := 3, inc := 1, seq := 101, ctx := 3 }
def jabIn (here : Bool) (dests : List Dest := []) : Frame :=
  { src := 67, stamp := 5, gen := 0, bytes := home70.take 38, len := 42, cls := 0, colour := 0,
    jab := some (jabOf here 0), dests := dests }
/-- Frame 1 in reception on F3. -/
def jabIs (f : Frame) (fec : Bool := false) : State :=
  let s := fabUp
  let cfg : Word := if fec then 5 else 1
  let s := s.setPort 67 { (s.port 67) with rx := some 1, cfg := cfg, speed := bit fec }
  { s with sw := { s.sw with frames := [(1, f)] } }
def win (h : Word) (bm : DWord) : StreamWin := { src := 7, stream := 3, inc := 1, h := h, bitmap := bm, at_ := 0 }
def wins (bm : DWord) : State := fabUp (fun f => { f with windows := [win 100 bm] })
def copy0 : Copy := { fid := 1, cells := 1, since := 0 }
def delivery0 : Delivery := { entry := 0, queue := 67, point := 1, quality := 0, value := 0, stamp := 0, tag := 0, window := 0 }
def staged1023 : State :=
  { (withRecs (sysUp (fun y => { y with mono := ms 200 })) [rcd 0x0604 1023 [6, 0, 1, 0]]) with
    pnt := { up.pnt with stage := [(1023, List.replicate 65 delivery0)] } }
/-- One qualified LSA, of the neighbour on F3; TIME.SOURCE names Jabex. -/
def timed : State :=
  let s := portIs (fabUp (fun f => { f with db := [other] })) (fun p => { p with peerId := Free.deviceKeyId + 1 })
  withRecs { s with fab := { s.fab with port := [(3, s.fport 3)] } } [rcd 0x0601 0 [0], rcd 0x0603 3 [1], rcd 0x0401 0 [3]]

theorem test_hyps_FabricNeighboursAreAdmitted_owner :
    let s := portIs (owned (shaken 2)) (fun p => { p with peerId := Free.deviceKeyId + 1 })
    (s.otp.active = some 1 ∧ s.otp.owners[1]? = some (admMsg true true true 8).owner) ∧
    (s.fport 3).peerId ≠ Free.deviceKeyId := ⟨by decide, other_ne⟩

theorem test_hyps_FabricDatabaseAndClaims_lsa :
    (fabUp.fabTakes 3 = true ∧ (fabUp (st := .stranger)).fabTakes 3 = false) ∧ other.id ≠ Free.deviceKeyId ∧
    (∀ x ∈ [other], x.id = other.id → x.inc = other.inc ∧ other.seq ≤ x.seq) ∧ (∃ x ∈ [other], x.id = other.id) ∧
    (∀ x ∈ [lsaOf (Free.deviceKeyId + 1) 4], x.id = other.id → x.inc ≠ other.inc ∨ x.seq < other.seq) ∧
    (fabUp (fun f => { f with db := [other] })).fab.claim ≠ 3 := by
  refine ⟨by decide, other_ne, ?_, ?_, ?_, by decide⟩ <;> simp [other, lsaOf]

/-- Another device's static claim of the own address. -/
def rival (claim : Nat) : State :=
  fabUp (fun f => { f with claim := claim, db := [{ other with addr := 5, fixed := true }] })

theorem test_hyps_FabricDatabaseAndClaims_rival :
    (rival 1).running = true ∧ (rival 1).fab.claim = 1 ∧ (rival 1).claimLoses = true := by
  refine ⟨by decide, by decide, ?_⟩
  simp only [State.claimLoses, Bool.and_eq_true, List.any_eq_true, bne_iff_ne]
  exact ⟨by decide, _, List.mem_singleton.2 rfl, ⟨other_ne, by decide⟩, by decide⟩

theorem test_hyps_FabricFramesAndTime_parent : timed.parentPort = some 3 := by
  have h : timed.timeRef = some other := rfl
  have l : timed.fab.db.length = 1 := rfl
  have g : timed.hopsTo (Free.deviceKeyId + 1) (Free.deviceKeyId + 1) = some 0 := by
    simp [State.hopsTo, State.grow, l, List.range_succ]
  have a : (List.range 4).filter timed.admitted = [3] := by decide
  have u : timed.usesJabex = true := by decide
  have p : (timed.fport 3).peerId = Free.deviceKeyId + 1 := rfl
  have o : other.id = Free.deviceKeyId + 1 := rfl
  simp only [State.parentPort, h, a, u, o, p, g, List.filterMap]
  simp [leastBy]


theorem test_hyps_FabricNeighboursAreAdmitted :
    (let code : Nat := 0x201; let words : Nat := 1; let bad : Req → State → Prop := (fun _ u => u.fabNode = false);
    let ok : Req → State → Prop := bad; let q : Req := hreq [0x10003]; let s : State := up;
    let u : State := s.fetchReq q code; s.running = true ∧ s.reqDue q code = true ∧ (s.fetchReq q code).reqCheck q
        code words = none ∧ ok q u) ∧
    (let code : Nat := 0x201; let words : Nat := 1;
    let bad : Req → State → Prop := (fun q u => u.fabNode = true ∧ q.word 1 / 2 ^ 16 = 0);
    let ok : Req → State → Prop := bad; let q : Req := hreq [3]; let s : State := fabUp;
    let u : State := s.fetchReq q code; s.running = true ∧ s.reqDue q code = true ∧ (s.fetchReq q code).reqCheck q
        code words = none ∧ ok q u) ∧
    (let code : Nat := 0x201; let words : Nat := 1;
    let ok : Req → State → Prop := (fun q u => u.fabNode = true ∧ bits (q.word 1) 15 2 = 0 ∧ q.word 1 / 2 ^ 16 ≠ 0);
    let q : Req := hreq [0xFFFF0003]; let s : State := fabUp;
    let u : State := s.fetchReq q code; s.running = true ∧ s.reqDue q code = true ∧ (s.fetchReq q code).reqCheck q
        code words = none ∧ ok q u) ∧
    (let code : Nat := 0x202; let words : Nat := 1;
    let ok : Req → State → Prop := (fun q u => u.fabNode = true ∧ bits (q.word 1) 15 12 = 0 ∧ q.word 1 < 2 ^ 17 ∧
      bits (q.word 1) 11 0 ≠ u.fab.addr ∧ (u.binding (bits (q.word 1) 11 0)).isSome = true);
    let q : Req := hreq [0x10007]; let s : State := fabUp (fun f => { f with db := [lsaOf 1] });
    let u : State := s.fetchReq q code; s.running = true ∧ s.reqDue q code = true ∧ (s.fetchReq q code).reqCheck q
        code words = none ∧ ok q u) ∧
    (let code : Nat := 0x202; let words : Nat := 1;
    let bad : Req → State → Prop := (fun q u => u.fabNode = true ∧ bits (q.word 1) 11 0 = u.fab.addr);
    let ok : Req → State → Prop := bad; let q : Req := hreq [5]; let s : State := fabUp;
    let u : State := s.fetchReq q code; s.running = true ∧ s.reqDue q code = true ∧ (s.fetchReq q code).reqCheck q
        code words = none ∧ ok q u) ∧
    (let code : Nat := 0x203; let words : Nat := 0; let ok : Req → State → Prop := (fun _ u => u.fabNode = true);
    let q : Req := hreq []; let s : State := fabUp; let u : State := s.fetchReq q code; let n : Fin 4 := 3;
    let m : HelloMsg := { hello 9 with hdrOk := false }; s.running = true ∧ s.reqDue q code = true ∧ (s.fetchReq q
        code).reqCheck q code words = none ∧ ok q u ∧ s.takesPort (64 + n) = true ∧ m.hdrOk = false) ∧
    (let n : Fin 4 := 3; let m : HelloMsg := hello 9;
    let s : State := fabUp id .admitting 0; s.takesPort (64 + n) = true ∧ m.hdrOk = true ∧ s.fabMode n = false) ∧
    (let n : Fin 4 := 3; let m : HelloMsg := hello 9; let s : State := fabUp;
    let p := s.fport n; s.takesPort (64 + n) = true ∧ m.hdrOk = true ∧ s.fabMode n = true ∧ p.st = .admitted) ∧
    (let n : Fin 4 := 3; let m : HelloMsg := hello 9; let s : State := fabUp id .admitting;
    let p := s.fport n; s.takesPort (64 + n) = true ∧ m.hdrOk = true ∧ s.fabMode n = true ∧ p.st = .admitting ∧
        p.shake = none ∧ m.fabricId.toNat = s.fld 0x0601 0 4 4 0) ∧
    (let n : Fin 4 := 3; let m : HelloMsg := hello 8; let s : State := fabUp id .admitting;
    let p := s.fport n; s.takesPort (64 + n) = true ∧ m.hdrOk = true ∧ s.fabMode n = true ∧ p.st = .admitting ∧
        p.shake = none ∧ m.fabricId.toNat ≠ s.fld 0x0601 0 4 4 0) ∧
    (let n : Fin 4 := 3; let m : AdmitMsg := admMsg false true true; let s : State := shaken 2;
    let id : Word := 9; s.takesPort (64 + n) = true ∧ s.fabMode n = true ∧ m.hdrOk = true ∧ (s.fport n).shake = some
        id ∧ m.last = false) ∧
    (let n : Fin 4 := 3; let m : AdmitMsg := admMsg true false true; let s : State := shaken 2; let id : Word := 9;
    let known := id.toNat = s.fld 0x0601 0 4 4 0; s.takesPort (64 + n) = true ∧ s.fabMode n = true ∧ m.hdrOk = true ∧
        (s.fport n).shake = some id ∧ m.last = true ∧ known ∧ m.cert = false) ∧
    (let n : Fin 4 := 3; let m : AdmitMsg := admMsg true true false; let s : State := shaken 2; let id : Word := 9;
    let known := id.toNat = s.fld 0x0601 0 4 4 0; s.takesPort (64 + n) = true ∧ s.fabMode n = true ∧ m.hdrOk = true ∧
        (s.fport n).shake = some id ∧ m.last = true ∧ known ∧ m.cert = true ∧ m.sig = false) ∧
    (let n : Fin 4 := 3; let m : AdmitMsg := admMsg true true true; let s : State := shaken 4; let id : Word := 9;
    let p := s.fport n; let known := id.toNat = s.fld 0x0601 0 4 4 0;
    let lc := p.peerLc = 1 ∨ p.peerLc = 2 ∨ p.peerLc = 3; s.takesPort (64 + n) = true ∧ s.fabMode n = true ∧ m.hdrOk =
        true ∧ (s.fport n).shake = some id ∧ m.last = true ∧ known ∧ m.cert = true ∧ m.sig = true ∧ ¬ lc) ∧
    (let n : Fin 4 := 3; let m : AdmitMsg := admMsg true true true 7; let s : State := owned (shaken 1);
    let id : Word := 9; let p := s.fport n; let known := id.toNat = s.fld 0x0601 0 4 4 0;
    let lc := p.peerLc = 1 ∨ p.peerLc = 2 ∨ p.peerLc = 3;
    let a := (1 : Nat); s.takesPort (64 + n) = true ∧ s.fabMode n = true ∧ m.hdrOk = true ∧ (s.fport n).shake = some
        id ∧ m.last = true ∧ known ∧ m.cert = true ∧ m.sig = true ∧ lc ∧ s.fld 0x0601 0 3 1 0 = 0 ∧ s.otp.active =
        some a ∧ s.otp.owners[a]? ≠ some m.owner) ∧
    (let n : Fin 4 := 3; let s : State := shaken 2; s.running = true ∧ (s.fport n).shake ≠ none) ∧
    (let n : Fin 4 := 3; let s : State := portIs (fabUp id .stranger) (fun p => { p with heard := some 9 });
    let id : Word := 9; s.running = true ∧ s.fabState n = 4 ∧ (s.fport n).heard = some id ∧ id.toNat = s.fld 0x0601 0
        4 4 0) ∧
    (let n : Fin 4 := 3; let s : State := portIs (fabUp id .stranger) (fun p => { p with heard := some 8 });
    let id : Word := 8; s.running = true ∧ s.fabState n = 4 ∧ (s.fport n).heard = some id ∧ id.toNat ≠ s.fld 0x0601 0
        4 4 0) ∧
    (let n : Fin 4 := 3; let s : State := fabUp;
    let p := s.fport n; s.running = true ∧ s.fabMode n = true ∧ p.st = .admitted) ∧
    (let n : Fin 4 := 3; let s : State := shaken 2;
    let p := s.fport n; s.running = true ∧ s.fabMode n = true ∧ p.st ≠ .admitted) := by
  refine ⟨?_, ?_, ?_, ?_, ?_, ?_, ?_, ?_, ?_, ?_, ?_, ?_, ?_, ?_, ?_, ?_, ?_, ?_, ?_, ?_⟩ <;> decide +kernel

theorem test_hyps_FabricDatabaseAndClaims :
    (let n : Fin 4 := 3;
    let s : State := fabUp id .stranger; s.running = true ∧ s.fabTakes n = false ∧ s.fabState n = 4) ∧
    (let s : State := fabUp; s.tt.lsaDue = false ∧ s.sys.mono < s.fab.lsaAt + sec 30) ∧
    (let s : State := { fabUp with tt := { up.tt with lsaDue := true } }; s.running = true ∧ s.fabNode = true ∧
        s.tt.lsaDue = true ∨ s.fab.lsaAt + sec 30 ≤ s.sys.mono) ∧
    (let s : State := fabUp (fun f => { f with claim := 1 }); s.running = true ∧ s.fab.claim = 1 ∧ s.claimLoses =
        false) ∧
    (let s : State := fabUp; s.running = true ∧ s.fab.claim ≠ 1) ∧
    (let s : State := fabUp (fun f => { f with spfDue := true }); s.running = true ∧ s.fabNode = true ∧ s.fab.spfDue =
        true) ∧
    (let s : State := wins 1; s.running = true) := by
  refine ⟨?_, ?_, ?_, ?_, ?_, ?_, ?_⟩ <;> decide +kernel

theorem test_hyps_FabricFramesAndTime :
    (let n : Fin 4 := 3; let b : List Byte := zeros 38;
    let s : State := fabUp; s.fabTakes n = true ∧ 38 ≤ b.length ∧ (s.port (64 + n)).rx = none ∧ ¬ jabexOk b) ∧
    (let n : Fin 4 := 3; let b : List Byte := jab (jabHead 1 6 0 1 2); let s : State := fabUp.setFport 2 {};
    let h := (b.drop 14).take 24;
    let port := routeEntry (rdLE h 8 6) (byteAt h 6); s.fabTakes n = true ∧ 38 ≤ b.length ∧ (s.port (64 + n)).rx =
        none ∧ jabexOk b ∧ byteAt h 0 % 16 < 2 ∧ byteAt h 6 < byteAt h 7 ∧ s.admitted port = false) ∧
    (let n : Fin 4 := 3; let b : List Byte := jab (jabHead 1 6 0 1 2); let s : State := fabUp;
    let h := (b.drop 14).take 24;
    let port := routeEntry (rdLE h 8 6) (byteAt h 6); s.fabTakes n = true ∧ 38 ≤ b.length ∧ (s.port (64 + n)).rx =
        none ∧ jabexOk b ∧ byteAt h 0 % 16 < 2 ∧ byteAt h 6 < byteAt h 7 ∧ s.admitted port = true) ∧
    (let n : Fin 4 := 3; let b : List Byte := jab (jabHead 1 6 1 1 2); let s : State := fabUp;
    let h := (b.drop 14).take 24; let dst := rdLE h 2 2 % 4096;
    let home := byteAt h 6 = byteAt h 7 ∧ dst = s.fab.addr ∧ dst ≠ 0; s.fabTakes n = true ∧ 38 ≤ b.length ∧ (s.port
        (64 + n)).rx = none ∧ jabexOk b ∧ byteAt h 0 % 16 < 2 ∧ byteAt h 7 < byteAt h 6 ∨ byteAt h 6 = byteAt h 7 ∧ ¬
        home) ∧
    (let n : Fin 4 := 3; let b : List Byte := jab (jabHead 1 5 1 1 2); let s : State := fabUp;
    let h := (b.drop 14).take 24; let dst := rdLE h 2 2 % 4096;
    let home := byteAt h 6 = byteAt h 7 ∧ dst = s.fab.addr ∧ dst ≠ 0; s.fabTakes n = true ∧ 38 ≤ b.length ∧ (s.port
        (64 + n)).rx = none ∧ jabexOk b ∧ byteAt h 0 % 16 < 2 ∧ home) ∧
    (let b : List Byte := home70; 38 ≤ b.length ∧ byteAt b 20 < 255) ∧
    (let n : Fin 4 := 3; let b : List Byte := zeros 63; let pcs : Pcs := {}; let s : State := fabUp;
    let o := rxOutcome b.length 9216 (fcsOk b) pcs.sym; s.takesPort (64 + n) = true ∧ s.fecOn (64 + n) = false ∧
        (s.port (64 + n)).rx = none ∧ o ≠ 0) ∧
    (let n : Fin 4 := 3; let b : List Byte := zeros 64; let pcs : Pcs := { corr := 5, unc := 1 };
    let s : State := (jabIs (jabIn true) true).setPort 67 { ((jabIs (jabIn true) true).port 67) with rx := none };
        s.takesPort (64 + n) = true ∧ s.fecOn (64 + n) = true ∧ (s.port (64 + n)).rx = none ∧ 64 ≤ b.length ∧ b.length
        ≤ 9216 ∧ pcs.sym = false ∧ pcs.unc ≠ 0) ∧
    (let n : Fin 4 := 3; let b : List Byte := withFcs home70; let pcs : Pcs := {};
    let s : State := jabIs (jabIn true); let o := rxOutcome b.length 9216 (fcsOk b) pcs.sym;
    let body := b.take (b.length - 4);
    let fid := 1; s.takesPort (64 + n) = true ∧ s.fecOn (64 + n) = false ∧ (s.port (64 + n)).rx = some fid ∧ o = 0 ∧
        pauseOp (parse body) body = none) ∧
    (let fid : Nat := 1; let f : Frame := jabIn true; let x : JabRx := jabOf true 0;
    let s : State := jabIs (jabIn true); s.frame fid = some f ∧ f.jab = some x ∧ x.here = true) ∧
    (let fid : Nat := 1; let f : Frame := jabIn false [{ port := 66 }]; let x : JabRx := jabOf false 0;
    let s : State := jabIs (jabIn false [{ port := 66 }]);
    let d := { port := 66 }; s.frame fid = some f ∧ f.jab = some x ∧ x.here = false ∧ f.dests = [d]) ∧
    (let x : JabRx := { jabOf true 0 with seq := 100 }; let s : State := wins 5; let key := match s.binding x.src with
      | some l => l.id
      | none => BitVec.ofNat 64 x.src; let judged := s.windowJudge key x.stream x.inc x.seq; judged.1 = false) ∧
    (let x : JabRx := jabOf true 1; let s : State := wins 5; let key := match s.binding x.src with
      | some l => l.id
      | none => BitVec.ofNat 64 x.src;
    let judged := s.windowJudge key x.stream x.inc x.seq; judged.1 = true ∧ x.kind = 1) ∧
    (let x : JabRx := jabOf true 0; let s : State := wins 5; let key := match s.binding x.src with
      | some l => l.id
      | none => BitVec.ofNat 64 x.src;
    let judged := s.windowJudge key x.stream x.inc x.seq; judged.1 = true ∧ x.kind ≠ 1 ∧ judged.2.ctxImport x.src
        x.ctx = false) ∧
    (let x : JabRx := jabOf true 0;
    let s : State := withRecs (wins 5) ((wins 5).cfg.recs ++ [rcd 0x0605 0 (zeros 14 ++ [8])]);
    let key := match s.binding x.src with
      | some l => l.id
      | none => BitVec.ofNat 64 x.src;
    let judged := s.windowJudge key x.stream x.inc x.seq; judged.1 = true ∧ x.kind ≠ 1 ∧ judged.2.ctxImport x.src
        x.ctx = true) ∧
    (let s : State := wins 5; let src : DWord := 7; let st : Nat := 3; let inc : Byte := 1; let seq : Word := 101;
    let w : StreamWin := win 100 5;
    let d := (seq - w.h).toInt; s.fab.windows = [w] ∧ w.src = src ∧ w.stream = st ∧ inc = w.inc ∧ 0 < d) ∧
    (let s : State := wins 5; let src : DWord := 7; let st : Nat := 3; let inc : Byte := 1; let seq : Word := 98;
    let w : StreamWin := win 100 5;
    let d := (seq - w.h).toInt; s.fab.windows = [w] ∧ w.src = src ∧ w.stream = st ∧ inc = w.inc ∧ -64 < d ∧ d ≤ 0 ∧
        w.bitmap.getLsbD d.natAbs = true) ∧
    (let s : State := wins 5; let src : DWord := 7; let st : Nat := 3; let inc : Byte := 1; let seq : Word := 37;
    let w : StreamWin := win 100 5;
    let d := (seq - w.h).toInt; s.fab.windows = [w] ∧ w.src = src ∧ w.stream = st ∧ inc = w.inc ∧ -64 < d ∧ d ≤ 0 ∧
        w.bitmap.getLsbD d.natAbs = false) ∧
    (let s : State := wins 5; let src : DWord := 7; let st : Nat := 3; let inc : Byte := 1; let seq : Word := 36;
    let w : StreamWin := win 100 5;
    let d := (seq - w.h).toInt; s.fab.windows = [w] ∧ w.src = src ∧ w.stream = st ∧ inc = w.inc ∧ d ≤ -64) ∧
    (let s : State := at' (wins 5) 4000000; let src : DWord := 7; let st : Nat := 3; let inc : Byte := 2;
    let w : StreamWin := win 100 5; s.fab.windows = [w] ∧ w.src = src ∧ w.stream = st ∧ inc ≠ w.inc ∧ s.time.t.toNat ≤
        w.at_.toNat + 4000000) ∧
    (let s : State := at' (wins 5) 4000001; let src : DWord := 7; let st : Nat := 3; let inc : Byte := 2;
    let w : StreamWin := win 100 5; s.fab.windows = [w] ∧ w.src = src ∧ w.stream = st ∧ inc ≠ w.inc ∧ w.at_.toNat +
        4000000 < s.time.t.toNat) ∧
    (let n : Fin 4 := 3; let c : Fin 8 := 7; let x : Copy := copy0; let rest : List Copy := [];
    let s : State :=
        { (monoAt (ms 4) fabUp) with sw := { up.sw with queue := [(543, [copy0])], frames := [(1, { jabIn true with bytes := home70 })] } };
        s.running = true ∧ s.queue (64 + n) c = x :: rest ∧ s.begun (64 + n) x = false ∧ x.since + ms 4 ≤ s.sys.mono ∧
        (s.frame x.fid).any (fun f => decide (jabexKind f.bytes < 2)) = true) ∧
    (let n : Fin 4 := 3; let c : Fin 8 := 7;
    let s : State := fabUp; (∀ x ∈ s.queue (64 + n) c, s.sys.mono < x.since + ms 4)) ∧
    (let st : Fin 1024 := 1023;
    let s : State := monoAt (ms 200 - 1) staged1023; s.mayOriginate = false ∨ s.batchDue st = false) ∧
    (let st : Fin 1024 := 1023;
    let s : State := staged1023; s.running = true ∧ s.mayOriginate = true ∧ s.batchDue st = true ∧ s.fld 0x0604 st 2 1
        0 = 1) ∧
    (let n : Fin 4 := 3; let t1 : DWord := 10; let t2 : DWord := 13; let t3 : DWord := 20; let t4 : DWord := 21;
    let s : State := fabUp;
    let k : Int := 2; s.fabTakes n = true ∧ (t2 - t1).toInt + (t4 - t3).toInt = 2 * k ∧ (s.fport n).sync = none) ∧
    (let n : Fin 4 := 3;
    let s : State := portIs fabUp (fun p => { p with sync := some 9 }); s.fabTakes n = true ∧ (s.fport n).sync.isSome
        = true ∧ s.parentPort ≠ some n.val ∧ s.running = true) := by
  refine ⟨?_, ?_, ?_, ?_, ?_, ?_, ?_, ?_, ?_, ?_, ?_, ?_, ?_, ?_, ?_, ?_, ?_, ?_, ?_, ?_, ?_, ?_, ?_, ?_, ?_, ?_, ?_⟩
        <;> decide +kernel

/-! ### The time island -/

def timeIs (f : TimeBlk → TimeBlk) (r : List Byte := []) : State := withRecs { up with time := f up.time } [rcd 0x0401 0 r]
def servo (st : ServoState) (f : TimeBlk → TimeBlk := id) : State :=
  timeIs (fun t => f { t with st := st, src := 1 }) [1, 2]
def irigUp (f : TimeBlk → TimeBlk := id) : State := withRecs { up with time := f up.time } [rcd 0x0405 0 [0]]
/-- In a leap second's neighbourhood: the TAI second of device time, utc_offset 37. -/
def leapAt (sec : Nat) (f : TimeBlk → TimeBlk) : State :=
  timeIs (fun t => f { t with t := BitVec.ofNat 64 (sec * 4000000000), utc := 37 })
def sample (off : DWord) : Sample := ⟨77, off, 0, 0, true, false, false⟩
def irig (valid : Bool) (sec : Nat) : IrigFrame := 
  { valid := valid, second := sec, zone := 0, leap := ⟨none, false, false⟩, stamp := 5 }
def sysRefs (a b bad : Bool) : State := sysUp (fun y => { y with refA := a, refB := b, refbBad := bad })


theorem test_hyps_TimeStepsAndReferenceClocks :
    (let q : Req := hreq [5, 0]; let s : State := timeIs (fun t => { t with st := .acquire });
    let u : State := s.fetchReq q 0x401; s.running = true ∧ s.reqDue q 0x401 = true ∧ (s.fetchReq q 0x401).reqCheck q
        0x401 2 = none ∧ u.time.st = .freerun ∨ u.time.st = .acquire) ∧
    (let q : Req := hreq [5, 0]; let s : State := timeIs (fun t => { t with st := .locked });
    let u : State := s.fetchReq q 0x401; s.running = true ∧ s.reqDue q 0x401 = true ∧ (s.fetchReq q 0x401).reqCheck q
        0x401 2 = none ∧ u.time.st = .locked ∨ u.time.st = .holdover) ∧
    (let q : Req := hreq [5, 0]; let s : State := up;
    let u : State := s.fetchReq q 0x402; s.running = true ∧ s.reqDue q 0x402 = true ∧ (s.fetchReq q 0x402).reqCheck q
        0x402 2 = none ∧ u.time.st = .freerun) ∧
    (let q : Req := hreq [5, 0]; let s : State := timeIs (fun t => { t with st := .acquire });
    let u : State := s.fetchReq q 0x402; s.running = true ∧ s.reqDue q 0x402 = true ∧ (s.fetchReq q 0x402).reqCheck q
        0x402 2 = none ∧ u.time.st ≠ .freerun) ∧
    (let q : Req := hreq [5]; let s : State := timeIs (fun t => { t with src := 2 });
    let u : State := s.fetchReq q 0x403; s.running = true ∧ s.reqDue q 0x403 = true ∧ (s.fetchReq q 0x403).reqCheck q
        0x403 1 = none ∧ u.time.src = 1 ∨ u.time.src = 2) ∧
    (let q : Req := hreq [0x2FF]; let s : State := timeIs (fun t => { t with src := 3 });
    let u : State := s.fetchReq q 0x403;
    let w := q.word 1; s.running = true ∧ s.reqDue q 0x403 = true ∧ (s.fetchReq q 0x403).reqCheck q 0x403 1 = none ∧
        u.time.src = 0 ∨ u.time.src = 3 ∧ w < 1024 ∧ ¬ (tst w 8 = true ∧ tst w 9 = true)) ∧
    (let q : Req := hreq [0x3FF]; let s : State := timeIs (fun t => { t with src := 3 });
    let u : State := s.fetchReq q 0x403;
    let w := q.word 1; s.running = true ∧ s.reqDue q 0x403 = true ∧ (s.fetchReq q 0x403).reqCheck q 0x403 1 = none ∧
        u.time.src = 0 ∨ u.time.src = 3 ∧ tst w 8 = true ∧ tst w 9 = true) ∧
    (let s : State := timeIs (fun t => { t with posted := some (-16384), st := .acquire });
    let n : Int := -1; s.running = true ∧ s.time.posted = some (16384 * n) ∧ s.time.st = .freerun ∨ s.time.st =
        .acquire) ∧
    (let s : State := timeIs (fun t => { t with posted := some 16384, st := .locked });
    let n : Int := 1; s.running = true ∧ s.time.posted = some (16384 * n) ∧ s.time.st = .locked ∨ s.time.st =
        .holdover) ∧
    (let s : State := leapAt 38 (fun t => { t with leap61 := true }); s.running = true ∧ s.time.leap61 = true ∧
        s.pastMidnight 1 = true) ∧
    (let s : State := leapAt 36 (fun t => { t with leap59 := true }); s.running = true ∧ s.time.leap61 = false ∧
        s.time.leap59 = true ∧ s.pastMidnight (-1) = true) ∧
    (let s : State := leapAt 37 (fun t => { t with leap61 := true, leap59 := true }); s.running = true ∧
        (s.time.leap61 = true → s.pastMidnight 1 = false) ∧ (s.time.leap59 = true → s.pastMidnight (-1) = false)) ∧
    (let s : State := monoAt (sec 120 + 1) up; s.running = true ∧ s.longUp = true) ∧
    (let s : State := monoAt (sec 120) up; s.running = true ∧ s.longUp = false) ∧
    (let s : State := monoAt (sec 120 + 1) up; s.running = true ∧ s.qualified = false ∧ s.longUp = true ∧ s.tt.qualAt
        + sec 120 < s.sys.mono) ∧
    (let s : State := monoAt (sec 120) up; s.running = true ∧ s.qualified = true ∨ s.sys.mono ≤ s.tt.qualAt + sec 120)
        ∧
    (let s : State := monoAt 1 (timeIs (fun t => { t with st := .holdover })); s.running = true ∧ s.time.st =
        .holdover ∧ s.holdoverOk = false) ∧
    (let s : State := timeIs (fun t => { t with st := .holdover }); s.running = true ∧ s.holdoverOk = true) ∧
    (let s : State := withRecs { (monoAt (ms 1) up) with tt := { up.tt with stepAt := some 0 } } [rcd 0x0501 0 [0, 0,
        0, 0, 1]]; s.running = true ∧ s.stepClear = true) ∧
    (let s : State := { (monoAt (ms 1 - 1) up) with tt := { up.tt with stepAt := some 0 } }; s.running = true ∧
        s.stepClear = false) ∧
    (let s : State := sysRefs false true false; s.running = true) ∧
    (let s : State := sysRefs true true false; s.running = true ∧ s.sys.refA = true ∧ s.sys.refbBad = false ∧
        s.sys.refB = true) ∧
    (let s : State := sysRefs true false false; s.running = true ∧ s.sys.refA = true ∧ (s.sys.refbBad = true ∨
        s.sys.refB = false)) ∧
    (let s : State := { sysRefs false true false with time := { up.time with onRefb := true } }; s.running = true ∧
        s.sys.refB = true ∧ s.time.onRefb = true) ∧
    (let s : State := sysRefs true true false; s.running = true ∧ s.sys.refB = true ∧ s.time.onRefb = false ∧
        s.tt.ring = false) := by
  refine ⟨?_, ?_, ?_, ?_, ?_, ?_, ?_, ?_, ?_, ?_, ?_, ?_, ?_, ?_, ?_, ?_, ?_, ?_, ?_, ?_, ?_, ?_, ?_, ?_, ?_⟩ <;>
        decide +kernel

theorem test_hyps_ServoFollowsItsSource :
    (let src : Fin 4 := 1; let m : Sample := sample 0;
    let s : State := servo .locked (fun t => { t with posted := some 0 }); s.running = true ∧ (src.val = 0 ∨ src.val =
        s.time.src ∧ s.time.posted ≠ none ∨ src.val ≠ s.time.src ∧ m.offValid = false)) ∧
    (let src : Fin 4 := 1; let m : Sample := sample 655360000;
    let s : State := servo .locked (fun t => { t with runOut := 3 }); s.sampled src m ∧ s.time.st = .locked ∧
        s.time.stepAt ≤ m.offset.toInt.natAbs ∧ s.time.lockAt ≤ m.offset.toInt.natAbs) ∧
    (let src : Fin 4 := 1; let m : Sample := sample 655360000;
    let s : State := servo .acquire; s.sampled src m ∧ s.time.st = .acquire ∧ s.time.stepAt ≤ m.offset.toInt.natAbs ∧
        s.time.lockAt ≤ m.offset.toInt.natAbs) ∧
    (let src : Fin 4 := 1; let m : Sample := sample 6553599;
    let s : State := servo .acquire (fun t => { t with runLow := 7 }); s.sampled src m ∧ s.time.st = .acquire ∧
        m.offset.toInt.natAbs < s.time.lockAt) ∧
    (let src : Fin 4 := 1; let m : Sample := sample 6553599;
    let s : State := servo .freerun; s.sampled src m ∧ s.time.st = .freerun ∧ m.offset.toInt.natAbs < s.time.lockAt) ∧
    (let s : State := timeIs id [1, 2, 1]; s.sys.mono < s.time.validAt + s.lossTime) ∧
    (let s : State := servo .locked (fun t => { t with secAt := some 0 }); s.running = true ∧ s.time.src ≠ 0 ∧
        s.time.validAt + s.lossTime ≤ s.sys.mono ∧ s.time.src = s.primary ∧ s.secondary ≠ 0 ∧ s.time.secAt.isSome =
        true) ∧
    (let s : State := servo .acquire; s.running = true ∧ s.time.src ≠ 0 ∧ s.time.validAt + s.lossTime ≤ s.sys.mono ∧
        s.time.src ≠ s.primary ∨ s.secondary = 0 ∨ s.time.secAt = none ∧ s.time.st = .acquire) ∧
    (let s : State := servo .locked (fun t => { t with freqs := List.replicate 64 5 }); let n : Nat := 63;
    let f : Int := 5; s.running = true ∧ s.time.src ≠ 0 ∧ s.time.validAt + s.lossTime ≤ s.sys.mono ∧ s.time.src ≠
        s.primary ∨ s.secondary = 0 ∨ s.time.secAt = none ∧ s.time.st = .locked ∧ s.time.freqs = List.replicate (n +
        1) f) ∧
    (let s : State := servo .freerun; s.running = true ∧ s.time.src ≠ 0 ∧ s.time.validAt + s.lossTime ≤ s.sys.mono ∧
        s.time.src ≠ s.primary ∨ s.secondary = 0 ∨ s.time.secAt = none ∧ s.time.st = .freerun) ∧
    (let f : IrigFrame := irig false 1; let s : State := irigUp;
    let clean := ∀ x ∈ s.time.irigPulses, x.1 ≠ 3; s.running = true ∧ s.irigIn = true ∧ f.valid = false ∨ ¬ clean) ∧
    (let f : IrigFrame := irig true 2; let s : State := irigUp (fun t => { t with irigLast := some 2 });
    let clean := ∀ x ∈ s.time.irigPulses, x.1 ≠ 3;
    let l : Nat := 2; s.running = true ∧ s.irigIn = true ∧ f.valid = true ∧ clean ∧ s.time.irigLast = some l ∧
        f.second ≠ l + 1) ∧
    (let f : IrigFrame := irig true 3; let s : State := irigUp (fun t => { t with irigLast := some 2, src := 2 });
    let clean := ∀ x ∈ s.time.irigPulses, x.1 ≠ 3; s.running = true ∧ s.irigIn = true ∧ f.valid = true ∧ clean ∧ (∀ l,
        s.time.irigLast = some l → f.second = l + 1) ∧ s.time.src = 2 ∧ s.time.posted = none) ∧
    (let s : State := monoAt (sec 1) irigUp; s.running = true ∧ s.irigIn = true ∧ max s.time.irigAt s.sys.readyAt +
        s.lossTime ≤ s.sys.mono) ∧
    (let s : State := irigUp; s.running = true ∧ s.irigIn = true ∧ s.sys.mono < max s.time.irigAt s.sys.readyAt +
        s.lossTime) ∧
    (let x : DWord := 2000000000;
    let s : State := timeIs (fun t => { t with ppsBad := true, ppsGood := 3 }) [0, 0, 0, 0, 0, 0, 1, 0, 0, 0, 100, 0];
    let ns : Int := 500000000; s.running = true ∧ s.ppsMode = 1 ∧ ((x.toNat % 4000000000 : Nat) : Int) = 4 * ns ∨
        ((x.toNat % 4000000000 : Nat) : Int) - 4000000000 = 4 * ns ∧ -500000000 < ns ∧ ns ≤ 500000000) ∧
    (let s : State := timeIs id [0, 0, 0, 0, 0, 0, 2]; s.running = true ∧ s.ppsMode = 2) ∧
    (let s : State := monoAt (sec 2) (timeIs id [0, 0, 0, 0, 0, 0, 1]); s.running = true ∧ s.ppsMode = 1 ∧ max
        s.time.ppsAt s.sys.readyAt + sec 2 ≤ s.sys.mono) ∧
    (let s : State := timeIs id [0, 0, 0, 0, 0, 0, 1]; s.running = true ∧ s.ppsMode = 1 ∧ s.sys.mono < max
        s.time.ppsAt s.sys.readyAt + sec 2) := by
  refine ⟨?_, ?_, ?_, ?_, ?_, ?_, ?_, ?_, ?_, ?_, ?_, ?_, ?_, ?_, ?_, ?_, ?_, ?_, ?_⟩ <;> decide +kernel

/-! ### Time-triggered ports and the guardian -/

/-- A gate list of one entry; a TT.CAN body of one trigger. -/
def gateB (cycle phase : Nat) : List Byte :=
  leBytes 4 cycle ++ leBytes 4 phase ++ leBytes 4 400 ++ leBytes 4 0 ++ [1, 0] ++ leBytes 2 1 ++ zeros 4 ++ leBytes 4 cycle ++ [255, 0, 0, 0]
def canB (role typ guard : Byte) (win : Nat) : List Byte :=
  [role, 1, guard, 1] ++ leBytes 2 64 ++ leBytes 2 8 ++ [1] ++ zeros 7 ++ [typ, 3, 0, 1] ++ leBytes 2 0 ++ leBytes 2 win ++ zeros 8
def ttIs (f : TtBlk → TtBlk) : State := { up with tt := f up.tt }
def gated (p : Nat) (f : TtBlk → TtBlk := id) : State :=
  ttIs (fun t => f { t with bank := [(2 * p, gateB 250000 0), (2 * p + 1, gateB 250000 0)], cmpOk := true })
def locked (s : State) (t : DWord := 0) : State := { s with time := { s.time with st := .locked, t := t } }

def swapOf (u : Nat) : TtSwap := ⟨32, 1, [u], 5⟩
/-- A swap of channel 15 at 5, its last reference. -/
def swapCan (c : TtChan) : State :=
  let s := ttIs (fun t => { t with swap := some (swapOf 0x8F), chan := [(15, c)] })
  { s with time := { up.time with t := 5 } }
/-- P63 sends under a list of one entry of mask `m`. -/
def sending63 (m : Byte) : State :=
  let b := (gateB 250000 0).take 28 ++ [m, 0, 0, 0]
  let s := gated 63 (fun t => { t with bank := [(126, b), (127, b)] })
  s.setPort 63 { s.port 63 with tx := some { fid := 4, cls := 7, stamp := 9 } }


theorem test_hyps_SchedulesAndTheGuardian :
    (let code : Nat := 0x501; let words : Nat := 3;
    let ok : Req → State → Prop := (fun q u => bulkOk q.src.val (q.word 2) (q.word 3) = true ∧ q.word 1 < 64 ∧
      u.gateOk (u.bulkRead q.src.val (q.word 2) (q.word 3)) = true ∧ q.word 1 ∉ u.swapUnits);
    let q : Req := hreq [63, 0, 32]; let s : State := bulk up (gateB 4000000000 3999999999);
    let u : State := s.fetchReq q code; s.running = true ∧ s.reqDue q code = true ∧ (s.fetchReq q code).reqCheck q
        code words = none ∧ ok q u) ∧
    (let code : Nat := 0x501; let words : Nat := 3;
    let ok : Req → State → Prop := (fun q u => bulkOk q.src.val (q.word 2) (q.word 3) = true ∧ 0x80 ≤ q.word 1 ∧
      q.word 1 < 0x90 ∧ canBodyOk (u.bulkRead q.src.val (q.word 2) (q.word 3)) = true ∧ q.word 1 ∉ u.swapUnits);
    let q : Req := hreq [0x8F, 0, 32]; let s : State := bulk up (canB 1 4 16 64);
    let u : State := s.fetchReq q code; s.running = true ∧ s.reqDue q code = true ∧ (s.fetchReq q code).reqCheck q
        code words = none ∧ ok q u) ∧
    (let code : Nat := 0x501; let words : Nat := 3;
    let bad : Req → State → Prop := (fun q u => bulkOk q.src.val (q.word 2) (q.word 3) = true ∧ q.word 1 < 64 ∧
    u.gateOk (u.bulkRead q.src.val (q.word 2) (q.word 3)) = true ∧ q.word 1 ∈ u.swapUnits);
    let ok : Req → State → Prop := bad; let q : Req := hreq [63, 0, 32];
    let s : State := { bulk up (gateB 250000 0) with tt := { up.tt with swap := some ⟨32, 1, [63], 5⟩ } };
    let u : State := s.fetchReq q code; s.running = true ∧ s.reqDue q code = true ∧ (s.fetchReq q code).reqCheck q
        code words = none ∧ ok q u) ∧
    (let q : Req := hreq [0, 0x80000000, 0];
    let s : State := { gated 63 with time := { up.time with t := 210001 } }; let u : State := s.fetchReq q 0x502;
    let p : Fin 64 := 63;
    let c : Nat := 250000; s.running = true ∧ s.reqDue q 0x502 = true ∧ (s.fetchReq q 0x502).reqCheck q 0x502 3 = none
        ∧ (q.dword 1).toNat = 2 ^ p.val ∧ q.word 3 = 0 ∧ u.tt.swap = none ∧ u.ttBank p 0 ≠ [] ∧ u.ttBank p 1 ≠ [] ∧
        gateCycle (u.ttBank p 0) = c ∧ gateCycle (u.ttBank p 1) = c ∧ 0 < c ∧ c < 2 ^ 32 ∧ gatePhase (u.ttBank p 0) =
        0 ∧ gatePhase (u.ttBank p 1) = 0 ∧ u.time.t.toNat < 2 ^ 63) ∧
    (let s : State := ttIs (fun t => { t with swap := some (swapOf 63) });
    let w : TtSwap := swapOf 63; s.tt.swap = some w ∧ s.time.t < w.at_) ∧
    (let s : State := swapCan { prio := some 1, refAt := 5 }; let w : TtSwap := swapOf 0x8F;
    let k : Fin 16 := 15; s.running = true ∧ s.tt.swap = some w ∧ w.at_ ≤ s.time.t ∧ w.units = [0x80 + k.val] ∧
        (s.tchan k).count = 0 ∧ (s.tchan k).prio.isSome = true ∧ w.at_ ≤ (s.tchan k).refAt) ∧
    (let s : State := swapCan { prio := some 1, refAt := 5, count := 1 }; let w : TtSwap := swapOf 0x8F;
    let k : Fin 16 := 15; s.running = true ∧ s.tt.swap = some w ∧ w.at_ ≤ s.time.t ∧ w.units = [0x80 + k.val] ∧
        (s.tchan k).count ≠ 0 ∨ (s.tchan k).prio = none ∨ (s.tchan k).refAt < w.at_) ∧
    (let s : State :=
        { gated 0 with tt := { (gated 0).tt with swap := some ⟨32, 1, [0], 5⟩ }, time := { up.time with t := 5 } };
    let w : TtSwap := ⟨32, 1, [0], 5⟩; let p : Fin 64 := 0; let u : Nat := 63;
    let v := 62; s.running = true ∧ s.tt.swap = some w ∧ w.at_ ≤ s.time.t ∧ w.units = [p.val] ∧ u < 64 ∧ v ≠ u) ∧
    (let p : Fin 64 := 63; let s : State := at' (gated 63) 250001; s.running = true ∧ s.guarded p = true) ∧
    (let p : Fin 64 := 0;
    let s : State := locked (gated 0 (fun t => { t with port := [(0, { listen := true, cutAt := 0 })] })) 250001;
        s.running = true ∧ s.guarded p = true ∧ (s.tport p).ecc = false ∧ s.mayReturn p = true ∧ s.mayResume p =
        false) ∧
    (let p : Fin 64 := 0;
    let s : State := locked (gated 0 (fun t => { t with port := [(0, { stopped := true, good := 4, goodAt := 0 })] }))
        250001; s.running = true ∧ s.guarded p = true ∧ (s.tport p).ecc = false ∧ s.mayReturn p = false ∧ s.mayResume
        p = true) ∧
    (let p : Fin 64 := 0;
    let s : State := locked (gated 0 (fun t =>
        { t with port := [(0, { stopped := true, good := 3, listen := true, cutAt := 1 })] })) 250001; s.running =
        true ∧ s.guarded p = true ∧ (s.tport p).ecc = false ∧ s.mayReturn p = false ∧ s.mayResume p = false) ∧
    (let p : Fin 64 := 0;
    let s : State := at' (gated 0 (fun t => { t with port := [(0, { ecc := true, reloadAt := 250000 })] })) 250001;
        s.running = true ∧ s.guarded p = true ∧ (s.tport p).ecc = true ∧ s.mayReturn p = false ∧ s.mayResume p = false
        ∧ (((s.tport p).reloadAt.toNat : Int) ≤ s.lastBoundary p)) ∧
    (let p : Fin 64 := 0;
    let s : State := at' (gated 0 (fun t => { t with port := [(0, { ecc := true, reloadAt := 250001 })] })) 250001;
        s.running = true ∧ s.guarded p = true ∧ (s.tport p).ecc = true ∧ s.mayReturn p = false ∧ s.mayResume p = false
        ∧ s.lastBoundary p < ((s.tport p).reloadAt.toNat : Int)) ∧
    (let p : Fin 64 := 63; let s : State := sending63 0;
    let x : TxNow := { fid := 4, cls := 7, stamp := 9 }; s.running = true ∧ s.guarded p = true ∧ (s.port p).tx = some
        x ∧ x.cut = false ∧ s.cutDue p x = true) ∧
    (let p : Fin 64 := 63; let s : State := sending63 255;
    let x : TxNow := { fid := 4, cls := 7, stamp := 9 }; s.running = true ∧ s.guarded p = true ∧ (s.port p).tx = some
        x ∧ x.cut = false ∧ s.cutDue p x = false) ∧
    (let s : State := monoAt (ms 100) (locked (ttIs (fun t =>
        { t with disagree := true, gOff := 9, wasQual := true, disAt := [0] }))); s.running = true ∧ s.mayRearm =
        true) ∧
    (let s : State := monoAt (ms 100 - 1) (locked (ttIs (fun t =>
        { t with disagree := true, gOff := 9, wasQual := true, disAt := [0] }))); s.running = true ∧ s.mayRearm =
        false) ∧
    (let n : Int := -100;
    let s : State := ttIs (fun t => { t with gOff := 9 }); s.running = true ∧ (4 * n).natAbs ≤ s.syncTol) ∧
    (let n : Int := -101;
    let s : State := ttIs (fun t => { t with disagree := true }); s.running = true ∧ s.syncTol < (4 * n).natAbs ∧
        (s.tt.disagree = true ∨ s.tt.guardFail = true)) ∧
    (let n : Int := 101;
    let s : State := gated 63; s.running = true ∧ s.syncTol < (4 * n).natAbs ∧ s.tt.disagree = false ∧ s.tt.guardFail
        = false ∧ s.tt.disAt = []) ∧
    (let p : Fin 64 := 63; let s : State := at' (gated 63) 77; s.running = true ∧ s.guarded p = true) := by
  refine ⟨?_, ?_, ?_, ?_, ?_, ?_, ?_, ?_, ?_, ?_, ?_, ?_, ?_, ?_, ?_, ?_, ?_, ?_, ?_, ?_, ?_, ?_⟩ <;> decide

/-! ### CAN FD channels -/

/-- Channel c enabled with a state and records: objects as (number, body). -/
def chanBody (mode : Byte := 1) (auto : Byte := 0) : List Byte :=
  [mode, auto, 1, 0, 63, 0, 16, 16, 1, 15, 4, 4, 0, 0, 0xFF, 1, 0, 0, 0, 0] ++ zeros 12
def objBody (id : Nat) (dir : Byte) (flags : Byte := 0) (trig : Byte := 0) (pt : Nat := 0)
    (period : Nat := 0) : List Byte :=
  leBytes 4 id ++ leBytes 4 0x7FF ++ [dir, flags, 8, trig] ++ leBytes 4 period ++ leBytes 4 pt ++ [0, 0, 16, 0] ++ leBytes 4 9 ++ zeros 4
def canIs (x : CanChan) (l : List Rec := []) (mode : Byte := 1) (auto : Byte := 0) (c : Nat := 15) : State :=
  { withRecs up (rcd 0x0901 c (chanBody mode auto) :: l) with can := [(c, x)] }
def msg (id : BitVec 29) : CanMsg := { id := id, ide := false, data := [1, 2] }
def txMsg (k : Nat) (m : CanMsg := msg 5) : CanTx := ⟨.obj k, m, 3, some (7, 1), 9⟩
def nmRec (role : Byte := 1) (mode : Byte := 0) (keep : Nat := 0) (c : Nat := 15) : Rec :=
  rcd 0x0903 c ([role, 2, 0, 0, 10, 0, 3, mode] ++ leBytes 4 5 ++ leBytes 4 7 ++ leBytes 4 0 ++ leBytes 4 keep ++ zeros 8)
/-- A time-triggered channel. -/
def ttc (f : TtChan → TtChan) (x : CanChan := {}) (guard : Byte := 4) : State :=
  let s := canIs x
  { s with tt := { s.tt with bank := [(0x11E, canB 1 1 guard 10)], chan := [(15, f {})] } }
def cerr (k : CanErrKind) (sending : Bool) : CanErr := ⟨k, false, sending, false, false⟩
def cand (k : Nat) (id : BitVec 29) : CanCand := ⟨.obj k, msg id, 3, none, k⟩


theorem test_hyps_CanFramesAndObjects :
    (let c : Fin 16 := 15;
    let s : State := canIs {} [rcd 0x0902 (64 * 15 + 2) (objBody 5 1)]; s.canOn c = true ∧ (s.chan c).busOff = false ∧
        (s.chan c).ps ≠ .sleep ∧ (s.chan c).ps ≠ .quiet) ∧
    (let c : Fin 16 := 15;
    let s : State := canIs { ps := .sleep }; s.canOn c = true ∧ (s.chan c).busOff = false ∧ (s.chan c).ps = .sleep ∧
        (s.chan c).gts = false) ∧
    (let c : Fin 16 := 15;
    let s : State := canIs { ps := .sleep, gts := true }; s.canOn c = true ∧ (s.chan c).busOff = false ∧ (s.chan c).ps
        = .sleep ∧ (s.chan c).gts = true) ∧
    (let c : Fin 16 := 15; let m : CanMsg := msg 6;
    let s : State := canIs {} [rcd 0x0902 (64 * 15 + 2) (objBody 5 1)]; m.fdf = false ∧ (s.chan c).tx = none ∧ (s.chan
        c).rec_ = 0 ∧ (s.chan c).ps = .awake ∧ s.canNm c = false ∧ s.ttCan c = false ∧ m.rtr = false ∧ s.matchObj c m
        = none) ∧
    (let c : Fin 16 := 15; let m : CanMsg := msg 5;
    let s : State := canIs { obj := [(63, { shadow := some (msg 5, 1) })] } [rcd 0x0902 (64 * 15 + 63) (objBody 5 1)];
    let k := 63; let o := s.cobj c k;
    let sel := (s.chan c).selValid = true ∧ (s.chan c).sel.toNat = k; m.fdf = false ∧ (s.chan c).tx = none ∧ (s.chan
        c).rec_ = 0 ∧ (s.chan c).ps = .awake ∧ s.canNm c = false ∧ s.ttCan c = false ∧ m.rtr = false ∧ s.matchObj c m
        = some k ∧ s.objPoint c k = none ∧ s.objFlag c k 2 = false ∧ ¬ sel ∧ o.cur = none) ∧
    (let c : Fin 16 := 15; let m : CanMsg := msg 5;
    let s : State := canIs { selValid := true, sel := 63, obj := [(63, { cur := some (msg 5, 1) })] } [rcd 0x0902 (64
        * 15 + 63) (objBody 5 1)];
    let k := 63; let o := s.cobj c k;
    let sel := (s.chan c).selValid = true ∧ (s.chan c).sel.toNat = k; m.fdf = false ∧ (s.chan c).tx = none ∧ (s.chan
        c).rec_ = 0 ∧ (s.chan c).ps = .awake ∧ s.canNm c = false ∧ s.ttCan c = false ∧ m.rtr = false ∧ s.matchObj c m
        = some k ∧ s.objPoint c k = none ∧ s.objFlag c k 2 = false ∧ sel ∧ o.shadow = none) ∧
    (let c : Fin 16 := 15; let m : CanMsg := msg 5;
    let s : State := canIs { selValid := true, sel := 0, obj := [(63, { cur := some (msg 5, 1) })] } [rcd 0x0902 (64 *
        15 + 63) (objBody 5 1)];
    let k := 63; let o := s.cobj c k;
    let sel := (s.chan c).selValid = true ∧ (s.chan c).sel.toNat = k; m.fdf = false ∧ (s.chan c).tx = none ∧ (s.chan
        c).rec_ = 0 ∧ (s.chan c).ps = .awake ∧ s.canNm c = false ∧ s.ttCan c = false ∧ m.rtr = false ∧ s.matchObj c m
        = some k ∧ s.objPoint c k = none ∧ s.objFlag c k 2 = false ∧ ¬ sel ∧ o.cur ≠ none) ∧
    (let c : Fin 16 := 15; let m : CanMsg := { msg 5 with fdf := true };
    let s : State := canIs {} [] 1 16; m.fdf = true ∧ (tst (s.chanFld c 1 1) 0 = false ∨ m.res = true) ∧ tst
        (s.chanFld c 1 1) 4 = true) ∧
    (let c : Fin 16 := 15; let m : CanMsg := { msg 5 with fdf := true };
    let s : State := canIs {} []; m.fdf = true ∧ (tst (s.chanFld c 1 1) 0 = false ∨ m.res = true) ∧ tst (s.chanFld c 1
        1) 4 = false) ∧
    (let c : Fin 16 := 15; let a : CanCand := ⟨.obj 4, { id := 5, ide := false, data := zeros 8 }, 0, none, 4⟩;
    let s : State := canIs { obj := [(4, { pending := true }), (6, { pending := true })] } [rcd 0x0902 (64 * 15 + 4)
        (objBody 5 2), rcd 0x0902 (64 * 15 + 6) (objBody 6 2)]; s.canOn c = true ∧ s.ttCan c = false ∧ CanCand.best
        (s.canOffer c) = some a) ∧
    (let l : List CanCand := [cand 2 6, cand 1 5, cand 3 5]; let a : CanCand := cand 1 5; let b := cand 3 5;
    let c : Fin 16 := 15; let k : Nat := 63; let t : CanTx := txMsg 63;
    let s : State := canIs { tx := some (txMsg 63), tec := 200, obj := [(63, { pending := true })] }; CanCand.best l =
        some a ∧ b ∈ l ∧ s.canOn c = true ∧ (s.chan c).tx = some t ∧ t.what = .obj k ∧ t.msg.fdf = false ∧ (s.chan
        c).recObj = none) ∧
    (let c : Fin 16 := 15; let e : CanErr := cerr .stuff false;
    let s : State := canIs { rec_ := 94, tec := 95 }; s.canOn c = true ∧ (s.chan c).ps = .awake ∧ (s.chan c).busOff =
        false ∧ s.canMode c = 1 ∧ (s.chan c).tx = none ∧ e.sending = false ∧ e.kind ≠ .arbitration ∧ e.special = false
        ∧ (s.chan c).rec_ < 95 ∧ (s.chan c).tec < 96) ∧
    (let c : Fin 16 := 15; let e : CanErr := cerr .ack true;
    let s : State := canIs { tec := 248, tx := some (txMsg 63), obj := [(63, { pending := true })] } [] 1 8;
    let t : CanTx := txMsg 63;
    let k : Nat := 63; s.canOn c = true ∧ (s.chan c).ps = .awake ∧ (s.chan c).busOff = false ∧ s.canMode c = 1 ∧
        (s.chan c).tx = some t ∧ t.what = .obj k ∧ (s.cobj c k).cancel = false ∧ e.sending = true ∧ e.kind = .ack ∧
        e.special = false ∧ 248 ≤ (s.chan c).tec ∧ (s.chan c).tec ≤ 255) ∧
    (let c : Fin 16 := 15;
    let s : State := canIs { busOff := true, recovering := true, tec := 256, rec_ := 3 }; s.canOn c = true ∧ (s.chan
        c).busOff = true ∧ (s.chan c).recovering = true) ∧
    (let c : Fin 16 := 15; let s : State := canIs { busOff := true, tec := 256 };
    let x := s.chan c; s.sys.up = true ∧ x.busOff = true) ∧
    (let c : Fin 16 := 15; let s : State := up; let x := s.chan c; s.sys.up = true ∧ x.busOff = false) ∧
    (let s : State := canIs { cnt := [(3, 7)] } [] 1 0 0; s.sys.up = true) ∧
    (let c : Fin 16 := 15; let s : State := up; let k : Fin 64 := 63;
    let o := s.cobj c k; s.sys.up = true ∧ o.pending = false) ∧
    (let c : Fin 16 := 15; let s : State := canIs { obj := [(63, { pending := true, clash := 3, status := 1 })] };
    let x := s.chan c; let k : Fin 64 := 63;
    let o := s.cobj c k; s.sys.up = true ∧ o.pending = true ∧ x.tx = none) ∧
    (let c : Fin 16 := 15;
    let s : State := canIs { tx := some (txMsg 63), obj := [(63, { pending := true, clash := 3, status := 1 })] };
    let x := s.chan c; let k : Fin 64 := 63; let o := s.cobj c k;
    let t := txMsg 63; s.sys.up = true ∧ o.pending = true ∧ x.tx = some t ∧ t.what = .obj k) ∧
    (let c : Fin 16 := 15; let s : State := canIs {} [rcd 0x0902 (64 * 15 + 63) (objBody 5 2)];
    let k : Fin 64 := 63; s.sys.up = true ∧ s.canMode c ≠ 0 ∧ s.objTrigger c k = 0) ∧
    (let c : Fin 16 := 15; let s : State := canIs {} [rcd 0x0902 (64 * 15 + 63) (objBody 5 2 0 1)];
    let k : Fin 64 := 63; s.sys.up = true ∧ s.objTrigger c k ≠ 0) ∧
    (let c : Fin 16 := 15; let s : State := up; let x := s.chan c; s.sys.up = true ∧ x.selValid = false) ∧
    (let c : Fin 16 := 15;
    let s : State := canIs { selValid := true, sel := 63, obj := [(63, { pending := true })] } [rcd 0x0902 (64 * 15 +
        63) (objBody 5 2)];
    let x := s.chan c;
    let o := s.cobj c x.sel.toNat; s.sys.up = true ∧ x.selValid = true ∧ s.objDir c x.sel.toNat = 2 ∧ o.pending =
        true) ∧
    (let c : Fin 16 := 15;
    let s : State := canIs { selValid := true, sel := 63 } [rcd 0x0902 (64 * 15 + 63) (objBody 5 2)];
    let x := s.chan c;
    let o := s.cobj c x.sel.toNat; s.sys.up = true ∧ x.selValid = true ∧ s.objDir c x.sel.toNat = 2 ∧ o.pending =
        false) ∧
    (let c : Fin 16 := 15; let k : Fin 64 := 63;
    let s : State := canIs {} [rcd 0x0902 (64 * 15 + 63) (objBody 5 2 0 1 0 1)]; s.canOn c = true ∧ s.objTrigger c k =
        1 ∧ s.periodDue c k = true) ∧
    (let c : Fin 16 := 15; let k : Fin 64 := 63;
    let s : State := canIs { obj := [(63, { perAt := some 0 })] } [rcd 0x0902 (64 * 15 + 63) (objBody 5 2 0 1 0 1)];
        s.canOn c = true ∧ s.objTrigger c k ≠ 1 ∨ s.periodDue c k = false) ∧
    (let c : Fin 16 := 15; let k : Fin 64 := 63;
    let s : State := monoAt (ms 9) (canIs { obj := [(63, { lastVal := some 77 })] } [rcd 0x0902 (64 * 15 + 63)
        (objBody 5 1 0 0 0x80000004)]);
    let due := max (s.cobj c k).lastAt (s.awakeSince c) + ms (s.objFld c k 0x18 4);
    let v := 77; s.canOn c = true ∧ (s.chan c).ps = .awake ∧ s.objDir c k = 1 ∧ (s.objPoint c k).isSome = true ∧
        s.objFld c k 0x18 4 ≠ 0 ∧ (s.cobj c k).timedOut = false ∧ (s.cobj c k).lastVal = some v ∧ due ≤ s.sys.mono) ∧
    (let c : Fin 16 := 15; let k : Fin 64 := 63;
    let s : State := monoAt (ms 9 - 1) (canIs { obj := [(63, { lastVal := some 77 })] } [rcd 0x0902 (64 * 15 + 63)
        (objBody 5 1 0 0 0x80000004)]);
    let due := max (s.cobj c k).lastAt (s.awakeSince c) + ms (s.objFld c k 0x18 4); s.canOn c = true ∧ s.sys.mono <
        due) := by
  refine ⟨?_, ?_, ?_, ?_, ?_, ?_, ?_, ?_, ?_, ?_, ?_, ?_, ?_, ?_, ?_, ?_, ?_, ?_, ?_, ?_, ?_, ?_, ?_, ?_, ?_, ?_, ?_,
        ?_, ?_⟩ <;> decide

theorem test_hyps_CanSleepAndReferences :
    (let s : State := canIs { ps := .sleep }; s.sys.up = true) ∧
    (let s : State := canIs { hostKeep := true }; s.sys.up = true) ∧
    (let c : Nat := 15; let s : State := canIs { ps := .waking }; let x := s.chan c; x.ps = .awake ∨ x.ps = .waking) ∧
    (let c : Nat := 15; let s : State := canIs { ps := .prepare, forced := true };
    let x := s.chan c; x.ps = .prepare ∧ x.forced = true) ∧
    (let c : Nat := 15; let hard : Bool := true; let st : DWord := 9;
    let s : State := canIs { ps := .prepare, forced := true, commitAt := 10 };
    let x := s.chan c; x.ps = .prepare ∧ x.forced = false ∨ hard = true ∧ st < x.commitAt) ∧
    (let c : Nat := 15; let hard : Bool := false; let st : DWord := 10;
    let s : State := canIs { ps := .prepare, commitAt := 10 };
    let x := s.chan c; x.ps = .prepare ∧ x.forced = false ∨ hard = true ∧ x.commitAt ≤ st) ∧
    (let c : Nat := 15; let s : State := canIs { ps := .sleep, gts := true };
    let x := s.chan c; x.ps = .sleep ∧ x.gts = true) ∧
    (let c : Nat := 15; let s : State := canIs { ps := .quiet };
    let x := s.chan c; x.ps = .sleep ∧ x.gts = false ∨ x.ps = .quiet) ∧
    (let c : Fin 16 := 15; let s : State := canIs { nmAt := some 0 } [nmRec];
    let t := 0; s.canOn c = true ∧ s.canNm c = true ∧ (s.chan c).nmAt = some t ∧ s.sys.mono < t + ms (s.nmFld c 4 2))
        ∧
    (let c : Fin 16 := 15; let s : State := canIs { hostKeep := true } [nmRec]; let w := s.nmFld c 0x14 4;
    let k := s.setChan c { s.chan c with nmAt := some s.sys.mono, keepNow := tst w 31 && s.pointOn (bits w 22 0) };
        s.canOn c = true ∧ s.canNm c = true ∧ (∀ t, (s.chan c).nmAt = some t → t + ms (s.nmFld c 4 2) ≤ s.sys.mono) ∧
        s.localReq c = true ∨ k.localReq c = false ∧ s.canSends c = true ∧ (s.chan c).ps = .awake) ∧
    (let c : Fin 16 := 15; let s : State := canIs { ps := .quiet, hostKeep := true } [nmRec];
    let w := s.nmFld c 0x14 4;
    let k := s.setChan c { s.chan c with nmAt := some s.sys.mono, keepNow := tst w 31 && s.pointOn (bits w 22 0) };
        s.canOn c = true ∧ s.canNm c = true ∧ (∀ t, (s.chan c).nmAt = some t → t + ms (s.nmFld c 4 2) ≤ s.sys.mono) ∧
        s.localReq c = true ∨ k.localReq c = false ∧ (s.chan c).ps ≠ .awake ∧ (s.chan c).ps ≠ .prepare) ∧
    (let c : Fin 16 := 15;
    let s : State := monoAt (ms 30) (canIs { tec := 1 } [nmRec]); s.canOn c = true ∧ s.canNm c = true ∧ s.canSends c =
        true ∧ s.nmFld c 0 1 = 1 ∧ (s.chan c).ps = .awake ∧ s.sleepDue c = true) ∧
    (let c : Fin 16 := 15;
    let s : State := monoAt (ms 30 - 1) (canIs { tec := 1 } [nmRec]); s.canOn c = true ∧ s.canNm c = true ∧ s.sleepDue
        c = false) ∧
    (let c : Fin 16 := 15;
    let s : State := monoAt (sec 7 - 1) (canIs {} [nmRec]); s.canOn c = true ∧ s.canNm c = true ∧ s.sys.mono <
        s.awakeSince c + sec (s.nmFld c 0xC 4)) ∧
    (let c : Fin 16 := 15;
    let s : State := monoAt (sec 7) (canIs { heard := [(7, sec 7), (63, sec 7)] } [nmRec]); s.canOn c = true ∧ s.canNm
        c = true ∧ s.canSends c = true ∧ s.nmFld c 0 1 = 1 ∧ (s.chan c).ps = .awake ∧ s.nmFld c 0xC 4 ≠ 0 ∧ s.keepers
        c ≠ [] ∧ s.awakeSince c + sec (s.nmFld c 0xC 4) ≤ s.sys.mono) ∧
    (let c : Fin 16 := 15; let s : State := canIs { ps := .prepare, commitAt := 0 } [nmRec 1 1];
    let x := s.chan c; s.canOn c = true ∧ x.ps = .prepare ∧ x.commitAt ≤ s.time.t ∧ s.nmFld c 7 1 = 1 ∧ x.wakeDue =
        false) ∧
    (let c : Fin 16 := 15;
    let s : State := canIs { ps := .prepare, commitAt := 0, tx := some (txMsg 0) } [nmRec 1 0];
    let x := s.chan c; s.canOn c = true ∧ x.ps = .prepare ∧ x.commitAt ≤ s.time.t ∧ s.nmFld c 7 1 ≠ 1) ∧
    (let c : Fin 16 := 15; let s : State := canIs { ps := .sleep, gts := true }; let x := s.chan c;
    let ends := x.commitAt.toNat + s.chanFld c 0x14 2 * 4000; s.canOn c = true ∧ x.ps = .sleep ∧ x.gts = true ∧ ends ≤
        s.time.t.toNat ∧ x.wakeDue = false) ∧
    (let c : Fin 16 := 15; let s : State := canIs { ps := .sleep, gts := true, wakeDue := true };
    let x := s.chan c;
    let ends := x.commitAt.toNat + s.chanFld c 0x14 2 * 4000; s.canOn c = true ∧ x.ps = .sleep ∧ x.gts = true ∧ ends ≤
        s.time.t.toNat ∧ x.wakeDue = true) ∧
    (let c : Fin 16 := 15; let s : State := canIs { ps := .sleep, gts := true, commitAt := 1 }; let x := s.chan c;
    let ends := x.commitAt.toNat + s.chanFld c 0x14 2 * 4000; s.canOn c = true ∧ s.time.t.toNat < ends) ∧
    (let c : Fin 16 := 15; let s : State := canIs { ps := .prepare, commitAt := 1 };
    let x := s.chan c; s.canOn c = true ∧ s.time.t < x.commitAt) ∧
    (let c : Fin 16 := 15; let s : State := canIs { ps := .quiet }; s.canOn c = true) ∧
    (let c : Fin 16 := 15; let s : State := canIs { ps := .prepare, commitAt := 10 };
    let x := s.chan c; s.canOn c = true ∧ x.ps ≠ .quiet ∧ ¬ (x.ps = .sleep ∧ x.gts = false)) ∧
    (let c : Fin 16 := 15; let s : State := canIs { ps := .waking, wakingAt := 1 };
    let x := s.chan c; s.canOn c = true ∧ s.sys.mono < x.wakingAt + ms (s.nmFld c 0x10 2)) ∧
    (let c : Fin 16 := 15; let s : State := canIs { ps := .waking };
    let x := s.chan c; s.canOn c = true ∧ x.ps = .waking ∧ x.wakingAt + ms (s.nmFld c 0x10 2) ≤ s.sys.mono) ∧
    (let c : Fin 16 := 15; let x : DWord := 252800;
    let s : State := ttc (fun t => { t with prio := some 3, count := 0, stopped := false }); s.mayLead c = true ∧
        (s.tchan c).prio.isSome = true ∧ s.cycleDue c (s.canStamp c x) = true) ∧
    (let c : Fin 16 := 15; let x : DWord := 252799;
    let s : State := ttc (fun t => { t with prio := some 3, count := 0, stopped := false }); s.mayLead c = true ∧
        s.cycleDue c (s.canStamp c x) = false) ∧
    (let c : Fin 16 := 15;
    let s : State := monoAt 512000 (ttc id); s.mayLead c = true ∧ (s.tchan c).prio = none ∧ s.sys.readyAt + 2 *
        s.cycleLen c ≤ s.sys.mono) ∧
    (let c : Fin 16 := 15;
    let s : State := monoAt 511999 (ttc id); s.mayLead c = true ∧ s.sys.mono < s.sys.readyAt + 2 * s.cycleLen c) ∧
    (let c : Fin 16 := 15;
    let s : State := at' (ttc (fun t => { t with prio := some 3, stopped := false })) 288000; let x := s.tchan c;
    let late := x.refAt.toNat + s.cycleLen c + 8 * s.canNtu c; s.canOn c = true ∧ s.ttCan c = true ∧ s.time.t.toNat ≤
        late) ∧
    (let c : Fin 16 := 15;
    let s : State := at' (ttc (fun t => { t with prio := some 3, stopped := false })) 288001; let x := s.tchan c;
    let late := x.refAt.toNat + s.cycleLen c + 8 * s.canNtu c; s.canOn c = true ∧ s.ttCan c = true ∧ x.prio.isSome =
        true ∧ x.master = false ∧ x.stopped = false ∧ late < s.time.t.toNat) ∧
    (let c : Fin 16 := 15;
    let s : State := ttc (fun t => { t with prio := some 3, stopped := false, window := some 0 }); s.canOn c = true ∧
        s.ttCan c = true ∧ s.canWindow c s.time.t ≠ none) ∧
    (let c : Fin 16 := 15;
    let s : State := ttc (fun t => { t with prio := some 3, stopped := false })
        { tx := some (txMsg 3), obj := [(3, { pending := true })] }; s.canOn c = true ∧ s.ttCan c = true ∧ (s.chan
        c).tx.isSome = true ∧ s.canWindow c s.time.t = none) ∧
    (let c : Fin 16 := 15; let s : State := ttc (fun t => { t with prio := some 3, stopped := false });
    let k : Fin 64 := 0;
    let n : Int := -2001; s.canOn c = true ∧ s.ttCan c = true ∧ k.val < canCount (s.sched (0x80 + c)) ∧ canGuardBits
        (s.sched (0x80 + c)) * s.canNtu c < 2 * (4 * n).natAbs) ∧
    (let c : Fin 16 := 15; let s : State := ttc (fun t => { t with prio := some 3, stopped := false });
    let k : Fin 64 := 0;
    let n : Int := 2000; s.canOn c = true ∧ s.ttCan c = true ∧ k.val < canCount (s.sched (0x80 + c)) ∧ 2 * (4 *
        n).natAbs ≤ canGuardBits (s.sched (0x80 + c)) * s.canNtu c) := by
  refine ⟨?_, ?_, ?_, ?_, ?_, ?_, ?_, ?_, ?_, ?_, ?_, ?_, ?_, ?_, ?_, ?_, ?_, ?_, ?_, ?_, ?_, ?_, ?_, ?_, ?_, ?_, ?_,
        ?_, ?_, ?_, ?_, ?_, ?_, ?_, ?_⟩ <;> decide

/-! ### The point engine -/

/-- The point engine enabled, with points of the table given. -/
def pntUp (f : PntBlk → PntBlk := id) (l : List Rec := []) : State :=
  withRecs { up with pnt := f { up.pnt with enabled := true } } l
def ptIs (p : Point) (l : List Rec := []) (f : PntBlk → PntBlk := id) : State :=
  pntUp (fun b => f { b with points := [(8388607, p)] }) l
def int32 : Point := { typ := 3, value := 10, stamp := 100, quality := 0x10000 }
def filtRec (db : Nat) (dp soe flags : Byte) : Rec :=
  rcd 0x0703 9 (leBytes 8 db ++ [0, 0, dp, soe] ++ zeros 8 ++ [flags, 0, 0, 0])
def upd (p : Nat) (v : DWord) (src : Nat := 0) (tag : Option Nat := none) (st : DWord := 100) (force : Bool := false) :
    Update :=
  { point := p, value := v, quality := 0, stamp := st, force := force, from_ := { src := src, tag := tag } }
def subB (p kind target : Nat) : List Byte :=
  leBytes 4 p ++ [BitVec.ofNat 8 kind, 1] ++ leBytes 2 target ++ leBytes 4 77 ++ zeros 8
/-- The fields by which an item names a subscription. -/
def subR (p kind target : Nat) : List Byte := leBytes 4 p ++ [BitVec.ofNat 8 kind, 0] ++ leBytes 2 target
def sub0 : SubEntry := { point := 8388607, kind := 1, trigger := 1, target := 3, tag := 77, window := 0, slot := 0 }
def subbed : State := ptIs int32 [] (fun b => { b with subs := [(0, sub0)], lists := [(8388607, [0])], hqDepth := [(3, 8)] })
def hqWaits (wr : Word) (pend : List Nat := []) : State :=
  ptIs int32 [] (fun b => { b with
    subs := [(0, sub0)], lists := [(8388607, [0])], hqDepth := [(3, 8)], hqWr := [(3, wr)], pend := pend
    waiting := [{ delivery0 with queue := 35 }] })
def grantB : List Byte := leBytes 4 0xFFFFFFFF ++ leBytes 4 8388607 ++ leBytes 4 1 ++ [3, 0, 0, 0]
def noticed (t : PTimer) (k : Nat) (p : Point := int32) : State := ptIs p [] (fun b => { b with timers := [(2 * 8388607 + k, t)] })
def breaker : Point := { typ := 2, value := 1, stamp := 58000000, profile := 9, chatCount := 1, chatStart := 55, held := true }
def chattered : State :=
  ptIs breaker [rcd 0x0703 9 (zeros 8 ++ [20, 0, 10, 1] ++ leBytes 2 1000 ++ zeros 2 ++ leBytes 4 1000 ++ zeros 4)]
    (fun b => { b with timers := [(2 * 8388607, { deadline := 0, release := false, value := 0, quality := 1, stamp := 160000000 })] })

def sub35 : PntOp := .subst 8388607 5 0 32 0x5A
def fifoAt (n : Nat) (l : List PntOp) : State := ptIs int32 [] (fun b => { b with fifo := [(n, l)] })
def cold (s : State) : State := { s with rmy := { s.rmy with dramFailAt := some 0 } }

theorem test_hyps_PointRequests :
    (let code : Nat := 0x801; let words : Nat := 3;
    let ok : Req → State → Prop := (fun q u => q.word 1 ≤ 1023 ∧ bulkIs q 2 16 ∧
      grantOk (u.bulkRead q.src.val (q.word 2) 16) = true);
    let bad : Req → State → Prop := (fun _ u => u.pnt.enabled = false); let ok : Req → State → Prop := bad;
    let q : Req := hreq [0, 0, 0]; let s : State := up;
    let u : State := s.fetchReq q code; s.running = true ∧ s.reqDue q code = true ∧ (s.fetchReq q code).reqCheck q
        code words = none ∧ (ok q u)) ∧
    (let code : Nat := 0x801; let words : Nat := 3;
    let ok : Req → State → Prop := (fun q u => q.word 1 ≤ 1023 ∧ bulkIs q 2 16 ∧
      grantOk (u.bulkRead q.src.val (q.word 2) 16) = true);
    let ok : Req → State → Prop := (fun q u => u.pnt.enabled = true ∧ ok q u); let q : Req := hreq [1023, 0, 16];
    let s : State := bulk (pntUp) grantB;
    let u : State := s.fetchReq q code; s.running = true ∧ s.reqDue q code = true ∧ (s.fetchReq q code).reqCheck q
        code words = none ∧ (ok q u)) ∧
    (let code : Nat := 0x802; let words : Nat := 1;
    let ok : Req → State → Prop := (fun q u => (u.pnt.grants.find? (q.word 1)).isSome = true);
    let bad : Req → State → Prop := (fun _ u => u.pnt.enabled = false); let ok : Req → State → Prop := bad;
    let q : Req := hreq [0]; let s : State := up;
    let u : State := s.fetchReq q code; s.running = true ∧ s.reqDue q code = true ∧ (s.fetchReq q code).reqCheck q
        code words = none ∧ (ok q u)) ∧
    (let code : Nat := 0x802; let words : Nat := 1;
    let ok : Req → State → Prop := (fun q u => (u.pnt.grants.find? (q.word 1)).isSome = true);
    let ok : Req → State → Prop := (fun q u => u.pnt.enabled = true ∧ ok q u); let q : Req := hreq [7];
    let s : State := pntUp (fun b => { b with grants := [(7, ⟨1, 5, 1, 3⟩)] });
    let u : State := s.fetchReq q code; s.running = true ∧ s.reqDue q code = true ∧ (s.fetchReq q code).reqCheck q
        code words = none ∧ (ok q u)) ∧
    (let code : Nat := 0x802; let words : Nat := 1;
    let bad : Req → State → Prop := (fun q u => u.pnt.enabled = true ∧ u.pnt.grants.find? (q.word 1) = none);
    let ok : Req → State → Prop := bad; let q : Req := hreq [7]; let s : State := pntUp;
    let u : State := s.fetchReq q code; s.running = true ∧ s.reqDue q code = true ∧ (s.fetchReq q code).reqCheck q
        code words = none ∧ ok q u) ∧
    (let code : Nat := 0x803; let words : Nat := 4;
    let ok : Req → State → Prop := (fun q u => q.word 1 < 2 ^ 23 ∧ (u.point (q.word 1)).typ ≠ 0);
    let bad : Req → State → Prop := (fun _ u => u.pnt.enabled = false); let ok : Req → State → Prop := bad;
    let q : Req := hreq [8388607, 1, 2, 3]; let s : State := up;
    let u : State := s.fetchReq q code; s.running = true ∧ s.reqDue q code = true ∧ (s.fetchReq q code).reqCheck q
        code words = none ∧ (ok q u)) ∧
    (let code : Nat := 0x803; let words : Nat := 4;
    let ok : Req → State → Prop := (fun q u => q.word 1 < 2 ^ 23 ∧ (u.point (q.word 1)).typ ≠ 0);
    let ok : Req → State → Prop := (fun q u => u.pnt.enabled = true ∧ ok q u);
    let q : Req := hreq [8388607, 1, 2, 3]; let s : State := ptIs int32;
    let u : State := s.fetchReq q code; s.running = true ∧ s.reqDue q code = true ∧ (s.fetchReq q code).reqCheck q
        code words = none ∧ (ok q u)) ∧
    (let s : State := fifoAt 35 [sub35]; let p : Nat := 8388607; let rq : Nat := 32; let tag : Byte := 0x5A;
    let v0 : DWord := 5; let w0 : Word := 0;
    let rest : List PntOp := []; s.running = true ∧ s.pnt.fifo.get [] 35 = .subst p v0 w0 rq tag :: rest ∧
        s.pointReady p = true) ∧
    (let code : Nat := 0x803; let words : Nat := 4;
    let bad : Req → State → Prop := (fun q u => u.pnt.enabled = true ∧ (u.point (q.word 1)).typ = 0);
    let ok : Req → State → Prop := bad; let q : Req := hreq [8388607, 1, 2, 3]; let s : State := pntUp;
    let u : State := s.fetchReq q code; s.running = true ∧ s.reqDue q code = true ∧ (s.fetchReq q code).reqCheck q
        code words = none ∧ ok q u) ∧
    (let q : Req := hreq [8388607];
    let s : State := fifoAt 35 [sub35]; s.pnt.enabled = true ∧ s.sageFree (q.word 1) = false) ∧
    (let code : Nat := 0x804; let words : Nat := 1;
    let ok : Req → State → Prop := (fun q u => u.sageFree (q.word 1) = true ∧ q.word 1 < 2 ^ 23 ∧ (u.point (q.word
        1)).subst = true);
    let bad : Req → State → Prop := (fun _ u => u.pnt.enabled = false); let ok : Req → State → Prop := bad;
    let q : Req := hreq [8388607]; let s : State := up;
    let u : State := s.fetchReq q code; s.running = true ∧ s.reqDue q code = true ∧ (s.fetchReq q code).reqCheck q
        code words = none ∧ (ok q u)) ∧
    (let code : Nat := 0x804; let words : Nat := 1;
    let ok : Req → State → Prop := (fun q u => u.sageFree (q.word 1) = true ∧ q.word 1 < 2 ^ 23 ∧ (u.point (q.word
        1)).subst = true);
    let ok : Req → State → Prop := (fun q u => u.pnt.enabled = true ∧ ok q u); let q : Req := hreq [8388607];
    let s : State := ptIs { int32 with subst := true };
    let u : State := s.fetchReq q code; s.running = true ∧ s.reqDue q code = true ∧ (s.fetchReq q code).reqCheck q
        code words = none ∧ (ok q u)) ∧
    (let code : Nat := 0x804; let words : Nat := 1; let bad : Req → State → Prop := (fun q u => u.pnt.enabled = true ∧
    u.sageFree (q.word 1) = true ∧ (u.point (q.word 1)).subst = false); let ok : Req → State → Prop := bad;
    let q : Req := hreq [8388607]; let s : State := ptIs int32;
    let u : State := s.fetchReq q code; s.running = true ∧ s.reqDue q code = true ∧ (s.fetchReq q code).reqCheck q
        code words = none ∧ ok q u) ∧
    (let q : Req := hreq [0, 20]; let s : State := bulk (ptIs int32) (subB 8388606 1 3);
    let u : State := s.fetchReq q 0x805;
    let items := chunks 20 (u.bulkRead q.src.val (q.word 1) (q.word 2)) (q.word 2 / 20); s.running = true ∧ s.reqDue q
        0x805 = true ∧ (s.fetchReq q 0x805).reqCheck q 0x805 2 = none ∧ u.pnt.enabled = true ∧ bulkItems q.src.val
        (q.word 1) (q.word 2) 20 = true ∧ items.all u.subOk = false) ∧
    (let q : Req := hreq [0, 20];
    let s : State := bulk (ptIs int32 [] (fun b => { b with lists := [(8388607, List.replicate 255 0)] })) (subB
        8388607 1 3);
    let u : State := s.fetchReq q 0x805;
    let items := chunks 20 (u.bulkRead q.src.val (q.word 1) (q.word 2)) (q.word 2 / 20); s.running = true ∧ s.reqDue q
        0x805 = true ∧ (s.fetchReq q 0x805).reqCheck q 0x805 2 = none ∧ u.pnt.enabled = true ∧ bulkItems q.src.val
        (q.word 1) (q.word 2) 20 = true ∧ items.all u.subOk = true ∧ u.subAppendAll (items.map SubEntry.ofBytes) =
        none) ∧
    (let q : Req := hreq [0, 40]; let s : State := bulk (ptIs int32) (subB 8388607 1 3 ++ subB 8388607 3 1023);
    let u : State := s.fetchReq q 0x805;
    let items := chunks 20 (u.bulkRead q.src.val (q.word 1) (q.word 2)) (q.word 2 / 20);
    let t := (((bulk (ptIs int32) (subB 8388607 1 3 ++ subB 8388607 3 1023)).fetchReq (hreq [0, 40])
        0x805).subAppendAll ([subB 8388607 1 3, subB 8388607 3 1023].map SubEntry.ofBytes)).getD up; s.running = true
        ∧ s.reqDue q 0x805 = true ∧ (s.fetchReq q 0x805).reqCheck q 0x805 2 = none ∧ u.pnt.enabled = true ∧ bulkItems
        q.src.val (q.word 1) (q.word 2) 20 = true ∧ items.all u.subOk = true ∧ u.subAppendAll (items.map
        SubEntry.ofBytes) = some t) ∧
    (let s : State := ptIs int32; let t : State := ((ptIs int32).subAppend sub0).getD up; let e : SubEntry := sub0;
    let p := 0; s.subAppend e = some t ∧ p ≠ e.point) ∧
    (let q : Req := hreq [0, 8]; let s : State := bulk subbed (subR 8388607 1 2);
    let u : State := s.fetchReq q 0x806;
    let items := chunks 8 (u.bulkRead q.src.val (q.word 1) (q.word 2)) (q.word 2 / 8); s.running = true ∧ s.reqDue q
        0x806 = true ∧ (s.fetchReq q 0x806).reqCheck q 0x806 2 = none ∧ u.pnt.enabled = true ∧ bulkItems q.src.val
        (q.word 1) (q.word 2) 8 = true ∧ u.subRemoveAll items = none) ∧
    (let q : Req := hreq [0, 8]; let s : State := bulk subbed (subR 8388607 1 3);
    let u : State := s.fetchReq q 0x806;
    let items := chunks 8 (u.bulkRead q.src.val (q.word 1) (q.word 2)) (q.word 2 / 8);
    let t := ((bulk subbed (subR 8388607 1 3)).fetchReq (hreq [0, 8]) 0x806).subRemoveAll [subR 8388607 1 3] |>.getD
        up; s.running = true ∧ s.reqDue q 0x806 = true ∧ (s.fetchReq q 0x806).reqCheck q 0x806 2 = none ∧
        u.pnt.enabled = true ∧ bulkItems q.src.val (q.word 1) (q.word 2) 8 = true ∧ u.subRemoveAll items = some t) ∧
    (let s : State := pntUp (fun b => { b with soeWr := 0x100000005 }); s.sys.up = true) ∧
    (let s : State := up; s.sys.up = true) ∧
    (let s : State := pntUp (fun b => { b with fifo := [(31, List.replicate 32 (.get 31 15 0))] }); s.running = true ∧
        s.throttle = true) := by
  refine ⟨?_, ?_, ?_, ?_, ?_, ?_, ?_, ?_, ?_, ?_, ?_, ?_, ?_, ?_, ?_, ?_, ?_, ?_, ?_, ?_, ?_, ?_⟩ <;> decide

theorem test_hyps_PointUpdatesAndDeliveries :
    (let src : Fin 36 := 31; let s : State := fifoAt 31 [.upd (upd 8388607 11 4)];
    let u : Update := upd 8388607 11 4;
    let rest : List PntOp := []; s.running = true ∧ s.fifoTake src = some (.upd u, rest) ∧ u.from_.tag = none ∧
        src.val ≠ 34 ∧ src.val ≠ 32) ∧
    (let src : Fin 36 := 34; let s : State := fifoAt 34 [.upd (upd 8388607 11 4)];
    let u : Update := upd 8388607 11 4;
    let rest : List PntOp := []; s.running = true ∧ s.fifoTake src = some (.upd u, rest) ∧ u.from_.tag = none ∧
        src.val = 34) ∧
    (let src : Fin 36 := 32; let s : State := fifoAt 32 [.upd (upd 8388607 11 4)];
    let u : Update := upd 8388607 11 4;
    let rest : List PntOp := []; s.running = true ∧ s.fifoTake src = some (.upd u, rest) ∧ u.from_.tag = none ∧
        src.val = 32) ∧
    (let src : Fin 36 := 31;
    let s : State := ptIs int32 [] (fun b => { b with fifo := [(31, [.upd (upd 8388607 11 0 (some 15))])] });
    let u : Update := upd 8388607 11 0 (some 15); let rest : List PntOp := [];
    let tag := 15; s.running = true ∧ s.fifoTake src = some (.upd u, rest) ∧ u.from_.tag = some tag ∧ src.val < 32) ∧
    (let src : Nat := 35; let s : State := fifoAt 35 [sub35]; let o : PntOp := sub35;
    let rest : List PntOp := []; s.pnt.fifo.get [] src = o :: rest ∧ s.pointReady o.point = true) ∧
    (let src : Nat := 31; let s : State := cold (fifoAt 31 [.upd (upd 8388607 11 4), .upd (upd 5 11 4)]);
    let o : PntOp := .upd (upd 8388607 11 4);
    let rest : List PntOp := [.upd (upd 5 11 4)]; s.pnt.fifo.get [] src = o :: rest ∧ s.pointReady o.point = false ∧
        (∀ x ∈ rest, s.pointReady x.point = false)) ∧
    (let s : State := pntUp; let u : Update := upd 8388607 11;
    let r := s.point u.point; u.from_.src ≠ 1 ∧ u.from_.src ≠ 2 ∧ s.pnt.enabled = false ∨ r.typ = 0) ∧
    (let s : State := ptIs { int32 with subst := true }; let u : Update := upd 8388607 11;
    let r := s.point u.point; u.from_.src ≠ 1 ∧ u.from_.src ≠ 2 ∧ s.pnt.enabled = true ∧ r.typ ≠ 0 ∧ r.subst = true ∧
        u.from_.src ≠ 4) ∧
    (let s : State := ptIs { int32 with profile := 9 } [filtRec 0 0 0 1];
    let u : Update := upd 8388607 11 0 none 99;
    let r := s.point u.point; u.from_.src ≠ 1 ∧ u.from_.src ≠ 2 ∧ s.pnt.enabled = true ∧ r.typ ≠ 0 ∧ r.subst = false ∧
        tst (s.filt r.profile 20 1) 0 = true ∧ u.stamp.toNat < r.stamp.toNat) ∧
    (let s : State := ptIs { int32 with profile := 9 } [filtRec 5 0 0 1]; let u : Update := upd 8388607 15;
    let r := s.point u.point; let v := normValue r.typ u.value;
    let valChg := valueChanged r.typ v r.value (s.filt r.profile 0 8);
    let qualChg := qlow u.quality != qlow r.quality || r.postSub;
    let goes := s.pnt.enabled = true ∧ r.typ ≠ 0 ∧ r.subst = false ∧ r.stamp.toNat ≤ u.stamp.toNat; u.from_.src ≠ 1 ∧
        u.from_.src ≠ 2 ∧ goes ∧ r.typ ≠ 11 ∧ u.force = false ∧ r.typ ≠ 2 ∧ valChg = false ∧ qualChg = false) ∧
    (let s : State := ptIs { int32 with profile := 9 } [filtRec 5 0 2 1]; let u : Update := upd 8388607 16;
    let r := s.point u.point; let v := normValue r.typ u.value;
    let valChg := valueChanged r.typ v r.value (s.filt r.profile 0 8);
    let qualChg := qlow u.quality != qlow r.quality || r.postSub;
    let goes := s.pnt.enabled = true ∧ r.typ ≠ 0 ∧ r.subst = false ∧ r.stamp.toNat ≤ u.stamp.toNat; u.from_.src ≠ 1 ∧
        u.from_.src ≠ 2 ∧ goes ∧ r.typ ≠ 11 ∧ u.force = false ∧ r.typ ≠ 2 ∧ valChg = true ∨ qualChg = true ∧ s.filt
        r.profile 10 1 = 0) ∧
    (let s : State := ptIs int32; let u : Update := upd 8388607 10 0 none 100 true; let r := s.point u.point;
    let goes := s.pnt.enabled = true ∧ r.typ ≠ 0 ∧ r.subst = false ∧ r.stamp.toNat ≤ u.stamp.toNat;
    let p : Nat := 5;
    let x := 8388607; u.from_.src ≠ 1 ∧ u.from_.src ≠ 2 ∧ goes ∧ r.typ = 11 ∨ u.force = true ∧ x ≠ p) ∧
    (let src : Fin 32 := 31;
    let s : State := ptIs int32 [] (fun b => { b with fifo := [(31, [.get 31 15 8388607])] }); let e : Nat := 31;
    let tag : Nat := 15; let p : Nat := 8388607;
    let rest : List PntOp := []; s.running = true ∧ s.fifoTake src = some (.get e tag p, rest)) ∧
    (let p : Fin 8388608 := 8388607;
    let s : State := noticed { deadline := 0, release := false, value := 0, quality := 1 } 0; let r := s.point p;
    let t := ({ deadline := 0, release := false, value := 0, quality := 1 } : PTimer); s.running = true ∧
        s.pnt.enabled = true ∧ (s.point p).subst = false ∧ s.pointReady p = true ∧ s.heldTimer p = some t ∧ t.deadline
        ≤ s.time.t ∧ s.filt r.profile 10 1 = 0) ∧
    (let p : Fin 8388608 := 8388607; let s : State := chattered; let r := s.point p;
    let t := ({ deadline := 0, release := false, value := 0, quality := 1, stamp := 160000000 } : PTimer); s.running =
        true ∧ s.pnt.enabled = true ∧ (s.point p).subst = false ∧ s.pointReady p = true ∧ s.heldTimer p = some t ∧
        t.deadline ≤ s.time.t ∧ r.blocked = false ∧ t.value ≠ r.value ∧ 0 < r.chatCount ∧ chatterOpens r (s.filt
        r.profile 12 2) t.stamp = false ∧ r.chatCount + 1 < min 256 (s.filt r.profile 10 1)) ∧
    (let p : Fin 8388608 := 8388607;
    let s : State := ptIs int32; s.running = true ∧ s.pnt.enabled = true ∧ (s.point p).subst = false ∧ s.pointReady p
        = true ∧ s.heldTimer p = none) ∧
    (let p : Fin 8388608 := 8388607;
    let s : State := noticed { deadline := 2 ^ 62, release := false, value := 0, quality := 1 } 0;
    let t := ({ deadline := 2 ^ 62, release := false, value := 0, quality := 1 } : PTimer); s.running = true ∧
        s.pnt.enabled = true ∧ (s.point p).subst = false ∧ s.pointReady p = true ∧ s.heldTimer p = some t ∧ s.time.t <
        t.deadline) ∧
    (let p : Fin 8388608 := 8388607; let s : State := noticed { deadline := 2 ^ 62, release := true } 1;
    let t := ({ deadline := 2 ^ 62, release := true } : PTimer); s.running = true ∧ s.pnt.enabled = true ∧ (s.point
        p).subst = false ∧ s.pointReady p = true ∧ s.relTimer p = some t ∧ s.time.t < t.deadline) ∧
    (let p : Fin 8388608 := 8388607; let s : State := noticed { deadline := 0, release := true } 1;
    let t := ({ deadline := 0, release := true } : PTimer); s.running = true ∧ s.pnt.enabled = true ∧ (s.point
        p).subst = false ∧ s.pointReady p = true ∧ s.relTimer p = some t ∧ t.deadline ≤ s.time.t) ∧
    (let w : Fin 65 := 64;
    let s : State := pntUp id [rcd 0x0706 64 (zeros 4 ++ leBytes 4 1000 ++ zeros 8)]; s.running = true ∧ s.pnt.enabled
        = true ∧ (s.rec? 0x0706 w).isSome = true) ∧
    (let q : Fin 36 := 35; let s : State := hqWaits 7; let d : Delivery := { delivery0 with queue := 35 };
    let rest : List Delivery := [];
    let t : State := { s with pnt := { s.pnt with waiting := rest } }; s.queueOpen q = true ∧ s.pnt.waiting = d ::
        rest ∧ d.queue = q ∧ t.queuePending q = false ∧ t.queueFull q = false) ∧
    (let q : Fin 36 := 35; let s : State := hqWaits 8; let d : Delivery := { delivery0 with queue := 35 };
    let rest : List Delivery := [];
    let t : State := { s with pnt := { s.pnt with waiting := rest } }; s.queueOpen q = true ∧ s.pnt.waiting = d ::
        rest ∧ d.queue = q ∧ (t.queuePending q = true ∨ t.queueFull q = true)) ∧
    (let q : Fin 36 := 35;
    let s : State := { hqWaits 7 [0] with pnt := { (hqWaits 7 [0]).pnt with waiting := [] } }; let i : Nat := 0;
    let e : SubEntry := sub0; s.queueOpen q = true ∧ s.lowestPend q = some i ∧ s.queueFull q = false ∧
        s.pnt.subs.find? i = some e ∧ s.pointReady e.point = true ∧ (∀ d ∈ s.pnt.waiting, d.entry ≠ i)) := by
  refine ⟨?_, ?_, ?_, ?_, ?_, ?_, ?_, ?_, ?_, ?_, ?_, ?_, ?_, ?_, ?_, ?_, ?_, ?_, ?_, ?_, ?_, ?_, ?_⟩ <;> decide

/-! ### Ports -/

/-- Ports 60 and 61 of a four-port lane: port 60 gives its mode. -/
def portUp (p : Port) (mode : BitVec 3 := 2) : State :=
  { up with ports := [(60, { lane := mode }), (61, p)] }
def linked : Port := { cfg := 0xC0C00031, up := true, speed := 3 }
def vp (f : Port → Port) : State := portUp (f linked)
def genRec (period phase : Nat) : Rec := rcd 0x0503 7 ([0, 0, 0, 0] ++ leBytes 4 period ++ leBytes 4 phase ++ zeros 12)

def dogged (f : Port → Port) : State := vp (fun p => f { p with pauseWd := 0x00640032 })

theorem test_hyps_PortsLinksAndPause :
    (let p : Fin 64 := 61;
    let s : State := portUp { cfg := 1 }; s.running = true ∧ s.portPresent p = true ∧ (s.port p).enabled = true ∧
        s.negotiates p = true ∧ (s.port p).up = false ∧ (s.port p).mdioFail = false) ∧
    (let p : Fin 64 := 61; let v : Fin 4 := 3;
    let s : State := portUp { cfg := 1, duplexFail := true } 1; s.running = true ∧ s.portPresent p = true ∧ (s.port
        p).enabled = true ∧ s.negotiates p = true ∧ (s.port p).up = false ∧ (s.port p).mdioFail = false ∧ v.val ∉
        offers (s.laneMode p)) ∧
    (let p : Fin 64 := 61; let v : Fin 4 := 2;
    let s : State := portUp { cfg := 1, duplexFail := true } 1; s.running = true ∧ s.portPresent p = true ∧ (s.port
        p).enabled = true ∧ s.negotiates p = true ∧ (s.port p).up = false ∧ (s.port p).mdioFail = false ∧ v.val ∈
        offers (s.laneMode p)) ∧
    (let p : Fin 64 := 60;
    let s : State := portUp { cfg := 1 } 5; s.negotiates p = false ∨ (s.port p).mdioFail = true) ∧
    (let p : Fin 68 := 67;
    let s : State := { up with ports := [(67, { cfg := 3 })] }; s.running = true ∧ s.portPresent p = true ∧ (s.port
        p).enabled = true ∧ (s.port p).up = false ∧ (s.port p).mdioFail = false ∧ 64 ≤ p.val) ∧
    (let p : Fin 68 := 61; let s : State := portUp { cfg := 7 };
    let q := s.port p; s.running = true ∧ s.portPresent p = true ∧ (s.port p).enabled = true ∧ (s.port p).up = false ∧
        (s.port p).mdioFail = false ∧ p.val < 64 ∧ 1 ≤ q.sel) ∧
    (let p : Fin 68 := 60; let s : State := { up with ports := [(60, { lane := 5, cfg := 1 })] };
    let q := s.port p; s.running = true ∧ s.portPresent p = true ∧ (s.port p).enabled = true ∧ (s.port p).up = false ∧
        (s.port p).mdioFail = false ∧ p.val < 64 ∧ q.sel = 0 ∧ s.laneMode p = 5) ∧
    (let p : Fin 68 := 61; let s : State := portUp { cfg := 1, anDone := true, speed := 2 };
    let q := s.port p; s.running = true ∧ s.portPresent p = true ∧ (s.port p).enabled = true ∧ (s.port p).up = false ∧
        (s.port p).mdioFail = false ∧ p.val < 64 ∧ q.sel = 0 ∧ s.laneMode p ≠ 5 ∧ q.anDone = true) ∧
    (let p : Fin 68 := 61; let s : State := portUp { cfg := 1 };
    let q := s.port p; s.running = true ∧ s.portPresent p = true ∧ (s.port p).enabled = true ∧ (s.port p).up = false ∧
        (s.port p).mdioFail = false ∧ p.val < 64 ∧ q.sel = 0 ∧ s.laneMode p ≠ 5 ∧ q.anDone = false) ∧
    (let p : Fin 68 := 67; let s : State := up; s.running = true ∧ (s.port p).up = false) ∧
    (let p : Fin 68 := 61;
    let s : State := vp (fun p => { p with paused := 3, verify := .active }); s.running = true ∧ (s.port p).up = true)
        ∧
    (let p : Fin 64 := 61;
    let s : State := vp (fun p => { p with paused := 3, verify := .active }); s.running = true ∧ (s.port p).up = true
        ∧ (s.port p).rx = none ∧ (s.port p).rxp = none) ∧
    (let l : Fin 20 := 14; let s : State := portUp linked; s.running = true ∧ s.lanePaired l) ∧
    (let l : Fin 20 := 15; let s : State := portUp linked; s.running = true ∧ ¬ s.lanePaired l) ∧
    (let s : State := { up with ports := [(67, { linked with cfg := 1 })] }; s.running = true) ∧
    (let p : Fin 64 := 61; let s : State := vp (fun p => { p with cfg := 1 });
    let q := s.port p; s.takesPort p = true ∧ q.rxPause = false) ∧
    (let p : Fin 64 := 61; let s : State := vp (fun p => { p with holdoff := true });
    let q := s.port p; s.takesPort p = true ∧ q.rxPause = true ∧ q.holdoff = true) ∧
    (let p : Fin 64 := 61; let s : State := vp (fun p => { p with paused := 1 });
    let q := s.port p; s.takesPort p = true ∧ q.rxPause = true ∧ q.holdoff = false) ∧
    (let p : Fin 64 := 61; let s : State := vp (fun p => { p with holdoff := true }); s.takesPort p = true ∧ (
    let q := s.port p; q.pfcEn = false ∨ q.holdoff = true)) ∧
    (let p : Fin 64 := 61; let s : State := vp (fun p => { p with paused := 4 }); s.takesPort p = true ∧ (
    let q := s.port p; q.pfcEn = true ∧ (q.holdoff = false))) ∧
    (let p : Fin 64 := 61;
    let s : State := vp (fun p => { p with paused := 7, till := [(2, ms 5000)] }); s.running = true) ∧
    (let p : Fin 64 := 61; let s : State := monoAt (ms 200) (dogged (fun p => { p with paused := 7 }));
    let q := s.port p;
    let dog := q.pausedAt + ms (bits q.pauseWd.toNat 15 0); s.running = true ∧ q.paused ≠ 0 ∧ dog ≤ s.sys.mono) ∧
    (let p : Fin 64 := 61; let s : State := dogged (fun p => { p with paused := 7, pausedAt := ms 5000 });
    let q := s.port p;
    let dog := q.pausedAt + ms (bits q.pauseWd.toNat 15 0); s.running = true ∧ q.paused = 0 ∨ s.sys.mono < dog) ∧
    (let p : Fin 64 := 61; let s : State := monoAt (ms 200) (dogged (fun p => { p with holdoff := true }));
    let q := s.port p;
    let rest := q.holdAt + ms (bits q.pauseWd.toNat 31 16); s.running = true ∧ rest ≤ s.sys.mono) ∧
    (let p : Fin 64 := 61; let s : State := dogged (fun p => { p with holdoff := true, holdAt := ms 5000 });
    let q := s.port p;
    let rest := q.holdAt + ms (bits q.pauseWd.toNat 31 16); s.running = true ∧ s.sys.mono < rest) ∧
    (let p : Fin 64 := 61; let s : State := vp (fun p => { p with verify := .verifying, verifyTries := 2 });
    let q := s.port p; s.running = true ∧ q.verify = .verifying) ∧
    (let p : Fin 64 := 61; let s : State := vp (fun p => { p with verify := .verifying, verifyTries := 1 });
    let q := s.port p; s.running = true ∧ q.verify = .verifying ∧ q.verifyTries < 2) ∧
    (let p : Fin 64 := 61; let s : State := vp (fun p => { p with verify := .verifying, verifyTries := 2 });
    let q := s.port p; s.running = true ∧ q.verify = .verifying ∧ 2 ≤ q.verifyTries) ∧
    (let p : Fin 64 := 61; let s : State := vp (fun p => { p with frag := some ([3], 4) }); s.takesPort p = true) ∧
    (let p : Fin 64 := 61; let s : State := vp id; let q := s.port p; s.takesPort p = true ∧ q.frag = none) ∧
    (let p : Fin 64 := 61; let s : State := vp (fun p => { p with frag := some ([3], 4) }); let q := s.port p;
    let a := [3]; let r0 := 4; s.takesPort p = true ∧ q.frag = some (a, r0)) ∧
    (let i : Fin 32 := 31; let r : Rec := rcd 0x0203 31 [1, 60, 61, 0];
    let s : State := withRecs (vp id) [rcd 0x0203 31 [1, 60, 61, 0]];
    let due := (s.pair i).supAt + ms (rdLE r.body 6 2); s.running = true ∧ s.rec? 0x0203 i = some r ∧ due ≤
        s.sys.mono) ∧
    (let i : Fin 32 := 31; let r : Rec := rcd 0x0203 31 [1, 60, 61, 0, 0, 0, 0xD0, 0x07];
    let s : State := withRecs ({ vp id with pairs := [(31, { supAt := ms 5000 })] }) [rcd 0x0203 31 [1, 60, 61, 0, 0,
        0, 0xD0, 0x07]];
    let due := (s.pair i).supAt + ms (rdLE r.body 6 2); s.running = true ∧ s.rec? 0x0203 i = some r ∧ s.sys.mono <
        due) ∧
    (let j : Fin 8 := 7; let r : Rec := genRec 1000 5; let s : State := at' (withRecs up [genRec 1000 5]) 5;
    let k := instCount (rdLE r.body 4 4) (rdLE r.body 8 4) s.time.t.toNat;
    let v := BitVec.ofNat 64 (instAt (rdLE r.body 4 4) (rdLE r.body 8 4) k); s.running = true ∧ s.rec? 0x0503 j = some
        r ∧ k ≠ 0 ∧ s.tt.last.find? j = none ∧ s.tt.stepTo.all (fun t => decide (t < v)) = true) ∧
    (let j : Fin 8 := 7; let r : Rec := genRec 1000 5;
    let s : State := { at' (withRecs up [genRec 1000 5]) 1006 with tt := { up.tt with last := [(7, (5, 3))] } };
    let k := instCount (rdLE r.body 4 4) (rdLE r.body 8 4) s.time.t.toNat;
    let v := BitVec.ofNat 64 (instAt (rdLE r.body 4 4) (rdLE r.body 8 4) k); let last := (5 : DWord);
    let n := (3 : Nat); s.running = true ∧ s.rec? 0x0503 j = some r ∧ k ≠ 0 ∧ s.tt.last.find? j = some (last, n) ∧
        last < v ∧ s.tt.stepTo.all (fun t => decide (t < v)) = true) ∧
    (let j : Fin 8 := 7; let r : Rec := genRec 1000 5;
    let s : State := { at' (withRecs up [genRec 1000 5]) 1004 with tt := { up.tt with stepTo := some 1005 } };
    let k := instCount (rdLE r.body 4 4) (rdLE r.body 8 4) s.time.t.toNat;
    let v := BitVec.ofNat 64 (instAt (rdLE r.body 4 4) (rdLE r.body 8 4) k);
    let t := (1005 : DWord); s.running = true ∧ s.rec? 0x0503 j = some r ∧ s.tt.stepTo = some t ∧ v ≤ t) ∧
    (let j : Fin 8 := 7; let r : Rec := genRec 1000 5;
    let s : State := { at' (withRecs up [genRec 1000 5]) 1004 with tt := { up.tt with last := [(7, (1005, 3))] } };
    let k := instCount (rdLE r.body 4 4) (rdLE r.body 8 4) s.time.t.toNat;
    let v := BitVec.ofNat 64 (instAt (rdLE r.body 4 4) (rdLE r.body 8 4) k); let last := (1005 : DWord);
    let n := (3 : Nat); s.running = true ∧ s.rec? 0x0503 j = some r ∧ s.tt.last.find? j = some (last, n) ∧ v ≤ last)
        := by
  refine ⟨?_, ?_, ?_, ?_, ?_, ?_, ?_, ?_, ?_, ?_, ?_, ?_, ?_, ?_, ?_, ?_, ?_, ?_, ?_, ?_, ?_, ?_, ?_, ?_, ?_, ?_, ?_,
        ?_, ?_, ?_, ?_, ?_, ?_, ?_, ?_, ?_, ?_⟩ <;> decide +kernel

/-! ### The switch core -/

/-- 60 bytes to a station, and the FCS after them. -/
def body60 : List Byte := [2, 0, 0, 0, 0, 1, 2, 0, 0, 0, 0, 2, 8, 0] ++ zeros 46
def frame64 : List Byte := body60 ++ leBytes 4 (crc32 body60).toNat
def fr (len : Nat) : Frame :=
  { src := 61, stamp := 9, gen := 0, bytes := body60, len := len, cls := 7, colour := 0, vid := 5 }
def swUp (f : SwBlk → SwBlk) (p : Port := linked) : State := { portUp p with sw := f up.sw }
/-- Frame 4 in reception at port 61. -/
def inRx : State := swUp (fun w => { w with frames := [(4, fr 64)], nextFid := 4 }) { linked with rx := some 4 }
/-- Frame 4 queued in class 7 of port 61. -/
def queued (p : Port := linked) (tt : TtBlk := up.tt) : State :=
  { swUp (fun w => { w with
      frames := [(4, { fr 64 with copies := 1, dests := [] })], queue := [(8 * 61 + 7, [copy0' 4])] }) p with tt := tt }
where copy0' (n : Nat) : Copy := { fid := n, cells := 1, since := 0 }
def cell7 (plane : Nat) (tried : List Nat := []) : CellTx := { inp := 36, out := 84, seq := 7, fid := 4, plane := plane, tried := tried }
def tx7 (f : TxNow → TxNow := id) : TxNow := f { fid := 4, cls := 7, stamp := 9 }
/-- Port 61 with a guardian whose other bank, which counts still, opens no class. -/
def shut : TtBlk :=
  { up.tt with bank := [(122, gateB 250000 0), (123, gateB 250000 0 |>.set 0x1C 0)], bothTill := [(61, 2 ^ 40)] }
def preempts (x : TxNow) : State := queued { linked with cfg := 0x0001, verify := .active, tx := some x }
def cellsUp (l : List CellTx) : State := swUp (fun w => { w with cells := l })


theorem test_hyps_SwitchFramesAndPlanes :
    (let p : Fin 64 := 61; let len : Nat := 64; let raw : DWord := 9; let s : State := swUp id;
    let pre := (s.port p).frag.any (fun x => x.2 == raw); s.takesPort p = true ∧ 64 ≤ len ∧ (s.port p).slot pre =
        none) ∧
    (let p : Fin 64 := 61; let b : List Byte := body60; let len : Nat := 64; let raw : DWord := 9;
    let s : State := swUp (fun w => { w with port := [(61, { pcfg := 0x00056706 })] });
    let pre := (s.port p).frag.any (fun x => x.2 == raw); s.takesPort p = true ∧ 64 ≤ len ∧ (s.port p).slot pre = none
        ∧ (parse b).tags = [] ∧ (parse b).hsr = none ∧ pauseOp (parse b) b = none ∧ s.vlan (s.swPort p).pvid = none) ∧
    (let p : Fin 64 := 61; let b : List Byte := body60; let raw : DWord := 9; let s : State := swUp id;
    let body := (rxParts b).1; s.takesPort p = true ∧ (s.port p).rx = none ∧ b.length < 64 ∧ b.length ≤ s.rxLimit p
        (parse body).tags.length ((prpOf body).isSome || (parse body).hsr.isSome) raw) ∧
    (let p : Fin 64 := 61; let s : State := inRx; let fid := 4; s.takesPort p = true ∧ (s.port p).rx = some fid) ∧
    (let p : Fin 64 := 61; let b : List Byte := frame64; let raw : DWord := 9; let s : State := swUp id;
    let body := (rxParts b).1; let k := s.classify p (body.take 128) b.length (prpOf body).isSome raw false;
    let fid := 1; s.takesPort p = true ∧ (s.port p).rx = none ∧ 64 ≤ b.length ∧ (k.port p).rx = some fid) ∧
    (let s : State := swUp (fun w => { w with fdb := [⟨7, 5, 0, 61, false, 0⟩, ⟨7, 5, 0, 61, true, 0⟩] }); s.running =
        true ∧ s.sw.ageS ≠ 0) ∧
    (let s : State := up.setPair 31 { dd := [⟨7, 5, 0⟩, ⟨7, 6, 0⟩] }; s.running = true) ∧
    (let p : Fin 68 := 61;
    let s : State := swUp id; s.takesPort p = true ∧ (s.port p).tx = none ∧ (s.port p).held = none ∧ (∀ c, c < 8 →
        s.queue p c = [])) ∧
    (let p : Fin 68 := 61; let s : State := queued; let c : Fin 8 := 7;
    let x : Copy := { fid := 4, cells := 1, since := 0 }; let rest : List Copy := [];
    let f : Frame := { fr 64 with copies := 1, dests := [] }; let d := s.sendTime f p 0;
    let body := s.egressBody f p 0;
    let long := s.limitM p (parse body).tags.length (s.sendsRed f p).isSome < s.handedLen f p; s.takesPort p = true ∧
        (s.port p).tx = none ∧ (s.port p).held = none ∧ (∀ k, k < 8 → k ≠ c.val → s.queue p k = []) ∧ s.queue p c = x
        :: rest ∧ s.classOpen p c = true ∧ s.frame x.fid = some f ∧ s.gateFits p c d = true ∧ s.guardFits p c d = true
        ∧ ¬ long) ∧
    (let p : Fin 68 := 61; let s : State := queued { linked with maxLen := 60 }; let c : Fin 8 := 7;
    let x : Copy := { fid := 4, cells := 1, since := 0 }; let rest : List Copy := [];
    let f : Frame := { fr 64 with copies := 1, dests := [] }; let d := s.sendTime f p 0;
    let body := s.egressBody f p 0;
    let long := s.limitM p (parse body).tags.length (s.sendsRed f p).isSome < s.handedLen f p; s.takesPort p = true ∧
        (s.port p).tx = none ∧ (s.port p).held = none ∧ (∀ k, k < 8 → k ≠ c.val → s.queue p k = []) ∧ s.queue p c = x
        :: rest ∧ s.classOpen p c = true ∧ s.frame x.fid = some f ∧ s.gateFits p c d = true ∧ s.guardFits p c d = true
        ∧ long) ∧
    (let p : Fin 68 := 61; let s : State := queued linked shut; let c : Fin 8 := 7;
    let x : Copy := { fid := 4, cells := 1, since := 0 }; let rest : List Copy := [];
    let f : Frame := { fr 64 with copies := 1, dests := [] };
    let d := s.sendTime f p 0; s.takesPort p = true ∧ (s.port p).tx = none ∧ (s.port p).held = none ∧ (∀ k, k < 8 → k
        ≠ c.val → s.queue p k = []) ∧ s.queue p c = x :: rest ∧ s.classOpen p c = true ∧ s.frame x.fid = some f ∧
        s.gateFits p c d = true ∧ s.guardFits p c d = false) ∧
    (let p : Fin 68 := 61; let s : State := queued { linked with tx := some (tx7) };
    let x : TxNow := tx7; s.running = true ∧ (s.port p).tx = some x ∧ x.lim = none ∨ x.cut = true) ∧
    (let p : Fin 68 := 61;
    let s : State := queued { linked with tx := some (tx7 (fun x => { x with lim := some 64 })) };
    let x : TxNow := tx7 (fun x => { x with lim := some 64 }); s.running = true ∧ (s.port p).tx = some x ∧ x.lim ≠
        none ∧ x.cut = false) ∧
    (let p : Fin 68 := 61; let s : State := preempts tx7; let x : TxNow := tx7;
    let k := 60; s.running = true ∧ (s.port p).tx = some x ∧ s.preemptable p x.cls = true ∧ x.cut = false ∧ s.fragOk p
        x k = true) ∧
    (let p : Fin 68 := 61; let s : State := preempts tx7; let x : TxNow := tx7;
    let k := 59; s.running = true ∧ (s.port p).tx = some x ∧ s.preemptable p x.cls = false ∨ s.fragOk p x k = false) ∧
    (let p : Fin 64 := 61; let c : Fin 8 := 7;
    let s : State := monoAt (ms 5000) (queued linked { up.tt with bank := [(122, gateB 250000 0 |>.set 0x10 0x80)] });
    let x : Copy := { fid := 4, cells := 1, since := 0 }; let rest : List Copy := [];
    let due := x.since + gateDeadline (s.sched p); s.running = true ∧ s.guarded p = true ∧ tst (gateMask (s.sched p))
        c = true ∧ s.queue p c = x :: rest ∧ s.begun p x = false ∧ due ≤ s.sys.mono) ∧
    (let p : Fin 64 := 61; let c : Fin 8 := 7;
    let s : State := monoAt 0 (queued linked { up.tt with bank := [(122, gateB 250000 0 |>.set 0x10 0x80)] });
    let x : Copy := { fid := 4, cells := 1, since := 0 }; let rest : List Copy := [];
    let due := x.since + gateDeadline (s.sched p); s.running = true ∧ s.guarded p = true ∧ tst (gateMask (s.sched p))
        c = true ∧ s.queue p c = x :: rest ∧ s.begun p x = false ∧ s.sys.mono < due) ∧
    (let i : Fin 37 := 36; let o : Fin 85 := 84; let seq : Nat := 7; let s : State := cellsUp [cell7 0];
    let c := cell7 0; s.running = true ∧ s.cell? i o seq = some c) ∧
    (let i : Fin 37 := 36; let o : Fin 85 := 84; let seq : Nat := 7;
    let s : State := swUp id; s.running = true ∧ s.cell? i o seq = none) ∧
    (let i : Fin 37 := 36; let o : Fin 85 := 84; let seq : Nat := 7;
    let s : State := swUp (fun w => { w with cellSeq := [(3144, 8)] }); s.running = true ∧ s.cell? i o seq = none ∧
        seq < s.sw.cellSeq.get 0 (85 * i.val + o.val)) ∧
    (let s : State := cellsUp [cell7 0 [1]]; let c : CellTx := cell7 0 [1]; let tried := c.plane :: c.tried;
    let u := (s.dropCells (fun x => x == c)).planeFail c.plane; (∃ p, p < 5 ∧ tst u.sw.working.toNat p = true ∧ p ∉
        tried)) ∧
    (let s : State := cellsUp [cell7 0 [1, 2, 3]]; let c : CellTx := cell7 0 [1, 2, 3];
    let tried := c.plane :: c.tried;
    let u := (s.dropCells (fun x => x == c)).planeFail c.plane; (∀ p, p < 5 → tst u.sw.working.toNat p = true → p ∈
        tried)) ∧
    (let s : State := swUp id; s.sw.working ≠ 0) ∧
    (let p : Fin 5 := 4;
    let s : State := swUp (fun w => { w with retired := 0b10000 }); s.running = true ∧ tst s.sw.retired.toNat p =
        true) ∧
    (let p : Fin 5 := 0; let s : State := swUp (fun w => { w with spare := 7 });
    let left := s.sw.working &&& ~~~ BitVec.ofNat 5 (2 ^ p.val);
    let w := if tst s.sw.working.toNat p = true ∧ s.sw.spare < 5 then left ||| BitVec.ofNat 5 (2 ^ s.sw.spare) else
        left; s.running = true ∧ tst s.sw.retired.toNat p = false ∧ 3 ≤ (maskBits 5 w.toNat).length) ∧
    (let p : Fin 5 := 0; let s : State := swUp (fun w => { w with spare := 7, working := 0b01011 });
    let left := s.sw.working &&& ~~~ BitVec.ofNat 5 (2 ^ p.val);
    let w := if tst s.sw.working.toNat p = true ∧ s.sw.spare < 5 then left ||| BitVec.ofNat 5 (2 ^ s.sw.spare) else
        left; s.running = true ∧ tst s.sw.retired.toNat p = false ∧ (maskBits 5 w.toNat).length < 3) := by
  refine ⟨?_, ?_, ?_, ?_, ?_, ?_, ?_, ?_, ?_, ?_, ?_, ?_, ?_, ?_, ?_, ?_, ?_, ?_, ?_, ?_, ?_, ?_, ?_, ?_, ?_, ?_⟩ <;>
        decide +kernel

/-! ### Personalities, the store, images -/

/-- The store of 64 KiB and two image slots beside the regions of Sage. -/
def storeNvm : List Region := [⟨2, 0, 0x100000, 0x40000⟩, ⟨2, 1, 0x140000, 0x40000⟩, ⟨3, 0, 0x20000, 0x10000⟩] ++ sageNvm
def cells (a : Nat) (b : List Byte) : Mem := (b.zipIdx a).map (fun p => (p.2, p.1))
/-- The NVM's bytes: owner certificates, the image slot, the store. -/
def flash (s : State) (l : Mem) : State :=
  let certs := cells 0x1000 (leBytes 4 0x4F574E52 ++ leBytes 2 1 ++ leBytes 2 1)
  { s with mem := { s.mem with nvm := certs ++ (cells 0x1060 (leBytes 8 7 ++ leBytes 4 15) ++ l) } }
def stored (s : State := up) : State := { certs s with cfg := { (certs s).cfg with dir := storeNvm } }
def instUp (st : EngState := .running) : State := withRecs (up.setEng 30 { st := st }) [rcd 0x0801 30 ([9, 0, 0, 0] ++ zeros 16)]
def acted (e : Nat) (k : InstReq) : State :=
  let s := up.setEng e { st := .stopped, status := 1 }
  s.setCl (e / 2) { s.cl (e / 2) with instReq := [(e, k, some (32, 5))] }
/-- An entry of code 9, version 3 with a block of 16 bytes, and the store header before it. -/
def entryHdr (live : Nat := 0xFFFFFFFF) : List Byte :=
  leBytes 4 0x59504E45 ++ leBytes 4 live ++ leBytes 4 16 ++ leBytes 4 0xFFFFFFFF ++ [9, 0, 3, 0] ++ leBytes 4 0 ++
  leBytes 4 4096 ++ leBytes 4 0 ++ leBytes 4 0x100 ++ zeros 12 ++ zeros 16 ++ leBytes 8 7 ++ zeros 24 ++ zeros 160
def storeHdr : List Byte :=
  let h := leBytes 4 0x52535450 ++ leBytes 2 1 ++ zeros 130
  h ++ leBytes 4 (crc32c h).toNat
def app (done : Nat := 272) : Append := ⟨280, 0x21000, done, false⟩
def appended (a : Append := app) : State :=
  let s := flash stored (cells 0x20000 storeHdr ++ cells 0x21000 (entryHdr ++ zeros 16))
  { s with engs := { s.engs with append := some a } }
/-- A committed entry, bound by an instance or not. -/
def committed (bound : Bool) : State :=
  let s := flash stored (cells 0x21000 (entryHdr ++ zeros 16 ++ leBytes 4 0x54494D43 ++ zeros 4))
  if bound then withRecs s [rcd 0x0801 31 ([9, 0, 3, 0] ++ zeros 16)] else s
/-- An image of one record of type 0x0104, its CRCs in place. -/
def sysBody : List Byte := [1, 0, 0, 1] ++ zeros 8 ++ [1, 0, 0, 0]
def imgHdr (seq : Nat := 5) (n : Nat := 224) (magic : Nat := 0x465A4C41) : List Byte :=
  let h := leBytes 4 magic ++ [0, 1, 64, 0] ++ leBytes 8 seq ++ leBytes 4 n ++ leBytes 4 1 ++ leBytes 4 0 ++ [0x40, 0x64] ++
    leBytes 2 0x0A02 ++ zeros 28
  h ++ leBytes 4 (crc32c h).toNat
def imgRec : List Byte := leBytes 2 0x0104 ++ [1, 0] ++ leBytes 4 16 ++ zeros 4 ++ leBytes 4 (crc32c sysBody).toNat ++ sysBody
def imgTail : List Byte :=
  leBytes 4 0x454E4F44 ++ [128, 0, 0, 0] ++ leBytes 4 (crc32c (imgHdr ++ imgRec)).toNat ++ zeros 116
def writing (w : ImgWrite) (b : List Byte := []) : State :=
  let s := bulk (stored) b
  { s with host := { s.host with img := some w } }
def iw (done : Nat) (erased commit : Bool) : ImgWrite := ⟨224, imgHdr, done, 0, erased, commit⟩
/-- The image but for its trailer stands in the slot. -/
def atTrailer (tail : List Byte) : State :=
  let s := flash (writing (iw 96 true false) tail) (cells 0x140000 (imgHdr ++ imgRec))
  { s with sys := { s.sys with lc := .provisioned, cfgSlot := false } }
def job (k : NvmKind) (off : Nat) (b : List Byte) : State :=
  let s := writing (iw 96 true true)
  { s with sage := { s.sage with job := some ⟨k, 32, 0x901, 5, off, b⟩ } }

theorem appendCheck_none {s : State} {r : Region} {a : Append} {v : Verdict}
    (h1 : entryHdrOk (s.nvmBytes a.off 256) = true) (h2 : rdLE (s.nvmBytes a.off 256) 8 4 + 264 = a.total)
    (h3 : s.storeHdrOk r = true) (h4 : v.digest = true ∧ v.sig = true)
    (h5 : s.persSigner r (s.nvmBytes a.off 256) = true)
    (h6 : (Free.lz4Expand (s.nvmBytes (a.off + 256) (a.total - 264))).length =
      rdLE (s.nvmBytes a.off 256) 0x18 4 + rdLE (s.nvmBytes a.off 256) 0x1C 4) :
    s.appendCheck r a v true = none := by
  simp [State.appendCheck, h1, h2, h3, h4.1, h4.2, h5, h6]

/-- A block that expands to its length, signed by the vendor personality key: both are facts of the crypto unit. -/
theorem test_hyps_InstancesAndTheStore_commit :
    let s := appended.fetchReq (hreq []) 0x612
    (appended.running = true ∧ s.reqCheck (hreq []) 0x612 0 = none ∧ s.engs.append = some app ∧
      s.region? 3 0 = some ⟨3, 0, 0x20000, 0x10000⟩ ∧ s.sage.job = none) ∧
    (s.persSigner ⟨3, 0, 0x20000, 0x10000⟩ (s.nvmBytes 0x21000 256) = true →
      (Free.lz4Expand (s.nvmBytes 0x21100 16)).length = 4096 →
      s.appendCheck ⟨3, 0, 0x20000, 0x10000⟩ app good true = none) :=
  ⟨by decide +kernel, fun h k => appendCheck_none (by decide +kernel) (by decide +kernel) (by decide +kernel) ⟨rfl, rfl⟩
    h k⟩


theorem test_hyps_InstancesAndTheStore :
    (let code : Nat := 0x601; let words : Nat := 1; let ok : Req → State → Prop := InstFree;
    let q : Req := hreq [30]; let s : State := instUp;
    let u : State := s.fetchReq q code; s.running = true ∧ s.reqDue q code = true ∧ (s.fetchReq q code).reqCheck q
        code words = none ∧ ok q u) ∧
    (let code : Nat := 0x602; let words : Nat := 1;
    let ok : Req → State → Prop := (fun q u => InstFree q u ∧ u.instStopped (q.word 1) = true);
    let q : Req := hreq [30]; let s : State := instUp .trapHalt;
    let u : State := s.fetchReq q code; s.running = true ∧ s.reqDue q code = true ∧ (s.fetchReq q code).reqCheck q
        code words = none ∧ ok q u) ∧
    (let code : Nat := 0x602; let words : Nat := 1;
    let ok : Req → State → Prop := (fun q u => InstFree q u ∧ u.instStopped (q.word 1) = false);
    let q : Req := hreq [30]; let s : State := instUp;
    let u : State := s.fetchReq q code; s.running = true ∧ s.reqDue q code = true ∧ (s.fetchReq q code).reqCheck q
        code words = none ∧ ok q u) ∧
    (let code : Nat := 0x603; let words : Nat := 1;
    let ok : Req → State → Prop := (fun q u => InstFree q u ∧ u.instStopped (q.word 1) = true);
    let q : Req := hreq [30]; let s : State := instUp .stopped;
    let u : State := s.fetchReq q code; s.running = true ∧ s.reqDue q code = true ∧ (s.fetchReq q code).reqCheck q
        code words = none ∧ ok q u) ∧
    (let code : Nat := 0x603; let words : Nat := 1;
    let bad : Req → State → Prop := (fun q u => InstFree q u ∧ u.instStopped (q.word 1) = false);
    let ok : Req → State → Prop := bad; let q : Req := hreq [30]; let s : State := instUp;
    let u : State := s.fetchReq q code; s.running = true ∧ s.reqDue q code = true ∧ (s.fetchReq q code).reqCheck q
        code words = none ∧ ok q u) ∧
    (let code : Nat := 0x601; let words : Nat := 1; let bad : Req → State → Prop := (fun q _ => 32 ≤ q.word 1);
    let ok : Req → State → Prop := bad; let q : Req := hreq [32]; let s : State := instUp;
    let u : State := s.fetchReq q code; s.running = true ∧ s.reqDue q code = true ∧ (s.fetchReq q code).reqCheck q
        code words = none ∧ ok q u) ∧
    (let code : Nat := 0x601; let words : Nat := 1;
    let bad : Req → State → Prop := (fun q u => q.word 1 < 32 ∧ u.hasInstance (q.word 1) = true ∧
    u.instPending (q.word 1) = true); let ok : Req → State → Prop := bad; let q : Req := hreq [30];
    let s : State := instUp.setCl 15 { instUp.cl 15 with instReq := [(30, .stop, none)] };
    let u : State := s.fetchReq q code; s.running = true ∧ s.reqDue q code = true ∧ (s.fetchReq q code).reqCheck q
        code words = none ∧ ok q u) ∧
    (let e : Fin 32 := 30; let s : State := acted 30 .restart; let k : InstReq := .restart; let src : Nat := 32;
    let tag : Byte := 5; s.running = true ∧ s.restartDue e = some (e.val, k, some (src, tag))) ∧
    (let e : Fin 32 := 30; let s : State := acted 30 .start; let k : InstReq := .start; let src : Nat := 32;
    let tag : Byte := 5; let c := s.cl (e.val / 2);
    let t := s.setCl (e.val / 2) { c with instReq := c.instReq.filter (fun x => x.1 != e.val) };
    let u := if (s.eng e).status = 1 then t else t.haltInstance e 1; s.running = true ∧ s.restartDue e = some (e.val,
        k, some (src, tag)) ∧ u.sys.dramFail = false) ∧
    (let e : Fin 32 := 30; let s : State := instUp; s.restartDue e = none) ∧
    (let e : Nat := 30; let k := 31; let x := (0 : Nat); let q : Req := hreq [0xF000, 0, 256];
    let s : State := bulk (stored) entryHdr; let u : State := s.fetchReq q 0x610;
    let r : Region := ⟨3, 0, 0x20000, 0x10000⟩;
    let off := u.storeNext r; e < 32 ∧ k ≠ 1 ∧ k ≠ 2 ∧ x ≠ e ∧ s.running = true ∧ s.reqDue q 0x610 = true ∧
        (s.fetchReq q 0x610).reqCheck q 0x610 3 = none ∧ bulkIs q 2 256 ∧ u.sys.lc ≠ .retired ∧ u.exclusive = false ∧
        u.region? 3 0 = some r ∧ 264 ≤ q.word 1 ∧ off + q.word 1 ≤ r.off + r.size) ∧
    (let q : Req := hreq [0xF001, 0, 256]; let s : State := bulk (stored) entryHdr;
    let u : State := s.fetchReq q 0x610; let r : Region := ⟨3, 0, 0x20000, 0x10000⟩;
    let off := u.storeNext r; s.running = true ∧ s.reqDue q 0x610 = true ∧ (s.fetchReq q 0x610).reqCheck q 0x610 3 =
        none ∧ bulkIs q 2 256 ∧ u.sys.lc ≠ .retired ∧ u.exclusive = false ∧ u.region? 3 0 = some r ∧ r.off + r.size <
        off + q.word 1) ∧
    (let q : Req := hreq [256, 0, 16]; let s : State := appended (app 256); let u : State := s.fetchReq q 0x611;
    let a : Append := app 256; s.running = true ∧ s.reqDue q 0x611 = true ∧ (s.fetchReq q 0x611).reqCheck q 0x611 3 =
        none ∧ bulkOk q.src.val (q.word 2) (q.word 3) = true ∧ q.word 3 ≤ 0x8000 ∧ u.engs.append = some a ∧ a.commit =
        false ∧ a.done ≤ q.word 1 ∧ q.word 1 + q.word 3 ≤ a.total - 8) ∧
    (let q : Req := hreq [252, 0, 16]; let s : State := appended (app 256); let u : State := s.fetchReq q 0x611;
    let a : Append := app 256; s.running = true ∧ s.reqDue q 0x611 = true ∧ (s.fetchReq q 0x611).reqCheck q 0x611 3 =
        none ∧ bulkOk q.src.val (q.word 2) (q.word 3) = true ∧ q.word 3 ≤ 0x8000 ∧ u.engs.append = some a ∧ a.commit =
        false ∧ q.word 1 < a.done) ∧
    (let q : Req := hreq []; let s : State := appended; let u : State := s.fetchReq q 0x612; let a : Append := app;
    let r : Region := ⟨3, 0, 0x20000, 0x10000⟩; s.running = true ∧ s.reqDue q 0x612 = true ∧ (s.fetchReq q
        0x612).reqCheck q 0x612 0 = none ∧ u.engs.append = some a ∧ u.region? 3 0 = some r ∧ a.commit = false ∧
        u.sage.job = none) ∧
    (let q : Req := hreq []; let v : Verdict := good; let k : Bool := false;
    let s : State := appended { app with total := 281 }; let u : State := s.fetchReq q 0x612;
    let a : Append := { app with total := 281 }; let r : Region := ⟨3, 0, 0x20000, 0x10000⟩;
    let st := 0x12; s.running = true ∧ s.reqDue q 0x612 = true ∧ (s.fetchReq q 0x612).reqCheck q 0x612 0 = none ∧
        u.engs.append = some a ∧ u.region? 3 0 = some r ∧ a.commit = false ∧ u.sage.job = none ∧ u.appendCheck r a v k
        = some st) ∧
    (let q : Req := hreq [0x30009]; let s : State := committed false; let u : State := s.fetchReq q 0x613;
    let a : Nat := 0x21000;
    let bound := ∃ r ∈ u.recsOf 0x0801, rdLE r.body 0 1 = bits (q.word 1) 7 0 ∧ rdLE r.body 2 2 = bits (q.word 1) 31
        16; s.running = true ∧ s.reqDue q 0x613 = true ∧ (s.fetchReq q 0x613).reqCheck q 0x613 1 = none ∧ bits (q.word
        1) 15 8 = 0 ∧ u.storeEntry? (bits (q.word 1) 7 0) (bits (q.word 1) 31 16) = some a ∧ ¬ bound) ∧
    (let q : Req := hreq [0x30009]; let s : State := committed true; let u : State := s.fetchReq q 0x613;
    let a : Nat := 0x21000;
    let bound := ∃ r ∈ u.recsOf 0x0801, rdLE r.body 0 1 = bits (q.word 1) 7 0 ∧ rdLE r.body 2 2 = bits (q.word 1) 31
        16; s.running = true ∧ s.reqDue q 0x613 = true ∧ (s.fetchReq q 0x613).reqCheck q 0x613 1 = none ∧ bits (q.word
        1) 15 8 = 0 ∧ u.storeEntry? (bits (q.word 1) 7 0) (bits (q.word 1) 31 16) = some a ∧ bound) ∧
    (let v := good; let code : Nat := 0x614; let words : Nat := 2;
    let ok : Req → State → Prop := (fun q u => bulkIs q 1 160 ∧ (u.sys.lc = .provisioned ∨ u.sys.lc = .service) ∧
        u.exclusive = false ∧
      u.authorised q 0x614 (some 1) (u.authPay q 160) v ∧ (u.region? 3 0).isSome = true);
    let q : Req := hreq [0, 160]; let s : State := stored (lcAt .provisioned 0x614 0);
    let u : State := s.fetchReq q code; s.running = true ∧ s.reqDue q code = true ∧ (s.fetchReq q code).reqCheck q
        code words = none ∧ ok q u) := by
  refine ⟨?_, ?_, ?_, ?_, ?_, ?_, ?_, ?_, ?_, ?_, ?_, ?_, ?_, ?_, ?_, ?_, ?_, ?_, ?_⟩ <;> decide +kernel

theorem test_hyps_ImagesAreWritten :
    (let q : Req := hreq [224, 0, 64]; let s : State := bulk (stored) (imgHdr 5 224 7);
    let u : State := s.fetchReq q 0x901; let r : Region := ⟨2, 1, 0x140000, 0x40000⟩;
    let h := u.bulkRead q.src.val (q.word 2) 64;
    let good := firstFail (headerChecks h r.size) = 0 ∧ rdLE h 0x10 4 = q.word 1; s.running = true ∧ s.reqDue q 0x901
        = true ∧ (s.fetchReq q 0x901).reqCheck q 0x901 3 = none ∧ u.sys.lc ≠ .retired ∧ u.exclusive = false ∧ bulkIs q
        2 64 ∧ u.imgSlot = some r ∧ q.word 1 ≤ r.size ∧ ¬ good) ∧
    (let q : Req := hreq [224, 0, 64];
    let s : State := { bulk (stored) imgHdr with sys := { up.sys with cfgSeq := 5 } };
    let u : State := s.fetchReq q 0x901; let r : Region := ⟨2, 1, 0x140000, 0x40000⟩;
    let h := u.bulkRead q.src.val (q.word 2) 64;
    let good := firstFail (headerChecks h r.size) = 0 ∧ rdLE h 0x10 4 = q.word 1; s.running = true ∧ s.reqDue q 0x901
        = true ∧ (s.fetchReq q 0x901).reqCheck q 0x901 3 = none ∧ u.sys.lc ≠ .retired ∧ u.exclusive = false ∧ bulkIs q
        2 64 ∧ u.imgSlot = some r ∧ q.word 1 ≤ r.size ∧ good ∧ rdLE h 8 8 ≤ u.sys.cfgSeq.toNat) ∧
    (let q : Req := hreq [224, 0, 64];
    let s : State := { bulk (stored) imgHdr with sys := { up.sys with cfgSeq := 4 } };
    let u : State := s.fetchReq q 0x901; let r : Region := ⟨2, 1, 0x140000, 0x40000⟩;
    let h := u.bulkRead q.src.val (q.word 2) 64;
    let good := firstFail (headerChecks h r.size) = 0 ∧ rdLE h 0x10 4 = q.word 1; s.running = true ∧ s.reqDue q 0x901
        = true ∧ (s.fetchReq q 0x901).reqCheck q 0x901 3 = none ∧ u.sys.lc ≠ .retired ∧ u.exclusive = false ∧ bulkIs q
        2 64 ∧ u.imgSlot = some r ∧ q.word 1 ≤ r.size ∧ good ∧ u.sys.cfgSeq.toNat < rdLE h 8 8) ∧
    (let q : Req := hreq [0, 0, 64]; let s : State := writing (iw 0 false false);
    let u : State := s.fetchReq q 0x902; let w : ImgWrite := iw 0 false false;
    let r : Region := ⟨2, 1, 0x140000, 0x40000⟩; s.running = true ∧ s.reqDue q 0x902 = true ∧ (s.fetchReq q
        0x902).reqCheck q 0x902 3 = none ∧ bulkOk q.src.val (q.word 2) (q.word 3) = true ∧ 4 ≤ q.word 3 ∧ q.word 3 ≤
        0x8000 ∧ u.host.img = some w ∧ u.imgSlot = some r ∧ w.commit = false ∧ w.erased = false) ∧
    (let q : Req := hreq [4, 0, 64]; let s : State := writing (iw 0 true false);
    let u : State := s.fetchReq q 0x902; let w : ImgWrite := iw 0 true false;
    let r : Region := ⟨2, 1, 0x140000, 0x40000⟩; s.running = true ∧ s.reqDue q 0x902 = true ∧ (s.fetchReq q
        0x902).reqCheck q 0x902 3 = none ∧ bulkOk q.src.val (q.word 2) (q.word 3) = true ∧ 4 ≤ q.word 3 ∧ q.word 3 ≤
        0x8000 ∧ u.host.img = some w ∧ u.imgSlot = some r ∧ w.commit = false ∧ w.erased = true ∧ q.word 1 ≠ w.done) ∧
    (let q : Req := hreq [0, 0, 96]; let s : State := writing (iw 0 true false) (imgHdr ++ imgRec);
    let u : State := s.fetchReq q 0x902; let w : ImgWrite := iw 0 true false;
    let r : Region := ⟨2, 1, 0x140000, 0x40000⟩; let b := u.bulkRead q.src.val (q.word 2) (q.word 3);
    let head := (w.header.drop (q.word 1)).take (q.word 3); s.running = true ∧ s.reqDue q 0x902 = true ∧ (s.fetchReq q
        0x902).reqCheck q 0x902 3 = none ∧ bulkOk q.src.val (q.word 2) (q.word 3) = true ∧ 4 ≤ q.word 3 ∧ q.word 3 ≤
        0x8000 ∧ u.host.img = some w ∧ u.imgSlot = some r ∧ w.commit = false ∧ w.erased = true ∧ q.word 1 = w.done ∧
        q.word 1 + q.word 3 ≤ w.total - 128 ∧ b.take head.length = head) ∧
    (let q : Req := hreq [0, 128]; let v : Verdict := good; let p : Bool := true; let ok : Bool := true;
    let s : State := atTrailer (zeros 4); let u : State := s.fetchReq q 0x903;
    let w : ImgWrite := iw 96 true false; let r : Region := ⟨2, 1, 0x140000, 0x40000⟩;
    let tr := u.bulkRead q.src.val (q.word 1) 128; let x : ImgWrite := { w with at_ := u.sys.mono };
    let k : State := { u with host := { u.host with img := some x } };
    let reason := if ok = true then k.imageReason (u.nvmBytes r.off (w.total - 128) ++ tr) r.size v p else 0x12;
        s.running = true ∧ s.reqDue q 0x903 = true ∧ (s.fetchReq q 0x903).reqCheck q 0x903 2 = none ∧ u.host.img =
        some w ∧ u.imgSlot = some r ∧ w.commit = false ∧ u.sage.job = none ∧ bulkIs q 1 128 ∧ w.done = w.total - 128 ∧
        reason ≠ 0) ∧
    (let q : Req := hreq [0, 128]; let v : Verdict := good; let p : Bool := true; let ok : Bool := true;
    let s : State := atTrailer imgTail; let u : State := s.fetchReq q 0x903; let w : ImgWrite := iw 96 true false;
    let r : Region := ⟨2, 1, 0x140000, 0x40000⟩; let tr := u.bulkRead q.src.val (q.word 1) 128;
    let x : ImgWrite := { w with at_ := u.sys.mono };
    let k : State := { u with host := { u.host with img := some x } };
    let reason := if ok = true then k.imageReason (u.nvmBytes r.off (w.total - 128) ++ tr) r.size v p else 0x12;
        s.running = true ∧ s.reqDue q 0x903 = true ∧ (s.fetchReq q 0x903).reqCheck q 0x903 2 = none ∧ u.host.img =
        some w ∧ u.imgSlot = some r ∧ w.commit = false ∧ u.sage.job = none ∧ bulkIs q 1 128 ∧ w.done = w.total - 128 ∧
        reason = 0) ∧
    (let code : Nat := 0x904; let words : Nat := 0;
    let ok : Req → State → Prop := (fun _ u => ∃ w, u.host.img = some w ∧ w.commit = false);
    let q : Req := hreq []; let s : State := writing (iw 60 true false);
    let u : State := s.fetchReq q code; s.running = true ∧ s.reqDue q code = true ∧ (s.fetchReq q code).reqCheck q
        code words = none ∧ ok q u) ∧
    (let code : Nat := 0x904; let words : Nat := 0; let bad : Req → State → Prop := (fun _ u => u.host.img = none);
    let ok : Req → State → Prop := bad; let q : Req := hreq []; let s : State := up;
    let u : State := s.fetchReq q code; s.running = true ∧ s.reqDue q code = true ∧ (s.fetchReq q code).reqCheck q
        code words = none ∧ ok q u) ∧
    (let code : Nat := 0x905; let words : Nat := 0; let ok : Req → State → Prop := (fun _ u => u.host.img = none);
    let q : Req := hreq []; let s : State := up;
    let u : State := s.fetchReq q code; s.running = true ∧ s.reqDue q code = true ∧ (s.fetchReq q code).reqCheck q
        code words = none ∧ ok q u) ∧
    (let q : Req := hreq []; let s : State := writing (iw 60 true true); let u : State := s.fetchReq q 0x905;
    let w : ImgWrite := iw 60 true true; s.running = true ∧ s.reqDue q 0x905 = true ∧ (s.fetchReq q 0x905).reqCheck q
        0x905 0 = none ∧ u.host.img = some w) ∧
    (let s : State := monoAt 5 (writing (iw 60 true false));
    let w : ImgWrite := iw 60 true false; s.host.img = some w ∧ (w.commit = true ∨ s.sys.mono < w.at_ + sec 60)) ∧
    (let s : State := writing (iw 60 true false); let w : ImgWrite := iw 60 true false;
    let nvm : Bool := true; s.running = true ∧ s.host.img = some w ∧ (nvm = true ∨ w.commit = false ∧ w.at_ + sec 60 ≤
        s.sys.mono)) ∧
    (let s : State := job .imgErase 0x140000 (leBytes 8 0x40000);
    let j : NvmJob := ⟨.imgErase, 32, 0x901, 5, 0x140000, leBytes 8 0x40000⟩; s.running = true ∧ s.sage.job = some j ∧
        j.kind = .imgErase) ∧
    (let s : State := job .append 0x21118 (leBytes 8 7);
    let j : NvmJob := ⟨.append, 32, 0x901, 5, 0x21118, leBytes 8 7⟩; s.running = true ∧ s.sage.job = some j ∧ j.kind =
        .append) ∧
    (let s : State := job .keyImport 0x10100 (leBytes 8 7);
    let j : NvmJob := ⟨.keyImport, 32, 0x901, 5, 0x10100, leBytes 8 7⟩; s.running = true ∧ s.sage.job = some j ∧
        j.kind = .keyImport) ∧
    (let s : State := job .imgCommit 0x140060 (zeros 128);
    let j : NvmJob := ⟨.imgCommit, 32, 0x901, 5, 0x140060, zeros 128⟩; s.running = true ∧ s.sage.job = some j ∧ j.kind
        = .imgCommit) := by
  refine ⟨?_, ?_, ?_, ?_, ?_, ?_, ?_, ?_, ?_, ?_, ?_, ?_, ?_, ?_, ?_, ?_, ?_, ?_⟩ <;> decide +kernel

/-! ### The host's registers and mailboxes -/

def hostIs (f : HostIf → HostIf) : State := { up with host := f up.host }
/-- Vector 63 is pending, armed and open. -/
def vec63 (f : HostIf → HostIf := id) : State :=
  hostIs (fun h => f { h with
    devEvent := 1, devIrqEn := 1, irqEn := 1, vmap := [(0, 63)], msix := [(63, { mask := false })], msixEn := true
    busMaster := true })
def farBox : Mbox := { home := 5, farReader := 32, far := 0x100000000 }
def homeBox : Mbox := { home := 32, farReader := 6, far := 0x40 }
def boxed (m : Mbox) (n : Nat := 40) : State := up.setMb n m
def word (w : Word) : MbWord := { src := 5, word := w }

/-- IRQ_EN acts; EPOCH_US of cluster 0 is a configuration register; IRQ_RAW does nothing. -/
theorem test_hyps_HostRegistersAndInterrupts_act :
    (up.sys.up = true ∧ (0x10004#26).toNat % 4 = 0 ∧ msixSpan 0x10004 = false ∧ (∃ f, (up.reg 0x10004).act = some f) ∧
      (up.reg 0x10004).cfg = false) ∧
    (msixSpan 0x90118 = false ∧ (∃ f, (up.reg 0x90118).act = some f) ∧ (up.reg 0x90118).cfg = true ∧
      ((lcAt .operational 0 0).sys.lc = .operational ∧ (lcAt .operational 0 0).sys.up = true ∧
        (∃ f, ((lcAt .operational 0 0).reg 0x90118).act = some f) ∧ ((lcAt .operational 0 0).reg 0x90118).cfg = true) ∧
      up.sys.lc = .blank) ∧
    ((up.reg 0x10000).act.isNone = true ∧ msixSpan 0x10000 = false) :=
  ⟨⟨rfl, rfl, rfl, ⟨_, rfl⟩, rfl⟩, ⟨rfl, ⟨_, rfl⟩, rfl, ⟨rfl, rfl, ⟨_, rfl⟩, rfl⟩, rfl⟩, rfl, rfl⟩

/-- A view of 64 bytes at BAR2 offset 4096 of the records from 0x40 on. -/
def viewed : State := pntUp id [rcd 0x0708 0 ([0, 0, 0, 0] ++ leBytes 4 4096 ++ leBytes 4 0x40 ++ leBytes 4 64)]

theorem test_hyps_HostRegistersAndInterrupts :
    (let a : BitVec 26 := 0x10004; let b : List Byte := [1, 2, 3];
    let s : State := up; msixSpan a.toNat = false ∧ (s.sys.up = false ∨ a.toNat % 4 ≠ 0 ∨ b.length % 4 ≠ 0) ∧ s.sys.up
        = true) ∧
    (let a : BitVec 26 := 0x10018; let s : State := viewed;
    let r : Rec := rcd 0x0708 0 ([0, 0, 0, 0] ++ leBytes 4 4096 ++ leBytes 4 0x40 ++ leBytes 4 64); a.toNat % 4 = 0 ∧
        s.recsOf 0x0708 = [r]) ∧
    (let s : State := hostIs (fun h => { h with armed := 0 }); s.sys.up = true) ∧
    (let v : Fin 64 := 63;
    let s : State := vec63; s.vecPending v = true ∧ s.armed v = true ∧ s.msgBlocked v = false) ∧
    (let v : Fin 64 := 63;
    let s : State := vec63 (fun h => { h with d3hot := true }); s.vecPending v = false ∨ s.armed v = false ∨
        s.msgBlocked v = true) := by
  refine ⟨?_, ?_, ?_, ?_, ?_⟩ <;> decide +kernel

theorem test_hyps_MailboxesOfTheHost :
    (let n : Fin 64 := 40;
    let s : State := boxed { homeBox with farReader := 33, fromHome := List.replicate 7 (word 1) };
    let home : Bool := false; s.sys.up = true ∧ (s.mb n).outQ 32 = some home ∧ s.mbRoom n home 1 = true ∧ s.readerDown
        ((s.mb n).reader home) = false) ∧
    (let n : Fin 64 := 40; let s : State := boxed { farBox with toHome := List.replicate 8 (word 1) };
    let home : Bool := true; s.sys.up = true ∧ (s.mb n).outQ 32 = some home ∧ s.mbRoom n home 1 = false) ∧
    (let n : Fin 64 := 55; let s : State := boxed {} 55; s.sys.up = true ∧ n.val < 56 ∧ (s.mb n).outQ 32 = none) ∧
    (let n : Fin 64 := 40; let s : State := boxed { homeBox with toHome := [word 1, word 2] };
    let home : Bool := true; let x : MbWord := word 1; let y : MbWord := word 2;
    let rest : List MbWord := []; s.sys.up = true ∧ (s.mb n).inQ 32 = some home ∧ (s.mb n).q home = x :: y :: rest ∧
        x.bad = false ∧ y.bad = false) ∧
    (let n : Fin 64 := 40; let s : State := boxed farBox;
    let home : Bool := false; s.sys.up = true ∧ (s.mb n).inQ 32 = some home ∧ (s.mb n).q home = [] ∧ (s.mb n).granted
        32 = true ∧ (s.mb n).lock = none) ∧
    (let n : Fin 64 := 40; let s : State := boxed { farBox with lock := some 5 };
    let o := (5 : Nat); s.sys.up = true ∧ (s.mb n).granted 32 = true ∧ o ≠ 32 ∧ (s.mb n).lock = some o) ∧
    (let n : Fin 64 := 40;
    let s : State := boxed { farBox with lock := some 32 }; s.sys.up = true ∧ (s.mb n).granted 32 = true ∧ (s.mb
        n).lock = some 32) ∧
    (let n : Fin 64 := 40;
    let s : State := boxed { farBox with lock := some 5 }; s.sys.up = true ∧ (s.mb n).granted 32 = true ∧ (s.mb
        n).lock ≠ some 32) ∧
    (let s : State := up; s.sys.up = true) ∧
    (let s : State := boxed { homeBox with toHome := [word 1, word 2] }; let n : Nat := 40;
    let id : Nat := 32; n < 64 ∧ id ≠ 33 ∧ (s.mb n).home.toNat = id ∧ (s.mb n).farReader.toNat ≠ id ∧ (s.mb n).lock ≠
        some id) ∧
    (let n : Fin 64 := 61;
    let s : State := monoAt (ms 3) (boxed { farBox with lock := some 5 } 61); s.running = true ∧ 58 ≤ n.val ∧ n.val ≤
        61 ∧ (s.mb n).lock ≠ none ∧ (s.mb n).lockAt + ms 1 ≤ s.sys.mono) ∧
    (let n : Fin 64 := 61;
    let s : State := monoAt (ms 3) (boxed { farBox with lock := some 5, lockAt := ms 3 } 61); s.running = true ∧ 58 ≤
        n.val ∧ n.val ≤ 61 ∧ (s.mb n).lock ≠ none ∧ s.sys.mono < (s.mb n).lockAt + ms 1) ∧
    (let n : Fin 68 := 60; let s : State := portUp linked; s.sys.up = true ∧ s.portAbsent n = false) ∧
    (let s : State := up; s.sys.up = true) := by
  refine ⟨?_, ?_, ?_, ?_, ?_, ?_, ?_, ?_, ?_, ?_, ?_, ?_, ?_, ?_⟩ <;> decide +kernel

/-! ### Rosemary -/

/-- Cluster 15 with both engines running. -/
def clUp (f : Cluster → Cluster) (l : List Rec := []) : State :=
  let s := withRecs ((up.setEng 30 { st := .running }).setEng 31 { st := .running }) l
  s.setCl 15 (f (s.cl 15))
/-- Every cluster under CAPACITY, or under SWIFT. -/
def profRec (p : Byte) : Rec := rcd 0x0102 0 ([p, 0, 0, 0] ++ List.replicate 16 0xFF)
def capRecs : List Rec := [profRec 2, rcd 0x0801 31 ([9, 0, 0, 0] ++ zeros 16)]
def outE (n : Nat) (ep : Word := 7) : OutEntry := ⟨30, n, ep, .post 40 5⟩
/-- Two outputs of a committed and of the running epoch. -/
def withOut (left : Nat := 0) : State :=
  let s := clUp (fun c => { c with epoch := 8, outbox := [outE 3 7, outE 4 8] })
  s.setEng 30 { st := .running, left := left }
def flaw : Flaw := { k := 15, cls := 1, sig := some 9 }
def jent : JEntry := { eng := 30, kind := 1 }


theorem test_hyps_EpochsCommitOrRollBack :
    (let k : Fin 16 := 15; let early : Bool := false;
    let s : State := monoAt (ms 900) (clUp (fun c => { c with jCur := [jent] })); s.running = true ∧ (s.cl
        k).st.steady = true ∧ s.clusterRuns k = true ∧ (s.cl k).awaiting = false ∧ (if early then s.epochDue k = false
        ∧ s.epochTight k = true else s.epochDue k = true)) ∧
    (let k : Fin 16 := 15;
    let s : State := monoAt 5 (clUp (fun c => { c with jCur := [jent] })); s.running = true ∧ (s.cl k).st.steady =
        true ∧ s.clusterRuns k = true ∧ (s.cl k).awaiting = false ∧ s.epochDue k = false) ∧
    (let k : Fin 16 := 15;
    let s : State := clUp (fun c => { c with awaiting := true, jPrev := [jent], closing := true }); s.running = true ∧
        (s.cl k).st.steady = true ∧ (s.cl k).awaiting = true ∧ s.dbgHeld k = false) ∧
    (let k : Fin 16 := 15;
    let s : State := monoAt (ms 900) (clUp (fun c => { c with awaiting := true, jPrev := [jent] })); s.running = true
        ∧ (s.cl k).awaiting = true ∧ s.dbgHeld k = false ∧ (s.cl k).endedAt + 800 ≤ s.sys.mono) ∧
    (let k : Fin 16 := 15;
    let s : State := monoAt 799 (clUp (fun c => { c with awaiting := true, jPrev := [jent] })); s.running = true ∧
        (s.cl k).awaiting = true ∧ s.dbgHeld k = false ∧ s.sys.mono < (s.cl k).endedAt + 800) ∧
    (let k : Fin 16 := 15;
    let s : State := clUp (fun c => { c with st := .replay, mismatch := some 0 }); s.checks k = true ∧ s.paired k =
        true) ∧
    (let e : Fin 32 := 31;
    let s : State := clUp id; s.checks (e.val / 2) = true ∧ s.fenced e = false ∧ (s.eng (s.lead e)).st = .running ∧
        s.twin (e.val / 2) = true) ∧
    (let e : Fin 32 := 31;
    let s : State := clUp id capRecs; s.checks (e.val / 2) = true ∧ s.fenced e = false ∧ (s.eng (s.lead e)).st =
        .running ∧ s.twin (e.val / 2) = false) ∧
    (let f : Flaw := flaw; let s : State := withOut; let t := s.rollback f; let o := outE 3 7;
    let j := (14 : Nat); (s.cl f.k).st.steady = true ∧ (s.cl f.k).closing = false ∧ o ∈ (t.cl f.k).outbox ∧
        (t.recovered f.k).contains o.eng = true ∧ j ≠ f.k) ∧
    (let f : Flaw := flaw;
    let s : State := clUp (fun c => { c with st := .replay, mismatch := some 9 }); s.sys.stage ≠ .fatalSeq ∧ (s.cl
        f.k).st.steady = false ∨ (s.cl f.k).closing = true) ∧
    (let f : Flaw := flaw;
    let s : State := clUp (fun c => { c with closing := true }); s.sys.stage ≠ .fatalSeq ∧ (s.cl f.k).st.steady =
        false ∨ (s.cl f.k).closing = true) := by
  refine ⟨?_, ?_, ?_, ?_, ?_, ?_, ?_, ?_, ?_, ?_, ?_⟩ <;> decide +kernel

theorem test_hyps_RecoveryRunsItsCourse :
    (let w : EccAt := .bank 31 6143; let m := (31 : Nat); w.index = some m) ∧
    (let w : EccAt := .dramPoint 5; let s : State := up; w.index = none ∧ s.running = true) ∧
    (let s : State := vp id; s.running = true) ∧
    (let s : State := up; s.running = true) ∧
    (let s : State := boxed { farBox with toHome := [word 1] }; s.running = true) ∧
    (let s : State := up; s.running = true ∧ s.mem.wf = true) ∧
    (let s : State := ptIs int32; s.running = true) ∧
    (let k : Fin 16 := 15; let s : State := clUp (fun c => { c with st := .restore, jdamage := true });
    let c := s.cl k; s.running = true ∧ (s.cl k).st = .restore ∧ c.jdamage = true) ∧
    (let k : Fin 16 := 15; let s : State := clUp (fun c => { c with st := .restore });
    let c := s.cl k; s.running = true ∧ (s.cl k).st = .restore ∧ c.jdamage = false ∧ s.paired k = true) ∧
    (let k : Fin 16 := 15; let lo : Bool := true; let hi : Bool := false;
    let s : State := clUp (fun c => { c with st := .restore }) capRecs;
    let c := s.cl k; s.running = true ∧ (s.cl k).st = .restore ∧ c.jdamage = false ∧ lo = true ∧ hi = true ∨ s.paired
        k = false) ∧
    (let k : Fin 16 := 15;
    let s : State := clUp (fun c => { c with st := .replay }); s.running = true ∧ (s.cl k).st = .replay ∧ s.replayDone
        k = true) ∧
    (let e : Fin 32 := 31;
    let s : State := monoAt (sec 900) (clUp id capRecs); s.running = true ∧ s.twin (e.val / 2) = false ∧ s.hasInstance
        e = true ∧ (s.eng e).st = .running ∧ s.recovering e = false ∧ s.unserviced e 1 = true) ∧
    (let e : Fin 32 := 31;
    let s : State := monoAt 5 (clUp id capRecs); s.running = true ∧ s.twin (e.val / 2) = false ∧ s.hasInstance e =
        true ∧ (s.eng e).st = .running ∧ s.recovering e = false ∧ s.unserviced e 1 = false) ∧
    (let s : State := up; s.running = true ∧ s.sys.dramFail = false ∧ s.rmy.dramFailAt = none) ∧
    (let s : State := { up with rmy := { up.rmy with dramFailAt := some 7 } };
    let at_ : Nat := 7; s.running = true ∧ s.sys.dramFail = false ∧ s.rmy.dramFailAt = some at_) ∧
    (let s : State := monoAt (ms 100) { up with rmy := { up.rmy with dramFailAt := some 7 } };
    let at_ : Nat := 7; s.running = true ∧ s.sys.dramFail = false ∧ s.rmy.dramFailAt = some at_ ∧ s.sys.mono < at_ +
        ms 100) ∧
    (let s : State := monoAt (ms 101) { up with rmy := { up.rmy with dramFailAt := some 7 } };
    let at_ : Nat := 7; s.running = true ∧ s.sys.dramFail = false ∧ s.rmy.dramFailAt = some at_ ∧ at_ + ms 100 ≤
        s.sys.mono) ∧
    (let e : Fin 32 := 31; let line : Fin 6144 := 6143;
    let s : State := clUp id; s.running = true ∧ s.fenced e = false ∧ s.failedLately e line = false ∧ s.paired (e.val
        / 2) = true) ∧
    (let s : State := up; s.running = true) ∧
    (let e : Fin 32 := 30; let s : State := clUp id; s.running = true ∧ s.outReady e = none) ∧
    (let e : Fin 32 := 30; let s : State := withOut 4; let o : OutEntry := outE 3 7;
    let rest : List OutEntry := [outE 4 8]; s.running = true ∧ s.outReady e = some (o, rest) ∧ (s.eng e).hasLeft o.seq
        = true) ∧
    (let e : Fin 32 := 30; let bad : Bool := false; let s : State := withOut;
    let u : State := (((withOut).setCl 15 { (withOut).cl 15 with outbox := [outE 4 8] }).setEng 30
        { (withOut).eng 30 with left := 4 }).carry (outE 3 7) false |>.getD up;
    let o : OutEntry := outE 3 7; let rest : List OutEntry := [outE 4 8];
    let t := s.setCl (e.val / 2) { s.cl (e.val / 2) with outbox := rest }; s.running = true ∧ s.outReady e = some (o,
        rest) ∧ (s.eng e).hasLeft o.seq = false ∧ (t.setEng e { s.eng e with left := o.seq + 1 }).carry o bad = some
        u) ∧
    (let e : Fin 32 := 30; let bad : Bool := false;
    let s : State := (clUp (fun c => { c with epoch := 8, outbox := [⟨30, 3, 7, .frame 1 [1]⟩] }));
    let o : OutEntry := ⟨30, 3, 7, .frame 1 [1]⟩; let rest : List OutEntry := [];
    let t := s.setCl (e.val / 2) { s.cl (e.val / 2) with outbox := rest }; s.running = true ∧ s.outReady e = some (o,
        rest) ∧ (s.eng e).hasLeft o.seq = false ∧ (t.setEng e { s.eng e with left := o.seq + 1 }).carry o bad = none)
        ∧
    (let s : State := withOut; let e : Nat := 30; let o : OutEntry := outE 3 7;
    let rest : List OutEntry := [outE 4 8]; s.outReady e = some (o, rest) ∧ s.commitRel (e / 2) = true) := by
  refine ⟨?_, ?_, ?_, ?_, ?_, ?_, ?_, ?_, ?_, ?_, ?_, ?_, ?_, ?_, ?_, ?_, ?_, ?_, ?_, ?_, ?_, ?_, ?_, ?_⟩ <;> decide
        +kernel

/-! ### Age and the fatal dump -/

def ageIs (f : AgeBlk → AgeBlk) (l : List Rec := []) : State := withRecs { up with age := f up.age } l
def railRec : Rec := rcd 0x0C02 2 ([1, 0, 0, 0] ++ leBytes 2 860 ++ leBytes 2 900 ++ leBytes 2 720 ++ zeros 6)
def railed (x : AgeRail) (l : List Rec := []) (i : AgeIsland := {}) : State :=
  ageIs (fun g => { g with rail := [(2, x)], island := [(3, i)] }) l
def dumpNvm (s : State := up) : State :=
  { s with cfg := { s.cfg with dir := [⟨4, 0, 0x40000, 0x40000⟩, ⟨5, 0, 0x400000, 0x400000⟩] } }
def fatal4 (reason : Nat) : FatalRec := ⟨reason, 45, 77, 3⟩
def seqIs (f : RecBlk → RecBlk) : State := dumpNvm { sysUp (fun y => { y with stage := .fatalSeq }) with rmy := f { up.rmy with fatal := some (fatal4 2) } }
def dumped (f : RecBlk → RecBlk) : State := dumpNvm { up with rmy := f up.rmy }


theorem test_hyps_AgePlansAndGuards :
    (let s : State := monoAt (sec 61) up; s.running = true ∧ s.age.cycle = none ∧ s.age.write = none ∧ s.planDue =
        true) ∧
    (let s : State := ageIs (fun g => { g with write := some [] }); s.running = true ∧ s.age.write.isSome = true ∨
        s.planDue = false) ∧
    (let s : State := up; s.age.began = none) ∧
    (let s : State := ageIs (fun g => { g with began := some 5 }); let b := (5 : DWord); s.age.began = some b) ∧
    (let r : Fin 3 := 2;
    let s : State := monoAt 5 (railed { set := 850, target := some 870 }); s.running = true ∧ (s.rail r).target.isSome
        = true ∧ s.sys.mono < (s.rail r).incrAt + s.settleTime r) ∧
    (let r : Fin 3 := 2; let x : RailCheck := ⟨false, true, 0, 9, []⟩;
    let s : State := monoAt (ms 5) (railed { set := 850, target := some 870 }); s.running = true ∧ (s.rail
        r).target.isSome = true ∧ (s.rail r).incrAt + s.settleTime r ≤ s.sys.mono ∧ x.ack = false ∨ x.linear = false ∧
        s.pmbus r = true) ∧
    (let r : Fin 3 := 2; let x : RailCheck := ⟨true, true, 865, 9, []⟩;
    let s : State := monoAt (ms 5) (railed { set := 850, target := some 870 });
    let v := (870 : Nat); s.running = true ∧ (s.rail r).target.isSome = true ∧ (s.rail r).incrAt + s.settleTime r ≤
        s.sys.mono ∧ x.ack = true ∧ x.linear = true ∨ s.pmbus r = false ∧ near15 x.readback.toNat (s.rail r).set =
        true ∧ x.islands = [] ∧ (s.rail r).target = some v ∧ v ≠ (s.rail r).set) ∧
    (let x : AgeRail := { set := 870, target := some 870 }; let v : Nat := 870; x.target = some v ∧ v = x.set) ∧
    (let x : AgeRail := { set := 865, target := some 870 }; let v : Nat := 870; x.target = some v ∧ x.set < v) ∧
    (let x : AgeRail := { set := 881, target := some 870 }; let v : Nat := 870; let slack : Int := 15;
    let s : State := up; x.target = some v ∧ v < x.set ∧ s.running = true ∧ (s.guardPs : Int) ≤ slack) ∧
    (let slack : Int := -3; let s : State := up; s.running = true ∧ slack < (s.guardPs : Int)) ∧
    (let i : Fin 46 := 3; let slack : Int := 14; let r : Nat := 2;
    let s : State := railed { set := 895 }; s.running = true ∧ slack < (s.guardPs : Int) ∧ railOf i = some r ∧
        (s.island i).step = 0 ∧ (s.rail r).frozen = false ∧ (s.rail r).set < s.ceilingMv r) ∧
    (let i : Fin 46 := 45; let slack : Int := 0;
    let s : State := ageIs (fun g => { g with island := [(45, { step := 7 })] }); s.running = true ∧ slack <
        (s.guardPs : Int) ∧ 0 < (s.island i).step ∧ (i.val < 30 ∨ (s.cl (i.val - 30)).st.recovers = false)) ∧
    (let r : Fin 3 := 2; let s : State := up; s.running = true ∧ s.fld 0x0C02 r 0 1 0 ≠ 1) ∧
    (let r : Fin 3 := 2; let f : Bool := true;
    let s : State := railed { set := 850, target := some 860 } [railRec]; s.running = true ∧ s.fld 0x0C02 r 0 1 0 = 1
        ∧ f = true ∧ (s.rail r).frozen = false) ∧
    (let k : Fin 16 := 15; let n : Nat := 7;
    let s : State := clUp (fun c => { c with stepDue := some 7 }); s.running = true ∧ (s.cl k).st.steady = true ∧
        (s.cl k).stepDue = some n) ∧
    (let b : List Byte := [1, 2];
    let s : State := dumpNvm (ageIs (fun g => { g with write := some [1, 2], nextSeq := 63 }));
    let r := (⟨4, 0, 0x40000, 0x40000⟩ : Region); s.running = true ∧ s.age.write = some b ∧ s.ledger? = some r) := by
  refine ⟨?_, ?_, ?_, ?_, ?_, ?_, ?_, ?_, ?_, ?_, ?_, ?_, ?_, ?_, ?_, ?_, ?_⟩ <;> decide +kernel

theorem test_hyps_FatalErrorsLeaveADump :
    (let s : State := clUp id; s.sys.stage ≠ .fatalSeq) ∧
    (let s : State := vp (fun p => { p with tx := some tx7 }); s.sys.stage ≠ .fatalSeq) ∧
    (let s : State := clUp id; s.sys.stage ≠ .fatalSeq ∧ s.sage.job = none) ∧
    (let s : State := up; s.running = true ∧ s.rmy.dumpState ≠ 1) ∧
    (let s : State := seqIs id;
    let f : FatalRec := fatal4 2; s.sys.stage = .fatalSeq ∧ s.rmy.fatal = some f ∧ f.reason ≠ 4 ∧ s.rmy.dumpState ≠ 1)
        ∧
    (let s : State := seqIs (fun r => { r with dumpState := 1 }); let f : FatalRec := fatal4 2;
    let r : Region := ⟨5, 0, 0x400000, 0x400000⟩; s.sys.stage = .fatalSeq ∧ s.rmy.fatal = some f ∧ f.reason = 4 ∨
        s.rmy.dumpState = 1 ∧ s.region? 5 0 = some r ∧ s.rmy.dumpState = 1 ∧ s.rmy.dumpWritten = false ∧ s.dumpBlocked
        = false) ∧
    (let s : State := seqIs (fun r => { r with dumpState := 1, erasing := true });
    let r : Region := ⟨5, 0, 0x400000, 0x400000⟩; s.region? 5 0 = some r ∧ s.sys.stage = .fatalSeq ∧ s.rmy.dumpState =
        1 ∧ s.dumpBlocked = true) ∧
    (let s : State := dumped (fun r => { r with dumpPresent := true });
    let r : Region := ⟨5, 0, 0x400000, 0x400000⟩; s.running = true ∧ s.region? 5 0 = some r ∧ s.rmy.dumpPresent = true
        ∧ s.rmy.dumpState = 0) ∧
    (let s : State := dumped (fun r => { r with dumpPresent := true, dumpState := 2 }); s.sys.up = true ∧
        s.rmy.dumpState = 2) ∧
    (let s : State := dumped (fun r => { r with dumpState := 3 }); s.sys.up = true ∧ s.rmy.dumpState ≠ 2) ∧
    (let s : State := seqIs (fun r => { r with dumpState := 1 }); s.sys.up = true ∧ s.rmy.dumpState = 1) ∧
    (let s : State := dumped id; s.sys.up = true ∧ s.rmy.dumpState ≠ 1) ∧
    (let s : State := dumped (fun r => { r with dumpState := 3, erasing := true }); s.running = true ∧ s.rmy.erasing =
        true) ∧
    (let s : State := dumped (fun r => { r with dumpPresent := true, latched := some (fatal4 2) });
    let f : FatalRec := fatal4 2;
    let r : Region := ⟨5, 0, 0x400000, 0x400000⟩; s.running = true ∧ s.rmy.latched = some f ∧ s.region? 5 0 = some r ∧
        s.dumpBlocked = true) ∧
    (let s : State := dumped (fun r => { r with latched := some (fatal4 2) }); let f : FatalRec := fatal4 2;
    let r : Region := ⟨5, 0, 0x400000, 0x400000⟩; s.running = true ∧ s.rmy.latched = some f ∧ s.region? 5 0 = some r ∧
        s.dumpBlocked = false) := by
  refine ⟨?_, ?_, ?_, ?_, ?_, ?_, ?_, ?_, ?_, ?_, ?_, ?_, ?_, ?_, ?_⟩ <;> decide +kernel


/-! ### WellFormed refuses an ill-formed term of every check -/

def sentinel : Sentinel := ⟨45, 5, 6, 7, 8, 9, 10, 11, 12⟩
def longReq16 : Req := hreq (List.replicate 16 0)
/-- A word of reserved major opcode 0x26. -/
def reservedWord : Issue := is0 (enc 0x26 0 0 0 0)
/-- The NVM with devices of these sizes on CS0 and CS1. -/
def nvmOf (a : Nat) (b : Option Nat) : BootFind :=
  { bootFind with nvm := { bootFind.nvm with cs0 := { bootFind.nvm.cs0 with size := a }, cs1 := b.map (fun n => (7, { bootFind.nvm.cs0 with size := n })) } }
def refused (l : List Instr) : Bool := l.all (fun c => !WellFormed c)

theorem test_wf_refuses_long_requests : refused [
    .requestReservedClass longReq16 0, .challenge longReq16, .attestation longReq16, .tableEditCore longReq16,
    .tableEditPort longReq16, .tableEditRed longReq16, .tableEditMeter longReq16, .tableEditVlan longReq16,
    .tableEditFdb longReq16, .tableEditMcast longReq16, .tableEditRule longReq16, .tableEditBatch longReq16,
    .linkCostSet longReq16, .deviceExclude longReq16, .routeRecompute longReq16, .keySign longReq16 true,
    .keyExchange longReq16 true true, .keyExport longReq16 true, .timeStepRequest longReq16,
    .timeSetRequest longReq16, .utcOffsetSet longReq16, .scheduleLoad longReq16, .scheduleSwapRequest longReq16,
    .chiveProgramWrite longReq16, .chiveRestartRequest longReq16, .personalityRestart longReq16,
    .personalityStop longReq16, .personalityStart longReq16, .storeAppendOpen longReq16,
    .storeAppendWrite longReq16, .storeAppendCommit longReq16 good true true, .storeEntryRemove longReq16,
    .storeErase longReq16 good, .quotaChange longReq16, .pointGrantSet longReq16, .pointGrantRemove longReq16,
    .pointSubstitute longReq16, .pointSubstituteEnd longReq16, .subscriptionAppend longReq16,
    .subscriptionRemove longReq16, .imageWriteOpen longReq16, .imageWriteData longReq16 true,
    .imageWriteCommit longReq16 good true true, .imageWriteClose longReq16, .imageWriteStatus longReq16,
    .lifecycleProvision longReq16, .lifecycleOperational longReq16 good,
    .lifecycleServiceEntry longReq16 good, .lifecycleServiceExit longReq16, .lifecycleRetire longReq16 good,
    .ownerRotate longReq16 good, .debugUnlock longReq16 good, .debugLock longReq16, .resetRequest longReq16,
    .keyImport longReq16 0 none, .ownerCertificateWrite longReq16 0] = true := by decide

theorem test_wf_refuses_other_majors : refused [
    .add reservedWord, .sub reservedWord, .and reservedWord, .or reservedWord, .xor reservedWord,
    .andn reservedWord, .sll reservedWord, .srl reservedWord, .sra reservedWord, .ror reservedWord,
    .min reservedWord, .max reservedWord, .minu reservedWord, .maxu reservedWord, .mul reservedWord,
    .mulh reservedWord, .mulhu reservedWord, .div reservedWord, .divu reservedWord, .rem reservedWord,
    .remu reservedWord, .clz reservedWord, .ctz reservedWord, .popc reservedWord, .bswap reservedWord,
    .addi reservedWord, .andi reservedWord, .ori reservedWord, .xori reservedWord, .shi reservedWord,
    .lil reservedWord, .lih reservedWord, .cmp reservedWord, .cmpi reservedWord, .plog reservedWord,
    .ldb reservedWord, .ldbu reservedWord, .ldh reservedWord, .ldhu reservedWord, .ldw reservedWord,
    .stb reservedWord, .sth reservedWord, .stw reservedWord, .aadd reservedWord, .aswap reservedWord,
    .br reservedWord, .call reservedWord, .jr reservedWord, .jalr reservedWord, .reti reservedWord,
    .loop reservedWord, .repI reservedWord 0, .repA reservedWord 0, .smov reservedWord, .sfil reservedWord,
    .scmp reservedWord, .sscn reservedWord, .scrc reservedWord, .sber reservedWord, .put reservedWord,
    .get reservedWord, .txq reservedWord, .rxq reservedWord, .dma reservedWord, .opwait reservedWord,
    .mpost reservedWord, .mrecv reservedWord, .mlock reservedWord, .munlk reservedWord, .mstat reservedWord,
    .rdtime reservedWord, .rand reservedWord, .wds reservedWord, .wait reservedWord, .fence reservedWord,
    .brk reservedWord, .csrr reservedWord, .csrw reservedWord, .csrs reservedWord, .csrc reservedWord,
    .instPop reservedWord, .timerArm reservedWord] = true := by decide

theorem test_wf_refuses_operands : refused [
    .wipeComplete { bootFind with ledger := [3, 3] }, 
    .frameClassify 0 (zeros 65) 70 false 0, .frameClassify 0 (zeros 60) 59 false 0, .pfcFrame 0 1 (List.replicate 7 5),
    .hello 0 { hello 5 with claim := 3 }, .hello 0 { hello 5 with claim := 0 }, .lsa 0 true true { lsaOf 5 with claim := 0 },
    .lsa 0 true true { lsaOf 5 with adj := [⟨1, 5, 9, true⟩, ⟨1, 6, 9, true⟩] },
    .canFrameReceive 0 (msg 2048) 0, .canFrameReceive 0 { msg 5 with data := zeros 9 } 0,
    .canFrameReceive 0 { msg 5 with rtr := true } 0, .canFrameReceive 0 { msg 5 with brs := true } 0,
    .canFrameReceive 0 { msg 5 with esi := true } 0, .canFrameReceive 0 { msg 5 with data := zeros 12 } 0,
    .canFrameReceive 0 { msg 5 with data := [], rtr := true, fdf := true } 0,
    .filteredChange [], .filteredChange [64, 64], .reservedMajor (is0 (enc 0x25 0 0 0 0)),
    .planningCycle [sentinel, sentinel] [], .planningCycle [] [(3, 1, 2), (3, 4, 5)],
    .railSettle 0 ⟨true, true, 850, 0, [(3, 850, 1), (3, 850, 2)]⟩, .pmbAlert [(1, true, 0), (1, false, 0)],
    .wideRegisterRead (.bar0 0x10000) 0, .wideRegisterRead (.bar2 0) 0, .registerWrite (.bar0 0x10000) [],
    .canFrameReceive 0 { msg 5 with res := true } 0, .pePerstNRelease (some { width := 3, speed := 1 }),
    .pePerstNRelease (some { width := 4, speed := 4 }), .wipeComplete { bootFind with link := some { width := 8, speed := 1 } },
    .wipeComplete { bootFind with mdio := [(2, true), (2, false)] }, .wipeComplete (nvmOf 0xFFFFFF none),
    .wipeComplete (nvmOf 0x8000000 (some 0x8000001)), .dataFrame 0 (zeros 37) 0 0, .dataFrame 0 (zeros 129) 0 0,
    .supplyMonitorRelease { a := true, b := true, hz := 25000000 } (List.replicate 9 850), .reservedMajor (is0 (enc 0 0 0 0 0))] = true := by decide

theorem test_wf_accepts : ([
    .challenge (hreq (List.replicate 15 0)), .frameClassify 0 body60 64 false 0, .pfcFrame 0 1 (List.replicate 8 5),
    .hello 0 { hello 5 with claim := 1 }, .lsa 0 true true { lsaOf 5 with claim := 2 }, .canFrameReceive 0 (msg 2047) 0,
    .canFrameReceive 0 { msg 5 with data := zeros 12, fdf := true, brs := true, esi := true } 0,
    .add (is0 (enc 0x00 1 2 3 0)), .reservedMajor reservedWord, .csrw (is0 (encI 0x23 0 1 0x30)),
    .instPop (is0 (encI 0x24 0 1 0x30)), .registerWrite (.bar0 0x10000) [1, 2, 3, 4],
    .wipeComplete (nvmOf 0x8000000 (some 0x8000000)), .pePerstNRelease (some { width := 4, speed := 3 }),
    .dataFrame 0 (zeros 128) 0 0, .supplyMonitorRelease { a := true, b := true, hz := 25000000 } (List.replicate 10 850)] : List Instr).all WellFormed = true := by
  decide


/-! ### Single steps whose results are worked out by hand from the spec -/

def after (c : Instr) (s : State) : State := match exec c s with | .next t => t | _ => s

/-- w3 of engine 0 after an instruction on w1 = a and w2 = b. -/
def res (f : Issue → Instr) (a b w : Word) : Word := ((after (f (is0 w)) (eng0 (regs a b))).core 0).wVal 3
def alu (f : Issue → Instr) (fn : Nat) (a b : Word) : Word := res f a b (enc 0 3 1 2 fn)
def alu1 (f : Issue → Instr) (fn : Nat) (a : Word) : Word := res f a 0 (enc 0 3 1 0 fn)

/-- Table 11-2: wraps, sign changes and the ends of the range. -/
theorem test_alu_results :
    alu .add 0x00 0xFFFFFFFF 1 = 0 ∧ alu .sub 0x01 0 1 = 0xFFFFFFFF ∧ alu .and 0x02 0xFF 0x3C = 0x3C ∧
    alu .or 0x03 0xF0 0x3C = 0xFC ∧ alu .xor 0x04 0xF0 0x3C = 0xCC ∧ alu .andn 0x05 0xFF 0x3C = 0xC3 ∧
    alu .sll 0x08 3 33 = 6 ∧ alu .srl 0x09 0x80000000 31 = 1 ∧ alu .sra 0x0A 0x80000000 31 = 0xFFFFFFFF ∧
    alu .ror 0x0B 0x80000001 1 = 0xC0000000 ∧ alu .min 0x10 0xFFFFFFFF 1 = 0xFFFFFFFF ∧ alu .max 0x11 0xFFFFFFFF 1 = 1 ∧
    alu .minu 0x12 0xFFFFFFFF 1 = 1 ∧ alu .maxu 0x13 0xFFFFFFFF 1 = 0xFFFFFFFF := by decide

theorem test_multiply_divide_results :
    alu .mul 0x18 0x10001 0x10001 = 0x20001 ∧ alu .mulh 0x19 0xFFFFFFFF 2 = 0xFFFFFFFF ∧ alu .mulhu 0x1A 0xFFFFFFFF 2 = 1 ∧
    alu .div 0x1C 0xFFFFFFF9 2 = 0xFFFFFFFD ∧ alu .div 0x1C 5 0 = 0xFFFFFFFF ∧
    alu .div 0x1C 0x80000000 0xFFFFFFFF = 0x80000000 ∧ alu .divu 0x1D 0xFFFFFFF9 2 = 0x7FFFFFFC ∧
    alu .divu 0x1D 5 0 = 0xFFFFFFFF ∧ alu .rem 0x1E 0xFFFFFFF9 2 = 0xFFFFFFFF ∧ alu .rem 0x1E 5 0 = 5 ∧
    alu .rem 0x1E 0x80000000 0xFFFFFFFF = 0 ∧ alu .remu 0x1F 0xFFFFFFF9 2 = 1 ∧ alu .remu 0x1F 5 0 = 5 := by decide

theorem test_bit_count_results :
    alu1 .clz 0x20 0 = 32 ∧ alu1 .clz 0x20 1 = 31 ∧ alu1 .ctz 0x21 0 = 32 ∧ alu1 .ctz 0x21 0x80000000 = 31 ∧
    alu1 .popc 0x22 0xF0F00001 = 9 ∧ alu1 .bswap 0x23 0x12345678 = 0x78563412 := by decide

/-- imm12 is sign-extended in ADDI, CMPI and addresses; SHI shifts by shamt. -/
theorem test_immediate_results :
    res .addi 5 0 (encI 1 3 1 0xFFF) = 4 ∧ res .addi 0xFFFFFFFF 0 (encI 1 3 1 1) = 0 ∧
    ((after (.lih (is0 (encI 7 3 15 0xFFF))) (eng0 { w := [(3, 0x1234)] })).core 0).wVal 3 = 0xFFFF1234 := by decide

/-- The words of Table 11-11 with the registers that they set. -/
theorem test_worked_words :
    ((after (.lil (is0 0x01B24000)) (eng0 {})).core 0).wVal 25 = 0x4000 ∧
    ((after (.lil (is0 0x01B60400)) (eng0 {})).core 0).wVal 27 = 0x400 ∧
    ((after (.addi (is0 0x00540FFF)) (eng0 {})).core 0).wVal 10 = 0xFFFFFFFF ∧
    ((after (.xor (is0 0x0014A584)) (eng0 { w := [(10, 0x0F), (11, 0xFFFFFFFF)] })).core 0).wVal 10 = 0xFFFFFFF0 ∧
    ((after (.repI (is0 0x06000000) 0x06540040) (eng0 {})).core 0).rep = some true := by decide

/-- Stores are little-endian, and a load reads back with its extension. -/
theorem test_load_after_store :
    (after (.stw (is0 (encI 0x12 2 1 0))) (eng0 (regs 0x100 0x89ABCDEF))).bankBytes 0 0x100 4 = [0xEF, 0xCD, 0xAB, 0x89] ∧
    ((after (.ldb (is0 (encI 0x0B 3 1 1))) (after (.stw (is0 (encI 0x12 2 1 0))) (eng0 (regs 0x100 0x89ABCDEF)))).core 0).wVal 3
      = 0xFFFFFFCD := by decide

/-- SCRC over the nine bytes "123456789" one byte at a time, with and without the final complement. -/
theorem test_crc_check_values :
    crc32 [0x31, 0x32, 0x33, 0x34, 0x35, 0x36, 0x37, 0x38, 0x39] = 0xCBF43926 ∧
    crc32c [0x31, 0x32, 0x33, 0x34, 0x35, 0x36, 0x37, 0x38, 0x39] = 0xE3069283 := by decide

/-- P12 of Table 7-1: class 7 open over [100, 110) µs of 250 µs, g = 500 ns, d = 8.064 µs; the start may lie
from 100.5 to 101.436 µs. In G the guardian's margin is half of g. -/
theorem test_gate_window :
    let b : List Byte := leBytes 4 1000000 ++ zeros 4 ++ leBytes 4 500 ++ zeros 4 ++ [0xFF, 0, 3, 0] ++ zeros 4 ++
      leBytes 4 400000 ++ [0x7F, 0, 0, 0] ++ leBytes 4 40000 ++ [0x80, 0, 0, 0] ++ leBytes 4 560000 ++ [0x7F, 0, 0, 0]
    (gateRun b 7 401999).fits (gateGuard b) 32256 = false ∧ (gateRun b 7 402000).fits (gateGuard b) 32256 = true ∧
    (gateRun b 7 405744).fits (gateGuard b) 32256 = true ∧ (gateRun b 7 405745).fits (gateGuard b) 32256 = false ∧
    (gateRun b 7 406744).fits (gateGuard b / 2) 32256 = true ∧ (gateRun b 7 1402000).fits (gateGuard b) 32256 = true := by
  decide

/-- M of the oversize example: max_len 1518, one tag and a redundancy trailer. -/
theorem test_size_limit :
    (up.setPort 8 { linked with maxLen := 1518, pair := 0x10 }).limitM 8 1 true = 1528 := by decide

/-- Steps 1 and 6 of Table 9-11 with S = 0: 0b00 stamped 3 ms is held until 23 ms; the held value of 40 ms is
delivered at 60 ms with its own stamp and is the second change in the chatter window. -/
theorem test_breaker_held_and_released :
    let r := breaker
    let s := { chattered with pnt := { chattered.pnt with
      points := [(8388607, { r with value := 2, held := false, stamp := 0, chatCount := 0 })], timers := [],
      fifo := [(35, [.upd { point := 8388607, value := 0, quality := 0, stamp := 12000000, from_ := { src := 2 } }])] } }
    let t := after (.pointUpdate 35) s
    (t.point 8388607).held = true ∧ (t.point 8388607).value = 2 ∧
    (t.heldTimer 8388607).map (fun x => x.deadline) = some 92000000 ∧
    ((after (.dpHoldExpiry 8388607) chattered).point 8388607).value = 0 ∧
    ((after (.dpHoldExpiry 8388607) chattered).point 8388607).stamp = 160000000 ∧
    ((after (.dpHoldExpiry 8388607) chattered).point 8388607).chatCount = 2 := by decide

/-- Table 15-6 as 24-bit words. -/
theorem test_uart_program_fits : uartTxWords.length = 15 ∧ uartTxWords.all (· < 2 ^ 24) = true := by decide

/-- No row of the table has bits. -/
theorem test_no_word_spells_a_command (n w : Nat) : decodeTableWord n w = none := rfl

/-- Before READY nothing happens on an empty queue; after it device time goes on. -/
theorem test_step_idles : step State.reset = .next State.reset := rfl

/-- A command at the front runs with the rest behind it. -/
theorem test_step_takes_the_front :
    (match step { eng0 (regs 3 4) with pending := [.add (is0 (enc 0 3 1 2 0)), .sub (is0 (enc 0 3 1 2 1))] } with
      | .next t => (t.pending.length, (t.core 0).wVal 3)
      | _ => (0, 0)) = (1, 7) := by decide

end Sys2Proof.Tests
end

section
/-! SUPPORT. What an instruction that acts comes to, and the registers, predicates and fields of a Polnil
engine as words, said once for the statements about compares, jumps, loops and strings. -/

namespace Sys2Proof.Machine

/-! ### Issue -/

/-- The command of an instruction whose word acts becomes what its effect leads to. -/
theorem becomes_instr {c : Instr} {s : State} {i : Issue} {row : Row} {f : State → Nat → Nat → Eff}
    (hx : exec c s = s.instr i row f) (h : s.issues i row.major = true) (hr : row.rsv i.word.toNat = false)
    (hi : row.is i.word.toNat = true) (hb : row.bad i.word.toNat = false)
    (hn : row.badIn (s.core i.eng.val) i.word.toNat = false := by rfl) :
    Becomes c s ((f s i.eng.val i.word.toNat).state i.eng.val i.word.toNat) :=
  hx.trans (instr_go f h hr hi hb hn)

/-- A fetched word that its row holds illegal in the engine's state traps ILLEGAL, whatever its condition (R316). -/
theorem becomes_illegal {c : Instr} {s : State} {i : Issue} {row : Row} {f : State → Nat → Nat → Eff}
    (hx : exec c s = s.instr i row f) (h : s.fetches i = true) (hm : bits i.word.toNat 27 22 = row.major)
    (hr : row.rsv i.word.toNat = false) (hi : row.is i.word.toNat = true)
    (hb : row.badIn (s.core i.eng.val) i.word.toNat = true) :
    Becomes c s (s.trap i.eng.val cILLEGAL i.word.toNat 0) := by
  simp only [State.fetches, Bool.and_eq_true, beq_iff_eq, decide_eq_true_eq, Bool.not_eq_true'] at h
  obtain ⟨⟨⟨⟨⟨⟨hrun, hlead⟩, hst⟩, hrec⟩, hroom⟩, hpc⟩, halign⟩ := h
  have hexec : s.canExec i.eng.val = true := by simp [State.canExec, hrun, ← hlead, hst, hrec, hroom]
  have hpc' : ¬ 0x60000 ≤ (s.eng i.eng.val).core.pc.toNat := Nat.not_le.mpr hpc
  have halign' : (s.eng i.eng.val).core.pc.toNat % 4 = 0 := halign
  have hb' : row.badIn (s.eng i.eng.val).core i.word.toNat = true := hb
  rw [Becomes, hx, State.instr, State.done]
  simp [State.issue, hexec, presentAll_of_not_recovering hrec, wake_of_running hst, hst, hpc', halign', hm, hr, hi, hb']

/-! ### Registers -/

theorem EngCore.r_lt (c : EngCore) (k : Nat) : c.r k < 2 ^ 32 := by
  unfold EngCore.r
  split
  · decide
  · exact BitVec.isLt _

@[simp] theorem toNat_gpr (s : State) (e k : Nat) : (s.gpr e k).toNat = (s.core e).r k := by
  rw [State.gpr, BitVec.toNat_ofNat, Nat.mod_eq_of_lt (EngCore.r_lt _ k)]

/-- A register takes a value modulo 2^32 (R314). -/
theorem EngCore.setR_congr (c : EngCore) (k : Nat) {x y : Nat} (h : BitVec.ofNat 32 x = BitVec.ofNat 32 y) :
    c.setR k x = c.setR k y := by
  simp only [EngCore.setR, h]

/-! ### Predicates -/

/-- A write of a predicate is a write of the predicate register alone. -/
theorem EngCore.setP_eq_prSet (c : EngCore) (k : Nat) (v : Bool) :
    c.setP k v = { c with pr := prSet c.pr k v } := by
  have hbit : BitVec.ofNat 8 (2 ^ k) = BitVec.twoPow 8 k := by
    apply BitVec.eq_of_toNat_eq
    simp
  unfold EngCore.setP prSet
  split
  · rfl
  · cases v
    · simp [bit, hbit]
    · have hor : c.pr &&& ~~~ BitVec.twoPow 8 k ||| BitVec.twoPow 8 k = c.pr ||| BitVec.twoPow 8 k := by
        ext j
        simp only [BitVec.getElem_or, BitVec.getElem_and, BitVec.getElem_not]
        grind
      simp [bit, hbit, hor]

/-- A predicate written by an instruction: its engine decides and retires. -/
theorem putP_state (s : State) (e w pd : Nat) (v : Bool) :
    (s.putP e pd v).state e w = s.decided e pd v := by
  simp only [State.putP, Eff.state, State.decided, EngCore.setP_eq_prSet]

/-! ### Fields -/

/-- A signed field is the field's word sign-extended (Table 11-2). -/
theorem sext_eq_signExtend (n x : Nat) : sext n x = ((BitVec.ofNat n x).signExtend 32).toNat := rfl

end Sys2Proof.Machine
end

section
/-! SUPPORT. Compares and predicate logic (R315, R322). -/

namespace Sys2Proof.Machine

/-- A word read as a signed number. -/
theorem toSigned_toNat (a : Word) : toSigned 32 a.toNat = a.toInt := by
  simp [toSigned]

/-- The compare codes on numbers and on words agree (R322). -/
theorem cmpCode_toNat (cc : Nat) (a b : Word) : cmpCode cc a.toNat b.toNat = cmpRef cc a b := by
  unfold cmpCode cmpRef
  split
  case h_1 | h_2 | h_7 | h_8 => rw [Bool.eq_iff_iff]; simp [BitVec.toNat_eq]
  case h_3 => simp only [toSigned_toNat, BitVec.slt]
  case h_4 => rw [Bool.eq_iff_iff]; simp [toSigned_toNat, BitVec.slt]
  case h_5 => rfl
  case h_6 => rw [Bool.eq_iff_iff]; simp [BitVec.ult]

/-- Settles O2: each instruction's effect is one `putP`, and the model's compare codes are those of R322 on words. -/
theorem comparesWritePredicate : Obligations.ComparesWritePredicate := by
  intro i s
  refine ⟨fun h hz => ?_, fun h => ?_, fun h hz => ?_⟩
  · have ht := becomes_instr (exec_cmp i s) h rfl rfl (by simp [hz])
    rwa [putP_state, ← toNat_gpr, ← toNat_gpr, cmpCode_toNat] at ht
  · have ht := becomes_instr (exec_cmpi i s) h rfl rfl rfl
    rwa [putP_state, ← toNat_gpr, sext_eq_signExtend, cmpCode_toNat] at ht
  · have ht := becomes_instr (exec_plog i s) h rfl rfl (by simp [hz])
    rw [putP_state] at ht
    exact ht

end Sys2Proof.Machine
end

section
/-! SUPPORT. Jumps and loops (R320, R323, R325, R340). -/

namespace Sys2Proof.Machine

/-! ### The check of an address -/

theorem accessCheck_ok {a n : Nat} (h : a < bankEnd) (hn : a % n = 0) : accessCheck a n = none := by
  simp [accessCheck, hn, Nat.not_le.mpr h]

theorem accessCheck_misaligned {a n : Nat} (h : a < bankEnd) (hn : a % n ≠ 0) : accessCheck a n = some cMISALIGN := by
  simp [accessCheck, hn, Nat.not_le.mpr h]

theorem accessCheck_beyond {a : Nat} (n : Nat) (h : bankEnd ≤ a) : accessCheck a n = some cACCESS := by
  simp [accessCheck, h]

/-! ### Targets and links -/

/-- The target of format B as a word: pc + 4 × sext(off22) (R320). -/
theorem target_eq (s : State) (e w : Nat) : s.target e w =
    ((s.core e).pc + ((BitVec.ofNat 22 (bits w 21 0)).signExtend 32 <<< 2)).toNat := by
  rw [State.target, sext_eq_signExtend, BitVec.toNat_add, BitVec.toNat_shiftLeft, Nat.shiftLeft_eq]
  omega

/-- The link is the address after the instruction, modulo 2^32. -/
theorem setR_link (c d : EngCore) (k : Nat) : c.setR k (d.pc.toNat + 4) = c.setR k (d.pc + 4).toNat :=
  c.setR_congr k (by simp only [BitVec.ofNat_add, BitVec.ofNat_toNat, BitVec.setWidth_eq]; rfl)

/-- An effect that jumps to a register target is the jump of R323. -/
theorem jumpClaim_of_jumpTo {c : Instr} {s : State} {f : State → State} {e w a : Nat}
    (h : Becomes c s ((s.jumpTo a f).state e w)) : JumpClaim c s (f s) e a := by
  unfold State.jumpTo at h
  refine ⟨fun hlt hal => ?_, fun hlt hal => ?_, fun hge => ?_⟩
  · rwa [accessCheck_ok hlt hal] at h
  · rwa [accessCheck_misaligned hlt hal] at h
  · rwa [accessCheck_beyond 4 hge] at h

/-! ### LOOP -/

/-- The count of a LOOP: imm11 with bit 11 of the word, else the register of bits 4:0. -/
def State.loopCount (s : State) (e w : Nat) : Word :=
  if tst w 11 then BitVec.ofNat 32 (bits w 10 0) else s.gpr e (bits w 4 0)

/-- The count as the number that the model computes with. -/
theorem toNat_loopCount (s : State) (e w : Nat) :
    (s.loopCount e w).toNat = if tst w 11 then bits w 10 0 else (s.core e).r (bits w 4 0) := by
  have hlt : bits w 10 0 < 2 ^ 32 := Nat.lt_of_lt_of_le (Nat.mod_lt _ (by decide)) (by decide : 2 ^ 11 ≤ 2 ^ 32)
  unfold State.loopCount
  split
  · rw [BitVec.toNat_ofNat, Nat.mod_eq_of_lt hlt]
  · exact toNat_gpr s e _

/-- The clauses of LOOP in O6: the four branches of its effect, the depth deciding between the last three. -/
theorem loopOpensALevel : LoopOpensALevel := by
  intro i s h w e c l len n hz
  have hbad : (!tst w 11 && bits w 10 5 != 0) = false := by rcases hz with hz | hz <;> simp [hz]
  have hzero : (s.loopCount e w).toNat = 0 ↔ n = 0 := (BitVec.toNat_eq (x := n) (y := 0)).symm
  have ht := becomes_instr (exec_loop i s) h rfl rfl hbad
  simp only [← toNat_loopCount, BitVec.ofNat_add, BitVec.ofNat_toNat, BitVec.setWidth_eq] at ht
  refine ⟨fun hn => ?_, fun hn hd => ?_, fun hn hd => ?_, fun hn hd => ?_⟩
  · rwa [if_pos (hzero.2 hn)] at ht
  · rwa [if_neg (mt hzero.1 hn), if_pos hd] at ht
  · have hd' : (s.core i.eng.val).loops.depth = 0 := hd
    rw [if_neg (mt hzero.1 hn), hd', if_neg (by decide), if_neg (by decide), hd'] at ht
    exact ht
  · have hd' : (s.core i.eng.val).loops.depth = 1 := hd
    rw [if_neg (mt hzero.1 hn), hd', if_neg (by decide), if_pos rfl] at ht
    exact ht

/-- Settles O6: each jump's effect is one of the model's, its target and its link read as words; RETI outside a
handler is stopped at decode. -/
theorem jumpsGoToTheirTargets : Obligations.JumpsGoToTheirTargets := by
  refine ⟨loopOpensALevel, fun i s => ?_⟩
  refine ⟨fun h => ?_, fun h => ?_, fun h hf => ?_, fun h hf => ?_, fun h hf hexc => ?_, fun h hm hf hexc => ?_⟩
  case refine_1 =>
    have ht := becomes_instr (exec_br i s) h rfl rfl rfl
    rwa [target_eq] at ht
  case refine_2 =>
    have ht := becomes_instr (exec_call i s) h rfl rfl rfl
    rwa [target_eq, setR_link] at ht
  case refine_3 =>
    have ht := becomes_instr (exec_jr i s) h (by simp [jmpRow, hf]) (by simp [jmpRow, hf]) rfl
    rw [toNat_gpr]
    exact jumpClaim_of_jumpTo ht
  case refine_4 =>
    have ht := becomes_instr (exec_jalr i s) h (by simp [jmpRow, hf]) (by simp [jmpRow, hf]) rfl
    have hj := jumpClaim_of_jumpTo ht
    rwa [setR_link, ← toNat_gpr] at hj
  case refine_5 =>
    exact becomes_instr (exec_reti i s) h (by simp [jmpRow, hf]) (by simp [jmpRow, hf]) rfl (by simp [hexc])
  case refine_6 =>
    exact becomes_illegal (exec_reti i s) h hm (by simp [jmpRow, hf]) (by simp [jmpRow, hf]) (by simp [hexc])

end Sys2Proof.Machine
end

section
/-! SUPPORT. The string instructions (R327). -/

namespace Sys2Proof.Machine

/-- Engine 0 about to fold the byte 1 at address 0 into w27, its sc, which holds 1. -/
def scrcOnCountState : State :=
  { State.reset with
    sys := { State.reset.sys with stage := .running }
    mem := { State.reset.mem with bank := [(0, 1)] }
    engs := { eng := [(0, { st := .running, core := { w := [(27, 1)] } })] } }

/-- SCRC with r = w27 and the polynomial of CRC-32C (Table 11-5). -/
def scrcOnCount : Issue := { eng := 0, word := 0x06760040 }

/-- The sc of engine 0 that a command leaves. -/
def countAfter (c : Instr) (s : State) : Option Nat :=
  match exec c s with
  | .next t => some ((t.core 0).r 27)
  | _ => none

/-- Bringing ALARM_N up to date leaves sc alone. -/
theorem countAfter_of_becomes {c : Instr} {s t : State} (h : Becomes c s t) :
    countAfter c s = some ((t.core 0).r 27) := by
  rw [countAfter, h]
  rfl

/-- The fold leaves 0 in w27, and sc −= 1 takes it to 2^32 − 1. -/
theorem countAfter_scrcOnCount : countAfter (.scrc scrcOnCount) scrcOnCountState = some 0xFFFFFFFF := by decide

/-- Refutes O8: the clause of SCRC takes 1 from sc by subtraction in Nat, which stops at 0. Where r is w27, the
register of sc itself, and the fold leaves 0 in it, sc −= 1 wraps to 2^32 − 1 (R314, Table 11-5) and the clause
says 0. -/
theorem not_stringsIterateOnce : ¬ Obligations.StringsIterateOnce := by
  rintro ⟨-, -, hiter⟩
  obtain ⟨-, -, -, -, hscrc⟩ := hiter scrcOnCount scrcOnCountState (by decide)
  have hclaim := hscrc (by decide) (by decide) (by decide) (by decide) (by decide) (by decide) (by decide)
  have hcount := (countAfter_of_becomes hclaim).symm.trans countAfter_scrcOnCount
  exact absurd hcount (by decide)

end Sys2Proof.Machine
end

section
/-! SUPPORT. Epochs, commits and rollback (R312, R375, R377, R384 to R386, R388): what the release of retained
frames leaves alone, and what a commit, a rollback and a fatal error make of the clusters. -/

namespace Sys2Proof.Machine

/-! ### What the release of a retained frame leaves alone -/

/-- What a recovery works on: Rosemary's block, the cores of the engines and their banks. -/
def State.recoveryView (s : State) : RecBlk × (Nat → EngCore) × Mem := (s.rmy, s.core, s.mem.bank)

@[simp] theorem recoveryView_draw (s : State) : s.draw.recoveryView = s.recoveryView := rfl
@[simp] theorem recoveryView_setFrame (s : State) (i : Nat) (f : Frame) :
    (s.setFrame i f).recoveryView = s.recoveryView := rfl
@[simp] theorem recoveryView_dropCells (s : State) (p : CellTx → Bool) :
    (s.dropCells p).recoveryView = s.recoveryView := rfl

/-- A change of an engine outside its core. -/
theorem recoveryView_setEng {s : State} {e : Nat} {g : Eng} (h : g.core = s.core e) :
    (s.setEng e g).recoveryView = s.recoveryView := by
  have hcore : (s.setEng e g).core = s.core := by
    funext j
    by_cases hj : j = e
    · simp [State.core, hj, h]
    · simp [State.core, eng_setEng, hj]
  simp [State.recoveryView, hcore]

@[simp] theorem recoveryView_capWrite (s : State) (r : List Byte) : (s.capWrite r).recoveryView = s.recoveryView := by
  simp only [State.capWrite]
  repeat' split
  all_goals rfl

@[simp] theorem recoveryView_capture (s : State) (f : Frame) : (s.capture f).recoveryView = s.recoveryView := by
  have hdraw : (if 1 < f.refused.length then s.draw else s).recoveryView = s.recoveryView := by split <;> rfl
  simp only [State.capture]
  generalize (if 1 < f.refused.length then s.draw else s) = u at hdraw ⊢
  split
  · rfl
  · split
    · exact (recoveryView_capWrite _ _).trans hdraw
    · exact hdraw

/-- A released frame goes to the capture filters, and its TXQ is done. -/
@[simp] theorem recoveryView_tryRelease (s : State) (i : Nat) : (s.tryRelease i).recoveryView = s.recoveryView := by
  unfold State.tryRelease
  split
  · rfl
  · next f _ =>
    have hcap := recoveryView_capture s f
    dsimp only
    split
    · split
      · split
        · exact hcap
        · refine .trans (recoveryView_setEng ?_) hcap
          rfl
      · exact hcap
    · rfl

@[simp] theorem recoveryView_copyGone (s : State) (i : Nat) (why : Option Nat) :
    (s.copyGone i why).recoveryView = s.recoveryView := by
  simp only [State.copyGone]
  repeat' split
  all_goals simp

theorem recoveryView_copiesGone (s : State) (l : List RxFrame) :
    (l.foldl (fun s f => s.copyGone f.fid none) s).recoveryView = s.recoveryView :=
  foldl_same State.recoveryView _ (fun t f => recoveryView_copyGone t f.fid none) l s

/-! ### Commit (R384) -/

/-- A whole number for a fraction is free, or costs one draw (log 40). -/
theorem whole_state (s : State) (n : Int) (d : Nat) : (s.whole n d).2 = s ∨ (s.whole n d).2 = s.draw := by
  unfold State.whole
  split
  · exact .inl rfl
  · exact .inr rfl

/-- The cluster after its commit at device time `t`: the end state is the checkpoint. -/
def Cluster.committed (c : Cluster) (t : DWord) : Cluster :=
  { c with
    ckptLo := c.endLo, ckptHi := c.endHi, jPrev := [], undoPrev := [], keepPrev := [], commits := c.commits + 1,
    busyLast := c.busyNext, busyPeak := max c.busyPeak c.busyNext, jdamage := false, awaiting := false,
    closing := false, mismatch := none, commitT := t }

/-- A commit changes its cluster and Rosemary's own registers, and gives back the frames it retained. -/
theorem recoveryView_commit (s : State) (k : Nat) : ∃ r : RecBlk,
    r.clusters = s.rmy.clusters.set k ((s.cl k).committed s.time.t) ∧
    (s.commit k).recoveryView = (r, s.core, s.mem.bank) := by
  unfold State.commit
  dsimp only
  rw [recoveryView_copiesGone]
  split
  · rcases whole_state s (s.sys.mono - (s.cl k).detAt : Nat) 4 with h | h
    · rw [h]
      exact ⟨_, rfl, rfl⟩
    · rw [h]
      exact ⟨_, rfl, rfl⟩
  · exact ⟨_, rfl, rfl⟩

theorem cl_commit (s : State) (k j : Nat) :
    (s.commit k).cl j = if j = k then (s.cl k).committed s.time.t else s.cl j := by
  obtain ⟨r, hcl, hview⟩ := recoveryView_commit s k
  have hr : (s.commit k).rmy = r := congrArg Prod.fst hview
  rw [State.cl, hr, hcl, Tab.get_set]
  rfl

theorem core_commit (s : State) (k e : Nat) : (s.commit k).core e = s.core e := by
  obtain ⟨r, -, hview⟩ := recoveryView_commit s k
  exact congrFun (congrArg (fun v => v.2.1) hview) e

theorem bank_commit (s : State) (k : Nat) : (s.commit k).mem.bank = s.mem.bank := by
  obtain ⟨r, -, hview⟩ := recoveryView_commit s k
  exact congrArg (fun v => v.2.2) hview

/-! ### Rollback (R386 step 1, R388) -/

/-- The engines that a fault takes back. -/
def State.flawEngines (s : State) (f : Flaw) : List Nat :=
  match f.eng with
  | some e => [e]
  | none => s.clEngines f.k

/-- The cluster of a fault at the start of its rollback. -/
def State.rolledBack (s : State) (f : Flaw) : Cluster :=
  { (s.cl f.k).discardLive (s.flawEngines f) with
    recEng := f.eng, st := .restore, faultClass := f.cls, faultEng := f.logEng, faultDetail := f.detail,
    detLo := (s.core (2 * f.k)).ret, detHi := (s.core (2 * f.k + 1)).ret, detAt := s.sys.mono,
    detT := s.time.t, mismatch := f.sig, rolls := satInc (s.cl f.k).rolls }

/-- A first fault rolls its cluster back and is counted. -/
theorem rollback_of_steady {s : State} {f : Flaw} (hst : (s.cl f.k).st.steady = true)
    (hcl : (s.cl f.k).closing = false) :
    s.rollback f = { s with rmy := { s.rmy with
      clusters := s.rmy.clusters.set f.k (s.rolledBack f), rollback := satInc s.rmy.rollback,
      event := s.rmy.event ||| 1 } } := by
  have hgate : (!(s.cl f.k).st.steady || (s.cl f.k).closing) = false := by simp [hst, hcl]
  have hrec : (s.setCl f.k { s.cl f.k with recEng := f.eng }).recovered f.k = s.flawEngines f := by
    rw [State.recovered, cl_setCl_self]
    rfl
  simp only [State.rollback, hgate, Bool.false_eq_true, if_false, hrec, setCl_setCl]
  rfl

theorem cl_rollback {s : State} {f : Flaw} (hst : (s.cl f.k).st.steady = true) (hcl : (s.cl f.k).closing = false)
    (j : Nat) : (s.rollback f).cl j = if j = f.k then s.rolledBack f else s.cl j := by
  rw [rollback_of_steady hst hcl]
  exact cl_setCl s f.k (s.rolledBack f) j

/-- The engines under recovery are those of the fault. -/
theorem recovered_rollback {s : State} {f : Flaw} (hst : (s.cl f.k).st.steady = true)
    (hcl : (s.cl f.k).closing = false) : (s.rollback f).recovered f.k = s.flawEngines f := by
  rw [State.recovered, cl_rollback hst hcl, if_pos rfl, rollback_of_steady hst hcl]
  rfl

/-- An output stays in the outbox unless an engine taken back made it in an epoch that has not committed. -/
theorem mem_outbox_rolledBack {s : State} {f : Flaw} {o : OutEntry} : o ∈ (s.rolledBack f).outbox ↔
    o ∈ (s.cl f.k).outbox ∧ ((s.flawEngines f).contains o.eng = true → (s.cl f.k).live o.epoch = false) := by
  have hkept : (!((s.flawEngines f).contains o.eng && (s.cl f.k).live o.epoch)) = true ↔
      ((s.flawEngines f).contains o.eng = true → (s.cl f.k).live o.epoch = false) := by
    cases (s.flawEngines f).contains o.eng <;> cases (s.cl f.k).live o.epoch <;> decide
  exact List.mem_filter.trans (and_congr_right fun _ => hkept)

/-- A second fault before the replayed epoch commits is fatal. -/
theorem rollback_of_recovering {s : State} {f : Flaw}
    (h : (s.cl f.k).st.steady = false ∨ (s.cl f.k).closing = true) :
    s.rollback f =
      s.fatal (if (s.cl f.k).recurs f then 0x01 else 0x02) (clIsland f.k) f.cls f.logEng f.detail := by
  have hgate : (!(s.cl f.k).st.steady || (s.cl f.k).closing) = true := by
    rcases h with h | h <;> simp [h]
  simp only [State.rollback, hgate, if_true]

/-- A new block of Rosemary's leaves every other block. -/
theorem within_with_rmy (s : State) (r : RecBlk) : s.within [.rmy] { s with rmy := r } := by
  intro b hb
  cases b with
  | rmy => exact absurd (List.mem_singleton.mpr rfl) hb
  | _ => rfl

/-! ### A fatal error (Table 13-7 steps 1 and 2) -/

/-- An abandoned job is no longer under way. -/
theorem cutJob_job (s : State) : s.cutJob.sage.job = none := by
  unfold State.cutJob
  split
  · obtain ⟨m, d, h⟩ := cutWrite_eq { s with sage := { s.sage with job := none } } (s.jobPart _)
    rw [h]
  · assumption

/-- An abandoned job leaves the engines and the model's clock. -/
theorem cutJob_eng (s : State) (j : Nat) : s.cutJob.eng j = s.eng j := by
  obtain ⟨_, _, _, h⟩ := cutJob_eq s
  rw [h]
  rfl

theorem cutJob_mono (s : State) : s.cutJob.sys.mono = s.sys.mono := by
  obtain ⟨_, _, _, h⟩ := cutJob_eq s
  rw [h]

theorem eng_stopEngines (s : State) (j : Nat) : s.stopEngines.eng j = { s.eng j with st := .stopped } :=
  Tab.get_map ({} : Eng) (fun g => { g with st := .stopped }) rfl s.engs.eng j

/-- A fatal error stops every engine, abandons the NVM write and notes when. -/
theorem fatal_stops (s : State) (r i c e : Nat) (d : Word) (h : s.sys.stage ≠ .fatalSeq) :
    (s.fatal r i c e d).rmy.fatalAt = s.sys.mono ∧ (s.fatal r i c e d).sage.job = none ∧
    ∀ j, ((s.fatal r i c e d).eng j).st = .stopped := by
  have h' : (s.sys.stage == .fatalSeq) = false := by simpa using h
  simp only [State.fatal, h', Bool.false_eq_true, if_false]
  refine ⟨cutJob_mono _, cutJob_job _, fun j => ?_⟩
  have hstop := cutJob_eng (s.logFault c i e 5 d).stopEngines.closeOutputs j
  exact (congrArg Eng.st hstop).trans (congrArg Eng.st (eng_stopEngines (s.logFault c i e 5 d) j))

/-! ### The events -/

/-- An epoch's end under its conditions (R377, R378). -/
theorem epochEnd_ends_when_due (k : Fin 16) (busy : Fin 101) (early : Bool) (s : State) (hrun : s.running = true)
    (hst : (s.cl k).st.steady = true) (hexec : s.clusterRuns k = true) (hawait : (s.cl k).awaiting = false) :
    ((if early then s.epochDue k = false ∧ s.epochTight k = true else s.epochDue k = true) →
      Becomes (.epochEnd k busy early) s (s.endEpoch k busy early)) ∧
    (s.epochDue k = false → exec (.epochEnd k busy false) s = .next s) := by
  refine ⟨fun hwhen => ?_, fun hdue => ?_⟩
  · cases early with
    | false =>
      have hdue : s.epochDue k = true := hwhen
      simp [Becomes, execEpochEnd, State.done, hrun, hst, hexec, hawait, hdue]
    | true =>
      obtain ⟨hdue, htight⟩ := hwhen
      simp [Becomes, execEpochEnd, State.done, hrun, hst, hexec, hawait, hdue, htight]
  · simp [execEpochEnd, hdue]

/-- Settles O57: the five events act under exactly their gates, a commit replaces its own cluster by its committed
one, and a rollback starts the recovery of a steady cluster and is a fatal error of any other. -/
theorem epochsCommitOrRollBack : Obligations.EpochsCommitOrRollBack := by
  unfold Obligations.EpochsCommitOrRollBack
  refine ⟨epochEnd_ends_when_due, ?_, ?_, ?_, ?_, ?_, ?_⟩
  case refine_1 =>
    intro k s hrun hst hawait hheld
    have hx : exec (.epochCommit k) s = .next (s.commit k).settle := by
      simp [execEpochCommit, State.done, hrun, hst, hawait, hheld]
    refine ⟨_, hx, ?_⟩
    simp +contextual [cl_commit, core_commit, bank_commit, Cluster.committed]
  case refine_2 =>
    intro k s hrun hawait hheld
    refine ⟨fun hdue => ⟨?_, ?_⟩, fun why hearly => ?_⟩
    · simp [Becomes, execCommitDeadlineMiss, State.done, State.missClass, hrun, hawait, hheld, hdue]
    · simp [Becomes, execCommitDeadlineMiss, State.done, State.missClass, hrun, hawait, hheld, hdue]
    · simp [execCommitDeadlineMiss, Nat.not_le.mpr hearly]
  case refine_3 =>
    intro k s hchk hpair
    simp [Becomes, execSignatureMismatch, State.done, hchk, hpair]
  case refine_4 =>
    intro e s hchk hfence hst
    refine ⟨fun htwin => ?_, fun htwin => ?_⟩
    · simp [Becomes, execPlausibilityFail, State.done, hchk, hfence, hst, htwin]
    · simp [Becomes, execPlausibilityFail, State.done, hchk, hfence, hst, htwin]
  case refine_5 =>
    intro f s hst hcl
    dsimp only
    have hcluster := cl_rollback hst hcl
    have hself : (s.rollback f).cl f.k = s.rolledBack f := (hcluster f.k).trans (if_pos rfl)
    rw [hself, recovered_rollback hst hcl]
    refine ⟨rfl, rfl, ?_, rfl, rfl, fun o => mem_outbox_rolledBack.mp, fun j hj => ?_, ?_⟩
    · rw [rollback_of_steady hst hcl]
    · rw [hcluster, if_neg hj]
    · rw [rollback_of_steady hst hcl]
      exact within_with_rmy s _
  case refine_6 =>
    intro f s hstage h
    obtain ⟨hseq, -, hpin, hfatal⟩ := fatal_begins s (if (s.cl f.k).recurs f then 0x01 else 0x02) (clIsland f.k)
      f.cls f.logEng f.detail hstage
    obtain ⟨hat, hjob, hstop⟩ := fatal_stops s (if (s.cl f.k).recurs f then 0x01 else 0x02) (clIsland f.k)
      f.cls f.logEng f.detail hstage
    rw [rollback_of_recovering h]
    exact ⟨hseq, hpin, hfatal, hat, hjob, hstop⟩

end Sys2Proof.Machine
end

section
/-! SUPPORT. What every command keeps: the queue that waits, and the canonical form of the five memories. One lemma
per operation of the model, in the model's order; an operation keeps them where each operation it is made of does. -/

namespace Sys2Proof.Machine

-- The proofs of this sitting are elaborated in order: side by side they ask for more memory than the check has.
set_option Elab.async false

/-- What a command keeps from the state it found: the queue, and the canonical form of the memories. -/
def State.Kept (s s₀ : State) : Prop :=
  s.pending = s₀.pending ∧ (s₀.mem.wf = true → s.mem.wf = true)

theorem State.Kept.refl (s : State) : s.Kept s := ⟨rfl, id⟩

def Out.Kept (s₀ : State) : Out → Prop
  | .next t => t.Kept s₀
  | _ => False

def Eff.Kept (s₀ : State) : Eff → Prop
  | .go t | .jump t _ | .trap t _ _ | .stall t => t.Kept s₀

def CeEff.Kept (s₀ : State) : CeEff → Prop
  | .go t | .jump t _ | .stall t => t.Kept s₀
  | .fault _ => True

def Iter.Kept (s₀ : State) : Iter → Prop
  | .step t => t.Kept s₀
  | _ => True

def KeptOpt (s₀ : State) : Option State → Prop
  | some t => t.Kept s₀
  | none => True

def KeptSum (s₀ : State) : State ⊕ Nat → Prop
  | .inl t => t.Kept s₀
  | .inr _ => True

structure Reg.Kept (s₀ : State) (r : Reg) : Prop where
  act : ∀ f, r.act = some f → ∀ w, (f w).Kept s₀
  eff : KeptOpt s₀ r.eff

variable {s₀ : State} {s : State}

@[simp] theorem kept_some : KeptOpt s₀ (some s) ↔ s.Kept s₀ := Iff.rfl
@[simp] theorem kept_none : KeptOpt s₀ none ↔ True := Iff.rfl
@[simp] theorem kept_inl : KeptSum s₀ (.inl s) ↔ s.Kept s₀ := Iff.rfl
@[simp] theorem kept_inr {n : Nat} : KeptSum s₀ (.inr n) ↔ True := Iff.rfl
@[simp] theorem kept_ce_go : CeEff.Kept s₀ (.go s) ↔ s.Kept s₀ := Iff.rfl
@[simp] theorem kept_ce_jump {a} : CeEff.Kept s₀ (.jump s a) ↔ s.Kept s₀ := Iff.rfl
@[simp] theorem kept_ce_stall : CeEff.Kept s₀ (.stall s) ↔ s.Kept s₀ := Iff.rfl
@[simp] theorem kept_ce_fault {a} : CeEff.Kept s₀ (.fault a) ↔ True := Iff.rfl
@[simp] theorem kept_iter_step : Iter.Kept s₀ (.step s) ↔ s.Kept s₀ := Iff.rfl
@[simp] theorem kept_stop {b} : Iter.Kept s₀ (.stop b) ↔ True := Iff.rfl
@[simp] theorem kept_iter_trap {a b} : Iter.Kept s₀ (.trap a b) ↔ True := Iff.rfl
@[simp] theorem kept_ite_opt {c : Prop} [Decidable c] {s t : Option State} :
    KeptOpt s₀ (if c then s else t) ↔ (c → KeptOpt s₀ s) ∧ (¬ c → KeptOpt s₀ t) := by split <;> simp [*]
@[simp] theorem kept_ite_sum {c : Prop} [Decidable c] {s t : State ⊕ Nat} :
    KeptSum s₀ (if c then s else t) ↔ (c → KeptSum s₀ s) ∧ (¬ c → KeptSum s₀ t) := by split <;> simp [*]
@[simp] theorem kept_ite_ce {c : Prop} [Decidable c] {s t : CeEff} :
    CeEff.Kept s₀ (if c then s else t) ↔ (c → CeEff.Kept s₀ s) ∧ (¬ c → CeEff.Kept s₀ t) := by split <;> simp [*]
@[simp] theorem kept_ite_iter {c : Prop} [Decidable c] {s t : Iter} :
    Iter.Kept s₀ (if c then s else t) ↔ (c → Iter.Kept s₀ s) ∧ (¬ c → Iter.Kept s₀ t) := by split <;> simp [*]
@[simp] theorem kept_ite_reg {c : Prop} [Decidable c] {s t : Reg} :
    Reg.Kept s₀ (if c then s else t) ↔ (c → Reg.Kept s₀ s) ∧ (¬ c → Reg.Kept s₀ t) := by split <;> simp [*]
@[simp] theorem kept_getD {o : Option State} (ho : KeptOpt s₀ o) (h : s.Kept s₀) : (o.getD s).Kept s₀ := by
  cases o with
  | none => exact h
  | some t => exact ho
@[simp] theorem kept_blank : Reg.Kept s₀ {} := ⟨by simp, trivial⟩
@[simp] theorem kept_ro {v} : (Reg.ro v).Kept s₀ := ⟨by simp [Reg.ro], trivial⟩
@[simp] theorem kept_roW {v i} : (Reg.roW v i).Kept s₀ := ⟨by simp [Reg.roW], trivial⟩
@[simp] theorem kept_rw {v f} (hf : ∀ w, (f w).Kept s₀) : (Reg.rw v f).Kept s₀ := ⟨by simpa [Reg.rw] using hf, trivial⟩
@[simp] theorem kept_conf {v f} (hf : ∀ w, (f w).Kept s₀) : (Reg.conf v f).Kept s₀ := ⟨by simpa [Reg.conf] using hf, trivial⟩
@[simp] theorem kept_confW {v i f} (hf : ∀ w, (f w).Kept s₀) : (Reg.confW v i f).Kept s₀ := ⟨by simpa [Reg.confW] using hf, trivial⟩
@[simp] theorem kept_rwW {v i f} (hf : ∀ w, (f w).Kept s₀) : (Reg.rwW v i f).Kept s₀ := ⟨by simpa [Reg.rwW] using hf, trivial⟩
@[simp] theorem kept_wo {f} (hf : ∀ w, (f w).Kept s₀) : (Reg.wo f).Kept s₀ := ⟨by simpa [Reg.wo] using hf, trivial⟩

@[simp] theorem kept_with {sys otp sage mbx host cfg engs rmy time pnt tt ports pairs sw fab can chv age} :
    State.Kept (s₀ := s₀) ⟨sys, otp, sage, mbx, s.mem, host, cfg, engs, rmy, time, pnt, tt, ports, pairs, sw, fab, can, chv, age,
      s.pending⟩ ↔ s.Kept s₀ := Iff.rfl

@[simp] theorem kept_ite {c : Prop} [Decidable c] {s t : State} :
    (if c then s else t).Kept s₀ ↔ (c → s.Kept s₀) ∧ (¬ c → t.Kept s₀) := by
  split <;> simp [*]

@[simp] theorem kept_ite_out {c : Prop} [Decidable c] {s t : Out} :
    (if c then s else t).Kept s₀ ↔ (c → s.Kept s₀) ∧ (¬ c → t.Kept s₀) := by
  split <;> simp [*]

@[simp] theorem kept_ite_eff {c : Prop} [Decidable c] {s t : Eff} :
    (if c then s else t).Kept s₀ ↔ (c → s.Kept s₀) ∧ (¬ c → t.Kept s₀) := by
  split <;> simp [*]

@[simp] theorem kept_next : Out.Kept s₀ (.next s) ↔ s.Kept s₀ := Iff.rfl
@[simp] theorem kept_go : Eff.Kept s₀ (.go s) ↔ s.Kept s₀ := Iff.rfl
@[simp] theorem kept_jump {a} : Eff.Kept s₀ (.jump s a) ↔ s.Kept s₀ := Iff.rfl
@[simp] theorem kept_stall : Eff.Kept s₀ (.stall s) ↔ s.Kept s₀ := Iff.rfl
@[simp] theorem kept_trapped {a b} : Eff.Kept s₀ (.trap s a b) ↔ s.Kept s₀ := Iff.rfl

@[simp] theorem kept_ite_snd {α : Type} {c : Prop} [Decidable c] {s t : α × State} :
    (if c then s else t).2.Kept s₀ ↔ (c → s.2.Kept s₀) ∧ (¬ c → t.2.Kept s₀) := by
  split <;> simp [*]

theorem kept_foldl {α : Type} {l : List α} {f : State → α → State}
    (hf : ∀ t a, t.Kept s₀ → (f t a).Kept s₀) (h : s.Kept s₀) : (l.foldl f s).Kept s₀ := by
  induction l generalizing s with
  | nil => exact h
  | cons a l ih => exact ih (hf _ _ h)

@[simp] theorem kept_svcWrite (h : s.Kept s₀) (n : Nat) (l : List Byte) :
    State.Kept (s₀ := s₀) { s with mem := { s.mem with svc := Mem.writeBytes 0 s.mem.svc n l } } := by
  refine ⟨h.1, fun hw => ?_⟩
  obtain ⟨hnvm, hbank, hsvc, hcap, hdram⟩ := (mems_wf_iff _).1 (h.2 hw)
  exact (mems_wf_iff _).2 ⟨hnvm, hbank, Mem.wf_writeBytes hsvc _ _, hcap, hdram⟩

theorem kept_foldl_snd {α β : Type} {l : List α} {f : β × State → α → β × State} {b : β × State}
    (hf : ∀ b a, b.2.Kept s₀ → (f b a).2.Kept s₀) (h : b.2.Kept s₀) : (l.foldl f b).2.Kept s₀ :=
  foldl_keeps (fun b => b.2.Kept s₀) f hf l b h

/-! ### Machine/Ops.lean -/

@[simp] theorem kept_draw (h : s.Kept s₀) : s.draw.Kept s₀ := by
  exact ⟨by simp [h.1], fun hw => by simp [h.2 hw]⟩

@[simp] theorem kept_countRefused (h : s.Kept s₀) : s.countRefused.Kept s₀ := by
  exact ⟨by simp [h.1], fun hw => by simp [h.2 hw]⟩

@[simp] theorem kept_countViol (h : s.Kept s₀) : s.countViol.Kept s₀ := by
  exact ⟨by simp [h.1], fun hw => by simp [h.2 hw]⟩

@[simp] theorem kept_wrViol (h : s.Kept s₀) (addr : Nat) : (s.wrViol addr).Kept s₀ := by
  exact ⟨by simp [h.1], fun hw => by simp [h.2 hw]⟩

@[simp] theorem kept_nvmWrite (h : s.Kept s₀) (a : Nat) (bs : List Byte) : (s.nvmWrite a bs).Kept s₀ := by
  exact ⟨by simp [h.1], fun hw => nvmWrite_wf (h.2 hw) _ _⟩

@[simp] theorem kept_nvmErase (h : s.Kept s₀) (a : Nat) (n : Nat) : (s.nvmErase a n).Kept s₀ := by
  exact ⟨by simp [h.1], fun hw => nvmErase_wf (h.2 hw) _ _⟩

@[simp] theorem kept_eraseRegion (h : s.Kept s₀) (typ : Nat) (inst : Nat) : (s.eraseRegion typ inst).Kept s₀ := by
  exact ⟨by simp [h.1], fun hw => eraseRegion_wf (h.2 hw) _ _⟩

@[simp] theorem kept_cutWrite (h : s.Kept s₀) (p : NvmPart) : (s.cutWrite p).Kept s₀ := by
  simp +contextual [State.cutWrite, kept_foldl, h]

@[simp] theorem kept_cutJob (h : s.Kept s₀) : s.cutJob.Kept s₀ := by
  exact ⟨by simp [h.1], fun hw => cutJob_wf (h.2 hw)⟩

@[simp] theorem kept_setEng (h : s.Kept s₀) (e : Nat) (v : Eng) : (s.setEng e v).Kept s₀ := by
  exact ⟨by simp [h.1], fun hw => by simp [h.2 hw]⟩

@[simp] theorem kept_setCore (h : s.Kept s₀) (e : Nat) (c : EngCore) : (s.setCore e c).Kept s₀ := by
  exact ⟨by simp [h.1], fun hw => by simp [h.2 hw]⟩

@[simp] theorem kept_setCl (h : s.Kept s₀) (k : Nat) (c : Cluster) : (s.setCl k c).Kept s₀ := by
  exact ⟨by simp [h.1], fun hw => by simp [h.2 hw]⟩

@[simp] theorem kept_undoLine (h : s.Kept s₀) (e : Nat) (line : Nat) : (s.undoLine e line).Kept s₀ := by
  exact ⟨by simp [h.1], fun hw => by simp [h.2 hw]⟩

@[simp] theorem kept_bankPut (h : s.Kept s₀) (e : Nat) (a : Nat) (bs : List Byte) : (s.bankPut e a bs).Kept s₀ := by
  exact ⟨by simp [h.1], fun hw => bankPut_wf (h.2 hw) _ _ _⟩

@[simp] theorem kept_bankStore (h : s.Kept s₀) (e : Nat) (a : Nat) (bs : List Byte) : (s.bankStore e a bs).Kept s₀
    := by
  exact ⟨by simp [h.1], fun hw => bankStore_wf (h.2 hw) _ _ _⟩

@[simp] theorem kept_opDone (h : s.Kept s₀) (e : Nat) (tag : Nat) : (s.opDone e tag).Kept s₀ := by
  exact ⟨by simp [h.1], fun hw => by simp [h.2 hw]⟩

@[simp] theorem kept_irqBits (h : s.Kept s₀) (e : Nat) (bits : Nat) : (s.irqBits e bits).Kept s₀ := by
  exact ⟨by simp [h.1], fun hw => by simp [h.2 hw]⟩

@[simp] theorem kept_instPush (h : s.Kept s₀) (e : Nat) (i : Instant) : (s.instPush e i).Kept s₀ := by
  exact ⟨by simp [h.1], fun hw => by simp [h.2 hw]⟩

@[simp] theorem kept_applyInput (h : s.Kept s₀) (j : JEntry) : (s.applyInput j).Kept s₀ := by
  exact ⟨by simp [h.1], fun hw => applyInput_wf (h.2 hw) _⟩

@[simp] theorem kept_journal (h : s.Kept s₀) (j : JEntry) : (s.journal j).Kept s₀ := by
  exact ⟨by simp [h.1], fun hw => by simp [h.2 hw]⟩

@[simp] theorem kept_input (h : s.Kept s₀) (j : JEntry) : (s.input j).Kept s₀ := by
  exact ⟨by simp [h.1], fun hw => input_wf (h.2 hw) _⟩

@[simp] theorem kept_raiseIpend (h : s.Kept s₀) (e : Nat) (b : Nat) : (s.raiseIpend e b).Kept s₀ := by
  exact ⟨by simp [h.1], fun hw => by simp [h.2 hw]⟩

@[simp] theorem kept_setMb (h : s.Kept s₀) (n : Nat) (m : Mbox) : (s.setMb n m).Kept s₀ := by
  exact ⟨by simp [h.1], fun hw => by simp [h.2 hw]⟩

@[simp] theorem kept_mbIrq (h : s.Kept s₀) (n : Nat) (m : Nat) (b : Nat) : (s.mbIrq n m b).Kept s₀ := by
  exact ⟨by simp [h.1], fun hw => by simp [h.2 hw]⟩

@[simp] theorem kept_mbIrqAll (h : s.Kept s₀) (n : Nat) (b : Nat) (ms : List Nat) : (s.mbIrqAll n b ms).Kept s₀ := by
  exact ⟨by simp [h.1], fun hw => by simp [h.2 hw]⟩

@[simp] theorem kept_mbPost (h : s.Kept s₀) (n : Nat) (home : Bool) (src : Nat) (w : Word) :
    (s.mbPost n home src w).Kept s₀ := by
  exact ⟨by simp [h.1], fun hw => by simp [h.2 hw]⟩

@[simp] theorem kept_mbTake (h : s.Kept s₀) (n : Nat) (home : Bool) : (s.mbTake n home).2.Kept s₀ := by
  exact ⟨by simp [h.1], fun hw => by simp [h.2 hw]⟩

@[simp] theorem kept_mbTakeN (h : s.Kept s₀) (n : Nat) (home : Bool) (x0 : Nat) : (s.mbTakeN n home x0).Kept s₀ := by
  exact ⟨by simp [h.1], fun hw => by simp [h.2 hw]⟩

@[simp] theorem kept_mbFlush (h : s.Kept s₀) (n : Nat) (home : Bool) : (s.mbFlush n home).Kept s₀ := by
  exact ⟨by simp [h.1], fun hw => by simp [h.2 hw]⟩

@[simp] theorem kept_dropIncomplete (h : s.Kept s₀) (n : Nat) : (s.dropIncomplete n).Kept s₀ := by
  exact ⟨by simp [h.1], fun hw => by simp [h.2 hw]⟩

@[simp] theorem kept_breakLock (h : s.Kept s₀) (n : Nat) : (s.breakLock n).Kept s₀ := by
  exact ⟨by simp [h.1], fun hw => by simp [h.2 hw]⟩

@[simp] theorem kept_resetMaster (h : s.Kept s₀) (id : Nat) : (s.resetMaster id).Kept s₀ := by
  exact ⟨by simp [h.1], fun hw => by simp [h.2 hw]⟩

@[simp] theorem kept_lockRead (h : s.Kept s₀) (n : Nat) (id : Nat) : (s.lockRead n id).2.Kept s₀ := by
  exact ⟨by simp [h.1], fun hw => by simp [h.2 hw]⟩

@[simp] theorem kept_lockRelease (h : s.Kept s₀) (n : Nat) (id : Nat) : (s.lockRelease n id).Kept s₀ := by
  exact ⟨by simp [h.1], fun hw => by simp [h.2 hw]⟩

@[simp] theorem kept_sagePost (h : s.Kept s₀) (n : Nat) (home : Bool) (ws : List Word) : (s.sagePost n home
    ws).Kept s₀ := by
  exact ⟨by simp [h.1], fun hw => by simp [h.2 hw]⟩

@[simp] theorem kept_sendWords (h : s.Kept s₀) (n : Nat) (home : Bool) (src : Nat) (ws : List Word) :
    (s.sendWords n home src ws).Kept s₀ := by
  exact ⟨by simp [h.1], fun hw => by simp [h.2 hw]⟩

@[simp] theorem kept_respond (h : s.Kept s₀) (src : Nat) (code : Nat) (tag : Byte) (status : Nat) (body : List Word) :
    (s.respond src code tag status body).Kept s₀ := by
  exact ⟨by simp [h.1], fun hw => by simp [h.2 hw]⟩

@[simp] theorem kept_refuse (h : s.Kept s₀) (c : Req) (code : Nat) (status : Nat) (body : List Word) :
    (s.refuse c code status body).Kept s₀ := by
  exact ⟨by simp [h.1], fun hw => by simp [h.2 hw]⟩

@[simp] theorem kept_finish (h : s.Kept s₀) (c : Req) (code : Nat) (body : List Word) : (s.finish c code body).Kept
    s₀ := by
  exact ⟨by simp [h.1], fun hw => by simp [h.2 hw]⟩

@[simp] theorem kept_accept (h : s.Kept s₀) (c : Req) (code : Nat) : (s.accept c code).Kept s₀ := by
  exact ⟨by simp [h.1], fun hw => by simp [h.2 hw]⟩

@[simp] theorem kept_hold (h : s.Kept s₀) (q : Req) (code : Nat) : (s.hold q code).Kept s₀ := by
  exact h

@[simp] theorem kept_final (h : s.Kept s₀) (src : Nat) (code : Nat) (tag : Byte) (status : Nat) (body : List Word) :
    (s.final src code tag status body).Kept s₀ := by
  exact ⟨by simp [h.1], fun hw => by simp [h.2 hw]⟩

@[simp] theorem kept_fetchReq (h : s.Kept s₀) (c : Req) (code : Nat) : (s.fetchReq c code).Kept s₀ := by
  exact ⟨by simp [h.1], fun hw => by simp [h.2 hw]⟩

@[simp] theorem kept_serve (h : s.Kept s₀) (c : Req) (code : Nat) (words : Nat) (f : State → State ⊕ Nat) (hf : ∀
    t, t.Kept s₀ → KeptSum s₀ (f t)) :
    (s.serve c code words f).Kept s₀ := by
  refine serve_keeps s (State.Kept · s₀) c code words f h (fun st => ?_) (fun t ht => ?_)
  · exact kept_refuse (kept_fetchReq h c code) c code st []
  · have hs := hf _ (kept_fetchReq h c code)
    rwa [ht] at hs

@[simp] theorem kept_bulkWrite (h : s.Kept s₀) (src : Nat) (off : Nat) (bs : List Byte) :
    (s.bulkWrite src off bs).Kept s₀ := by
  exact ⟨by simp [h.1], fun hw => bulkWrite_wf (h.2 hw) _ _ _⟩

@[simp] theorem kept_notice (h : s.Kept s₀) (code : Nat) (body : List Word) : (s.notice code body).Kept s₀ := by
  exact ⟨by simp [h.1], fun hw => by simp [h.2 hw]⟩

@[simp] theorem kept_logFaultAt (h : s.Kept s₀) (stamp : DWord) (cls : Nat) (island : Nat) (eng : Nat) (outcome :
    Nat) (detail : Word) :
    (s.logFaultAt stamp cls island eng outcome detail).Kept s₀ := by
  exact ⟨by simp [h.1], fun hw => by simp [h.2 hw]⟩

@[simp] theorem kept_logFault (h : s.Kept s₀) (cls : Nat) (island : Nat) (eng : Nat) (outcome : Nat) (detail : Word) :
    (s.logFault cls island eng outcome detail).Kept s₀ := by
  exact ⟨by simp [h.1], fun hw => by simp [h.2 hw]⟩

@[simp] theorem kept_outsideFault (h : s.Kept s₀) (island : Nat) (outcome : Nat) (detail : Word) :
    (s.outsideFault island outcome detail).Kept s₀ := by
  exact ⟨by simp [h.1], fun hw => by simp [h.2 hw]⟩

@[simp] theorem kept_stopEngines (h : s.Kept s₀) : s.stopEngines.Kept s₀ := by
  exact h

@[simp] theorem kept_closeOutputs (h : s.Kept s₀) : s.closeOutputs.Kept s₀ := by
  exact h

@[simp] theorem kept_fatal (h : s.Kept s₀) (reason : Nat) (island : Nat) (cls : Nat) (eng : Nat) (detail : Word) :
    (s.fatal reason island cls eng detail).Kept s₀ := by
  exact ⟨by simp [h.1], fun hw => fatal_wf (h.2 hw) _ _ _ _ _⟩

/-! ### Machine/Views.lean -/

@[simp] theorem kept_setPort (h : s.Kept s₀) (n : Nat) (p : Port) : (s.setPort n p).Kept s₀ := by
  exact ⟨by simp [h.1], fun hw => by simp [h.2 hw]⟩

/-! ### Machine/PointOps.lean -/

@[simp] theorem kept_setPoint (h : s.Kept s₀) (p : Nat) (r : Point) : (s.setPoint p r).Kept s₀ := by
  exact ⟨by simp [h.1], fun hw => by simp [h.2 hw]⟩

@[simp] theorem kept_soeAppend (h : s.Kept s₀) (kind : Nat) (point : Nat) (stamp : DWord) (value : DWord) (q :
    Word) (source : Nat) :
    (s.soeAppend kind point stamp value q source).Kept s₀ := by
  simp [State.soeAppend, h]

@[simp] theorem kept_soeKind (h : s.Kept s₀) (prof : Nat) (kind : Nat) (point : Nat) (stamp : DWord) (value :
    DWord) (q : Word) (f : PntSrc) :
    (s.soeKind prof kind point stamp value q f).Kept s₀ := by
  simp [State.soeKind, h]

@[simp] theorem kept_soeStep (h : s.Kept s₀) (step : Int) : (s.soeStep step).Kept s₀ := by
  simp [State.soeStep, h]

@[simp] theorem kept_coalesce (h : s.Kept s₀) (i : Nat) (q : Nat) : (s.coalesce i q).Kept s₀ := by
  exact h

@[simp] theorem kept_pntSettle (h : s.Kept s₀) : s.pntSettle.Kept s₀ := by
  exact h

@[simp] theorem kept_deliver (h : s.Kept s₀) (i : Nat) (e : SubEntry) (quality : Word) (value : DWord) (stamp :
    DWord) (window : Nat) (coal : Bool) :
    (s.deliver i e quality value stamp window coal).Kept s₀ := by
  unfold State.deliver
  (repeat' split) <;> simp [h]

@[simp] theorem kept_slotFill (h : s.Kept s₀) (i : Nat) (e : SubEntry) (quality : Word) (value : DWord) (stamp :
    DWord) :
    (s.slotFill i e quality value stamp).Kept s₀ := by
  simp [State.slotFill]
  (repeat' split) <;> simp [h]

@[simp] theorem kept_windowClose (h : s.Kept s₀) (w : Nat) : (s.windowClose w).Kept s₀ := by
  unfold State.windowClose
  dsimp only
  split
  · exact h
  · refine kept_foldl (fun t d ht => ?_) (kept_with.2 h)
    split
    · exact kept_deliver ht _ _ _ _ _ _ _
    · exact ht

@[simp] theorem kept_fanOut (h : s.Kept s₀) (p : Nat) (valChg : Bool) (qualChg : Bool) (quality : Word) (value :
    DWord) (stamp : DWord) :
    (s.fanOut p valChg qualChg quality value stamp).Kept s₀ := by
  simp +contextual [State.fanOut]
  refine kept_foldl (fun t a ht => ?_) h
  repeat' (first | (simp +contextual [ht]; done) | split)

@[simp] theorem kept_deliverChange (h : s.Kept s₀) (p : Nat) (valChg : Bool) (qualChg : Bool) (value : DWord) (q :
    Word) (stamp : DWord) (kind : Nat) (f : PntSrc) :
    (s.deliverChange p valChg qualChg value q stamp kind f).Kept s₀ := by
  simp (maxDischargeDepth := 15) [State.deliverChange, h]

@[simp] theorem kept_timerFullEvent (h : s.Kept s₀) : s.timerFullEvent.Kept s₀ := by
  exact h

@[simp] theorem kept_setTimer (h : s.Kept s₀) (k : Nat) (t : PTimer) : (s.setTimer k t).Kept s₀ := by
  exact h

@[simp] theorem kept_delTimer (h : s.Kept s₀) (k : Nat) : (s.delTimer k).Kept s₀ := by
  exact h

@[simp] theorem kept_releaseChatter (h : s.Kept s₀) (p : Nat) : (s.releaseChatter p).Kept s₀ := by
  unfold State.releaseChatter
  split <;> simp (maxDischargeDepth := 15) [h]

@[simp] theorem kept_keepAcc (h : s.Kept s₀) (p : Nat) (q : Word) : (s.keepAcc p q).Kept s₀ := by
  unfold State.keepAcc
  split <;> simp [h]

@[simp] theorem kept_soeRelease (h : s.Kept s₀) (kind : Nat) (prof : Nat) (u : Update) (q : Word) :
    (s.soeRelease kind prof u q).Kept s₀ := by
  simp [State.soeRelease, h]

@[simp] theorem kept_chatter (h : s.Kept s₀) (p : Nat) (u : Update) (valChg : Bool) (qualChg : Bool) (kind : Nat) :
    (s.chatter p u valChg qualChg kind).2.Kept s₀ := by
  simp (maxDischargeDepth := 15) [State.chatter, h]

@[simp] theorem kept_releaseHeld (h : s.Kept s₀) (p : Nat) : (s.releaseHeld p).Kept s₀ := by
  unfold State.releaseHeld
  split <;> simp (maxDischargeDepth := 15) [h]

@[simp] theorem kept_judgeRest (h : s.Kept s₀) (p : Nat) (u : Update) : (s.judgeRest p u).2.Kept s₀ := by
  simp [State.judgeRest, h]

/-- A held double-point state whose time has come by `stamp` is released. -/
def State.ripened (s : State) (p : Nat) (stamp : DWord) : State :=
  match s.heldTimer p with
  | some t => if t.deadline ≤ stamp then s.releaseHeld p else s
  | none => s

/-- An update of a double point whose held state, if any, is not yet due. -/
def State.judgeUnripe (s : State) (hold p : Nat) (u : Update) : Reply × State :=
  let r := s.point p
  if r.held then
    if u.value = 0 then
      let s := match s.heldTimer p with
        | some t => s.setTimer (2 * p) { t with quality := u.quality }
        | none => s
      (.noChange, s)
    else
      let s := (s.delTimer (2 * p)).setPoint p { r with held := false }
      match s.judgeRest p u with
      | (.noChange, s) =>
        (.suppressed, ({ s with pnt := { s.pnt with dpSupp := satInc s.pnt.dpSupp } }).soeKind
          r.profile 3 p u.stamp u.value (storeQuality u.quality u.from_.src) u.from_)
      | x => x
  else if u.value = 0 && r.value ≠ 0 then
    if s.timerFree then
      let s := s.setTimer (2 * p)
        { deadline := u.stamp + msU hold, release := false, quality := u.quality, stamp := u.stamp }
      let s := s.setPoint p { r with held := true }
      (.held, s.soeKind r.profile 1 p u.stamp 0 (storeQuality u.quality u.from_.src) u.from_)
    else s.timerFullEvent.judgeRest p u
  else s.judgeRest p u

theorem judgeDp_eq (p : Nat) (u : Update) : s.judgeDp p u =
    if s.filt (s.point p).profile 8 2 = 0 then s.judgeRest p u
    else (s.ripened p u.stamp).judgeUnripe (s.filt (s.point p).profile 8 2) p u := rfl

@[simp] theorem kept_ripened (h : s.Kept s₀) (p : Nat) (stamp : DWord) : (s.ripened p stamp).Kept s₀ := by
  unfold State.ripened
  split
  · simp [h]
  · exact h

@[simp] theorem kept_judgeUnripe (h : s.Kept s₀) (hold p : Nat) (u : Update) : (s.judgeUnripe hold p u).2.Kept s₀
    := by
  unfold State.judgeUnripe
  dsimp only
  split
  · split
    · dsimp only
      split
      · exact kept_setTimer h _ _
      · exact h
    · have hr := kept_judgeRest (kept_setPoint (kept_delTimer h (2 * p)) p { s.point p with held := false }) p u
      split
      · next v hv =>
        rw [hv] at hr
        exact kept_soeKind (kept_with.2 hr) _ _ _ _ _ _ _
      · exact hr
  · split
    · split
      · exact kept_soeKind (kept_setPoint (kept_setTimer h _ _) _ _) _ _ _ _ _ _ _
      · exact kept_judgeRest (kept_timerFullEvent h) p u
    · exact kept_judgeRest h p u

@[simp] theorem kept_judgeDp (h : s.Kept s₀) (p : Nat) (u : Update) : (s.judgeDp p u).2.Kept s₀ := by
  rw [judgeDp_eq]
  split
  · exact kept_judgeRest h p u
  · exact kept_judgeUnripe (kept_ripened h p u.stamp) _ p u

@[simp] theorem kept_countUpdate (h : s.Kept s₀) : s.countUpdate.Kept s₀ := by
  exact h

@[simp] theorem kept_judge (h : s.Kept s₀) (u : Update) : (s.judge u).2.Kept s₀ := by
  simp [State.judge, h]

@[simp] theorem kept_sageOp (h : s.Kept s₀) (o : PntOp) : (s.sageOp o).Kept s₀ := by
  exact h

@[simp] theorem kept_sagePut (h : s.Kept s₀) (p : Nat) (v : Nat) : (s.sagePut p v).Kept s₀ := by
  exact h

@[simp] theorem kept_pntPush (h : s.Kept s₀) (src : Nat) (o : PntOp) : (s.pntPush src o).2.Kept s₀ := by
  simp [State.pntPush, h]

/-! ### Machine/Dram.lean -/

@[simp] theorem kept_dramPut (h : s.Kept s₀) (a : Nat) (b : Byte) : (s.dramPut a b).Kept s₀ := by
  unfold State.dramPut
  split
  · exact kept_setPoint h _ _
  · split
    · exact h
    · split
      · exact h
      · refine ⟨h.1, fun hw => ?_⟩
        obtain ⟨hnvm, hbank, hsvc, hcap, hdram⟩ := (mems_wf_iff _).1 (h.2 hw)
        exact (mems_wf_iff _).2 ⟨hnvm, hbank, hsvc, hcap, Mem.wf_write hdram _ _⟩

@[simp] theorem kept_dramStore (h : s.Kept s₀) (a : Nat) (bs : List Byte) : (s.dramStore a bs).Kept s₀ := by
  simp +contextual [State.dramStore, kept_foldl, h]

@[simp] theorem kept_winWrite (h : s.Kept s₀) (w : Window) (off : Nat) (bs : List Byte) : (s.winWrite w off
    bs).Kept s₀ := by
  unfold State.winWrite
  split
  · exact kept_dramStore h _ _
  · exact kept_svcWrite h _ _

/-! ### Machine/Alarm.lean -/

@[simp] theorem kept_settle (h : s.Kept s₀) : s.settle.Kept s₀ := by
  exact ⟨by simp [h.1], fun hw => by simp [h.2 hw]⟩

@[simp] theorem kept_done (h : s.Kept s₀) : s.done.Kept s₀ := by
  exact h

/-! ### Machine/Mailbox.lean -/

@[simp] theorem kept_execEccCorrectable (h : s.Kept s₀) (m : Fin 38) : (execEccCorrectable m s).Kept s₀ := by
  exact h

@[simp] theorem kept_execScrubLate (h : s.Kept s₀) : (execScrubLate s).Kept s₀ := by
  exact h

@[simp] theorem kept_execBankStarve (h : s.Kept s₀) (n : Fin 32) (cycles : Word) : (execBankStarve n cycles s).Kept
    s₀ := by
  simp [execBankStarve, h]

@[simp] theorem kept_hostRefusedWrite (h : s.Kept s₀) (n : Nat) : (s.hostRefusedWrite n).Kept s₀ := by
  simp [State.hostRefusedWrite, h]

@[simp] theorem kept_hostPost (h : s.Kept s₀) (n : Nat) (w : Word) : (s.hostPost n w).Kept s₀ := by
  unfold State.hostPost
  split <;> simp [h]

@[simp] theorem kept_execMbnTxWrite (h : s.Kept s₀) (n : Fin 64) (w : Word) : (execMbnTxWrite n w s).Kept s₀ := by
  simp [execMbnTxWrite, h]

@[simp] theorem kept_hostPop (h : s.Kept s₀) (n : Nat) : (s.hostPop n).Kept s₀ := by
  unfold State.hostPop
  split <;> simp [h]

@[simp] theorem kept_execMbnPop (h : s.Kept s₀) (n : Fin 64) : (execMbnPop n s).Kept s₀ := by
  simp [execMbnPop, h]

@[simp] theorem kept_hostLockRead (h : s.Kept s₀) (n : Nat) : (s.hostLockRead n).2.Kept s₀ := by
  simp [State.hostLockRead, h]

@[simp] theorem kept_execMbnLockRead (h : s.Kept s₀) (n : Fin 64) : (execMbnLockRead n s).Kept s₀ := by
  simp [execMbnLockRead, h]

@[simp] theorem kept_hostLockRelease (h : s.Kept s₀) (n : Nat) : (s.hostLockRelease n).Kept s₀ := by
  simp [State.hostLockRelease, h]

@[simp] theorem kept_execMbnLockRelease (h : s.Kept s₀) (n : Fin 64) : (execMbnLockRelease n s).Kept s₀ := by
  simp [execMbnLockRelease, h]

@[simp] theorem kept_execHostReset (h : s.Kept s₀) : (execHostReset s).Kept s₀ := by
  simp [execHostReset, h]

@[simp] theorem kept_execMailboxLockBreak (h : s.Kept s₀) (n : Fin 64) : (execMailboxLockBreak n s).Kept s₀ := by
  simp (maxDischargeDepth := 15) [execMailboxLockBreak, h]

/-! ### Machine/EngineOps.lean -/

@[simp] theorem kept_dropEntry (h : s.Kept s₀) (e : Nat) : (s.dropEntry e).Kept s₀ := by
  simp [State.dropEntry]
  split <;> simp [h]

@[simp] theorem kept_presentOne (h : s.Kept s₀) (j : JEntry) : (s.presentOne j).Kept s₀ := by
  unfold State.presentOne
  (repeat' split) <;> simp [h]

@[simp] theorem kept_present (h : s.Kept s₀) (e : Nat) (x0 : Nat) : (s.present e x0).Kept s₀ := by
  induction x0 generalizing s with
  | zero => exact h
  | succ n ih =>
    unfold State.present
    split
    · split
      · split
        · exact ih (kept_presentOne (kept_dropEntry h _) _)
        · exact h
      · exact h
    · exact h

@[simp] theorem kept_presentAll (h : s.Kept s₀) (e : Nat) : (s.presentAll e).Kept s₀ := by
  simp [State.presentAll, h]

@[simp] theorem kept_readInput (h : s.Kept s₀) (e : Nat) (kind : Nat) (live : State → Nat × State) (hf : ∀ t,
    t.Kept s₀ → (live t).2.Kept s₀) :
    (s.readInput e kind live).2.Kept s₀ := by
  simp [State.readInput]
  (repeat' split) <;> simp [hf, h]

@[simp] theorem kept_grantSettle (h : s.Kept s₀) : s.grantSettle.Kept s₀ := by
  simp +contextual [State.grantSettle, kept_foldl, h]

@[simp] theorem kept_retire (h : s.Kept s₀) (e : Nat) (next : Option Nat) : (s.retire e next).Kept s₀ := by
  simp [State.retire, h]

@[simp] theorem kept_wake (h : s.Kept s₀) (e : Nat) : (s.wake e).Kept s₀ := by
  simp [State.wake, h]

@[simp] theorem kept_dropOutbox (h : s.Kept s₀) (e : Nat) : (s.dropOutbox e).Kept s₀ := by
  exact h

@[simp] theorem kept_statusPoint (h : s.Kept s₀) (e : Nat) (v : Nat) : (s.statusPoint e v).Kept s₀ := by
  simp [State.statusPoint, h]

@[simp] theorem kept_doubleTrap (h : s.Kept s₀) (e : Nat) : (s.doubleTrap e).Kept s₀ := by
  simp (maxDischargeDepth := 15) [State.doubleTrap, h]

@[simp] theorem kept_trap (h : s.Kept s₀) (e : Nat) (cause : Nat) (inst : Nat) (addr : Nat) :
    (s.trap e cause inst addr).Kept s₀ := by
  simp (maxDischargeDepth := 15) [State.trap, h]

@[simp] theorem kept_effState {x : Eff} (h : x.Kept s₀) (e w : Nat) : (x.state e w).Kept s₀ := by
  cases x with
  | go t => exact kept_retire h e none
  | jump t a => exact kept_retire h e (some a)
  | trap t cause addr => exact kept_trap h e cause _ addr
  | stall t => exact h

@[simp] theorem kept_issue (h : s.Kept s₀) (i : Issue) (row : Row) (f : State → Nat → Nat → Eff) (hf : ∀ t e w,
    t.Kept s₀ → (f t e w).Kept s₀) :
    (s.issue i row f).Kept s₀ := by
  simp [State.issue]
  have ht := kept_wake (kept_presentAll h i.eng.val) i.eng.val
  generalize (s.presentAll i.eng.val).wake i.eng.val = t at ht
  have hact := hf t i.eng.val i.word.toNat ht
  simp [h, ht, kept_effState hact]

@[simp] theorem kept_instr (h : s.Kept s₀) (i : Issue) (row : Row) (f : State → Nat → Nat → Eff) (hf : ∀ t e w,
    t.Kept s₀ → (f t e w).Kept s₀) :
    (s.instr i row f).Kept s₀ := by
  simp (maxDischargeDepth := 15) +contextual [State.instr, hf, h]

@[simp] theorem kept_putR (h : s.Kept s₀) (e : Nat) (rd : Nat) (v : Nat) : (s.putR e rd v).Kept s₀ := by
  exact h

/-! ### Machine/Point.lean -/

@[simp] theorem kept_pntServe (h : s.Kept s₀) (q : Req) (code : Nat) (words : Nat) (f : State → State ⊕ Nat) (hf :
    ∀ t, t.Kept s₀ → KeptSum s₀ (f t)) :
    (s.pntServe q code words f).Kept s₀ := by
  simp +contextual [State.pntServe, hf, h]

@[simp] theorem kept_grantWait (h : s.Kept s₀) (q : Req) (code : Nat) : (s.grantWait q code).Kept s₀ := by
  simp [State.grantWait, h]

@[simp] theorem kept_execPointGrantSet (h : s.Kept s₀) (q : Req) : (execPointGrantSet q s).Kept s₀ := by
  simp (maxDischargeDepth := 15) +contextual [execPointGrantSet, h]

@[simp] theorem kept_execPointGrantRemove (h : s.Kept s₀) (q : Req) : (execPointGrantRemove q s).Kept s₀ := by
  simp (maxDischargeDepth := 15) +contextual [execPointGrantRemove, h]

@[simp] theorem kept_substitute (h : s.Kept s₀) (p : Nat) (v : DWord) (q : Word) : (s.substitute p v q).Kept s₀ := by
  simp (maxDischargeDepth := 15) [State.substitute, h]

@[simp] theorem kept_execPointSubstitute (h : s.Kept s₀) (q : Req) : (execPointSubstitute q s).Kept s₀ := by
  simp (maxDischargeDepth := 15) +contextual [execPointSubstitute, h]

@[simp] theorem kept_substEnd (h : s.Kept s₀) (p : Nat) : (s.substEnd p).Kept s₀ := by
  simp [State.substEnd, h]

@[simp] theorem kept_execPointSubstituteEnd (h : s.Kept s₀) (q : Req) : (execPointSubstituteEnd q s).Kept s₀ := by
  simp (maxDischargeDepth := 15) +contextual [execPointSubstituteEnd, h]

@[simp] theorem kept_subAppend (h : s.Kept s₀) (e : SubEntry) : KeptOpt s₀ (s.subAppend e) := by
  simp only [State.subAppend]
  repeat' split
  all_goals simp_all (maxDischargeDepth := 15) only [kept_with, kept_some, kept_none]

@[simp] theorem kept_subAppendAll (h : s.Kept s₀) (x0 : List SubEntry) : KeptOpt s₀ (s.subAppendAll x0) := by
  induction x0 generalizing s with
  | nil => exact h
  | cons a l ih =>
    have ha := kept_subAppend h a
    unfold State.subAppendAll
    split
    · next t ht =>
      rw [ht] at ha
      exact ih ha
    · trivial

@[simp] theorem kept_execSubscriptionAppend (h : s.Kept s₀) (q : Req) : (execSubscriptionAppend q s).Kept s₀ := by
  unfold execSubscriptionAppend
  split
  · refine kept_done (kept_pntServe h q _ _ _ fun t ht => ?_)
    dsimp only
    split
    · trivial
    · split
      · trivial
      · have ha := kept_subAppendAll ht ((chunks 20 (t.bulkRead q.src.val (q.word 1) (q.word 2)) (q.word 2 /
          20)).map SubEntry.ofBytes)
        split
        · next u hu =>
          rw [hu] at ha
          exact kept_finish ha q _ []
        · trivial
  · exact h

@[simp] theorem kept_subDrop (h : s.Kept s₀) (i : Nat) : (s.subDrop i).Kept s₀ := by
  simp [State.subDrop]
  split <;> simp [h]

@[simp] theorem kept_subRemove (h : s.Kept s₀) (b : List Byte) : KeptOpt s₀ (s.subRemove b) := by
  simp [State.subRemove]
  repeat' split
  all_goals simp_all (maxDischargeDepth := 15) only [kept_some, kept_none, kept_subDrop]

@[simp] theorem kept_subRemoveAll (h : s.Kept s₀) (x0 : List (List Byte)) : KeptOpt s₀ (s.subRemoveAll x0) := by
  induction x0 generalizing s with
  | nil => exact h
  | cons a l ih =>
    have ha := kept_subRemove h a
    unfold State.subRemoveAll
    split
    · next t ht =>
      rw [ht] at ha
      exact ih ha
    · trivial

@[simp] theorem kept_execSubscriptionRemove (h : s.Kept s₀) (q : Req) : (execSubscriptionRemove q s).Kept s₀ := by
  unfold execSubscriptionRemove
  split
  · refine kept_done (kept_pntServe h q _ _ _ fun t ht => ?_)
    dsimp only
    split
    · trivial
    · have ha := kept_subRemoveAll ht (chunks 8 (t.bulkRead q.src.val (q.word 1) (q.word 2)) (q.word 2 / 8))
      split
      · next u hu =>
        rw [hu] at ha
        exact kept_finish ha q _ []
      · trivial
  · exact h

@[simp] theorem kept_fifoPut (h : s.Kept s₀) (src : Nat) (l : List PntOp) : (s.fifoPut src l).Kept s₀ := by
  exact h

@[simp] theorem kept_putReply (h : s.Kept s₀) (e : Nat) (tag : Nat) (code : Nat) : (s.putReply e tag code).Kept s₀
    := by
  exact h

@[simp] theorem kept_drainFab (h : s.Kept s₀) : s.drainFab.Kept s₀ := by
  unfold State.drainFab
  split <;> simp [h]

@[simp] theorem kept_drainCan (h : s.Kept s₀) : s.drainCan.Kept s₀ := by
  unfold State.drainCan
  split <;> simp [h]

@[simp] theorem kept_execPointUpdate (h : s.Kept s₀) (src : Fin 36) : (execPointUpdate src s).Kept s₀ := by
  simp [execPointUpdate]
  (repeat' split) <;> simp (maxDischargeDepth := 15) [h]

@[simp] theorem kept_execPointGet (h : s.Kept s₀) (src : Fin 32) : (execPointGet src s).Kept s₀ := by
  unfold execPointGet
  split <;> simp (maxDischargeDepth := 15) [h]

@[simp] theorem kept_dpExpire (h : s.Kept s₀) (p : Nat) : (s.dpExpire p).Kept s₀ := by
  unfold State.dpExpire
  split <;> simp [h]

@[simp] theorem kept_chatterExpire (h : s.Kept s₀) (p : Nat) : (s.chatterExpire p).Kept s₀ := by
  unfold State.chatterExpire
  split <;> simp [h]

@[simp] theorem kept_execDpHoldExpiry (h : s.Kept s₀) (p : Fin 8388608) : (execDpHoldExpiry p s).Kept s₀ := by
  simp (maxDischargeDepth := 15) [execDpHoldExpiry, h]

@[simp] theorem kept_execChatterRelease (h : s.Kept s₀) (p : Fin 8388608) : (execChatterRelease p s).Kept s₀ := by
  simp (maxDischargeDepth := 15) [execChatterRelease, h]

@[simp] theorem kept_timersExpire (h : s.Kept s₀) : s.timersExpire.Kept s₀ := by
  simp +contextual [State.timersExpire, kept_foldl, h]

@[simp] theorem kept_execWindowClose (h : s.Kept s₀) (w : Fin 65) : (execWindowClose w s).Kept s₀ := by
  simp (maxDischargeDepth := 15) [execWindowClose, h]

@[simp] theorem kept_pntStep (h : s.Kept s₀) : s.pntStep.Kept s₀ := by
  simp (maxDischargeDepth := 15) +contextual [State.pntStep, kept_foldl, h]

@[simp] theorem kept_queueWrite (h : s.Kept s₀) (q : Nat) (d : Delivery) : (s.queueWrite q d).Kept s₀ := by
  unfold State.queueWrite
  split
  · exact kept_input (kept_with.2 h) _
  · dsimp only
    split
    · exact kept_svcWrite h _ _
    · exact kept_svcWrite h _ _

@[simp] theorem kept_deliveryWrite (h : s.Kept s₀) (q : Nat) : (s.deliveryWrite q).Kept s₀ := by
  unfold State.deliveryWrite
  split <;> simp [h]

@[simp] theorem kept_execDeliveryWrite (h : s.Kept s₀) (q : Fin 36) : (execDeliveryWrite q s).Kept s₀ := by
  simp (maxDischargeDepth := 15) [execDeliveryWrite, h]

@[simp] theorem kept_pendWrite (h : s.Kept s₀) (q : Nat) : (s.pendWrite q).Kept s₀ := by
  unfold State.pendWrite
  (repeat' split) <;> simp [h]

@[simp] theorem kept_execPendingDeliveryWrite (h : s.Kept s₀) (q : Fin 1088) : (execPendingDeliveryWrite q s).Kept
    s₀ := by
  simp (maxDischargeDepth := 15) [execPendingDeliveryWrite, h]

@[simp] theorem kept_soeRdWrite (h : s.Kept s₀) (hi : Bool) (w : Word) : (s.soeRdWrite hi w).Kept s₀ := by
  exact h

@[simp] theorem kept_execPntSoeRdWrite (h : s.Kept s₀) (hi : Bool) (w : Word) : (execPntSoeRdWrite hi w s).Kept s₀
    := by
  simp [execPntSoeRdWrite, h]

@[simp] theorem kept_hqRdWrite (h : s.Kept s₀) (q : Nat) (w : Word) : (s.hqRdWrite q w).Kept s₀ := by
  exact h

@[simp] theorem kept_execPntHqRdWrite (h : s.Kept s₀) (q : Fin 4) (w : Word) : (execPntHqRdWrite q w s).Kept s₀ := by
  simp [execPntHqRdWrite, h]

@[simp] theorem kept_execThrottleAlarm (h : s.Kept s₀) : (execThrottleAlarm s).Kept s₀ := by
  simp [execThrottleAlarm, h]

/-! ### Machine/PortOps.lean -/

@[simp] theorem kept_stat (h : s.Kept s₀) (n : Nat) (i : Nat) (k : Nat) : (s.stat n i k).Kept s₀ := by
  exact h

@[simp] theorem kept_stats (h : s.Kept s₀) (n : Nat) (l : List Nat) : (s.stats n l).Kept s₀ := by
  simp +contextual [State.stats, kept_foldl, h]

@[simp] theorem kept_portEvent (h : s.Kept s₀) (n : Nat) (b : Nat) : (s.portEvent n b).Kept s₀ := by
  exact h

@[simp] theorem kept_setPair (h : s.Kept s₀) (i : Nat) (p : Pair) : (s.setPair i p).Kept s₀ := by
  exact ⟨by simp [h.1], fun hw => by simp [h.2 hw]⟩

/-! ### Machine/TtOps.lean -/

@[simp] theorem kept_setTport (h : s.Kept s₀) (n : Nat) (p : TtPort) : (s.setTport n p).Kept s₀ := by
  exact ⟨by simp [h.1], fun hw => by simp [h.2 hw]⟩

@[simp] theorem kept_setTchan (h : s.Kept s₀) (k : Nat) (c : TtChan) : (s.setTchan k c).Kept s₀ := by
  exact ⟨by simp [h.1], fun hw => by simp [h.2 hw]⟩

@[simp] theorem kept_ttLog (h : s.Kept s₀) (unit_ : Nat) (code : Nat) (index : Nat) (value : Word) :
    (s.ttLog unit_ code index value).Kept s₀ := by
  exact h

@[simp] theorem kept_qualUpdate (h : s.Kept s₀) : s.qualUpdate.Kept s₀ := by
  simp [State.qualUpdate, h]

@[simp] theorem kept_cutTx (h : s.Kept s₀) (n : Nat) : (s.cutTx n).Kept s₀ := by
  simp [State.cutTx]
  split <;> simp [h]

@[simp] theorem kept_listenPort (h : s.Kept s₀) (n : Nat) : (s.listenPort n).Kept s₀ := by
  exact h

@[simp] theorem kept_closePorts (h : s.Kept s₀) : s.closePorts.Kept s₀ := by
  simp (maxDischargeDepth := 15) +contextual [State.closePorts, kept_foldl, h]

@[simp] theorem kept_post62 (h : s.Kept s₀) (src : Nat) (w : Word) : (s.post62 src w).Kept s₀ := by
  simp [State.post62, h]

@[simp] theorem kept_drain62 (h : s.Kept s₀) (x0 : Nat) : (s.drain62 x0).Kept s₀ := by
  induction x0 generalizing s with
  | zero => exact h
  | succ n ih =>
    unfold State.drain62
    split
    · exact h
    · split
      · exact ih (kept_mbPost (kept_with.2 h) _ _ _ _)
      · exact h

@[simp] theorem kept_take62 (h : s.Kept s₀) (src : Nat) : (s.take62 src).Kept s₀ := by
  simp [State.take62]
  (repeat' split) <;> simp [h]

/-! ### Machine/TimeOps.lean -/

@[simp] theorem kept_nearest (h : s.Kept s₀) (n : Int) (d : Nat) : (s.nearest n d).2.Kept s₀ := by
  simp [State.nearest, h]

@[simp] theorem kept_whole (h : s.Kept s₀) (n : Int) (d : Nat) : (s.whole n d).2.Kept s₀ := by
  simp [State.whole, h]

@[simp] theorem kept_skipInstants (h : s.Kept s₀) (new : Nat) (r : Rec) : (s.skipInstants new r).Kept s₀ := by
  simp [State.skipInstants, h]

@[simp] theorem kept_stepTime (h : s.Kept s₀) (delta : Int) : (s.stepTime delta).Kept s₀ := by
  simp (maxDischargeDepth := 15) +contextual [State.stepTime, kept_foldl, h]

@[simp] theorem kept_ppsSettle (h : s.Kept s₀) : s.ppsSettle.Kept s₀ := by
  simp [State.ppsSettle, h]

@[simp] theorem kept_enterServo (h : s.Kept s₀) (st : ServoState) : (s.enterServo st).Kept s₀ := by
  simp [State.enterServo]
  (repeat' split) <;> simp +contextual [h]

@[simp] theorem kept_offsetRule (h : s.Kept s₀) (off : Int) (n : Nat) : (s.offsetRule off n).Kept s₀ := by
  simp (maxDischargeDepth := 15) [State.offsetRule, h]

@[simp] theorem kept_noteSample (h : s.Kept s₀) (m : Sample) : (s.noteSample m).Kept s₀ := by
  simp +contextual [State.noteSample, kept_foldl, h]

@[simp] theorem kept_servoLaw (h : s.Kept s₀) (m : Sample) : (s.servoLaw m).Kept s₀ := by
  simp [State.servoLaw, h]

@[simp] theorem kept_noteFreq (h : s.Kept s₀) : s.noteFreq.Kept s₀ := by
  simp [State.noteFreq, h]

@[simp] theorem kept_countRun (h : s.Kept s₀) (cls : Nat) : (s.countRun cls).Kept s₀ := by
  exact h

@[simp] theorem kept_judgeSample (h : s.Kept s₀) (m : Sample) : (s.judgeSample m).Kept s₀ := by
  simp (maxDischargeDepth := 15) [State.judgeSample, h]

@[simp] theorem kept_dropSample (h : s.Kept s₀) : s.dropSample.Kept s₀ := by
  exact h

@[simp] theorem kept_takeUtc (h : s.Kept s₀) (u : UtcInfo) : (s.takeUtc u).Kept s₀ := by
  exact h

@[simp] theorem kept_otherSource (h : s.Kept s₀) (src : Nat) : (s.otherSource src).Kept s₀ := by
  simp [State.otherSource, h]

@[simp] theorem kept_servoSample (h : s.Kept s₀) (src : Nat) (m : Sample) (utc : Option UtcInfo) :
    (s.servoSample src m utc).Kept s₀ := by
  unfold State.servoSample
  split <;> split <;> simp (maxDischargeDepth := 15) [h]

/-! ### Machine/Irig.lean -/

@[simp] theorem kept_irigPulse (h : s.Kept s₀) (rise : Word) (fall : DWord) : (s.irigPulse rise fall).Kept s₀ := by
  simp [State.irigPulse, h]

/-! ### Machine/LoadStore.lean -/

@[simp] theorem kept_load (h : s.Kept s₀) (i : Issue) (major : Nat) (n : Nat) (f : Nat → Nat) :
    (s.load i major n f).Kept s₀ := by
  unfold State.load
  refine kept_instr h _ _ _ fun t e w ht => ?_
  dsimp only
  repeat' (first | (simp +contextual [ht]; done) | split)

@[simp] theorem kept_store (h : s.Kept s₀) (i : Issue) (major : Nat) (n : Nat) : (s.store i major n).Kept s₀ := by
  unfold State.store
  refine kept_instr h _ _ _ fun t e w ht => ?_
  dsimp only
  repeat' (first | (simp +contextual [ht]; done) | split)

@[simp] theorem kept_execLdb (h : s.Kept s₀) (i : Issue) : (execLdb i s).Kept s₀ := by
  simp [execLdb, h]

@[simp] theorem kept_execLdbu (h : s.Kept s₀) (i : Issue) : (execLdbu i s).Kept s₀ := by
  simp [execLdbu, h]

@[simp] theorem kept_execLdh (h : s.Kept s₀) (i : Issue) : (execLdh i s).Kept s₀ := by
  simp [execLdh, h]

@[simp] theorem kept_execLdhu (h : s.Kept s₀) (i : Issue) : (execLdhu i s).Kept s₀ := by
  simp [execLdhu, h]

@[simp] theorem kept_execLdw (h : s.Kept s₀) (i : Issue) : (execLdw i s).Kept s₀ := by
  simp [execLdw, h]

@[simp] theorem kept_execStb (h : s.Kept s₀) (i : Issue) : (execStb i s).Kept s₀ := by
  simp [execStb, h]

@[simp] theorem kept_execSth (h : s.Kept s₀) (i : Issue) : (execSth i s).Kept s₀ := by
  simp [execSth, h]

@[simp] theorem kept_execStw (h : s.Kept s₀) (i : Issue) : (execStw i s).Kept s₀ := by
  simp [execStw, h]

@[simp] theorem kept_atomic (h : s.Kept s₀) (i : Issue) (fn : Nat) (f : Nat → Nat → Nat) : (s.atomic i fn f).Kept
    s₀ := by
  unfold State.atomic
  refine kept_instr h _ _ _ fun t e w ht => ?_
  dsimp only
  repeat' (first | (simp +contextual [ht]; done) | split)

@[simp] theorem kept_execAadd (h : s.Kept s₀) (i : Issue) : (execAadd i s).Kept s₀ := by
  simp [execAadd, h]

@[simp] theorem kept_execAswap (h : s.Kept s₀) (i : Issue) : (execAswap i s).Kept s₀ := by
  simp [execAswap, h]

/-! ### Machine/Operations.lean -/

@[simp] theorem kept_outPut (h : s.Kept s₀) (e : Nat) (o : Output) : (s.outPut e o).Kept s₀ := by
  exact h

@[simp] theorem kept_outStall (h : s.Kept s₀) (e : Nat) : (s.outStall e).Kept s₀ := by
  simp [State.outStall, h]

@[simp] theorem kept_takeTag (h : s.Kept s₀) (e : Nat) (rd : Nat) (tag : Nat) (o : Op) : (s.takeTag e rd tag
    o).Kept s₀ := by
  exact h

@[simp] theorem kept_opIssue (h : s.Kept s₀) (i : Issue) (major : Nat) (kind : OpKind) (ok : State → Nat → List
    Byte → Bool) (out : List Byte → Bool) (f : State → Nat → Nat → List Byte → State) (hf : ∀ t e n b,
        t.Kept s₀ → (f t e n b).Kept s₀) :
    (s.opIssue i major kind ok out f).Kept s₀ := by
  unfold State.opIssue
  refine kept_instr h _ _ _ fun t e w ht => ?_
  dsimp only
  repeat' (first | (simp +contextual [hf, ht]; done) | split)

@[simp] theorem kept_execPut (h : s.Kept s₀) (i : Issue) : (execPut i s).Kept s₀ := by
  simp +contextual [execPut, h]

@[simp] theorem kept_execGet (h : s.Kept s₀) (i : Issue) : (execGet i s).Kept s₀ := by
  simp (maxDischargeDepth := 15) +contextual [execGet, h]

@[simp] theorem kept_execTxq (h : s.Kept s₀) (i : Issue) : (execTxq i s).Kept s₀ := by
  simp +contextual [execTxq, h]

@[simp] theorem kept_execRxq (h : s.Kept s₀) (i : Issue) : (execRxq i s).Kept s₀ := by
  simp +contextual [execRxq, h]

@[simp] theorem kept_execDma (h : s.Kept s₀) (i : Issue) : (execDma i s).Kept s₀ := by
  simp +contextual [execDma, h]

@[simp] theorem kept_execPutCompletion (h : s.Kept s₀) (e : Fin 32) (tag : Fin 16) : (execPutCompletion e tag
    s).Kept s₀ := by
  simp [execPutCompletion]
  split <;> simp (maxDischargeDepth := 15) [h]

@[simp] theorem kept_execGetCompletion (h : s.Kept s₀) (e : Fin 32) (tag : Fin 16) : (execGetCompletion e tag
    s).Kept s₀ := by
  simp [execGetCompletion]
  split <;> simp (maxDischargeDepth := 15) [h]

@[simp] theorem kept_execTxqCompletion (h : s.Kept s₀) (e : Fin 32) (tag : Fin 16) : (execTxqCompletion e tag
    s).Kept s₀ := by
  simp [execTxqCompletion]
  (repeat' split) <;> simp (maxDischargeDepth := 15) [h]

@[simp] theorem kept_rxCheck (h : s.Kept s₀) (e : Nat) : (s.rxCheck e).Kept s₀ := by
  simp [State.rxCheck, h]

@[simp] theorem kept_execRxqCompletion (h : s.Kept s₀) (e : Fin 32) : (execRxqCompletion e s).Kept s₀ := by
  simp [execRxqCompletion]
  (repeat' split) <;> simp (maxDischargeDepth := 15) [h]

@[simp] theorem kept_execDmaCompletion (h : s.Kept s₀) (e : Fin 32) (tag : Fin 16) (bad : Bool) :
    (execDmaCompletion e tag bad s).Kept s₀ := by
  unfold execDmaCompletion
  (repeat' split) <;> simp (maxDischargeDepth := 15) [h]

@[simp] theorem kept_execOpwait (h : s.Kept s₀) (i : Issue) : (execOpwait i s).Kept s₀ := by
  unfold execOpwait
  refine kept_instr h _ _ _ fun t e w ht => ?_
  dsimp only
  repeat' (first | (simp +contextual [ht]; done) | split)

/-! ### Machine/SwitchOps.lean -/

@[simp] theorem kept_setSwPort (h : s.Kept s₀) (n : Nat) (p : SwPort) : (s.setSwPort n p).Kept s₀ := by
  exact ⟨by simp [h.1], fun hw => by simp [h.2 hw]⟩

@[simp] theorem kept_setQueue (h : s.Kept s₀) (n : Nat) (c : Nat) (q : List Copy) : (s.setQueue n c q).Kept s₀ := by
  exact h

@[simp] theorem kept_setFrame (h : s.Kept s₀) (fid : Nat) (f : Frame) : (s.setFrame fid f).Kept s₀ := by
  exact h

@[simp] theorem kept_newFrame (h : s.Kept s₀) (f : Frame) : (s.newFrame f).2.Kept s₀ := by
  exact h

@[simp] theorem kept_setMaxLen (h : s.Kept s₀) (n : Nat) (w : BitVec 16) : (s.setMaxLen n w).Kept s₀ := by
  exact h

@[simp] theorem kept_learn (h : s.Kept s₀) (n : Nat) (a : BitVec 48) (vid : Nat) : (s.learn n a vid).Kept s₀ := by
  unfold State.learn
  split <;> simp [h]

/-- The meter with its scale of 32,000,000 units per byte as a variable. -/
def State.meterBy (scale : Nat) (s : State) (i len : Nat) (aware pre : Bool) : Nat × State :=
  match s.swRec 0x0304 i with
  | none => (bit pre, s)
  | some r =>
    let cbs := rdLE r.body 8 4 * scale
    let pbs := rdLE r.body 12 4 * scale
    let st := s.sw.meters.get { tc := cbs, tp := pbs, at_ := s.sys.mono } i
    let dt := s.sys.mono - st.at_
    let tc := min cbs (st.tc + dt * rdLE r.body 0 4)
    let tp := min pbs (st.tp + dt * rdLE r.body 4 4)
    let b := len * scale
    let (col, tc, tp) :=
      if tp < b then (2, tc, tp)
      else if (aware && pre) || tc < b then (1, tc, tp - b)
      else (0, tc - b, tp - b)
    (col, { s with sw := { s.sw with meters := s.sw.meters.set i { tc := tc, tp := tp, at_ := s.sys.mono } } })

theorem meter_eq (i len : Nat) (aware pre : Bool) : s.meter i len aware pre = s.meterBy 32000000 i len aware pre :=
    rfl

@[simp] theorem kept_meterBy (h : s.Kept s₀) (scale i len : Nat) (aware pre : Bool) :
    (s.meterBy scale i len aware pre).2.Kept s₀ := by
  unfold State.meterBy
  split
  · exact h
  · dsimp only
    split <;> exact kept_with.2 h

@[simp] theorem kept_meter (h : s.Kept s₀) (i : Nat) (len : Nat) (aware : Bool) (pre : Bool) :
    (s.meter i len aware pre).2.Kept s₀ := by
  rw [meter_eq]
  exact kept_meterBy h 32000000 i len aware pre

@[simp] theorem kept_capWrite (h : s.Kept s₀) (rec_ : List Byte) : (s.capWrite rec_).Kept s₀ := by
  unfold State.capWrite
  dsimp only
  split
  · exact h
  · split
    · exact h
    · refine ⟨h.1, fun hw => ?_⟩
      obtain ⟨hnvm, hbank, hsvc, hcap, hdram⟩ := (mems_wf_iff _).1 (h.2 hw)
      split
      · exact (mems_wf_iff _).2 ⟨hnvm, hbank, hsvc, hcap, Mem.wf_writeBytes hdram _ _⟩
      · exact (mems_wf_iff _).2 ⟨hnvm, hbank, hsvc, Mem.wf_writeBytes hcap _ _, hdram⟩

@[simp] theorem kept_capture (h : s.Kept s₀) (f : Frame) : (s.capture f).Kept s₀ := by
  simp +contextual [State.capture, h]

@[simp] theorem kept_tryRelease (h : s.Kept s₀) (fid : Nat) : (s.tryRelease fid).Kept s₀ := by
  simp [State.tryRelease]
  (repeat' split) <;> simp [h]

@[simp] theorem kept_dropCells (h : s.Kept s₀) (p : CellTx → Bool) : (s.dropCells p).Kept s₀ := by
  exact h

@[simp] theorem kept_copyGone (h : s.Kept s₀) (fid : Nat) (why : Option Nat) : (s.copyGone fid why).Kept s₀ := by
  unfold State.copyGone
  split <;> simp (maxDischargeDepth := 15) [h]

@[simp] theorem kept_dropCopy (h : s.Kept s₀) (n : Nat) (c : Nat) (x : Copy) (why : Option Nat) :
    (s.dropCopy n c x why).Kept s₀ := by
  simp (maxDischargeDepth := 15) [State.dropCopy, h]

@[simp] theorem kept_redDrop (h : s.Kept s₀) (n : Nat) (c : Nat) (d : Dest) : (s.redDrop n c d).2.Kept s₀ := by
  simp [State.redDrop, h]

@[simp] theorem kept_evictUntil (h : s.Kept s₀) (n : Nat) (cls : Nat) (ok : State → Bool) (x0 : Nat) :
    KeptOpt s₀ (s.evictUntil n cls ok x0) := by
  induction x0 generalizing s with
  | zero => trivial
  | succ k ih =>
    unfold State.evictUntil
    split
    · exact h
    · split
      · trivial
      · exact ih (kept_dropCopy (kept_setSwPort h _ _) _ _ _ _)

@[simp] theorem kept_refuseAt (h : s.Kept s₀) (fid : Nat) (n : Nat) (why : Nat) : (s.refuseAt fid n why).Kept s₀ := by
  simp [State.refuseAt]
  split <;> simp [h]

@[simp] theorem kept_sendCells (h : s.Kept s₀) (fid : Nat) (src : Nat) (out : Nat) (cells : Nat) :
    (s.sendCells fid src out cells).Kept s₀ := by
  exact h

@[simp] theorem kept_takeIn (h : s.Kept s₀) (fid : Nat) (n : Nat) (c : Nat) (cells : Nat) (ct : Bool) :
    (s.takeIn fid n c cells ct).Kept s₀ := by
  unfold State.takeIn
  split <;> simp (maxDischargeDepth := 15) [h]

@[simp] theorem kept_judgeAt (h : s.Kept s₀) (fid : Nat) (d : Dest) (cells : Nat) (ct : Bool) :
    (s.judgeAt fid d cells ct).Kept s₀ := by
  unfold State.judgeAt
  split
  · exact h
  · next f _ =>
    have hred := kept_redDrop h d.port f.cls d
    dsimp only
    split
    · exact kept_refuseAt h _ _ _
    · generalize s.redDrop d.port f.cls d = r at hred
      obtain ⟨dropped, t⟩ := r
      dsimp only at hred ⊢
      split
      · exact kept_refuseAt hred _ _ _
      · split
        · exact kept_refuseAt hred _ _ _
        · split
          · exact kept_takeIn hred _ _ _ _ _
          · split
            · have he := kept_evictUntil hred d.port f.cls (fun s => s.portUse d.port + cells ≤ s.portMax d.port &&
                s.poolUsed + s.poolNeed d.port f.cls cells f.pool ≤ s.poolSize)
                (1 + (t.sw.queue.map (fun p => p.2.length)).foldl (· + ·) 0)
              split
              · next u hu =>
                rw [hu] at he
                exact kept_takeIn he _ _ _ _ _
              · exact kept_refuseAt hred _ _ _
            · exact kept_refuseAt hred _ _ _

@[simp] theorem kept_sendFrames (h : s.Kept s₀) (l : List (Frame × Dest)) : (s.sendFrames l).Kept s₀ := by
  unfold State.sendFrames
  exact kept_foldl (fun t x ht => kept_tryRelease ht _) (kept_foldl (fun t x ht => kept_judgeAt ht _ _ _ _)
    (kept_foldl_snd (fun b x hb => kept_newFrame hb x.1) h))

@[simp] theorem kept_judgeCluster (h : s.Kept s₀) (fid : Nat) (f : Frame) (x : RxFrame) :
    (s.judgeCluster fid f x).Kept s₀ := by
  unfold State.judgeCluster
  split <;> simp (maxDischargeDepth := 15) [h]

/-! ### Machine/ChiveOps.lean -/

@[simp] theorem kept_setCe (h : s.Kept s₀) (e : Nat) (x : CeEng) : (s.setCe e x).Kept s₀ := by
  exact ⟨by simp [h.1], fun hw => by simp [h.2 hw]⟩

@[simp] theorem kept_setGrp (h : s.Kept s₀) (g : Nat) (x : CeGroup) : (s.setGrp g x).Kept s₀ := by
  exact ⟨by simp [h.1], fun hw => by simp [h.2 hw]⟩

@[simp] theorem kept_setCpin (h : s.Kept s₀) (p : Nat) (x : CePin) : (s.setCpin p x).Kept s₀ := by
  exact ⟨by simp [h.1], fun hw => by simp [h.2 hw]⟩

@[simp] theorem kept_setLine (h : s.Kept s₀) (l : Nat) (x : Line) : (s.setLine l x).Kept s₀ := by
  exact ⟨by simp [h.1], fun hw => by simp [h.2 hw]⟩

@[simp] theorem kept_chvEvent (h : s.Kept s₀) (b : Nat) : (s.chvEvent b).Kept s₀ := by
  exact h

@[simp] theorem kept_pinEdge (h : s.Kept s₀) (p : Nat) (v : Bool) (stamp : DWord) : (s.pinEdge p v stamp).Kept s₀
    := by
  simp [State.pinEdge]
  (repeat' split) <;> simp [h]

@[simp] theorem kept_setLevel (h : s.Kept s₀) (p : Nat) (v : Bool) : (s.setLevel p v).Kept s₀ := by
  simp [State.setLevel, h]

@[simp] theorem kept_setDir (h : s.Kept s₀) (p : Nat) (v : Bool) : (s.setDir p v).Kept s₀ := by
  simp [State.setDir, h]

@[simp] theorem kept_driveOut (h : s.Kept s₀) (p : Nat) (v : Bool) : (s.driveOut p v).Kept s₀ := by
  simp [State.driveOut, h]

@[simp] theorem kept_outStage (h : s.Kept s₀) (p : Nat) (v : Bool) : (s.outStage p v).Kept s₀ := by
  simp [State.outStage, h]

@[simp] theorem kept_applyChange (h : s.Kept s₀) (e : Nat) (c : PinChange) : (s.applyChange e c).Kept s₀ := by
  unfold State.applyChange
  split <;> simp [h]

@[simp] theorem kept_chvPut (h : s.Kept s₀) (point : Nat) (v : DWord) (eid : Nat) (stamp : DWord) :
    (s.chvPut point v eid stamp).2.Kept s₀ := by
  simp [State.chvPut, h]

@[simp] theorem kept_pointStage (h : s.Kept s₀) (pin : Nat) (level : Bool) (stamp : DWord) :
    (s.pointStage pin level stamp).2.Kept s₀ := by
  simp [State.pointStage]
  (repeat' split) <;> simp [h]

@[simp] theorem kept_lineFeed (h : s.Kept s₀) (l : Nat) (x0 : Nat) : (s.lineFeed l x0).Kept s₀ := by
  induction x0 generalizing s with
  | zero => exact h
  | succ n ih =>
    unfold State.lineFeed
    split
    · split
      · exact h
      · dsimp only
        split
        · exact ih (kept_setLine (kept_setCe h _ _) _ _)
        · exact h
    · exact h

@[simp] theorem kept_lineTxDone (h : s.Kept s₀) (t : LineTx) (status : Nat) (stamp : Option DWord) :
    (s.lineTxDone t status stamp).Kept s₀ := by
  exact h

@[simp] theorem kept_lineStart (h : s.Kept s₀) (l : Nat) : (s.lineStart l).Kept s₀ := by
  simp [State.lineStart]
  split <;> simp [h]

@[simp] theorem kept_lineFail (h : s.Kept s₀) (l : Nat) : (s.lineFail l).Kept s₀ := by
  simp (maxDischargeDepth := 15) +contextual [State.lineFail, kept_foldl, h]

@[simp] theorem kept_lineSend (h : s.Kept s₀) (e : Nat) (tag : Nat) (l : Nat) (b : List Byte) :
    (s.lineSend e tag l b).Kept s₀ := by
  simp [State.lineSend]
  split <;> simp [h]

@[simp] theorem kept_lineSent (h : s.Kept s₀) (l : Nat) : (s.lineSent l).Kept s₀ := by
  simp [State.lineSent]
  split <;> simp (maxDischargeDepth := 15) [h]

@[simp] theorem kept_ceFault (h : s.Kept s₀) (e : Nat) (w : Nat) (reason : Nat) : (s.ceFault e w reason).Kept s₀ := by
  simp (maxDischargeDepth := 15) [State.ceFault, h]

@[simp] theorem kept_ceNext (h : s.Kept s₀) (e : Nat) : (s.ceNext e).Kept s₀ := by
  simp [State.ceNext, h]

@[simp] theorem kept_ceTick (h : s.Kept s₀) (e : Nat) (row : CeRow) (f : State → Nat → CeEff) (hf : ∀ t w,
    t.Kept s₀ → (f t w).Kept s₀) :
    (s.ceTick e row f).Kept s₀ := by
  unfold State.ceTick
  dsimp only
  split
  · exact h
  · split
    · exact kept_ceFault h _ _ _
    · split
      · exact h
      · split
        · exact kept_ceFault h _ _ _
        · have hact := hf s (s.ceFetch e) h
          split
          · next t ht => rw [ht] at hact; exact kept_ceNext hact e
          · next t _ ht => rw [ht] at hact; exact kept_setCe hact _ _
          · next t ht => rw [ht] at hact; exact kept_setCe hact _ _
          · exact kept_ceFault h _ _ _

@[simp] theorem kept_ceInstr (h : s.Kept s₀) (e : Fin 32) (row : CeRow) (f : State → Nat → CeEff) (hf : ∀ t w,
    t.Kept s₀ → (f t w).Kept s₀) :
    (s.ceInstr e row f).Kept s₀ := by
  simp (maxDischargeDepth := 15) +contextual [State.ceInstr, hf, h]

/-! ### Machine/Chive.lean -/

@[simp] theorem kept_execSetv (h : s.Kept s₀) (e : Fin 32) : (execSetv e s).Kept s₀ := by
  simp +contextual [execSetv, h]

@[simp] theorem kept_ceAlu (h : s.Kept s₀) (e : Fin 32) (op : Nat) (src : Bool) (imm : Nat) (f : CeEng → Word →
    Word → Nat → Word) :
    (s.ceAlu e op src imm f).Kept s₀ := by
  simp +contextual [State.ceAlu, h]

@[simp] theorem kept_execChiveAdd (h : s.Kept s₀) (e : Fin 32) : (execChiveAdd e s).Kept s₀ := by
  simp [execChiveAdd, h]

@[simp] theorem kept_execChiveSub (h : s.Kept s₀) (e : Fin 32) : (execChiveSub e s).Kept s₀ := by
  simp [execChiveSub, h]

@[simp] theorem kept_execChiveAddi (h : s.Kept s₀) (e : Fin 32) : (execChiveAddi e s).Kept s₀ := by
  simp [execChiveAddi, h]

@[simp] theorem kept_execChiveSubi (h : s.Kept s₀) (e : Fin 32) : (execChiveSubi e s).Kept s₀ := by
  simp [execChiveSubi, h]

@[simp] theorem kept_execChiveAnd (h : s.Kept s₀) (e : Fin 32) : (execChiveAnd e s).Kept s₀ := by
  simp [execChiveAnd, h]

@[simp] theorem kept_execChiveOr (h : s.Kept s₀) (e : Fin 32) : (execChiveOr e s).Kept s₀ := by
  simp [execChiveOr, h]

@[simp] theorem kept_execChiveXor (h : s.Kept s₀) (e : Fin 32) : (execChiveXor e s).Kept s₀ := by
  simp [execChiveXor, h]

@[simp] theorem kept_execChiveMov (h : s.Kept s₀) (e : Fin 32) : (execChiveMov e s).Kept s₀ := by
  simp [execChiveMov, h]

@[simp] theorem kept_execShri (h : s.Kept s₀) (e : Fin 32) : (execShri e s).Kept s₀ := by
  simp [execShri, h]

@[simp] theorem kept_execShli (h : s.Kept s₀) (e : Fin 32) : (execShli e s).Kept s₀ := by
  simp [execShli, h]

@[simp] theorem kept_execChiveOri (h : s.Kept s₀) (e : Fin 32) : (execChiveOri e s).Kept s₀ := by
  simp [execChiveOri, h]

@[simp] theorem kept_execLdk (h : s.Kept s₀) (e : Fin 32) : (execLdk e s).Kept s₀ := by
  simp [execLdk, h]

@[simp] theorem kept_execChiveAndi (h : s.Kept s₀) (e : Fin 32) : (execChiveAndi e s).Kept s₀ := by
  simp [execChiveAndi, h]

@[simp] theorem kept_drive (h : s.Kept s₀) (e : Nat) (timed : Bool) (c : PinChange) : (s.drive e timed c).Kept s₀
    := by
  simp [State.drive, h]

@[simp] theorem kept_execDriveLevel (h : s.Kept s₀) (e : Fin 32) : (execDriveLevel e s).Kept s₀ := by
  unfold execDriveLevel
  refine kept_ceInstr h _ _ _ fun t w ht => ?_
  repeat' (first | (simp +contextual [ht]; done) | split)

@[simp] theorem kept_execDriveDirection (h : s.Kept s₀) (e : Fin 32) : (execDriveDirection e s).Kept s₀ := by
  unfold execDriveDirection
  refine kept_ceInstr h _ _ _ fun t w ht => ?_
  repeat' (first | (simp +contextual [ht]; done) | split)

@[simp] theorem kept_execDrivePpsOut (h : s.Kept s₀) (e : Fin 32) : (execDrivePpsOut e s).Kept s₀ := by
  simp +contextual [execDrivePpsOut, h]

@[simp] theorem kept_execDriveIndexed (h : s.Kept s₀) (e : Fin 32) : (execDriveIndexed e s).Kept s₀ := by
  simp +contextual [execDriveIndexed, h]

@[simp] theorem kept_execSenseShift (h : s.Kept s₀) (e : Fin 32) : (execSenseShift e s).Kept s₀ := by
  unfold execSenseShift
  refine kept_ceInstr h _ _ _ fun t w ht => ?_
  dsimp only
  repeat' (first | (simp +contextual [ht]; done) | split)

@[simp] theorem kept_execSenseLevel (h : s.Kept s₀) (e : Fin 32) : (execSenseLevel e s).Kept s₀ := by
  unfold execSenseLevel
  refine kept_ceInstr h _ _ _ fun t w ht => ?_
  repeat' (first | (simp +contextual [ht]; done) | split)

@[simp] theorem kept_execSenseAll (h : s.Kept s₀) (e : Fin 32) : (execSenseAll e s).Kept s₀ := by
  simp +contextual [execSenseAll, h]

@[simp] theorem kept_ceTime (h : s.Kept s₀) (e : Fin 32) (kind : Nat) (f : State → CeEng → Nat → Nat → CeEng) :
    (s.ceTime e kind f).Kept s₀ := by
  simp +contextual [State.ceTime, h]

@[simp] theorem kept_execTimeAdd (h : s.Kept s₀) (e : Fin 32) : (execTimeAdd e s).Kept s₀ := by
  simp [execTimeAdd, h]

@[simp] theorem kept_execTimeNow (h : s.Kept s₀) (e : Fin 32) : (execTimeNow e s).Kept s₀ := by
  simp [execTimeNow, h]

@[simp] theorem kept_execTimeFromStamp (h : s.Kept s₀) (e : Fin 32) : (execTimeFromStamp e s).Kept s₀ := by
  simp [execTimeFromStamp, h]

@[simp] theorem kept_execTimeRead (h : s.Kept s₀) (e : Fin 32) : (execTimeRead e s).Kept s₀ := by
  simp [execTimeRead, h]

@[simp] theorem kept_execTimeWrite (h : s.Kept s₀) (e : Fin 32) : (execTimeWrite e s).Kept s₀ := by
  simp [execTimeWrite, h]

@[simp] theorem kept_execAwaitTime (h : s.Kept s₀) (e : Fin 32) : (execAwaitTime e s).Kept s₀ := by
  simp +contextual [execAwaitTime, h]

@[simp] theorem kept_execAwaitLevel (h : s.Kept s₀) (e : Fin 32) : (execAwaitLevel e s).Kept s₀ := by
  unfold execAwaitLevel
  refine kept_ceInstr h _ _ _ fun t w ht => ?_
  repeat' (first | (simp +contextual [ht]; done) | split)

@[simp] theorem kept_execAwaitEdge (h : s.Kept s₀) (e : Fin 32) : (execAwaitEdge e s).Kept s₀ := by
  unfold execAwaitEdge
  refine kept_ceInstr h _ _ _ fun t w ht => ?_
  repeat' (first | (simp +contextual [ht]; done) | split)

@[simp] theorem kept_execAwaitFlag (h : s.Kept s₀) (e : Fin 32) : (execAwaitFlag e s).Kept s₀ := by
  simp +contextual [execAwaitFlag, h]

@[simp] theorem kept_execAwaitInstant (h : s.Kept s₀) (e : Fin 32) : (execAwaitInstant e s).Kept s₀ := by
  unfold execAwaitInstant
  refine kept_ceInstr h _ _ _ fun t w ht => ?_
  dsimp only
  repeat' (first | (simp +contextual [ht]; done) | split)

@[simp] theorem kept_execAwaitChange (h : s.Kept s₀) (e : Fin 32) : (execAwaitChange e s).Kept s₀ := by
  unfold execAwaitChange
  refine kept_ceInstr h _ _ _ fun t w ht => ?_
  dsimp only
  repeat' (first | (simp +contextual [ht]; done) | split)

@[simp] theorem kept_execAwaitOutFifo (h : s.Kept s₀) (e : Fin 32) : (execAwaitOutFifo e s).Kept s₀ := by
  simp +contextual [execAwaitOutFifo, h]

@[simp] theorem kept_execChiveBranch (h : s.Kept s₀) (e : Fin 32) : (execChiveBranch e s).Kept s₀ := by
  simp +contextual [execChiveBranch, h]

@[simp] theorem kept_execStamp (h : s.Kept s₀) (e : Fin 32) : (execStamp e s).Kept s₀ := by
  unfold execStamp
  refine kept_ceInstr h _ _ _ fun t w ht => ?_
  dsimp only
  repeat' (first | (simp +contextual [ht]; done) | split)

@[simp] theorem kept_loadEdge (h : s.Kept s₀) (e : Nat) : (s.loadEdge e).Kept s₀ := by
  simp [State.loadEdge]
  (repeat' split) <;> simp [h]

@[simp] theorem kept_execXferTake (h : s.Kept s₀) (e : Fin 32) : (execXferTake e s).Kept s₀ := by
  unfold execXferTake
  refine kept_ceInstr h _ _ _ fun t w ht => ?_
  dsimp only
  repeat' (first | (simp (maxDischargeDepth := 15) +contextual [ht]; done) | split)

@[simp] theorem kept_giveSink (h : s.Kept s₀) (e : Nat) (v : Word) : (s.giveSink e v).2.Kept s₀ := by
  simp [State.giveSink]
  (repeat' split) <;> simp [h]

@[simp] theorem kept_execXferGive (h : s.Kept s₀) (e : Fin 32) : (execXferGive e s).Kept s₀ := by
  simp +contextual [execXferGive, h]

@[simp] theorem kept_execFlagSet (h : s.Kept s₀) (e : Fin 32) : (execFlagSet e s).Kept s₀ := by
  simp +contextual [execFlagSet, h]

@[simp] theorem kept_execFlagClear (h : s.Kept s₀) (e : Fin 32) : (execFlagClear e s).Kept s₀ := by
  simp +contextual [execFlagClear, h]

@[simp] theorem kept_execFlagSig (h : s.Kept s₀) (e : Fin 32) : (execFlagSig e s).Kept s₀ := by
  simp +contextual [execFlagSig, h]

@[simp] theorem kept_execChiveReservedOpcode (h : s.Kept s₀) (e : Fin 32) : (execChiveReservedOpcode e s).Kept s₀
    := by
  simp [execChiveReservedOpcode, h]

/-! ### Machine/Tt.lean -/

@[simp] theorem kept_execScheduleLoad (h : s.Kept s₀) (q : Req) : (execScheduleLoad q s).Kept s₀ := by
  simp (maxDischargeDepth := 15) +contextual [execScheduleLoad, h]

@[simp] theorem kept_execScheduleSwapRequest (h : s.Kept s₀) (q : Req) : (execScheduleSwapRequest q s).Kept s₀ := by
  unfold execScheduleSwapRequest
  split
  · refine kept_done (kept_serve h _ _ _ _ fun t ht => ?_)
    dsimp only
    repeat' (first | (simp +contextual [ht]; done) | split)
  · exact h

@[simp] theorem kept_swapUnit (h : s.Kept s₀) (u : Nat) : (s.swapUnit u).Kept s₀ := by
  exact h

@[simp] theorem kept_execScheduleSwap (h : s.Kept s₀) (chan : Option (Fin 16)) : (execScheduleSwap chan s).Kept s₀
    := by
  unfold execScheduleSwap
  split <;> simp (maxDischargeDepth := 15) +contextual [kept_foldl, h]

@[simp] theorem kept_execGateEntryBoundary (h : s.Kept s₀) (p : Fin 64) : (execGateEntryBoundary p s).Kept s₀ := by
  simp [execGateEntryBoundary, h]

@[simp] theorem kept_execTtResume (h : s.Kept s₀) (p : Fin 64) : (execTtResume p s).Kept s₀ := by
  simp (maxDischargeDepth := 15) [execTtResume, h]

@[simp] theorem kept_execGuardCut (h : s.Kept s₀) (p : Fin 64) : (execGuardCut p s).Kept s₀ := by
  simp (maxDischargeDepth := 15) [execGuardCut, h]

@[simp] theorem kept_execGuardianRearm (h : s.Kept s₀) : (execGuardianRearm s).Kept s₀ := by
  simp [execGuardianRearm, h]

/-! ### Machine/CanOps.lean -/

@[simp] theorem kept_setChan (h : s.Kept s₀) (c : Nat) (x : CanChan) : (s.setChan c x).Kept s₀ := by
  exact ⟨by simp [h.1], fun hw => by simp [h.2 hw]⟩

@[simp] theorem kept_canEvent (h : s.Kept s₀) (c : Nat) (b : Nat) : (s.canEvent c b).Kept s₀ := by
  exact h

@[simp] theorem kept_canCount (h : s.Kept s₀) (c : Nat) (i : Nat) : (s.canCount c i).Kept s₀ := by
  exact h

@[simp] theorem kept_setCobj (h : s.Kept s₀) (c : Nat) (k : Nat) (o : CanObj) : (s.setCobj c k o).Kept s₀ := by
  exact h

@[simp] theorem kept_canPut (h : s.Kept s₀) (c : Nat) (k : Nat) (v : DWord) (q : Word) (stamp : DWord) :
    (s.canPut c k v q stamp).Kept s₀ := by
  unfold State.canPut
  split <;> simp (maxDischargeDepth := 15) [h]

@[simp] theorem kept_enterAwake (h : s.Kept s₀) (c : Nat) : (s.enterAwake c).Kept s₀ := by
  exact h

@[simp] theorem kept_enterWaking (h : s.Kept s₀) (c : Nat) : (s.enterWaking c).Kept s₀ := by
  exact h

@[simp] theorem kept_wakeEvent (h : s.Kept s₀) (c : Nat) (b : Nat) (hard : Bool) (stamp : DWord) :
    (s.wakeEvent c b hard stamp).Kept s₀ := by
  simp [State.wakeEvent]
  split <;> simp (maxDischargeDepth := 15) [h]

@[simp] theorem kept_localWake (h : s.Kept s₀) (c : Nat) (before : Bool) (host : Bool) :
    (s.localWake c before host).Kept s₀ := by
  simp [State.localWake, h]

@[simp] theorem kept_relayOne (h : s.Kept s₀) (c : Nat) : (s.relayOne c).Kept s₀ := by
  unfold State.relayOne
  split <;> simp (maxDischargeDepth := 15) [h]

@[simp] theorem kept_relayUpTo (h : s.Kept s₀) (c : Nat) (x0 : Nat) : (s.relayUpTo c x0).Kept s₀ := by
  induction x0 generalizing s with
  | zero => exact h
  | succ n ih => exact ih (kept_relayOne h _)

@[simp] theorem kept_relayAll (h : s.Kept s₀) : s.relayAll.Kept s₀ := by
  simp +contextual [State.relayAll, kept_foldl, h]

@[simp] theorem kept_holdNow (h : s.Kept s₀) (c : Nat) : (s.holdNow c).Kept s₀ := by
  simp [State.holdNow, h]

@[simp] theorem kept_canSettle (h : s.Kept s₀) : s.canSettle.Kept s₀ := by
  simp +contextual [State.canSettle, kept_foldl, h]

@[simp] theorem kept_canDone (h : s.Kept s₀) : s.canDone.Kept s₀ := by
  simp [State.canDone, h]

@[simp] theorem kept_trigger (h : s.Kept s₀) (c : Nat) (k : Nat) : (s.trigger c k).Kept s₀ := by
  simp [State.trigger, h]

@[simp] theorem kept_retireObj (h : s.Kept s₀) (c : Nat) (k : Nat) (status : Nat) : (s.retireObj c k status).Kept
    s₀ := by
  exact h

@[simp] theorem kept_attemptFails (h : s.Kept s₀) (c : Nat) : (s.attemptFails c).Kept s₀ := by
  simp [State.attemptFails]
  (repeat' split) <;> simp (maxDischargeDepth := 15) [h]

@[simp] theorem kept_canSent (h : s.Kept s₀) (c : Nat) (m : CanMsg) (stamp : DWord) : (s.canSent c m stamp).Kept s₀
    := by
  exact h

@[simp] theorem kept_canStates (h : s.Kept s₀) (c : Nat) (old : CanChan) : (s.canStates c old).Kept s₀ := by
  simp (maxDischargeDepth := 15) [State.canStates, h]

@[simp] theorem kept_recGood (h : s.Kept s₀) (c : Nat) : (s.recGood c).Kept s₀ := by
  simp [State.recGood, h]

@[simp] theorem kept_errCounters (h : s.Kept s₀) (c : Nat) (e : CanErr) : (s.errCounters c e).Kept s₀ := by
  simp [State.errCounters, h]

@[simp] theorem kept_clash (h : s.Kept s₀) (c : Nat) (k : Nat) (t : CanTx) : (s.clash c k t).Kept s₀ := by
  simp (maxDischargeDepth := 15) [State.clash, h]

@[simp] theorem kept_chanResume (h : s.Kept s₀) (c : Nat) : (s.chanResume c).Kept s₀ := by
  simp [State.chanResume, h]

@[simp] theorem kept_reference (h : s.Kept s₀) (c : Nat) (prio : Nat) (count : Nat) (own : Bool) (stamp : DWord) :
    (s.reference c prio count own stamp).Kept s₀ := by
  simp (maxDischargeDepth := 15) [State.reference, h]

@[simp] theorem kept_cutChan (h : s.Kept s₀) (c : Nat) : (s.cutChan c).Kept s₀ := by
  simp [State.cutChan, h]

@[simp] theorem kept_closeChans (h : s.Kept s₀) : s.closeChans.Kept s₀ := by
  simp (maxDischargeDepth := 15) +contextual [State.closeChans, kept_foldl, h]

/-! ### Machine/Can.lean -/

@[simp] theorem kept_placeFrame (h : s.Kept s₀) (c : Nat) (k : Nat) (m : CanMsg) (stamp : DWord) :
    (s.placeFrame c k m stamp).Kept s₀ := by
  simp (maxDischargeDepth := 15) [State.placeFrame, h]

@[simp] theorem kept_nmHear (h : s.Kept s₀) (c : Nat) (m : CanMsg) (stamp : DWord) : (s.nmHear c m stamp).Kept s₀
    := by
  simp [State.nmHear, h]

@[simp] theorem kept_canError (h : s.Kept s₀) (c : Nat) (e : CanErr) : (s.canError c e).Kept s₀ := by
  simp [State.canError]
  (repeat' split) <;> simp (maxDischargeDepth := 15) [h]

@[simp] theorem kept_canTake (h : s.Kept s₀) (c : Nat) (m : CanMsg) (stamp : DWord) : (s.canTake c m stamp).Kept s₀
    := by
  simp [State.canTake]
  (repeat' split) <;> simp (maxDischargeDepth := 15) [h]

@[simp] theorem kept_execCanFrameReceive (h : s.Kept s₀) (c : Fin 16) (m : CanMsg) (edge : DWord) :
    (execCanFrameReceive c m edge s).Kept s₀ := by
  simp [execCanFrameReceive]
  (repeat' split) <;> simp [h]

@[simp] theorem kept_canStart (h : s.Kept s₀) (c : Nat) (a : CanCand) (stamp : DWord) : (s.canStart c a stamp).Kept
    s₀ := by
  exact h

@[simp] theorem kept_execArbitration (h : s.Kept s₀) (c : Fin 16) (edge : DWord) : (execArbitration c edge s).Kept
    s₀ := by
  simp [execArbitration]
  (repeat' split) <;> simp (maxDischargeDepth := 15) [h]

@[simp] theorem kept_objSent (h : s.Kept s₀) (c : Nat) (k : Nat) (status : Nat) (own : Bool) (t : CanTx) :
    (s.objSent c k status own t).Kept s₀ := by
  simp [State.objSent, h]

@[simp] theorem kept_recovDone (h : s.Kept s₀) (c : Nat) (k : Nat) (t : CanTx) : (s.recovDone c k t).Kept s₀ := by
  simp [State.recovDone, h]

@[simp] theorem kept_execCanTransmitComplete (h : s.Kept s₀) (c : Fin 16) (delay : BitVec 8) :
    (execCanTransmitComplete c delay s).Kept s₀ := by
  simp [execCanTransmitComplete]
  (repeat' split) <;> simp (maxDischargeDepth := 15) [h]

@[simp] theorem kept_execCanError (h : s.Kept s₀) (c : Fin 16) (e : CanErr) : (execCanError c e s).Kept s₀ := by
  simp [execCanError, h]

@[simp] theorem kept_execBusOffRecoveryComplete (h : s.Kept s₀) (c : Fin 16) : (execBusOffRecoveryComplete c
    s).Kept s₀ := by
  simp (maxDischargeDepth := 15) [execBusOffRecoveryComplete, h]

@[simp] theorem kept_canRecover (h : s.Kept s₀) (c : Nat) : (s.canRecover c).Kept s₀ := by
  simp [State.canRecover, h]

@[simp] theorem kept_canWakeReq (h : s.Kept s₀) (c : Nat) : (s.canWakeReq c).Kept s₀ := by
  simp [State.canWakeReq, h]

@[simp] theorem kept_canSleepOk (h : s.Kept s₀) (c : Nat) : (s.canSleepOk c).Kept s₀ := by
  exact h

@[simp] theorem kept_canClear (h : s.Kept s₀) (c : Nat) : (s.canClear c).Kept s₀ := by
  exact h

@[simp] theorem kept_execCanRecover (h : s.Kept s₀) (c : Fin 16) : (execCanRecover c s).Kept s₀ := by
  simp [execCanRecover, h]

@[simp] theorem kept_execCanCounterClear (h : s.Kept s₀) (c : Fin 16) : (execCanCounterClear c s).Kept s₀ := by
  simp [execCanCounterClear, h]

@[simp] theorem kept_execWakeReq (h : s.Kept s₀) (c : Fin 16) : (execWakeReq c s).Kept s₀ := by
  simp [execWakeReq, h]

@[simp] theorem kept_execSleepOk (h : s.Kept s₀) (c : Fin 16) : (execSleepOk c s).Kept s₀ := by
  simp [execSleepOk, h]

@[simp] theorem kept_canCancel (h : s.Kept s₀) (c : Nat) (k : Nat) : (s.canCancel c k).Kept s₀ := by
  simp [State.canCancel, h]

@[simp] theorem kept_execCanCancel (h : s.Kept s₀) (c : Fin 16) (k : Fin 64) : (execCanCancel c k s).Kept s₀ := by
  simp [execCanCancel, h]

@[simp] theorem kept_canTxReq (h : s.Kept s₀) (c : Nat) (k : Nat) : (s.canTxReq c k).Kept s₀ := by
  simp [State.canTxReq, h]

@[simp] theorem kept_execCanTxReq (h : s.Kept s₀) (c : Fin 16) (k : Fin 64) : (execCanTxReq c k s).Kept s₀ := by
  simp [execCanTxReq, h]

@[simp] theorem kept_canRelease (h : s.Kept s₀) (c : Nat) : (s.canRelease c).Kept s₀ := by
  simp [State.canRelease, h]

@[simp] theorem kept_canSelect (h : s.Kept s₀) (c : Nat) (valid : Bool) (k : BitVec 6) : (s.canSelect c valid
    k).Kept s₀ := by
  simp [State.canSelect, h]

@[simp] theorem kept_execCanObjSel (h : s.Kept s₀) (c : Fin 16) (valid : Bool) (k : Fin 64) :
    (execCanObjSel c valid k s).Kept s₀ := by
  simp [execCanObjSel, h]

@[simp] theorem kept_canDataWrite (h : s.Kept s₀) (c : Nat) (i : Nat) (w : Word) : (s.canDataWrite c i w).Kept s₀
    := by
  simp [State.canDataWrite, h]

@[simp] theorem kept_execCanObjDataWrite (h : s.Kept s₀) (c : Fin 16) (i : Fin 16) (w : Word) :
    (execCanObjDataWrite c i w s).Kept s₀ := by
  simp [execCanObjDataWrite, h]

@[simp] theorem kept_execCanPeriodTrigger (h : s.Kept s₀) (c : Fin 16) (k : Fin 64) :
    (execCanPeriodTrigger c k s).Kept s₀ := by
  simp (maxDischargeDepth := 15) [execCanPeriodTrigger, h]

@[simp] theorem kept_lastValue (h : s.Kept s₀) (c : Nat) (k : Nat) : (s.lastValue c k).2.Kept s₀ := by
  unfold State.lastValue
  split <;> simp [h]

@[simp] theorem kept_execCanRxTimeout (h : s.Kept s₀) (c : Fin 16) (k : Fin 64) : (execCanRxTimeout c k s).Kept s₀
    := by
  simp (maxDischargeDepth := 15) [execCanRxTimeout, h]

@[simp] theorem kept_nmSend (h : s.Kept s₀) (c : Nat) (b : Nat) (stamp : DWord) : (s.nmSend c b stamp).Kept s₀ := by
  exact h

@[simp] theorem kept_execNmFrameSend (h : s.Kept s₀) (c : Fin 16) (edge : DWord) : (execNmFrameSend c edge s).Kept
    s₀ := by
  simp (maxDischargeDepth := 15) [execNmFrameSend, h]

@[simp] theorem kept_goPrepare (h : s.Kept s₀) (c : Nat) (forced : Bool) (stamp : DWord) :
    (s.goPrepare c forced stamp).Kept s₀ := by
  exact h

@[simp] theorem kept_execSleepCommand (h : s.Kept s₀) (c : Fin 16) (edge : DWord) : (execSleepCommand c edge
    s).Kept s₀ := by
  simp [execSleepCommand, h]

@[simp] theorem kept_execSleepCommit (h : s.Kept s₀) (c : Fin 16) : (execSleepCommit c s).Kept s₀ := by
  simp (maxDischargeDepth := 15) [execSleepCommit, h]

@[simp] theorem kept_execSleepPatternEnd (h : s.Kept s₀) (c : Fin 16) : (execSleepPatternEnd c s).Kept s₀ := by
  simp [execSleepPatternEnd, h]

@[simp] theorem kept_execWakeEvent (h : s.Kept s₀) (c : Fin 16) (bus : Bool) (nm : Bool) (stamp : DWord) :
    (execWakeEvent c bus nm stamp s).Kept s₀ := by
  simp [execWakeEvent, h]

@[simp] theorem kept_execWakeSettleEnd (h : s.Kept s₀) (c : Fin 16) (edge : DWord) :
    (execWakeSettleEnd c edge s).Kept s₀ := by
  simp (maxDischargeDepth := 15) [execWakeSettleEnd, h]

@[simp] theorem kept_execMaxAwakeExpiry (h : s.Kept s₀) (c : Fin 16) (edge : DWord) :
    (execMaxAwakeExpiry c edge s).Kept s₀ := by
  simp (maxDischargeDepth := 15) [execMaxAwakeExpiry, h]

/-! ### Machine/TtCan.lean -/

@[simp] theorem kept_sendReference (h : s.Kept s₀) (c : Nat) (count : Nat) (stamp : DWord) :
    (s.sendReference c count stamp).Kept s₀ := by
  simp [State.sendReference, h]

@[simp] theorem kept_execReferenceMessageSend (h : s.Kept s₀) (c : Fin 16) (edge : DWord) :
    (execReferenceMessageSend c edge s).Kept s₀ := by
  simp [execReferenceMessageSend, h]

@[simp] theorem kept_execColdStart (h : s.Kept s₀) (c : Fin 16) (edge : DWord) : (execColdStart c edge s).Kept s₀
    := by
  simp (maxDischargeDepth := 15) [execColdStart, h]

@[simp] theorem kept_execRefLost (h : s.Kept s₀) (c : Fin 16) : (execRefLost c s).Kept s₀ := by
  simp (maxDischargeDepth := 15) [execRefLost, h]

@[simp] theorem kept_execCanGuardCut (h : s.Kept s₀) (c : Fin 16) : (execCanGuardCut c s).Kept s₀ := by
  simp (maxDischargeDepth := 15) [execCanGuardCut, h]

@[simp] theorem kept_diffNs (h : s.Kept s₀) (diff : Int) : (s.diffNs diff).2.Kept s₀ := by
  simp [State.diffNs, h]

@[simp] theorem kept_post62Free (h : s.Kept s₀) : s.post62Free.Kept s₀ := by
  simp [State.post62Free, h]

@[simp] theorem kept_fireTrigger (h : s.Kept s₀) (c : Nat) (k : Nat) : (s.fireTrigger c k).Kept s₀ := by
  simp [State.fireTrigger, h]

@[simp] theorem kept_execTimeMark (h : s.Kept s₀) (c : Fin 16) (k : Fin 64) (diff : Int) :
    (execTimeMark c k diff s).Kept s₀ := by
  simp (maxDischargeDepth := 15) [execTimeMark, h]

@[simp] theorem kept_execGuardianCompare (h : s.Kept s₀) (diff : Int) : (execGuardianCompare diff s).Kept s₀ := by
  simp (maxDischargeDepth := 15) [execGuardianCompare, h]

@[simp] theorem kept_unitEcc (h : s.Kept s₀) (u : Fin 80) : (s.unitEcc u).Kept s₀ := by
  simp (maxDischargeDepth := 15) [State.unitEcc, h]

@[simp] theorem kept_execGuardEcc (h : s.Kept s₀) (u : Fin 80) : (execGuardEcc u s).Kept s₀ := by
  simp [execGuardEcc, h]

/-! ### Machine/ChiveIo.lean -/

@[simp] theorem kept_execPinEdge (h : s.Kept s₀) (p : Fin 65) (level : Bool) (stamp : DWord) :
    (execPinEdge p level stamp s).Kept s₀ := by
  simp [execPinEdge, h]

@[simp] theorem kept_filtered (h : s.Kept s₀) (p : Nat) : (s.filtered p).2.Kept s₀ := by
  simp (maxDischargeDepth := 15) only [State.filtered, kept_ite_snd, kept_setCpin, kept_setGrp, kept_chvEvent, h,
      implies_true, and_self]

@[simp] theorem kept_execFilteredChange (h : s.Kept s₀) (pins : List (Fin 65)) : (execFilteredChange pins s).Kept
    s₀ := by
  unfold execFilteredChange
  split
  · generalize List.range 65 = l
    refine kept_done (kept_foldl (fun t p ht => ?_) (kept_foldl_snd (fun b p hb => ?_) h))
    · split
      · exact kept_setCpin ht _ _
      · exact ht
    · dsimp only
      split
      · exact kept_filtered hb p
      · exact hb
  · exact h

@[simp] theorem kept_execTimedChangeApply (h : s.Kept s₀) (e : Fin 32) : (execTimedChangeApply e s).Kept s₀ := by
  simp [execTimedChangeApply]
  split <;> simp (maxDischargeDepth := 15) [h]

@[simp] theorem kept_execPulseEnd (h : s.Kept s₀) (p : Fin 64) : (execPulseEnd p s).Kept s₀ := by
  simp (maxDischargeDepth := 15) [execPulseEnd, h]

@[simp] theorem kept_execBinaryOutputDelivery (h : s.Kept s₀) (n : Fin 64) : (execBinaryOutputDelivery n s).Kept s₀
    := by
  simp [execBinaryOutputDelivery]
  split <;> simp [h]

@[simp] theorem kept_execPpsOutEdge (h : s.Kept s₀) (rise : Bool) : (execPpsOutEdge rise s).Kept s₀ := by
  simp [execPpsOutEdge, h]

@[simp] theorem kept_chvPop (h : s.Kept s₀) (e : Nat) : (s.chvPop e).Kept s₀ := by
  exact h

@[simp] theorem kept_execChiveInPop (h : s.Kept s₀) (e : Fin 32) : (execChiveInPop e s).Kept s₀ := by
  simp [execChiveInPop, h]

@[simp] theorem kept_chvOut (h : s.Kept s₀) (e : Nat) (w : Word) : (s.chvOut e w).Kept s₀ := by
  simp [State.chvOut, h]

@[simp] theorem kept_execChiveOutWrite (h : s.Kept s₀) (e : Fin 32) (w : Word) : (execChiveOutWrite e w s).Kept s₀
    := by
  simp [execChiveOutWrite, h]

@[simp] theorem kept_execLineCharacter (h : s.Kept s₀) (l : Fin 16) : (execLineCharacter l s).Kept s₀ := by
  simp [execLineCharacter]
  (repeat' split) <;> simp (maxDischargeDepth := 15) [h]

@[simp] theorem kept_lineDeliver (h : s.Kept s₀) (l : Nat) (b : List Byte) (stamp : DWord) :
    (s.lineDeliver l b stamp).Kept s₀ := by
  simp [State.lineDeliver]
  (repeat' split) <;> simp (maxDischargeDepth := 15) [h]

@[simp] theorem kept_execLineFrameClose (h : s.Kept s₀) (l : Fin 16) : (execLineFrameClose l s).Kept s₀ := by
  simp (maxDischargeDepth := 15) [execLineFrameClose, h]

@[simp] theorem kept_restartGroup (h : s.Kept s₀) (g : Nat) (keep : Bool) : (s.restartGroup g keep).Kept s₀ := by
  simp (maxDischargeDepth := 15) +contextual [State.restartGroup, kept_foldl, h]

@[simp] theorem kept_execChiveGroupRestart (h : s.Kept s₀) (g : Fin 8) : (execChiveGroupRestart g s).Kept s₀ := by
  unfold execChiveGroupRestart
  (repeat' split) <;> simp (maxDischargeDepth := 15) [h]

@[simp] theorem kept_gctrl (h : s.Kept s₀) (g : Nat) : (s.gctrl g).Kept s₀ := by
  simp [State.gctrl, h]

@[simp] theorem kept_execChiveGctrlRestart (h : s.Kept s₀) (g : Fin 8) : (execChiveGctrlRestart g s).Kept s₀ := by
  simp [execChiveGctrlRestart, h]

@[simp] theorem kept_progWrite (h : s.Kept s₀) (g : Nat) (b : List Byte) : (s.progWrite g b).Kept s₀ := by
  simp +contextual [State.progWrite, kept_foldl, h]

@[simp] theorem kept_execChiveProgramWrite (h : s.Kept s₀) (q : Req) : (execChiveProgramWrite q s).Kept s₀ := by
  simp (maxDischargeDepth := 15) +contextual [execChiveProgramWrite, h]

@[simp] theorem kept_execChiveRestartRequest (h : s.Kept s₀) (q : Req) : (execChiveRestartRequest q s).Kept s₀ := by
  simp (maxDischargeDepth := 15) +contextual [execChiveRestartRequest, kept_foldl, h]

@[simp] theorem kept_chvInstant (h : s.Kept s₀) (j : Nat) (latch : Bool) (at_ : DWord) :
    (s.chvInstant j latch at_).Kept s₀ := by
  unfold State.chvInstant
  dsimp only
  refine kept_foldl (fun t e ht => ?_) ?_
  · split
    · exact kept_setGrp ht _ _
    · exact kept_setCe ht _ _
  · split
    · refine kept_foldl (fun t p ht => ?_) h
      split
      · split
        · exact kept_driveOut (kept_setCpin ht _ _) _ _
        · exact ht
      · exact ht
    · exact kept_foldl (fun t g ht => kept_setGrp ht _ _) h

@[simp] theorem kept_instantOut (h : s.Kept s₀) (j : Nat) (r : Rec) (at_ : DWord) (num : Nat) :
    (s.instantOut j r at_ num).Kept s₀ := by
  simp (maxDischargeDepth := 15) +contextual [State.instantOut, kept_foldl, h]

@[simp] theorem kept_execInstantIssue (h : s.Kept s₀) (j : Fin 8) : (execInstantIssue j s).Kept s₀ := by
  unfold execInstantIssue
  split <;> simp [h]

/-! ### Machine/EngSys.lean -/

@[simp] theorem kept_mbxOp (h : s.Kept s₀) (i : Issue) (op : Nat) (g : Mbox → Nat → Bool) (f : State → Nat → Nat →
    Nat → Eff) (hf : ∀ t e w n, t.Kept s₀ → (f t e w n).Kept s₀) :
    (s.mbxOp i op g f).Kept s₀ := by
  simp +contextual [State.mbxOp, hf, h]

@[simp] theorem kept_mbxOut (h : s.Kept s₀) (e : Nat) (o : Output) : (s.mbxOut e o).Kept s₀ := by
  simp [State.mbxOut, h]

@[simp] theorem kept_execMpost (h : s.Kept s₀) (i : Issue) : (execMpost i s).Kept s₀ := by
  simp +contextual [execMpost, h]

@[simp] theorem kept_mrecv (h : s.Kept s₀) (e : Nat) (n : Nat) : (s.mrecv e n).2.Kept s₀ := by
  unfold State.mrecv
  grind [State.Kept, kept_mbTake]

@[simp] theorem kept_execMrecv (h : s.Kept s₀) (i : Issue) : (execMrecv i s).Kept s₀ := by
  simp (maxDischargeDepth := 15) +contextual [execMrecv, h]

@[simp] theorem kept_execMlock (h : s.Kept s₀) (i : Issue) : (execMlock i s).Kept s₀ := by
  simp (maxDischargeDepth := 15) +contextual [execMlock, h]

@[simp] theorem kept_execMunlk (h : s.Kept s₀) (i : Issue) : (execMunlk i s).Kept s₀ := by
  simp +contextual [execMunlk, h]

@[simp] theorem kept_execMstat (h : s.Kept s₀) (i : Issue) : (execMstat i s).Kept s₀ := by
  simp (maxDischargeDepth := 15) +contextual [execMstat, h]

@[simp] theorem kept_mbArrive (h : s.Kept s₀) (e : Nat) : (s.mbArrive e).Kept s₀ := by
  unfold State.mbArrive
  (repeat' split) <;> simp [h]

@[simp] theorem kept_execMailboxOutputArrival (h : s.Kept s₀) (e : Fin 32) : (execMailboxOutputArrival e s).Kept s₀
    := by
  simp [execMailboxOutputArrival, h]

@[simp] theorem kept_execRdtime (h : s.Kept s₀) (i : Issue) : (execRdtime i s).Kept s₀ := by
  simp (maxDischargeDepth := 15) +contextual [execRdtime, h]

@[simp] theorem kept_execRand (h : s.Kept s₀) (i : Issue) : (execRand i s).Kept s₀ := by
  simp (maxDischargeDepth := 15) +contextual [execRand, h]

@[simp] theorem kept_execWds (h : s.Kept s₀) (i : Issue) : (execWds i s).Kept s₀ := by
  simp +contextual [execWds, h]

@[simp] theorem kept_execWait (h : s.Kept s₀) (i : Issue) : (execWait i s).Kept s₀ := by
  simp +contextual [execWait, h]

@[simp] theorem kept_execFence (h : s.Kept s₀) (i : Issue) : (execFence i s).Kept s₀ := by
  simp +contextual [execFence, h]

@[simp] theorem kept_execBreak (h : s.Kept s₀) (i : Issue) : (execBreak i s).Kept s₀ := by
  simp +contextual [execBreak, h]

@[simp] theorem kept_execCsrr (h : s.Kept s₀) (i : Issue) : (execCsrr i s).Kept s₀ := by
  simp (maxDischargeDepth := 15) +contextual [execCsrr, h]

@[simp] theorem kept_csrWrite (h : s.Kept s₀) (mode : Nat) (e : Nat) (w : Nat) : (s.csrWrite mode e w).Kept s₀ := by
  simp [State.csrWrite, h]

@[simp] theorem kept_execCsrw (h : s.Kept s₀) (i : Issue) : (execCsrw i s).Kept s₀ := by
  simp +contextual [execCsrw, h]

@[simp] theorem kept_execCsrs (h : s.Kept s₀) (i : Issue) : (execCsrs i s).Kept s₀ := by
  simp +contextual [execCsrs, h]

@[simp] theorem kept_execCsrc (h : s.Kept s₀) (i : Issue) : (execCsrc i s).Kept s₀ := by
  simp +contextual [execCsrc, h]

@[simp] theorem kept_csrNamed (h : s.Kept s₀) (i : Issue) (n : Nat) : (s.csrNamed i n).Kept s₀ := by
  simp +contextual [State.csrNamed, h]

@[simp] theorem kept_execInstPop (h : s.Kept s₀) (i : Issue) : (execInstPop i s).Kept s₀ := by
  simp [execInstPop, h]

@[simp] theorem kept_execTimerArm (h : s.Kept s₀) (i : Issue) : (execTimerArm i s).Kept s₀ := by
  simp [execTimerArm, h]

@[simp] theorem kept_execReservedMajor (h : s.Kept s₀) (i : Issue) : (execReservedMajor i s).Kept s₀ := by
  simp (maxDischargeDepth := 15) [execReservedMajor, h]

@[simp] theorem kept_execInterruptEntry (h : s.Kept s₀) (e : Fin 32) : (execInterruptEntry e s).Kept s₀ := by
  simp (maxDischargeDepth := 15) [execInterruptEntry]
  (repeat' split) <;> simp (maxDischargeDepth := 15) [h]

@[simp] theorem kept_execEngineTimer (h : s.Kept s₀) (e : Fin 32) : (execEngineTimer e s).Kept s₀ := by
  simp (maxDischargeDepth := 15) [execEngineTimer, h]

@[simp] theorem kept_execWdw (h : s.Kept s₀) (e : Fin 32) : (execWdw e s).Kept s₀ := by
  simp (maxDischargeDepth := 15) [execWdw, h]

@[simp] theorem kept_dbgWrite (h : s.Kept s₀) (e : Nat) (f : Eng → Eng) : (s.dbgWrite e f).Kept s₀ := by
  simp [State.dbgWrite, h]

@[simp] theorem kept_execDebugHalt (h : s.Kept s₀) (e : Fin 32) : (execDebugHalt e s).Kept s₀ := by
  simp [execDebugHalt, h]

@[simp] theorem kept_execDebugStep (h : s.Kept s₀) (e : Fin 32) : (execDebugStep e s).Kept s₀ := by
  simp [execDebugStep, h]

@[simp] theorem kept_execDebugResume (h : s.Kept s₀) (e : Fin 32) : (execDebugResume e s).Kept s₀ := by
  simp [execDebugResume, h]

/-! ### Machine/Trust.lean -/

@[simp] theorem kept_voterDisagree (h : s.Kept s₀) (core : Nat) : (s.voterDisagree core).Kept s₀ := by
  simp [State.voterDisagree, h]

@[simp] theorem kept_execVoterDisagreement (h : s.Kept s₀) (core : Fin 3) : (execVoterDisagreement core s).Kept s₀
    := by
  simp [execVoterDisagreement, h]

@[simp] theorem kept_execTrngHealthFail (h : s.Kept s₀) (restarted : Bool) : (execTrngHealthFail restarted s).Kept
    s₀ := by
  simp [execTrngHealthFail, h]

@[simp] theorem kept_execRequestBodyTimeout (h : s.Kept s₀) : (execRequestBodyTimeout s).Kept s₀ := by
  simp [execRequestBodyTimeout, h]

@[simp] theorem kept_serveUnknown (h : s.Kept s₀) (q : Req) (code : Nat) : (s.serveUnknown q code).Kept s₀ := by
  simp [State.serveUnknown, h]

@[simp] theorem kept_execRequestReservedClass (h : s.Kept s₀) (q : Req) (code : BitVec 12) :
    (execRequestReservedClass q code s).Kept s₀ := by
  simp [execRequestReservedClass, h]

@[simp] theorem kept_execSageResponseDeliver (h : s.Kept s₀) (n : Fin 64) : (execSageResponseDeliver n s).Kept s₀
    := by
  unfold execSageResponseDeliver
  split <;> split <;> simp [h]

@[simp] theorem kept_execChallenge (h : s.Kept s₀) (q : Req) : (execChallenge q s).Kept s₀ := by
  simp (maxDischargeDepth := 15) +contextual [execChallenge, h]

@[simp] theorem kept_useNonce (h : s.Kept s₀) (src : Nat) : (s.useNonce src).Kept s₀ := by
  unfold State.useNonce
  split <;> simp [h]

@[simp] theorem kept_execAttestation (h : s.Kept s₀) (q : Req) : (execAttestation q s).Kept s₀ := by
  simp (maxDischargeDepth := 15) +contextual [execAttestation, h]

@[simp] theorem kept_execKeySign (h : s.Kept s₀) (q : Req) (tagOk : Bool) : (execKeySign q tagOk s).Kept s₀ := by
  simp (maxDischargeDepth := 15) +contextual [execKeySign, h]

@[simp] theorem kept_execKeyExchange (h : s.Kept s₀) (q : Req) (tagOk : Bool) (onCurve : Bool) :
    (execKeyExchange q tagOk onCurve s).Kept s₀ := by
  simp (maxDischargeDepth := 15) +contextual [execKeyExchange, h]

@[simp] theorem kept_execKeyExport (h : s.Kept s₀) (q : Req) (tagOk : Bool) : (execKeyExport q tagOk s).Kept s₀ := by
  simp (maxDischargeDepth := 15) +contextual [execKeyExport, h]

@[simp] theorem kept_transition (h : s.Kept s₀) (q : Req) (code : Nat) (target : LifeCycle) :
    (s.transition q code target).Kept s₀ := by
  simp (maxDischargeDepth := 15) only [State.transition, kept_with, kept_eraseRegion, kept_finish, kept_notice, h]

@[simp] theorem kept_execLifecycleProvision (h : s.Kept s₀) (q : Req) : (execLifecycleProvision q s).Kept s₀ := by
  simp (maxDischargeDepth := 15) +contextual [execLifecycleProvision, h]

@[simp] theorem kept_execLifecycleOperational (h : s.Kept s₀) (q : Req) (v : Verdict) :
    (execLifecycleOperational q v s).Kept s₀ := by
  unfold execLifecycleOperational
  split
  · refine kept_done (kept_serve h _ _ _ _ fun t ht => ?_)
    dsimp only
    repeat' (first | (simp +contextual [ht]; done) | split)
  · exact h

@[simp] theorem kept_execLifecycleServiceEntry (h : s.Kept s₀) (q : Req) (v : Verdict) :
    (execLifecycleServiceEntry q v s).Kept s₀ := by
  unfold execLifecycleServiceEntry
  split
  · refine kept_done (kept_serve h _ _ _ _ fun t ht => ?_)
    dsimp only
    repeat' (first | (simp +contextual [ht]; done) | split)
  · exact h

@[simp] theorem kept_execLifecycleServiceExit (h : s.Kept s₀) (q : Req) : (execLifecycleServiceExit q s).Kept s₀ := by
  simp (maxDischargeDepth := 15) +contextual [execLifecycleServiceExit, h]

@[simp] theorem kept_retireDev (h : s.Kept s₀) : s.retireDev.Kept s₀ := by
  simp (maxDischargeDepth := 15) [State.retireDev, h]

@[simp] theorem kept_execLifecycleRetire (h : s.Kept s₀) (q : Req) (v : Verdict) : (execLifecycleRetire q v s).Kept
    s₀ := by
  unfold execLifecycleRetire
  split
  · refine kept_done (kept_serve h _ _ _ _ fun t ht => ?_)
    repeat' (first | (simp (maxDischargeDepth := 15) +contextual [ht]; done) | split)
  · exact h

@[simp] theorem kept_execOwnerRotate (h : s.Kept s₀) (q : Req) (v : Verdict) : (execOwnerRotate q v s).Kept s₀ := by
  unfold execOwnerRotate
  split
  · refine kept_done (kept_serve h _ _ _ _ fun t ht => ?_)
    dsimp only
    repeat' (first | (simp +contextual [ht]; done) | split)
  · exact h

@[simp] theorem kept_execDebugUnlock (h : s.Kept s₀) (q : Req) (v : Verdict) : (execDebugUnlock q v s).Kept s₀ := by
  unfold execDebugUnlock
  split
  · refine kept_done (kept_serve h _ _ _ _ fun t ht => ?_)
    dsimp only
    repeat' (first | (simp +contextual [ht]; done) | split)
  · exact h

@[simp] theorem kept_closeScope (h : s.Kept s₀) : s.closeScope.Kept s₀ := by
  simp [State.closeScope, h]

@[simp] theorem kept_execDebugLock (h : s.Kept s₀) (q : Req) : (execDebugLock q s).Kept s₀ := by
  simp (maxDischargeDepth := 15) +contextual [execDebugLock, h]

@[simp] theorem kept_execDebugScopeExpiry (h : s.Kept s₀) : (execDebugScopeExpiry s).Kept s₀ := by
  simp [execDebugScopeExpiry, h]

@[simp] theorem kept_execJtagTapInstruction (h : s.Kept s₀) (code : Nat) (boundaryScan : Bool) :
    (execJtagTapInstruction code boundaryScan s).Kept s₀ := by
  simp [execJtagTapInstruction, h]

@[simp] theorem kept_startJob (h : s.Kept s₀) (q : Req) (code : Nat) (k : NvmKind) (off : Nat) (bs : List Byte) :
    (s.startJob q code k off bs).Kept s₀ := by
  simp [State.startJob, h]

@[simp] theorem kept_execKeyImport (h : s.Kept s₀) (q : Req) (op : Byte) (keyLen : Option (BitVec 8)) :
    (execKeyImport q op keyLen s).Kept s₀ := by
  unfold execKeyImport
  split
  · refine kept_done (kept_serve h _ _ _ _ fun t ht => ?_)
    dsimp only
    repeat' (first | (simp +contextual [ht]; done) | split)
  · exact h

@[simp] theorem kept_execOwnerCertificateWrite (h : s.Kept s₀) (q : Req) (op : Byte) :
    (execOwnerCertificateWrite q op s).Kept s₀ := by
  unfold execOwnerCertificateWrite
  split
  · refine kept_done (kept_serve h _ _ _ _ fun t ht => ?_)
    repeat' (first | (simp +contextual [ht]; done) | split)
  · exact h

/-! ### Machine/PersOps.lean -/

@[simp] theorem kept_clearBank (h : s.Kept s₀) (e : Nat) : (s.clearBank e).Kept s₀ := by
  refine ⟨h.1, fun hw => ?_⟩
  obtain ⟨hnvm, hbank, hsvc, hcap, hdram⟩ := (mems_wf_iff _).1 (h.2 hw)
  exact (mems_wf_iff _).2 ⟨hnvm, Mem.wf_clearRange hbank _ _, hsvc, hcap, hdram⟩

@[simp] theorem kept_buildBank (h : s.Kept s₀) (e : Nat) (section_ : List Byte) : (s.buildBank e section_).Kept s₀
    := by
  simp (maxDischargeDepth := 15) +contextual [State.buildBank, kept_foldl, h]

@[simp] theorem kept_forgetOps (h : s.Kept s₀) (e : Nat) : (s.forgetOps e).Kept s₀ := by
  exact h

@[simp] theorem kept_haltInstance (h : s.Kept s₀) (e : Nat) (status : Nat) : (s.haltInstance e status).Kept s₀ := by
  simp (maxDischargeDepth := 15) [State.haltInstance, h]

@[simp] theorem kept_newCheckpoint (h : s.Kept s₀) (e : Nat) : (s.newCheckpoint e).Kept s₀ := by
  exact h

@[simp] theorem kept_flushRx (h : s.Kept s₀) (e : Nat) : (s.flushRx e).Kept s₀ := by
  simp +contextual [State.flushRx, kept_foldl, h]

@[simp] theorem kept_refreshOne (h : s.Kept s₀) (e : Nat) (i : Nat) (x : SubEntry) : (s.refreshOne e i x).Kept s₀
    := by
  simp [State.refreshOne, h]

@[simp] theorem kept_refresh (h : s.Kept s₀) (e : Nat) : (s.refresh e).Kept s₀ := by
  simp +contextual [State.refresh, kept_foldl, h]

@[simp] theorem kept_release (h : s.Kept s₀) (e : Nat) (pc : Word) : (s.release e pc).Kept s₀ := by
  exact h

@[simp] theorem kept_emptyInstance (h : s.Kept s₀) (e : Nat) : (s.emptyInstance e).Kept s₀ := by
  simp (maxDischargeDepth := 15) [State.emptyInstance, h]

@[simp] theorem kept_failInstance (h : s.Kept s₀) (e : Nat) : (s.failInstance e).Kept s₀ := by
  simp (maxDischargeDepth := 15) [State.failInstance, h]

@[simp] theorem kept_restartInstance (h : s.Kept s₀) (e : Nat) : (s.restartInstance e).Kept s₀ := by
  simp (maxDischargeDepth := 15) [State.restartInstance, h]

@[simp] theorem kept_schedule (h : s.Kept s₀) (e : Nat) (k : InstReq) (by_ : Option (Nat × Byte)) :
    (s.schedule e k by_).Kept s₀ := by
  exact h

@[simp] theorem kept_boundary (h : s.Kept s₀) (k : Nat) : (s.boundary k).Kept s₀ := by
  unfold State.boundary
  refine kept_foldl (fun t a ht => ?_) h
  dsimp only
  repeat' (first | (simp (maxDischargeDepth := 15) +contextual [ht]; done) | split)

/-! ### Machine/DumpOps.lean -/

@[simp] theorem kept_dumpClear (h : s.Kept s₀) : s.dumpClear.Kept s₀ := by
  simp [State.dumpClear, h]

@[simp] theorem kept_dumpRelease (h : s.Kept s₀) : s.dumpRelease.Kept s₀ := by
  simp [State.dumpRelease, h]

@[simp] theorem kept_execDumpClear (h : s.Kept s₀) : (execDumpClear s).Kept s₀ := by
  simp [execDumpClear, h]

@[simp] theorem kept_execDumpRelease (h : s.Kept s₀) : (execDumpRelease s).Kept s₀ := by
  simp [execDumpRelease, h]

/-! ### Machine/FabricOps.lean -/

@[simp] theorem kept_setFport (h : s.Kept s₀) (n : Nat) (p : FabPort) : (s.setFport n p).Kept s₀ := by
  exact ⟨by simp [h.1], fun hw => by simp [h.2 hw]⟩

@[simp] theorem kept_fabEvent (h : s.Kept s₀) (b : Nat) : (s.fabEvent b).Kept s₀ := by
  exact h

@[simp] theorem kept_ctlSend (h : s.Kept s₀) (n : Nat) (kind : Nat) (payload : List Byte) :
    (s.ctlSend n kind payload).Kept s₀ := by
  simp [State.ctlSend, h]

@[simp] theorem kept_lsaSend (h : s.Kept s₀) (n : Nat) (l : Lsa) : (s.lsaSend n l).Kept s₀ := by
  simp [State.lsaSend, h]

@[simp] theorem kept_flood (h : s.Kept s₀) (l : Lsa) (but : Option Nat) : (s.flood l but).Kept s₀ := by
  simp +contextual [State.flood, kept_foldl, h]

@[simp] theorem kept_admitSend (h : s.Kept s₀) (n : Nat) (step : Nat) : (s.admitSend n step).Kept s₀ := by
  simp [State.admitSend, h]

@[simp] theorem kept_fabFlush (h : s.Kept s₀) (n : Nat) : (s.fabFlush n).Kept s₀ := by
  simp (maxDischargeDepth := 15) +contextual [State.fabFlush, kept_foldl, h]

@[simp] theorem kept_dbPut (h : s.Kept s₀) (l : Lsa) : (s.dbPut l).Kept s₀ := by
  exact h

@[simp] theorem kept_originate (h : s.Kept s₀) : s.originate.Kept s₀ := by
  simp [State.originate, h]

@[simp] theorem kept_startClaim (h : s.Kept s₀) : s.startClaim.Kept s₀ := by
  simp [State.startClaim, h]

@[simp] theorem kept_nextClaim (h : s.Kept s₀) (x0 : Nat) : (s.nextClaim x0).Kept s₀ := by
  induction x0 generalizing s with
  | zero => exact h
  | succ n ih =>
    unfold State.nextClaim
    split
    · exact ih (kept_originate h)
    · exact h

@[simp] theorem kept_settleClaim (h : s.Kept s₀) : s.settleClaim.Kept s₀ := by
  simp [State.settleClaim, h]

@[simp] theorem kept_fabLoss (h : s.Kept s₀) (n : Nat) : (s.fabLoss n).Kept s₀ := by
  simp (maxDischargeDepth := 15) [State.fabLoss, h]

@[simp] theorem kept_fabStranger (h : s.Kept s₀) (n : Nat) (reason : Nat) : (s.fabStranger n reason).Kept s₀ := by
  simp (maxDischargeDepth := 15) [State.fabStranger, h]

@[simp] theorem kept_strangerDrop (h : s.Kept s₀) (n : Nat) : (s.strangerDrop n).Kept s₀ := by
  simp [State.strangerDrop, h]

@[simp] theorem kept_fabHdrErr (h : s.Kept s₀) : s.fabHdrErr.Kept s₀ := by
  exact h

@[simp] theorem kept_fabAuthFail (h : s.Kept s₀) : s.fabAuthFail.Kept s₀ := by
  exact h

@[simp] theorem kept_fabLate (h : s.Kept s₀) : s.fabLate.Kept s₀ := by
  exact h

@[simp] theorem kept_install (h : s.Kept s₀) : s.install.Kept s₀ := by
  simp (maxDischargeDepth := 15) +contextual only [State.install, kept_with, kept_ite, kept_draw, kept_fabEvent, h,
      implies_true, and_self]

@[simp] theorem kept_streamSend (h : s.Kept s₀) (stream : Nat) (kind : Nat) (src : Nat) (cls : Nat) (payload : List
    Byte) (own : Option (Nat × Nat)) :
    (s.streamSend stream kind src cls payload own).Kept s₀ := by
  unfold State.streamSend
  split <;> simp [h]

/-! ### Machine/Switch.lean -/

@[simp] theorem kept_expandPairs (h : s.Kept s₀) (src : Nat) (l : List Nat) : (s.expandPairs src l).2.2.Kept s₀ := by
  unfold State.expandPairs
  refine foldl_keeps (fun b : List Nat × List (Nat × BitVec 16) × State => b.2.2.Kept s₀) _ (fun b n hb => ?_) _ _ h
  obtain ⟨out, seqs, t⟩ := b
  dsimp only
  repeat' split
  all_goals first
    | exact hb
    | exact kept_setPair hb _ _

@[simp] theorem kept_clearRx (h : s.Kept s₀) (n : Nat) (fid : Nat) : (s.clearRx n fid).Kept s₀ := by
  exact h

@[simp] theorem kept_classify (h : s.Kept s₀) (n : Nat) (b : List Byte) (len : Nat) (prp : Bool) (raw : DWord) (pre
    : Bool) :
    (s.classify n b len prp raw pre).Kept s₀ := by
  unfold State.classify
  extract_lets p sp pm red tci tagged vid cls0 dei f0 add vl removed loc rule act fld ctx sw cls
  have hadd : ∀ f t, t.Kept s₀ → (add f t).2.Kept s₀ := fun f t ht => kept_setPort (kept_newFrame ht f) n _
  have hmeter : (if tst act 3 then s.meter (fld 0x44 2) len sp.colourAware dei else (bit dei, s)).2.Kept s₀ := by
    simp [h]
  clear_value add
  split
  · exact hadd _ _ h
  · split
    · exact hadd _ _ h
    · split
      · exact hadd _ _ h
      · split
        · exact hadd _ _ (kept_with.2 h)
        · generalize (if tst act 3 then s.meter (fld 0x44 2) len sp.colourAware dei else (bit dei, s)) = m at hmeter ⊢
          exact kept_foldl (fun t d ht => kept_judgeAt ht _ _ _ _) (hadd _ _ (kept_expandPairs hmeter n _))

@[simp] theorem kept_execFrameClassify (h : s.Kept s₀) (p : Fin 64) (head : List Byte) (len : Nat) (prp : Bool)
    (raw : DWord) :
    (execFrameClassify p head len prp raw s).Kept s₀ := by
  simp [execFrameClassify, h]

@[simp] theorem kept_withdraw (h : s.Kept s₀) (fid : Nat) : (s.withdraw fid).Kept s₀ := by
  unfold State.withdraw
  refine kept_foldl (fun t a ht => ?_) h
  dsimp only
  repeat' (first | (simp +contextual [ht]; done) | split)

@[simp] theorem kept_creditCt (h : s.Kept s₀) (fid : Nat) (cells : Nat) : (s.creditCt fid cells).Kept s₀ := by
  simp [State.creditCt]
  split <;> simp +contextual [h]

@[simp] theorem kept_abandon (h : s.Kept s₀) (n : Nat) (fid : Nat) (len : Nat) (m : Nat) (body : List Byte) (fcs :
    List Byte) :
    (s.abandon n fid len m body fcs).Kept s₀ := by
  simp (maxDischargeDepth := 15) [State.abandon]
  (repeat' split) <;> simp (maxDischargeDepth := 15) [h]

@[simp] theorem kept_countGood (h : s.Kept s₀) (n : Nat) (len : Nat) (cls : Nat) (p : Parsed) (b : List Byte) :
    (s.countGood n len cls p b).Kept s₀ := by
  simp [State.countGood, h]

@[simp] theorem kept_ddAdd (h : s.Kept s₀) (n : Nat) (i : Nat) (e : DdEntry) : (s.ddAdd n i e).Kept s₀ := by
  simp (maxDischargeDepth := 15) [State.ddAdd, h]

@[simp] theorem kept_noteNode (h : s.Kept s₀) (n : Nat) (sa : BitVec 48) : (s.noteNode n sa).Kept s₀ := by
  unfold State.noteNode
  split <;> simp +contextual [kept_foldl, h]

@[simp] theorem kept_dupCheck (h : s.Kept s₀) (n : Nat) (sa : BitVec 48) (hsr : Option (BitVec 16)) (body : List
    Byte) :
    (s.dupCheck n sa hsr body).2.Kept s₀ := by
  simp (maxDischargeDepth := 15) [State.dupCheck]
  (repeat' split) <;> simp (maxDischargeDepth := 15) [h]

@[simp] theorem kept_finishRx (h : s.Kept s₀) (n : Nat) (fid : Nat) : (s.finishRx n fid).Kept s₀ := by
  simp (maxDischargeDepth := 15) [State.finishRx]
  (repeat' split) <;> simp (maxDischargeDepth := 15) [h]

@[simp] theorem kept_discardRx (h : s.Kept s₀) (fid : Nat) : (s.discardRx fid).Kept s₀ := by
  unfold State.discardRx
  dsimp only
  repeat' (first | (simp (maxDischargeDepth := 15) [h]; done) | split)

@[simp] theorem kept_setPaused (h : s.Kept s₀) (n : Nat) (m : BitVec 8) : (s.setPaused n m).Kept s₀ := by
  simp (maxDischargeDepth := 15) +contextual [State.setPaused, kept_foldl, h]

@[simp] theorem kept_pauseTaken (h : s.Kept s₀) (n : Nat) (honoured : Bool) : (s.pauseTaken n honoured).2.Kept s₀
    := by
  simp [State.pauseTaken, h]

@[simp] theorem kept_pauseAct (h : s.Kept s₀) (n : Nat) (quanta : BitVec 16) : (s.pauseAct n quanta).Kept s₀ := by
  simp (maxDischargeDepth := 15) [State.pauseAct, h]

@[simp] theorem kept_pfcAct (h : s.Kept s₀) (n : Nat) (classes : BitVec 8) (quanta : List (BitVec 16)) :
    (s.pfcAct n classes quanta).Kept s₀ := by
  simp (maxDischargeDepth := 15) +contextual [State.pfcAct, kept_foldl, h]

@[simp] theorem kept_pauseBytes (h : s.Kept s₀) (n : Nat) (op : Nat) (p : Parsed) (b : List Byte) :
    (s.pauseBytes n op p b).Kept s₀ := by
  simp [State.pauseBytes, h]

@[simp] theorem kept_receiveGood (h : s.Kept s₀) (n : Nat) (fid : Nat) (body : List Byte) (fcs : List Byte) :
    (s.receiveGood n fid body fcs).Kept s₀ := by
  simp (maxDischargeDepth := 15) [State.receiveGood]
  (repeat' split) <;> simp (maxDischargeDepth := 15) +contextual [kept_foldl, h]

@[simp] theorem kept_receiveEnd (h : s.Kept s₀) (n : Nat) (b : List Byte) (sym : Bool) (raw : DWord) (pre : Bool) :
    (s.receiveEnd n b sym raw pre).Kept s₀ := by
  simp (maxDischargeDepth := 15) [State.receiveEnd]
  split <;> simp (maxDischargeDepth := 15) [h]

@[simp] theorem kept_execFdbAgeOut (h : s.Kept s₀) (addr : BitVec 48) (vid : BitVec 12) :
    (execFdbAgeOut addr vid s).Kept s₀ := by
  simp [execFdbAgeOut, h]

@[simp] theorem kept_execDdEntryAgeOut (h : s.Kept s₀) (pair : Fin 32) (addr : BitVec 48) (seq : BitVec 16) :
    (execDdEntryAgeOut pair addr seq s).Kept s₀ := by
  simp [execDdEntryAgeOut, h]

@[simp] theorem kept_tcKeep (h : s.Kept s₀) (f : Frame) (n : Nat) (stamp : DWord) : (s.tcKeep f n stamp).Kept s₀ := by
  unfold State.tcKeep
  split <;> simp [h]

@[simp] theorem kept_guardHold (h : s.Kept s₀) (n : Nat) : (s.guardHold n).Kept s₀ := by
  exact h

@[simp] theorem kept_beginTx (h : s.Kept s₀) (n : Nat) (x : TxNow) (f : Frame) : (s.beginTx n x f).Kept s₀ := by
  simp [State.beginTx]
  split <;> split <;> simp [h]

@[simp] theorem kept_startTx (h : s.Kept s₀) (n : Nat) (x0 : List Nat) : (s.startTx n x0).Kept s₀ := by
  induction x0 generalizing s with
  | nil => exact h
  | cons c l ih =>
    unfold State.startTx
    split
    · exact ih h
    · split
      · exact ih h
      · split
        · exact ih h
        · simp [ih, h]

@[simp] theorem kept_execFrameTransmitStart (h : s.Kept s₀) (p : Fin 68) : (execFrameTransmitStart p s).Kept s₀ := by
  simp [execFrameTransmitStart, h]

@[simp] theorem kept_countSent (h : s.Kept s₀) (n : Nat) (cls : Nat) (w : List Byte) (f : Frame) :
    (s.countSent n cls w f).Kept s₀ := by
  simp [State.countSent, h]

@[simp] theorem kept_endTx (h : s.Kept s₀) (n : Nat) (x : TxNow) : (s.endTx n x).Kept s₀ := by
  simp (maxDischargeDepth := 15) [State.endTx]
  (repeat' split) <;> simp (maxDischargeDepth := 15) [h]

@[simp] theorem kept_execFrameTransmitEnd (h : s.Kept s₀) (p : Fin 68) (frag : Option Nat) :
    (execFrameTransmitEnd p frag s).Kept s₀ := by
  simp (maxDischargeDepth := 15) [execFrameTransmitEnd]
  (repeat' split) <;> simp (maxDischargeDepth := 15) [h]

@[simp] theorem kept_execGuardianDeadlineDrop (h : s.Kept s₀) (p : Fin 64) (c : Fin 8) :
    (execGuardianDeadlineDrop p c s).Kept s₀ := by
  simp (maxDischargeDepth := 15) [execGuardianDeadlineDrop]
  (repeat' split) <;> simp (maxDischargeDepth := 15) [h]

@[simp] theorem kept_retirePlane (h : s.Kept s₀) (p : Nat) : (s.retirePlane p).Kept s₀ := by
  simp [State.retirePlane, h]

@[simp] theorem kept_planeFail (h : s.Kept s₀) (p : Nat) : (s.planeFail p).Kept s₀ := by
  simp [State.planeFail, h]

@[simp] theorem kept_loseAt (h : s.Kept s₀) (fid : Nat) (out : Nat) : (s.loseAt fid out).Kept s₀ := by
  unfold State.loseAt
  (repeat' split) <;> simp [h]

@[simp] theorem kept_cellRetry (h : s.Kept s₀) (c : CellTx) : (s.cellRetry c).Kept s₀ := by
  simp (maxDischargeDepth := 15) [State.cellRetry, h]

@[simp] theorem kept_execCellArrival (h : s.Kept s₀) (inp : Fin 37) (out : Fin 85) (seq : Nat) (crcGood : Bool) :
    (execCellArrival inp out seq crcGood s).Kept s₀ := by
  unfold execCellArrival
  (repeat' split) <;> simp [h]

@[simp] theorem kept_execCellAckTimeout (h : s.Kept s₀) (inp : Fin 37) (out : Fin 85) (seq : Nat) :
    (execCellAckTimeout inp out seq s).Kept s₀ := by
  unfold execCellAckTimeout
  split <;> simp [h]

@[simp] theorem kept_execPlaneTestFail (h : s.Kept s₀) (plane : Fin 5) : (execPlaneTestFail plane s).Kept s₀ := by
  simp [execPlaneTestFail, h]

/-! ### Machine/Fabric.lean -/

@[simp] theorem kept_fabServe (h : s.Kept s₀) (q : Req) (code : Nat) (words : Nat) (f : State → State ⊕ Nat) (hf :
    ∀ t, t.Kept s₀ → KeptSum s₀ (f t)) :
    (s.fabServe q code words f).Kept s₀ := by
  simp +contextual [State.fabServe, hf, h]

@[simp] theorem kept_execLinkCostSet (h : s.Kept s₀) (q : Req) : (execLinkCostSet q s).Kept s₀ := by
  simp (maxDischargeDepth := 15) +contextual [execLinkCostSet, h]

@[simp] theorem kept_execDeviceExclude (h : s.Kept s₀) (q : Req) : (execDeviceExclude q s).Kept s₀ := by
  simp (maxDischargeDepth := 15) +contextual [execDeviceExclude, h]

@[simp] theorem kept_execRouteRecompute (h : s.Kept s₀) (q : Req) : (execRouteRecompute q s).Kept s₀ := by
  simp (maxDischargeDepth := 15) +contextual [execRouteRecompute, h]

@[simp] theorem kept_execHelloSend (h : s.Kept s₀) (n : Fin 4) : (execHelloSend n s).Kept s₀ := by
  simp [execHelloSend, h]

@[simp] theorem kept_execHello (h : s.Kept s₀) (n : Fin 4) (m : HelloMsg) : (execHello n m s).Kept s₀ := by
  simp (maxDischargeDepth := 15) [execHello, h]

@[simp] theorem kept_execAdmit (h : s.Kept s₀) (n : Fin 4) (m : AdmitMsg) : (execAdmit n m s).Kept s₀ := by
  simp (maxDischargeDepth := 15) +contextual [execAdmit, kept_foldl, h]

@[simp] theorem kept_execAdmissionTimeout (h : s.Kept s₀) (n : Fin 4) : (execAdmissionTimeout n s).Kept s₀ := by
  simp [execAdmissionTimeout, h]

@[simp] theorem kept_execStrangerRetry (h : s.Kept s₀) (n : Fin 4) : (execStrangerRetry n s).Kept s₀ := by
  simp (maxDischargeDepth := 15) [execStrangerRetry, h]

@[simp] theorem kept_execNeighbourLoss (h : s.Kept s₀) (n : Fin 4) : (execNeighbourLoss n s).Kept s₀ := by
  simp (maxDischargeDepth := 15) [execNeighbourLoss, h]

@[simp] theorem kept_execLsa (h : s.Kept s₀) (n : Fin 4) (tagOk : Bool) (hdrOk : Bool) (l : Lsa) :
    (execLsa n tagOk hdrOk l s).Kept s₀ := by
  simp (maxDischargeDepth := 15) [execLsa, h]

@[simp] theorem kept_execLsaOriginate (h : s.Kept s₀) : (execLsaOriginate s).Kept s₀ := by
  simp [execLsaOriginate, h]

@[simp] theorem kept_freeWindows (h : s.Kept s₀) (src : DWord) : (s.freeWindows src).Kept s₀ := by
  exact h

@[simp] theorem kept_execLsaAgeOut (h : s.Kept s₀) (id : DWord) : (execLsaAgeOut id s).Kept s₀ := by
  simp (maxDischargeDepth := 15) [execLsaAgeOut, h]

@[simp] theorem kept_execClaimHeld (h : s.Kept s₀) : (execClaimHeld s).Kept s₀ := by
  simp (maxDischargeDepth := 15) [execClaimHeld, h]

@[simp] theorem kept_execPathComputation (h : s.Kept s₀) : (execPathComputation s).Kept s₀ := by
  simp [execPathComputation, h]

@[simp] theorem kept_windowJudge (h : s.Kept s₀) (src : DWord) (stream : Nat) (inc : Byte) (seq : Word) :
    (s.windowJudge src stream inc seq).2.Kept s₀ := by
  simp [State.windowJudge]
  split <;> simp [h]

@[simp] theorem kept_grantViol (h : s.Kept s₀) : s.grantViol.Kept s₀ := by
  exact h

@[simp] theorem kept_fabUpdate (h : s.Kept s₀) (src : Nat) (b : List Byte) : (s.fabUpdate src b).Kept s₀ := by
  simp [State.fabUpdate, h]

@[simp] theorem kept_fabPnt (h : s.Kept s₀) (src : Nat) (b : List Byte) : (s.fabPnt src b).Kept s₀ := by
  simp (maxDischargeDepth := 15) +contextual [State.fabPnt, kept_foldl, h]

@[simp] theorem kept_transit (h : s.Kept s₀) (n : Nat) (f : Frame) (x : JabRx) : (s.transit n f x).Kept s₀ := by
  simp (maxDischargeDepth := 15) [State.transit, h]

@[simp] theorem kept_execDataFrame (h : s.Kept s₀) (n : Fin 4) (head : List Byte) (ctx : BitVec 12) (raw : DWord) :
    (execDataFrame n head ctx raw s).Kept s₀ := by
  simp (maxDischargeDepth := 15) [execDataFrame, h]

@[simp] theorem kept_jabDeliver (h : s.Kept s₀) (n : Nat) (fid : Nat) (f : Frame) (x : JabRx) (payload : List Byte) :
    (s.jabDeliver n fid f x payload).Kept s₀ := by
  simp (maxDischargeDepth := 15) [State.jabDeliver, h]

@[simp] theorem kept_fabGood (h : s.Kept s₀) (n : Nat) (fid : Nat) (body : List Byte) (fcs : List Byte) :
    (s.fabGood n fid body fcs).Kept s₀ := by
  simp (maxDischargeDepth := 15) [State.fabGood]
  (repeat' split) <;> simp (maxDischargeDepth := 15) +contextual [kept_foldl, h]

@[simp] theorem kept_fabEnd (h : s.Kept s₀) (n : Nat) (b : List Byte) (pcs : Pcs) : (s.fabEnd n b pcs).Kept s₀ := by
  simp (maxDischargeDepth := 15) [State.fabEnd]
  split <;> simp (maxDischargeDepth := 15) [h]

@[simp] theorem kept_execFrameReceiveEnd (h : s.Kept s₀) (p : Fin 68) (b : List Byte) (pcs : Pcs) (raw : DWord) :
    (execFrameReceiveEnd p b pcs raw s).Kept s₀ := by
  simp [execFrameReceiveEnd, h]

@[simp] theorem kept_execStreamWindowFree (h : s.Kept s₀) (src : DWord) (stream : BitVec 10) :
    (execStreamWindowFree src stream s).Kept s₀ := by
  simp [execStreamWindowFree, h]

@[simp] theorem kept_execFabricEgressDiscard (h : s.Kept s₀) (n : Fin 4) (c : Fin 8) :
    (execFabricEgressDiscard n c s).Kept s₀ := by
  simp (maxDischargeDepth := 15) [execFabricEgressDiscard]
  (repeat' split) <;> simp (maxDischargeDepth := 15) [h]

@[simp] theorem kept_execPntBatchSend (h : s.Kept s₀) (st : Fin 1024) : (execPntBatchSend st s).Kept s₀ := by
  simp [execPntBatchSend, h]

@[simp] theorem kept_setDelay (h : s.Kept s₀) (n : Nat) (t1 : DWord) (t2 : DWord) (t3 : DWord) (t4 : DWord) :
    (s.setDelay n t1 t2 t3 t4).Kept s₀ := by
  simp [State.setDelay, h]

@[simp] theorem kept_execDelayExchange (h : s.Kept s₀) (n : Fin 4) (t1 : DWord) (t2 : DWord) (t3 : DWord) (t4 :
    DWord) :
    (execDelayExchange n t1 t2 t3 t4 s).Kept s₀ := by
  simp (maxDischargeDepth := 15) [execDelayExchange, h]

@[simp] theorem kept_execSyncSend (h : s.Kept s₀) (n : Fin 4) : (execSyncSend n s).Kept s₀ := by
  simp (maxDischargeDepth := 15) [execSyncSend, h]

@[simp] theorem kept_execTime (h : s.Kept s₀) (n : Fin 4) (tagOk : Bool) (hdrOk : Bool) (m : TimeMsg) :
    (execTime n tagOk hdrOk m s).Kept s₀ := by
  simp [execTime]
  (repeat' split) <;> simp [h]

@[simp] theorem kept_execFollowUpTimeout (h : s.Kept s₀) (n : Fin 4) : (execFollowUpTimeout n s).Kept s₀ := by
  simp [execFollowUpTimeout, h]

/-! ### Machine/Outbox.lean -/

@[simp] theorem kept_txEnd (h : s.Kept s₀) (e : Nat) (tag : Nat) (status : Nat) : (s.txEnd e tag status).Kept s₀ := by
  exact h

@[simp] theorem kept_sendStation (h : s.Kept s₀) (e : Nat) (tag : Nat) (d : List Byte) (body : List Byte) :
    (s.sendStation e tag d body).Kept s₀ := by
  simp [State.sendStation, h]

@[simp] theorem kept_sendTxq (h : s.Kept s₀) (e : Nat) (tag : Nat) (d : List Byte) (bad : Bool) :
    (s.sendTxq e tag d bad).Kept s₀ := by
  unfold State.sendTxq
  (repeat' split) <;> simp [h]

@[simp] theorem kept_dmaOut (h : s.Kept s₀) (e : Nat) (tag : Nat) (d : List Byte) (bad : Bool) :
    (s.dmaOut e tag d bad).Kept s₀ := by
  unfold State.dmaOut
  split <;> simp [h]

@[simp] theorem kept_carry (h : s.Kept s₀) (o : OutEntry) (bad : Bool) : KeptOpt s₀ (s.carry o bad) := by
  unfold State.carry
  split <;> simp [h]

@[simp] theorem kept_outLeave (h : s.Kept s₀) (e : Nat) (bad : Bool) : (s.outLeave e bad).Kept s₀ := by
  unfold State.outLeave
  split
  · exact h
  · next o rest _ =>
    have hc := kept_carry (kept_setEng (kept_setCl h (e / 2) { s.cl (e / 2) with outbox := rest }) e
      { s.eng e with left := o.seq + 1 }) o bad
    dsimp only
    split
    · exact kept_with.2 (kept_setCl h _ _)
    · split
      · next u hu =>
        rw [hu] at hc
        exact hc
      · exact h

@[simp] theorem kept_execOutboxRelease (h : s.Kept s₀) (e : Fin 32) (bad : Bool) : (execOutboxRelease e bad s).Kept
    s₀ := by
  simp [execOutboxRelease, h]

/-! ### Machine/RecOps.lean -/

@[simp] theorem kept_epochStart (h : s.Kept s₀) (k : Nat) : (s.epochStart k).Kept s₀ := by
  simp (maxDischargeDepth := 15) +contextual [State.epochStart, kept_foldl, h]

@[simp] theorem kept_endEpoch (h : s.Kept s₀) (k : Nat) (busy : Nat) (early : Bool) : (s.endEpoch k busy
    early).Kept s₀ := by
  simp (maxDischargeDepth := 15) [State.endEpoch, h]

@[simp] theorem kept_commit (h : s.Kept s₀) (k : Nat) : (s.commit k).Kept s₀ := by
  simp [State.commit]
  split <;> simp +contextual [kept_foldl, h]

@[simp] theorem kept_rollback (h : s.Kept s₀) (f : Flaw) : (s.rollback f).Kept s₀ := by
  simp [State.rollback, h]

@[simp] theorem kept_fence (h : s.Kept s₀) (e : Nat) : (s.fence e).Kept s₀ := by
  simp [State.fence, h]

@[simp] theorem kept_undoAll (h : s.Kept s₀) (e : Nat) : (s.undoAll e).Kept s₀ := by
  simp (maxDischargeDepth := 15) +contextual only [State.undoAll, kept_foldl, kept_bankPut, kept_setCl, h,
      implies_true]

@[simp] theorem kept_restoreEng (h : s.Kept s₀) (e : Nat) : (s.restoreEng e).Kept s₀ := by
  simp [State.restoreEng, h]

@[simp] theorem kept_restore (h : s.Kept s₀) (k : Nat) : (s.restore k).Kept s₀ := by
  simp (maxDischargeDepth := 15) +contextual [State.restore, kept_foldl, h]

@[simp] theorem kept_judgeFault (h : s.Kept s₀) (k : Nat) (lo : Bool) (hi : Bool) : (s.judgeFault k lo hi).Kept s₀
    := by
  simp (maxDischargeDepth := 15) [State.judgeFault, h]

@[simp] theorem kept_closeReplay (h : s.Kept s₀) (k : Nat) (busy : Nat) : (s.closeReplay k busy).Kept s₀ := by
  simp (maxDischargeDepth := 15) +contextual [State.closeReplay, kept_foldl, h]

/-! ### Machine/Time.lean -/

@[simp] theorem kept_execTimeStepRequest (h : s.Kept s₀) (q : Req) : (execTimeStepRequest q s).Kept s₀ := by
  simp (maxDischargeDepth := 15) +contextual [execTimeStepRequest, h]

@[simp] theorem kept_execTimeSetRequest (h : s.Kept s₀) (q : Req) : (execTimeSetRequest q s).Kept s₀ := by
  simp (maxDischargeDepth := 15) +contextual [execTimeSetRequest, h]

@[simp] theorem kept_execUtcOffsetSet (h : s.Kept s₀) (q : Req) : (execUtcOffsetSet q s).Kept s₀ := by
  simp (maxDischargeDepth := 15) +contextual [execUtcOffsetSet, h]

@[simp] theorem kept_execRefclkALoss (h : s.Kept s₀) : (execRefclkALoss s).Kept s₀ := by
  simp [execRefclkALoss, h]

@[simp] theorem kept_execRefclkARestore (h : s.Kept s₀) : (execRefclkARestore s).Kept s₀ := by
  simp [execRefclkARestore, h]

@[simp] theorem kept_execRefclkBLoss (h : s.Kept s₀) : (execRefclkBLoss s).Kept s₀ := by
  simp [execRefclkBLoss, h]

@[simp] theorem kept_execRefclkBRestore (h : s.Kept s₀) : (execRefclkBRestore s).Kept s₀ := by
  simp [execRefclkBRestore, h]

@[simp] theorem kept_execServoSample (h : s.Kept s₀) (source : Fin 4) (m : Sample) (utc : Option UtcInfo) :
    (execServoSample source m utc s).Kept s₀ := by
  simp [execServoSample, h]

@[simp] theorem kept_execServoStepApply (h : s.Kept s₀) : (execServoStepApply s).Kept s₀ := by
  unfold execServoStepApply
  split <;> simp (maxDischargeDepth := 15) [h]

@[simp] theorem kept_execSourceLossTimeout (h : s.Kept s₀) : (execSourceLossTimeout s).Kept s₀ := by
  simp [execSourceLossTimeout, h]

@[simp] theorem kept_execLeapSecond (h : s.Kept s₀) : (execLeapSecond s).Kept s₀ := by
  simp [execLeapSecond, h]

@[simp] theorem kept_execPpsInEdge (h : s.Kept s₀) (stamp : DWord) : (execPpsInEdge stamp s).Kept s₀ := by
  simp [execPpsInEdge, h]

@[simp] theorem kept_execPpsInTimeout (h : s.Kept s₀) : (execPpsInTimeout s).Kept s₀ := by
  simp [execPpsInTimeout, h]

@[simp] theorem kept_execIrigBFrame (h : s.Kept s₀) (f : IrigFrame) : (execIrigBFrame f s).Kept s₀ := by
  simp (maxDischargeDepth := 15) [execIrigBFrame, h]

@[simp] theorem kept_execIrigBLossTimeout (h : s.Kept s₀) : (execIrigBLossTimeout s).Kept s₀ := by
  simp [execIrigBLossTimeout, h]

@[simp] theorem kept_execHoldoverMaxExpiry (h : s.Kept s₀) : (execHoldoverMaxExpiry s).Kept s₀ := by
  simp [execHoldoverMaxExpiry, h]

@[simp] theorem kept_execSelfRefStepHoldEnd (h : s.Kept s₀) : (execSelfRefStepHoldEnd s).Kept s₀ := by
  simp [execSelfRefStepHoldEnd, h]

@[simp] theorem kept_execTimeUnlockedAlarm (h : s.Kept s₀) : (execTimeUnlockedAlarm s).Kept s₀ := by
  simp [execTimeUnlockedAlarm, h]

@[simp] theorem kept_execTtUnqualifiedAlarm (h : s.Kept s₀) : (execTtUnqualifiedAlarm s).Kept s₀ := by
  simp [execTtUnqualifiedAlarm, h]

/-! ### Machine/RegOps.lean -/

@[simp] theorem kept_devReg (h : s.Kept s₀) (a : Nat) : (s.devReg a).Kept s₀ := by
  simp [State.devReg, h]

@[simp] theorem kept_mbRead (h : s.Kept s₀) (n : Nat) (v : Nat) : (s.mbRead n v).Kept s₀ := by
  unfold State.mbRead
  dsimp only
  split
  · exact kept_ro
  · exact ⟨by simp, kept_setMb h _ _⟩

@[simp] theorem kept_mboxReg (h : s.Kept s₀) (n : Nat) (a : Nat) : (s.mboxReg n a).Kept s₀ := by
  have hlock : Reg.Kept s₀ {
      val := (s.hostLockRead n).1, eff := some (s.hostLockRead n).2, 
      act := some (fun w => if tst w 0 then s.hostLockRelease n else s) } :=
    ⟨fun f hf w => by cases hf; dsimp only; split <;> simp [h], kept_hostLockRead h n⟩
  simp [State.mboxReg, hlock, h]

@[simp] theorem kept_mbxReg (h : s.Kept s₀) (a : Nat) : (s.mbxReg a).Kept s₀ := by
  have hw : ∀ n w, State.Kept (s₀ := s₀) { s with mem := { s.mem with svc := Mem.writeBytes 0 s.mem.svc n (leBytes
      4 w) } } :=
    fun n w => kept_svcWrite h n (leBytes 4 w)
  unfold State.mbxReg
  dsimp only
  repeat' (first | (simp (maxDischargeDepth := 15) +contextual only [kept_ite, kept_ite_reg, kept_blank, kept_ro,
      kept_roW, kept_rw, kept_wo, kept_with, kept_resetMaster, kept_mboxReg, h, hw, implies_true,
          and_self]; done) | split)

@[simp] theorem kept_timeReg (h : s.Kept s₀) (a : Nat) : (s.timeReg a).Kept s₀ := by
  simp [State.timeReg, h]
  repeat' (first | (simp [h]; done) | split | refine ⟨fun _ => ?_, fun _ => ?_⟩ | refine fun _ => ?_)

@[simp] theorem kept_ttReg (h : s.Kept s₀) (a : Nat) : (s.ttReg a).Kept s₀ := by
  simp [State.ttReg]
  (repeat' split) <;> simp [h]

/-! ### Machine/RegsCore.lean -/

@[simp] theorem kept_dbgCtrl (h : s.Kept s₀) (e : Nat) (w : Nat) : (s.dbgCtrl e w).Kept s₀ := by
  simp [State.dbgCtrl, h]

@[simp] theorem kept_engReg (h : s.Kept s₀) (e : Nat) (a : Nat) : (s.engReg e a).Kept s₀ := by
  simp [State.engReg, h]

@[simp] theorem kept_clReg (h : s.Kept s₀) (k : Nat) (a : Nat) : (s.clReg k a).Kept s₀ := by
  simp [State.clReg, h]

@[simp] theorem kept_recReg (h : s.Kept s₀) (a : Nat) : (s.recReg a).Kept s₀ := by
  simp [State.recReg, h]
  repeat' (first | (simp [h]; done) | split | refine ⟨fun _ => ?_, fun _ => ?_⟩ | refine fun _ => ?_)

@[simp] theorem kept_dumpReg (h : s.Kept s₀) (a : Nat) : (s.dumpReg a).Kept s₀ := by
  simp [State.dumpReg, h]

@[simp] theorem kept_putBytes (h : s.Kept s₀) (typ : Nat) (inst : Nat) (len : Nat) (off : Nat) (bs : List Byte) :
    (s.putBytes typ inst len off bs).Kept s₀ := by
  exact h

@[simp] theorem kept_canCtrl (h : s.Kept s₀) (c : Nat) (w : Nat) : (s.canCtrl c w).Kept s₀ := by
  simp (maxDischargeDepth := 15) [State.canCtrl, h]

@[simp] theorem kept_nbtWrite (h : s.Kept s₀) (c : Nat) (w : Nat) : (s.nbtWrite c w).Kept s₀ := by
  exact h

@[simp] theorem kept_dbtWrite (h : s.Kept s₀) (c : Nat) (w : Nat) : (s.dbtWrite c w).Kept s₀ := by
  exact h

@[simp] theorem kept_tdcWrite (h : s.Kept s₀) (c : Nat) (w : Nat) : (s.tdcWrite c w).Kept s₀ := by
  exact h

@[simp] theorem kept_canReg (h : s.Kept s₀) (c : Nat) (a : Nat) : (s.canReg c a).Kept s₀ := by
  simp [State.canReg, h]
  repeat' (first | (simp [h]; done) | split | refine ⟨fun _ => ?_, fun _ => ?_⟩ | refine fun _ => ?_)

@[simp] theorem kept_storeWrite (h : s.Kept s₀) (g : Nat) (f : CeGroup → CeGroup) : (s.storeWrite g f).Kept s₀ := by
  simp [State.storeWrite, h]

@[simp] theorem kept_grpReg (h : s.Kept s₀) (g : Nat) (a : Nat) : (s.grpReg g a).Kept s₀ := by
  simp [State.grpReg, h]

@[simp] theorem kept_ceReg (h : s.Kept s₀) (e : Nat) (a : Nat) : (s.ceReg e a).Kept s₀ := by
  simp [State.ceReg, h]

@[simp] theorem kept_pinReg (h : s.Kept s₀) (p : Nat) (a : Nat) : (s.pinReg p a).Kept s₀ := by
  simp [State.pinReg, h]

@[simp] theorem kept_progReg (h : s.Kept s₀) (g : Nat) (a : Nat) : (s.progReg g a).Kept s₀ := by
  simp [State.progReg, h]

@[simp] theorem kept_chvReg (h : s.Kept s₀) (a : Nat) : (s.chvReg a).Kept s₀ := by
  unfold State.chvReg
  (repeat' split) <;> simp [h]

@[simp] theorem kept_islandReg (h : s.Kept s₀) (i : Nat) (a : Nat) : (s.islandReg i a).Kept s₀ := by
  simp [State.islandReg]

@[simp] theorem kept_ageReg (h : s.Kept s₀) (a : Nat) : (s.ageReg a).Kept s₀ := by
  simp [State.ageReg, h]
  repeat' (first | (simp [h]; done) | split | refine ⟨fun _ => ?_, fun _ => ?_⟩ | refine fun _ => ?_)

/-! ### Machine/AgeOps.lean -/

@[simp] theorem kept_setIsland (h : s.Kept s₀) (i : Nat) (x : AgeIsland) : (s.setIsland i x).Kept s₀ := by
  exact ⟨by simp [h.1], fun hw => by simp [h.2 hw]⟩

@[simp] theorem kept_setRail (h : s.Kept s₀) (r : Nat) (x : AgeRail) : (s.setRail r x).Kept s₀ := by
  exact ⟨by simp [h.1], fun hw => by simp [h.2 hw]⟩

@[simp] theorem kept_ageEvent (h : s.Kept s₀) (b : Nat) : (s.ageEvent b).Kept s₀ := by
  exact h

@[simp] theorem kept_setStep (h : s.Kept s₀) (i : Nat) (n : Nat) : (s.setStep i n).Kept s₀ := by
  simp [State.setStep, h]

@[simp] theorem kept_moveRail (h : s.Kept s₀) (r : Nat) (v : Nat) : (s.moveRail r v).Kept s₀ := by
  exact h

@[simp] theorem kept_freezeRail (h : s.Kept s₀) (r : Nat) (status : Byte) : (s.freezeRail r status).Kept s₀ := by
  simp (maxDischargeDepth := 15) +contextual [State.freezeRail, kept_foldl, h]

@[simp] theorem kept_raiseSteps (h : s.Kept s₀) (r : Nat) : (s.raiseSteps r).Kept s₀ := by
  unfold State.raiseSteps
  refine kept_foldl (fun t a ht => ?_) h
  dsimp only
  repeat' (first | (simp +contextual [ht]; done) | split)

@[simp] theorem kept_cycleDone (h : s.Kept s₀) : s.cycleDone.Kept s₀ := by
  unfold State.cycleDone
  split <;> simp [h]

/-! ### Machine/Age.lean -/

@[simp] theorem kept_latch (h : s.Kept s₀) (x : Sentinel) : (s.latch x).Kept s₀ := by
  simp (maxDischargeDepth := 15) [State.latch, h]

@[simp] theorem kept_latchEye (h : s.Kept s₀) (l : Nat) (half : Byte) (v : BitVec 16) : (s.latchEye l half v).Kept
    s₀ := by
  unfold State.latchEye
  grind [State.Kept, kept_ageEvent]

@[simp] theorem kept_wear (h : s.Kept s₀) (i : Nat) : (s.wear i).Kept s₀ := by
  simp [State.wear, h]

@[simp] theorem kept_lifeOf (h : s.Kept s₀) (i : Nat) : (s.lifeOf i).Kept s₀ := by
  simp (maxDischargeDepth := 15) [State.lifeOf, h]

@[simp] theorem kept_deviceLife (h : s.Kept s₀) : s.deviceLife.Kept s₀ := by
  simp +contextual [State.deviceLife, h]

@[simp] theorem kept_planRail (h : s.Kept s₀) (r : Nat) : (s.planRail r).Kept s₀ := by
  simp (maxDischargeDepth := 15) +contextual only [State.planRail, kept_ite, kept_foldl, kept_setRail,
      kept_setStep, kept_ageEvent, kept_setIsland, kept_raiseSteps, kept_moveRail, h, implies_true, and_self]

@[simp] theorem kept_execPlanningCycle (h : s.Kept s₀) (l : List Sentinel) (eyes : List (Fin 20 × Byte × BitVec 16)) :
    (execPlanningCycle l eyes s).Kept s₀ := by
  simp (maxDischargeDepth := 15) +contextual [execPlanningCycle, kept_foldl, h]

@[simp] theorem kept_learnSens (h : s.Kept s₀) (i : Nat) (slack : Int) (incr : Int) : (s.learnSens i slack
    incr).Kept s₀ := by
  simp [State.learnSens, h]

@[simp] theorem kept_execRailSettle (h : s.Kept s₀) (r : Fin 3) (x : RailCheck) : (execRailSettle r x s).Kept s₀ := by
  simp (maxDischargeDepth := 15) +contextual [execRailSettle, kept_foldl, h]

@[simp] theorem kept_guardRail (h : s.Kept s₀) (i : Nat) (quiet : Bool) : (s.guardRail i quiet).Kept s₀ := by
  unfold State.guardRail
  split <;> simp [h]

@[simp] theorem kept_execFastGuardTrip (h : s.Kept s₀) (i : Fin 46) (slack : Int) :
    (execFastGuardTrip i slack s).Kept s₀ := by
  simp (maxDischargeDepth := 15) [execFastGuardTrip]
  (repeat' split) <;> simp (maxDischargeDepth := 15) +contextual [kept_foldl, h]

@[simp] theorem kept_execStepDeferApply (h : s.Kept s₀) (k : Fin 16) : (execStepDeferApply k s).Kept s₀ := by
  simp (maxDischargeDepth := 15) [execStepDeferApply]
  split <;> simp (maxDischargeDepth := 15) [h]

@[simp] theorem kept_execPmbAlert (h : s.Kept s₀) (l : List (Fin 3 × Bool × Byte)) : (execPmbAlert l s).Kept s₀ := by
  simp (maxDischargeDepth := 15) +contextual [execPmbAlert, kept_foldl, h]

@[simp] theorem kept_execLedgerWriteComplete (h : s.Kept s₀) (ok : Bool) : (execLedgerWriteComplete ok s).Kept s₀
    := by
  simp only [execLedgerWriteComplete]
  (repeat' split) <;> simp (maxDischargeDepth := 15) only [kept_with, kept_next, kept_nvmErase, kept_nvmWrite,
      kept_done, kept_ageEvent, h]

/-! ### Machine/Alu.lean -/

@[simp] theorem kept_alu (h : s.Kept s₀) (i : Issue) (fn : Nat) (f : Nat → Nat → Nat) : (s.alu i fn f).Kept s₀ := by
  simp +contextual [State.alu, h]

@[simp] theorem kept_execAdd (h : s.Kept s₀) (i : Issue) : (execAdd i s).Kept s₀ := by
  simp [execAdd, h]

@[simp] theorem kept_execSub (h : s.Kept s₀) (i : Issue) : (execSub i s).Kept s₀ := by
  simp [execSub, h]

@[simp] theorem kept_execAnd (h : s.Kept s₀) (i : Issue) : (execAnd i s).Kept s₀ := by
  simp [execAnd, h]

@[simp] theorem kept_execOr (h : s.Kept s₀) (i : Issue) : (execOr i s).Kept s₀ := by
  simp [execOr, h]

@[simp] theorem kept_execXor (h : s.Kept s₀) (i : Issue) : (execXor i s).Kept s₀ := by
  simp [execXor, h]

@[simp] theorem kept_execAndn (h : s.Kept s₀) (i : Issue) : (execAndn i s).Kept s₀ := by
  simp [execAndn, h]

@[simp] theorem kept_execSll (h : s.Kept s₀) (i : Issue) : (execSll i s).Kept s₀ := by
  simp [execSll, h]

@[simp] theorem kept_execSrl (h : s.Kept s₀) (i : Issue) : (execSrl i s).Kept s₀ := by
  simp [execSrl, h]

@[simp] theorem kept_execSra (h : s.Kept s₀) (i : Issue) : (execSra i s).Kept s₀ := by
  simp [execSra, h]

@[simp] theorem kept_execRor (h : s.Kept s₀) (i : Issue) : (execRor i s).Kept s₀ := by
  simp [execRor, h]

@[simp] theorem kept_execMin (h : s.Kept s₀) (i : Issue) : (execMin i s).Kept s₀ := by
  simp [execMin, h]

@[simp] theorem kept_execMax (h : s.Kept s₀) (i : Issue) : (execMax i s).Kept s₀ := by
  simp [execMax, h]

@[simp] theorem kept_execMinu (h : s.Kept s₀) (i : Issue) : (execMinu i s).Kept s₀ := by
  simp [execMinu, h]

@[simp] theorem kept_execMaxu (h : s.Kept s₀) (i : Issue) : (execMaxu i s).Kept s₀ := by
  simp [execMaxu, h]

@[simp] theorem kept_execMul (h : s.Kept s₀) (i : Issue) : (execMul i s).Kept s₀ := by
  simp [execMul, h]

@[simp] theorem kept_execMulh (h : s.Kept s₀) (i : Issue) : (execMulh i s).Kept s₀ := by
  simp [execMulh, h]

@[simp] theorem kept_execMulhu (h : s.Kept s₀) (i : Issue) : (execMulhu i s).Kept s₀ := by
  simp [execMulhu, h]

@[simp] theorem kept_execDiv (h : s.Kept s₀) (i : Issue) : (execDiv i s).Kept s₀ := by
  simp [execDiv, h]

@[simp] theorem kept_execDivu (h : s.Kept s₀) (i : Issue) : (execDivu i s).Kept s₀ := by
  simp [execDivu, h]

@[simp] theorem kept_execRem (h : s.Kept s₀) (i : Issue) : (execRem i s).Kept s₀ := by
  simp [execRem, h]

@[simp] theorem kept_execRemu (h : s.Kept s₀) (i : Issue) : (execRemu i s).Kept s₀ := by
  simp [execRemu, h]

@[simp] theorem kept_execClz (h : s.Kept s₀) (i : Issue) : (execClz i s).Kept s₀ := by
  simp [execClz, h]

@[simp] theorem kept_execCtz (h : s.Kept s₀) (i : Issue) : (execCtz i s).Kept s₀ := by
  simp [execCtz, h]

@[simp] theorem kept_execPopc (h : s.Kept s₀) (i : Issue) : (execPopc i s).Kept s₀ := by
  simp [execPopc, h]

@[simp] theorem kept_execBswap (h : s.Kept s₀) (i : Issue) : (execBswap i s).Kept s₀ := by
  simp [execBswap, h]

@[simp] theorem kept_immOp (h : s.Kept s₀) (i : Issue) (major : Nat) (bad : Nat → Bool) (f : Nat → Nat → Nat) :
    (s.immOp i major bad f).Kept s₀ := by
  simp +contextual [State.immOp, h]

@[simp] theorem kept_execAddi (h : s.Kept s₀) (i : Issue) : (execAddi i s).Kept s₀ := by
  simp [execAddi, h]

@[simp] theorem kept_execAndi (h : s.Kept s₀) (i : Issue) : (execAndi i s).Kept s₀ := by
  simp [execAndi, h]

@[simp] theorem kept_execOri (h : s.Kept s₀) (i : Issue) : (execOri i s).Kept s₀ := by
  simp [execOri, h]

@[simp] theorem kept_execXori (h : s.Kept s₀) (i : Issue) : (execXori i s).Kept s₀ := by
  simp [execXori, h]

@[simp] theorem kept_execShi (h : s.Kept s₀) (i : Issue) : (execShi i s).Kept s₀ := by
  simp [execShi, h]

@[simp] theorem kept_execLil (h : s.Kept s₀) (i : Issue) : (execLil i s).Kept s₀ := by
  simp +contextual [execLil, h]

@[simp] theorem kept_execLih (h : s.Kept s₀) (i : Issue) : (execLih i s).Kept s₀ := by
  simp +contextual [execLih, h]

@[simp] theorem kept_putP (h : s.Kept s₀) (e : Nat) (pd : Nat) (v : Bool) : (s.putP e pd v).Kept s₀ := by
  exact h

@[simp] theorem kept_execCmp (h : s.Kept s₀) (i : Issue) : (execCmp i s).Kept s₀ := by
  simp +contextual [execCmp, h]

@[simp] theorem kept_execCmpi (h : s.Kept s₀) (i : Issue) : (execCmpi i s).Kept s₀ := by
  simp +contextual [execCmpi, h]

@[simp] theorem kept_execPlog (h : s.Kept s₀) (i : Issue) : (execPlog i s).Kept s₀ := by
  simp +contextual [execPlog, h]

/-! ### Machine/Dump.lean -/

@[simp] theorem kept_showDump (h : s.Kept s₀) (st : BitVec 2) (reason : Nat) (comp : Nat) (unsigned_ : Bool) (win :
    Mem) :
    (s.showDump st reason comp unsigned_ win).Kept s₀ := by
  exact h

@[simp] theorem kept_offerDump (h : s.Kept s₀) (f : FatalRec) : (s.offerDump f).Kept s₀ := by
  exact h

@[simp] theorem kept_execFatalError (h : s.Kept s₀) (x : Option FatalCause) : (execFatalError x s).Kept s₀ := by
  simp (maxDischargeDepth := 15) [execFatalError]
  split <;> split <;> simp (maxDischargeDepth := 15) [h]

@[simp] theorem kept_storeDump (h : s.Kept s₀) (r : Region) : (s.storeDump r).Kept s₀ := by
  simp (maxDischargeDepth := 15) [State.storeDump, h]

@[simp] theorem kept_execDumpNvmWriteComplete (h : s.Kept s₀) : (execDumpNvmWriteComplete s).Kept s₀ := by
  unfold execDumpNvmWriteComplete
  split <;> simp [h]

@[simp] theorem kept_execDumpCopyComplete (h : s.Kept s₀) : (execDumpCopyComplete s).Kept s₀ := by
  unfold execDumpCopyComplete
  split <;> simp [h]

@[simp] theorem kept_execDumpEraseComplete (h : s.Kept s₀) : (execDumpEraseComplete s).Kept s₀ := by
  simp (maxDischargeDepth := 15) only [execDumpEraseComplete, kept_with, kept_ite_out, kept_next, kept_eraseRegion,
      kept_done, h, implies_true, and_self]

@[simp] theorem kept_execReasonOnlyDumpWrite (h : s.Kept s₀) : (execReasonOnlyDumpWrite s).Kept s₀ := by
  simp only [execReasonOnlyDumpWrite]
  (repeat' split) <;> simp (maxDischargeDepth := 15) only [kept_with, kept_next, kept_done, kept_nvmWrite, h]

/-! ### Machine/Personality.lean -/

@[simp] theorem kept_instServe (h : s.Kept s₀) (q : Req) (code : Nat) (f : State → Nat → State ⊕ Nat) (hf : ∀ t e,
    t.Kept s₀ → KeptSum s₀ (f t e)) :
    (s.instServe q code f).Kept s₀ := by
  simp +contextual [State.instServe, hf, h]

@[simp] theorem kept_execPersonalityRestart (h : s.Kept s₀) (q : Req) : (execPersonalityRestart q s).Kept s₀ := by
  simp (maxDischargeDepth := 15) +contextual [execPersonalityRestart, h]

@[simp] theorem kept_execPersonalityStop (h : s.Kept s₀) (q : Req) : (execPersonalityStop q s).Kept s₀ := by
  simp (maxDischargeDepth := 15) +contextual [execPersonalityStop, h]

@[simp] theorem kept_execPersonalityStart (h : s.Kept s₀) (q : Req) : (execPersonalityStart q s).Kept s₀ := by
  simp (maxDischargeDepth := 15) +contextual [execPersonalityStart, h]

@[simp] theorem kept_execInstanceRestart (h : s.Kept s₀) (e : Fin 32) (ok : Bool) : (execInstanceRestart e ok
    s).Kept s₀ := by
  unfold execInstanceRestart
  (repeat' split) <;> simp (maxDischargeDepth := 15) only [kept_ite, kept_next, kept_setCl, kept_haltInstance,
      kept_restartInstance, kept_failInstance, kept_final, kept_done, h, implies_true, and_self]

@[simp] theorem kept_execStoreAppendOpen (h : s.Kept s₀) (q : Req) : (execStoreAppendOpen q s).Kept s₀ := by
  unfold execStoreAppendOpen
  split
  · refine kept_done (kept_serve h _ _ _ _ fun t ht => ?_)
    dsimp only
    repeat' (first | (simp (maxDischargeDepth := 15) +contextual only [kept_with, kept_ite_sum, kept_inl, kept_inr,
        kept_nvmErase, kept_nvmWrite, kept_finish, ht, implies_true, and_self, true_and]; done) | split)
  · exact h

@[simp] theorem kept_execStoreAppendWrite (h : s.Kept s₀) (q : Req) : (execStoreAppendWrite q s).Kept s₀ := by
  unfold execStoreAppendWrite
  split
  · refine kept_done (kept_serve h _ _ _ _ fun t ht => ?_)
    dsimp only
    repeat' (first | (simp (maxDischargeDepth := 15) +contextual only [kept_with, kept_ite_sum, kept_inl, kept_inr,
        kept_nvmWrite, kept_finish, ht, implies_true, and_self, true_and]; done) | split)
  · exact h

@[simp] theorem kept_execStoreAppendCommit (h : s.Kept s₀) (q : Req) (v : Verdict) (vpkSig : Bool) (nvmOk : Bool) :
    (execStoreAppendCommit q v vpkSig nvmOk s).Kept s₀ := by
  unfold execStoreAppendCommit
  split
  · refine kept_done (kept_serve h _ _ _ _ fun t ht => ?_)
    dsimp only
    repeat' (first | (simp +contextual [ht]; done) | split)
  · exact h

@[simp] theorem kept_execStoreEntryRemove (h : s.Kept s₀) (q : Req) : (execStoreEntryRemove q s).Kept s₀ := by
  unfold execStoreEntryRemove
  split
  · refine kept_done (kept_serve h _ _ _ _ fun t ht => ?_)
    dsimp only
    repeat' (first | (simp +contextual [ht]; done) | split)
  · exact h

@[simp] theorem kept_execStoreErase (h : s.Kept s₀) (q : Req) (v : Verdict) : (execStoreErase q v s).Kept s₀ := by
  unfold execStoreErase
  split
  · refine kept_done (kept_serve h _ _ _ _ fun t ht => ?_)
    repeat' (first | (simp +contextual [ht]; done) | split)
  · exact h

@[simp] theorem kept_jobApply (h : s.Kept s₀) (j : NvmJob) : (s.jobApply j).Kept s₀ := by
  unfold State.jobApply
  (repeat' split) <;> simp [h]

@[simp] theorem kept_jobAfter (h : s.Kept s₀) (j : NvmJob) (ok : Bool) : (s.jobAfter j ok).Kept s₀ := by
  unfold State.jobAfter
  split <;> simp [h]

@[simp] theorem kept_execNvmWriteComplete (h : s.Kept s₀) (ok : Bool) : (execNvmWriteComplete ok s).Kept s₀ := by
  unfold execNvmWriteComplete
  split <;> simp (maxDischargeDepth := 15) [h]

/-! ### Machine/Rosemary.lean -/

@[simp] theorem kept_execEpochEnd (h : s.Kept s₀) (k : Fin 16) (busy : Fin 101) (early : Bool) :
    (execEpochEnd k busy early s).Kept s₀ := by
  simp [execEpochEnd, h]

@[simp] theorem kept_execEpochCommit (h : s.Kept s₀) (k : Fin 16) : (execEpochCommit k s).Kept s₀ := by
  simp [execEpochCommit, h]

@[simp] theorem kept_execCommitDeadlineMiss (h : s.Kept s₀) (k : Fin 16) (why : CommitMiss) :
    (execCommitDeadlineMiss k why s).Kept s₀ := by
  simp (maxDischargeDepth := 15) [execCommitDeadlineMiss, h]

@[simp] theorem kept_execSignatureMismatch (h : s.Kept s₀) (k : Fin 16) : (execSignatureMismatch k s).Kept s₀ := by
  simp [execSignatureMismatch, h]

@[simp] theorem kept_execPlausibilityFail (h : s.Kept s₀) (e : Fin 32) : (execPlausibilityFail e s).Kept s₀ := by
  simp [execPlausibilityFail, h]

@[simp] theorem kept_execRestoreComplete (h : s.Kept s₀) (k : Fin 16) (lo : Bool) (hi : Bool) :
    (execRestoreComplete k lo hi s).Kept s₀ := by
  simp [execRestoreComplete, h]

@[simp] theorem kept_execReplayEnd (h : s.Kept s₀) (k : Fin 16) (busy : Fin 101) : (execReplayEnd k busy s).Kept s₀
    := by
  simp [execReplayEnd, h]

@[simp] theorem kept_restartFault (h : s.Kept s₀) (e : Nat) (cls : Nat) (detail : Word) :
    (s.restartFault e cls detail).Kept s₀ := by
  simp [State.restartFault, h]

@[simp] theorem kept_execWatchdogExpiry (h : s.Kept s₀) (e : Fin 32) : (execWatchdogExpiry e s).Kept s₀ := by
  simp (maxDischargeDepth := 15) [execWatchdogExpiry, h]

@[simp] theorem kept_execDramIslandFailure (h : s.Kept s₀) (x : DramEvent) : (execDramIslandFailure x s).Kept s₀ := by
  unfold execDramIslandFailure
  (repeat' split) <;> simp (maxDischargeDepth := 15) only [kept_with, kept_next, kept_done, kept_fatal, h]

/-! ### Machine/Ecc.lean -/

@[simp] theorem kept_countEcc (h : s.Kept s₀) (w : EccAt) : (s.countEcc w).Kept s₀ := by
  unfold State.countEcc
  split <;> simp [h]

@[simp] theorem kept_takeSpare (h : s.Kept s₀) (e : Nat) : (s.takeSpare e).Kept s₀ := by
  exact h

@[simp] theorem kept_noteFail (h : s.Kept s₀) (e : Nat) (line : Nat) : (s.noteFail e line).Kept s₀ := by
  exact h

@[simp] theorem kept_repairLine (h : s.Kept s₀) (e : Nat) (line : Nat) : (s.repairLine e line).Kept s₀ := by
  simp [State.repairLine, h]

@[simp] theorem kept_bankEcc (h : s.Kept s₀) (e : Nat) (line : Nat) : (s.bankEcc e line).Kept s₀ := by
  simp (maxDischargeDepth := 15) [State.bankEcc, h]

@[simp] theorem kept_loseFrame (h : s.Kept s₀) (fid : Nat) : (s.loseFrame fid).Kept s₀ := by
  unfold State.loseFrame
  split
  · exact h
  · simp only
    refine kept_tryRelease ?_ fid
    refine kept_with.2 (kept_foldl (fun t k ht => ?_) (kept_foldl (fun t n ht => ?_) (kept_setFrame h _ _)))
    · split
      · exact kept_copyGone (kept_setCl ht _ _) _ _
      · exact ht
    · split
      · exact kept_dropCopy ht _ _ _ _
      · exact ht

@[simp] theorem kept_sageEcc (h : s.Kept s₀) (both : Bool) : (s.sageEcc both).Kept s₀ := by
  simp [State.sageEcc, h]

@[simp] theorem kept_journalEcc (h : s.Kept s₀) (k : Nat) (free : Bool) : (s.journalEcc k free).Kept s₀ := by
  simp [State.journalEcc, h]

@[simp] theorem kept_pointEcc (h : s.Kept s₀) (p : Nat) : (s.pointEcc p).Kept s₀ := by
  simp [State.pointEcc, h]

@[simp] theorem kept_mailboxEcc (h : s.Kept s₀) (n : Nat) (home : Bool) (i : Nat) : (s.mailboxEcc n home i).Kept s₀
    := by
  exact h

@[simp] theorem kept_captureEcc (h : s.Kept s₀) (slot : Nat) : (s.captureEcc slot).Kept s₀ := by
  refine ⟨h.1, fun hw => ?_⟩
  obtain ⟨hnvm, hbank, hsvc, hcap, hdram⟩ := (mems_wf_iff _).1 (h.2 hw)
  exact (mems_wf_iff _).2 ⟨hnvm, hbank, hsvc, Mem.wf_clearRange hcap _ _, hdram⟩

@[simp] theorem kept_fdbEcc (h : s.Kept s₀) (addr : BitVec 48) (vid : Nat) : (s.fdbEcc addr vid).Kept s₀ := by
  exact h

@[simp] theorem kept_execEccUncorrectable (h : s.Kept s₀) (w : EccAt) : (execEccUncorrectable w s).Kept s₀ := by
  unfold execEccUncorrectable
  split
  · exact h
  · have ht := kept_countEcc h w
    dsimp only
    generalize s.countEcc w = t at ht
    split
    case _ => exact kept_done (kept_bankEcc ht _ _)
    case _ =>
      split
      · exact kept_done (kept_loseFrame ht _)
      · exact kept_done ht
    case _ => exact kept_done (kept_journalEcc ht _ _)
    case _ => exact kept_done (kept_sageEcc ht _)
    case _ => exact kept_done (kept_fdbEcc ht _ _)
    case _ => exact kept_done (kept_with.2 (kept_outsideFault ht _ _ _))
    case _ => exact kept_done (kept_outsideFault ht _ _ _)
    case _ => exact kept_done (kept_captureEcc ht _)
    case _ => exact kept_done (kept_setPort (kept_outsideFault ht _ _ _) _ _)
    case _ => exact kept_done (kept_with.2 (kept_outsideFault ht _ _ _))
    case _ => exact kept_done (kept_mailboxEcc ht _ _ _)
    case _ =>
      split
      · exact kept_unitEcc (kept_outsideFault ht _ _ _) _
      · exact kept_done (kept_outsideFault ht _ _ _)
    case _ => exact kept_done (kept_draw (kept_svcWrite (kept_outsideFault ht _ _ _) _ _))
    case _ => exact kept_done (kept_pointEcc ht _)

/-! ### Machine/Edit.lean -/

@[simp] theorem kept_fdbApply (h : s.Kept s₀) (e : List Byte) : KeptOpt s₀ (s.fdbApply e) := by
  simp [State.fdbApply, h]

@[simp] theorem kept_fdbApplyAll (h : s.Kept s₀) (x0 : List (List Byte)) : KeptOpt s₀ (s.fdbApplyAll x0) := by
  induction x0 generalizing s with
  | nil => exact h
  | cons a l ih =>
    have ha := kept_fdbApply h a
    unfold State.fdbApplyAll
    split
    · next t ht =>
      rw [ht] at ha
      exact ih ha
    · trivial

@[simp] theorem kept_swApply (h : s.Kept s₀) (r : Rec) : KeptOpt s₀ (s.swApply r) := by
  unfold State.swApply
  split <;> simp [h]

@[simp] theorem kept_swApplyAll (h : s.Kept s₀) (x0 : List Rec) : KeptOpt s₀ (s.swApplyAll x0) := by
  induction x0 generalizing s with
  | nil => exact h
  | cons a l ih =>
    have ha := kept_swApply h a
    unfold State.swApplyAll
    split
    · next t ht =>
      rw [ht] at ha
      exact ih ha
    · trivial

@[simp] theorem kept_edit (h : s.Kept s₀) (rs : List Rec) : KeptSum s₀ (s.edit rs) := by
  simp only [State.edit]
  split
  · trivial
  · split
    · trivial
    · split
      · trivial
      · have ha := kept_swApplyAll h rs
        split
        · trivial
        · next t ht =>
          rw [ht] at ha
          exact ha

@[simp] theorem kept_editServe (h : s.Kept s₀) (q : Req) (code : Nat) (rs : List Rec) : (s.editServe q code
    rs).Kept s₀ := by
  have he := kept_edit h rs
  unfold State.editServe
  split
  · next t ht =>
    rw [ht] at he
    exact kept_finish he q code []
  · exact kept_refuse (kept_with.2 h) _ _ _ _
  · exact kept_refuse h _ _ _ _

@[simp] theorem kept_editReq (h : s.Kept s₀) (q : Req) (code : Nat) (typ : Nat) : (s.editReq q code typ).Kept s₀ := by
  simp +contextual [State.editReq, h]

@[simp] theorem kept_applyCore (h : s.Kept s₀) (b : List Byte) : (s.applyCore b).Kept s₀ := by
  exact h

@[simp] theorem kept_execTableEditCore (h : s.Kept s₀) (q : Req) : (execTableEditCore q s).Kept s₀ := by
  simp (maxDischargeDepth := 15) +contextual [execTableEditCore, h]

@[simp] theorem kept_execTableEditPort (h : s.Kept s₀) (q : Req) : (execTableEditPort q s).Kept s₀ := by
  simp [execTableEditPort, h]

@[simp] theorem kept_execTableEditRed (h : s.Kept s₀) (q : Req) : (execTableEditRed q s).Kept s₀ := by
  simp [execTableEditRed, h]

@[simp] theorem kept_execTableEditMeter (h : s.Kept s₀) (q : Req) : (execTableEditMeter q s).Kept s₀ := by
  simp [execTableEditMeter, h]

@[simp] theorem kept_execTableEditVlan (h : s.Kept s₀) (q : Req) : (execTableEditVlan q s).Kept s₀ := by
  simp [execTableEditVlan, h]

@[simp] theorem kept_execTableEditFdb (h : s.Kept s₀) (q : Req) : (execTableEditFdb q s).Kept s₀ := by
  simp [execTableEditFdb, h]

@[simp] theorem kept_execTableEditMcast (h : s.Kept s₀) (q : Req) : (execTableEditMcast q s).Kept s₀ := by
  simp [execTableEditMcast, h]

@[simp] theorem kept_execTableEditRule (h : s.Kept s₀) (q : Req) : (execTableEditRule q s).Kept s₀ := by
  simp [execTableEditRule, h]

@[simp] theorem kept_execTableEditBatch (h : s.Kept s₀) (q : Req) : (execTableEditBatch q s).Kept s₀ := by
  unfold execTableEditBatch
  split
  · refine kept_done (kept_serve h _ _ _ _ fun t ht => ?_)
    dsimp only
    repeat' (first | (simp +contextual [ht]; done) | split)
  · exact h

@[simp] theorem kept_applyQuota (h : s.Kept s₀) (inst : Nat) (b : List Byte) : (s.applyQuota inst b).Kept s₀ := by
  exact h

@[simp] theorem kept_execQuotaChange (h : s.Kept s₀) (q : Req) : (execQuotaChange q s).Kept s₀ := by
  simp (maxDischargeDepth := 15) +contextual [execQuotaChange, h]

/-! ### Machine/Flow.lean -/

@[simp] theorem kept_execBr (h : s.Kept s₀) (i : Issue) : (execBr i s).Kept s₀ := by
  simp +contextual [execBr, h]

@[simp] theorem kept_execCall (h : s.Kept s₀) (i : Issue) : (execCall i s).Kept s₀ := by
  simp +contextual [execCall, h]

@[simp] theorem kept_jumpTo (h : s.Kept s₀) (a : Nat) (f : State → State) (hf : ∀ t, t.Kept s₀ → (f t).Kept s₀) :
    (s.jumpTo a f).Kept s₀ := by
  unfold State.jumpTo
  split <;> simp [hf, h]

@[simp] theorem kept_execJr (h : s.Kept s₀) (i : Issue) : (execJr i s).Kept s₀ := by
  simp +contextual [execJr, h]

@[simp] theorem kept_execJalr (h : s.Kept s₀) (i : Issue) : (execJalr i s).Kept s₀ := by
  simp (maxDischargeDepth := 15) +contextual [execJalr, h]

@[simp] theorem kept_execReti (h : s.Kept s₀) (i : Issue) : (execReti i s).Kept s₀ := by
  simp +contextual [execReti, h]

@[simp] theorem kept_execLoop (h : s.Kept s₀) (i : Issue) : (execLoop i s).Kept s₀ := by
  simp +contextual [execLoop, h]

@[simp] theorem kept_rep (h : s.Kept s₀) (i : Issue) (next : Word) (fn : Nat) : (s.rep i next fn).Kept s₀ := by
  simp +contextual [State.rep, h]

@[simp] theorem kept_execRepI (h : s.Kept s₀) (i : Issue) (next : Word) : (execRepI i next s).Kept s₀ := by
  simp [execRepI, h]

@[simp] theorem kept_execRepA (h : s.Kept s₀) (i : Issue) (next : Word) : (execRepA i next s).Kept s₀ := by
  simp [execRepA, h]

@[simp] theorem kept_retireIter (h : s.Kept s₀) (e : Nat) : (s.retireIter e).Kept s₀ := by
  simp [State.retireIter, h]

@[simp] theorem kept_strEnd (h : s.Kept s₀) (e : Nat) (pd : Option (Nat × Bool)) : (s.strEnd e pd).Kept s₀ := by
  simp [State.strEnd, h]

@[simp] theorem kept_strRun (h : s.Kept s₀) (it : State → Nat → Iter) (hasPd : Option Nat) (zero : Bool) (e : Nat)
    (w : Nat) (x0 : Nat) (hf : ∀ t w, t.Kept s₀ → (it t w).Kept s₀) :
    (State.strRun it hasPd zero e w x0 s).Kept s₀ := by
  induction x0 generalizing s with
  | zero => exact h
  | succ f ih =>
    unfold State.strRun
    dsimp only
    split
    · exact kept_strEnd h e _
    · have hi := hf s w h
      split
      · exact kept_trap h e _ _ _
      · exact kept_strEnd h e _
      · next t ht =>
        rw [ht] at hi
        split
        · exact kept_strEnd hi e _
        · split
          · exact kept_retireIter hi e
          · exact ih (kept_retireIter hi e)

@[simp] theorem kept_str (h : s.Kept s₀) (i : Issue) (op : Nat) (pd : Bool) (zero : Bool) (it : State → Nat → Iter)
    (hf : ∀ t w, t.Kept s₀ → (it t w).Kept s₀) :
    (s.str i op pd zero it).Kept s₀ := by
  simp (maxDischargeDepth := 15) +contextual [State.str, hf, h]

@[simp] theorem kept_execSmov (h : s.Kept s₀) (i : Issue) : (execSmov i s).Kept s₀ := by
  unfold execSmov
  refine kept_str h _ _ _ _ _ fun t w ht => ?_
  dsimp only
  repeat' (first | (simp +contextual [h, ht]; done) | split)

@[simp] theorem kept_execSfil (h : s.Kept s₀) (i : Issue) : (execSfil i s).Kept s₀ := by
  unfold execSfil
  refine kept_str h _ _ _ _ _ fun t w ht => ?_
  dsimp only
  repeat' (first | (simp +contextual [h, ht]; done) | split)

@[simp] theorem kept_execScmp (h : s.Kept s₀) (i : Issue) : (execScmp i s).Kept s₀ := by
  unfold execScmp
  refine kept_str h _ _ _ _ _ fun t w ht => ?_
  dsimp only
  repeat' (first | (simp +contextual [h, ht]; done) | split)

@[simp] theorem kept_execSscn (h : s.Kept s₀) (i : Issue) : (execSscn i s).Kept s₀ := by
  unfold execSscn
  refine kept_str h _ _ _ _ _ fun t w ht => ?_
  dsimp only
  repeat' (first | (simp +contextual [h, ht]; done) | split)

@[simp] theorem kept_execScrc (h : s.Kept s₀) (i : Issue) : (execScrc i s).Kept s₀ := by
  unfold execScrc
  refine kept_str h _ _ _ _ _ fun t w ht => ?_
  dsimp only
  repeat' (first | (simp +contextual [h, ht]; done) | split)

@[simp] theorem kept_execSber (h : s.Kept s₀) (i : Issue) : (execSber i s).Kept s₀ := by
  unfold execSber
  refine kept_instr h _ _ _ fun t e w ht => ?_
  dsimp only
  repeat' (first | (simp +contextual [ht]; done) | split)

/-! ### Machine/ImageOps.lean -/

@[simp] theorem kept_withRecs (h : s.Kept s₀) (rs : List Rec) : (s.withRecs rs).Kept s₀ := by
  exact h

/-! ### Machine/Image.lean -/

@[simp] theorem kept_imgTouch (h : s.Kept s₀) : s.imgTouch.Kept s₀ := by
  exact h

@[simp] theorem kept_imgClose (h : s.Kept s₀) : s.imgClose.Kept s₀ := by
  exact h

@[simp] theorem kept_execImageWriteOpen (h : s.Kept s₀) (q : Req) : (execImageWriteOpen q s).Kept s₀ := by
  unfold execImageWriteOpen
  split
  · refine kept_done (kept_serve h _ _ _ _ fun t ht => ?_)
    dsimp only
    repeat' (first | (simp +contextual [ht]; done) | split)
  · exact h

@[simp] theorem kept_execImageWriteData (h : s.Kept s₀) (q : Req) (nvmOk : Bool) :
    (execImageWriteData q nvmOk s).Kept s₀ := by
  unfold execImageWriteData
  split
  · refine kept_done (kept_serve h _ _ _ _ fun t ht => ?_)
    dsimp only
    repeat' (first | (simp (maxDischargeDepth := 15) +contextual only [kept_with, kept_ite_sum, kept_inl,
        kept_imgTouch, kept_refuse, kept_imgClose, kept_notice, kept_nvmWrite, kept_finish, ht, implies_true,
            and_self, true_and]; done) | split)
  · exact h

@[simp] theorem kept_execImageWriteCommit (h : s.Kept s₀) (q : Req) (v : Verdict) (pers : Bool) (nvmOk : Bool) :
    (execImageWriteCommit q v pers nvmOk s).Kept s₀ := by
  unfold execImageWriteCommit
  split
  · refine kept_done (kept_serve h _ _ _ _ fun t ht => ?_)
    dsimp only
    repeat' (first | (simp (maxDischargeDepth := 15) +contextual [ht]; done) | split)
  · exact h

@[simp] theorem kept_execImageWriteClose (h : s.Kept s₀) (q : Req) : (execImageWriteClose q s).Kept s₀ := by
  unfold execImageWriteClose
  split
  · refine kept_done (kept_serve h _ _ _ _ fun t ht => ?_)
    repeat' (first | (simp +contextual [ht]; done) | split)
  · exact h

@[simp] theorem kept_execImageWriteStatus (h : s.Kept s₀) (q : Req) : (execImageWriteStatus q s).Kept s₀ := by
  unfold execImageWriteStatus
  split
  · refine kept_done (kept_serve h _ _ _ _ fun t ht => ?_)
    repeat' (first | (simp +contextual [ht]; done) | split)
  · exact h

@[simp] theorem kept_execImageWriteAbandon (h : s.Kept s₀) (nvm : Bool) : (execImageWriteAbandon nvm s).Kept s₀ := by
  unfold execImageWriteAbandon
  split <;> simp (maxDischargeDepth := 15) [h]

/-! ### Machine/Port.lean -/

@[simp] theorem kept_flushPort (h : s.Kept s₀) (n : Nat) : (s.flushPort n).Kept s₀ := by
  simp (maxDischargeDepth := 15) +contextual [State.flushPort, kept_foldl, h]

@[simp] theorem kept_dropRx (h : s.Kept s₀) (n : Nat) (slot : Option Nat) : (s.dropRx n slot).Kept s₀ := by
  unfold State.dropRx
  (repeat' split) <;> simp [h]

@[simp] theorem kept_linkDown (h : s.Kept s₀) (n : Nat) : (s.linkDown n).Kept s₀ := by
  simp (maxDischargeDepth := 15) [State.linkDown, h]

@[simp] theorem kept_execAutonegotiationAttempt (h : s.Kept s₀) (p : Fin 64) (speed : Fin 4) (full : Bool) :
    (execAutonegotiationAttempt p speed full s).Kept s₀ := by
  simp (maxDischargeDepth := 15) [execAutonegotiationAttempt, h]

@[simp] theorem kept_execLinkUp (h : s.Kept s₀) (p : Fin 68) (sdRx : BitVec 16) (sdTx : BitVec 16) :
    (execLinkUp p sdRx sdTx s).Kept s₀ := by
  simp (maxDischargeDepth := 15) [execLinkUp, h]

@[simp] theorem kept_execLinkDown (h : s.Kept s₀) (p : Fin 68) : (execLinkDown p s).Kept s₀ := by
  simp [execLinkDown, h]

@[simp] theorem kept_execLaneFault (h : s.Kept s₀) (lane : Fin 20) : (execLaneFault lane s).Kept s₀ := by
  simp (maxDischargeDepth := 15) +contextual [execLaneFault, kept_foldl, h]

@[simp] theorem kept_execHighBer (h : s.Kept s₀) (p : Fin 4) : (execHighBer p s).Kept s₀ := by
  simp (maxDischargeDepth := 15) [execHighBer, h]

@[simp] theorem kept_pauseCount (h : s.Kept s₀) (n : Nat) : (s.pauseCount n).Kept s₀ := by
  simp [State.pauseCount, h]

@[simp] theorem kept_execPauseFrame (h : s.Kept s₀) (p : Fin 64) (quanta : BitVec 16) :
    (execPauseFrame p quanta s).Kept s₀ := by
  simp (maxDischargeDepth := 15) [execPauseFrame, h]

@[simp] theorem kept_execPfcFrame (h : s.Kept s₀) (p : Fin 64) (classes : BitVec 8) (quanta : List (BitVec 16)) :
    (execPfcFrame p classes quanta s).Kept s₀ := by
  simp (maxDischargeDepth := 15) [execPfcFrame, h]

@[simp] theorem kept_execPauseQuantaExpiry (h : s.Kept s₀) (p : Fin 64) (classes : BitVec 8) :
    (execPauseQuantaExpiry p classes s).Kept s₀ := by
  simp [execPauseQuantaExpiry, h]

@[simp] theorem kept_execPauseWatchdog (h : s.Kept s₀) (p : Fin 64) : (execPauseWatchdog p s).Kept s₀ := by
  simp (maxDischargeDepth := 15) [execPauseWatchdog, h]

@[simp] theorem kept_execPauseHoldoffEnd (h : s.Kept s₀) (p : Fin 64) : (execPauseHoldoffEnd p s).Kept s₀ := by
  simp [execPauseHoldoffEnd, h]

@[simp] theorem kept_execVerifyAttempt (h : s.Kept s₀) (p : Fin 64) (responds : Bool) :
    (execVerifyAttempt p responds s).Kept s₀ := by
  simp (maxDischargeDepth := 15) [execVerifyAttempt, h]

@[simp] theorem kept_dropFrag (h : s.Kept s₀) (n : Nat) (i : Nat) : (s.dropFrag n i).Kept s₀ := by
  simp (maxDischargeDepth := 15) [State.dropFrag, h]

@[simp] theorem kept_execFragmentReceive (h : s.Kept s₀) (p : Fin 64) (x : Frag) : (execFragmentReceive p x s).Kept
    s₀ := by
  simp (maxDischargeDepth := 15) [execFragmentReceive]
  (repeat' split) <;> simp (maxDischargeDepth := 15) [h]

@[simp] theorem kept_execSupervisionFrameSend (h : s.Kept s₀) (pair : Fin 32) :
    (execSupervisionFrameSend pair s).Kept s₀ := by
  unfold execSupervisionFrameSend
  split <;> simp (maxDischargeDepth := 15) [h]

/-! ### Machine/RegsNet.lean -/

@[simp] theorem kept_statCtrl (h : s.Kept s₀) (n : Nat) (snap : Bool) (clear : Bool) : (s.statCtrl n snap
    clear).Kept s₀ := by
  exact h

@[simp] theorem kept_stationReg (h : s.Kept s₀) (n : Nat) (a : Nat) : (s.stationReg n a).Kept s₀ := by
  unfold State.stationReg
  (repeat' split) <;> simp [h]

@[simp] theorem kept_portWin (h : s.Kept s₀) (n : Nat) (a : Nat) : (s.portWin n a).Kept s₀ := by
  unfold State.portWin
  (repeat' split) <;> simp [h]

@[simp] theorem kept_portReg (h : s.Kept s₀) (n : Nat) (a : Nat) : (s.portReg n a).Kept s₀ := by
  simp [State.portReg, h]

@[simp] theorem kept_execPortStatSnap (h : s.Kept s₀) (n : Fin 68) : (execPortStatSnap n s).Kept s₀ := by
  simp [execPortStatSnap, h]

@[simp] theorem kept_execPortStatClear (h : s.Kept s₀) (n : Fin 68) : (execPortStatClear n s).Kept s₀ := by
  simp [execPortStatClear, h]

@[simp] theorem kept_capAdvance (h : s.Kept s₀) (w : Word) : (s.capAdvance w).Kept s₀ := by
  exact h

@[simp] theorem kept_execCaptureReadAdvance (h : s.Kept s₀) (w : Word) : (execCaptureReadAdvance w s).Kept s₀ := by
  simp [execCaptureReadAdvance, h]

@[simp] theorem kept_swPortReg (h : s.Kept s₀) (n : Nat) (a : Nat) : (s.swPortReg n a).Kept s₀ := by
  simp [State.swPortReg, h]

@[simp] theorem kept_swReg (h : s.Kept s₀) (a : Nat) : (s.swReg a).Kept s₀ := by
  simp [State.swReg, h]
  repeat' (first | (simp [h]; done) | split | refine ⟨fun _ => ?_, fun _ => ?_⟩ | refine fun _ => ?_)

@[simp] theorem kept_fabReg (h : s.Kept s₀) (a : Nat) : (s.fabReg a).Kept s₀ := by
  simp (maxDischargeDepth := 15) [State.fabReg, h]
  repeat' (first | (simp (maxDischargeDepth := 15) [h]; done) | split | refine ⟨fun _ => ?_,
      fun _ => ?_⟩ | refine fun _ => ?_)

@[simp] theorem kept_pntReg (h : s.Kept s₀) (a : Nat) : (s.pntReg a).Kept s₀ := by
  simp [State.pntReg, h]
  repeat' (first | (simp [h]; done) | split | refine ⟨fun _ => ?_, fun _ => ?_⟩ | refine fun _ => ?_)

/-! ### Machine/Registers.lean -/

@[simp] theorem kept_varm (h : s.Kept s₀) (i : Nat) (w : Nat) : (s.varm i w).Kept s₀ := by
  exact h

@[simp] theorem kept_msixWrite (h : s.Kept s₀) (off : Nat) (w : Nat) : (s.msixWrite off w).Kept s₀ := by
  exact h

@[simp] theorem kept_irqReg (h : s.Kept s₀) (a : Nat) : (s.irqReg a).Kept s₀ := by
  simp [State.irqReg, h]
  repeat' (first | (simp [h]; done) | split | refine ⟨fun _ => ?_, fun _ => ?_⟩ | refine fun _ => ?_)

@[simp] theorem kept_reg (h : s.Kept s₀) (a : Nat) : (s.reg a).Kept s₀ := by
  simp [State.reg, h]

@[simp] theorem kept_readWord (h : s.Kept s₀) (a : Nat) : (s.readWord a).2.Kept s₀ := by
  unfold State.readWord
  dsimp only
  split
  · split <;> exact h
  · cases hup : s.sys.up with
    | false => exact h
    | true => exact kept_getD (by simpa [State.readView, hup] using (kept_reg h a).eff) h

@[simp] theorem kept_readWords (h : s.Kept s₀) (a : Nat) (x0 : Nat) : (s.readWords a x0).2.Kept s₀ := by
  induction x0 generalizing s a with
  | zero => exact h
  | succ n ih => exact ih (kept_readWord h a) _

@[simp] theorem kept_writeWord (h : s.Kept s₀) (a : Nat) (w : Nat) : (s.writeWord a w).Kept s₀ := by
  unfold State.writeWord
  split
  · exact h
  · dsimp only
    split
    · exact h
    · next f hact =>
      split
      · exact kept_wrViol h a
      · exact (kept_reg h a).act f hact w

@[simp] theorem kept_writeWords (h : s.Kept s₀) (a : Nat) (x0 : List Byte) : (s.writeWords a x0).Kept s₀ := by
  fun_induction State.writeWords s a x0 with
  | case1 s a b0 b1 b2 b3 l ih => exact ih (kept_writeWord h _ _)
  | case2 => exact h

@[simp] theorem kept_msixWords (h : s.Kept s₀) (off : Nat) (x0 : List Byte) : (s.msixWords off x0).Kept s₀ := by
  fun_induction State.msixWords s off x0 with
  | case1 s off b0 b1 b2 b3 l ih => exact ih (kept_msixWrite h _ _)
  | case2 => exact h

@[simp] theorem kept_barWrite (h : s.Kept s₀) (a : Nat) (bs : List Byte) : (s.barWrite a bs).Kept s₀ := by
  simp [State.barWrite, h]

@[simp] theorem kept_barRead (h : s.Kept s₀) (a : Nat) (n : Nat) : (s.barRead a n).2.Kept s₀ := by
  simp [State.barRead, h]

@[simp] theorem kept_execRegisterWrite (h : s.Kept s₀) (addr : BarAddr) (data : List Byte) :
    (execRegisterWrite addr data s).Kept s₀ := by
  unfold execRegisterWrite
  split <;> simp (maxDischargeDepth := 15) [h]

@[simp] theorem kept_execWideRegisterRead (h : s.Kept s₀) (addr : BarAddr) (len : BitVec 12) :
    (execWideRegisterRead addr len s).Kept s₀ := by
  unfold execWideRegisterRead
  split <;> simp [h]

@[simp] theorem kept_execIrqVarm (h : s.Kept s₀) (hi : Bool) (w : Word) : (execIrqVarm hi w s).Kept s₀ := by
  simp [execIrqVarm, h]

@[simp] theorem kept_execMsiXMessage (h : s.Kept s₀) (v : Fin 64) : (execMsiXMessage v s).Kept s₀ := by
  simp [execMsiXMessage, h]

@[simp] theorem kept_execPowerStateChange (h : s.Kept s₀) (d3hot : Bool) : (execPowerStateChange d3hot s).Kept s₀
    := by
  exact h

@[simp] theorem kept_execPcieConfigurationWrite (h : s.Kept s₀) (msixEn : Bool) (fnMask : Bool) (busMaster : Bool) :
    (execPcieConfigurationWrite msixEn fnMask busMaster s).Kept s₀ := by
  exact h

/-! ### Machine/BootApply.lean -/

@[simp] theorem kept_applyPortRec (h : s.Kept s₀) (r : Rec) : (s.applyPortRec r).Kept s₀ := by
  unfold State.applyPortRec
  split <;> simp [h]

@[simp] theorem kept_mdioFailed (h : s.Kept s₀) (bus : Nat) : (s.mdioFailed bus).Kept s₀ := by
  simp +contextual [State.mdioFailed, kept_foldl, h]

@[simp] theorem kept_mdioWrite (h : s.Kept s₀) (w : List Byte) (miss : Option Bool) : (s.mdioWrite w miss).Kept s₀
    := by
  simp [State.mdioWrite, h]

@[simp] theorem kept_applyPorts (h : s.Kept s₀) (mdio : List (Nat × Bool)) : (s.applyPorts mdio).Kept s₀ := by
  simp (maxDischargeDepth := 15) [State.applyPorts]
  split <;> simp (maxDischargeDepth := 15) +contextual [kept_foldl, h]

@[simp] theorem kept_applySwRec (h : s.Kept s₀) (r : Rec) : (s.applySwRec r).Kept s₀ := by
  simp [State.applySwRec, h]

@[simp] theorem kept_applyTime (h : s.Kept s₀) : s.applyTime.Kept s₀ := by
  exact h

@[simp] theorem kept_applyTt (h : s.Kept s₀) : s.applyTt.Kept s₀ := by
  simp +contextual [State.applyTt, h]

@[simp] theorem kept_applyFab (h : s.Kept s₀) : s.applyFab.Kept s₀ := by
  simp (maxDischargeDepth := 15) +contextual [State.applyFab, kept_foldl, h]

@[simp] theorem kept_applyPnt (h : s.Kept s₀) (on : Bool) : (s.applyPnt on).Kept s₀ := by
  simp +contextual [State.applyPnt, h]

@[simp] theorem kept_applyHost (h : s.Kept s₀) : s.applyHost.Kept s₀ := by
  simp +contextual [State.applyHost, kept_foldl, h]

@[simp] theorem kept_stdEngine (h : s.Kept s₀) (e : Nat) (kind : Nat) (line : Nat) (entry : Nat) :
    (s.stdEngine e kind line entry).Kept s₀ := by
  unfold State.stdEngine
  split <;> simp [h]

@[simp] theorem kept_stdGroup (h : s.Kept s₀) (g : Nat) : (s.stdGroup g).Kept s₀ := by
  simp +contextual [State.stdGroup, kept_foldl, h]

@[simp] theorem kept_customGroup (h : s.Kept s₀) (g : Nat) : (s.customGroup g).Kept s₀ := by
  unfold State.customGroup
  split <;> simp +contextual [kept_foldl, h]

@[simp] theorem kept_applyChive (h : s.Kept s₀) : s.applyChive.Kept s₀ := by
  simp (maxDischargeDepth := 15) +contextual [State.applyChive, kept_foldl, h]

@[simp] theorem kept_applyAge (h : s.Kept s₀) (bad : List (Fin 64)) : (s.applyAge bad).Kept s₀ := by
  unfold State.applyAge
  split <;> simp [h]

@[simp] theorem kept_loadPlaced (h : s.Kept s₀) (p : Placed) : (s.loadPlaced p).Kept s₀ := by
  unfold State.loadPlaced
  split
  · exact h
  · refine ⟨h.1, fun hw => ?_⟩
    obtain ⟨hnvm, hbank, hsvc, hcap, hdram⟩ := (mems_wf_iff _).1 (h.2 hw)
    exact (mems_wf_iff _).2 ⟨hnvm, hbank, hsvc, hcap, Mem.wf_writeBytes (Mem.wf_writeBytes hdram _ _) _ _⟩

@[simp] theorem kept_startInstance (h : s.Kept s₀) (r : Rec) : (s.startInstance r).Kept s₀ := by
  simp (maxDischargeDepth := 15) [State.startInstance, h]

@[simp] theorem kept_applyPers (h : s.Kept s₀) : s.applyPers.Kept s₀ := by
  simp (maxDischargeDepth := 15) +contextual [State.applyPers, kept_foldl, h]

@[simp] theorem kept_checkDump (h : s.Kept s₀) : s.checkDump.Kept s₀ := by
  unfold State.checkDump
  split <;> simp [h]

@[simp] theorem kept_applyAll (h : s.Kept s₀) (f : BootFind) (on : Bool) : (s.applyAll f on).Kept s₀ := by
  simp (maxDischargeDepth := 15) +contextual [State.applyAll, kept_foldl, h]

/-! ### Machine/BootOps.lean -/

@[simp] theorem kept_abandonWrites (h : s.Kept s₀) : s.abandonWrites.Kept s₀ := by
  simp +contextual [State.abandonWrites, kept_foldl, h]

@[simp] theorem kept_deviceReset (h : s.Kept s₀) (c : Cause) : (s.deviceReset c).Kept s₀ := by
  have ht := kept_abandonWrites h
  simp [State.deviceReset]
  generalize s.abandonWrites = t at ht
  refine ⟨ht.1, fun hw => ?_⟩
  obtain ⟨hnvm, -⟩ := (mems_wf_iff _).1 (ht.2 hw)
  exact (mems_wf_iff _).2 ⟨hnvm, rfl, rfl, rfl, rfl⟩

@[simp] theorem kept_joinReset (h : s.Kept s₀) (c : Cause) : (s.joinReset c).Kept s₀ := by
  simp [State.joinReset, h]

@[simp] theorem kept_holdReset (h : s.Kept s₀) (c : Cause) : (s.holdReset c).Kept s₀ := by
  simp [State.holdReset, h]

@[simp] theorem kept_setClocks (h : s.Kept s₀) (x : Clocks) : (s.setClocks x).Kept s₀ := by
  exact h

@[simp] theorem kept_endHold (h : s.Kept s₀) (x : Clocks) : (s.endHold x).Kept s₀ := by
  exact h

@[simp] theorem kept_warmReset (h : s.Kept s₀) (c : Cause) : (s.warmReset c).Kept s₀ := by
  simp [State.warmReset, h]

@[simp] theorem kept_takeImage (h : s.Kept s₀) (slot : Nat) : (s.takeImage slot).Kept s₀ := by
  unfold State.takeImage
  split <;> simp [h]

@[simp] theorem kept_takeDefaults (h : s.Kept s₀) (why : Byte) : (s.takeDefaults why).Kept s₀ := by
  exact h

@[simp] theorem kept_takeRetired (h : s.Kept s₀) : s.takeRetired.Kept s₀ := by
  simp (maxDischargeDepth := 15) only [State.takeRetired, kept_with, kept_eraseRegion, h]

@[simp] theorem kept_takeSlots (h : s.Kept s₀) (f : BootFind) : (s.takeSlots f).Kept s₀ := by
  simp [State.takeSlots]
  split <;> simp [h]

@[simp] theorem kept_takeConfig (h : s.Kept s₀) (f : BootFind) : (s.takeConfig f).Kept s₀ := by
  simp [State.takeConfig, h]

@[simp] theorem kept_limitLink (h : s.Kept s₀) : s.limitLink.Kept s₀ := by
  simp [State.limitLink, h]

@[simp] theorem kept_trainLink (h : s.Kept s₀) (link : Option PcieLink) : (s.trainLink link).Kept s₀ := by
  unfold State.trainLink
  split <;> simp [h]

@[simp] theorem kept_boot (h : s.Kept s₀) (f : BootFind) : (s.boot f).Kept s₀ := by
  simp (maxDischargeDepth := 15) [State.boot, h]

/-! ### Machine/Startup.lean -/

@[simp] theorem kept_execPorNAssert (h : s.Kept s₀) : (execPorNAssert s).Kept s₀ := by
  simp [execPorNAssert, h]

@[simp] theorem kept_execPorNRelease (h : s.Kept s₀) (x : Clocks) : (execPorNRelease x s).Kept s₀ := by
  simp [execPorNRelease, h]

@[simp] theorem kept_execSupplyMonitorReset (h : s.Kept s₀) (rail : Fin 10) (mv : Nat) :
    (execSupplyMonitorReset rail mv s).Kept s₀ := by
  simp [execSupplyMonitorReset, h]

@[simp] theorem kept_execSupplyMonitorRelease (h : s.Kept s₀) (x : Clocks) (mv : List Nat) :
    (execSupplyMonitorRelease x mv s).Kept s₀ := by
  simp [execSupplyMonitorRelease, h]

@[simp] theorem kept_execThermalTrip (h : s.Kept s₀) (tj : Int) : (execThermalTrip tj s).Kept s₀ := by
  simp [execThermalTrip, h]

@[simp] theorem kept_execThermalRelease (h : s.Kept s₀) (x : Clocks) (tj : Int) : (execThermalRelease x tj s).Kept
    s₀ := by
  simp [execThermalRelease, h]

@[simp] theorem kept_execWarmNAssert (h : s.Kept s₀) : (execWarmNAssert s).Kept s₀ := by
  simp [execWarmNAssert, h]

@[simp] theorem kept_execSageWatchdogExpiry (h : s.Kept s₀) : (execSageWatchdogExpiry s).Kept s₀ := by
  simp [execSageWatchdogExpiry, h]

@[simp] theorem kept_execLifecycleColdReset (h : s.Kept s₀) : (execLifecycleColdReset s).Kept s₀ := by
  simp [execLifecycleColdReset, h]

@[simp] theorem kept_execResetRequest (h : s.Kept s₀) (q : Req) : (execResetRequest q s).Kept s₀ := by
  simp (maxDischargeDepth := 15) +contextual [execResetRequest, h]

@[simp] theorem kept_execRequestedWarmReset (h : s.Kept s₀) : (execRequestedWarmReset s).Kept s₀ := by
  simp [execRequestedWarmReset, h]

@[simp] theorem kept_execFatalReset (h : s.Kept s₀) : (execFatalReset s).Kept s₀ := by
  unfold execFatalReset
  split <;> simp [h]

@[simp] theorem kept_execFatalRecordLatch (h : s.Kept s₀) : (execFatalRecordLatch s).Kept s₀ := by
  simp [execFatalRecordLatch, h]

@[simp] theorem kept_execResetClockCheck (h : s.Kept s₀) (x : Clocks) : (execResetClockCheck x s).Kept s₀ := by
  simp [execResetClockCheck, h]

@[simp] theorem kept_execRefclkAAbsentTimeout (h : s.Kept s₀) : (execRefclkAAbsentTimeout s).Kept s₀ := by
  simp [execRefclkAAbsentTimeout, h]

@[simp] theorem kept_execWipeComplete (h : s.Kept s₀) (f : BootFind) : (execWipeComplete f s).Kept s₀ := by
  simp only [execWipeComplete]
  split <;> simp (maxDischargeDepth := 15) only [kept_next, kept_boot, kept_done, h]

@[simp] theorem kept_execWipeTimeout (h : s.Kept s₀) : (execWipeTimeout s).Kept s₀ := by
  simp [execWipeTimeout, h]

@[simp] theorem kept_execAlarmHoldEnd (h : s.Kept s₀) : (execAlarmHoldEnd s).Kept s₀ := by
  simp [execAlarmHoldEnd, h]

@[simp] theorem kept_execPePerstNAssert (h : s.Kept s₀) : (execPePerstNAssert s).Kept s₀ := by
  simp [execPePerstNAssert, h]

@[simp] theorem kept_execPePerstNRelease (h : s.Kept s₀) (link : Option PcieLink) : (execPePerstNRelease link
    s).Kept s₀ := by
  simp [execPePerstNRelease, h]

@[simp] theorem kept_execTrstNAssert (h : s.Kept s₀) : (execTrstNAssert s).Kept s₀ := by
  exact h

/-! ### Machine/Step.lean -/

@[simp] theorem kept_idle (h : s.Kept s₀) : s.idle.Kept s₀ := by
  simp [State.idle, h]

@[simp] theorem kept_withFetchWord (h : s.Kept s₀) (nbits : Nat) (w : Nat) : (s.withFetchWord nbits w).Kept s₀ := by
  exact h

/-! ### The step -/

/-- Every command answers a next state, which keeps the queue and the canonical memories. -/
theorem kept_exec (h : s.Kept s₀) (c : Instr) : Out.Kept s₀ (exec c s) := by
  cases c <;> simp [h]

/-- What an outcome that keeps the queue and the memories is. -/
theorem Out.Kept.next {o : Out} (h : o.Kept s₀) : ∃ t, o = .next t ∧ t.Kept s₀ := by
  cases o with
  | next t => exact ⟨t, rfl, h⟩
  | fault f => exact h.elim
  | refused r => exact h.elim

theorem exec_next (c : Instr) (s : State) : ∃ t, exec c s = .next t ∧ t.Kept s :=
  (kept_exec (State.Kept.refl s) c).next

/-- Settles O31: the two branches of a step. -/
theorem stepRunsTheFrontCommand : Obligations.StepRunsTheFrontCommand := by
  refine ⟨fun c l s hq => ?_, fun s hq hc => ?_, fun s hq hc => ?_⟩
  · rw [step, hq]
  · simp [step, hq, State.idle, hc]
  · simp [step, hq, State.idle, hc]

/-- Settles O32: no arm of the dispatch answers a fault or a refusal. -/
theorem everyCommandHasANextState : Obligations.EveryCommandHasANextState := fun c s =>
  (exec_next c s).imp fun _ h => h.1

/-- A step keeps the memories canonical, and takes the front of the queue away. -/
theorem step_kept {s t : State} (h : step s = .next t) :
    t.pending = s.pending.drop 1 ∧ (s.mem.wf = true → t.mem.wf = true) := by
  cases hq : s.pending with
  | nil =>
    have hidle : s.idle = t := by simpa [step, hq] using h
    have hkept : t.Kept s := hidle ▸ kept_idle (State.Kept.refl s)
    exact ⟨hkept.1.trans hq, hkept.2⟩
  | cons c rest =>
    obtain ⟨u, hu, hkept⟩ := exec_next c { s with pending := rest }
    have hut : u = t := by
      rw [step, hq] at h
      exact Host.Outcome.next.inj (hu.symm.trans h)
    exact hut ▸ hkept

/-- Settles O33: a command leaves the rest of the queue as it finds it. -/
theorem stepsDrainTheQueueInOrder : Obligations.StepsDrainTheQueueInOrder := fun _ _ h => (step_kept h).1

/-- Settles O34: every operation on a memory keeps its canonical form, and every command is made of such operations. -/
theorem memoriesStayCanonical : Obligations.MemoriesStayCanonical := fun _ _ hwf h => (step_kept h).2 hwf

end Sys2Proof.Machine
end

section
/-! SUPPORT. The functions of the ALU on numbers and on words (R320, R321, Table 11-3). -/

namespace Sys2Proof.Machine

set_option Elab.async false

/-! ### The claims as equations on words -/

/-- Numbers that agree modulo 2^32 are written alike. -/
theorem putR_state {s : State} {e w k x : Nat} {v : Word} (h : BitVec.ofNat 32 x = v) :
    (s.putR e k x).state e w = s.wrote e k v := by
  simp only [State.putR, Eff.state, State.wrote]
  rw [EngCore.setR_congr _ k (x := x) (y := v.toNat) (by simpa using h)]

theorem aluClaim_of_eq {mk : Issue → Instr} {fn : Nat} {F : Nat → Nat → Nat} {f : Word → Word → Word}
    (hx : ∀ i s, exec (mk i) s = s.alu i fn F) (hfn : aluFns.contains fn = true)
    (hf : ∀ a b : Word, BitVec.ofNat 32 (F a.toNat b.toNat) = f a b) : AluClaim mk fn f := by
  intro i s h hi hz w e
  have hbad : (decide (0x20 ≤ fn) && fRs2 i.word.toNat != 0) = false := by
    by_cases h20 : 0x20 ≤ fn
    · simp [hz h20]
    · simp [h20]
  have ht := becomes_instr (hx i s) h (by simpa [aluRow, hi] using hfn) (by simp [aluRow, hi]) (by simpa [aluRow, hi] using hbad)
  rwa [putR_state (v := f (s.gpr e (fRs1 w)) (s.gpr e (fRs2 w)))] at ht
  rw [← hf, toNat_gpr, toNat_gpr]

/-- An immediate form writes its function of rs1 and the field. -/
theorem becomes_immOp {c : Instr} {i : Issue} {s : State} {major : Nat} {bad : Nat → Bool} {F : Nat → Nat → Nat}
    {v : Word} (hx : exec c s = s.immOp i major bad F) (h : s.issues i major = true) (hb : bad i.word.toNat = false)
    (hv : BitVec.ofNat 32 (F (s.gpr i.eng.val (fRs1 i.word.toNat)).toNat (fImm12 i.word.toNat)) = v) :
    Becomes c s (s.wrote i.eng.val (fRd i.word.toNat) v) := by
  have ht := becomes_instr hx h rfl rfl hb
  rwa [putR_state (v := v)] at ht
  rw [← hv, toNat_gpr]

theorem toNat_imm12 (w : Nat) : (BitVec.ofNat 12 (fImm12 w)).toNat = fImm12 w := by
  rw [BitVec.toNat_ofNat]
  exact Nat.mod_eq_of_lt (Nat.mod_lt _ (by decide))

theorem immClaim_of_eq {mk : Issue → Instr} {major : Nat} {F : Nat → Nat → Nat} {f : Word → BitVec 12 → Word}
    (hx : ∀ i s, exec (mk i) s = s.immOp i major (fun _ => false) F)
    (hf : ∀ (a : Word) (m : BitVec 12), BitVec.ofNat 32 (F a.toNat m.toNat) = f a m) : ImmClaim mk major f := by
  intro i s h w e
  refine becomes_immOp (hx i s) h rfl ?_
  rw [← hf, toNat_imm12]

/-- A field of imm12 is the field of the word. -/
theorem bits_imm12 (w hi lo : Nat) (h : hi < 12) (hl : lo ≤ hi) : bits (fImm12 w) hi lo = bits w hi lo := by
  simp only [bits, fImm12, show (11 : Nat) + 1 - 0 = 12 from rfl, Nat.pow_zero, Nat.div_one]
  rw [← Nat.mod_mul_right_div_self, ← Nat.mod_mul_right_div_self, ← Nat.pow_add]
  congr 1
  exact Nat.mod_mod_of_dvd _ (Nat.pow_dvd_pow 2 (by omega))

/-! ### Shifts -/

theorem ofNat_sll (a : Word) (n : Nat) : BitVec.ofNat 32 (sll a.toNat n) = a <<< (n % 32) := by
  apply BitVec.eq_of_toNat_eq
  simp [sll, Nat.shiftLeft_eq]

theorem ofNat_srl (a : Word) (n : Nat) : BitVec.ofNat 32 (srl a.toNat n) = a >>> (n % 32) := by
  apply BitVec.eq_of_toNat_eq
  rw [srl, ← Nat.shiftRight_eq_div_pow, ← BitVec.toNat_ushiftRight, BitVec.ofNat_toNat, BitVec.setWidth_eq]

theorem ofNat_ofSigned (x : Int) : BitVec.ofNat 32 (ofSigned 32 x) = BitVec.ofInt 32 x := by
  rw [ofSigned, BitVec.ofNat_toNat, BitVec.setWidth_eq]

theorem ofNat_sra (a : Word) (n : Nat) : BitVec.ofNat 32 (sra a.toNat n) = a.sshiftRight (n % 32) := by
  rw [sra, ofNat_ofSigned, toSigned_toNat, BitVec.sshiftRight, Int.shiftRight_eq_div_pow]
  rfl

theorem ofNat_ror (a : Word) (n : Nat) : BitVec.ofNat 32 (ror a.toNat n) = a.rotateRight (n % 32) := by
  have hdisj : a >>> (n % 32) &&& a <<< (32 - n % 32) = 0#32 := by
    ext j hj
    rcases Nat.lt_or_ge j (32 - n % 32) with h | h
    · simp [h]
    · simp [BitVec.getLsbD_of_ge a (n % 32 + j) (by omega)]
  rw [ror, BitVec.ofNat_add, BitVec.rotateRight_def, Nat.mod_mod]
  rw [← BitVec.add_eq_or_of_and_eq_zero _ _ hdisj]
  congr 1
  · exact ofNat_srl a n
  · apply BitVec.eq_of_toNat_eq
    simp [Nat.shiftLeft_eq]

/-! ### Products -/

/-- The upper half of a signed product. -/
theorem ofNat_mulh (a b : Word) : BitVec.ofNat 32 (mulh a.toNat b.toNat) =
    ((a.signExtend 64 * b.signExtend 64) >>> 32).setWidth 32 := by
  rw [mulh, ofNat_ofSigned, toSigned_toNat, toSigned_toNat]
  apply BitVec.eq_of_toNat_eq
  have hs : ∀ x : Word, x.signExtend 64 = BitVec.ofInt 64 x.toInt := fun x => rfl
  rw [hs, hs, ← BitVec.ofInt_mul]
  generalize a.toInt * b.toInt = p
  simp only [BitVec.toNat_ofInt, BitVec.toNat_setWidth, BitVec.toNat_ushiftRight, Nat.shiftRight_eq_div_pow]
  omega

theorem ofNat_mulhu (a b : Word) : BitVec.ofNat 32 (a.toNat * b.toNat / 2 ^ 32) =
    ((a.setWidth 64 * b.setWidth 64) >>> 32).setWidth 32 := by
  apply BitVec.eq_of_toNat_eq
  have hlt : a.toNat * b.toNat < 2 ^ 64 := by
    calc a.toNat * b.toNat < 2 ^ 32 * 2 ^ 32 := Nat.mul_lt_mul'' a.isLt b.isLt
      _ = 2 ^ 64 := (Nat.pow_add 2 32 32).symm
  have ha : a.toNat % 2 ^ 64 = a.toNat := Nat.mod_eq_of_lt (by have := a.isLt; omega)
  have hb : b.toNat % 2 ^ 64 = b.toNat := Nat.mod_eq_of_lt (by have := b.isLt; omega)
  simp only [BitVec.toNat_ofNat, BitVec.toNat_setWidth, BitVec.toNat_ushiftRight, BitVec.toNat_mul,
    Nat.shiftRight_eq_div_pow, ha, hb, Nat.mod_eq_of_lt hlt]

/-! ### Division -/

theorem ofNat_divS (a b : Word) : BitVec.ofNat 32 (divS a.toNat b.toNat) =
    if b = 0 then 0xFFFFFFFF else a.sdiv b := by
  have hb : b.toNat = 0 ↔ b = 0 := (BitVec.toNat_eq (x := b) (y := 0)).symm
  simp only [divS, hb]
  split
  · rfl
  · rw [ofNat_ofSigned, toSigned_toNat, toSigned_toNat]
    apply BitVec.eq_of_toInt_eq
    rw [BitVec.toInt_ofInt, BitVec.toInt_sdiv]

theorem ofNat_divU (a b : Word) : BitVec.ofNat 32 (divU a.toNat b.toNat) = if b = 0 then 0xFFFFFFFF else a / b := by
  have hb : b.toNat = 0 ↔ b = 0 := (BitVec.toNat_eq (x := b) (y := 0)).symm
  simp only [divU, hb]
  split
  · rfl
  · rw [← BitVec.toNat_udiv, BitVec.ofNat_toNat, BitVec.setWidth_eq]

theorem ofNat_remS (a b : Word) : BitVec.ofNat 32 (remS a.toNat b.toNat) = if b = 0 then a else a.srem b := by
  have hb : b.toNat = 0 ↔ b = 0 := (BitVec.toNat_eq (x := b) (y := 0)).symm
  simp only [remS, hb]
  split
  · simp
  · rw [ofNat_ofSigned, toSigned_toNat, toSigned_toNat, ← BitVec.toInt_srem, BitVec.ofInt_toInt]

theorem ofNat_remU (a b : Word) : BitVec.ofNat 32 (remU a.toNat b.toNat) = if b = 0 then a else a % b := by
  have hb : b.toNat = 0 ↔ b = 0 := (BitVec.toNat_eq (x := b) (y := 0)).symm
  simp only [remU, hb]
  split
  · simp
  · rw [← BitVec.toNat_umod, BitVec.ofNat_toNat, BitVec.setWidth_eq]

/-! ### Bits of a word -/

theorem tst_eq_testBit (x i : Nat) : tst x i = x.testBit i := by
  rw [tst, Nat.testBit_eq_decide_div_mod_eq]
  simp [beq_iff_eq, Bool.beq_eq_decide_eq]

theorem tst_toNat {n : Nat} (a : BitVec n) (i : Nat) : tst a.toNat i = a.getLsbD i := tst_eq_testBit _ _

/-- A head of a range ends where its predicate first fails. -/
theorem length_takeWhile_range {p : Nat → Bool} {n k : Nat} (hk : k ≤ n) (hp : ∀ i < k, p i = true)
    (hend : k < n → p k = false) : ((List.range n).takeWhile p).length = k := by
  have hsplit : List.range n = List.range k ++ (List.range (n - k)).map (k + ·) := by
    rw [← List.range_add, Nat.add_sub_cancel' hk]
  rw [hsplit, List.takeWhile_append_of_pos (by simpa using hp)]
  rcases Nat.eq_or_lt_of_le hk with rfl | hlt
  · simp
  · obtain ⟨m, hm⟩ : ∃ m, n - k = m + 1 := ⟨n - k - 1, by omega⟩
    simp [hm, List.range_succ_eq_map, hend hlt]

theorem ofNat_clz (a : Word) : BitVec.ofNat 32 (clz a.toNat) = clzRef a := by
  unfold clz clzRef
  split
  · next h => subst h; decide
  · next h =>
    have hne : a.toNat ≠ 0 := fun h0 => h (BitVec.eq_of_toNat_eq h0)
    have hlog : a.toNat.log2 < 32 := (Nat.log2_lt hne).2 a.isLt
    rw [length_takeWhile_range (k := 31 - a.toNat.log2) (by omega)]
    · intro i hi
      rw [tst_eq_testBit, Nat.testBit_lt_two_pow (Nat.lt_of_lt_of_le Nat.lt_log2_self (Nat.pow_le_pow_right (by decide) (by omega)))]
      rfl
    · intro _
      rw [tst_eq_testBit, show 31 - (31 - a.toNat.log2) = a.toNat.log2 by omega, Nat.testBit_log2 hne]
      rfl

/-- The lowest set bit of a word, alone. -/
theorem and_neg_eq_twoPow {a : Word} {k : Nat} (hk : a.getLsbD k = true) (hlow : ∀ i < k, a.getLsbD i = false) :
    a &&& -a = BitVec.twoPow 32 k := by
  apply BitVec.eq_of_getLsbD_eq
  intro i hi
  have hex : (∃ j < i, a.getLsbD j = true) ↔ k < i := by
    constructor
    · rintro ⟨j, hj, hb⟩
      refine Nat.lt_of_not_le fun hik => ?_
      rw [hlow j (by omega)] at hb
      cases hb
    · exact fun h => ⟨k, h, hk⟩
  rw [BitVec.getLsbD_and, BitVec.getLsbD_neg, BitVec.getLsbD_twoPow]
  simp only [hi, decide_true, Bool.true_and, hex]
  rcases Nat.lt_trichotomy i k with h | rfl | h
  · simp [hlow i h, Nat.ne_of_gt h]
  · simp [hk, hi]
  · simp [h, Nat.ne_of_lt h]

/-- A word that is not zero has a lowest set bit. -/
theorem exists_lowest_bit {n : Nat} {a : BitVec n} (h : a ≠ 0) :
    ∃ k, a.getLsbD k = true ∧ ∀ i < k, a.getLsbD i = false := by
  obtain ⟨i, hi⟩ : ∃ i, a.getLsbD i = true := Classical.byContradiction fun hno =>
    h (BitVec.eq_of_getLsbD_eq fun i _ => by
      rw [show (0 : BitVec n).getLsbD i = false from BitVec.getLsbD_zero]
      exact Bool.eq_false_iff.2 fun hb => hno ⟨i, hb⟩)
  induction i using Nat.strongRecOn with
  | ind i ih =>
    by_cases hlow : ∃ j, j < i ∧ a.getLsbD j = true
    · obtain ⟨j, hj, hb⟩ := hlow
      exact ih j hj hb
    · exact ⟨i, hi, fun j hj => Bool.eq_false_iff.2 fun hb => hlow ⟨j, hj, hb⟩⟩

theorem ofNat_ctz (a : Word) : BitVec.ofNat 32 (ctz a.toNat) = ctzRef a := by
  unfold ctz ctzRef
  split
  · next h => subst h; decide
  · next h =>
    obtain ⟨k, hk, hlow⟩ := exists_lowest_bit h
    have hlt : k < 32 := BitVec.lt_of_getLsbD hk
    rw [length_takeWhile_range (Nat.le_of_lt hlt) (fun i hi => by simp [tst_toNat, hlow i hi])
      (fun _ => by simp [tst_toNat, hk]), and_neg_eq_twoPow hk hlow, BitVec.toNat_twoPow_of_lt hlt, Nat.log2_two_pow]

theorem ofNat_popc (a : Word) : BitVec.ofNat 32 (popc a.toNat) = popRef a := by
  rw [popc, popRef, List.countP_eq_length_filter]
  rw [show tst a.toNat = (a.getLsbD ·) from funext (tst_toNat a)]

/-! ### Bytes of a word -/

theorem toNat_append_add {n m : Nat} (x : BitVec n) (y : BitVec m) : (x ++ y).toNat = x.toNat * 2 ^ m + y.toNat := by
  rw [BitVec.toNat_append, ← Nat.shiftLeft_add_eq_or_of_lt y.isLt, Nat.shiftLeft_eq]

/-- Two bytes, least significant first, as a number. -/
theorem leNat_two (b0 b1 : Byte) : leNat [b0, b1] = (b1 ++ b0).toNat := by
  rw [toNat_append_add, leNat, leNat, leNat]
  omega

/-- Four bytes, least significant first, as a number. -/
theorem leNat_four (b0 b1 b2 b3 : Byte) : leNat [b0, b1, b2, b3] = (b3 ++ b2 ++ b1 ++ b0).toNat := by
  rw [toNat_append_add, toNat_append_add, toNat_append_add]
  simp only [leNat]
  omega

/-- Four bytes, most significant first, as a number. -/
theorem beNat_four (b0 b1 b2 b3 : Byte) : beNat [b0, b1, b2, b3] = (b0 ++ b1 ++ b2 ++ b3).toNat := by
  rw [toNat_append_add, toNat_append_add, toNat_append_add]
  simp only [beNat, List.foldl_cons, List.foldl_nil]
  omega

/-- Byte `n` of a word. -/
theorem ofNat_div_pow {m : Nat} (a : BitVec m) (n : Nat) : BitVec.ofNat 8 (a.toNat / 2 ^ n) = a.extractLsb' n 8 := by
  rw [BitVec.extractLsb', Nat.shiftRight_eq_div_pow]

theorem forall_lt_of_range {p : Nat → Prop} {n : Nat} (h : ∀ i ∈ List.range n, p i) : ∀ i, i < n → p i :=
  fun i hi => h i (List.mem_range.2 hi)

theorem ofNat_bswap (a : Word) : BitVec.ofNat 32 (bswap a.toNat) = swapRef a := by
  have hbytes : leBytes 4 a.toNat =
      [a.extractLsb' 0 8, a.extractLsb' 8 8, a.extractLsb' 16 8, a.extractLsb' 24 8] := by
    simp only [leBytes, Nat.div_div_eq_div_mul, ← ofNat_div_pow, Nat.reduceMul, Nat.reducePow, Nat.div_one]
  rw [bswap, hbytes, beNat_four, BitVec.ofNat_toNat, BitVec.setWidth_eq]
  refine BitVec.eq_of_getLsbD_eq (forall_lt_of_range ?_)
  simp only [swapRef, BitVec.getLsbD_append, BitVec.getLsbD_or, BitVec.getLsbD_and, BitVec.getLsbD_shiftLeft,
    BitVec.getLsbD_ushiftRight, BitVec.getLsbD_extractLsb']
  simp [List.range, List.range.loop]

/-! ### Masks, order and immediates -/

theorem ofNat_and (a b : Word) : BitVec.ofNat 32 (a.toNat &&& b.toNat) = a &&& b := by
  rw [← BitVec.toNat_and, BitVec.ofNat_toNat, BitVec.setWidth_eq]

theorem ofNat_or (a b : Word) : BitVec.ofNat 32 (a.toNat ||| b.toNat) = a ||| b := by
  rw [← BitVec.toNat_or, BitVec.ofNat_toNat, BitVec.setWidth_eq]

theorem ofNat_xor (a b : Word) : BitVec.ofNat 32 (a.toNat ^^^ b.toNat) = a ^^^ b := by
  rw [← BitVec.toNat_xor, BitVec.ofNat_toNat, BitVec.setWidth_eq]

theorem ofNat_sub (a b : Word) : BitVec.ofNat 32 (a.toNat + 2 ^ 32 - b.toNat) = a - b := by
  apply BitVec.eq_of_toNat_eq
  rw [BitVec.toNat_ofNat, BitVec.toNat_sub]
  congr 1
  have := b.isLt
  omega

theorem ofNat_andn (a b : Word) : BitVec.ofNat 32 (a.toNat &&& (2 ^ 32 - 1 - b.toNat)) = a &&& ~~~b := by
  rw [← BitVec.toNat_not, ofNat_and]

theorem ofNat_mul (a b : Word) : BitVec.ofNat 32 (a.toNat * b.toNat) = a * b := by
  rw [BitVec.ofNat_mul, BitVec.ofNat_toNat, BitVec.ofNat_toNat, BitVec.setWidth_eq, BitVec.setWidth_eq]

theorem ofNat_toNat_word (a : Word) : BitVec.ofNat 32 a.toNat = a := by rw [BitVec.ofNat_toNat, BitVec.setWidth_eq]

/-- A choice of one of two words by their signed order. -/
theorem ofNat_if_lt (a b c d : Word) : BitVec.ofNat 32 (if toSigned 32 a.toNat < toSigned 32 b.toNat then c.toNat else d.toNat) =
    if a.slt b then c else d := by
  simp only [toSigned_toNat, BitVec.slt_iff_toInt_lt]
  split <;> exact ofNat_toNat_word _

theorem ofNat_min (a b : Word) : BitVec.ofNat 32 (min a.toNat b.toNat) = if a.ult b then a else b := by
  simp only [BitVec.ult_iff_toNat_lt]
  split
  · next h => rw [Nat.min_eq_left (Nat.le_of_lt h), ofNat_toNat_word]
  · next h => rw [Nat.min_eq_right (Nat.le_of_not_lt h), ofNat_toNat_word]

theorem ofNat_max (a b : Word) : BitVec.ofNat 32 (max a.toNat b.toNat) = if a.ult b then b else a := by
  simp only [BitVec.ult_iff_toNat_lt]
  split
  · next h => rw [Nat.max_eq_right (Nat.le_of_lt h), ofNat_toNat_word]
  · next h => rw [Nat.max_eq_left (Nat.le_of_not_lt h), ofNat_toNat_word]

theorem ofNat_shiftBy (kind : Nat) (a : Word) (n : Nat) (hn : n < 32) :
    BitVec.ofNat 32 (shiftBy kind a.toNat n) = shiftRef kind a n := by
  simp only [shiftBy, shiftRef]
  repeat' split
  · rw [ofNat_sll, Nat.mod_eq_of_lt hn]
  · rw [ofNat_srl, Nat.mod_eq_of_lt hn]
  · rw [ofNat_sra, Nat.mod_eq_of_lt hn]
  · rw [ofNat_ror, Nat.mod_eq_of_lt hn]

/-- A half word above the lower half of a word. -/
theorem ofNat_upper (a : Word) (m : Nat) :
    BitVec.ofNat 32 (m * 2 ^ 16 + a.toNat % 2 ^ 16) = (a &&& (0xFFFF : Word)) ||| (BitVec.ofNat 32 m <<< 16) := by
  have hlow : a &&& (0xFFFF : Word) = BitVec.ofNat 32 (a.toNat % 2 ^ 16) := by
    apply BitVec.eq_of_toNat_eq
    rw [BitVec.toNat_and, ← Nat.and_two_pow_sub_one_eq_mod, BitVec.toNat_ofNat, Nat.mod_eq_of_lt]
    · rfl
    · exact Nat.lt_of_le_of_lt Nat.and_le_left a.isLt
  have hdisj : (a &&& (0xFFFF : Word)) &&& (BitVec.ofNat 32 m <<< 16) = 0#32 := by
    rw [hlow]
    apply BitVec.eq_of_getLsbD_eq
    intro j hj
    rcases Nat.lt_or_ge j 16 with h | h
    · simp [h]
    · have hbit : (BitVec.ofNat 32 (a.toNat % 2 ^ 16)).getLsbD j = false := by
        rw [BitVec.getLsbD_ofNat, Nat.testBit_mod_two_pow, decide_eq_false (Nat.not_lt.2 h), Bool.false_and, Bool.and_false]
      rw [BitVec.getLsbD_and, hbit, Bool.false_and, BitVec.getLsbD_zero]
  rw [← BitVec.add_eq_or_of_and_eq_zero _ _ hdisj, hlow, Nat.add_comm, BitVec.ofNat_add]
  rw [show BitVec.ofNat 32 (m * 2 ^ 16) = BitVec.ofNat 32 m <<< 16 from BitVec.eq_of_toNat_eq (by simp [Nat.shiftLeft_eq])]

/-! ### The statement -/

theorem immediatesWriteRd : ImmediatesWriteRd := by
  refine ⟨immClaim_of_eq exec_addi ?_, immClaim_of_eq exec_andi ?_, immClaim_of_eq exec_ori ?_,
    immClaim_of_eq exec_xori ?_, fun i s => ⟨?_, ?_, ?_⟩⟩
  · intro a m
    rw [sext_eq_signExtend, BitVec.ofNat_add, ofNat_toNat_word, ofNat_toNat_word, BitVec.ofNat_toNat, BitVec.setWidth_eq]
  · intro a m
    rw [← BitVec.toNat_setWidth_of_le (by decide : 12 ≤ 32), ofNat_and]
  · intro a m
    rw [← BitVec.toNat_setWidth_of_le (by decide : 12 ≤ 32), ofNat_or]
  · intro a m
    rw [← BitVec.toNat_setWidth_of_le (by decide : 12 ≤ 32), ofNat_xor]
  · intro h hz
    refine becomes_immOp (exec_shi i s) h (by simp [hz]) ?_
    rw [bits_imm12 _ _ _ (by decide) (by decide), bits_imm12 _ _ _ (by decide) (by decide)]
    exact ofNat_shiftBy _ _ _ (Nat.mod_lt _ (by decide))
  · intro h hz
    have ht := becomes_instr (exec_lil i s) h rfl rfl hz
    rwa [putR_state rfl] at ht
  · intro h hz
    have ht := becomes_instr (exec_lih i s) h rfl rfl hz
    rwa [← toNat_gpr, putR_state (ofNat_upper _ _)] at ht

/-- Settles O1: each function on numbers, taken modulo 2^32, is the stated function of words, and the step every
instruction of an engine takes writes it to rd. -/
theorem aluFunctionsWriteRd : Obligations.AluFunctionsWriteRd := by
  refine ⟨immediatesWriteRd,
    aluClaim_of_eq exec_add rfl ?_, aluClaim_of_eq exec_sub rfl ofNat_sub, aluClaim_of_eq exec_and rfl ofNat_and,
    aluClaim_of_eq exec_or rfl ofNat_or, aluClaim_of_eq exec_xor rfl ofNat_xor,
    aluClaim_of_eq exec_andn rfl ofNat_andn, aluClaim_of_eq exec_sll rfl (fun a b => ofNat_sll a b.toNat),
    aluClaim_of_eq exec_srl rfl (fun a b => ofNat_srl a b.toNat),
    aluClaim_of_eq exec_sra rfl (fun a b => ofNat_sra a b.toNat),
    aluClaim_of_eq exec_ror rfl (fun a b => ofNat_ror a b.toNat),
    aluClaim_of_eq exec_min rfl (fun a b => ofNat_if_lt a b a b),
    aluClaim_of_eq exec_max rfl (fun a b => ofNat_if_lt a b b a),
    aluClaim_of_eq exec_minu rfl ofNat_min, aluClaim_of_eq exec_maxu rfl ofNat_max,
    aluClaim_of_eq exec_mul rfl ofNat_mul, aluClaim_of_eq exec_mulh rfl ofNat_mulh,
    aluClaim_of_eq exec_mulhu rfl ofNat_mulhu, aluClaim_of_eq exec_div rfl ofNat_divS,
    aluClaim_of_eq exec_divu rfl ofNat_divU, aluClaim_of_eq exec_rem rfl ofNat_remS,
    aluClaim_of_eq exec_remu rfl ofNat_remU, aluClaim_of_eq exec_clz rfl (fun a _ => ofNat_clz a),
    aluClaim_of_eq exec_ctz rfl (fun a _ => ofNat_ctz a), aluClaim_of_eq exec_popc rfl (fun a _ => ofNat_popc a),
    aluClaim_of_eq exec_bswap rfl (fun a _ => ofNat_bswap a)⟩
  intro a b
  rw [BitVec.ofNat_add, ofNat_toNat_word, ofNat_toNat_word]

end Sys2Proof.Machine
end

section
/-! SUPPORT. Loads and stores of a bank (R317, R341, Table 11-2). -/

namespace Sys2Proof.Machine

set_option Elab.async false

/-! ### Addresses and bytes -/

/-- The address on numbers is the address on words. -/
theorem effAddr_eq (s : State) (i : Issue) : s.effAddr i.eng.val i.word.toNat = s.addrOf i := by
  rw [State.effAddr, State.addrOf, sext_eq_signExtend, BitVec.toNat_add, toNat_gpr]

theorem bankBytes_one (s : State) (e a : Nat) : s.bankBytes e a 1 = [s.bankByte e a] := rfl

theorem bankBytes_two (s : State) (e a : Nat) : s.bankBytes e a 2 = [s.bankByte e a, s.bankByte e (a + 1)] := by
  simp [State.bankBytes, Mem.readBytes, State.bankByte, Nat.add_assoc]

theorem bankBytes_four (s : State) (e a : Nat) :
    s.bankBytes e a 4 = [s.bankByte e a, s.bankByte e (a + 1), s.bankByte e (a + 2), s.bankByte e (a + 3)] := by
  simp [State.bankBytes, Mem.readBytes, State.bankByte, Nat.add_assoc]

theorem leNat_one (b : Byte) : leNat [b] = b.toNat := rfl

/-! ### Loads -/

theorem loadClaim_of_eq {mk : Issue → Instr} {major n : Nat} {F : Nat → Nat} {f : (Nat → Byte) → Word}
    (hx : ∀ i s, exec (mk i) s = s.load i major n F)
    (hf : ∀ (s : State) (e a : Nat),
      BitVec.ofNat 32 (F (leNat (s.bankBytes e a n))) = f (fun k => s.bankByte e (a + k))) :
    LoadClaim mk major n f := by
  intro i s h e a
  have ht := becomes_instr (hx i s) h rfl rfl rfl
  dsimp only at ht
  rw [effAddr_eq] at ht
  refine ⟨fun hlt hal => ?_, fun hlt hal => ?_, fun hge => ?_⟩
  · rwa [accessCheck_ok hlt hal, putR_state (hf s _ _)] at ht
  · rwa [accessCheck_misaligned hlt hal] at ht
  · rwa [accessCheck_beyond n hge] at ht

theorem ofNat_sext {n : Nat} (x : BitVec n) : BitVec.ofNat 32 (sext n x.toNat) = x.signExtend 32 := by
  rw [sext_eq_signExtend, BitVec.ofNat_toNat, BitVec.setWidth_eq, BitVec.ofNat_toNat, BitVec.setWidth_eq]

/-- Settles O3: the bytes read stand least significant first, and each form extends them as named. -/
theorem loadsReadTheBank : Obligations.LoadsReadTheBank := by
  refine ⟨loadClaim_of_eq exec_ldb ?_, loadClaim_of_eq exec_ldbu ?_, loadClaim_of_eq exec_ldh ?_,
    loadClaim_of_eq exec_ldhu ?_, loadClaim_of_eq exec_ldw ?_⟩ <;> intro s e a
  · exact ofNat_sext (s.bankByte e a)
  · exact BitVec.ofNat_toNat 32 (s.bankByte e a)
  · rw [bankBytes_two, leNat_two]
    exact ofNat_sext _
  · rw [bankBytes_two, leNat_two]
    exact BitVec.ofNat_toNat 32 _
  · rw [bankBytes_four, leNat_four]
    exact ofNat_toNat_word _

/-! ### Stores -/

/-- An aligned store of a byte, half word or word stays within one line. -/
theorem bankStore_line {s : State} {e a : Nat} {l : List Byte} (hpos : 0 < l.length) (hfit : a % 64 + l.length ≤ 64) :
    s.bankStore e a l = (s.undoLine e (a / 64)).bankPut e a l := by
  rw [State.bankStore, show (a % 64 + l.length + 63) / 64 = 1 by omega]
  simp

/-- Once a line is logged it stands in the undo area; one that was not takes its present bytes along. -/
theorem undoLine_logged (s : State) (e line : Nat) :
    (∃ u ∈ ((s.undoLine e line).cl (e / 2)).undoCur, u.eng = e ∧ u.line = line) ∧
    ((∀ u ∈ (s.cl (e / 2)).undoCur, ¬ (u.eng = e ∧ u.line = line)) →
      { eng := e, line := line, bytes := s.bankBytes e (line * 64) 64 } ∈ ((s.undoLine e line).cl (e / 2)).undoCur) := by
  unfold State.undoLine
  dsimp only
  split
  · next h =>
    simp only [List.any_eq_true, Bool.and_eq_true, beq_iff_eq] at h
    obtain ⟨u, hu, hmatch⟩ := h
    exact ⟨⟨u, hu, hmatch⟩, fun hno => absurd hmatch (hno u hu)⟩
  · rw [cl_setCl_self]
    exact ⟨⟨_, List.mem_append_right _ (List.mem_singleton_self _), rfl, rfl⟩,
      fun _ => List.mem_append_right _ (List.mem_singleton_self _)⟩

theorem undoLine_within (s : State) (e line : Nat) : s.within [.mem, .rmy] (s.undoLine e line) := by
  unfold State.undoLine
  dsimp only
  intro b hb
  split
  · cases b <;> rfl
  · cases b <;> first | rfl | exact absurd hb (by decide)

theorem bankStore_storedAt {s : State} (hwf : s.mem.wf = true) {e a n : Nat} {v : Word} {l : List Byte}
    (hlen : l.length = n) (hpos : 0 < n) (hfit : a % 64 + n ≤ 64)
    (hl : ∀ k (hk : k < l.length), l[k] = v.extractLsb' (8 * k) 8) : s.storedAt (s.bankStore e a l) e a n v := by
  subst hlen
  have hmem : (s.bankStore e a l).mem = { s.mem with bank := Mem.writeBytes 0 s.mem.bank (e * bankSize + a) l } :=
    bankStore_mem s e a l
  obtain ⟨hlogged, hnew⟩ := undoLine_logged s e (a / 64)
  refine ⟨fun k hk => ?_, fun x hx => ?_, by rw [hmem], ?_, ?_, ?_⟩
  · rw [bankByte_bankStore_in hwf e a k l hk, hl k hk]
  · rw [hmem]
    exact Mem.read_writeBytes_out ((mems_wf_iff _).1 hwf).2.1 _ _ l hx
  · rw [bankStore_line hpos hfit]
    exact hlogged
  · rw [bankStore_line hpos hfit]
    exact hnew
  · rw [bankStore_line hpos hfit]
    intro b hb
    have h := undoLine_within s e (a / 64) b hb
    cases b <;> first | exact h | exact absurd hb (by decide)

@[simp] theorem length_leBytes (n x : Nat) : (leBytes n x).length = n := by
  induction n generalizing x with
  | zero => rfl
  | succ n ih => rw [leBytes, List.length_cons, ih]

theorem getElem_leBytes (n x k : Nat) (hk : k < (leBytes n x).length) : (leBytes n x)[k] = BitVec.ofNat 8 (x / 2 ^ (8 * k)) := by
  induction n generalizing x k with
  | zero => simp [leBytes] at hk
  | succ n ih =>
    cases k with
    | zero => simp [leBytes]
    | succ k =>
      simp only [leBytes, List.getElem_cons_succ]
      rw [ih, Nat.div_div_eq_div_mul, show 8 * (k + 1) = 8 + 8 * k by omega, Nat.pow_add, show (2 : Nat) ^ 8 = 256 from rfl]

/-- The bytes of a number stored are those of the word. -/
theorem leBytes_word {n x : Nat} {v : Word} (hn : n ≤ 4) (hx : BitVec.ofNat 32 x = v) (k : Nat)
    (hk : k < (leBytes n x).length) : (leBytes n x)[k] = v.extractLsb' (8 * k) 8 := by
  have hlen : (leBytes n x).length = n := length_leBytes n x
  rw [getElem_leBytes, ← hx]
  apply BitVec.eq_of_getLsbD_eq
  intro j hj
  have hlt : 8 * k + j < 32 := by omega
  rw [BitVec.getLsbD_extractLsb', BitVec.getLsbD_ofNat, BitVec.getLsbD_ofNat, Nat.testBit_div_two_pow, Nat.add_comm j]
  simp [hj, hlt]

theorem storeClaim_of_eq {mk : Issue → Instr} {major n : Nat} (hx : ∀ i s, exec (mk i) s = s.store i major n)
    (hn : n = 1 ∨ n = 2 ∨ n = 4) : StoreClaim mk major n := by
  intro i s hwf h e a
  have ht := becomes_instr (hx i s) h rfl rfl rfl
  dsimp only at ht
  rw [effAddr_eq] at ht
  refine ⟨fun hlt hal => ?_, fun hlt hal => ?_, fun hge => ?_⟩
  · rw [accessCheck_ok hlt hal] at ht
    have hfit : a % 64 + n ≤ 64 := by rcases hn with rfl | rfl | rfl <;> omega
    exact ⟨_, bankStore_storedAt hwf (length_leBytes n _) (by omega) hfit (leBytes_word (by omega) rfl), ht⟩
  · rwa [accessCheck_misaligned hlt hal] at ht
  · rwa [accessCheck_beyond n hge] at ht

theorem atomicClaim_of_eq {mk : Issue → Instr} {fn : Nat} {F : Nat → Nat → Nat} {f : Word → Word → Word}
    (hx : ∀ i s, exec (mk i) s = s.atomic i fn F) (hfn : fn ≤ 1)
    (hf : ∀ a b : Word, BitVec.ofNat 32 (F a.toNat b.toNat) = f a b) : AtomicClaim mk fn f := by
  intro i s hwf h hi e w a m
  have ht := becomes_instr (hx i s) h (by simpa [hi] using hfn) (by simp [hi]) rfl
  dsimp only at ht
  have ha : (s.core e).r (fRs1 w) = a := (toNat_gpr s e (fRs1 w)).symm
  rw [ha] at ht
  refine ⟨fun hlt hal => ?_, fun hlt hal => ?_, fun hge => ?_⟩
  · rw [accessCheck_ok hlt hal, bankBytes_four, leNat_four] at ht
    have hv : BitVec.ofNat 32 (F m.toNat ((s.core e).r (fRs2 w))) = f m (s.gpr e (fRs2 w)) := by
      rw [← toNat_gpr]
      exact hf m _
    refine ⟨_, bankStore_storedAt hwf (length_leBytes 4 _) (by omega) (by omega) (leBytes_word (Nat.le_refl 4) hv), ?_⟩
    dsimp only at ht
    rwa [putR_state (ofNat_toNat_word m)] at ht
  · rwa [accessCheck_misaligned hlt hal] at ht
  · rwa [accessCheck_beyond 4 hge] at ht

/-- Settles O4: an aligned store lies in one line, which the undo area takes before the bytes change. -/
theorem storesWriteOnlyTheirBytes : Obligations.StoresWriteOnlyTheirBytes := by
  refine ⟨storeClaim_of_eq exec_stb (by decide), storeClaim_of_eq exec_sth (by decide),
    storeClaim_of_eq exec_stw (by decide), atomicClaim_of_eq exec_aadd (by decide) ?_,
    atomicClaim_of_eq exec_aswap (by decide) fun _ b => ofNat_toNat_word b⟩
  intro a b
  rw [BitVec.ofNat_add, ofNat_toNat_word, ofNat_toNat_word]

end Sys2Proof.Machine
end

section
/-! SUPPORT. What Sage's answers, mailbox resets and interrupt bits leave as it was (R331, R352 to R362): everything
but the mailboxes, the words that wait for them, the requests counted, and the interrupt bits and journals of
engines. -/

namespace Sys2Proof.Machine

set_option Elab.async false

/-- The state without the parts that posts to mailboxes change. -/
def State.postless (s : State) : State × (Nat → Eng) × (Nat → Cluster) :=
  ({ s with
      mbx := {}
      sage := { s.sage with waiting := [], reqRefused := 0, flights := [] }
      host := { s.host with devEvent := 0 }
      engs := { s.engs with eng := [] }
      rmy := { s.rmy with clusters := [] } },
    fun e => { s.eng e with core := { s.core e with ipend := 0, timerArmed := false } },
    fun k => { s.cl k with jCur := [], late := [] })

/-- A change within the parts left out. -/
theorem postless_eq {s t : State}
    (h : { t with mbx := s.mbx, sage := s.sage, host := s.host, engs := s.engs, rmy := s.rmy } = s)
    (hsage : { t.sage with waiting := [], reqRefused := 0, flights := [] } =
      { s.sage with waiting := [], reqRefused := 0, flights := [] })
    (hhost : { t.host with devEvent := 0 } = { s.host with devEvent := 0 }) (hengs : t.engs = s.engs)
    (hrmy : t.rmy = s.rmy) : t.postless = s.postless := by
  have heng : t.eng = s.eng := by funext e; simp only [State.eng, hengs]
  have hcl : t.cl = s.cl := by funext k; simp only [State.cl, hrmy]
  have hcore : t.core = s.core := by funext e; simp only [State.core, heng]
  simp only [State.postless, heng, hcl, hcore, hengs, hrmy, hsage, hhost]
  rw [← h]

section
variable (s : State)

@[simp] theorem postless_setMb (n : Nat) (m : Mbox) : (s.setMb n m).postless = s.postless :=
  postless_eq rfl rfl rfl rfl rfl

@[simp] theorem postless_countRefused : s.countRefused.postless = s.postless := postless_eq rfl rfl rfl rfl rfl

theorem postless_setCl {k : Nat} {c : Cluster} (h : { c with jCur := [], late := [] } = { s.cl k with jCur := [], late := [] }) :
    (s.setCl k c).postless = s.postless := by
  have hcl : (fun j => { (s.setCl k c).cl j with jCur := [], late := [] }) = fun j => { s.cl j with jCur := [], late := [] } := by
    funext j
    rw [cl_setCl]
    split
    · next hj => subst hj; exact h
    · rfl
  simp only [State.postless, hcl]
  rfl

theorem postless_setEng {e : Nat} {g : Eng}
    (h : { g with core := { g.core with ipend := 0, timerArmed := false } } =
      { s.eng e with core := { s.core e with ipend := 0, timerArmed := false } }) :
    (s.setEng e g).postless = s.postless := by
  have heng : (fun j => { (s.setEng e g).eng j with core := { (s.setEng e g).core j with ipend := 0, timerArmed := false } }) =
      fun j => { s.eng j with core := { s.core j with ipend := 0, timerArmed := false } } := by
    funext j
    simp only [State.core, eng_setEng]
    split
    · next hj => subst hj; exact h
    · rfl
  simp only [State.postless, heng]
  rfl

@[simp] theorem postless_irqBits (e m : Nat) : (s.irqBits e m).postless = s.postless := postless_setEng s rfl

@[simp] theorem postless_raiseIpend (e b : Nat) : (s.raiseIpend e b).postless = s.postless := by
  unfold State.raiseIpend State.input
  split
  · exact postless_setCl s rfl
  · exact (postless_irqBits _ _ _).trans (postless_setCl s rfl)

@[simp] theorem postless_mbIrq (n m b : Nat) : (s.mbIrq n m b).postless = s.postless := by
  simp only [State.mbIrq]
  repeat' split
  all_goals simp

@[simp] theorem postless_mbIrqAll (n b : Nat) (ms : List Nat) : (s.mbIrqAll n b ms).postless = s.postless :=
  foldl_same State.postless _ (fun t m => postless_mbIrq t n m b) ms s

@[simp] theorem postless_mbPost (n : Nat) (home : Bool) (src : Nat) (w : Word) :
    (s.mbPost n home src w).postless = s.postless := by
  simp only [State.mbPost]
  repeat' split
  all_goals simp

@[simp] theorem postless_mbTake (n : Nat) (home : Bool) : (s.mbTake n home).2.postless = s.postless := by
  simp only [State.mbTake]
  repeat' split
  all_goals simp

@[simp] theorem postless_mbTakeN (n : Nat) (home : Bool) (k : Nat) : (s.mbTakeN n home k).postless = s.postless := by
  induction k generalizing s with
  | zero => rfl
  | succ k ih => simp [State.mbTakeN, ih]

@[simp] theorem postless_mbFlush (n : Nat) (home : Bool) : (s.mbFlush n home).postless = s.postless := by
  simp [State.mbFlush]

@[simp] theorem postless_dropIncomplete (n : Nat) : (s.dropIncomplete n).postless = s.postless := by
  unfold State.dropIncomplete
  dsimp only
  split <;> simp

@[simp] theorem postless_breakLock (n : Nat) : (s.breakLock n).postless = s.postless := by
  unfold State.breakLock
  dsimp only
  split <;> simp

@[simp] theorem postless_resetMaster (m : Nat) : (s.resetMaster m).postless = s.postless := by
  refine foldl_same State.postless _ (fun t n => ?_) _ s
  dsimp only
  repeat' split
  all_goals simp

@[simp] theorem postless_sagePost (n : Nat) (home : Bool) (l : List Word) : (s.sagePost n home l).postless = s.postless :=
  foldl_same State.postless _ (fun t w => postless_mbPost t n home 33 w) l s

@[simp] theorem postless_sendWords (n : Nat) (home : Bool) (src : Nat) (l : List Word) :
    (s.sendWords n home src l).postless = s.postless := by
  unfold State.sendWords
  split
  · simp
  · exact postless_eq rfl rfl rfl rfl rfl

@[simp] theorem postless_respond (src code : Nat) (tag : Byte) (st : Nat) (b : List Word) :
    (s.respond src code tag st b).postless = s.postless := by
  simp [State.respond]

@[simp] theorem postless_refuse (c : Req) (code st : Nat) (b : List Word) : (s.refuse c code st b).postless = s.postless := by
  simp [State.refuse]

@[simp] theorem postless_finish (c : Req) (code : Nat) (b : List Word) : (s.finish c code b).postless = s.postless := by
  simp [State.finish]

@[simp] theorem postless_accept (c : Req) (code : Nat) : (s.accept c code).postless = s.postless :=
  (postless_eq rfl rfl rfl rfl rfl).trans (postless_respond s c.src.val code c.tag 1 [])

@[simp] theorem postless_final (src code : Nat) (tag : Byte) (st : Nat) (b : List Word) :
    (s.final src code tag st b).postless = s.postless := by
  simp only [State.final]
  split
  · exact (postless_respond _ src code tag st b).trans (postless_eq rfl rfl rfl rfl rfl)
  · rw [postless_countRefused, postless_respond]
    exact postless_eq rfl rfl rfl rfl rfl

end

/-! ### Reading the state without them -/

section
variable {s t : State} (h : t.postless = s.postless)
include h

theorem eng_of_postless (e : Nat) : { t.eng e with core := { t.core e with ipend := 0, timerArmed := false } } =
    { s.eng e with core := { s.core e with ipend := 0, timerArmed := false } } :=
  congrFun (congrArg (fun v => v.2.1) h) e

theorem cl_of_postless (k : Nat) : { t.cl k with jCur := [], late := [] } = { s.cl k with jCur := [], late := [] } :=
  congrFun (congrArg (fun v => v.2.2) h) k

end

end Sys2Proof.Machine
end

section
/-! SUPPORT. Traps, retirement and annulled instructions (R316, R320, R325, R326, R340 to R343). -/

namespace Sys2Proof.Machine

set_option Elab.async false

/-! ### Traps -/

/-- Answers of DONE to a list of requests. -/
theorem postless_finals (l : List (Nat × Nat × Byte × List Nat)) (s : State) :
    (l.foldl (fun s r => s.final r.1 r.2.1 r.2.2.1 0 []) s).postless = s.postless := by
  induction l generalizing s with
  | nil => rfl
  | cons r l ih => rw [List.foldl_cons, ih, postless_final]

/-- Answers to waiting grant requests change no engine beyond its interrupts and no cluster beyond its journal. -/
theorem grantSettle_engines (s : State) : s.grantSettle.postless.2 = s.postless.2 := by
  unfold State.grantSettle
  dsimp only
  rw [postless_finals]
  rfl

theorem statusPoint_engines (s : State) (e v : Nat) :
    (s.statusPoint e v).postless.2 = (s.setEng e { s.eng e with status := v }).postless.2 := by
  simp only [State.statusPoint]
  split <;> rfl

section
variable {s t : State} (h : t.postless.2 = s.postless.2)
include h

/-- A register of an engine outside its core. -/
theorem eng_of_engines {β : Type} (f : Eng → β) (hf : ∀ g c, f { g with core := c } = f g) (e : Nat) :
    f (t.eng e) = f (s.eng e) := by
  have hg := congrArg f (congrFun (congrArg Prod.fst h) e)
  exact (hf _ _).symm.trans (hg.trans (hf _ _))

/-- A field of a cluster outside its journal. -/
theorem cl_of_engines {β : Type} (f : Cluster → β) (hf : ∀ c j l, f { c with jCur := j, late := l } = f c) (k : Nat) :
    f (t.cl k) = f (s.cl k) := by
  have hg := congrArg f (congrFun (congrArg Prod.snd h) k)
  exact (hf _ _ _).symm.trans (hg.trans (hf _ _ _))

end

/-- What a double trap leaves of its engine and of its cluster's outbox. -/
theorem doubleTrap_halts (s : State) (e : Nat) :
    let t := s.doubleTrap e
    (t.eng e).st = .trapHalt ∧ (t.eng e).status = 4 ∧ (t.eng e).lastCause = (s.eng e).lastCause ∧
    (t.eng e).lastAddr = (s.eng e).lastAddr ∧
    (t.cl (e / 2)).outbox = (s.cl (e / 2)).outbox.filter (fun o => o.eng != e) := by
  intro t
  let u := (s.setEng e { s.eng e with st := .trapHalt }).dropOutbox e
  let v := (u.resetMaster e).setEng e { (u.resetMaster e).eng e with status := 4 }
  have hreset : (u.resetMaster e).postless = u.postless := postless_resetMaster u e
  have hu : u.eng e = { s.eng e with st := .trapHalt } := by simp [u, State.dropOutbox]
  have hv : v.eng e = { (u.resetMaster e).eng e with status := 4 } := eng_setEng_self ..
  have hvc : v.cl (e / 2) = (u.resetMaster e).cl (e / 2) := cl_setEng ..
  have hout : (u.cl (e / 2)).outbox = (s.cl (e / 2)).outbox.filter (fun o => o.eng != e) := by simp [u, State.dropOutbox]
  have hr : (u.resetMaster e).postless.2 = u.postless.2 := congrArg Prod.snd hreset
  have ht : t.postless.2 = v.postless.2 := (grantSettle_engines _).trans (statusPoint_engines _ e 4)
  clear_value t v u
  refine ⟨?_, ?_, ?_, ?_, ?_⟩
  · rw [eng_of_engines ht Eng.st fun _ _ => rfl, hv]
    dsimp only
    rw [eng_of_engines hr Eng.st fun _ _ => rfl, hu]
  · rw [eng_of_engines ht Eng.status fun _ _ => rfl, hv]
  · rw [eng_of_engines ht Eng.lastCause fun _ _ => rfl, hv]
    dsimp only
    rw [eng_of_engines hr Eng.lastCause fun _ _ => rfl, hu]
  · rw [eng_of_engines ht Eng.lastAddr fun _ _ => rfl, hv]
    dsimp only
    rw [eng_of_engines hr Eng.lastAddr fun _ _ => rfl, hu]
  · rw [cl_of_engines ht Cluster.outbox fun _ _ _ => rfl, hvc, ← hout]
    exact cl_of_engines hr Cluster.outbox (fun _ _ _ => rfl) _

/-- The trap recorded in its engine's registers (R340, R342). -/
def Eng.trapped (g : Eng) (live : Bool) (cause addr : Nat) : Eng :=
  { g with
    lastCause := BitVec.ofNat 8 cause, lastEpc := g.core.epcAt, lastAddr := BitVec.ofNat 32 addr
    traps := if live then satInc g.traps else g.traps
    emul := if live && cause = 2 then satInc g.emul else g.emul
    accViol := if live && cause = 3 then satInc g.accViol else g.accViol }

/-- The state in which a trap has been recorded and counted. -/
def State.trapNoted (s : State) (e cause addr : Nat) : State :=
  let u := s.setEng e ((s.eng e).trapped (!s.replaying e) cause addr)
  if !s.replaying e && cause == 3 then u.countViol else u

theorem eng_trapNoted (s : State) (e cause addr : Nat) :
    (s.trapNoted e cause addr).eng e = (s.eng e).trapped (!s.replaying e) cause addr := by
  unfold State.trapNoted
  dsimp only
  split <;> exact eng_setEng_self ..

/-- A trap records itself and then enters the handler, or is a double trap. -/
theorem trap_eq (s : State) (e cause inst addr : Nat) : s.trap e cause inst addr =
    if (s.core e).exc then (s.trapNoted e cause addr).doubleTrap e
    else (s.trapNoted e cause addr).setCore e ((s.core e).enter cause inst addr) := by
  unfold State.trap State.trapNoted Eng.trapped
  cases s.replaying e
  · simp [State.core]
  · simp [State.core]

theorem doubleTrapHalts : DoubleTrapHalts := by
  intro s e cause inst addr hexc hcause t
  have ht : t = (s.trapNoted e cause addr).doubleTrap e := (trap_eq s e cause inst addr).trans (if_pos hexc)
  obtain ⟨hst, hstatus, hlast, haddr, hout⟩ := doubleTrap_halts (s.trapNoted e cause addr) e
  rw [eng_trapNoted] at hlast haddr
  rw [ht]
  refine ⟨hst, hstatus, hlast, haddr, fun o ho => ?_⟩
  rw [hout, List.mem_filter] at ho
  simpa using ho.2

theorem trap_of_free {s : State} {e cause inst addr : Nat} (hexc : (s.core e).exc = false) (hcause : cause ≠ 3) :
    (s.trap e cause inst addr).core e = (s.core e).enter cause inst addr ∧
    s.within [.engs] (s.trap e cause inst addr) := by
  rw [trap_eq, hexc, if_neg Bool.false_ne_true, State.trapNoted, beq_false_of_ne hcause, Bool.and_false]
  refine ⟨core_setCore_self .., fun b hb => ?_⟩
  cases b <;> first | rfl | exact absurd hb (by decide)

theorem reservedMajor_traps {i : Issue} {s : State} (h : s.fetches i = true) (hm : 0x26 ≤ bits i.word.toNat 27 22) :
    Becomes (.reservedMajor i) s (s.trap i.eng.val 2 i.word.toNat 0) := by
  simp only [State.fetches, Bool.and_eq_true, beq_iff_eq, decide_eq_true_eq, Bool.not_eq_true'] at h
  obtain ⟨⟨⟨⟨⟨⟨hrun, hlead⟩, hst⟩, hrec⟩, hroom⟩, hpc⟩, halign⟩ := h
  have hexec : s.canExec i.eng.val = true := by simp [State.canExec, hrun, ← hlead, hst, hrec, hroom]
  have hpc' : ¬ bankEnd ≤ (s.core i.eng.val).pc.toNat := Nat.not_le.mpr hpc
  rw [Becomes, exec_reservedMajor, execReservedMajor]
  simp [hexec, Nat.not_lt.mpr hm, presentAll_of_not_recovering hrec, wake_of_running hst, hst, hpc', halign]
  rfl

/-- Settles O5: a trap records itself, then enters the handler or, in a handler, halts its engine; the answers and
posts of a double trap change no engine beyond its interrupt bits and no outbox. -/
theorem trapsEnterTheHandler : Obligations.TrapsEnterTheHandler := by
  refine ⟨doubleTrapHalts, fun s e cause inst addr hexc hcause => trap_of_free hexc hcause,
    fun i s h hm => reservedMajor_traps h hm, fun i s h hfn => ?_⟩
  exact becomes_instr (exec_brk i s) h (by simp [sysRow, hfn]) (by simp [sysRow, hfn]) rfl

end Sys2Proof.Machine
end

section
/-! SUPPORT. Retirement and annulled instructions (R316, R325, R326, R343). -/

namespace Sys2Proof.Machine

set_option Elab.async false

/-! ### Annulled instructions -/

/-- What retirement does is a function of the engine that retires; writing that engine back first changes nothing. -/
theorem retire_setEng (s : State) (e : Nat) (g : Eng) (hg : g = s.eng e) (next : Option Nat) :
    (s.setEng e g).retire e next = s.retire e next := by
  subst hg
  have hsame : ∀ x : Eng, (s.setEng e (s.eng e)).setEng e x = s.setEng e x := fun x => setEng_setEng ..
  simp only [State.retire, eng_setEng_self, hsame]
  rfl

/-- An instruction of a defined word whose condition is false only retires (R316). -/
theorem becomes_annulled {c : Instr} {s : State} {i : Issue} {row : Row} {f : State → Nat → Nat → Eff}
    (hx : exec c s = s.instr i row f) (h : s.fetches i = true) (hm : bits i.word.toNat 27 22 = row.major)
    (h8 : bits i.word.toNat 31 28 ≠ 8) (hcond : (s.core i.eng.val).cond i.word.toNat = false)
    (hrep : (s.core i.eng.val).rep = none) (hr : row.rsv i.word.toNat = false) (hi : row.is i.word.toNat = true)
    (hb : row.bad i.word.toNat = false) (hn : row.badIn (s.core i.eng.val) i.word.toNat = false) :
    Becomes c s (s.retire i.eng.val none) := by
  simp only [State.fetches, Bool.and_eq_true, beq_iff_eq, decide_eq_true_eq, Bool.not_eq_true'] at h
  obtain ⟨⟨⟨⟨⟨⟨hrun, hlead⟩, hst⟩, hrec⟩, hroom⟩, hpc⟩, halign⟩ := h
  have hexec : s.canExec i.eng.val = true := by simp [State.canExec, hrun, ← hlead, hst, hrec, hroom]
  have hpc' : ¬ bankEnd ≤ (s.eng i.eng.val).core.pc.toNat := Nat.not_le.mpr hpc
  have halign' : (s.eng i.eng.val).core.pc.toNat % 4 = 0 := halign
  have hn' : row.badIn (s.eng i.eng.val).core i.word.toNat = false := hn
  have hcond' : (s.eng i.eng.val).core.cond i.word.toNat = false := hcond
  have hissue : s.issue i row f = (s.setCore i.eng.val { (s.eng i.eng.val).core with rep := none }).retire i.eng.val none := by
    simp only [State.issue, hexec, presentAll_of_not_recovering hrec, wake_of_running hst, hst, hm, hr, hi, hb]
    simp [hpc', halign', h8, hcond', hn']
  have hback : { (s.eng i.eng.val).core with rep := none } = (s.eng i.eng.val).core := by
    have hrep' : (s.eng i.eng.val).core.rep = none := hrep
    rw [← hrep']
  rw [Becomes, hx, State.instr, State.done, hissue, hback, State.setCore, retire_setEng s i.eng.val _ rfl]

theorem annulClaim_of_eq {mk : Issue → Instr} {major : Nat} {f : State → Nat → Nat → Eff}
    (hx : ∀ i s, exec (mk i) s = s.instr i { major := major } f) : AnnulClaim mk major :=
  fun i s h hm h8 hcond hrep => becomes_annulled (hx i s) h hm h8 hcond hrep rfl rfl rfl rfl

theorem annulledInstructionsOnlyRetire : AnnulledInstructionsOnlyRetire := by
  refine ⟨annulClaim_of_eq exec_addi, annulClaim_of_eq exec_andi, annulClaim_of_eq exec_ori, annulClaim_of_eq exec_xori,
    annulClaim_of_eq exec_cmpi, annulClaim_of_eq exec_ldb, annulClaim_of_eq exec_ldbu, annulClaim_of_eq exec_ldh,
    annulClaim_of_eq exec_ldhu, annulClaim_of_eq exec_ldw, annulClaim_of_eq exec_stb, annulClaim_of_eq exec_sth,
    annulClaim_of_eq exec_stw, annulClaim_of_eq exec_br, annulClaim_of_eq exec_call,
    fun i s h hm h8 hcond hrep hops => ?_, fun i s h hm hops => ?_⟩
  · obtain ⟨p, hp, htag⟩ := hops
    refine becomes_annulled (exec_opwait i s) h hm h8 hcond hrep rfl rfl rfl ?_
    rw [toNat_gpr] at htag
    simp only [Tab.keys, Bool.not_eq_false', List.any_map, List.any_eq_true]
    exact ⟨p, hp, htag⟩
  · refine becomes_illegal (exec_opwait i s) h hm rfl rfl ?_
    simp only [Tab.keys, Bool.not_eq_true', List.any_map, List.any_eq_false, Function.comp_apply, Bool.not_eq_true]
    exact fun p hp => by simpa [toNat_gpr] using hops p hp

/-! ### The end test -/

section
variable {l : Loops} {a : Nat}

theorem endTest_away (h : l.depth = 0 ∨ l.le0.toNat ≠ a) (f : Nat) : endTest (f + 1) l a = (l, none) := by
  rcases h with h | h <;> simp [endTest, h]

theorem endTest_repeats (hd : 0 < l.depth) (ha : l.le0.toNat = a) (hc : 1 < l.lc0.toNat) (f : Nat) :
    endTest (f + 1) l a = ({ l with lc0 := l.lc0 - 1 }, some l.ls0.toNat) := by
  simp [endTest, Nat.ne_of_gt hd, ha, hc]

theorem endTest_ends (hd : 0 < l.depth) (ha : l.le0.toNat = a) (hc : l.lc0.toNat ≤ 1) (f : Nat) :
    endTest (f + 1) l a = endTest f l.pop a := by
  simp [endTest, Nat.ne_of_gt hd, ha, Nat.not_lt.mpr hc]

end

/-- Without a debug request, retirement changes its engine alone. -/
theorem retire_of_free {s : State} {e : Nat} (hh : (s.eng e).haltReq = false) (hs : (s.eng e).stepReq = false)
    (next : Option Nat) : ∃ g : Eng, s.retire e next = s.setEng e g ∧ g.core = { s.core e with
      loops := match next with | some _ => (s.core e).loops | none => (endTest 3 (s.core e).loops (s.core e).pc.toNat).1
      pc := BitVec.ofNat 32 (match next with
        | some t => t
        | none => (endTest 3 (s.core e).loops (s.core e).pc.toNat).2.getD ((s.core e).pc.toNat + 4))
      ret := (s.core e).ret + 1 } := by
  cases next with
  | none => 
    refine ⟨_, by simp only [State.retire, hh, hs]; rfl, rfl⟩
  | some t => 
    refine ⟨_, by simp only [State.retire, hh, hs]; rfl, rfl⟩

/-- A requested halt or step takes effect at the retirement. -/
theorem retire_halts {s : State} {e : Nat} (h : (s.eng e).haltReq = true ∨ (s.eng e).stepReq = true) (next : Option Nat) :
    let u := (s.setEng e { s.eng e with haltReq := false, stepReq := false }).retire e next
    s.retire e next = (u.setEng e { u.eng e with st := .dbgHalt, haltAt := s.sys.mono }).grantSettle := by
  have hreq : ((s.eng e).haltReq || (s.eng e).stepReq) = true := by simpa using h
  simp only [State.retire, hreq, Bool.or_self, Bool.false_eq_true, if_false, if_true, eng_setEng_self, setEng_setEng]
  rfl

theorem ofNat_toNat_add_four (x : Word) : BitVec.ofNat 32 (x.toNat + 4) = x + 4 := by
  rw [BitVec.ofNat_add, ofNat_toNat_word, BitVec.ofNat_eq_ofNat]

/-- Settles O7: retirement writes its engine alone, and the end test is taken level by level. -/
theorem retirementAppliesTheEndTest : Obligations.RetirementAppliesTheEndTest := by
  refine ⟨annulledInstructionsOnlyRetire, fun s e a h => retire_halts h a, fun s e hh hs => ?_⟩
  intro c l t
  obtain ⟨g, hg, hcore⟩ := retire_of_free hh hs none
  have ht : t = g.core := by simp only [t, hg, State.core, eng_setEng_self]
  dsimp only at hcore
  have hw : s.within [.engs] (s.retire e none) := by
    rw [hg]
    intro b hb
    cases b <;> first | rfl | exact absurd hb (by decide)
  rw [ht, hcore]
  refine ⟨rfl, rfl, rfl, hw, fun h => ?_, fun hd ha hc => ?_, fun hd ha hc => ?_, fun hd ha hc h1 => ?_,
    fun hd ha hc h1 hc1 => ?_, fun a => ?_⟩
  · have haway : l.depth = 0 ∨ l.le0.toNat ≠ c.pc.toNat := h.imp_right fun hne he => hne (BitVec.eq_of_toNat_eq he)
    rw [endTest_away haway]
    exact ⟨ofNat_toNat_add_four _, rfl⟩
  · rw [endTest_repeats hd (congrArg _ ha) hc]
    exact ⟨ofNat_toNat_word _, rfl⟩
  · rw [endTest_ends (hd ▸ Nat.one_pos) (congrArg _ ha) hc, endTest_away (.inl (by simp [Loops.pop, hd]))]
    exact ⟨ofNat_toNat_add_four _, by simp [Loops.pop, hd]⟩
  · have haway : l.pop.depth = 0 ∨ l.pop.le0.toNat ≠ c.pc.toNat := .inr fun he => h1 (BitVec.eq_of_toNat_eq he)
    rw [endTest_ends (hd ▸ Nat.two_pos) (congrArg _ ha) hc, endTest_away haway]
    exact ⟨ofNat_toNat_add_four _, by simp [Loops.pop, hd], rfl, rfl, rfl⟩
  · rw [endTest_ends (hd ▸ Nat.two_pos) (congrArg _ ha) hc,
      endTest_repeats (l := l.pop) (by simp [Loops.pop, hd]) (congrArg _ h1) hc1]
    exact ⟨ofNat_toNat_word _, by simp [Loops.pop, hd], rfl⟩
  · obtain ⟨g', hg', hcore'⟩ := retire_of_free hh hs (some a)
    have hj : (s.retire e (some a)).core e = g'.core := by simp only [hg', State.core, eng_setEng_self]
    rw [hj, hcore']
    exact ⟨rfl, rfl, rfl⟩

end Sys2Proof.Machine
end

section
/-! SUPPORT. Operations, their tags and their completions (R331 to R334, R341). -/

namespace Sys2Proof.Machine

set_option Elab.async false

/-! ### Tags -/

/-- The first number below `n` of a property. -/
theorem find?_range_eq_some {p : Nat → Bool} {n t : Nat} (ht : t < n) (hp : p t = true) (hlow : ∀ u, u < t → p u = false) :
    (List.range n).find? p = some t := by
  rw [List.find?_range_eq_some]
  exact ⟨hp, by simpa using ht, fun u hu => by simpa using hlow u hu⟩

theorem find?_range_eq_none {p : Nat → Bool} {n : Nat} (h : ∀ t, t < n → p t = false) : (List.range n).find? p = none := by
  simpa [List.find?_eq_none] using h

theorem freeTag_eq_some {c : EngCore} {t : Nat} (ht : t < 16) (hfree : c.ops.find? t = none)
    (hlow : ∀ u, u < t → c.ops.find? u ≠ none) : c.freeTag = some t :=
  find?_range_eq_some ht (by simp [hfree]) fun u hu => by simpa [Option.isSome_iff_ne_none] using hlow u hu

theorem freeTag_eq_none {c : EngCore} (h : ∀ t, t < 16 → c.ops.find? t ≠ none) : c.freeTag = none :=
  find?_range_eq_none fun t ht => by simpa [Option.isSome_iff_ne_none] using h t ht

theorem freeTag_isSome {c : EngCore} (h : ∃ t, t < 16 ∧ c.ops.find? t = none) : ∃ t, c.freeTag = some t := by
  obtain ⟨t, ht, hfree⟩ := h
  rw [← Option.isSome_iff_exists, EngCore.freeTag, List.find?_isSome]
  exact ⟨t, by simpa using ht, by simp [hfree]⟩

/-! ### Operations -/

/-- The engine of an instruction that acts is in no recovery. -/
theorem recovering_of_issues {s : State} {i : Issue} {major : Nat} (h : s.issues i major = true) :
    s.recovering i.eng.val = false := by
  simp only [State.issues, State.fetches, Bool.and_eq_true, Bool.not_eq_true'] at h
  exact h.1.1.1.1.1.1.2

theorem opClaim_of_eq {mk : Issue → Instr} {major : Nat} {kind : OpKind} {ok : State → Nat → List Byte → Bool}
    {out : List Byte → Bool} {f act : State → Nat → Nat → List Byte → State}
    (hx : ∀ i s, exec (mk i) s = s.opIssue i major kind ok out f)
    (hf : ∀ (s : State) (e rd t : Nat) (o : Op) (b : List Byte), s.recovering e = false →
      f (s.takeTag e rd t o) e t b = act (s.takeTag e rd t o) e t b) : OpClaim mk major kind ok out act := by
  intro i s h hz e a b
  have hrec : s.recovering e = false := recovering_of_issues h
  have hrep : s.replaying e = false := not_replaying hrec
  have ht := becomes_instr (hx i s) h rfl rfl (by simp [opRow, hz])
  dsimp only at ht
  have ha : (s.core e).r (fRs1 i.word.toNat) = a := (toNat_gpr s e _).symm
  rw [ha] at ht
  have hkind : (kind == .put || kind == .get) = true ↔ (kind = .put ∨ kind = .get) := by simp
  refine ⟨fun hk hlag => ?_, fun hlag => ?_⟩
  · rwa [hkind.2 hk, hlag, Bool.and_self, if_pos rfl] at ht
  have hgo : ((kind == .put || kind == .get) && s.grantLag e) = false := by
    by_cases hk : kind = .put ∨ kind = .get
    · rw [hlag hk, Bool.and_false]
    · rw [Bool.eq_false_iff.2 fun hb => hk (hkind.1 hb), Bool.false_and]
  rw [hgo, if_neg Bool.false_ne_true] at ht
  refine ⟨fun hb => ?_, fun hb hal => ?_, fun hb hal hok => ?_, fun hb hal hok hfull => ?_,
    fun hb hal hok hout t ht16 hfree hlow => ?_, fun hb hal hok hout htag => ⟨fun hshare => ?_, fun hshare hbox hst => ?_⟩⟩
  · rwa [if_pos (by exact hb)] at ht
  all_goals rw [if_neg (Nat.not_lt.mpr hb)] at ht
  · rwa [if_pos hal] at ht
  all_goals rw [if_neg (not_not_intro hal), show s.bankBytes i.eng.val a 32 = b from rfl, hok] at ht
  · exact ht
  · rw [freeTag_eq_none hfull] at ht
    exact ht
  · have hroom : (out b && !s.outFits e) = false ∧ (out b && !s.outRoom e) = false := by
      cases hb : out b with
      | false => exact ⟨rfl, rfl⟩
      | true => simp [State.outFits, State.outRoom, (hout hb).1, (hout hb).2]
    rw [freeTag_eq_some ht16 hfree hlow] at ht
    dsimp only at ht
    rwa [hroom.1, hroom.2, if_neg Bool.false_ne_true, if_neg Bool.false_ne_true, hf s _ _ _ _ _ hrec] at ht
  · obtain ⟨t, hfree⟩ := freeTag_isSome htag
    rw [hfree] at ht
    dsimp only at ht
    rw [hout, State.outFits, hrep, hshare] at ht
    exact ht
  · obtain ⟨t, hfree⟩ := freeTag_isSome htag
    rw [hfree] at ht
    dsimp only at ht
    have hfull : s.outRoom e = false := by simp [State.outRoom, hbox]
    rw [hout, State.outFits, hrep, hshare, hfull, State.outStall, hst, hrep] at ht
    exact ht

/-- Settles O10: the five operations go through one order of checks and differ in their block and in what they do
with the tag. -/
theorem operationsTakeATag : Obligations.OperationsTakeATag := by
  refine ⟨opClaim_of_eq exec_put fun _ _ _ _ _ _ _ => rfl, opClaim_of_eq exec_get ?_,
    opClaim_of_eq exec_txq fun _ _ _ _ _ _ _ => rfl, opClaim_of_eq exec_rxq fun _ _ _ _ _ _ _ => rfl,
    opClaim_of_eq exec_dma fun _ _ _ _ _ _ _ => rfl⟩
  intro s e rd t o b hrec
  rw [not_replaying, if_neg Bool.false_ne_true]
  exact hrec

/-! ### Completions -/

/-- An input to an engine that no recovery holds is journaled and seen at once. -/
theorem input_eq_seen {s : State} {j : JEntry} (h : s.recovering j.eng = false) : s.input j = s.seen j := by
  rw [State.input, h]
  rfl

theorem recovering_setEng (s : State) (e : Nat) (g : Eng) (j : Nat) : (s.setEng e g).recovering j = s.recovering j := rfl

theorem takesInput_iff {s : State} {e : Nat} : s.takesInput e = true ↔ s.running = true ∧ s.recovering e = false := by
  simp [State.takesInput]

theorem tst_and (x y i : Nat) : tst (x &&& y) i = (tst x i && tst y i) := by simp only [tst_eq_testBit, Nat.testBit_and]

theorem tst_two_pow (t i : Nat) : tst (2 ^ t) i = decide (t = i) := by rw [tst_eq_testBit, Nat.testBit_two_pow]

/-- One completed tag freed: its bit clears and its operation goes. -/
theorem freeTags_one {c : EngCore} {t : Nat} (h : tst c.opdone.toNat t = true) : c.freeTags (2 ^ t) =
    { c with opdone := c.opdone &&& ~~~ BitVec.ofNat 16 (2 ^ t), ops := c.ops.filter (fun p => p.1 != t) } := by
  have hmask : ∀ i, (!tst (c.opdone.toNat &&& 2 ^ t) i) = (i != t) := by
    intro i
    by_cases hi : i = t
    · subst hi
      simp [tst_and, tst_two_pow, h]
    · simp [tst_and, tst_two_pow, hi, Ne.symm hi]
  simp only [EngCore.freeTags, hmask]

theorem opwaitTakesATag (i : Issue) (s : State) (h : s.issues i 0x1F = true) :
    let e := i.eng.val
    let c := s.core e
    let m := (s.gpr e (fRs1 i.word.toNat)).toNat % 2 ^ 16
    ((∀ p ∈ c.ops, tst m p.1 = false) → Becomes (.opwait i) s (s.trap e 1 i.word.toNat 0)) ∧
    ((∃ p ∈ c.ops, tst m p.1 = true) → m &&& c.opdone.toNat = 0 → Becomes (.opwait i) s s) ∧
    (∀ t, t < 16 → (∃ p ∈ c.ops, tst m p.1 = true) → tst m t = true → tst c.opdone.toNat t = true →
      (∀ u, u < t → tst (m &&& c.opdone.toNat) u = false) →
      Becomes (.opwait i) s ((s.setCore e ({ c with
        opdone := c.opdone &&& ~~~ BitVec.ofNat 16 (2 ^ t), ops := c.ops.filter (fun p => p.1 != t) }.setR
          (fRd i.word.toNat) t)).retire e none)) := by
  intro e c m
  have hm : c.r (fRs1 i.word.toNat) % 2 ^ 16 = m := by rw [← toNat_gpr]
  have hkeys : (∃ p ∈ c.ops, tst m p.1 = true) → (!(c.ops.keys.any (tst (c.r (fRs1 i.word.toNat) % 2 ^ 16)))) = false := by
    rintro ⟨p, hp, htag⟩
    simp only [hm, Tab.keys, Bool.not_eq_false', List.any_map, List.any_eq_true]
    exact ⟨p, hp, htag⟩
  have hgo := fun hops => becomes_instr (exec_opwait i s) h rfl rfl rfl (hkeys hops)
  dsimp only at hgo
  rw [show (s.core i.eng.val).r (fRs1 i.word.toNat) % 2 ^ 16 = m from hm] at hgo
  refine ⟨fun hops => ?_, fun hops hnone => ?_, fun t ht hops hmt hdt hlow => ?_⟩
  · have hf : s.fetches i = true ∧ bits i.word.toNat 27 22 = 0x1F := by
      simp only [State.issues, Bool.and_eq_true, beq_iff_eq] at h
      exact ⟨h.1.1.1, h.1.1.2⟩
    refine becomes_illegal (exec_opwait i s) hf.1 hf.2 rfl rfl ?_
    show (!(c.ops.keys.any (tst (c.r (fRs1 i.word.toNat) % 2 ^ 16)))) = true
    simp only [hm, Tab.keys, Bool.not_eq_true', List.any_map, List.any_eq_false, Function.comp_apply, Bool.not_eq_true]
    exact hops
  · have ht := hgo hops
    rw [find?_range_eq_none fun t _ => by rw [← tst_and]; exact hnone ▸ by simp [tst]] at ht
    exact ht
  · have ht' := hgo hops
    rw [find?_range_eq_some ht (by rw [hmt]; exact hdt) fun u hu => by rw [← tst_and]; exact hlow u hu] at ht'
    dsimp only at ht'
    rwa [freeTags_one hdt] at ht'

/-- Settles O11: OPWAIT looks for the lowest tag of the mask that is done, and every completion is an input that its
engine sees at once. -/
theorem completionsFreeTheTag : Obligations.CompletionsFreeTheTag := by
  refine ⟨opwaitTakesATag, fun e tag s o r hin hop htake => ?_, fun e tag s o b hin hop htake => ?_,
    fun e tag s o st hin hop htake => ?_, fun e tag s o hin hop hdir hdone => ?_⟩
  · rw [Becomes, exec_putCompletion, execPutCompletion, htake, hop]
    simp only [hin, if_true]
    rw [input_eq_seen (takesInput_iff.1 hin).2]
    rfl
  · rw [Becomes, exec_getCompletion, execGetCompletion, htake, hop]
    simp only [hin, if_true]
    rw [input_eq_seen (takesInput_iff.1 hin).2]
    rfl
  · rw [Becomes, exec_txqCompletion, execTxqCompletion, htake, hop]
    simp only [hin, if_true]
    rw [input_eq_seen (takesInput_iff.1 hin).2]
    rfl
  · rw [Becomes, exec_dmaCompletion, execDmaCompletion, hop]
    have hc : (s.eng e.val).dmaDone.contains tag.val = true := by simpa using hdone
    simp only [hin, hdir, hc, Bool.not_true, Bool.false_eq_true, if_false, if_true]
    rw [input_eq_seen (takesInput_iff.1 hin).2]
    rfl

end Sys2Proof.Machine
end

section
/-! SUPPORT. Mailbox and system instructions, CSRs, interrupts and debug (R335 to R347). -/

namespace Sys2Proof.Machine

set_option Elab.async false

/-! ### Illegal words -/

section
variable {c : Instr} {s : State} {i : Issue} {row : Row} {f : State → Nat → Nat → Eff}

/-- A fetched word of a reserved form of its major traps ILLEGAL, whatever its condition (R316, R320). -/
theorem becomes_reserved (hx : exec c s = s.instr i row f) (h : s.fetches i = true)
    (hm : bits i.word.toNat 27 22 = row.major) (hr : row.rsv i.word.toNat = true) :
    Becomes c s (s.trap i.eng.val 1 i.word.toNat 0) := by
  simp only [State.fetches, Bool.and_eq_true, beq_iff_eq, decide_eq_true_eq, Bool.not_eq_true'] at h
  obtain ⟨⟨⟨⟨⟨⟨hrun, hlead⟩, hst⟩, hrec⟩, hroom⟩, hpc⟩, halign⟩ := h
  have hexec : s.canExec i.eng.val = true := by simp [State.canExec, hrun, ← hlead, hst, hrec, hroom]
  have hpc' : ¬ 0x60000 ≤ (s.eng i.eng.val).core.pc.toNat := Nat.not_le.mpr hpc
  have halign' : (s.eng i.eng.val).core.pc.toNat % 4 = 0 := halign
  rw [Becomes, hx, State.instr, State.done]
  simp [State.issue, hexec, presentAll_of_not_recovering hrec, wake_of_running hst, hst, hpc', halign', hm, hr]

/-- A fetched word that its instruction holds illegal at decode traps ILLEGAL, whatever its condition (R316). -/
theorem becomes_bad (hx : exec c s = s.instr i row f) (h : s.fetches i = true)
    (hm : bits i.word.toNat 27 22 = row.major) (hr : row.rsv i.word.toNat = false) (hi : row.is i.word.toNat = true)
    (hb : row.bad i.word.toNat = true) : Becomes c s (s.trap i.eng.val 1 i.word.toNat 0) := by
  simp only [State.fetches, Bool.and_eq_true, beq_iff_eq, decide_eq_true_eq, Bool.not_eq_true'] at h
  obtain ⟨⟨⟨⟨⟨⟨hrun, hlead⟩, hst⟩, hrec⟩, hroom⟩, hpc⟩, halign⟩ := h
  have hexec : s.canExec i.eng.val = true := by simp [State.canExec, hrun, ← hlead, hst, hrec, hroom]
  have hpc' : ¬ 0x60000 ≤ (s.eng i.eng.val).core.pc.toNat := Nat.not_le.mpr hpc
  have halign' : (s.eng i.eng.val).core.pc.toNat % 4 = 0 := halign
  rw [Becomes, hx, State.instr, State.done]
  simp [State.issue, hexec, presentAll_of_not_recovering hrec, wake_of_running hst, hst, hpc', halign', hm, hr, hi, hb]

end

theorem fetches_of_issues {s : State} {i : Issue} {major : Nat} (h : s.issues i major = true) :
    s.fetches i = true ∧ bits i.word.toNat 27 22 = major := by
  simp only [State.issues, Bool.and_eq_true, beq_iff_eq] at h
  exact ⟨h.1.1.1, h.1.1.2⟩

/-! ### Values read at once -/

/-- Outside a replay a value read is journaled (R344). -/
theorem readInput_live {s : State} {e : Nat} (h : s.recovering e = false) (kind : Nat) (f : State → Nat × State) :
    s.readInput e kind f = ((f s).1, (f s).2.journaled e kind (f s).1) := by
  rw [State.readInput, not_replaying h]
  rfl

/-! ### Mailbox instructions -/

/-- The rest of an instruction of MBX, with the mailbox of its number. -/
theorem mbxClaim_of_eq {mk : Issue → Instr} {op : Nat} {g : Mbox → Nat → Bool} {f : State → Nat → Nat → Nat → Eff}
    {act : Issue → State → Nat → State} (hx : ∀ i s, exec (mk i) s = s.mbxOp i op g f) (hop : op ≤ 4)
    (hf : ∀ (i : Issue) (s : State), s.recovering i.eng.val = false →
      let e := i.eng.val
      let n := (s.gpr e (fRs1 i.word.toNat)).toNat % 64
      g (s.mb n) e = true → (s.cl (e / 2)).outbox.length < 256 → s.outShare (e / 2) = true → s.munlkWaits e n = false →
      f s e i.word.toNat n = .go (act i s n)) : MbxClaim mk op g act := by
  intro i s h hi hbit hpd e n
  have hbad : (mbxRow op).bad i.word.toNat = false := by
    by_cases h1 : op = 1
    · simp [mbxRow, hbit, h1]
    · simp [mbxRow, hbit, hpd h1]
  have ht := becomes_instr (hx i s) h (by simp [mbxRow, hi, hop]) (by simp [mbxRow, hi]) hbad
  dsimp only at ht
  have hn : (s.core i.eng.val).r (fRs1 i.word.toNat) % 64 = n := by rw [← toNat_gpr]
  rw [hn] at ht
  refine ⟨fun hg => ?_, fun hg hbox hshare hwait => ?_⟩
  · rw [if_neg (Bool.eq_false_iff.1 hg)] at ht
    exact ht
  · rw [if_pos hg, hf i s (recovering_of_issues h) hg hbox hshare hwait] at ht
    exact ht

theorem mbxOut_go {s : State} {e : Nat} (o : Output) (hbox : (s.cl (e / 2)).outbox.length < 256)
    (hshare : s.outShare (e / 2) = true) : s.mbxOut e o = .go (s.outPut e o) := by
  simp [State.mbxOut, State.outFits, State.outRoom, hbox, hshare]

theorem unpacked {v n : Nat} (h : n < 64) : (v * 64 + n) / 64 = v := by omega

/-- The outcome of MRECV by the head of its queue. -/
theorem mrecv_eq {s : State} {e n : Nat} {home : Bool} (h : (s.mb n).inQ e = some home) :
    s.mrecv e n = (((s.mbTake n home).1.elim 0 fun x => x.word.toNat + 2 ^ 32), (s.mbTake n home).2) := by
  rw [State.mrecv, h]
  dsimp only
  split <;> simp_all

/-- The first pair of a list that has a property. -/
theorem takeFirst_cons {α : Type} {p : α → Bool} {a : α} {l : List α} (h : p a = true) : takeFirst p (a :: l) = some (a, l) := by
  rw [takeFirst, if_pos h]

/-- Settles O13: each instruction of MBX passes the grant, then posts to the outbox or reads its mailbox at once; an
act at the front of the island's queue is behind none. -/
theorem mailboxInstructions : Obligations.MailboxInstructions := by
  refine ⟨mbxClaim_of_eq exec_mpost (by decide) ?_, mbxClaim_of_eq exec_munlk (by decide) ?_,
    mbxClaim_of_eq exec_mlock (by decide) ?_, mbxClaim_of_eq exec_mstat (by decide) ?_,
    mbxClaim_of_eq exec_mrecv (by decide) ?_, fun e s n w rest home hrun hact hq hn hroom => ?_,
    fun e s n rest hrun hact hlock => ?_⟩
  · intro i s hrec e n hg hbox hshare hwait
    exact mbxOut_go _ hbox hshare
  · intro i s hrec e n hg hbox hshare hwait
    exact mbxOut_go _ hbox hshare
  · intro i s hrec e n hg hbox hshare hwait
    have hn : n < 64 := Nat.mod_lt _ (by decide)
    dsimp only
    rw [hwait, Bool.and_false, if_neg Bool.false_ne_true, readInput_live hrec]
    dsimp only
    rw [unpacked hn]
    rfl
  · intro i s hrec e n hg hbox hshare hwait
    have hn : n < 64 := Nat.mod_lt _ (by decide)
    dsimp only
    rw [readInput_live hrec]
    dsimp only
    rw [unpacked hn]
    cases (s.mb n).inQ e <;> cases (s.mb n).outQ e <;> rfl
  · intro i s hrec e n hg hbox hshare hwait
    have hn : n < 64 := Nat.mod_lt _ (by decide)
    obtain ⟨home, hq⟩ := Option.isSome_iff_exists.1 hg
    dsimp only
    rw [readInput_live hrec]
    dsimp only
    rw [unpacked hn, mrecv_eq hq, hq, Option.getD_some]
    rcases hm : s.mbTake n home with ⟨_ | x, u⟩
    · rw [Option.elim_none, if_pos (Nat.two_pow_pos 32)]
      rw [Nat.zero_mul, Nat.zero_add]
    · have hx : x.word.toNat < 2 ^ 32 := x.word.isLt
      rw [Option.elim_some, if_neg (by omega)]
      dsimp only
      have hw : BitVec.ofNat 32 (x.word.toNat + 2 ^ 32) = BitVec.ofNat 32 x.word.toNat :=
        BitVec.eq_of_toNat_eq (by simpa using hx)
      rw [EngCore.setR_congr _ _ hw]
  · have hfront : s.mbBehind e.val = false := by simp [State.mbBehind, hact]
    rw [Becomes, exec_mailboxOutputArrival, execMailboxOutputArrival, if_pos hrun, State.mbArrive, hact,
      takeFirst_cons (p := fun p : Nat × Output => p.1 == e.val) (beq_self_eq_true _)]
    dsimp only
    rw [hfront, hq]
    have hsys : ¬ 58 ≤ n := by omega
    simp [hroom, hsys, State.done]
  · have hfront : s.mbBehind e.val = false := by simp [State.mbBehind, hact]
    rw [Becomes, exec_mailboxOutputArrival, execMailboxOutputArrival, if_pos hrun, State.mbArrive, hact,
      takeFirst_cons (p := fun p : Nat × Output => p.1 == e.val) (beq_self_eq_true _)]
    dsimp only
    rw [hfront, State.lockRelease]
    have hlock' : (({ s with engs := { s.engs with mbActs := rest } } : State).mb n).lock = some e.val := hlock
    rw [if_neg Bool.false_ne_true, if_pos hlock']
    rfl

/-! ### System instructions -/

/-- A system instruction that acts. -/
theorem becomes_sys {c : Instr} {s : State} {i : Issue} {fn : Nat} {f : State → Nat → Nat → Eff}
    (hx : exec c s = s.instr i (sysRow fn) f) (h : s.issues i 0x21 = true) (hfn : fFn i.word.toNat = fn) (h5 : fn ≤ 5)
    (hrd : fn = 0 → fRd i.word.toNat % 2 = 0 ∧ 2 ≤ fRd i.word.toNat) :
    Becomes c s ((f s i.eng.val i.word.toNat).state i.eng.val i.word.toNat) := by
  refine becomes_instr hx h (by simp [sysRow, hfn, h5]) (by simp [sysRow, hfn]) ?_
  by_cases h0 : fn = 0
  · obtain ⟨heven, hpos⟩ := hrd h0
    simp only [fRd] at heven hpos
    simp only [sysRow, heven, decide_eq_false (Nat.not_lt.2 hpos), bne_self_eq_false, Bool.or_self, Bool.and_false]
  · simp [sysRow, h0]

/-- Settles O14: each system instruction acts on its engine alone, and a value it reads is journaled. -/
theorem systemInstructions : Obligations.SystemInstructions := by
  intro i s h w e rd
  have hrec : s.recovering i.eng.val = false := recovering_of_issues h
  refine ⟨fun hfn heven hpos => ?_, fun hfn => ⟨Free.word s.sys.draws, ?_⟩, fun hfn => ?_, fun hfn hp => ?_,
    fun hfn hp => ?_, fun hfn => ?_, fun hfn => ?_⟩
  · have ht := becomes_sys (exec_rdtime i s) h hfn (by decide) fun _ => ⟨heven, hpos⟩
    dsimp only at ht
    rw [readInput_live hrec] at ht
    exact ht
  · have ht := becomes_sys (exec_rand i s) h hfn (by decide) fun h => absurd h (by decide)
    dsimp only at ht
    rw [readInput_live hrec, putR_state (ofNat_toNat_word _)] at ht
    exact ht
  · exact becomes_sys (exec_wds i s) h hfn (by decide) fun h => absurd h (by decide)
  · have ht := becomes_sys (exec_wait i s) h hfn (by decide) fun h => absurd h (by decide)
    rwa [if_pos hp] at ht
  · have ht := becomes_sys (exec_wait i s) h hfn (by decide) fun h => absurd h (by decide)
    rwa [if_neg (not_not_intro hp)] at ht
  · exact becomes_sys (exec_fence i s) h hfn (by decide) fun h => absurd h (by decide)
  · obtain ⟨hf, hm⟩ := fetches_of_issues h
    exact becomes_reserved (exec_fence i s) hf hm (decide_eq_true hfn)

/-! ### CSRs -/

section
variable {i : Issue} {s : State}

/-- CSRR of a CSR of the table that a read leaves alone. -/
theorem becomes_csrr (h : s.issues i 0x22 = true) (hrs : fRs1 i.word.toNat = 0) {n : Nat} (hn : fImm12 i.word.toNat = n)
    (htab : (csrRO ++ csrW1C ++ csrRW).contains n = true) (hcap : n ≠ 0x040) {v : Word}
    (hv : BitVec.ofNat 32 (s.csrVal i.eng.val n) = v) : Becomes (.csrr i) s (s.wrote i.eng.val (fRd i.word.toNat) v) := by
  have hrs' : bits i.word.toNat 16 12 = 0 := hrs
  have ht := becomes_instr (exec_csrr i s) h rfl rfl (by simp only [hn, hrs', htab]; rfl)
  dsimp only at ht
  rwa [hn, if_neg hcap, putR_state hv] at ht

/-- A write of a CSR that is not illegal. -/
theorem becomes_csrWrite {c : Instr} {mode : Nat} (hx : exec c s = s.instr i (csrRow mode) (fun s e w => s.csrWrite mode e w))
    (h : s.issues i (0x23 + mode) = true) (hrd : fRd i.word.toNat = 0) {n : Nat} (hn : fImm12 i.word.toNat = n)
    (htab : (csrRW ++ (if mode = 0 then csrW1C else [])).contains n = true)
    (hro : mode = 0 ∨ csrRoBits n = 0) (hdepth : n ≠ 0x016) {d : EngCore}
    (hd : (if csrW1C.contains n then (s.core i.eng.val).csrClear n (s.gpr i.eng.val (fRs1 i.word.toNat)).toNat
      else (s.core i.eng.val).csrPut n (csrNew mode (s.gpr i.eng.val (fRs1 i.word.toNat)).toNat (s.csrVal i.eng.val n))) = d) :
    Becomes c s ((s.setCore i.eng.val d).retire i.eng.val none) := by
  have hrd' : bits i.word.toNat 21 17 = 0 := hrd
  have hbad : (csrRow mode).bad i.word.toNat = false := by simp only [csrRow, hn, hrd', htab]; rfl
  have hin : (csrRow mode).badIn (s.core i.eng.val) i.word.toNat = false := by
    rcases hro with hm | hz
    · simp [csrRow, hn, hm, hdepth]
    · simp [csrRow, hn, hz, hdepth]
  have ht := becomes_instr hx h rfl rfl hbad hin
  rw [toNat_gpr] at hd
  rw [State.csrWrite, hn] at ht
  split at ht
  · next hc => rw [if_pos hc] at hd; subst hd; exact ht
  · next hc => rw [if_neg hc] at hd; subst hd; exact ht

end

/-- A larger loop depth, or a 1 in an RO field under CSRS and CSRC (R326, R339). -/
theorem csrWrite_illegal {c : Instr} {i : Issue} {s : State} {mode : Nat}
    (hx : exec c s = s.instr i (csrRow mode) (fun s e w => s.csrWrite mode e w)) (h : s.issues i (0x23 + mode) = true)
    (hbad : (mode ≠ 0 ∧ csrRoBits (fImm12 i.word.toNat) &&& (s.core i.eng.val).r (fRs1 i.word.toNat) ≠ 0) ∨
      (fImm12 i.word.toNat = 0x016 ∧ (s.core i.eng.val).loops.depth <
        csrNew mode ((s.core i.eng.val).r (fRs1 i.word.toNat)) (s.core i.eng.val).loops.depth)) :
    Becomes c s (s.trap i.eng.val 1 i.word.toNat 0) := by
  obtain ⟨hf, hm⟩ := fetches_of_issues h
  refine becomes_illegal hx hf hm rfl rfl ?_
  simpa [csrRow] using hbad

theorem ofNat_extract_high (x : BitVec 64) : BitVec.ofNat 32 (x.toNat / 2 ^ 32) = x.extractLsb' 32 32 := by
  rw [BitVec.extractLsb', Nat.shiftRight_eq_div_pow]

/-- A number without its ten low bits. -/
theorem ofNat_page (v : Word) : BitVec.ofNat 32 (v.toNat - v.toNat % 1024) = v &&& 0xFFFFFC00 := by
  have hmask : (0xFFFFFC00 : Word) = BitVec.allOnes 32 <<< 10 := by decide
  have hdown : v.toNat - v.toNat % 1024 = v.toNat / 2 ^ 10 * 2 ^ 10 := by omega
  have hshift : BitVec.ofNat 32 (v.toNat / 2 ^ 10 * 2 ^ 10) = v >>> 10 <<< 10 := by
    apply BitVec.eq_of_toNat_eq
    simp [Nat.shiftLeft_eq, Nat.shiftRight_eq_div_pow]
  rw [hdown, hshift, hmask]
  ext j hj
  rw [BitVec.getElem_and, BitVec.getElem_shiftLeft, BitVec.getElem_shiftLeft, BitVec.getElem_allOnes]
  rcases Nat.lt_or_ge j 10 with h | h
  · simp [h]
  · simp [Nat.not_lt.mpr h, Nat.add_sub_cancel' h, hj]

/-- The upper half of a double word kept, the lower written. -/
theorem ofNat_low_half (x : BitVec 64) (v : Word) :
    BitVec.ofNat 64 (x.toNat / 2 ^ 32 * 2 ^ 32 + v.toNat) = x.extractLsb' 32 32 ++ v := by
  have hx : x.toNat / 2 ^ 32 < 2 ^ 32 := by have := x.isLt; omega
  have hv : v.toNat < 2 ^ 32 := v.isLt
  apply BitVec.eq_of_toNat_eq
  rw [toNat_append_add, BitVec.extractLsb'_toNat, Nat.shiftRight_eq_div_pow, Nat.mod_eq_of_lt hx, BitVec.toNat_ofNat]
  exact Nat.mod_eq_of_lt (by omega)

theorem and_two_ne_zero {v : Word} (h : v.getLsbD 1 = true) : csrRoBits 0x020 &&& v.toNat ≠ 0 := by
  intro h0
  have hbit := congrArg (fun x => x.testBit 1) h0
  simp only [Nat.testBit_and, Nat.zero_testBit, csrRoBits] at hbit
  rw [BitVec.getLsbD] at h
  simp only [h] at hbit
  exact absurd hbit (by decide)

/-- Settles O15: a CSR access that is legal at decode reads or writes one field of the engine's core. -/
theorem csrAccess : Obligations.CsrAccess := by
  intro i s w e c v goes
  have hv : (s.core i.eng.val).r (fRs1 i.word.toNat) = v.toNat := (toNat_gpr ..).symm
  refine ⟨fun h hrs hn => ?_, fun h hrs hn => ?_, fun h hrs hn hcap => ?_, fun h hn => ?_, fun h hrd hn => ?_,
    fun h hrd hn => ?_, fun h hrd hn => ?_, fun h hrd hn => ?_, fun h hrd hn => ?_, fun h hrd hn => ?_,
    fun h hrd hn hbit => ?_, fun h hrd hn => ?_, fun h hrd hn hbit => ?_, fun h hrd hn => ?_, fun h hrd hn hd => ?_,
    fun h hrd hn => ?_, fun h hrd hn => ?_⟩
  · exact becomes_csrr h hrs hn rfl (by decide) (ofNat_toNat_word _)
  · exact becomes_csrr h hrs hn rfl (by decide) rfl
  · refine becomes_csrr h hrs hn rfl (by decide) ?_
    have hcap' : (s.core i.eng.val).retCap = none := hcap
    simp only [State.csrVal, hcap', Option.getD_none]
    rw [ofNat_toNat_word, ofNat_extract_high]
  · obtain ⟨hf, hm⟩ := fetches_of_issues h
    have hn' : fImm12 i.word.toNat = 0x003 := hn
    exact becomes_bad (exec_csrr i s) hf hm rfl rfl (by simp [hn', csrRO, csrW1C, csrRW])
  · exact becomes_csrWrite (exec_csrw i s) h hrd hn rfl (.inl rfl) (by decide) (by
      rw [← ofNat_page]; rfl)
  · exact becomes_csrWrite (exec_csrw i s) h hrd hn rfl (.inl rfl) (by decide) (by
      rw [← tst_toNat]; rfl)
  · exact becomes_csrWrite (exec_csrw i s) h hrd hn rfl (.inl rfl) (by decide) (by
      rw [← ofNat_toNat_word v]; rfl)
  · exact becomes_csrWrite (exec_csrw i s) h hrd hn rfl (.inl rfl) (by decide) (by
      rw [← ofNat_toNat_word v]; rfl)
  · obtain ⟨hf, hm⟩ := fetches_of_issues h
    have hn' : fImm12 i.word.toNat = 0x023 := hn
    exact becomes_bad (exec_csrw i s) hf hm rfl rfl (by simp [csrRow, hn', csrRO, csrW1C, csrRW])
  · exact becomes_csrWrite (exec_csrs i s) h hrd hn rfl (.inr rfl) (by decide) (by
      rw [← ofNat_or]; rfl)
  · refine csrWrite_illegal (exec_csrs i s) h (.inl ⟨by decide, ?_⟩)
    have hn' : fImm12 i.word.toNat = 0x020 := hn
    rw [hn', hv]
    exact and_two_ne_zero hbit
  · exact becomes_csrWrite (exec_csrc i s) h hrd hn rfl (.inr rfl) (by decide) (by
      rw [← ofNat_andn]; rfl)
  · refine csrWrite_illegal (exec_csrc i s) h (.inl ⟨by decide, ?_⟩)
    have hn' : fImm12 i.word.toNat = 0x020 := hn
    rw [hn', hv]
    exact and_two_ne_zero hbit
  · obtain ⟨hf, hm⟩ := fetches_of_issues h
    have hn' : fImm12 i.word.toNat = 0x050 := hn
    exact becomes_bad (exec_csrc i s) hf hm rfl rfl (by simp [csrRow, hn', csrRO, csrW1C, csrRW])
  · refine csrWrite_illegal (exec_csrw i s) h (.inr ⟨hn, ?_⟩)
    rw [hv]
    exact hd
  · obtain ⟨-, hm⟩ := fetches_of_issues h
    have hn' : fImm12 i.word.toNat = 0x00B := hn
    refine becomes_csrWrite ?_ h hrd hn rfl (.inl rfl) (by decide) rfl
    simp [execInstPop, State.csrNamed, hm, hn']
  · obtain ⟨-, hm⟩ := fetches_of_issues h
    have hn' : fImm12 i.word.toNat = 0x00C := hn
    refine becomes_csrWrite ?_ h hrd hn rfl (.inl rfl) (by decide) ?_
    · simp [execTimerArm, State.csrNamed, hm, hn']
    · rw [← ofNat_low_half]
      rfl

/-! ### Interrupts and debug -/

/-- An interrupt bit raised at an engine that no recovery holds is journaled and stands in ipend at once. -/
theorem raiseIpend_live {s : State} {e : Nat} (hl : s.lead e = e) (h : s.recovering e = false) (b : Nat) :
    s.raiseIpend e b = (s.journaled e 0x0B (2 ^ b)).irqBits e (2 ^ b % 2 ^ 32) := by
  rw [State.raiseIpend, hl, input_eq_seen h]
  rfl

theorem core_irqBits (s : State) (e m : Nat) : (s.irqBits e m).core e = { s.core e with
    ipend := (s.core e).ipend ||| BitVec.ofNat 32 m, timerArmed := (s.core e).timerArmed && !tst m 1 } := by
  simp [State.irqBits]

theorem core_journaled (s : State) (e kind v j : Nat) : (s.journaled e kind v).core j = s.core j := by
  simp [State.journaled, State.journal, core_setCl]

/-- The bit raised is pending. -/
theorem tst_ipend (x : Word) {b : Nat} (hb : b < 32) : tst (x ||| BitVec.ofNat 32 (2 ^ b % 2 ^ 32)).toNat b = true := by
  rw [tst_toNat, BitVec.getLsbD_or, BitVec.getLsbD_ofNat, Nat.mod_eq_of_lt (Nat.pow_lt_pow_right (by decide) hb)]
  simp [hb]

/-- Settles O16: an engine without recovery sees an interrupt bit at once, and enters, halts and steps by its own
state alone. -/
theorem interruptsAndDebug : Obligations.InterruptsAndDebug := by
  refine ⟨fun e s b hexec hrec hst hgie hexc hrep hb hbit hlow => ?_, fun e s hl hin harm ht => ?_,
    fun e s hl hrun hrec hst hset hdue => ?_, fun e s hl hdue => ?_, fun e s hrun hopen hl => ?_,
    fun e s hrun hopen => ?_⟩
  · have hentry : ((s.eng e.val).st == .running && (s.core e.val).gie && !(s.core e.val).exc &&
        (s.core e.val).rep != some false) = true := by simp [hst, hgie, hexc, hrep]
    rw [Becomes, exec_interruptEntry, execInterruptEntry]
    simp only [hexec, Bool.not_true, Bool.false_eq_true, if_false, presentAll_of_not_recovering hrec, wake_of_running hst,
      hentry, find?_range_eq_some hb hbit hlow]
    rfl
  · obtain ⟨hrun, hrec⟩ := takesInput_iff.1 hin
    have hgo : (s.takesInput e.val && (s.core e.val).timerArmed && decide ((s.core e.val).tcmp.toNat ≤ s.time.t.toNat)) =
        true := by simp [hin, harm, ht]
    rw [Completes, exec_engineTimer, execEngineTimer, hl]
    simp only [hgo, if_true]
    refine ⟨_, rfl, ?_⟩
    rw [raiseIpend_live hl hrec]
    simp only [settle_core, settle_mem, core_setCore_self, core_irqBits, core_journaled]
    exact ⟨tst_ipend _ (by decide), trivial, trivial, trivial, rfl⟩
  · have hdue' : s.unserviced e.val 2 = true := decide_eq_true hdue
    have hgo : (s.running && ((s.eng e.val).st == .running || (s.eng e.val).st == .wait) && !(s.eng e.val).wdwSet &&
        s.unserviced e.val 2) = true := by simp [hrun, hst, hset, hdue']
    rw [Completes, exec_wdw, execWdw, hl]
    simp only [hgo, if_true]
    refine ⟨_, rfl, ?_⟩
    have hraise := raiseIpend_live (s := s.setEng e.val { s.eng e.val with wdwSet := true }) hl hrec 7
    rw [hraise]
    simp only [settle_core, settle_eng, settle_mem, core_irqBits]
    refine ⟨tst_ipend _ (by decide), ?_, rfl⟩
    simp [State.irqBits, State.setCore, State.journaled, State.journal]
  · have hdue' : s.unserviced e.val 2 = false := decide_eq_false (Nat.not_le.2 hdue)
    rw [exec_wdw, execWdw, hl]
    simp [hdue']
  · refine ⟨fun hst => ?_, fun hst => ⟨?_, ?_⟩⟩
    · rw [Becomes, exec_debugHalt, execDebugHalt, if_pos hrun, State.dbgWrite, if_pos hopen, hl]
      simp [Eng.halt, hst, State.done]
    · rw [Becomes, exec_debugStep, execDebugStep, if_pos hrun, State.dbgWrite, if_pos hopen, hl]
      simp [Eng.unhalt, hst, State.done]
    · rw [Becomes, exec_debugResume, execDebugResume, if_pos hrun, State.dbgWrite, if_pos hopen, hl]
      simp [Eng.unhalt, hst, State.done]
  · have hdrop : ∀ f, s.dbgWrite e.val f = s.wrViol (0x200000 + e.val * 0x10000 + 0x40) := by
      intro f
      rw [State.dbgWrite, if_neg (Bool.eq_false_iff.1 hopen)]
      rfl
    refine ⟨?_, ?_, ?_⟩
    · rw [Becomes, exec_debugHalt, execDebugHalt, if_pos hrun, hdrop]; rfl
    · rw [Becomes, exec_debugStep, execDebugStep, if_pos hrun, hdrop]; rfl
    · rw [Becomes, exec_debugResume, execDebugResume, if_pos hrun, hdrop]; rfl

end Sys2Proof.Machine
end

section
/-! SUPPORT. The REP word and the uninterrupted SFIL (R326, R328, R343). -/

namespace Sys2Proof.Machine

set_option Elab.async false

/-! ### Registers of a core -/

/-- A register after a write of another or of the same one, of a value that fits. -/
theorem EngCore.r_setR (c : EngCore) (k v j : Nat) : (c.setR k v).r j = if j = k ∧ k ≠ 0 then v % 2 ^ 32 else c.r j := by
  unfold EngCore.setR EngCore.r
  by_cases hk : k = 0
  · simp [hk]
  · by_cases hj : j = 0
    · have : ¬ (j = k ∧ k ≠ 0) := fun h => hk (h.1 ▸ hj)
      simp [hj, hk, Ne.symm hk]
    · by_cases hjk : j = k
      · subst hjk
        simp [hk]
      · simp [hj, hjk, hk, Tab.get_set]

theorem EngCore.setR_eq (c : EngCore) (k v : Nat) : ∃ w, c.setR k v = { c with w := w } := by
  unfold EngCore.setR
  split
  · exact ⟨c.w, rfl⟩
  · exact ⟨_, rfl⟩

/-- An iteration moves registers only. -/
theorem EngCore.adv_eq (c : EngCore) (x y : Nat) : ∃ w, c.adv x y = { c with w := w } := by
  obtain ⟨w₁, h₁⟩ := c.setR_eq 25 (c.sa + x)
  obtain ⟨w₂, h₂⟩ := (c.setR 25 (c.sa + x)).setR_eq 26 (c.da + y)
  obtain ⟨w₃, h₃⟩ := ((c.setR 25 (c.sa + x)).setR 26 (c.da + y)).setR_eq 27 (c.sc + 2 ^ 32 - 1)
  exact ⟨w₃, by rw [EngCore.adv, h₃, h₂, h₁]⟩

/-! ### The fill -/

/-- The banks of an uninterrupted SFIL of words from `da` after `k` of its `n` iterations. -/
structure FilledBank (s u : State) (e rd da n k : Nat) : Prop where
  wf : u.mem.wf = true
  filled : ∀ j, j < k → ∀ b, b < 4 → u.bankByte e (da + 4 * j + b) = (s.gpr e rd).extractLsb' (8 * b) 8
  others : ∀ x, x < e * 0x60000 + da ∨ e * 0x60000 + da + 4 * n ≤ x → Mem.read 0 u.mem.bank x = Mem.read 0 s.mem.bank x

/-- Its registers. -/
structure FilledRegs (c₀ c : EngCore) (rd da n k : Nat) : Prop where
  pattern : c.r rd = c₀.r rd
  source : c.r 25 = c₀.r 25
  dest : c.r 26 = da + 4 * k
  count : c.r 27 = n - k

/-- Its whole state between two iterations. -/
structure FillAt (s u : State) (e rd da n k : Nat) : Prop where
  bank : FilledBank s u e rd da n k
  regs : FilledRegs (s.core e) (u.core e) rd da n k
  retired : (u.core e).ret = (s.core e).ret + BitVec.ofNat 64 k
  pc : (u.core e).pc = (s.core e).pc
  rep : (u.core e).rep = some false
  depth : (u.core e).loops.depth = 0
  haltReq : (u.eng e).haltReq = false
  stepReq : (u.eng e).stepReq = false

theorem bankStore_engs (s : State) (e a : Nat) (l : List Byte) : (s.bankStore e a l).engs = s.engs := by
  have h : ∀ ls : List Nat, (ls.foldl (fun s l => s.undoLine e l) s).engs = s.engs := by
    refine fun ls => foldl_same State.engs _ (fun t x => ?_) ls s
    unfold State.undoLine
    dsimp only
    split <;> rfl
  simp only [State.bankStore, State.bankPut, h]

/-- One word stored and the registers moved on. -/
def State.filled (s : State) (e rd : Nat) : State :=
  (s.bankStore e (s.core e).da (leBytes 4 ((s.core e).r rd))).setCore e ((s.core e).adv 0 4)

theorem core_filled (s : State) (e rd : Nat) : (s.filled e rd).core e = (s.core e).adv 0 4 := core_setCore_self ..

theorem mem_filled (s : State) (e rd : Nat) : (s.filled e rd).mem =
    (s.bankStore e (s.core e).da (leBytes 4 ((s.core e).r rd))).mem := by
  rw [State.filled, setCore_mem]

/-- A retirement at the same place counts and keeps registers, memory and REP. -/
theorem retireIter_eq {s : State} {e : Nat} (hh : (s.eng e).haltReq = false) (hs : (s.eng e).stepReq = false) :
    ∃ g : Eng, s.retireIter e = s.setEng e g ∧ g.core = { s.core e with ret := (s.core e).ret + 1 } ∧
      g.haltReq = false ∧ g.stepReq = false := by
  refine ⟨_, by simp only [State.retireIter, State.retire, hh, hs]; rfl, ?_, rfl, rfl⟩
  simp only [ofNat_toNat_word]
  rfl

theorem FilledBank.next {s u : State} {e rd da n k : Nat} (h : FilledBank s u e rd da n k)
    (hr : FilledRegs (s.core e) (u.core e) rd da n k) (hk : k < n) : FilledBank s (u.filled e rd) e rd da n (k + 1) := by
  have hda : (u.core e).da = da + 4 * k := hr.dest
  have hlen : (leBytes 4 ((u.core e).r rd)).length = 4 := length_leBytes 4 _
  have hbyte : ∀ x, (u.filled e rd).bankByte e x = (u.bankStore e (da + 4 * k) (leBytes 4 ((u.core e).r rd))).bankByte e x := by
    intro x
    rw [State.bankByte, mem_filled, hda]
    rfl
  have hword : BitVec.ofNat 32 ((u.core e).r rd) = s.gpr e rd := by rw [hr.pattern]; rfl
  refine ⟨?_, fun j hj b hb => ?_, fun x hx => ?_⟩
  · rw [mem_filled]
    exact bankStore_wf h.wf ..
  · rw [hbyte]
    rcases Nat.lt_succ_iff_lt_or_eq.1 hj with hlt | rfl
    · rw [bankByte_bankStore_out h.wf _ _ _ _ _ (by omega)]
      exact h.filled j hlt b hb
    · rw [bankByte_bankStore_in h.wf _ _ _ _ (by omega)]
      exact leBytes_word (Nat.le_refl 4) hword b (by omega)
  · rw [← h.others x hx, mem_filled, bankStore_mem, hda]
    exact Mem.read_writeBytes_out ((mems_wf_iff _).1 h.wf).2.1 _ _ _ (by rw [hlen]; simp only [bankSize]; omega)

/-- It speaks of the memories alone. -/
theorem FilledBank.congr {s u t : State} {e rd da n k : Nat} (h : FilledBank s u e rd da n k) (hm : t.mem = u.mem) :
    FilledBank s t e rd da n k := by
  have hb : t.bankByte = u.bankByte := by
    funext e x
    simp only [State.bankByte, hm]
  exact ⟨by rw [hm]; exact h.wf, by rw [hb]; exact h.filled, by rw [hm]; exact h.others⟩

theorem FilledRegs.next {c₀ c : EngCore} {rd da n k : Nat} (h : FilledRegs c₀ c rd da n k) (hk : k < n)
    (hfit : da + 4 * n ≤ 0x60000) (hn : n ≤ 64) (hrd : rd < 25) : FilledRegs c₀ (c.adv 0 4) rd da n (k + 1) := by
  obtain ⟨hp, hs, hd, hc⟩ := h
  have hsrc : c.r 25 < 2 ^ 32 := c.r_lt 25
  refine ⟨?_, ?_, ?_, ?_⟩
  · simp only [EngCore.adv, EngCore.r_setR, Nat.ne_of_lt (Nat.lt_trans hrd (by decide : 25 < 27)),
      Nat.ne_of_lt (Nat.lt_trans hrd (by decide : 25 < 26)), Nat.ne_of_lt hrd, false_and, if_false, hp]
  · simp only [EngCore.adv, EngCore.r_setR, Nat.reduceEqDiff, false_and, if_false, true_and]
    simpa [← hs, EngCore.sa] using hsrc
  · simp only [EngCore.adv, EngCore.r_setR, Nat.reduceEqDiff, false_and, if_false, true_and]
    simp only [ne_eq, Nat.reduceEqDiff, not_false_eq_true, if_true, EngCore.da, hd]
    omega
  · simp only [EngCore.adv, EngCore.r_setR, Nat.reduceEqDiff, false_and, if_false, true_and]
    simp only [ne_eq, Nat.reduceEqDiff, not_false_eq_true, if_true, EngCore.sc, hc]
    omega

theorem FilledRegs.congr {c₀ c d : EngCore} {rd da n k : Nat} (h : FilledRegs c₀ c rd da n k) (hw : d.w = c.w) :
    FilledRegs c₀ d rd da n k := by
  have hr : d.r = c.r := by
    funext j
    simp only [EngCore.r, hw]
  exact ⟨by rw [hr]; exact h.pattern, by rw [hr]; exact h.source, by rw [hr]; exact h.dest, by rw [hr]; exact h.count⟩

/-- A retirement between two iterations. -/
theorem FillAt.next {s u : State} {e rd da n k : Nat} (h : FillAt s u e rd da n k) (hk : k < n)
    (hfit : da + 4 * n ≤ 0x60000) (hn : n ≤ 64) (hrd : rd < 25) :
    FillAt s ((u.filled e rd).retireIter e) e rd da n (k + 1) := by
  have heng : (u.filled e rd).eng e = { u.eng e with core := (u.core e).adv 0 4 } := by
    rw [State.filled, State.setCore, eng_setEng_self]
    simp only [State.eng, bankStore_engs]
  obtain ⟨g, hg, hcore, hh, hs⟩ := retireIter_eq (s := u.filled e rd) (e := e) (by rw [heng]; exact h.haltReq)
    (by rw [heng]; exact h.stepReq)
  obtain ⟨w, hw⟩ := (u.core e).adv_eq 0 4
  have hbank := h.bank.next h.regs hk
  have hregs := h.regs.next hk hfit hn hrd
  rw [core_filled] at hcore
  have hc : (((u.filled e rd).retireIter e).core e) = { (u.core e).adv 0 4 with ret := ((u.core e).adv 0 4).ret + 1 } := by
    rw [hg, State.core, eng_setEng_self, hcore]
  have hg' : ((u.filled e rd).retireIter e).eng e = g := by rw [hg, eng_setEng_self]
  refine ⟨hbank.congr (by rw [hg, setEng_mem]), ?_, ?_, ?_, ?_, ?_, by rw [hg']; exact hh, by rw [hg']; exact hs⟩
  · exact hregs.congr (by rw [hc])
  · rw [hc, hw]
    dsimp only
    rw [h.retired, BitVec.add_assoc, BitVec.ofNat_add]
    rfl
  · rw [hc, hw]; exact h.pc
  · rw [hc, hw]; exact h.rep
  · rw [hc, hw]; exact h.depth

/-- The iteration of SFIL. -/
def fillIter (e : Nat) : State → Nat → Iter := fun s w =>
  let c := s.core e
  let k := strSize w
  match strCheck [c.da] k with
  | some t => .trap t.1 t.2
  | none => .step ((s.bankStore e c.da (leBytes k (c.r (fRd w)))).setCore e (c.adv 0 k))

theorem fillIter_step {s : State} {e w : Nat} (hsize : strSize w = 4) (hal : (s.core e).da % 4 = 0)
    (hlt : (s.core e).da < bankEnd) : fillIter e s w = .step (s.filled e (fRd w)) := by
  have hcheck : strCheck [(s.core e).da] 4 = none := by
    simp [strCheck, Nat.not_le.mpr hlt, hal]
  simp only [fillIter, hsize, hcheck]
  rfl

/-- What the whole fill leaves. -/
structure FillDone (s t : State) (e rd da n : Nat) : Prop where
  bank : FilledBank s t e rd da n n
  dest : (t.core e).r 26 = da + 4 * n
  count : (t.core e).r 27 = 0
  source : (t.core e).r 25 = (s.core e).r 25
  retired : (t.core e).ret = (s.core e).ret + BitVec.ofNat 64 n
  pc : (t.core e).pc = (s.core e).pc + 4
  rep : (t.core e).rep = none

/-- The last iteration ends the instruction. -/
theorem FillAt.done {s u : State} {e rd da n k : Nat} (h : FillAt s u e rd da n k) (hk : k + 1 = n)
    (hfit : da + 4 * n ≤ 0x60000) (hn : n ≤ 64) (hrd : rd < 25) :
    FillDone s ((u.filled e rd).strEnd e none) e rd da n := by
  subst hk
  have heng : (u.filled e rd).eng e = { u.eng e with core := (u.core e).adv 0 4 } := by
    rw [State.filled, State.setCore, eng_setEng_self]
    simp only [State.eng, bankStore_engs]
  obtain ⟨w, hw⟩ := (u.core e).adv_eq 0 4
  let v := (u.filled e rd).setCore e { (u.core e).adv 0 4 with rep := none }
  have hvcore : v.core e = { (u.core e).adv 0 4 with rep := none } := core_setCore_self ..
  have hveng : v.eng e = { u.eng e with core := { (u.core e).adv 0 4 with rep := none } } := by
    simp only [v, State.setCore, eng_setEng_self, heng]
  have hend : (u.filled e rd).strEnd e none = v.retire e none := by
    rw [State.strEnd, core_filled]
  obtain ⟨g, hg, hcore⟩ := retire_of_free (s := v) (e := e) (by rw [hveng]; exact h.haltReq) (by rw [hveng]; exact h.stepReq) none
  have hbank := h.bank.next h.regs (Nat.lt_succ_self k)
  have hregs := h.regs.next (Nat.lt_succ_self k) hfit hn hrd
  have hdepth : (v.core e).loops.depth = 0 := by rw [hvcore, hw]; exact h.depth
  rw [endTest_away (.inl hdepth)] at hcore
  have hc : (v.retire e none).core e = g.core := by rw [hg, State.core, eng_setEng_self]
  have hregs' : FilledRegs (s.core e) ((v.retire e none).core e) rd da (k + 1) (k + 1) :=
    hregs.congr (by rw [hc, hcore, hvcore])
  rw [hend]
  refine ⟨hbank.congr (by rw [hg, setEng_mem, setCore_mem]), hregs'.dest, ?_, hregs'.source, ?_, ?_, ?_⟩
  · rw [hregs'.count, Nat.sub_self]
  · rw [hc, hcore, hvcore, hw]
    dsimp only
    rw [h.retired, BitVec.add_assoc, BitVec.ofNat_add]
    rfl
  · rw [hc, hcore, hvcore, hw]
    dsimp only
    rw [Option.getD_none, ofNat_toNat_add_four, h.pc]
  · rw [hc, hcore, hvcore]

/-- All remaining iterations. -/
theorem FillAt.run {s : State} {e w da n : Nat} (hsize : strSize w = 4) (hal : da % 4 = 0) (hfit : da + 4 * n ≤ 0x60000)
    (hn : n ≤ 64) (hrd : fRd w < 25) : ∀ (f k : Nat) (u : State), FillAt s u e (fRd w) da n k → k < n → n - k ≤ f →
      FillDone s (u.strRun (fillIter e) none false e w f) e (fRd w) da n := by
  intro f
  induction f with
  | zero => intro k u _ hk hf; omega
  | succ f ih =>
    intro k u h hk hf
    have hda : (u.core e).da = da + 4 * k := h.regs.dest
    have hsc : (u.core e).sc ≠ 0 := by rw [EngCore.sc, h.regs.count]; omega
    have hstep := fillIter_step (s := u) (e := e) hsize (by rw [hda]; omega) (by rw [hda]; simp only [bankEnd]; omega)
    have hregs := h.regs.next hk hfit hn hrd
    have hnext : ((u.filled e (fRd w)).core e).sc = n - (k + 1) := by rw [core_filled]; exact hregs.count
    rw [State.strRun]
    simp only [hsc, if_false, hstep, hnext, h.rep]
    rcases Nat.lt_or_ge (k + 1) n with hlt | hge
    · have hgo : (decide (n - (k + 1) = 0) || (some false : Option Bool).isNone) = false := by simp; omega
      rw [hgo, if_neg Bool.false_ne_true, if_neg (by decide)]
      exact ih (k + 1) _ (h.next hk hfit hn hrd) hlt (by omega)
    · have hlast : (decide (n - (k + 1) = 0) || (some false : Option Bool).isNone) = true := by simp; omega
      rw [hlast, if_pos rfl]
      exact h.done (by omega) hfit hn hrd

/-- A governed string instruction of a legal word. -/
theorem strRow_legal {w op : Nat} (hop : bits w 6 4 = op) (h4 : op = 0 ∨ op = 1) (hz : bits w 13 7 = 0)
    (hk : bits w 3 2 = 0) (hs : bits w 1 0 ≠ 3) (hpd : bits w 16 14 = 0) :
    (strRow op).rsv w = false ∧ (strRow op).is w = true ∧ (strRow op).bad w = false := by
  rcases h4 with rfl | rfl <;> simp [strRow, hop, hz, hk, hs, hpd]

theorem repAFillsTheBlock : RepAFillsTheBlock := by
  intro i s hwf h w e c n da hop hz hk hs hpd hrep hpos hn hal hfit hdepth hhalt hstep hrd
  have hsize : strSize w = 4 := by simp [strSize, hs]
  obtain ⟨hrsv, his, hbad⟩ := strRow_legal hop (.inr rfl) hz hk (by rw [hs]; decide) hpd
  have hx : exec (.sfil i) s = s.str i 1 false false (fillIter i.eng.val) := rfl
  have ht := becomes_instr hx h hrsv his hbad
  have hfew : ¬ ((s.core i.eng.val).rep = some false && 64 < (s.core i.eng.val).sc) = true := by
    simp only [Bool.and_eq_true, decide_eq_true_eq, not_and]
    exact fun _ => Nat.not_lt.2 hn
  rw [if_neg hfew, if_neg Bool.false_ne_true] at ht
  have hinit : FillAt s s e (fRd w) da n 0 := by
    refine ⟨⟨hwf, fun j hj => absurd hj (Nat.not_lt_zero j), fun _ _ => rfl⟩, ⟨rfl, rfl, rfl, rfl⟩, ?_, rfl, hrep, hdepth, hhalt,
      hstep⟩
    simp
  obtain ⟨hbank, hdest, hcount, hsource, hret, hpc, hnone⟩ :=
    FillAt.run hsize hal hfit hn hrd 65 0 s hinit hpos (by omega)
  refine ⟨_, ht, ?_⟩
  have hb := hbank.congr (t := (s.strRun (fillIter e) none false e w 65).settle) (settle_mem _)
  simp only [Eff.state, settle_core]
  exact ⟨hb.filled, hb.others, hdest, hcount, hsource, hret, hpc, hnone⟩

/-! ### The REP word -/

theorem repClaim_of_eq {mk : Issue → Word → Instr} {fn : Nat} (hx : ∀ i next s, exec (mk i next) s = s.rep i next fn)
    (hfn : fn ≤ 1) : RepClaim mk fn (fn = 0) := by
  intro i next s h hc hz hi e c str
  have ht := becomes_instr (hx i next s) h (by simp [hi, hfn]) (by simp [hi]) (by simp [hc, hz])
  dsimp only at ht
  have hend : (bankEnd ≤ (s.core i.eng.val).pc.toNat + 4) ↔ 0x5FFFC ≤ c.pc.toNat := by
    simp only [bankEnd, c, e]
    omega
  have hstr : (decide (bits next.toNat 27 22 ≠ 0x19) || decide (bits next.toNat 6 4 = 5)) = true ↔ ¬ str := by
    simp only [Bool.or_eq_true, decide_eq_true_eq, str]
    omega
  have hloop : ((decide (c.loops.depth ≠ 0)) && c.loops.le0 == c.pc) = true ↔ (c.loops.depth ≠ 0 ∧ c.loops.le0 = c.pc) := by
    simp
  refine ⟨fun hpc hs hl => ?_, fun hpc hs hd hl => ?_, fun hpc hs => ?_, fun hpc => ?_⟩
  · rwa [if_neg (fun h => Nat.not_le.2 hpc (hend.1 h)), if_neg (fun h => hstr.1 h hs),
      if_neg (fun h => hl.elim (fun h0 => (hloop.1 h).1 h0) (fun hne => hne (hloop.1 h).2))] at ht
  · rwa [if_neg (fun h => Nat.not_le.2 hpc (hend.1 h)), if_neg (fun h => hstr.1 h hs), if_pos (hloop.2 ⟨hd, hl⟩)] at ht
  · rwa [if_neg (fun h => Nat.not_le.2 hpc (hend.1 h)), if_pos (hstr.2 hs)] at ht
  · rwa [if_pos (hend.2 hpc)] at ht

/-- Settles O9: an SFIL under REP.A stores a word and moves its registers at each iteration, which keeps what the
iterations before it have left. -/
theorem repPrefixGovernsAString : Obligations.RepPrefixGovernsAString := by
  refine ⟨repAFillsTheBlock, repClaim_of_eq (fun _ _ _ => rfl) (by decide), repClaim_of_eq (fun _ _ _ => rfl) (by decide),
    fun i s h hop hz hk hpd hrep hmany => ?_⟩
  have hk0 : i.word.toNat % 16 = 0 := by simpa [bits] using hk
  have hk2 : bits i.word.toNat 3 2 = 0 := by simp only [bits]; omega
  have hs0 : bits i.word.toNat 1 0 ≠ 3 := by simp only [bits]; omega
  obtain ⟨hrsv, his, hbad⟩ := strRow_legal hop (.inr rfl) hz hk2 hs0 hpd
  have ht := becomes_instr (exec_sfil i s) h hrsv his hbad
  have hmany' : (decide ((s.core i.eng.val).rep = some false) && decide (64 < (s.core i.eng.val).sc)) = true := by
    simp only [hrep, decide_true, Bool.true_and, decide_eq_true_eq]
    exact hmany
  rwa [if_pos hmany'] at ht

end Sys2Proof.Machine
end

section
/-! SUPPORT. The Chive instruction set (R439 to R441, Tables 15-2, 15-3 and 15-13). -/

namespace Sys2Proof.Machine

set_option Elab.async false

/-! ### One instruction of a Chive engine -/

/-- The state an instruction's outcome leads to. -/
def CeEff.state (s : State) (e w : Nat) : CeEff → State
  | .go t => t.ceNext e
  | .jump t pc => t.setCe e { t.ce e with pc := pc, st := .running }
  | .stall t => t.setCe e { t.ce e with st := .stalled }
  | .fault r => s.ceFault e w r

theorem ceAt_iff {s : State} {e : Fin 32} {op : Nat} :
    s.ceAt e op = true ↔ s.ceRuns e.val = true ∧ s.ceFetch e.val / 2 ^ 20 = op := by
  simp [State.ceAt]

/-- A tick on a word of the row's opcode. -/
theorem ceTick_eq {s : State} {e : Fin 32} {row : CeRow} (h : s.ceAt e row.op = true) (f : State → Nat → CeEff) :
    s.ceTick e.val row f =
      if row.rsv (s.ceFetch e.val) then s.ceFault e.val (s.ceFetch e.val) 1
      else if !row.is (s.ceFetch e.val) then s
      else if row.bad (s.ceFetch e.val) then s.ceFault e.val (s.ceFetch e.val) 1
      else (f s (s.ceFetch e.val)).state s e.val (s.ceFetch e.val) := by
  obtain ⟨hrun, hop⟩ := ceAt_iff.1 h
  have hguard : (!s.ceRuns e.val || decide (s.ceFetch e.val / 2 ^ 20 ≠ row.op)) = false := by
    rw [hrun, decide_eq_false (not_not_intro hop)]
    rfl
  rw [State.ceTick]
  simp only [hguard, Bool.false_eq_true, if_false]
  cases f s (s.ceFetch e.val) <;> rfl

section
variable {c : Instr} {s : State} {e : Fin 32} {row : CeRow} {f : State → Nat → CeEff}

/-- A defined word of its row does what its instruction gives. -/
theorem becomes_ce (hx : exec c s = s.ceInstr e row f) (h : s.ceAt e row.op = true)
    (hr : row.rsv (s.ceFetch e.val) = false) (hi : row.is (s.ceFetch e.val) = true)
    (hb : row.bad (s.ceFetch e.val) = false) :
    Becomes c s ((f s (s.ceFetch e.val)).state s e.val (s.ceFetch e.val)) := by
  rw [Becomes, hx, State.ceInstr, ceTick_eq h, hr, hi, hb]
  rfl

/-- A reserved form faults with reason 1. -/
theorem ceFaults_reserved (hx : exec c s = s.ceInstr e row f) (h : s.ceAt e row.op = true)
    (hr : row.rsv (s.ceFetch e.val) = true) : Becomes c s (s.ceFault e (s.ceFetch e) 1) := by
  rw [Becomes, hx, State.ceInstr, ceTick_eq h, hr]
  rfl

/-- A word with a non-zero unused field faults with reason 1. -/
theorem ceFaults_bad (hx : exec c s = s.ceInstr e row f) (h : s.ceAt e row.op = true)
    (hr : row.rsv (s.ceFetch e.val) = false) (hi : row.is (s.ceFetch e.val) = true)
    (hb : row.bad (s.ceFetch e.val) = true) : Becomes c s (s.ceFault e (s.ceFetch e) 1) := by
  rw [Becomes, hx, State.ceInstr, ceTick_eq h, hr, hi, hb]
  rfl

end

/-- Settles O17: pc goes on within the 48 words, and a fault writes its engine and the event bit. -/
theorem chiveEnginesAdvanceOrFault : Obligations.ChiveEnginesAdvanceOrFault := by
  refine ⟨fun s e h => by simp [State.ceNext, h], fun s e h => ⟨(Free.word s.sys.draws).toNat % 48, Nat.mod_lt _ (by decide), ?_⟩,
    fun s e w reason h => ?_, fun e s hrun hop => ?_⟩
  · have hpc : ¬ (s.ce e).pc < 47 := by omega
    rw [State.ceNext, if_neg hpc]
    rfl
  · have hprog : ¬ (s.ce e).prog = 6 := h
    simp only [State.ceFault, hprog, if_false]
    rfl
  · have hgo : (s.ceRuns e.val && decide (10 ≤ s.ceFetch e.val / 2 ^ 20)) = true := by
      rw [Bool.and_eq_true, decide_eq_true_eq]
      exact ⟨hrun, hop⟩
    rw [CeFaults, Becomes, exec_chiveReservedOpcode, execChiveReservedOpcode]
    simp only [hgo, if_true]
    rfl

/-! ### SETV and ALU -/

theorem ceAluClaim_of_eq {mk : Fin 32 → Instr} {op : Nat} {src : Bool} {imm : Nat} {f : CeEng → Word → Word → Nat → Word}
    (hx : ∀ e s, exec (mk e) s = s.ceAlu e op src imm f) (hop : op ≠ 12 ∧ op ≠ 14 ∧ op ≠ 15) : CeAluClaim mk op src imm f := by
  intro e s h hi w x d
  have hr : (ceAluRow op src imm).rsv (s.ceFetch e.val) = false := by simp [ceAluRow, hi, hop]
  have his : (ceAluRow op src imm).is (s.ceFetch e.val) = true := by simp [ceAluRow, hi]
  refine ⟨fun hsrc himm => ?_, fun hsrc hne => ?_, fun himm => ?_⟩
  · refine becomes_ce (hx e s) h hr his ?_
    have himm' : ¬ imm < bits (s.ceFetch e.val) 11 0 := Nat.not_lt.2 himm
    rcases hsrc with hs | hz
    · simp [ceAluRow, hs, himm']
    · have hz' : bits (s.ceFetch e.val) 13 12 = 0 := hz
      simp [ceAluRow, hz', himm']
  · refine ceFaults_bad (hx e s) h hr his ?_
    have hne' : (bits (s.ceFetch e.val) 13 12 != 0) = true := bne_iff_ne.2 hne
    simp [ceAluRow, hsrc, hne']
  · refine ceFaults_bad (hx e s) h hr his ?_
    have himm' : imm < bits (s.ceFetch e.val) 11 0 := himm
    simp [ceAluRow, himm']

/-- A half word below the upper half of a word. -/
theorem ofNat_lower (a : Word) {m : Nat} (hm : m < 2 ^ 16) :
    BitVec.ofNat 32 (m + a.toNat / 2 ^ 16 * 2 ^ 16) = (a &&& (0xFFFF0000 : Word)) ||| BitVec.ofNat 32 m := by
  have hhigh : a &&& (0xFFFF0000 : Word) = a >>> 16 <<< 16 := by
    rw [show (0xFFFF0000 : Word) = BitVec.allOnes 32 <<< 16 by decide]
    ext j hj
    rw [BitVec.getElem_and, BitVec.getElem_shiftLeft, BitVec.getElem_shiftLeft, BitVec.getElem_allOnes]
    rcases Nat.lt_or_ge j 16 with h | h
    · simp [h]
    · simp [Nat.not_lt.mpr h, Nat.add_sub_cancel' h, hj]
  have hdisj : a >>> 16 <<< 16 &&& BitVec.ofNat 32 m = 0#32 := by
    apply BitVec.eq_of_getLsbD_eq
    intro j hj
    rcases Nat.lt_or_ge j 16 with h | h
    · simp [h]
    · simp [Nat.testBit_lt_two_pow (Nat.lt_of_lt_of_le hm (Nat.pow_le_pow_right (by decide) h)), BitVec.getLsbD_ofNat]
  rw [hhigh, ← BitVec.add_eq_or_of_and_eq_zero _ _ hdisj, Nat.add_comm, BitVec.ofNat_add]
  rw [show BitVec.ofNat 32 (a.toNat / 2 ^ 16 * 2 ^ 16) = a >>> 16 <<< 16 from
    BitVec.eq_of_toNat_eq (by simp [Nat.shiftLeft_eq, Nat.shiftRight_eq_div_pow])]

theorem ofNat_shiftLeft (m k : Nat) : BitVec.ofNat 32 (m * 2 ^ k) = BitVec.ofNat 32 m <<< k :=
  BitVec.eq_of_toNat_eq (by simp [Nat.shiftLeft_eq])

/-- Settles O18: each operation writes one register of its engine; a half word is placed beside the half kept. -/
theorem chiveAluWritesRegister : Obligations.ChiveAluWritesRegister := by
  refine ⟨fun e s h => ?_, ceAluClaim_of_eq exec_chiveAdd (by decide), ceAluClaim_of_eq exec_chiveSub (by decide),
    ceAluClaim_of_eq exec_chiveAddi (by decide), ceAluClaim_of_eq exec_chiveSubi (by decide),
    ceAluClaim_of_eq exec_chiveAnd (by decide), ceAluClaim_of_eq exec_chiveOr (by decide),
    ceAluClaim_of_eq exec_chiveXor (by decide), ceAluClaim_of_eq exec_chiveMov (by decide),
    ceAluClaim_of_eq exec_shri (by decide), ceAluClaim_of_eq exec_shli (by decide),
    ceAluClaim_of_eq exec_chiveOri (by decide), ceAluClaim_of_eq exec_ldk (by decide),
    ceAluClaim_of_eq exec_chiveAndi (by decide)⟩
  intro w x d m
  have ht := becomes_ce (exec_setv e s) h rfl rfl rfl
  have hm : bits w 15 0 < 2 ^ 16 := Nat.mod_lt _ (by decide)
  have hv : BitVec.ofNat 32 (if tst w 17 then bits w 15 0 * 2 ^ 16 + (if tst w 16 then (x.r d).toNat % 2 ^ 16 else 0)
      else bits w 15 0 + (if tst w 16 then (x.r d).toNat / 2 ^ 16 * 2 ^ 16 else 0)) =
      (match tst w 17, tst w 16 with
      | false, false => m
      | false, true => (x.r d &&& 0xFFFF0000) ||| m
      | true, false => m <<< 16
      | true, true => (x.r d &&& 0xFFFF) ||| (m <<< 16)) := by
    cases tst w 17 <;> cases tst w 16
    · rfl
    · exact ofNat_lower _ hm
    · rw [if_pos rfl, if_neg Bool.false_ne_true, Nat.add_zero]
      exact ofNat_shiftLeft _ 16
    · exact ofNat_upper _ _
  have hgo : CeGoes .setv e s (x.setR d _) := ht
  rw [hv] at hgo
  exact hgo

end Sys2Proof.Machine
end

section
/-! SUPPORT. DRIVE, SENSE, TIME and AWAIT (R432, R439 to R441, Tables 15-2 and 15-3). -/

namespace Sys2Proof.Machine

set_option Elab.async false

/-! ### Pins -/

theorem pinOf_inside {s : State} {e i : Nat} (hi : i < 8) (hj : i + (s.ce e).po.toNat < 8) :
    s.pinOf e i = some (8 * (e / 4) + i + (s.ce e).po.toNat) := by
  simp [State.pinOf, hi, hj, Nat.add_assoc]

theorem pinOf_beyond {s : State} {e i : Nat} (hi : i < 8) (hj : 8 ≤ i + (s.ce e).po.toNat) : s.pinOf e i = none := by
  simp [State.pinOf, hi, Nat.not_lt.mpr hj]

theorem pinOf_pps {s : State} {e : Nat} (h : e / 4 = 7) : s.pinOf e 9 = some 65 := by
  simp [State.pinOf, h]

/-! ### DRIVE -/

theorem driveClaim_of_becomes {c : Instr} {e : Fin 32} {s : State} {w : Nat} {timed : Bool} {ch : PinChange}
    (ht : Becomes c s ((s.drive e timed ch).state s e w)) : DriveClaim c e s timed ch := by
  refine ⟨fun h => ?_, fun h hp => ?_, fun h hp hd => ?_, fun h hp hd => ?_⟩ <;> subst h
  · exact ht
  · rw [State.drive] at ht
    have hp' : (s.ce e).timed.isSome = true := Option.isSome_iff_ne_none.2 hp
    simp only [Bool.not_true, Bool.false_eq_true, if_false, hp', if_true] at ht
    exact ht
  · rw [State.drive] at ht
    have hp' : (s.ce e).timed = none := hp
    have hd' : 0 ≤ (s.t32 - (s.ce e).t).toInt := hd
    simp only [Bool.not_true, Bool.false_eq_true, if_false, hp', Option.isSome_none, hd', if_true] at ht
    exact ht
  · rw [State.drive] at ht
    have hp' : (s.ce e).timed = none := hp
    have hd' : ¬ 0 ≤ (s.t32 - (s.ce e).t).toInt := hd
    simp only [Bool.not_true, Bool.false_eq_true, if_false, hp', Option.isSome_none, hd'] at ht
    exact ht

theorem driveVal_eq (x : CeEng) (w : Nat) :
    x.driveVal w = if tst w 16 then (x.r (bits w 15 14)).getLsbD 0 else tst w 9 := by
  rw [CeEng.driveVal, tst_toNat]

/-- A DRIVE word of its mode whose unused fields are zero. -/
theorem becomes_drive {c : Instr} {e : Fin 32} {s : State} {mode : Nat} {f : State → Nat → CeEff}
    (hx : exec c s = s.ceInstr e (driveRow e mode) f) (h : s.ceAt e 2 = true) (hz : bits (s.ceFetch e) 8 0 = 0)
    (hm : bits (s.ceFetch e) 19 18 = mode) (h2 : mode = 2 → e.val / 4 = 7 ∧ bits (s.ceFetch e) 13 10 = 0)
    (h3 : mode = 3 → bits (s.ceFetch e) 13 9 = 0 ∧ tst (s.ceFetch e) 16 = true) :
    Becomes c s ((f s (s.ceFetch e)).state s e (s.ceFetch e)) := by
  have hb2 : (mode == 2 && (e.val / 4 != 7 || bits (s.ceFetch e) 13 10 != 0)) = false := by
    by_cases h : mode = 2
    · simp [h2 h]
    · simp [h]
  have hb3 : (mode == 3 && (bits (s.ceFetch e) 13 9 != 0 || !tst (s.ceFetch e) 16)) = false := by
    by_cases h : mode = 3
    · simp [h3 h]
    · simp [h]
  refine becomes_ce hx h rfl (by simp [driveRow, hm]) ?_
  simp only [driveRow, hz, hb2, hb3]
  rfl

/-- Settles O19: the pin of the word, or the fault, and then the one way a change takes effect. -/
theorem chiveDriveSetsPins : Obligations.ChiveDriveSetsPins := by
  intro e s h hz w x po i v r j p
  have hv : x.driveVal w = v := driveVal_eq x w
  refine ⟨fun hm hi hj => ?_, fun hm hi hj => ?_, fun hm hg hi => ?_, fun hm hi hj => ?_, fun hm hi hj => ?_,
    fun hm hg hi => ?_, fun hm hg => ?_, fun hm hf hr hj hp => ?_, fun hm hf hr hj => ?_⟩
  · have ht := becomes_drive (exec_driveLevel e s) h hz hm nofun nofun
    rw [show s.pinOf e (bits w 13 10) = some p from pinOf_inside hi hj] at ht
    exact driveClaim_of_becomes (hv ▸ ht)
  · have ht := becomes_drive (exec_driveLevel e s) h hz hm nofun nofun
    rw [show s.pinOf e (bits w 13 10) = none from pinOf_beyond hi hj] at ht
    exact ht
  · have ht := becomes_drive (exec_driveLevel e s) h hz hm nofun nofun
    rw [show s.pinOf e (bits w 13 10) = some 65 from (congrArg (s.pinOf e) hi).trans (pinOf_pps hg)] at ht
    exact driveClaim_of_becomes (hv ▸ ht)
  · have ht := becomes_drive (exec_driveDirection e s) h hz hm nofun nofun
    rw [show s.pinOf e (bits w 13 10) = some p from pinOf_inside hi hj] at ht
    exact driveClaim_of_becomes (hv ▸ ht)
  · have ht := becomes_drive (exec_driveDirection e s) h hz hm nofun nofun
    rw [show s.pinOf e (bits w 13 10) = none from pinOf_beyond hi hj] at ht
    exact ht
  · have ht := becomes_drive (exec_drivePpsOut e s) h hz hm (fun _ => ⟨hg, hi⟩) nofun
    exact driveClaim_of_becomes (hv ▸ ht)
  · have hm' : bits (s.ceFetch e) 19 18 = 2 := hm
    exact ceFaults_bad (exec_drivePpsOut e s) h rfl (by simp [driveRow, hm']) (by simp [driveRow, hg])
  · have ht := becomes_drive (exec_driveIndexed e s) h hz hm nofun fun _ => ⟨hf, hr⟩
    have hj' : bits r.toNat 3 0 + po = j := by simp [bits, j]
    have hprog : (decide ((s.cpin (e.val / 4 * 8 + j)).func = 3) && decide (x.prog = 8)) = false := by
      rw [decide_eq_false hp, Bool.and_false]
    change Becomes _ s (CeEff.state s e w (if 7 < bits r.toNat 3 0 + po then .fault 1 else
      s.drive e (tst w 17) (if (decide ((s.cpin (e.val / 4 * 8 + (bits r.toNat 3 0 + po))).func = 3) && decide (x.prog = 8))
        then .stage (e.val / 4 * 8 + (bits r.toNat 3 0 + po)) (tst r.toNat 8)
        else .level (e.val / 4 * 8 + (bits r.toNat 3 0 + po)) (tst r.toNat 8)))) at ht
    rw [hj', if_neg (by omega), hprog, if_neg Bool.false_ne_true, tst_toNat] at ht
    exact driveClaim_of_becomes ht
  · have ht := becomes_drive (exec_driveIndexed e s) h hz hm nofun fun _ => ⟨hf, hr⟩
    have hj' : bits r.toNat 3 0 + po = j := by simp [bits, j]
    have hlt : 7 < bits r.toNat 3 0 + po := by omega
    dsimp only at ht
    rw [if_pos hlt] at ht
    exact ht

/-! ### SENSE and TIME -/

theorem becomes_sense {c : Instr} {e : Fin 32} {s : State} {kind : Nat} {f : State → Nat → CeEff}
    (hx : exec c s = s.ceInstr e (senseRow kind) f) (h : s.ceAt e 3 = true) (hz : bits (s.ceFetch e) 11 0 = 0)
    (hk : bits (s.ceFetch e) 19 18 = kind) (h3 : kind < 3) (h2 : kind = 2 → bits (s.ceFetch e) 15 12 = 0) :
    Becomes c s ((f s (s.ceFetch e)).state s e (s.ceFetch e)) := by
  have hb2 : (kind == 2 && bits (s.ceFetch e) 15 12 != 0) = false := by
    by_cases h : kind = 2
    · simp [h2 h]
    · simp [h]
  refine becomes_ce hx h ?_ (by simp [senseRow, hk]) ?_
  · simp only [senseRow, hk, beq_eq_false_iff_ne]
    omega
  · simp only [senseRow, hz, hb2]
    rfl

theorem becomes_time {c : Instr} {e : Fin 32} {s : State} {kind : Nat} {f : State → CeEng → Nat → Nat → CeEng}
    (hx : exec c s = s.ceTime e kind f) (h : s.ceAt e 4 = true) (hk : bits (s.ceFetch e) 19 17 = kind) (h5 : kind < 5)
    (hz : bits (s.ceFetch e) 14 12 = 0) (himm : kind ≠ 1 → bits (s.ceFetch e) 11 0 = 0)
    (hreg : kind = 1 → bits (s.ceFetch e) 16 15 = 0) :
    Becomes c s ((s.setCe e (f s (s.ce e) (bits (s.ceFetch e) 16 15) (bits (s.ceFetch e) 11 0))).ceNext e) := by
  refine becomes_ce hx h ?_ (by simp [timeRow, hk]) ?_
  · simp only [timeRow, hk, decide_eq_false_iff_not]
    omega
  · by_cases h1 : kind = 1
    · simp [timeRow, hz, h1, hreg h1]
    · simp [timeRow, hz, h1, himm h1]

/-- Bit `k` of a sum of single bits placed at `0` to `n - 1`. -/
theorem fields_bits (b : Nat → Bool) (n : Nat) :
    fields ((List.range n).map fun i => (bit (b i), i)) < 2 ^ n ∧
    ∀ k, k < n → (fields ((List.range n).map fun i => (bit (b i), i))).testBit k = b k := by
  induction n with
  | zero => exact ⟨Nat.one_pos, fun k hk => absurd hk (Nat.not_lt_zero k)⟩
  | succ n ih =>
    obtain ⟨hlt, hbits⟩ := ih
    have hsucc : fields ((List.range (n + 1)).map fun i => (bit (b i), i)) =
        2 ^ n * bit (b n) + fields ((List.range n).map fun i => (bit (b i), i)) := by
      simp only [fields, List.range_succ, List.map_append, List.foldl_append, List.map_cons, List.map_nil, List.foldl_cons,
        List.foldl_nil]
      rw [Nat.add_comm, Nat.mul_comm]
    rw [hsucc]
    have hb : bit (b n) ≤ 1 := by cases b n <;> decide
    refine ⟨?_, fun k hk => ?_⟩
    · have hle : 2 ^ n * bit (b n) ≤ 2 ^ n * 1 := Nat.mul_le_mul_left _ hb
      rw [Nat.pow_succ]
      omega
    · rw [Nat.testBit_two_pow_mul_add _ hlt]
      split
      · next h => exact hbits k h
      · next h =>
        obtain rfl : k = n := by omega
        rw [Nat.sub_self]
        cases b k <;> rfl

/-- The levels of a group of eight pins. -/
theorem levels_bits {s : State} {g : Nat} (h : g ≠ 7) :
    s.levels g < 256 ∧ ∀ k, k < 8 → (s.levels g).testBit k = (s.cpin (8 * g + k)).raw := by
  have hl : s.levels g = fields ((List.range 8).map fun i => (bit (s.cpin (8 * g + i)).raw, i)) := by
    rw [State.levels, if_neg h, List.append_nil]
  rw [hl]
  exact fields_bits (fun i => (s.cpin (8 * g + i)).raw) 8

/-- Settles O20: each kind writes one register, T or E of its engine. -/
theorem chiveSenseAndTime : Obligations.ChiveSenseAndTime := by
  intro e s w x d i lv r sense time
  have hpin : i + x.po.toNat < 8 → s.pinOf e (bits (s.ceFetch e) 15 12) = some (8 * (e.val / 4) + i + x.po.toNat) :=
    fun h => pinOf_inside (Nat.lt_of_le_of_lt (Nat.le_add_right _ _) h) h
  refine ⟨fun ⟨h, hz⟩ hk hp => ?_, fun ⟨h, hz⟩ hk hp => ?_, fun ⟨h, hz⟩ hk hi hg => ?_, fun h hk => ?_,
    fun ⟨h, hk, hz, hi⟩ => ?_, fun ⟨h, hk, hz, hi⟩ hr => ?_, fun ⟨h, hk, hz, hi⟩ => ?_, fun ⟨h, hk, hz, hi⟩ => ?_,
    fun ⟨h, hk, hz, hi⟩ => ?_, fun h hk => ?_⟩
  · have ht := becomes_sense (exec_senseShift e s) h hz hk (by decide) nofun
    rw [hpin hp] at ht
    have hlv : BitVec.ofNat 32 (bit lv * 2 ^ 31) = if lv then 0x80000000 else 0 := by cases lv <;> rfl
    rw [← hlv]
    exact ht
  · have ht := becomes_sense (exec_senseLevel e s) h hz hk (by decide) nofun
    rw [hpin hp] at ht
    have hlv : BitVec.ofNat 32 (bit lv) = if lv then 1 else 0 := by cases lv <;> rfl
    rw [← hlv]
    exact ht
  · obtain ⟨hlt, hbits⟩ := levels_bits (s := s) hg
    refine ⟨BitVec.ofNat 32 (s.levels (e.val / 4)), fun k hk8 => ?_, ?_, ?_⟩
    · rw [BitVec.getLsbD_ofNat, hbits k hk8]
      simp [Nat.lt_trans hk8 (by decide : 8 < 32)]
    · rw [BitVec.toNat_ofNat, Nat.mod_eq_of_lt (Nat.lt_trans hlt (by decide))]
      exact hlt
    · exact becomes_sense (exec_senseAll e s) h hz hk (by decide) fun _ => hi
  · have hk' : bits (s.ceFetch e) 19 18 = 3 := hk
    exact ceFaults_reserved (exec_senseAll e s) h (by simp [senseRow, hk'])
  · exact becomes_time (exec_timeAdd e s) h hk (by decide) hz hi nofun
  · exact becomes_time (exec_timeNow e s) h hk (by decide) hz hi fun _ => hr
  · exact becomes_time (exec_timeFromStamp e s) h hk (by decide) hz hi nofun
  · exact becomes_time (exec_timeRead e s) h hk (by decide) hz hi nofun
  · exact becomes_time (exec_timeWrite e s) h hk (by decide) hz hi nofun
  · exact ceFaults_reserved (exec_timeWrite e s) h (by simpa [timeRow] using hk)

/-! ### AWAIT -/

theorem becomes_await {c : Instr} {e : Fin 32} {s : State} {kind : Nat} {f : State → Nat → CeEff}
    (hx : exec c s = s.ceInstr e (awaitRow kind) f) (h : s.ceAt e 5 = true) (hz : bits (s.ceFetch e) 10 8 = 0)
    (hk : bits (s.ceFetch e) 19 16 = kind) (h7 : kind < 7)
    (hi : kind = 1 ∨ kind = 2 ∨ kind = 3 ∨ bits (s.ceFetch e) 15 12 = 0)
    (hp : (1 ≤ kind ∧ kind ≤ 4) ∨ tst (s.ceFetch e) 11 = false) (hm : kind = 5 ∨ bits (s.ceFetch e) 7 0 = 0) :
    Becomes c s ((f s (s.ceFetch e)).state s e (s.ceFetch e)) := by
  have h1 : (!(kind == 1 || kind == 2 || kind == 3) && bits (s.ceFetch e) 15 12 != 0) = false := by
    rcases hi with h | h | h | h <;> simp [h]
  have h2 : (!(decide (1 ≤ kind) && decide (kind ≤ 4)) && tst (s.ceFetch e) 11) = false := by
    rcases hp with ⟨ha, hb⟩ | h
    · simp [ha, hb]
    · simp [h]
  have h3 : (kind != 5 && bits (s.ceFetch e) 7 0 != 0) = false := by
    rcases hm with h | h <;> simp [h]
  refine becomes_ce hx h ?_ (by simp [awaitRow, hk]) ?_
  · simp only [awaitRow, hk, decide_eq_false_iff_not]
    omega
  · simp only [awaitRow, hz, h1, h2, h3]
    rfl

/-- An AWAIT of one condition. -/
theorem awaitClaim_of_becomes {c : Instr} {e : Fin 32} {s t : State} {w : Nat} {p : Prop} [Decidable p]
    (ht : Becomes c s ((if p then CeEff.go t else .stall s).state s e w)) : AwaitClaim c e s p t := by
  refine ⟨fun h => ?_, fun h => ?_⟩
  · rwa [if_pos h] at ht
  · rwa [if_neg h] at ht

/-- Settles O21: a kind whose condition holds takes what it waits for, and goes on. -/
theorem chiveAwaitsItsCondition : Obligations.ChiveAwaitsItsCondition := by
  intro e s h hz w x g i pol p flag pinOk
  have hpin : pinOk → s.pinOf e (bits (s.ceFetch e) 15 12) = some (8 * (e.val / 4) + i + x.po.toNat) :=
    fun ⟨_, hi, hj⟩ => pinOf_inside hi hj
  refine ⟨fun hk hi hp hm => ?_, fun hk hp => ?_, fun hk hp => ?_, fun hk hm hi => ?_, fun hk hi hm => ?_,
    fun hk hi hp => ?_, fun hk hi hp hm => ?_, fun hk => ?_⟩
  · exact awaitClaim_of_becomes (becomes_await (exec_awaitTime e s) h hz hk (by decide) (.inr (.inr (.inr hi))) (.inr hp) (.inr hm))
  · have ht := becomes_await (exec_awaitLevel e s) h hz hk (by decide) (.inl rfl) (.inl (by decide)) (.inr hp.1)
    rw [hpin hp] at ht
    exact awaitClaim_of_becomes ht
  · have ht := becomes_await (exec_awaitEdge e s) h hz hk (by decide) (.inr (.inl rfl)) (.inl (by decide)) (.inr hp.1)
    rw [hpin hp] at ht
    exact awaitClaim_of_becomes ht
  · have ht := becomes_await (exec_awaitFlag e s) h hz hk (by decide) (.inr (.inr (.inl rfl))) (.inl (by decide)) (.inr hm)
    dsimp only at ht
    rw [if_neg (Nat.not_le.2 hi), tst_toNat] at ht
    exact awaitClaim_of_becomes ht
  · have ht := becomes_await (exec_awaitInstant e s) h hz hk (by decide) (.inr (.inr (.inr hi))) (.inl (by decide)) (.inr hm)
    dsimp only at ht
    refine ⟨fun q rest htake => ?_, fun hnone => ?_⟩
    · rw [show takeFirst _ _ = _ from htake] at ht
      exact ht
    · rw [show takeFirst _ _ = _ from hnone] at ht
      exact ht
  · have ht := becomes_await (exec_awaitChange e s) h hz hk (by decide) (.inr (.inr (.inr hi))) (.inr hp) (.inl rfl)
    dsimp only at ht
    refine ⟨fun q rest htake => ?_, fun hnone => ?_⟩
    · rw [show takeFirst _ _ = _ from htake] at ht
      have hl : (if q.level then 256 else 0) = 2 ^ 8 * bit q.level := by cases q.level <;> rfl
      rw [hl]
      exact ht
    · rw [show takeFirst _ _ = _ from hnone] at ht
      exact ht
  · have ht := becomes_await (exec_awaitOutFifo e s) h hz hk (by decide) (.inr (.inr (.inr hi))) (.inr hp) (.inr hm)
    refine ⟨fun hne => ?_, fun hne => ?_⟩
    · rw [if_neg (by simpa [List.isEmpty_iff] using hne)] at ht
      exact ht
    · rw [if_pos (by simpa [List.isEmpty_iff] using hne)] at ht
      exact ht
  · exact ceFaults_reserved (exec_awaitTime e s) h (by simpa [awaitRow] using hk)

end Sys2Proof.Machine
end

section
/-! SUPPORT. BRANCH, STAMP, XFER and FLAG (R438, R439, R448, Tables 15-2 and 15-3). -/

namespace Sys2Proof.Machine

set_option Elab.async false

/-! ### BRANCH -/

/-- Whether a BRANCH of condition 0 to 4 jumps. -/
def branchTakes (k : Nat) (r : Word) (sel : Nat) : Bool :=
  match k with
  | 0 => true
  | 1 => r == 0
  | 2 => r != 0
  | 3 => tst r.toNat sel
  | _ => !tst r.toNat sel

theorem becomes_branch {e : Fin 32} {s : State} {k : Nat} (h : s.ceAt e 6 = true) (hz : bits (s.ceFetch e) 9 6 = 0)
    (hk : bits (s.ceFetch e) 19 17 = k) (h4 : k ≤ 4) (hsel : k ≤ 2 → bits (s.ceFetch e) 14 10 = 0)
    (hreg : k = 0 → bits (s.ceFetch e) 16 15 = 0) {b : Bool}
    (hb : branchTakes k ((s.ce e).r (bits (s.ceFetch e) 16 15)) (bits (s.ceFetch e) 14 10) = b) :
    Becomes (.chiveBranch e) s ((if 48 ≤ bits (s.ceFetch e) 5 0 then CeEff.fault 2
      else if b then .jump s (bits (s.ceFetch e) 5 0) else .go s).state s e (s.ceFetch e)) := by
  have h5 : ¬ 5 ≤ k := by omega
  have h7 : (k == 7) = false := by rw [beq_eq_false_iff_ne]; omega
  have ht := becomes_ce (exec_chiveBranch e s) h (by simp only [branchRow, hk, h7]) rfl (by
    by_cases h2 : k ≤ 2
    · by_cases h0 : k = 0
      · simp [branchRow, hk, hz, hsel h2, hreg h0, h5]
      · simp [branchRow, hk, hz, hsel h2, h0, h5]
    · have h0 : k ≠ 0 := by omega
      simp [branchRow, hk, hz, h2, h0, h5])
  simp only [hk, decide_eq_false h5, Bool.false_and, Bool.false_eq_true, if_false] at ht
  rw [← hb]
  obtain rfl | rfl | rfl | rfl | rfl : k = 0 ∨ k = 1 ∨ k = 2 ∨ k = 3 ∨ k = 4 := by omega
  all_goals exact ht

/-! ### XFER -/

theorem loadEdge_other {s : State} {e : Nat} (h2 : (s.ce e).prog ≠ 2) (h4 : (s.ce e).prog ≠ 4) : s.loadEdge e = s := by
  simp only [State.loadEdge, decide_eq_false h2, decide_eq_false h4, Bool.or_self, Bool.false_and, Bool.false_eq_true, if_false]

theorem loadEdge_loaded {s : State} {e : Nat} (h : (s.ce e).outF ≠ []) : s.loadEdge e = s := by
  simp [State.loadEdge, h]

theorem loadEdge_empty {s : State} {e t : Nat} {v : Bool} (hp : (s.ce e).prog = 2 ∨ (s.ce e).prog = 4)
    (h : (s.ce e).outF = []) (hn : s.nextEdge (s.ce e).prog.toNat (s.ce e).edgeAt (s.ce e).edgeUp = some (t, v)) :
    s.loadEdge e = s.setCe e { s.ce e with
      outF := [BitVec.ofNat 32 t, BitVec.ofNat 32 (bit v)], edgeAt := BitVec.ofNat 64 t, edgeUp := v } := by
  have hgo : ((decide ((s.ce e).prog = 2) || decide ((s.ce e).prog = 4)) && (s.ce e).outF.isEmpty) = true := by
    rw [h, List.isEmpty_nil, Bool.and_true, Bool.or_eq_true, decide_eq_true_eq, decide_eq_true_eq]
    exact hp
  simp only [State.loadEdge, hgo, if_true, hn]

section
variable {e : Fin 32} {s : State} (h : s.ceAt e 8 = true) (hz : bits (s.ceFetch e) 15 0 = 0)
include h hz

/-- A take of a program other than UART TX. -/
theorem becomes_take (hd : tst (s.ceFetch e) 19 = false) (h6 : (s.ce e).prog ≠ 6) :
    Becomes (.xferTake e) s ((match ((s.loadEdge e).ce e).outF with
      | v :: rest =>
        let u := (s.loadEdge e).setCe e { ((s.loadEdge e).ce e).setR (bits (s.ceFetch e) 17 16) v with outF := rest }
        CeEff.go (if ((s.loadEdge e).ce e).prog = 6 then u.lineFeed ((s.loadEdge e).ce e).line 9 else u.loadEdge e)
      | [] => if tst (s.ceFetch e) 18 then .go (s.loadEdge e) else .stall (s.loadEdge e)).state s e (s.ceFetch e)) := by
  have ht := becomes_ce (exec_xferTake e s) h rfl (by simp [xferRow, hd]) (by simp [xferRow, hz])
  simp only [decide_eq_false h6, Bool.false_and, Bool.false_eq_true, if_false] at ht
  exact ht

theorem becomes_give (hd : tst (s.ceFetch e) 19 = true) :
    Becomes (.xferGive e) s ((if (s.giveSink e ((s.ce e).r (bits (s.ceFetch e) 17 16))).1 then
        CeEff.go (s.giveSink e ((s.ce e).r (bits (s.ceFetch e) 17 16))).2
      else if tst (s.ceFetch e) 18 then .go (s.setCe e { s.ce e with inLost := satInc (s.ce e).inLost })
      else .stall s).state s e (s.ceFetch e)) :=
  becomes_ce (exec_xferGive e s) h rfl (by simp [xferRow, hd]) (by simp [xferRow, hz])

end

/-- A word for the host goes to the IN FIFO while it has room. -/
theorem giveSink_host {s : State} {e : Nat} {v : Word} (hp : (s.ce e).prog = 1) (hs : (s.ce e).sink = 0) :
    s.giveSink e v = if 8 ≤ (s.ce e).inF.length then (false, s)
      else (true, s.setCe e { s.ce e with inF := (s.ce e).inF ++ [{ word := v, e := (s.ce e).e, eid := (s.ce e).eid }] }) := by
  have h7 : ¬ (s.ce e).prog = 7 := by rw [hp]; decide
  simp only [State.giveSink, h7, if_false, hs]
  rfl

/-! ### FLAG -/

theorem becomes_flag {c : Instr} {e : Fin 32} {s : State} {op : Nat} {f : State → Nat → CeEff}
    (hx : exec c s = s.ceInstr e (flagRow op) f) (h : s.ceAt e 9 = true) (hr : bits (s.ceFetch e) 17 16 = 0)
    (hz : bits (s.ceFetch e) 11 0 = 0) (hk : bits (s.ceFetch e) 19 18 = op) (h3 : op < 3)
    (hi : if op = 2 then bits (s.ceFetch e) 15 12 = 0 else bits (s.ceFetch e) 15 12 < 8) :
    Becomes c s ((f s (s.ceFetch e)).state s e (s.ceFetch e)) := by
  have hb : (if op = 2 then bits (s.ceFetch e) 15 12 != 0 else decide (8 ≤ bits (s.ceFetch e) 15 12)) = false := by
    split at hi
    · next h => simp [h, hi]
    · next h => simp [h, hi]
  refine becomes_ce hx h ?_ (by simp [flagRow, hk]) ?_
  · simp only [flagRow, hk, beq_eq_false_iff_ne]
    omega
  · simp only [flagRow, hr, hz, hb]
    rfl

/-- Settles O22: each form changes its engine, its pin or its group as its row gives, and the next word or the target
follows. -/
theorem chiveFlowAndFifos : Obligations.ChiveFlowAndFifos := by
  intro e s w x g r dest br goes falls sel i n p stampOf st reg f
  have hsplit : bits w 16 10 = 0 → bits w 14 10 = 0 ∧ bits w 16 15 = 0 := by
    simp only [bits]
    omega
  refine ⟨fun ⟨h, hz⟩ hk hu hd => ?_, fun ⟨h, hz⟩ hk hu hd => ⟨fun hr => ?_, fun hr => ?_⟩,
    fun ⟨h, hz⟩ hk hu hd => ⟨fun hr => ?_, fun hr => ?_⟩, fun ⟨h, hz⟩ hk hd => ⟨fun hr => ?_, fun hr => ?_⟩,
    fun ⟨h, hz⟩ hk hu hd => ?_, fun h hrsv hz hi hj => ?_, fun h hd hz h6 h4 h2 => ⟨fun v rest ho => ?_, fun ho hnb => ?_, fun ho hnb => ?_⟩,
    fun h hd hz hp ho hpc t v hn => ?_, fun h hd hz hp hs => ⟨fun hl => ?_, fun hl hnb => ?_, fun hl hnb => ?_⟩,
    fun h hr hz => ⟨fun hk hi => ?_, fun hk hi => ?_, fun hk hi => ?_, fun hk hi => ?_⟩⟩
  · have ht := becomes_branch h hz hk (by decide) (fun _ => (hsplit hu).1) (fun _ => (hsplit hu).2) (b := true) rfl
    rwa [if_neg (Nat.not_le.2 hd), if_pos rfl] at ht
  · have ht := becomes_branch h hz hk (by decide) (fun _ => hu) nofun (b := true) (beq_iff_eq.2 hr)
    rwa [if_neg (Nat.not_le.2 hd), if_pos rfl] at ht
  · have ht := becomes_branch h hz hk (by decide) (fun _ => hu) nofun (b := false) (beq_eq_false_iff_ne.2 hr)
    rwa [if_neg (Nat.not_le.2 hd), if_neg Bool.false_ne_true] at ht
  · have ht := becomes_branch h hz hk (by decide) (fun _ => hu) nofun (b := true) (bne_iff_ne.2 hr)
    rwa [if_neg (Nat.not_le.2 hd), if_pos rfl] at ht
  · have ht := becomes_branch h hz hk (by decide) (fun _ => hu) nofun (b := false) (bne_eq_false_iff_eq.2 hr)
    rwa [if_neg (Nat.not_le.2 hd), if_neg Bool.false_ne_true] at ht
  · have ht := becomes_branch h hz hk (by decide) (fun h => absurd h (by decide)) nofun (b := true) ((tst_toNat _ _).trans hr)
    rwa [if_neg (Nat.not_le.2 hd), if_pos rfl] at ht
  · have ht := becomes_branch h hz hk (by decide) (fun h => absurd h (by decide)) nofun (b := false) ((tst_toNat _ _).trans hr)
    rwa [if_neg (Nat.not_le.2 hd), if_neg Bool.false_ne_true] at ht
  · have ht := becomes_branch h hz hk (by decide) (fun _ => (hsplit hu).1) (fun _ => (hsplit hu).2) rfl
    rwa [if_pos hd] at ht
  · have hb : (tst (s.ceFetch e) 16 || bits (s.ceFetch e) 11 0 != 0) = false := by
      rw [show tst (s.ceFetch e) 16 = false from hrsv, show bits (s.ceFetch e) 11 0 = 0 from hz]
      rfl
    have ht := becomes_ce (exec_stamp e s) h rfl rfl hb
    rw [show s.pinOf e (bits (s.ceFetch e) 15 12) = some n from pinOf_inside hi hj] at ht
    refine ⟨fun hc => ?_, fun hc => ?_⟩
    · dsimp only at ht
      rw [if_neg (Bool.eq_false_iff.1 hc)] at ht
      exact ht
    · dsimp only at ht
      rw [if_pos hc] at ht
      exact ht
  · have ht := becomes_take h hz hd h6
    have h6' : ¬ (s.ce e).prog = 6 := h6
    rw [loadEdge_other h2 h4, show (s.ce e).outF = v :: rest from ho] at ht
    dsimp only at ht
    rw [if_neg h6', loadEdge_other (by rw [ce_setCe_self]; exact h2) (by rw [ce_setCe_self]; exact h4)] at ht
    exact ht
  · have ht := becomes_take h hz hd h6
    rw [loadEdge_other h2 h4, show (s.ce e).outF = [] from ho] at ht
    dsimp only at ht
    rw [if_pos hnb] at ht
    exact ht
  · have ht := becomes_take h hz hd h6
    rw [loadEdge_other h2 h4, show (s.ce e).outF = [] from ho] at ht
    dsimp only at ht
    rw [if_neg (Bool.eq_false_iff.1 hnb)] at ht
    exact ht
  · have h6 : (s.ce e).prog ≠ 6 := fun h6 => by
      rcases hp with hp | hp <;> exact absurd (hp.symm.trans h6) (by decide)
    have ht := becomes_take h hz hd h6
    rw [loadEdge_empty hp ho hn, ce_setCe_self] at ht
    dsimp only at ht
    rw [if_neg h6, setCe_setCe, loadEdge_loaded (by rw [ce_setCe_self]; exact List.cons_ne_nil _ _)] at ht
    refine ⟨_, ht, ?_⟩
    have hpc' : (s.ce e).pc < 47 := hpc
    simp only [CeEff.state, State.ceNext, ce_setCe_self, CeEng.setR, hpc', if_true, setCe_setCe, settle_ce]
    refine ⟨by simp [CeEng.r, reg, w], by cases v <;> rfl, rfl, fun b hb => ?_⟩
    cases b <;> first | exact absurd hb (by decide) | rfl
  · have ht := becomes_give h hz hd
    rw [giveSink_host hp hs, if_neg (Nat.not_le.2 hl), if_pos rfl] at ht
    exact ht
  · have ht := becomes_give h hz hd
    rw [giveSink_host hp hs, if_pos hl, if_neg Bool.false_ne_true, if_pos hnb] at ht
    exact ht
  · have ht := becomes_give h hz hd
    rw [giveSink_host hp hs, if_pos hl, if_neg Bool.false_ne_true, if_neg (Bool.eq_false_iff.1 hnb)] at ht
    exact ht
  · exact becomes_flag (exec_flagSet e s) h hr hz hk (by decide) hi
  · exact becomes_flag (exec_flagClear e s) h hr hz hk (by decide) hi
  · have hk' : bits (s.ceFetch e) 19 18 = 0 := hk
    have hi' : 8 ≤ bits (s.ceFetch e) 15 12 := hi
    exact ceFaults_bad (exec_flagSet e s) h (by simp [flagRow, hk']) (by simp [flagRow, hk']) (by simp [flagRow, hi'])
  · exact becomes_flag (exec_flagSig e s) h hr hz hk (by decide) hi

end Sys2Proof.Machine
end

section
/-! SUPPORT. Pins, lines, FIFOs and restarts of the Chive island (R435, R436, R438, R441, R443 to R450). -/

namespace Sys2Proof.Machine

set_option Elab.async false

/-! ### Requests that pass the common checks -/

/-- A request whose checks pass comes to its operation. -/
theorem serve_of_asked {s u : State} {q : Req} {code words : Nat} (h : s.asked q code words u) (f : State → State ⊕ Nat) :
    s.serve q code words f = match f u with | .inl t => t | .inr st => u.refuse q code st := by
  obtain ⟨-, hdue, rfl, hcheck⟩ := h
  rw [State.serve, hdue]
  dsimp only
  rw [hcheck]
  rfl

section
variable {c : Instr} {s u : State} {q : Req} {code words : Nat} {f : State → State ⊕ Nat}
  (hx : exec c s = if s.running then (s.serve q code words f).done else .next s) (h : s.asked q code words u)
include hx h

/-- A served request that is done or accepted. -/
theorem becomes_served {t : State} (hf : f u = .inl t) : Becomes c s t := by
  rw [Becomes, hx, if_pos h.1, serve_of_asked h, hf]
  rfl

/-- A served request that its operation refuses. -/
theorem becomes_refused {st : Nat} (hf : f u = .inr st) : Becomes c s (u.refuse q code st) := by
  rw [Becomes, hx, if_pos h.1, serve_of_asked h, hf]
  rfl

end

/-! ### Filtered changes -/

theorem foldl_ignored {α β : Type} (g : β → α → β) (l : List α) (h : ∀ b, ∀ a ∈ l, g b a = b) (b : β) : l.foldl g b = b := by
  induction l with
  | nil => rfl
  | cons a l ih =>
    rw [List.foldl_cons, h b a List.mem_cons_self]
    exact ih fun b a ha => h b a (List.mem_cons_of_mem _ ha)

/-- A fold over a range that acts at one number only. -/
theorem foldl_range_at {β : Type} (g : β → Nat → β) {p n : Nat} (hp : p < n) (hother : ∀ b i, i ≠ p → g b i = b) (b : β) :
    (List.range n).foldl g b = g b p := by
  induction n with
  | zero => exact absurd hp (Nat.not_lt_zero p)
  | succ n ih =>
    rw [List.range_succ, List.foldl_append, List.foldl_cons, List.foldl_nil]
    rcases Nat.lt_succ_iff_lt_or_eq.1 hp with hlt | rfl
    · rw [ih hlt, hother _ _ (Nat.ne_of_gt hlt)]
    · rw [foldl_ignored g _ (fun b i hi => hother b i (Nat.ne_of_lt (List.mem_range.1 hi)))]

@[simp] theorem cpin_chvEvent (s : State) (b p : Nat) : (s.chvEvent b).cpin p = s.cpin p := rfl

/-- A filter that ends at one pin. -/
theorem filteredChange_one (p : Fin 64) (s : State) (hrun : s.running = true)
    (hkeep : ((s.filtered p).2.cpin p).func = 1) :
    exec (.filteredChange [p.castLE (by decide)]) s = .next (s.filtered p).2.settle := by
  have hfold : ∀ acc : List Nat × State, (List.range 65).foldl (fun (acc : List Nat × State) i =>
      if [p.castLE (show 64 ≤ 65 by decide)].any (fun q => q.val == i) then
        let (b, t) := acc.2.filtered i
        (if b then acc.1 ++ [i] else acc.1, t)
      else acc) acc = (if (acc.2.filtered p).1 then acc.1 ++ [p.val] else acc.1, (acc.2.filtered p).2) := by
    intro acc
    rw [foldl_range_at _ (show p.val < 65 by omega)]
    · simp
    · intro b i hi
      have : ([p.castLE (show 64 ≤ 65 by decide)].any fun q => q.val == i) = false := by simpa using hi.symm
      rw [this]
      rfl
  rw [exec_filteredChange, execFilteredChange, if_pos hrun, hfold]
  dsimp only
  cases (s.filtered p).1
  · rfl
  · simp [hkeep, State.done]

/-! ### Whole microseconds -/

theorem roundUp_bounds (n k : Nat) (hk : 0 < k) : roundUp n k % k = 0 ∧ n ≤ roundUp n k ∧ roundUp n k < n + k := by
  have hdiv := Nat.div_add_mod (n + k - 1) k
  have hmod := Nat.mod_lt (n + k - 1) hk
  have hcomm : k * ((n + k - 1) / k) = (n + k - 1) / k * k := Nat.mul_comm _ _
  refine ⟨Nat.mul_mod_left _ _, ?_, ?_⟩ <;> simp only [roundUp] <;> omega

/-- Settles O23: each event of a pin is one write of that pin, then what follows from it. -/
theorem chivePinsAct : Obligations.ChivePinsAct := by
  refine ⟨fun p v t s hrun hout hraw htx => ?_, fun p s hrun hne hf => ?_, fun e s t c hrun htimed hdue => ?_,
    fun p s hrun hpulse => ?_, fun n s v hv hf => ?_, fun s hrun hfld hprog hce => ?_⟩
  · have hgo : (s.running && !(s.cpin p.val).out) = true := by simp [hrun, hout]
    have hrec : ∀ x : CePin, (s.setCpin p.val x).txLine p.val = none := fun x => htx
    rw [Becomes, exec_pinEdge, execPinEdge, if_pos hgo, State.pinEdge]
    dsimp only
    rw [if_neg hraw, hrec]
    rfl
  · intro x
    have hbin : ∀ y : CePin, y.func = 1 → (s.setCpin p.val y).binaryIn p.val = true := by
      intro y hy
      have : p.val < 64 := p.isLt
      simp [State.binaryIn, this, hy]
    have hfilt : ¬ (s.cpin p.val).raw = (s.cpin p.val).filtered := hne
    refine ⟨fun hearly => ?_, fun hlate => ?_⟩
    · have hno : s.filtered p.val = (false, s) := by
        have : s.sys.mono < (s.cpin p.val).edgeAt + us (s.cpin p.val).filterUs.toNat := hearly
        simp [State.filtered, this]
      have hex := filteredChange_one p s hrun (by rw [hno]; exact hf)
      rw [hno] at hex
      exact hex
    · intro g t
      have hlate' : ¬ s.sys.mono < (s.cpin p.val).edgeAt + us (s.cpin p.val).filterUs.toNat := Nat.not_lt.2 hlate
      have hstart : s.filtered p.val = if 64 ≤ g.queue.length then
          (false, (t.setGrp (p / 8) { g with fqLost := satInc g.fqLost }).chvEvent 1)
        else (true, t.setGrp (p / 8) { g with queue :=
          g.queue ++ [{ pin := p, level := x.raw, stamp := if x.raw then x.rise else x.fall }] }) := by
        have hb := hbin { s.cpin p.val with filtered := (s.cpin p.val).raw } hf
        simp only [State.filtered, hfilt, hlate', decide_false, Bool.or_self, Bool.false_eq_true, if_false, hb, Bool.not_true]
        rfl
      refine ⟨fun hroom => ?_, fun hfull => ?_⟩
      · rw [if_neg (Nat.not_le.2 hroom)] at hstart
        have hex := filteredChange_one p s hrun (by rw [hstart]; simpa [t] using hf)
        rw [hstart] at hex
        exact hex
      · rw [if_pos hfull] at hstart
        have hex := filteredChange_one p s hrun (by rw [hstart]; simpa [t] using hf)
        rw [hstart] at hex
        exact hex
  · rw [Becomes, exec_timedChangeApply, execTimedChangeApply, hrun, htimed]
    have hdue' : 0 ≤ (s.t32 - t).toInt := hdue
    dsimp only
    rw [if_pos hdue']
    rfl
  · refine ⟨fun hdue => ?_, fun hdue => ?_⟩
    · have hgo : (s.running && (s.cpin p.val).pulse && decide ((s.cpin p.val).pulseAt + ms (s.pinFld p.val 8 2) ≤ s.sys.mono)) = true := by
        rw [hrun, hpulse, decide_eq_true hdue]
        rfl
      rw [Becomes, exec_pulseEnd, execPulseEnd]
      dsimp only
      rw [if_pos hgo]
      rfl
    · rw [exec_pulseEnd, execPulseEnd]
      rw [decide_eq_false (Nat.not_le.2 hdue), Bool.and_false, if_neg Bool.false_ne_true]
  · intro e w hprog hrun hroom
    have hfind : ((List.range 4).map (· + 4 * (n.val / 8))).find? (fun e => (s.ce e).prog == 8) = some (4 * (n.val / 8)) := by
      have hfirst : ((s.ce (0 + 4 * (n.val / 8))).prog == 8) = true := by
        rw [Nat.zero_add]
        exact beq_iff_eq.2 hprog
      simp only [List.range_succ_eq_map, List.map_cons, List.find?_cons, hfirst]
      rw [Nat.zero_add]
    have hgo : (s.ceRuns (4 * (n.val / 8)) && (s.cpin n.val).func == 3 && decide ((s.ce (4 * (n.val / 8))).outF.length < 8)) = true := by
      rw [show s.ceRuns (4 * (n.val / 8)) = true from hrun, show (s.cpin n.val).func = 3 from hf, decide_eq_true hroom]
      rfl
    have hw : n.val % 8 + 256 * bit (v.getLsbD 0 != (s.cpin n.val).invert) =
        n % 8 + if v.getLsbD 0 != (s.cpin n.val).invert then 256 else 0 := by
      cases v.getLsbD 0 != (s.cpin n.val).invert <;> rfl
    rw [Becomes, exec_binaryOutputDelivery, execBinaryOutputDelivery]
    dsimp only
    rw [hv, hfind]
    dsimp only
    have hw' : w = BitVec.ofNat 32 (n.val % 8 + 256 * bit (v.getLsbD 0 != (s.cpin n.val).invert)) :=
      congrArg (BitVec.ofNat 32) hw.symm
    rw [if_pos hgo, hw']
    rfl
  · intro now width
    have hruns : s.ppsRuns = true := by
      have hany : (List.range 4).any (fun i => (s.ce (28 + i)).prog == 2 && s.ceRuns (28 + i)) = true := by
        rw [List.any_eq_true]
        exact ⟨0, List.mem_range.2 (by decide), by rw [Nat.add_zero, hprog, hce]; rfl⟩
      rw [State.ppsRuns, hany, Bool.and_true]
      exact bne_iff_ne.2 hfld
    have hex : ∀ rise, exec (.ppsOutEdge rise) s = if rise then
        (if atSecond s.time.t && s.ppsMay then
          (({ s with time := { s.time with ppsUp := s.time.t } } : State).setLevel 65 true).done else .next s)
      else if s.time.ppsUp.toNat + width ≤ now + 8 then (s.setLevel 65 false).done else .next s := by
      intro rise
      rw [exec_ppsOutEdge, execPpsOutEdge]
      simp only [hrun, hruns, Bool.and_self, if_true]
      rfl
    refine ⟨fun hdue => ?_, fun hearly => ?_, fun hsec hmode hst => ?_, fun hlo hhi => ?_, fun hmode hst => ?_⟩
    · rw [Becomes, hex, if_neg Bool.false_ne_true, if_pos hdue]
      rfl
    · rw [hex, if_neg Bool.false_ne_true, if_neg (Nat.not_le.2 hearly)]
    · have hat : atSecond s.time.t = true := by
        rw [atSecond]
        simp only [Bool.or_eq_true, decide_eq_true_eq]
        exact .inl hsec
      have hmay : s.ppsMay = true := by simp [State.ppsMay, hst]
      rw [Becomes, hex, if_pos rfl, hat, hmay]
      rfl
    · have hat : atSecond s.time.t = false := by
        rw [atSecond]
        simp only [Bool.or_eq_false_iff, decide_eq_false_iff_not]
        exact ⟨Nat.not_le.2 hlo, Nat.not_le.2 hhi⟩
      rw [hex, if_pos rfl, hat]
      rfl
    · have hmay : s.ppsMay = false := by simp [State.ppsMay, hmode, hst]
      rw [hex, if_pos rfl, hmay, Bool.and_false]
      rfl

end Sys2Proof.Machine
end

section
/-! SUPPORT. FIFOs, line assemblers and group restarts of the Chive island (R438, R443, R444, R446). -/

namespace Sys2Proof.Machine

set_option Elab.async false

/-- A frame of a line that is counted as it closes. -/
theorem lineFrameClose_counts {l : Fin 16} {s : State} (hrun : s.running = true) (hon : (s.line l).rxOn = true)
    (hq : s.rxQuiet l = true) (hg : (!(s.line l).flagged && decide ((s.line l).rx.length ≤ 2048)) = false) :
    Becomes (.lineFrameClose l) s ((s.setLine l { s.line l with
      rx := [], rxOn := false, flagged := false, nErr := satInc (s.line l).nErr }).lineStart l) := by
  have hgo : (s.running && (s.line l.val).rxOn && s.rxQuiet l.val) = true := by simp [hrun, hon, hq]
  rw [Becomes, exec_lineFrameClose, execLineFrameClose]
  dsimp only
  rw [if_pos hgo, hg]
  simp only [Bool.false_eq_true, if_false, State.done]

/-- A good frame of a line. -/
theorem lineFrameClose_delivers {l : Fin 16} {s : State} (hrun : s.running = true) (hon : (s.line l).rxOn = true)
    (hq : s.rxQuiet l = true) (hg : (!(s.line l).flagged && decide ((s.line l).rx.length ≤ 2048)) = true) :
    Becomes (.lineFrameClose l) s (((s.setLine l { s.line l with
      rx := [], rxOn := false, flagged := false, nRx := satInc (s.line l).nRx }).lineDeliver l (s.line l).rx
        (s.line l).rxStamp).lineStart l) := by
  have hgo : (s.running && (s.line l.val).rxOn && s.rxQuiet l.val) = true := by simp [hrun, hon, hq]
  rw [Becomes, exec_lineFrameClose, execLineFrameClose]
  dsimp only
  rw [if_pos hgo, hg]
  simp only [if_true, State.done]

/-- Settles O24: the FIFOs and the line assembler write their engine and their line. -/
theorem chiveHostAndLines : Obligations.ChiveHostAndLines := by
  refine ⟨fun e s hup => ?_, fun e w s hup => ⟨fun hl => ?_, fun hl => ?_⟩, fun l s e c rest hrun he hin hpar hde => ?_,
    fun l s hq => ?_, fun l s hrun hon hq => ?_⟩
  · rw [Becomes, exec_chiveInPop, execChiveInPop, if_pos hup]
    rfl
  · rw [Becomes, exec_chiveOutWrite, execChiveOutWrite, if_pos hup, State.chvOut]
    dsimp only
    rw [if_neg (Nat.not_le.2 hl)]
    rfl
  · rw [Becomes, exec_chiveOutWrite, execChiveOutWrite, if_pos hup, State.chvOut]
    dsimp only
    rw [if_pos hl]
    rfl
  · intro v u y
    have hrx : exec (.lineCharacter l) s = if y.de || tst v 0 then (u.setLine l y).done
        else ((u.setLine l y).setLine l { y with
          rx := y.rx ++ [BitVec.ofNat 8 (bits v (s.lineData l) 1)], rxOn := true
          flagged := y.flagged || !(bit (s.lineParity l != 0) == 0 || bit (tst v (1 + s.lineData l)) ==
            parityBit (s.lineParity l == 2) (s.lineData l) (bits v (s.lineData l) 1)) ||
            !((List.range (s.lineStops l)).all fun i => tst v (1 + s.lineData l + bit (s.lineParity l != 0) + i))
          rxStamp := if y.rxOn then y.rxStamp else c.e }).done := by
      rw [exec_lineCharacter, execLineCharacter, hrun, he]
      dsimp only
      rw [hin]
      rfl
    have hde' : y.de = false := hde
    refine ⟨fun hbit => ?_, fun hbit hstops => ?_⟩
    · rw [Becomes, hrx, hbit, Bool.or_true]
      rfl
    · rw [Becomes, hrx, hbit, hde', hpar, hstops]
      simp [bit, State.done]
  · rw [exec_lineFrameClose, execLineFrameClose]
    dsimp only
    rw [hq, Bool.and_false, if_neg Bool.false_ne_true]
  · intro y closed
    refine ⟨fun hbad => ?_, fun hflag hlen => ?_⟩
    · have hg : (!(s.line l).flagged && decide ((s.line l).rx.length ≤ 2048)) = false := by
        rcases hbad with h | h
        · rw [show (s.line l).flagged = true from h]; rfl
        · rw [decide_eq_false (Nat.not_le.2 h), Bool.and_false]
      exact lineFrameClose_counts hrun hon hq hg
    · have hg : (!(s.line l).flagged && decide ((s.line l).rx.length ≤ 2048)) = true := by
        rw [show (s.line l).flagged = false from hflag, decide_eq_true hlen]; rfl
      exact lineFrameClose_delivers hrun hon hq hg

/-! ### Restarts -/

/-- A restarted group with its four engines. -/
theorem restartGroup_eq (s : State) (g : Nat) (keep : Bool) :
    let x := s.grp g
    let r := fun (s : State) (i : Nat) =>
      s.setCe (4 * g + i) ((s.ce (4 * g + i)).restart keep (bits (x.entryTab (1 - x.bank)).toNat (8 * i + 7) (8 * i)))
    s.restartGroup g keep =
      (r (r (r (r (s.setGrp g { x with bank := 1 - x.bank, started := true, restart := none }) 0) 1) 2) 3).chvEvent 3 := rfl

@[simp] theorem grp_chvEvent (s : State) (b g : Nat) : (s.chvEvent b).grp g = s.grp g := rfl

theorem ce_chvEvent (s : State) (b e : Nat) : (s.chvEvent b).ce e = s.ce e := rfl

theorem ce_restartGroup (s : State) (g : Nat) (keep : Bool) (i : Nat) (hi : i < 4) :
    (s.restartGroup g keep).ce (4 * g + i) = (s.ce (4 * g + i)).restart keep
      (bits ((s.grp g).entryTab (1 - (s.grp g).bank)).toNat (8 * i + 7) (8 * i)) := by
  rw [restartGroup_eq]
  dsimp only
  obtain rfl | rfl | rfl | rfl : i = 0 ∨ i = 1 ∨ i = 2 ∨ i = 3 := by omega
  all_goals simp [ce_chvEvent, ce_setCe]

theorem grp_restartGroup (s : State) (g : Nat) (keep : Bool) : (s.restartGroup g keep).grp g =
    { s.grp g with bank := 1 - (s.grp g).bank, started := true, restart := none } := by
  rw [restartGroup_eq]
  dsimp only
  rw [grp_chvEvent, grp_setCe, grp_setCe, grp_setCe, grp_setCe, grp_setGrp_self]

/-- `t` is `s` but for engines and groups of the Chive block. -/
def State.ChvEngines (s t : State) : Prop :=
  t = { s with chv := t.chv } ∧ t.chv.event = s.chv.event ∧ t.chv.pin = s.chv.pin

theorem State.ChvEngines.trans {s t u : State} (h : s.ChvEngines t) (h' : t.ChvEngines u) : s.ChvEngines u := by
  obtain ⟨ht, hev, hpin⟩ := h
  obtain ⟨hu, hev', hpin'⟩ := h'
  refine ⟨?_, hev'.trans hev, hpin'.trans hpin⟩
  rw [ht] at hu
  exact hu

theorem chvEngines_setCe (s : State) (e : Nat) (x : CeEng) : s.ChvEngines (s.setCe e x) := ⟨rfl, rfl, rfl⟩

theorem chvEngines_setGrp (s : State) (g : Nat) (x : CeGroup) : s.ChvEngines (s.setGrp g x) := ⟨rfl, rfl, rfl⟩

/-- Outside its group and engines a restart sets the event bit. -/
theorem restartGroup_block (s : State) (g : Nat) (keep : Bool) :
    s.restartGroup g keep = { s with chv := (s.restartGroup g keep).chv } ∧
    (s.restartGroup g keep).chv.event = s.chv.event ||| 8 ∧ (s.restartGroup g keep).chv.pin = s.chv.pin := by
  rw [restartGroup_eq]
  dsimp only
  generalize hu : State.setCe _ (4 * g + 3) _ = u
  have hframe : s.ChvEngines u := by
    rw [← hu]
    exact ((((chvEngines_setGrp s g _).trans (chvEngines_setCe _ _ _)).trans (chvEngines_setCe _ _ _)).trans
      (chvEngines_setCe _ _ _)).trans (chvEngines_setCe _ _ _)
  obtain ⟨heq, hev, hpin⟩ := hframe
  refine ⟨?_, congrArg (· ||| 8) hev, hpin⟩
  rw [heq]
  rfl

/-- What an engine's restart keeps, clears and sets. -/
theorem restart_fields (x : CeEng) (keep : Bool) (en : Nat) :
    let y := x.restart keep en
    y.inF = x.inF ∧ y.outF = x.outF ∧ y.timed = x.timed ∧
    (keep = false → y.g = [] ∧ y.t = 0 ∧ y.e = 0 ∧ y.eid = 0) ∧
    (keep = true → y.g = x.g ∧ y.t = x.t ∧ y.e = x.e ∧ y.eid = x.eid) ∧
    (en < 48 → y.st = .running ∧ y.pc = en) ∧ (en = 0xFF → y.st = .idle) := by
  unfold CeEng.restart
  cases x.next <;> cases keep <;> by_cases h : en < 48 <;> simp [h] <;> omega

/-- Settles O25: a restart writes its group and its four engines; the two requests and the register put one in wait. -/
theorem chiveGroupsRestart : Obligations.ChiveGroupsRestart := by
  refine ⟨fun g s r hrun hr hreq hdue => ?_, fun g s hup hlc hnone hbound => ?_, fun g s hup hlc => ?_,
    fun q s u h => ?_, fun q s u g h hmask hlo hhi hnone => ?_⟩
  · refine ⟨(s.restartGroup g r.keep).settle, ?_, ?_⟩
    · rw [exec_chiveGroupRestart, execChiveGroupRestart, hrun, hr]
      dsimp only
      rw [if_pos hdue, hreq]
      rfl
    · have hgrp := grp_restartGroup s g r.keep
      obtain ⟨hc, hev, hpin⟩ := restartGroup_block s g r.keep
      dsimp only
      rw [settle_grp, hgrp, settle_chv]
      refine ⟨rfl, rfl, rfl, rfl, rfl, hev, hpin, fun i hi => ?_, fun b hb => ?_⟩
      · rw [settle_ce, ce_restartGroup s g r.keep i hi]
        exact restart_fields _ _ _
      · rw [hc]
        cases b <;> first | exact absurd hb (by decide) | rfl
  · obtain ⟨hmul, hle, hlt⟩ := roundUp_bounds (s.time.t.toNat + us 10) 4000 (by decide)
    have hus : us 10 = 40000 := rfl
    rw [hus] at hmul hle hlt
    have hat : (BitVec.ofNat 64 (roundUp (s.time.t.toNat + 40000) 4000)).toNat = roundUp (s.time.t.toNat + 40000) 4000 := by
      rw [BitVec.toNat_ofNat]
      exact Nat.mod_eq_of_lt (by omega)
    refine ⟨((s.gctrl g).settle), by rw [exec_chiveGctrlRestart, execChiveGctrlRestart, if_pos hup]; rfl, ?_⟩
    have hg : s.gctrl g = s.setGrp g { s.grp g with restart := some {
        at_ := BitVec.ofNat 64 (roundUp (s.time.t.toNat + 40000) 4000), keep := (s.grp g).keep, req := none } } := by
      rw [State.gctrl]
      simp [hlc, hnone, hus]
    dsimp only
    rw [settle_grp, hg, grp_setGrp_self]
    refine ⟨_, rfl, ?_⟩
    dsimp only
    rw [hat]
    exact ⟨hmul, hle, by omega, rfl⟩
  · rw [Becomes, exec_chiveGctrlRestart, execChiveGctrlRestart, if_pos hup, State.gctrl]
    simp [hlc, State.done]
  · intro g b hg hbulk hprog hfits
    have hok : (decide (8 ≤ g) || !bulkOk q.src.val (q.word 2) (q.word 3) || !chiveProgOk b || !u.progFits g b) = false := by
      rw [decide_eq_false (Nat.not_le.2 hg), hbulk, hprog, hfits]
      rfl
    refine ⟨fun hnone => becomes_served (exec_chiveProgramWrite q s) h ?_,
      fun hsome => becomes_refused (exec_chiveProgramWrite q s) h ?_⟩
    · dsimp only
      rw [hok, hnone]
      rfl
    · dsimp only
      rw [hok, Option.isSome_iff_ne_none.2 hsome]
      rfl
  · refine becomes_served (exec_chiveRestartRequest q s) h ?_
    have hone : ∀ g : Fin 8, maskBits 8 (2 ^ g.val) = [g.val] := by decide
    have h512 : ¬ 512 ≤ 2 ^ g.val := by
      have : 2 ^ g.val ≤ 2 ^ 7 := Nat.pow_le_pow_right (by decide) (by omega)
      omega
    have hkeep : tst (2 ^ g.val) 8 = false := by
      rw [tst_two_pow]
      exact decide_eq_false (by omega)
    have hr : (q.dword 2).toNat ≠ 0 := by omega
    have hin : ¬ ((q.dword 2).toNat < u.time.t.toNat + us 10 ∨ u.time.t.toNat + sec 10 < (q.dword 2).toNat) := by
      simp only [us, sec]
      omega
    have hbad : (decide (512 ≤ 2 ^ g.val) || [g.val].isEmpty || (decide ((q.dword 2).toNat ≠ 0) &&
        (decide ((q.dword 2).toNat < u.time.t.toNat + us 10) || decide (u.time.t.toNat + sec 10 < (q.dword 2).toNat)))) =
        false := by
      rw [decide_eq_false h512, decide_eq_false (not_or.1 hin).1, decide_eq_false (not_or.1 hin).2]
      simp
    have hfree : [g.val].any (fun g => (u.grp g).restart.isSome) = false := by simp [hnone]
    dsimp only
    rw [hmask, hone, hbad, hfree, if_neg hr, hkeep, BitVec.ofNat_toNat, BitVec.setWidth_eq]
    rfl

end Sys2Proof.Machine
end

section
/-! SUPPORT. Resets: what the abandonment of NVM writes leaves, the reset state, and what the commands of reset make of it. -/

namespace Sys2Proof.Machine

set_option Elab.async false

theorem cutAll_eq (l : List NvmPart) (s : State) : ∃ m d, l.foldl State.cutWrite s =
    { s with mem := { s.mem with nvm := m }, sys := { s.sys with draws := d } } := by
  induction l generalizing s with
  | nil => exact ⟨_, _, rfl⟩
  | cons p l ih =>
    obtain ⟨m, d, hp⟩ := cutWrite_eq s p
    obtain ⟨m', d', hl⟩ := ih (s.cutWrite p)
    exact ⟨m', d', by rw [List.foldl_cons, hl, hp]⟩

/-- What the abandonment of the NVM writes under way can touch: NVM, the job and the free words drawn. -/
theorem abandonWrites_eq (s : State) : ∃ m d j, s.abandonWrites =
    { s with mem := { s.mem with nvm := m }, sys := { s.sys with draws := d }, sage := { s.sage with job := j } } := by
  obtain ⟨m, d, j, hj⟩ := cutJob_eq s
  obtain ⟨m', d', hp⟩ := cutAll_eq s.openParts s.cutJob
  exact ⟨m', d', j, by rw [State.abandonWrites, hp, hj]⟩

/-- With no job and no other write under way nothing is cut. -/
theorem abandonWrites_of_none {s : State} (hj : s.sage.job = none) (hp : s.openParts = []) : s.abandonWrites = s := by
  have hc : s.cutJob = s := by
    unfold State.cutJob
    rw [hj]
  rw [State.abandonWrites, hp, hc]
  rfl

theorem deviceReset_latched (s : State) (c : Cause) : (s.deviceReset c).rmy.latched = s.latchedAfter := by
  obtain ⟨m, d, j, h⟩ := abandonWrites_eq s
  simp only [State.deviceReset, h]
  rfl

theorem deviceReset_stage (s : State) (c : Cause) :
    (s.deviceReset c).sys.stage = s.sys.begin_ (c.cold || s.sys.stage.unlocked) := by
  obtain ⟨m, d, j, h⟩ := abandonWrites_eq s
  simp only [State.deviceReset, h]
  rfl

/-- A device reset leaves what `State.resetTo` lists. -/
theorem deviceReset_resetTo (s : State) (c : Cause) : s.resetTo (s.deviceReset c) c := by
  have hnone := @abandonWrites_of_none s
  obtain ⟨m, d, j, h⟩ := abandonWrites_eq s
  unfold State.resetTo State.deviceReset
  rw [h] at hnone ⊢
  refine ⟨rfl, rfl, rfl, rfl, rfl, ?_, rfl, rfl, rfl, fun hj hp => ?_, rfl, rfl, ?_, rfl, rfl, rfl, rfl, rfl, rfl, rfl,
    rfl, rfl, rfl, rfl, rfl, rfl, rfl, rfl, rfl, rfl, rfl, rfl⟩
  · simp
  · exact congrArg (fun t => t.mem.nvm) (hnone hj hp)
  · simp

/-- The marks of the sources that hold the reset. -/
def State.marked (s : State) (p v t : Bool) : State :=
  { s with sys := { s.sys with porHeld := p, supplyHeld := v, thermHeld := t } }

@[simp] theorem marked_openParts (s : State) (p v t : Bool) : (s.marked p v t).openParts = s.openParts := rfl

/-- Which sources hold the reset is nothing to a write that is cut. -/
theorem cutWrite_marked (s : State) (q : NvmPart) (p v t : Bool) :
    (s.marked p v t).cutWrite q = (s.cutWrite q).marked p v t := by
  have hfold : ∀ (l : List (Nat × Byte)) (u : State),
      l.foldl (fun s b => s.nvmWrite b.1 [b.2]) (u.marked p v t) =
        (l.foldl (fun s b => s.nvmWrite b.1 [b.2]) u).marked p v t := by
    intro l
    induction l with
    | nil => exact fun _ => rfl
    | cons b l ih => exact fun u => ih (u.nvmWrite b.1 [b.2])
  have herase : ∀ a n, (s.marked p v t).nvmErase a n = (s.nvmErase a n).marked p v t := fun _ _ => rfl
  have hdraws : (s.marked p v t).sys.draws = s.sys.draws := rfl
  unfold State.cutWrite
  dsimp only
  rw [herase, hdraws, hfold]
  rfl

theorem cutJob_marked (s : State) (p v t : Bool) : (s.marked p v t).cutJob = s.cutJob.marked p v t := by
  unfold State.cutJob
  rw [show (s.marked p v t).sage.job = s.sage.job from rfl]
  cases s.sage.job with
  | none => rfl
  | some j => exact cutWrite_marked { s with sage := { s.sage with job := none } } _ p v t

theorem abandonWrites_marked (s : State) (p v t : Bool) : (s.marked p v t).abandonWrites = s.abandonWrites.marked p v t := by
  have hfold : ∀ (l : List NvmPart) (u : State),
      l.foldl State.cutWrite (u.marked p v t) = (l.foldl State.cutWrite u).marked p v t := by
    intro l
    induction l with
    | nil => exact fun _ => rfl
    | cons q l ih => exact fun u => (congrArg (l.foldl State.cutWrite) (cutWrite_marked u q p v t)).trans (ih _)
  rw [State.abandonWrites, marked_openParts, cutJob_marked, hfold]
  rfl

/-- The reset of a device whose holding sources are marked first is its reset. -/
theorem resetTo_of_marked {s t : State} {c : Cause} {p v h : Bool} (ht : (s.marked p v h).resetTo t c) : s.resetTo t c := by
  unfold State.resetTo at ht ⊢
  rw [abandonWrites_marked, marked_openParts] at ht
  exact ht

theorem holdReset_of_free {s : State} (c : Cause) (h : s.sys.stage ≠ .held) : s.holdReset c = s.deviceReset c := by
  rw [State.holdReset, if_neg (by simpa using h)]

theorem holdReset_of_held {s : State} (c : Cause) (h : s.sys.stage = .held) : s.holdReset c = s.joinReset c := by
  rw [State.holdReset, if_pos (by simpa using h)]

theorem begin_of_holds {y : Sys} (b : Bool) (h : y.holds = true) : y.begin_ b = .held := by
  rw [Sys.begin_, if_pos h]

/-- A source that holds the reset of a device that was free: its cause, and held. -/
theorem marked_holdReset {s : State} (hs : s.sys.stage ≠ .held) {p v t : Bool} (hold : (p || v || t) = true) (c : Cause) :
    s.resetTo ((s.marked p v t).holdReset c) c ∧ ((s.marked p v t).holdReset c).sys.stage = .held := by
  rw [holdReset_of_free (s := s.marked p v t) c hs]
  refine ⟨resetTo_of_marked (deviceReset_resetTo _ c), ?_⟩
  rw [deviceReset_stage]
  exact begin_of_holds _ hold

theorem running_iff {s : State} : s.running = true ↔ s.sys.stage = .running := by
  simp [State.running]

theorem fatalOpen_of_running {s : State} (h : s.running = true) : s.fatalOpen = false := by
  simp [State.fatalOpen, running_iff.1 h]

/-- Settles O26: every reset that takes effect is `deviceReset`, whose fields are read off once in `deviceReset_resetTo`;
the mark of the holding source, set before it, touches no NVM write. -/
theorem resetSourcesResetTheDevice : Obligations.ResetSourcesResetTheDevice := by
  unfold Obligations.ResetSourcesResetTheDevice
  intro s
  refine ⟨fun hs => ⟨fun hp => ?_, fun hv i mv hmv => ?_, fun ht tj htj => ?_, ?_⟩, fun i mv hmv => ?_, fun tj htj => ?_,
    fun hrun => ⟨?_, fun hdue => ?_, fun hdue => ?_⟩, fun hst hw hd hrel => ?_, fun hrel hlt => ?_, fun hlt hr => ?_,
    fun hst hw hd hnow => ?_⟩
  · refine ⟨_, ?_, marked_holdReset (p := true) (v := s.sys.supplyHeld) (t := s.sys.thermHeld) hs rfl .por⟩
    rw [exec_porNAssert, execPorNAssert, if_neg (by simp [hp])]
    rfl
  · refine ⟨_, ?_, marked_holdReset (p := s.sys.porHeld) (v := true) (t := s.sys.thermHeld) hs (by simp) .supply⟩
    rw [exec_supplyMonitorReset, execSupplyMonitorReset, if_neg (by simpa [hv] using hmv)]
    rfl
  · refine ⟨_, ?_, marked_holdReset (p := s.sys.porHeld) (v := s.sys.supplyHeld) (t := true) hs (by simp) .thermal⟩
    rw [exec_thermalTrip, execThermalTrip, if_neg (by simpa [ht] using htj)]
    rfl
  · exact ⟨_, by rw [exec_warmNAssert, execWarmNAssert, State.warmReset, if_neg (by simpa using hs)],
      deviceReset_resetTo s .warm⟩
  · rw [exec_supplyMonitorReset, execSupplyMonitorReset, if_pos (by rw [decide_eq_true hmv, Bool.or_true])]
  · rw [exec_thermalTrip, execThermalTrip, if_pos (by simp [htj])]
  · have hst := running_iff.1 hrun
    refine ⟨_, by rw [exec_sageWatchdogExpiry, execSageWatchdogExpiry, if_pos (by simp [hst, Stage.sageRuns])], ?_, ?_⟩
    · dsimp only
      rw [State.warmReset, if_neg (by simp [hst])]
      exact deviceReset_resetTo s .watchdog
    · dsimp only
      rw [fatalOpen_of_running hrun]
      rfl
  · exact ⟨_, by rw [exec_lifecycleColdReset, execLifecycleColdReset, if_pos (by simp [hrun, hdue])],
      deviceReset_resetTo s .lifeCycle⟩
  · exact ⟨_, by rw [exec_requestedWarmReset, execRequestedWarmReset, if_pos (by simp [hrun, hdue])],
      deviceReset_resetTo s .request⟩
  · have hopen : s.fatalOpen = false := by simp [State.fatalOpen, hw]
    refine ⟨_, by rw [exec_fatalReset, execFatalReset, if_pos (by simpa [hst, hd, hopen] using hrel)],
      deviceReset_resetTo s .fatal, ?_⟩
    rw [deviceReset_latched, State.latchedAfter, hopen]
    rfl
  · rw [exec_fatalReset, execFatalReset, if_neg (by simp [hrel, hlt])]
  · rw [exec_fatalRecordLatch, execFatalRecordLatch, if_neg]
    have hr' : (s.rmy.fatal.any fun f => decide (f.reason = 4)) = false := hr
    simp [hr', hlt]
  · have hopen : s.fatalOpen = true := by simp [State.fatalOpen, hst, hw, hd]
    have hnow' : ((s.rmy.fatal.any fun f => decide (f.reason = 4)) ||
        decide (s.rmy.fatalAt + sec 10 ≤ s.sys.mono)) = true := by
      rw [Bool.or_eq_true, decide_eq_true_iff]
      exact hnow
    refine ⟨_, by rw [exec_fatalRecordLatch, execFatalRecordLatch, if_pos (by rw [hopen, hnow']; rfl)],
      deviceReset_resetTo s .fatal, ?_⟩
    rw [deviceReset_latched, State.latchedAfter, hopen]
    rfl

theorem endHold_eq (s : State) (x : Clocks) : s.endHold x =
    { s with sys := { s.sys with refA := x.a, refB := x.b, refbHz := x.hz,
                                 stage := (s.setClocks x).sys.begin_ true } } := rfl

/-- With no source left the always-on stage begins with the clocks found. -/
theorem begin_of_free {y : Sys} (h : y.holds = false) :
    y.begin_ true = if y.refA then Stage.wiping else if y.refB then .refWait else .clockWait := by
  rw [Sys.begin_, if_neg (by simp [h])]
  rfl

theorem railsUp_iff {mv : List Nat} : railsUp mv = true ↔ ∀ i, i < 10 → monitorMv.getD i 0 + 10 < mv.getD i 0 := by
  simp [railsUp]

/-- Settles O27: while held, `joinReset` keeps the lower code and counts nothing; a release drops its own hold, and
`begin_` answers held while another stands and the stage of the clocks otherwise. -/
theorem releaseBeginsTheAlwaysOnStage : Obligations.ReleaseBeginsTheAlwaysOnStage := by
  unfold Obligations.ReleaseBeginsTheAlwaysOnStage CausesWhileHeldJoinTheReset
  refine ⟨fun s hs => ⟨?_, fun ht tj htj => ?_, fun hp => ?_⟩, fun s x => ?_⟩
  · rw [exec_warmNAssert, execWarmNAssert, State.warmReset, if_pos (by simp [hs])]
  · refine ⟨_, by rw [exec_thermalTrip, execThermalTrip, if_neg (by simpa [ht] using htj)], ?_⟩
    rw [holdReset_of_held (s := { s with sys := { s.sys with thermHeld := true } }) _ hs]
    unfold State.joinReset
    cases hc : s.sys.cause <;> simp [Cause.code, hc, hs]
  · refine ⟨_, by rw [exec_porNAssert, execPorNAssert, if_neg (by simp [hp])], ?_⟩
    rw [holdReset_of_held (s := { s with sys := { s.sys with porHeld := true } }) _ hs]
    unfold State.joinReset
    cases hc : s.sys.cause <;> simp [Cause.code, hc, hs]
  · dsimp only
    refine ⟨fun hp hv ht => ?_, fun mv ⟨i, hi, hmv⟩ => ?_, fun tj htj => ?_, fun hv hp ht mv hmv => ?_,
      fun ht hp hv tj htj => ?_, fun hp hvt => ?_, fun hs hp hv ht => ?_, fun hs => ?_⟩
    · rw [exec_porNRelease, execPorNRelease, if_pos hp, endHold_eq, begin_of_free (by simp [Sys.holds, State.setClocks, hv, ht])]
      rfl
    · rw [exec_supplyMonitorRelease, execSupplyMonitorRelease, if_neg]
      rw [Bool.and_eq_true, railsUp_iff]
      exact fun h => absurd (h.2 i hi) (Nat.not_lt.2 hmv)
    · rw [exec_thermalRelease, execThermalRelease, if_neg (by simp [htj])]
    · rw [exec_supplyMonitorRelease, execSupplyMonitorRelease, if_pos (by rw [hv, railsUp_iff.2 hmv]; rfl), endHold_eq,
        begin_of_free (by simp [Sys.holds, State.setClocks, hp, ht])]
      rfl
    · rw [exec_thermalRelease, execThermalRelease, if_pos (by simp [ht, htj]), endHold_eq,
        begin_of_free (by simp [Sys.holds, State.setClocks, hp, hv])]
      rfl
    · rw [exec_porNRelease, execPorNRelease, if_pos hp, endHold_eq, begin_of_holds]
      simpa [Sys.holds, State.setClocks] using hvt
    · rw [exec_resetClockCheck, execResetClockCheck, if_pos (by simp [hs]), endHold_eq,
        begin_of_free (by simp [Sys.holds, State.setClocks, hp, hv, ht])]
      rfl
    · rw [exec_refclkAAbsentTimeout, execRefclkAAbsentTimeout, if_pos (by simp [hs])]

end Sys2Proof.Machine
end

section
/-! SUPPORT. What the switch core keeps: a frame that is admitted, evicted or released changes the core, the capture
memories, the free words drawn and the transmissions an engine is told of, and nothing else. -/

namespace Sys2Proof.Machine

set_option Elab.async false

/-- The state without the parts that the passage of a frame through the core changes. -/
def State.coreless (s : State) : State × (Nat → Eng) :=
  ({ s with sw := {}, mem := { s.mem with cap := [], dram := [] }, sys := { s.sys with draws := 0 },
            engs := { s.engs with eng := [] } },
   fun e => { s.eng e with txDone := [] })

section
variable (s : State)

@[simp] theorem coreless_sw (w : SwBlk) : State.coreless { s with sw := w } = s.coreless := rfl

@[simp] theorem coreless_draw : s.draw.coreless = s.coreless := rfl

@[simp] theorem coreless_setFrame (i : Nat) (f : Frame) : (s.setFrame i f).coreless = s.coreless := rfl

@[simp] theorem coreless_setSwPort (n : Nat) (p : SwPort) : (s.setSwPort n p).coreless = s.coreless := rfl

@[simp] theorem coreless_setQueue (n c : Nat) (q : List Copy) : (s.setQueue n c q).coreless = s.coreless := rfl

@[simp] theorem coreless_dropCells (p : CellTx → Bool) : (s.dropCells p).coreless = s.coreless := rfl

@[simp] theorem coreless_sendCells (fid src out cells : Nat) : (s.sendCells fid src out cells).coreless = s.coreless := rfl

@[simp] theorem coreless_newFrame (f : Frame) : (s.newFrame f).2.coreless = s.coreless := rfl

/-- An engine is told of a transmission. -/
theorem coreless_setEng {e : Nat} {g : Eng} (h : { g with txDone := [] } = { s.eng e with txDone := [] }) :
    (s.setEng e g).coreless = s.coreless := by
  have heng : (fun j => { (s.setEng e g).eng j with txDone := [] }) = fun j => { s.eng j with txDone := [] } := by
    funext j
    by_cases hj : e = j
    · rw [← hj, eng_setEng_self, h]
    · rw [eng_setEng, if_neg (Ne.symm hj)]
  exact Prod.ext rfl heng

@[simp] theorem coreless_capWrite (b : List Byte) : (s.capWrite b).coreless = s.coreless := by
  unfold State.capWrite
  dsimp only
  split
  · rfl
  · split
    · rfl
    · split <;> rfl

theorem coreless_drawIf (f : Frame) : (if 1 < f.refused.length then s.draw else s).coreless = s.coreless := by
  split <;> rfl

@[simp] theorem coreless_capture (f : Frame) : (s.capture f).coreless = s.coreless := by
  unfold State.capture
  split
  · rfl
  · have h := coreless_drawIf s f
    dsimp only
    generalize (if 1 < f.refused.length then s.draw else s) = u at h ⊢
    split
    · exact (coreless_capWrite _ _).trans h
    · exact h

@[simp] theorem coreless_tryRelease (fid : Nat) : (s.tryRelease fid).coreless = s.coreless := by
  unfold State.tryRelease
  split
  · rfl
  · next f _ =>
    dsimp only
    split
    · split
      · split
        · exact coreless_capture s f
        · refine Eq.trans (coreless_setEng (s := { s.capture f with sw := _ }) ?_) (coreless_capture s f)
          rfl
      · exact coreless_capture s f
    · rfl

@[simp] theorem coreless_copyGone (fid : Nat) (why : Option Nat) : (s.copyGone fid why).coreless = s.coreless := by
  unfold State.copyGone
  split
  · rfl
  · dsimp only
    rw [coreless_tryRelease, coreless_setFrame]
    split <;> simp

@[simp] theorem coreless_dropCopy (n c : Nat) (x : Copy) (why : Option Nat) :
    (s.dropCopy n c x why).coreless = s.coreless := by
  simp [State.dropCopy]

@[simp] theorem coreless_whole (n : Int) (d : Nat) : (s.whole n d).2.coreless = s.coreless := by
  unfold State.whole
  split <;> rfl

@[simp] theorem coreless_redDrop (n c : Nat) (d : Dest) : (s.redDrop n c d).2.coreless = s.coreless := by
  unfold State.redDrop
  split
  · rfl
  · split
    · rfl
    · dsimp only
      split
      · exact coreless_whole s _ _
      · split <;> exact coreless_whole s _ _

@[simp] theorem coreless_refuseAt (fid n why : Nat) : (s.refuseAt fid n why).coreless = s.coreless := by
  unfold State.refuseAt
  dsimp only
  split <;> simp

@[simp] theorem coreless_takeIn (fid n c cells : Nat) (ct : Bool) : (s.takeIn fid n c cells ct).coreless = s.coreless := by
  unfold State.takeIn
  split <;> simp

end

theorem coreless_evictUntil {n cls : Nat} {ok : State → Bool} (k : Nat) {s t : State} (h : s.evictUntil n cls ok k = some t) :
    t.coreless = s.coreless := by
  induction k generalizing s with
  | zero => exact absurd h nofun
  | succ k ih =>
    unfold State.evictUntil at h
    split at h
    · rw [Option.some.inj h]
    · split at h
      · exact absurd h nofun
      · rw [ih h, coreless_dropCopy, coreless_setSwPort]

@[simp] theorem coreless_judgeAt (s : State) (fid : Nat) (d : Dest) (cells : Nat) (ct : Bool) :
    (s.judgeAt fid d cells ct).coreless = s.coreless := by
  unfold State.judgeAt
  split
  · rfl
  · next f _ =>
    have hred := coreless_redDrop s d.port f.cls d
    dsimp only
    generalize s.redDrop d.port f.cls d = r at hred
    obtain ⟨dropped, t⟩ := r
    dsimp only at hred ⊢
    rw [← hred]
    split
    · rw [coreless_refuseAt, hred]
    · split
      · rw [coreless_refuseAt]
      · split
        · rw [coreless_refuseAt]
        · split
          · rw [coreless_takeIn]
          · split
            · split
              · next u hu => rw [coreless_takeIn, coreless_evictUntil _ hu]
              · rw [coreless_refuseAt]
            · rw [coreless_refuseAt]

@[simp] theorem coreless_sendFrames (s : State) (l : List (Frame × Dest)) : (s.sendFrames l).coreless = s.coreless := by
  unfold State.sendFrames
  dsimp only
  rw [foldl_same State.coreless _ (fun t x => coreless_tryRelease t _),
    foldl_same State.coreless _ (fun t x => coreless_judgeAt t _ _ _ _)]
  exact foldl_same (fun b : List (Nat × Dest × Nat) × State => b.2.coreless)
    (fun b x => (b.1 ++ [((b.2.newFrame x.1).1, x.2, x.1.len)], (b.2.newFrame x.1).2))
    (fun b x => coreless_newFrame b.2 x.1) l ([], s)

@[simp] theorem coreless_ctlSend (s : State) (n kind : Nat) (b : List Byte) : (s.ctlSend n kind b).coreless = s.coreless := by
  simp [State.ctlSend]

@[simp] theorem coreless_lsaSend (s : State) (n : Nat) (l : Lsa) : (s.lsaSend n l).coreless = s.coreless := by
  simp [State.lsaSend]

@[simp] theorem coreless_flood (s : State) (l : Lsa) (but : Option Nat) : (s.flood l but).coreless = s.coreless := by
  unfold State.flood
  exact foldl_same State.coreless _ (fun t n => coreless_lsaSend t n l) _ s

/-- A part of the state that the core leaves alone, read off. -/
theorem eq_of_coreless {s t : State} (h : t.coreless = s.coreless) {α : Type} (f : State → α)
    (hf : ∀ u : State, f u.coreless.1 = f u) : f t = f s := by
  rw [← hf t, ← hf s, h]

end Sys2Proof.Machine
end

section
/-! SUPPORT. Start-up up to READY: what the application of a configuration leaves of the always-on island, the fuses and
Sage, and the commands of the pins. -/

namespace Sys2Proof.Machine

set_option Elab.async false

/-- What the application of a configuration leaves alone: the fuses, Sage, and the always-on island but for the free words
drawn and the MDIO writes. -/
def State.still (s : State) : Otp × Sage × Sys := (s.otp, s.sage, { s.sys with draws := 0, mdio := [] })

theorem still_of_coreless {s t : State} (h : t.coreless = s.coreless) : t.still = s.still :=
  eq_of_coreless h State.still (fun _ => rfl)

theorem still_foldl {α : Type} {f : State → α → State} (h : ∀ s a, (f s a).still = s.still) (l : List α) (s : State) :
    (l.foldl f s).still = s.still :=
  foldl_same State.still f h l s

section
variable (s : State)

/-! ### The blocks that a configuration is applied to -/

theorem still_applyAge (bad : List (Fin 64)) : (s.applyAge bad).still = s.still := by
  unfold State.applyAge
  split <;> rfl

theorem still_applyPortRec (r : Rec) : (s.applyPortRec r).still = s.still := by
  unfold State.applyPortRec
  dsimp only
  split <;> rfl

theorem still_mdioFailed (bus : Nat) : (s.mdioFailed bus).still = s.still :=
  still_foldl (by intro _ _; rfl) _ s

theorem still_mdioWrite (w : List Byte) (miss : Option Bool) : (s.mdioWrite w miss).still = s.still := by
  unfold State.mdioWrite
  dsimp only
  split
  · exact (still_mdioFailed _ _).trans rfl
  · rfl

theorem still_applyPorts (mdio : List (Nat × Bool)) : (s.applyPorts mdio).still = s.still := by
  have h := still_foldl still_applyPortRec s.cfg.recs s
  unfold State.applyPorts
  dsimp only
  split
  · exact (still_foldl (fun t k => still_mdioWrite t _ _) _ _).trans h
  · exact h

theorem still_fdbApply {b : List Byte} {t : State} (h : s.fdbApply b = some t) : t.still = s.still := by
  unfold State.fdbApply at h
  dsimp only at h
  split at h
  · rw [← Option.some.inj h]
    rfl
  · split at h
    · exact absurd h nofun
    · rw [← Option.some.inj h]
      rfl

theorem still_fdbApplyAll (l : List (List Byte)) {s t : State} (h : s.fdbApplyAll l = some t) : t.still = s.still := by
  induction l generalizing s with
  | nil => rw [← Option.some.inj h]
  | cons b l ih =>
    unfold State.fdbApplyAll at h
    split at h
    · next u hu => rw [ih h, still_fdbApply s hu]
    · exact absurd h nofun

theorem still_swApply {r : Rec} {t : State} (h : s.swApply r = some t) : t.still = s.still := by
  unfold State.swApply at h
  split at h
  · rw [← Option.some.inj h]
    rfl
  · exact still_fdbApplyAll _ h
  · rw [← Option.some.inj h]
    rfl
  · rw [← Option.some.inj h]
    rfl

theorem still_applySwRec (r : Rec) : (s.applySwRec r).still = s.still := by
  unfold State.applySwRec
  split
  · rfl
  · split
    · rfl
    · split
      · cases h : s.swApply r with
        | none => rfl
        | some t => exact still_swApply s h
      · rfl

theorem still_applyTt : s.applyTt.still = s.still := by
  unfold State.applyTt State.qualUpdate
  dsimp only
  split <;> rfl

theorem still_originate : s.originate.still = s.still := by
  unfold State.originate
  split
  · exact (still_of_coreless (coreless_flood _ _ _)).trans rfl
  · rfl

theorem still_startClaim : s.startClaim.still = s.still := by
  unfold State.startClaim
  split
  · rfl
  · split
    · exact (still_originate _).trans rfl
    · exact (still_originate _).trans rfl

theorem still_applyFab : s.applyFab.still = s.still := by
  unfold State.applyFab
  refine (still_startClaim _).trans ?_
  exact still_foldl (f := fun s (r : Rec) =>
    s.setFport r.inst { s.fport r.inst with cost := BitVec.ofNat 16 (rdLE r.body 2 2) }) (fun _ _ => rfl) _ s

theorem still_subAppend {e : SubEntry} {t : State} (h : s.subAppend e = some t) : t.still = s.still := by
  unfold State.subAppend at h
  dsimp only at h
  split at h
  · exact absurd h nofun
  · rw [← Option.some.inj h]
    rfl

theorem still_subAppendAll (l : List SubEntry) {s t : State} (h : s.subAppendAll l = some t) : t.still = s.still := by
  induction l generalizing s with
  | nil => rw [← Option.some.inj h]
  | cons e l ih =>
    unfold State.subAppendAll at h
    split at h
    · next u hu => rw [ih h, still_subAppend s hu]
    · exact absurd h nofun

theorem still_applyPnt (on : Bool) : (s.applyPnt on).still = s.still := by
  unfold State.applyPnt
  dsimp only
  split
  · generalize hu : State.mk .. = u
    have h : u.still = s.still := by rw [← hu]; rfl
    cases ha : u.subAppendAll u.subEntries with
    | none => exact h
    | some t => exact (still_subAppendAll _ ha).trans h
  · rfl

theorem still_applyHost : s.applyHost.still = s.still := by
  unfold State.applyHost
  exact still_foldl (by intro _ _; rfl) _ s

theorem still_nearest (n : Int) (d : Nat) : (s.nearest n d).2.still = s.still := by
  unfold State.nearest
  dsimp only
  split
  · rfl
  · split <;> rfl

theorem still_stdEngine (e kind line entry : Nat) : (s.stdEngine e kind line entry).still = s.still := by
  unfold State.stdEngine
  dsimp only
  generalize hx : (if (decide (kind = 5) || decide (kind = 6)) = true then
    s.nearest 4000000000 (s.lineFld line 8 4) else (0, s)) = x
  have h : x.2.still = s.still := by
    rw [← hx]
    split
    · exact still_nearest s _ _
    · rfl
  exact Eq.trans rfl h

theorem still_stdGroup (g : Nat) : (s.stdGroup g).still = s.still := by
  unfold State.stdGroup
  exact (still_foldl (fun t p => still_stdEngine t _ _ _ _) _ _).trans rfl

theorem still_customGroup (g : Nat) : (s.customGroup g).still = s.still := by
  unfold State.customGroup
  split
  · rfl
  · exact (still_foldl (by intro _ _; rfl) _ _).trans rfl

theorem still_applyChive : s.applyChive.still = s.still := by
  unfold State.applyChive
  refine (still_foldl (fun t g => (still_customGroup _ g).trans (still_stdGroup t g)) _ _).trans ?_
  exact still_foldl (by intro _ _; rfl) _ s

/-! ### The instances -/

theorem still_bankStore (e a : Nat) (b : List Byte) : (s.bankStore e a b).still = s.still := by
  unfold State.bankStore
  refine Eq.trans rfl (still_foldl (fun t l => ?_) _ s)
  unfold State.undoLine
  dsimp only
  split <;> rfl

theorem still_instPush (e : Nat) (i : Instant) : (s.instPush e i).still = s.still := by
  unfold State.instPush
  dsimp only
  split <;> rfl

theorem still_applyInput (j : JEntry) : (s.applyInput j).still = s.still := by
  have h : (j.writes.foldl (fun s w => s.bankStore j.eng w.1 w.2) s).still = s.still :=
    still_foldl (fun t w => still_bankStore t _ _ _) _ s
  unfold State.applyInput
  dsimp only
  generalize j.writes.foldl (fun s w => s.bankStore j.eng w.1 w.2) s = u at h
  split <;> first | exact h | exact (still_instPush u _ _).trans h

theorem still_epochStart (k : Nat) : (s.epochStart k).still = s.still := by
  unfold State.epochStart
  refine still_foldl (fun t e => ?_) _ s
  dsimp only
  refine (still_applyInput _ _).trans ?_
  split <;> rfl

theorem still_loadPlaced (p : Placed) : (s.loadPlaced p).still = s.still := by
  unfold State.loadPlaced
  split <;> rfl

theorem still_setEng (e : Nat) (x : Eng) : (s.setEng e x).still = s.still := rfl

theorem still_setCl (k : Nat) (x : Cluster) : (s.setCl k x).still = s.still := rfl

theorem still_release (e : Nat) (pc : Word) : (s.release e pc).still = s.still := rfl

theorem still_bankPut (e a : Nat) (b : List Byte) : (s.bankPut e a b).still = s.still := rfl

theorem still_clearBank (e : Nat) : (s.clearBank e).still = s.still := rfl

theorem still_buildBank (e : Nat) (b : List Byte) : (s.buildBank e b).still = s.still := by
  unfold State.buildBank
  dsimp only
  rw [still_bankPut, still_foldl (fun t p => still_bankPut t _ _ _), still_bankPut, still_clearBank]

theorem still_statusPoint (e v : Nat) : (s.statusPoint e v).still = s.still := by
  unfold State.statusPoint
  dsimp only
  split <;> rfl

theorem still_startInstance (r : Rec) : (s.startInstance r).still = s.still := by
  unfold State.startInstance
  dsimp only
  split
  · rw [still_buildBank, still_setEng]
  · rw [still_statusPoint, still_setCl, still_release, still_buildBank, still_setEng]

theorem still_applyPers : s.applyPers.still = s.still := by
  unfold State.applyPers
  dsimp only
  refine (still_foldl still_epochStart _ _).trans ((still_foldl still_startInstance _ _).trans
    ((still_foldl still_loadPlaced _ _).trans ?_))
  exact still_foldl (by intro _ _; rfl) _ s

theorem still_checkDump : s.checkDump.still = s.still := by
  unfold State.checkDump
  split
  · rfl
  · split <;> rfl

theorem still_applyAll (f : BootFind) (on : Bool) : (s.applyAll f on).still = s.still := by
  unfold State.applyAll
  dsimp only
  rw [still_checkDump, still_applyPers, still_applyChive, still_applyHost, still_applyPnt, still_applyFab, still_applyTt]
  refine Eq.trans rfl ((still_foldl still_applySwRec _ _).trans ?_)
  rw [still_applyPorts, still_applyAge]

end

end Sys2Proof.Machine
end

section
namespace Sys2Proof.Machine

set_option Elab.async false

theorem still_trainLink (s : State) (l : Option PcieLink) : (s.trainLink l).still = s.still := by
  unfold State.trainLink
  split <;> rfl

theorem still_limitLink (s : State) : s.limitLink.still = s.still := by
  unfold State.limitLink
  dsimp only
  split <;> rfl

/-- What the choice of a configuration leaves alone of the fuses, Sage and the always-on island. -/
def State.held (s : State) : Otp × Sage × List Instr × Stage × Cause × Word × LifeCycle × Bool × Nat :=
  (s.otp, s.sage, s.pending, s.sys.stage, s.sys.cause, s.sys.rstCount, s.sys.lc, s.sys.faultPin, s.sys.mono)

theorem held_eraseRegion (s : State) (t i : Nat) : (s.eraseRegion t i).held = s.held := by
  unfold State.eraseRegion
  split <;> rfl

theorem held_takeImage (s : State) (i : Nat) : (s.takeImage i).held = s.held := by
  unfold State.takeImage
  split <;> rfl

theorem held_takeConfig (s : State) (f : BootFind) : (s.takeConfig f).held = s.held := by
  unfold State.takeConfig
  split
  · unfold State.takeRetired
    exact Eq.trans rfl ((held_eraseRegion _ _ _).trans ((held_eraseRegion _ _ _).trans (held_eraseRegion _ _ _)))
  · split
    · rfl
    · unfold State.takeSlots
      dsimp only
      split
      · rfl
      · split
        · exact (held_takeImage _ _).trans rfl
        · rfl

/-- What start-up leaves: READY, the boot time, and the records of the always-on island as they were. -/
theorem boot_leaves (s : State) (f : BootFind) :
    let t := s.boot f
    t.sys.stage = .running ∧ t.sys.ready = true ∧ t.sys.up = true ∧ t.sys.faultPin = false ∧ t.sys.bootTime = f.micros ∧
    t.sys.cause = s.sys.cause ∧ t.sys.rstCount = s.sys.rstCount ∧ t.sys.lc = s.sys.lc ∧ t.otp = s.otp ∧
    t.sage.pufFail = !f.puf ∧ t.pending = s.pending := by
  have hpend := (kept_boot (State.Kept.refl s) f).1
  unfold State.boot at hpend ⊢
  dsimp only at hpend ⊢
  generalize ha : State.draw (State.draw _) = a at hpend ⊢
  have hc := held_takeConfig a f
  generalize a.takeConfig f = c at hc hpend ⊢
  generalize hb : State.mk .. = b at hpend ⊢
  have h : ((b.applyAll f (!c.sys.cfgDefault && c.sys.lc != .retired)).trainLink f.link).limitLink.still = b.still := by
    rw [still_limitLink, still_trainLink, still_applyAll]
  generalize ((b.applyAll f (!c.sys.cfgDefault && c.sys.lc != .retired)).trainLink f.link).limitLink = t at h hpend ⊢
  subst hb ha
  simp only [State.still, State.held, Prod.mk.injEq] at h hc
  obtain ⟨hotp, hsage, hsys⟩ := h
  obtain ⟨cotp, csage, -, -, ccause, crst, clc, cfault, -⟩ := hc
  have field : ∀ {α : Type} (g : Sys → α), g { t.sys with draws := 0, mdio := [] } = g _ := fun g => congrArg g hsys
  refine ⟨field Sys.stage, field Sys.ready, field Sys.up, (field Sys.faultPin).trans cfault, field Sys.bootTime,
    (field Sys.cause).trans ccause, (field Sys.rstCount).trans crst, (field Sys.lc).trans clc, hotp.trans cotp, ?_, hpend⟩
  rw [hsage, csage]
  rfl

/-- Settles O28: start-up leaves the always-on island's records and the fuses (`boot_leaves`); bringing ALARM_N up to
date afterwards touches none of them. -/
theorem wipeLeadsToReady : Obligations.WipeLeadsToReady := by
  unfold Obligations.WipeLeadsToReady
  intro s f hst
  have hon : (s.sys.stage == .wiping || s.sys.stage == .wipeFailed) = true := by simpa using hst
  refine ⟨⟨(s.boot f).settle, by rw [exec_wipeComplete, execWipeComplete, if_pos hon]; rfl, ?_⟩, ?_⟩
  · have h := boot_leaves s f
    generalize s.boot f = t at h
    exact h
  · rw [exec_wipeTimeout, execWipeTimeout, if_pos hon]

/-- Settles O29: ALARM_N's hold is one comparison; the PCIe function's reset and its release touch the host interface
only; a second write in progress refuses 0xC01. -/
theorem pinsAndRequestedReset : Obligations.PinsAndRequestedReset := by
  unfold Obligations.PinsAndRequestedReset
  intro s
  refine ⟨fun a hc ha => ⟨fun hle => ?_, fun hlt => ?_⟩, fun hc => ?_, fun hp => ?_, fun l hup => ?_, rfl, fun q u h =>
    ⟨fun himg happ hcold => becomes_served (exec_resetRequest q s) h ?_,
      fun himg => becomes_refused (exec_resetRequest q s) h ?_⟩⟩
  · rw [exec_alarmHoldEnd, execAlarmHoldEnd, if_pos (by rw [hc, ha, Option.any_some, decide_eq_true hle]; rfl)]
  · rw [exec_alarmHoldEnd, execAlarmHoldEnd,
      if_neg (by rw [hc, ha, Option.any_some, decide_eq_false (Nat.not_le.2 hlt)]; nofun)]
  · rw [exec_alarmHoldEnd, execAlarmHoldEnd, if_neg (by simp [hc])]
  · have h := exec_pePerstNAssert s
    rw [execPePerstNAssert, if_neg (by simp [hp])] at h
    refine ⟨_, h, rfl, rfl, rfl, rfl, rfl, rfl, rfl, rfl, rfl, ?_⟩
    intro b hb
    cases b <;> first | rfl | exact absurd hb (by decide)
  · have h := exec_pePerstNRelease (some l) s
    rw [execPePerstNRelease] at h
    dsimp only at h
    rw [if_pos hup] at h
    refine ⟨_, h, rfl, rfl, rfl, rfl, ?_⟩
    intro b hb
    cases b <;> first | rfl | exact absurd hb (by decide)
  · dsimp only
    rw [himg, happ, hcold]
    rfl
  · dsimp only
    rw [Option.isSome_iff_ne_none.2 himg]
    rfl

end Sys2Proof.Machine
end

section
/-! SUPPORT. Sage's requests: the common checks, authorisations, keys, the life-cycle and debug (R82 to R109). -/

namespace Sys2Proof.Machine

set_option Elab.async false

/-! ### The common checks -/

/-- A command that serves a request turns it away as the common checks say. -/
theorem refuses_of_serve {mk : Req → Instr} {code words : Nat} {f : Req → State → State ⊕ Nat}
    (hx : ∀ q s, exec (mk q) s = if s.running then (s.serve q code words (f q)).done else .next s) :
    Refuses mk code words := by
  intro q s hrun
  refine ⟨fun hdue => ?_, fun st hdue hst => ?_⟩
  · rw [Idles, Becomes, hx, if_pos hrun, State.serve, hdue]
    rfl
  · rw [Becomes, hx, if_pos hrun, State.serve, hdue]
    dsimp only
    rw [hst]
    rfl

theorem reqCheck_cases (q : Req) (s : State) (code words : Nat) :
    (tst (s.classes q.src.val) (code / 256) = false → s.reqCheck q code words = some 0x10) ∧
    (tst (s.classes q.src.val) (code / 256) = true → 4 ≤ s.inFlight q.src.val → s.reqCheck q code words = some 0x14) ∧
    (tst (s.classes q.src.val) (code / 256) = true → s.inFlight q.src.val < 4 →
      (q.low ≠ 0 ∨ q.body.length ≠ words) → s.reqCheck q code words = some 0x12) ∧
    (tst (s.classes q.src.val) (code / 256) = true → s.inFlight q.src.val < 4 → q.low = 0 →
      q.body.length = words → s.reqCheck q code words = none) := by
  unfold State.reqCheck
  refine ⟨fun hc => ?_, fun hc hn => ?_, fun hc hn hb => ?_, fun hc hn hl hw => ?_⟩
  · rw [hc]
    rfl
  · rw [hc, if_neg (by decide), if_pos hn]
  · rw [hc, if_neg (by decide), if_neg (Nat.not_le.2 hn), if_pos (by simpa using hb)]
  · rw [hc, if_neg (by decide), if_neg (Nat.not_le.2 hn), if_neg (by simp [hl, hw])]

/-- Settles O35: the checks are one chain of conditions, and every request command serves its request through them. -/
theorem commonChecksRefuseRequests : Obligations.CommonChecksRefuseRequests := by
  unfold Obligations.CommonChecksRefuseRequests
  exact ⟨reqCheck_cases, refuses_of_serve exec_challenge, refuses_of_serve exec_attestation,
    refuses_of_serve exec_tableEditCore, refuses_of_serve exec_tableEditPort, refuses_of_serve exec_tableEditFdb,
    refuses_of_serve exec_linkCostSet, refuses_of_serve exec_deviceExclude, refuses_of_serve exec_routeRecompute,
    fun t => refuses_of_serve fun q s => exec_keySign q t s,
    fun t o => refuses_of_serve fun q s => exec_keyExchange q t o s,
    fun t => refuses_of_serve fun q s => exec_keyExport q t s,
    refuses_of_serve exec_timeStepRequest, refuses_of_serve exec_timeSetRequest, refuses_of_serve exec_utcOffsetSet,
    refuses_of_serve exec_scheduleLoad, refuses_of_serve exec_scheduleSwapRequest,
    refuses_of_serve exec_chiveProgramWrite, refuses_of_serve exec_personalityRestart,
    refuses_of_serve exec_storeAppendOpen, refuses_of_serve exec_storeAppendWrite, refuses_of_serve exec_quotaChange,
    refuses_of_serve exec_imageWriteOpen, refuses_of_serve exec_imageWriteClose,
    refuses_of_serve exec_lifecycleProvision, fun v => refuses_of_serve fun q s => exec_lifecycleOperational q v s,
    refuses_of_serve exec_lifecycleServiceExit, fun v => refuses_of_serve fun q s => exec_ownerRotate q v s,
    fun v => refuses_of_serve fun q s => exec_debugUnlock q v s, refuses_of_serve exec_debugLock,
    refuses_of_serve exec_resetRequest, fun op => refuses_of_serve fun q s => exec_ownerCertificateWrite q op s⟩

/-! ### Keys -/

@[simp] theorem length_freeBytes (n len : Nat) : (Free.bytes n len).length = len := by
  simp [Free.bytes]

/-- Settles O36: each branch of the three key operations is read off its chain of conditions; the bytes that the
operation puts in the bulk area are the free bytes of its draw. -/
theorem challengeReportAndKeyUse : Obligations.ChallengeReportAndKeyUse := by
  unfold Obligations.ChallengeReportAndKeyUse
  refine ⟨fun q s u h => ⟨Free.nonce u.sys.draws, becomes_served (exec_challenge q s) h rfl⟩, fun q s u h hb hlen => ?_,
    fun q s u out code len hout h => ?_⟩
  · have hbad : ¬ ((!bulkOk q.src.val (q.word 5) (q.word 6) || decide (q.word 6 < 288)) = true) := by
      rw [hb, decide_eq_false (Nat.not_lt.2 hlen)]
      nofun
    refine ⟨fun hp => ⟨Free.bytes u.sys.draws 64, length_freeBytes _ _, becomes_served (exec_attestation q s) h ?_⟩,
      fun hp => becomes_refused (exec_attestation q s) h ?_⟩
    · dsimp only
      rw [if_neg hbad, if_neg (by simp [hp])]
    · dsimp only
      rw [if_neg hbad, if_pos hp]
  · rcases hout with ⟨rfl, rfl, ⟨hb, hlen⟩, hroom, huse, rfl⟩ | ⟨rfl, rfl, ⟨hb, hlen⟩, hroom, huse, hk, rfl⟩ |
      ⟨rfl, rfl, hb, hexp, hlo, hhi, ⟨r, hr, rfl⟩, hlen⟩
    · have hbad : ¬ ((!bulkOk q.src.val (q.word 2) (q.word 3) || decide (q.word 3 ≠ 32) ||
          decide (bulkSize q.src.val < q.word 2 + 64)) = true) := by
        rw [hb, decide_eq_false (not_not_intro hlen), decide_eq_false (Nat.not_lt.2 hroom)]
        nofun
      refine ⟨fun hg => becomes_refused (exec_keySign q true s) h ?_, fun hg hp hkey => ⟨Free.bytes u.sys.draws 64,
        length_freeBytes _ _, becomes_served (exec_keySign q true s) h ?_⟩, fun hg hp =>
        becomes_refused (exec_keySign q true s) h ?_⟩
      · dsimp only
        rw [if_neg hbad, if_pos (by simp [hg])]
      · dsimp only
        rw [if_neg hbad, if_neg (by simp [hg, huse]), if_neg (by simp [hp, hkey])]
      · dsimp only
        rw [if_neg hbad, if_neg (by simp [hg, huse]), if_pos (by simpa using hp)]
    · have hbad : ¬ ((!bulkOk q.src.val (q.word 2) (q.word 3) || decide (q.word 3 ≠ 64) ||
          decide (bulkSize q.src.val < q.word 2 + 96)) = true) := by
        rw [hb, decide_eq_false (not_not_intro hlen), decide_eq_false (Nat.not_lt.2 hroom)]
        nofun
      refine ⟨fun hg => becomes_refused (exec_keyExchange q true true s) h ?_, fun hg hp hkey => ⟨Free.bytes u.sys.draws 96,
        length_freeBytes _ _, becomes_served (exec_keyExchange q true true s) h ?_⟩, fun hg hp =>
        becomes_refused (exec_keyExchange q true true s) h ?_⟩
      · dsimp only
        rw [if_neg hbad, if_pos (by simp [hg, hk])]
      · dsimp only
        rw [if_neg hbad, if_neg (by simp [hg, huse]), if_neg (by simp [hp, hkey])]
        rfl
      · dsimp only
        rw [if_neg hbad, if_neg (by simp [hg, huse]), if_pos (by simpa [hk] using hp)]
    · have hno : ¬ (u.fld 0x0E03 (q.word 1) 0 1 0xFF < 2) := by omega
      have hno' : ¬ (4 < u.fld 0x0E03 (q.word 1) 0 1 0xFF) := by omega
      refine ⟨fun hg => becomes_refused (exec_keyExport q true s) h ?_, fun hg hp hkey =>
        ⟨Free.bytes u.sys.draws (u.nvmLE (r.off + 256 * q.word 1 + 4) 2),
        length_freeBytes _ _, becomes_served (exec_keyExport q true s) h ?_⟩, fun hg hp =>
        becomes_refused (exec_keyExport q true s) h ?_⟩
      · dsimp only
        rw [hb, if_neg (by decide), if_pos (by simp [hg])]
      · dsimp only
        rw [hb, if_neg (by decide), if_neg (by simp [hg, hexp, hno, hno']), if_neg (by simp [hp, hkey]), hr,
          if_neg (Nat.not_lt.2 hlen)]
      · dsimp only
        rw [hb, if_neg (by decide), if_neg (by simp [hg, hexp, hno, hno']), if_pos (by simpa using hp)]

/-! ### Authorisations -/

/-- The check of an authorisation block finds nothing wrong in one that stands. -/
theorem authCheck_of_authorised {u : State} {q : Req} {code : Nat} {usage : Option Nat} {pay : List Byte} {v : Verdict}
    (h : u.authorised q code usage pay v) : u.authCheck q.src.val code usage (u.authBlk q) pay v = none := by
  obtain ⟨hnonce, hserial, hcode, hrsv, hdig, hsig, huse⟩ := h
  have hn : u.nonceValid q.src.val (rdLE (u.authBlk q) 0x10 16) = true := by
    unfold State.nonceValid
    cases hf : u.sage.nonces.find? q.src.val with
    | none => rw [hf] at hnonce; exact absurd hnonce nofun
    | some n => rw [hf] at hnonce; exact hnonce
  have hd : rdBE (u.authBlk q) 0x40 32 = payloadDigest pay := by
    rw [hdig, payloadDigest]
    cases pay <;> rfl
  unfold State.authCheck
  rw [hn, if_neg (by decide), if_neg (not_not_intro hserial), if_neg (not_not_intro hcode), if_neg (not_not_intro hrsv),
    if_neg (by rw [hsig, decide_eq_false (not_not_intro hd)]; decide)]
  cases usage with
  | some k =>
    obtain ⟨hcert, hown⟩ := huse
    simp [hcert, hown]
  | none =>
    obtain ⟨r, hroot, hkey⟩ := huse
    simp [State.rootKey, hroot, hkey]

/-- The checks of a life-cycle request find nothing wrong. -/
theorem lcCheck_of_ok {u : State} {q : Req} {code len : Nat} {ok : Bool} {lc : LifeCycle} {usage : Option Nat} {v : Verdict}
    (hok : ok = true) (h : LcOk lc usage code len v q u) : u.lcCheck q code len ok usage v = none := by
  obtain ⟨⟨hb, hlen⟩, -, hex, hauth⟩ := h
  unfold State.lcCheck
  rw [hb, hok, hex, if_neg (by simp [hlen]), if_neg (by decide), if_neg (by decide), authCheck_of_authorised hauth]

/-- A life-cycle request in another state. -/
theorem lcCheck_of_state {u : State} {q : Req} {code len : Nat} {ok : Bool} {usage : Option Nat} {v : Verdict}
    (hok : ok = false) (h : bulkIs q 1 len) : u.lcCheck q code len ok usage v = some 0x15 := by
  obtain ⟨hb, hlen⟩ := h
  unfold State.lcCheck
  rw [hb, hok, if_neg (by simp [hlen]), if_pos (by decide)]

@[simp] theorem useNonce_otp (s : State) (src : Nat) : (s.useNonce src).otp = s.otp := by
  unfold State.useNonce
  split <;> rfl

theorem bulkIs_bad {q : Req} {i len : Nat} (h : bulkIs q i len) :
    (!bulkOk q.src.val (q.word i) (q.word (i + 1)) || decide (q.word (i + 1) ≠ len)) = false := by
  obtain ⟨hb, hlen⟩ := h
  rw [hb, decide_eq_false (not_not_intro hlen)]
  rfl

@[simp] theorem fetchReq_sys (s : State) (c : Req) (code : Nat) : (s.fetchReq c code).sys = s.sys := by
  unfold State.fetchReq
  dsimp only
  split
  · exact congrArg (fun p => p.1.sys) (postless_mbTakeN s (reqMb c.src.val) true (reqWords c code).length)
  · rfl

theorem asked_lc {s u : State} {q : Req} {code words : Nat} (h : s.asked q code words u) : u.sys.lc = s.sys.lc := by
  obtain ⟨-, -, rfl, -⟩ := h
  rw [fetchReq_sys]

/-- LIFECYCLE_RETIRE with the body length of the present state. -/
theorem exec_lifecycleRetire_words (q : Req) (v : Verdict) (s : State) {words : Nat}
    (hw : (if s.sys.lc = .blank then 0 else 2) = words) :
    exec (.lifecycleRetire q v) s = if s.running then
      (s.serve q 0xA05 words (fun s =>
        if s.sys.lc = .retired then .inr 0x15
        else if s.sys.lc = .blank then
          if s.exclusive then .inr 0x14 else .inl (s.retireDev.transition q 0xA05 .retired)
        else
          match s.lcCheck q 0xA05 160 true none v with
          | some st => .inr st
          | none => .inl ((s.useNonce q.src.val).retireDev.transition q 0xA05 .retired))).done else .next s := by
  rw [← hw]
  rfl

/-- Settles O37: every request is one chain of checks (`lcCheck`) before its fuses burn. -/
theorem lifeCycleTransitions : Obligations.LifeCycleTransitions := by
  unfold Obligations.LifeCycleTransitions
  refine ⟨fun q s u h ⟨hb, hlc, hex⟩ => becomes_served (exec_lifecycleProvision q s) h ?_,
    fun q s u h ⟨hb, hlc⟩ => becomes_refused (exec_lifecycleProvision q s) h ?_,
    fun v q s u h ⟨hok, hsig, hdef, hcert⟩ => becomes_served (exec_lifecycleOperational q v s) h ?_,
    fun v q s u h ⟨hb, hst⟩ => becomes_refused (exec_lifecycleOperational q v s) h ?_,
    fun v q s u h ⟨hok, hent⟩ => becomes_served (exec_lifecycleServiceEntry q v s) h ?_,
    fun v q s u h ⟨hb, hst⟩ => becomes_refused (exec_lifecycleServiceEntry q v s) h ?_,
    fun q s u h ⟨hlc, hex⟩ => becomes_served (exec_lifecycleServiceExit q s) h ?_,
    fun q s u h hlc => becomes_refused (exec_lifecycleServiceExit q s) h ?_,
    fun v q s u h ⟨hlc, hex⟩ => ?_, fun v q s u h ⟨hnb, hnr, hok⟩ => ?_,
    fun v q s u h ⟨hok, hnb, hnr, hroom⟩ => becomes_served (exec_ownerRotate q v s) h ?_,
    fun v q s u h ⟨hok, hnb, hnr, hfull⟩ => becomes_refused (exec_ownerRotate q v s) h ?_⟩
  · dsimp only
    rw [bulkIs_bad hb, if_neg (by decide), if_neg (not_not_intro hlc), hex]
    rfl
  · dsimp only
    rw [bulkIs_bad hb, if_neg (by decide), if_pos hlc]
  · have hlc := hok.2.1
    dsimp only
    rw [lcCheck_of_ok (by rw [hlc, hsig, hdef, hcert]; rfl) hok]
    rfl
  · dsimp only
    rw [lcCheck_of_state _ hb]
    rcases hst with hl | hl | hl | hl <;> simp [hl]
  · have hlc := hok.2.1
    dsimp only
    rw [lcCheck_of_ok (by rw [hlc, decide_eq_true hent]; rfl) hok]
    rfl
  · dsimp only
    rw [lcCheck_of_state _ hb]
    rcases hst with hl | hl
    · simp [hl]
    · simp [Nat.not_lt.2 hl]
  · dsimp only
    rw [if_neg (not_not_intro hlc), hex]
    rfl
  · dsimp only
    rw [if_pos hlc]
  · refine becomes_served (exec_lifecycleRetire_words q v s (by rw [← asked_lc h, hlc]; rfl)) h ?_
    dsimp only
    rw [if_neg (by simp [hlc]), if_pos hlc, hex]
    rfl
  · refine becomes_served (exec_lifecycleRetire_words q v s (by rw [← asked_lc h, if_neg hnb])) h ?_
    dsimp only
    rw [if_neg hnr, if_neg hnb, lcCheck_of_ok rfl hok]
    simp only [State.retireDev, useNonce_otp]
    rfl
  · have hst : (u.sys.lc == .provisioned || u.sys.lc == .operational || u.sys.lc == .service) = true := by
      revert hnb hnr
      cases u.sys.lc <;> simp
    dsimp only
    rw [lcCheck_of_ok hst hok, if_neg (Nat.not_le.2 hroom)]
    simp only [useNonce_otp]
  · have hst : (u.sys.lc == .provisioned || u.sys.lc == .operational || u.sys.lc == .service) = true := by
      revert hnb hnr
      cases u.sys.lc <;> simp
    dsimp only
    rw [lcCheck_of_ok hst hok, if_pos hfull]

/-! ### Debug, keys and certificates -/

theorem closeScope_open {s : State} (h : s.sage.scope ≠ 0) : s.closeScope = { s with
    sage := { s.sage with scope := 0 }, host := { s.host with devEvent := s.host.devEvent ||| 32 } } := by
  rw [State.closeScope, if_neg h]

/-- The blob of an imported key: 256 bytes, its magic and the length of the key. -/
theorem keyBlob_fields (w n : Nat) (hn : n ≤ 192) (d : Nat) :
    let b := leBytes 2 0x4B59 ++ leBytes 1 (bits w 15 8) ++ leBytes 1 (bits w 23 16) ++ leBytes 2 n ++ leBytes 2 0 ++
      Free.bytes d 12 ++ leBytes 4 0 ++ (List.range 208).map (fun i => Free.byte d (12 + i)) ++ leBytes 24 0
    b.length = 256 ∧ rdLE b 0 2 = 0x4B59 ∧ rdLE b 4 2 = n := by
  refine ⟨by simp, ?_, ?_⟩
  · have h : ∀ l : List Byte, rdLE (leBytes 2 0x4B59 ++ l) 0 2 = leNat (leBytes 2 0x4B59) := fun l => rfl
    simp only [List.append_assoc]
    rw [h, leNat_leBytes, Nat.mod_eq_of_lt (by omega)]
  · have h : ∀ l : List Byte, rdLE (leBytes 2 0x4B59 ++ (leBytes 1 (bits w 15 8) ++ (leBytes 1 (bits w 23 16) ++
        (leBytes 2 n ++ l)))) 4 2 = leNat (leBytes 2 n) := fun l => rfl
    simp only [List.append_assoc]
    rw [h, leNat_leBytes, Nat.mod_eq_of_lt (by omega)]

/-- Settles O38: a scope opens and closes in two fields, and the TAP's gate is `jtagOpen`. -/
theorem debugAndKeyWrites : Obligations.DebugAndKeyWrites := by
  unfold Obligations.DebugAndKeyWrites
  refine ⟨fun v q s u h ⟨hb, hlc, hauth, hlo, hhi, hmlo, hmhi, hz⟩ => becomes_served (exec_debugUnlock q v s) h ?_,
    fun v q s u h ⟨hb, hlc⟩ => becomes_refused (exec_debugUnlock q v s) h ?_,
    fun q s u h hsc => becomes_served (exec_debugLock q s) h ?_,
    fun q s u h hsc => becomes_served (exec_debugLock q s) h ?_,
    fun s hlt => ?_, fun s hrun hsc hle => ?_, fun n s => ⟨_, rfl, rfl⟩, fun n s hst => ⟨_, ?_, rfl⟩,
    fun n s hnb hst => ⟨_, ?_, rfl⟩, fun q op n s u r h hb hlc hex hpuf hr => ⟨fun hn => ?_, fun hn => ?_⟩,
    fun q op s u r h hb hlc hex hr hlen => ?_⟩
  · dsimp only
    have hargs : (decide (bits (rdLE (u.authBlk q) 0x0C 4) 7 0 < 1) || decide (2 < bits (rdLE (u.authBlk q) 0x0C 4) 7 0) ||
        decide (bits (rdLE (u.authBlk q) 0x0C 4) 31 16 < 1) || decide (480 < bits (rdLE (u.authBlk q) 0x0C 4) 31 16) ||
        decide (bits (rdLE (u.authBlk q) 0x0C 4) 15 8 ≠ 0)) = false := by
      rw [decide_eq_false (Nat.not_lt.2 hlo), decide_eq_false (Nat.not_lt.2 hhi), decide_eq_false (Nat.not_lt.2 hmlo),
        decide_eq_false (Nat.not_lt.2 hmhi), decide_eq_false (not_not_intro hz)]
      rfl
    rw [bulkIs_bad hb, if_neg (by decide), if_neg (not_not_intro hlc), authCheck_of_authorised hauth, hargs]
    have hmono : (u.useNonce q.src.val).sys = u.sys := by
      unfold State.useNonce
      split <;> rfl
    rw [hmono]
    rfl
  · dsimp only
    rw [bulkIs_bad hb, if_neg (by decide), if_pos hlc]
  · dsimp only
    rw [closeScope_open hsc]
  · dsimp only
    rw [State.closeScope, if_pos hsc]
  · rw [exec_debugScopeExpiry, execDebugScopeExpiry, if_neg (by rw [decide_eq_false (Nat.not_le.2 hlt), Bool.and_false]; decide)]
  · rw [Becomes, exec_debugScopeExpiry, execDebugScopeExpiry, if_pos (by rw [hrun, decide_eq_true hle]; rfl),
      closeScope_open hsc]
    rfl
  · have hopen : s.jtagOpen = true := by
      unfold State.jtagOpen
      rcases hst with hl | ⟨hl, hsc⟩
      · simp [hl]
      · simpa [hl] using hsc
    rw [exec_jtagTapInstruction, execJtagTapInstruction, hopen]
    rfl
  · have hopen : s.jtagOpen = false := by
      unfold State.jtagOpen
      simpa [hnb] using hst
    rw [exec_jtagTapInstruction, execJtagTapInstruction, hopen]
    rfl
  · refine becomes_refused (exec_keyImport q op (some n) s) h ?_
    dsimp only
    rw [hb, if_neg (by decide), if_neg hlc, hex, if_neg (by decide), hpuf, if_neg (by decide), hr]
    dsimp only
    rw [if_pos hn]
  · obtain ⟨hlen, hmagic, hkey⟩ := keyBlob_fields (q.word 1) n.toNat hn u.sys.draws
    refine ⟨_, hlen, hmagic, hkey, becomes_served (exec_keyImport q op (some n) s) h ?_⟩
    dsimp only
    rw [hb, if_neg (by decide), if_neg hlc, hex, if_neg (by decide), hpuf, if_neg (by decide), hr]
    dsimp only
    rw [if_neg (Nat.not_lt.2 hn)]
  · refine becomes_served (exec_ownerCertificateWrite q op s) h ?_
    rw [hb, if_neg (by decide), if_neg hlc, hex, if_neg (by decide), hr]
    exact if_neg (Nat.not_lt.2 hlen)

/-! ### Sage's own watch -/

/-- Settles O39: the voter counts a core's disagreements of the last second, the present one among them. -/
theorem sageWatchesItself : Obligations.SageWatchesItself := by
  unfold Obligations.SageWatchesItself
  refine ⟨fun core s hrun hact => ?_, fun s hrun => ⟨?_, fun hlt => ?_, fun htwo => ?_⟩, fun s w rest hrun hq hlen => ?_,
    fun q code s hrun hun hdue => ⟨fun hlt => ?_, fun hle => ?_⟩, fun s src ws rest hrun hw hroom => ?_,
    fun s ws rest hrun hn hroom => ?_⟩
  · have hcount : ∀ old : List (Nat × Nat), ((old ++ [(core.val, s.sys.mono)]).filter (fun p => p.1 == core.val)).length =
        (old.filter (fun p => p.1 == core.val)).length + 1 := by
      intro old
      simp
    refine ⟨fun hdup => ?_, fun hdup hfew => ?_, fun hdup hmany => ?_⟩
    · rw [Becomes, exec_voterDisagreement, execVoterDisagreement, if_pos hrun, State.voterDisagree, hact,
        if_neg (by decide), if_pos hdup]
      rfl
    · rw [Becomes, exec_voterDisagreement, execVoterDisagreement, if_pos hrun, State.voterDisagree, hact,
        if_neg (by decide), if_neg (by simp [hdup])]
      dsimp only
      rw [hcount, if_neg (by omega)]
      rfl
    · rw [Becomes, exec_voterDisagreement, execVoterDisagreement, if_pos hrun, State.voterDisagree, hact,
        if_neg (by decide), if_neg (by simp [hdup])]
      dsimp only
      rw [hcount, if_pos (by omega)]
      rfl
  · rw [Becomes, exec_trngHealthFail, execTrngHealthFail, if_pos hrun]
    rfl
  · rw [Becomes, exec_trngHealthFail, execTrngHealthFail, if_pos hrun, if_neg (by decide)]
    dsimp only
    rw [if_neg (by omega)]
    rfl
  · rw [Becomes, exec_trngHealthFail, execTrngHealthFail, if_pos hrun, if_neg (by decide)]
    dsimp only
    rw [if_pos (by omega), htwo]
    rfl
  · have htail : incompleteTail 9 (w :: rest) = w :: rest := by
      rw [incompleteTail]
      exact if_pos hlen
    rw [Becomes, exec_requestBodyTimeout, execRequestBodyTimeout, if_pos hrun, State.dropIncomplete]
    dsimp only
    rw [hq, htail, Nat.sub_self]
    rfl
  · rw [Becomes, exec_requestReservedClass, execRequestReservedClass, if_pos (by rw [hrun, hun]; rfl), State.serveUnknown,
      hdue, if_neg (by decide)]
    dsimp only
    rw [if_neg (Nat.not_le.2 hlt)]
    rfl
  · rw [Becomes, exec_requestReservedClass, execRequestReservedClass, if_pos (by rw [hrun, hun]; rfl), State.serveUnknown,
      hdue, if_neg (by decide)]
    dsimp only
    rw [if_pos hle]
    rfl
  · have hfirst : takeFirst (fun p : SageReply => p.mb == (56 : Fin 64).val) s.sage.waiting =
        some ({ mb := 56, src := src, ws := ws }, rest) := by
      rw [hw]
      rfl
    rw [Becomes, exec_sageResponseDeliver, execSageResponseDeliver, if_neg (by decide), hfirst]
    exact if_pos (by rw [hrun]; exact hroom)
  · rw [Becomes, exec_sageResponseDeliver, execSageResponseDeliver, if_pos (by decide), hn]
    exact if_pos (by rw [hrun, hroom]; rfl)

end Sys2Proof.Machine
end

section
/-! SUPPORT. Run-time edits of the switch tables (R202, R204, R207, R208). -/

namespace Sys2Proof.Machine

set_option Elab.async false

/-- What an edit served answers: its outcome, a full set of generations counted. -/
theorem editServe_inl {u t : State} {rs : List Rec} (q : Req) (code : Nat) (h : u.edit rs = .inl t) :
    u.editServe q code rs = t.finish q code := by
  rw [State.editServe, h]

theorem editServe_full {u : State} {rs : List Rec} (q : Req) (code : Nat) (h : u.edit rs = .inr 0x14) :
    u.editServe q code rs = State.refuse { u with sw := { u.sw with
      genBusy := satInc u.sw.genBusy, event := u.sw.event ||| 4 } } q code 0x14 := by
  rw [State.editServe, h]
  rfl

theorem editServe_inr {u : State} {rs : List Rec} {st : Nat} (q : Req) (code : Nat) (hst : st ≠ 0x14)
    (h : u.edit rs = .inr st) : u.editServe q code rs = u.refuse q code st := by
  rw [State.editServe, h]
  split
  · next heq => exact absurd heq nofun
  · next heq => exact absurd (Sum.inr.inj heq) hst
  · next heq => rw [Sum.inr.inj heq]

/-- The record that a request for one record brings. -/
def editRec (u : State) (q : Req) (typ : Nat) : Rec :=
  { typ := typ, ver := 1, flags := 0, inst := q.word 1, body := u.bulkRead q.src.val (q.word 2) (q.word 3) }

/-- The edit of one record, for each command of that kind. -/
theorem editClaim_of_editReq {mk : Req → Instr} {code typ : Nat}
    (hx : ∀ q s, exec (mk q) s = if s.running then (s.editReq q code typ).done else .next s) : EditClaim mk code typ := by
  intro q s u h
  refine ⟨fun hb => becomes_refused (hx q s) h ?_, fun hb hi => ?_⟩
  · rw [hb]
    rfl
  · have hgo : ∀ t, u.editServe q code [editRec u q typ] = t → Becomes (mk q) s t := by
      intro t ht
      refine becomes_served (hx q s) h ?_
      rw [hb, decide_eq_false (Nat.not_le.2 hi), ← ht]
      rfl
    exact ⟨fun t ht => hgo _ (editServe_inl q code ht), fun ht => hgo _ (editServe_full q code ht),
      fun st hst ht => hgo _ (editServe_inr q code hst ht)⟩

/-! ### What an edit leaves -/

/-- The state without the tables of the switch and its forwarding database. -/
def State.tableless (s : State) : State :=
  { s with sw := { s.sw with tables := [], fdb := [], port := [], meters := [] } }

theorem tableless_fdbApply {s t : State} {b : List Byte} (h : s.fdbApply b = some t) :
    t.tableless = s.tableless ∧ t.sw.tables = s.sw.tables := by
  unfold State.fdbApply at h
  dsimp only at h
  split at h
  · rw [← Option.some.inj h]
    exact ⟨rfl, rfl⟩
  · split at h
    · exact absurd h nofun
    · rw [← Option.some.inj h]
      exact ⟨rfl, rfl⟩

theorem tableless_fdbApplyAll (l : List (List Byte)) {s t : State} (h : s.fdbApplyAll l = some t) :
    t.tableless = s.tableless ∧ t.sw.tables = s.sw.tables := by
  induction l generalizing s with
  | nil => rw [← Option.some.inj h]; exact ⟨rfl, rfl⟩
  | cons b l ih =>
    unfold State.fdbApplyAll at h
    split at h
    · next u hu =>
      obtain ⟨h1, h2⟩ := ih h
      obtain ⟨g1, g2⟩ := tableless_fdbApply hu
      exact ⟨h1.trans g1, h2.trans g2⟩
    · exact absurd h nofun

/-- A record applied: a forwarding database, or the record in its place in the tables. -/
theorem swApply_tables {s t : State} {r : Rec} (h : s.swApply r = some t) :
    t.tableless = s.tableless ∧ t.sw.tables = if r.typ = 0x0306 then s.sw.tables else putRec s.sw.tables r := by
  unfold State.swApply at h
  split at h
  · next heq => rw [← Option.some.inj h, heq]; exact ⟨rfl, rfl⟩
  · next heq =>
    rw [heq]
    exact tableless_fdbApplyAll _ h
  · next heq => rw [← Option.some.inj h, heq]; exact ⟨rfl, rfl⟩
  · next heq _ => rw [← Option.some.inj h, if_neg heq]; exact ⟨rfl, rfl⟩

theorem mem_putRec_self (l : List Rec) (r : Rec) : r ∈ putRec l r := by
  simp [putRec]

theorem mem_putRec_of_mem {l : List Rec} {r x : Rec} (hx : x ∈ l) (hne : ¬ (r.typ = x.typ ∧ r.inst = x.inst)) :
    x ∈ putRec l r := by
  refine List.mem_append_left _ (List.mem_filter.2 ⟨hx, ?_⟩)
  have h : ¬ (x.typ = r.typ ∧ x.inst = r.inst) := fun ⟨ht, hi⟩ => hne ⟨ht.symm, hi.symm⟩
  rw [Bool.not_eq_true', Bool.eq_false_iff, ne_eq, Bool.and_eq_true, beq_iff_eq, beq_iff_eq]
  exact h

theorem swApplyAll_tables (rs : List Rec) {s t : State} (h : s.swApplyAll rs = some t) :
    t.tableless = s.tableless ∧
    ∀ x ∈ s.sw.tables, (∀ r ∈ rs, ¬ (r.typ = x.typ ∧ r.inst = x.inst)) → x ∈ t.sw.tables := by
  induction rs generalizing s with
  | nil => rw [← Option.some.inj h]; exact ⟨rfl, fun x hx _ => hx⟩
  | cons r rs ih =>
    unfold State.swApplyAll at h
    split at h
    · next u hu =>
      obtain ⟨hless, htab⟩ := swApply_tables hu
      obtain ⟨hless', hkeep⟩ := ih h
      refine ⟨hless'.trans hless, fun x hx hne => hkeep x ?_ (fun y hy => hne y (List.mem_cons_of_mem _ hy))⟩
      rw [htab]
      split
      · exact hx
      · exact mem_putRec_of_mem hx (hne r List.mem_cons_self)
    · exact absurd h nofun

/-- A successful edit: its checks passed, the records applied, the number advanced. -/
theorem edit_eq_inl {s t : State} {rs : List Rec} (h : s.edit rs = .inl t) :
    rs.all (swRecOk (rs.foldl putRec s.sw.tables) (s.recsOf 0x0305).isEmpty true) = true ∧ s.gensHeld.length < 64 ∧
    ∃ u l, s.swApplyAll rs = some u ∧ t = { u with sw := { u.sw with gen := nextGen s.gensHeld 64 s.sw.gen, editHeld := l } } := by
  unfold State.edit at h
  dsimp only at h
  split at h
  · exact absurd h nofun
  · next hall =>
    split at h
    · exact absurd h nofun
    · next hheld =>
      split at h
      · exact absurd h nofun
      · split at h
        · exact absurd h nofun
        · next u hu => exact ⟨by simpa using hall, by omega, u, _, hu, (Sum.inl.inj h).symm⟩

theorem nextGen_of_free {held : List (BitVec 16)} {g : BitVec 16} (h : g + 1 ∉ held) : nextGen held 64 g = g + 1 := by
  rw [nextGen, if_neg (by simpa using h)]

theorem badRec_false {rs : List Rec} (h : ∀ r ∈ rs, 0x0302 ≤ r.typ ∧ r.typ ≤ 0x0308 ∧ r.ver = 1) :
    (rs.any fun r => decide (r.typ < 0x0302) || decide (0x0308 < r.typ) || decide (r.ver ≠ 1)) = false := by
  refine List.any_eq_false.2 fun r hr => ?_
  obtain ⟨hlo, hhi, hver⟩ := h r hr
  rw [decide_eq_false (Nat.not_lt.2 hlo), decide_eq_false (Nat.not_lt.2 hhi), decide_eq_false (not_not_intro hver)]
  decide

/-- A request that passes the checks has the body length that they ask for. -/
theorem length_of_asked {s u : State} {q : Req} {code words : Nat} (h : s.asked q code words u) : q.body.length = words := by
  obtain ⟨-, -, -, hcheck⟩ := h
  refine Decidable.byContradiction fun hne => ?_
  unfold State.reqCheck at hcheck
  rw [if_pos (c := (decide (q.low ≠ 0) || decide (q.body.length ≠ words)) = true) (by simp [hne])] at hcheck
  split at hcheck
  · exact absurd hcheck nofun
  · split at hcheck <;> exact absurd hcheck nofun

/-- A batch with the body of two words that the checks have found. -/
theorem exec_tableEditBatch_two {q : Req} {s u : State} (h : s.asked q 0x1FF 2 u) :
    exec (.tableEditBatch q) s = if s.running then
      (s.serve q 0x1FF 2 (fun s =>
        let b := s.bulkRead q.src.val (q.word 1) (q.word 2)
        if !bulkOk q.src.val (q.word 1) (q.word 2) || 65536 < q.word 2 then .inr 0x12
        else match takeRecs 4096 b with
          | none => .inr 0x12
          | some (rs, crcs, clean) =>
            if !crcs || !clean || rs.isEmpty || rs.any (fun r => r.typ < 0x0302 || 0x0308 < r.typ || r.ver ≠ 1) then .inr 0x12
            else .inl (s.editServe q 0x1FF rs))).done
      else .next s := by
  have hn : ¬ q.body.length = 3 := by
    rw [length_of_asked h]
    decide
  rw [exec_tableEditBatch, execTableEditBatch]
  dsimp only
  rw [if_neg hn] <;> rfl

/-- Settles O40: an edit's checks come in one chain (`edit_eq_inl`), and applying a record changes the tables in its own
place only (`swApplyAll_tables`). -/
theorem tableEditsMakeGenerations : Obligations.TableEditsMakeGenerations := by
  unfold Obligations.TableEditsMakeGenerations
  refine ⟨editClaim_of_editReq exec_tableEditPort, editClaim_of_editReq exec_tableEditRed,
    editClaim_of_editReq exec_tableEditMeter, editClaim_of_editReq exec_tableEditVlan,
    editClaim_of_editReq exec_tableEditFdb, editClaim_of_editReq exec_tableEditMcast,
    editClaim_of_editReq exec_tableEditRule, fun s t rs h => ?_, fun s rs h => ?_, fun s rs h hfull => ?_,
    fun q s u h ⟨hb, hz, hok⟩ => becomes_served (exec_tableEditCore q s) h ?_, fun q s u rs h hb hlen hrs hne => ?_,
    fun q s u h ⟨hb, hok, hfit⟩ => becomes_served (exec_quotaChange q s) h ?_,
    fun q s u h ⟨hb, hok, hfit⟩ => becomes_refused (exec_quotaChange q s) h ?_⟩
  · obtain ⟨hall, hheld, u, l, hu, rfl⟩ := edit_eq_inl h
    obtain ⟨hless, hkeep⟩ := swApplyAll_tables rs hu
    have part : ∀ {α : Type} (f : State → α), f u.tableless = f s.tableless := fun f => congrArg f hless
    refine ⟨hall, hheld, part (fun x => x.sw.frames), fun hfree => nextGen_of_free hfree, hkeep, fun r hr hty => ?_, ?_⟩
    · subst hr
      unfold State.swApplyAll at hu
      split at hu
      · next v hv =>
        rw [← Option.some.inj hu, (swApply_tables hv).2, if_neg hty]
        exact mem_putRec_self _ _
      · exact absurd hu nofun
    · intro b hb
      cases b <;> first
        | exact absurd hb (by decide)
        | exact part State.sys
        | exact part State.otp
        | exact part State.sage
        | exact part State.mbx
        | exact part State.mem
        | exact part State.host
        | exact part State.cfg
        | exact part State.engs
        | exact part State.rmy
        | exact part State.time
        | exact part State.pnt
        | exact part State.tt
        | exact part State.ports
        | exact part State.pairs
        | exact part State.fab
        | exact part State.can
        | exact part State.chv
        | exact part State.age
        | exact part State.pending
  · unfold State.edit
    dsimp only
    rw [h]
    rfl
  · unfold State.edit
    dsimp only
    rw [h, if_neg (by decide), if_pos hfull]
  · dsimp only
    rw [hb, hok, decide_eq_false (not_not_intro hz)]
    rfl
  · refine ⟨fun hty => ⟨fun t ht => ?_, fun ht => ?_⟩, fun hbad => becomes_refused (exec_tableEditBatch_two h) h ?_⟩
    · have hgood : (rs.any fun r => decide (r.typ < 0x0302) || decide (0x0308 < r.typ) || decide (r.ver ≠ 1)) = false :=
        badRec_false hty
      refine becomes_served (exec_tableEditBatch_two h) h ?_
      dsimp only
      rw [hb, decide_eq_false (Nat.not_lt.2 hlen), hrs]
      dsimp only
      rw [hgood, List.isEmpty_eq_false_iff.2 hne, editServe_inl q _ ht]
      rfl
    · have hgood : (rs.any fun r => decide (r.typ < 0x0302) || decide (0x0308 < r.typ) || decide (r.ver ≠ 1)) = false :=
        badRec_false hty
      refine becomes_served (exec_tableEditBatch_two h) h ?_
      dsimp only
      rw [hb, decide_eq_false (Nat.not_lt.2 hlen), hrs]
      dsimp only
      rw [hgood, List.isEmpty_eq_false_iff.2 hne, editServe_inr q _ (by decide) ht]
      rfl
    · have hany : (rs.any fun r => decide (r.typ < 0x0302) || decide (0x0308 < r.typ) || decide (r.ver ≠ 1)) = true := by
        obtain ⟨r, hr, hbad⟩ := hbad
        exact List.any_eq_true.2 ⟨r, hr, by simpa [or_assoc] using hbad⟩
      dsimp only
      rw [hb, decide_eq_false (Nat.not_lt.2 hlen), hrs]
      dsimp only
      rw [hany, Bool.or_true]
      rfl
  · dsimp only
    rw [hb, hok, if_neg (by decide), if_pos hfit]
  · dsimp only
    rw [hb, hok, if_neg (by decide), if_neg (by omega)]

end Sys2Proof.Machine
end

section
/-! SUPPORT. Neighbours of the Jabex fabric and their admission (R240 to R243, R255). -/

namespace Sys2Proof.Machine

set_option Elab.async false

section
variable {s u : State} {q : Req} {code words : Nat} {c : Instr} {f : State → State ⊕ Nat}
  (hx : exec c s = if s.running then (s.fabServe q code words f).done else .next s) (h : s.asked q code words u)
include hx h

/-- A request of class 0x2 on a device without FAB.NODE. -/
theorem becomes_noNode (hn : u.fabNode = false) : Becomes c s (u.refuse q code 0x15) := by
  refine becomes_refused hx h ?_
  rw [hn]
  rfl

theorem becomes_fabServed (hn : u.fabNode = true) {t : State} (hf : f u = .inl t) : Becomes c s t := by
  refine becomes_served hx h ?_
  rw [hn]
  exact hf

theorem becomes_fabRefused (hn : u.fabNode = true) {st : Nat} (hf : f u = .inr st) : Becomes c s (u.refuse q code st) := by
  refine becomes_refused hx h ?_
  rw [hn]
  exact hf

end

theorem fabEvent_zero (s : State) : s.fabEvent 0 = s.fabRaised 1 := rfl

theorem strange_eq (s : State) (n reason : Nat) : s.fabStranger n reason = s.strange n reason := rfl

/-! ### The fields of a HELLO -/

theorem rdLE_append_skip {l r : List Byte} {off n : Nat} (h : l.length ≤ off) :
    rdLE (l ++ r) off n = rdLE r (off - l.length) n := by
  rw [rdLE, rdLE, List.drop_append, List.drop_of_length_le h, List.nil_append]

theorem rdLE_leBytes_append (n x : Nat) (r : List Byte) : rdLE (leBytes n x ++ r) 0 n = x % 256 ^ n := by
  rw [rdLE, List.drop_zero, List.take_append_of_le_length (by simp), List.take_of_length_le (by simp), leNat_leBytes]

theorem byteAt_append_skip {l r : List Byte} {i : Nat} (h : l.length ≤ i) : byteAt (l ++ r) i = byteAt r (i - l.length) := by
  rw [byteAt, byteAt, List.getD_eq_getElem?_getD, List.getD_eq_getElem?_getD, List.getElem?_append_right h]

theorem byteAt_append {l r : List Byte} {i : Nat} (h : i < l.length) : byteAt (l ++ r) i = byteAt l i := by
  rw [byteAt, byteAt, List.getD_eq_getElem?_getD, List.getD_eq_getElem?_getD, List.getElem?_append_left h]

theorem byteAt_leBytes_append (x : Nat) (r : List Byte) : byteAt (leBytes 1 x ++ r) 0 = x % 256 := by
  simp [byteAt, leBytes]

/-- The bytes of a HELLO frame before its payload: the broadcast address, the port's own, the EtherType, the header. -/
def State.helloHead (s : State) (n : Nat) : List Byte :=
  List.replicate 6 0xFF ++ leBytes 6 (s.derivedAddr (64 + n)).toNat ++ [0x88, 0xB5] ++
  jabexHeader 2 0 7 4095 s.fab.addr 1 1 [n] 0 0 s.fab.inc.toNat

theorem helloFrame_eq (s : State) (n : Nat) : s.ctlFrame n 2 (s.helloBytes n) = s.helloHead n ++ s.helloBytes n := rfl

theorem length_jabexHeader (kind path cls dst src hop hops : Nat) (route : List Nat) (stream : Nat) (seq : Word) (inc : Nat) :
    (jabexHeader kind path cls dst src hop hops route stream seq inc).length = 24 := by
  simp [jabexHeader]

theorem length_helloHead (s : State) (n : Nat) : (s.helloHead n).length = 38 := by
  simp [State.helloHead, length_jabexHeader]

theorem helloBytes_fields (s : State) (n : Fin 4) :
    let b := s.helloBytes n
    b.length = 32 ∧ rdLE b 0 4 = s.fld 0x0601 0 4 4 0 % 2 ^ 32 ∧ rdLE b 4 8 = Free.deviceKeyId.toNat ∧
    rdLE b 12 8 = s.otp.serial.toNat ∧ byteAt b 22 = s.sys.lc.code % 256 ∧ byteAt b 23 = n.val ∧
    b.drop 24 = List.replicate 8 0 := by
  have h64 : ∀ v : DWord, v.toNat % 256 ^ 8 = v.toNat := fun v => Nat.mod_eq_of_lt v.isLt
  unfold State.helloBytes
  simp only [List.append_assoc]
  refine ⟨by simp, rdLE_leBytes_append 4 _ _, ?_, ?_, ?_, ?_, ?_⟩
  · rw [rdLE_append_skip (by simp), length_leBytes]
    exact (rdLE_leBytes_append 8 _ _).trans (h64 _)
  · rw [rdLE_append_skip (by simp), rdLE_append_skip (by simp), length_leBytes, length_leBytes]
    exact (rdLE_leBytes_append 8 _ _).trans (h64 _)
  · rw [byteAt_append_skip (by simp), byteAt_append_skip (by simp), byteAt_append_skip (by simp),
      byteAt_append_skip (by simp)]
    simp only [length_leBytes]
    exact byteAt_leBytes_append _ _
  · rw [byteAt_append_skip (by simp), byteAt_append_skip (by simp), byteAt_append_skip (by simp),
      byteAt_append_skip (by simp), byteAt_append_skip (by simp)]
    simp only [length_leBytes]
    exact (byteAt_leBytes_append _ _).trans (Nat.mod_eq_of_lt (by omega))
  · rfl

/-- The fields of a HELLO. -/
theorem helloFrame_fields (s : State) (n : Fin 4) :
    let b := s.ctlFrame n 2 (s.helloBytes n)
    b.length = 70 ∧ b.take 6 = List.replicate 6 0xFF ∧ (b.drop 6).take 6 = leBytes 6 (s.derivedAddr (64 + n)).toNat ∧
    rdBE b 12 2 = 0x88B5 ∧ byteAt b 14 = 0x12 ∧ rdLE b 38 4 = s.fld 0x0601 0 4 4 0 % 2 ^ 32 ∧
    rdLE b 42 8 = Free.deviceKeyId.toNat ∧ rdLE b 50 8 = s.otp.serial.toNat ∧ byteAt b 60 = s.sys.lc.code % 256 ∧
    byteAt b 61 = n.val ∧ b.drop 62 = List.replicate 8 0 := by
  obtain ⟨hlen, hid, hkey, hser, hlc, hport, hrsv⟩ := helloBytes_fields s n
  have hhead := length_helloHead s n
  dsimp only
  rw [helloFrame_eq]
  refine ⟨by rw [List.length_append, hhead, hlen], rfl, rfl, rfl, rfl, ?_, ?_, ?_, ?_, ?_, ?_⟩
  · rw [rdLE_append_skip (Nat.le_of_eq hhead), hhead, hid]
  · rw [rdLE_append_skip (by rw [hhead]; decide), hhead, hkey]
  · rw [rdLE_append_skip (by rw [hhead]; decide), hhead, hser]
  · rw [byteAt_append_skip (by rw [hhead]; decide), hhead, hlc]
  · rw [byteAt_append_skip (by rw [hhead]; decide), hhead, hport]
  · rw [List.drop_append, hhead, List.drop_of_length_le (by rw [hhead]; decide), hrsv, List.nil_append]

/-! ### Admission -/

theorem takesPort_setFport (s : State) (n : Nat) (p : FabPort) (m : Nat) : (s.setFport n p).fabMode m = s.fabMode m := rfl

/-- A life-cycle state that admits a peer. -/
theorem peerLc_iff (k : Nat) : (k == 1 || k == 2 || k == 3) = true ↔ k = 1 ∨ k = 2 ∨ k = 3 := by
  simp [or_assoc]

/-- The reason that the checks of a handshake's end find. -/
theorem admitReason_eq {s : State} {n : Nat} {m : AdmitMsg} {id : Word} (hs : (s.fport n).shake = some id)
    (hid : id.toNat = s.fld 0x0601 0 4 4 0) :
    (m.cert = false → s.admitReason n m = 2) ∧ (m.cert = true → m.sig = false → s.admitReason n m = 3) ∧
    (m.cert = true → m.sig = true → ¬ ((s.fport n).peerLc = 1 ∨ (s.fport n).peerLc = 2 ∨ (s.fport n).peerLc = 3) →
      s.admitReason n m = 4) ∧
    (m.cert = true → m.sig = true → ((s.fport n).peerLc = 1 ∨ (s.fport n).peerLc = 2 ∨ (s.fport n).peerLc = 3) →
      s.fld 0x0601 0 3 1 0 = 0 → ∀ a, s.otp.active = some a →
      (s.otp.owners[a]? ≠ some m.owner → s.admitReason n m = 5) ∧
      (s.otp.owners[a]? = some m.owner → (s.fport n).peerId ≠ Free.deviceKeyId → s.admitReason n m = 0)) := by
  unfold State.admitReason
  dsimp only
  rw [if_neg (by rw [hs]; exact not_not_intro (congrArg some hid))]
  refine ⟨fun hc => ?_, fun hc hg => ?_, fun hc hg hl => ?_, fun hc hg hl hmode a ha => ⟨fun hown => ?_, fun hown hid => ?_⟩⟩
  · rw [hc]
    rfl
  · rw [hc, hg]
    rfl
  · rw [hc, hg, if_neg (by decide), if_neg (by decide), if_pos (by rw [Bool.not_eq_true']; exact Bool.eq_false_iff.2 (mt (peerLc_iff _).1 hl))]
  · rw [hc, hg, if_neg (by decide), if_neg (by decide), if_neg (by rw [(peerLc_iff _).2 hl]; decide), if_pos hmode, ha]
    simp [hown]
  · rw [hc, hg, if_neg (by decide), if_neg (by decide), if_neg (by rw [(peerLc_iff _).2 hl]; decide), if_pos hmode, ha]
    simp [hown, hid]

section
variable {s : State} {n : Fin 4}

theorem exec_hello_taken {m : HelloMsg} (ht : s.takesPort (64 + n) = true) (hok : m.hdrOk = true)
    (hst : (s.fabMode n && (s.fport n).st == .admitted) = false) {p : FabPort} (hp : p = { s.fport n with
      peerId := m.keyId, peerAddr := m.addr.toNat, peerMac := m.mac, peerLc := m.lc.toNat, heard := some m.fabricId }) :
    exec (.hello n m) s = if !s.fabMode n || p.st == .stranger || p.shake.isSome then (s.setFport n p).done
      else if m.fabricId.toNat = s.fld 0x0601 0 4 4 0 then
        ((s.setFport n { p with shake := some m.fabricId }).admitSend n 1).done
      else ((s.setFport n p).fabStranger n 1).done := by
  subst hp
  rw [exec_hello, execHello, ht, if_neg (by decide), hok, if_neg (by decide)]
  dsimp only
  rw [hst, if_neg (by decide), setFport_setFport]
  rfl

theorem exec_admit_shaking {m : AdmitMsg} {id : Word} (ht : s.takesPort (64 + n) = true) (hmode : s.fabMode n = true)
    (hok : m.hdrOk = true) (hs : (s.fport n).shake = some id) :
    exec (.admitFrame n m) s = if !m.last then (s.admitSend n 2).done
      else if s.admitReason n m ≠ 0 then (s.fabStranger n (s.admitReason n m)).done
      else ((((s.draw.setFport n { s.fport n with st := .admitted, reason := 0, shake := none, key := some s.sys.draws }).fabRaised
        1).originate).floodTo n).done := by
  rw [exec_admitFrame, execAdmit, ht, hmode, if_neg (by decide), hok, if_neg (by decide)]
  dsimp only
  rw [hs]
  rfl

end

/-- Settles O41: each arrival of HELLO or ADMIT is one path through its checks; the reason of a refusal is the first
check that fails (`admitReason_eq`). -/
theorem fabricNeighboursAreAdmitted : Obligations.FabricNeighboursAreAdmitted := by
  unfold Obligations.FabricNeighboursAreAdmitted
  refine ⟨fun q s u h hn => becomes_noNode (exec_linkCostSet q s) h hn,
    fun q s u h ⟨hn, hz⟩ => becomes_fabRefused (exec_linkCostSet q s) h hn ?_,
    fun q s u h ⟨hn, hb, hc⟩ => becomes_fabServed (exec_linkCostSet q s) h hn ?_,
    fun q s u h ⟨hn, hb, hw, ha, hbind⟩ => becomes_fabServed (exec_deviceExclude q s) h hn ?_,
    fun q s u h ⟨hn, ha⟩ => becomes_fabRefused (exec_deviceExclude q s) h hn ?_,
    fun q s u h hn => becomes_fabServed (exec_routeRecompute q s) h hn rfl, fun n s ht => ?_,
    fun n s => helloFrame_fields s n, fun n m s ht => ⟨fun hok => ?_, fun hok hmode => ?_, fun hok hmode hst => ?_,
      fun hok hmode hst hsh hid => ?_, fun hok hmode hst hsh hid => ?_⟩,
    fun n m s id ht hmode hok hs => ?_, fun n s hrun hs => ?_, fun n s id hrun hst hh => ⟨fun hid => ?_, fun hid => ?_⟩,
    fun n s hrun hmode => ⟨fun hst => ?_, fun hst => ?_⟩⟩
  · dsimp only
    rw [decide_eq_true hz, Bool.or_true]
    rfl
  · dsimp only
    rw [decide_eq_false (not_not_intro hb), decide_eq_false hc]
    rfl
  · dsimp only
    rw [decide_eq_false (not_not_intro hb), decide_eq_false (Nat.not_le.2 hw), decide_eq_false ha,
      ← Option.not_isSome, hbind]
    rfl
  · dsimp only
    rw [decide_eq_true ha]
    simp
  · rw [Becomes, exec_helloSend, execHelloSend, if_pos ht]
    rfl
  · rw [Becomes, exec_hello, execHello, ht, if_neg (by decide), hok, if_pos (by decide)]
    rfl
  · rw [Becomes, exec_hello_taken ht hok (by rw [hmode]; rfl) rfl, hmode]
    rfl
  · rw [Becomes, exec_hello, execHello, ht, if_neg (by decide), hok, if_neg (by decide)]
    dsimp only
    rw [hmode, hst]
    rfl
  · rw [Becomes, exec_hello_taken ht hok (by rw [hmode, hst]; rfl) rfl, hmode]
    dsimp only
    rw [hst, hsh, if_neg (by decide), if_pos hid]
    rfl
  · rw [Becomes, exec_hello_taken ht hok (by rw [hmode, hst]; rfl) rfl, hmode]
    dsimp only
    rw [hst, hsh, if_neg (by decide), if_neg hid]
    rfl
  · dsimp only
    have hx := exec_admit_shaking ht hmode hok hs
    have turned : ∀ r, m.last = true → s.admitReason n m = r → r ≠ 0 → Becomes (.admitFrame n m) s (s.strange n r) := by
      intro r hl hr hne
      rw [Becomes, hx, hl, if_neg (by decide), hr, if_pos hne]
      rfl
    refine ⟨fun hl => ?_, fun hl hid hc => ?_, fun hl hid hc hg => ?_, fun hl hid hc hg hlc => ?_,
      fun hl hid hc hg hlc hm a ha => ⟨fun hown => ?_, fun hown hpeer => ⟨s.sys.draws, ?_⟩⟩⟩
    · rw [Becomes, hx, hl]
      rfl
    · exact turned 2 hl ((admitReason_eq hs hid).1 hc) (by decide)
    · exact turned 3 hl ((admitReason_eq hs hid).2.1 hc hg) (by decide)
    · exact turned 4 hl ((admitReason_eq hs hid).2.2.1 hc hg hlc) (by decide)
    · exact turned 5 hl (((admitReason_eq hs hid).2.2.2 hc hg hlc hm a ha).1 hown) (by decide)
    · rw [Becomes, hx, hl, if_neg (by decide), ((admitReason_eq hs hid).2.2.2 hc hg hlc hm a ha).2 hown hpeer,
        if_neg (by decide)]
      rfl
  · rw [Becomes, exec_admissionTimeout, execAdmissionTimeout, if_pos (by rw [hrun, Option.isSome_iff_ne_none.2 hs]; rfl)]
    rfl
  · rw [Becomes, exec_strangerRetry, execStrangerRetry]
    dsimp only
    rw [hh, hrun, hst, if_pos (show (true && decide (4 = 4) && (some id).isSome) = true from rfl), Option.map_some,
      if_pos (congrArg some hid)]
    rfl
  · rw [Becomes, exec_strangerRetry, execStrangerRetry]
    rw [hh, hrun, hst, if_pos (show (true && decide (4 = 4) && (some id).isSome) = true from rfl), Option.map_some,
      if_neg (fun he => hid (Option.some.inj he))]
    rfl
  · rw [Becomes, exec_neighbourLoss, execNeighbourLoss, if_pos (by rw [hrun, hmode]; rfl)]
    dsimp only
    rw [State.fabLoss, fport_setFport_self]
    dsimp only
    rw [hst, if_pos (by decide), setFport_setFport, fabEvent_zero]
    rfl
  · rw [Becomes, exec_neighbourLoss, execNeighbourLoss, if_pos (by rw [hrun, hmode]; rfl)]
    dsimp only
    rw [State.fabLoss, fport_setFport_self]
    dsimp only
    rw [if_neg (by simpa using hst), setFport_setFport]
    rfl

end Sys2Proof.Machine
end

section
/-! SUPPORT. Frames of blocks, and the database, claim and paths of the Jabex fabric (R243 to R245, R248). -/

namespace Sys2Proof.Machine

set_option Elab.async false

/-! ### Frames -/

theorem agrees_trans {s t u : State} {b : Block} (h : s.agrees t b) (h' : t.agrees u b) : s.agrees u b := by
  cases b <;> exact Eq.trans h' h

theorem State.within.trans {l : List Block} {s t u : State} (h : s.within l t) (h' : t.within l u) : s.within l u :=
  fun b hb => agrees_trans (h b hb) (h' b hb)

theorem State.within.mono {l l' : List Block} {s t : State} (h : s.within l t) (hl : ∀ b ∈ l, b ∈ l') : s.within l' t :=
  fun b hb => h b (fun hm => hb (hl b hm))

theorem within_settle (s : State) : s.within [.sys, .host] s.settle := by
  intro b hb
  cases b <;> first | rfl | exact absurd hb (by decide)

theorem within_of_coreless {s t : State} (h : t.coreless = s.coreless) : s.within [.sw, .mem, .sys, .engs] t := by
  have part : ∀ {α : Type} (f : State → α), f t.coreless.1 = f s.coreless.1 := fun f => by rw [h]
  intro b hb
  cases b with
  | sys => exact absurd hb (by decide)
  | mem => exact absurd hb (by decide)
  | engs => exact absurd hb (by decide)
  | sw => exact absurd hb (by decide)
  | otp => exact part State.otp
  | sage => exact part State.sage
  | mbx => exact part State.mbx
  | host => exact part State.host
  | cfg => exact part State.cfg
  | rmy => exact part State.rmy
  | time => exact part State.time
  | pnt => exact part State.pnt
  | tt => exact part State.tt
  | ports => exact part State.ports
  | pairs => exact part State.pairs
  | fab => exact part State.fab
  | can => exact part State.can
  | chv => exact part State.chv
  | age => exact part State.age
  | pending => exact part State.pending

/-! ### The database -/

theorem originate_eq {s : State} (h : s.fabNode = true) : s.originate =
    let t : State := { s with fab := { s.fab with lsaSeq := s.fab.lsaSeq + 1, lsaAt := s.sys.mono },
                              tt := { s.tt with lsaDue := false } }
    (t.dbPut t.ownLsa).flood t.ownLsa none := by
  rw [State.originate, if_pos h]

theorem mem_dbPut {s : State} {l own : Lsa} (h : l.id ≠ own.id) : l ∈ (s.dbPut own).fab.db ↔ l ∈ s.fab.db := by
  have hne : l ≠ own := fun he => h (congrArg Lsa.id he)
  simp [State.dbPut, h, hne]

/-- The newer of two advertisements of a device takes the place in the database. -/
theorem newer_iff {db : List Lsa} {l : Lsa} :
    (∀ x ∈ db, x.id = l.id → x.inc ≠ l.inc ∨ x.seq < l.seq) →
    (match db.find? (fun x => x.id == l.id) with
      | some x => x.inc != l.inc || decide (x.seq < l.seq)
      | none => true) = true := by
  intro h
  cases hf : db.find? (fun x => x.id == l.id) with
  | none => rfl
  | some x =>
    have hid : x.id = l.id := by simpa using List.find?_some hf
    simpa [bne_iff_ne] using h x (List.mem_of_find?_eq_some hf) hid

theorem older_of {db : List Lsa} {l : Lsa} (h : ∀ x ∈ db, x.id = l.id → x.inc = l.inc ∧ l.seq ≤ x.seq)
    (hex : ∃ x ∈ db, x.id = l.id) :
    (match db.find? (fun x => x.id == l.id) with
      | some x => x.inc != l.inc || decide (x.seq < l.seq)
      | none => true) = false := by
  cases hf : db.find? (fun x => x.id == l.id) with
  | none =>
    obtain ⟨x, hx, hid⟩ := hex
    exact absurd (List.find?_eq_none.1 hf x hx) (by simp [hid])
  | some x =>
    have hid : x.id = l.id := by simpa using List.find?_some hf
    obtain ⟨hinc, hseq⟩ := h x (List.mem_of_find?_eq_some hf) hid
    simpa [hinc] using hseq

/-- The command on an LSA that a fabric port takes from another device. -/
theorem exec_lsa_taken {n : Fin 4} {l : Lsa} {s : State} (a b : Bool) (h : s.fabTakes n = true) (hid : l.id ≠ Free.deviceKeyId) :
    exec (.lsa n a b l) s = if !b then s.fabHdrErr.done else if !a then s.fabAuthFail.done
      else if (match s.fab.db.find? (fun x => x.id == l.id) with
        | some x => x.inc != l.inc || decide (x.seq < l.seq)
        | none => true) then (((s.dbPut l).flood l (some n.val)).settleClaim).done else s.done := by
  have hrun : s.running = true := by
    cases hr : s.running with
    | true => rfl
    | false => exact absurd h (by simp [State.fabTakes, hr])
  rw [exec_lsa, execLsa, hrun, if_neg (by decide), h, if_neg (by decide), if_neg hid] <;> rfl

/-! ### Paths -/

theorem find?_setAll_of_not_mem (rs : List (Nat × Route)) (st : Nat) (h : ∀ p ∈ rs, p.1 ≠ st) (t : Tab Route) :
    Tab.find? (rs.foldl (fun (m : Tab Route) p => m.set p.1 p.2) t) st = Tab.find? t st := by
  induction rs generalizing t with
  | nil => rfl
  | cons p rs ih =>
    rw [List.foldl_cons, ih (fun q hq => h q (List.mem_cons_of_mem _ hq)), Tab.find?_set,
      if_neg (Ne.symm (h p List.mem_cons_self))]

/-- What an installation of the routes changes: the fabric's routes, count, due mark and events, and a free word. -/
theorem install_eq (s : State) : ∃ e, s.install = { s.draw with fab := { s.draw.fab with
    routes := ((s.recsOf 0x0604).map (fun r => (r.inst, s.routeTo (rdLE r.body 0 2)))).foldl
      (fun (m : Tab Route) p => m.set p.1 p.2) [],
    routeInstall := satInc s.draw.fab.routeInstall, spfDue := false, event := e } } := by
  unfold State.install
  dsimp only
  split <;> exact ⟨_, rfl⟩

theorem routes_none {s : State} {st : Nat} (h : s.rec? 0x0604 st = none) :
    Tab.find? (((s.recsOf 0x0604).map (fun r => (r.inst, s.routeTo (rdLE r.body 0 2)))).foldl
      (fun (m : Tab Route) p => m.set p.1 p.2) []) st = none := by
  rw [find?_setAll_of_not_mem]
  · rfl
  · intro p hp
    obtain ⟨r, hr, rfl⟩ := List.mem_map.1 hp
    obtain ⟨hmem, hty⟩ := List.mem_filter.1 hr
    intro hi
    exact List.find?_eq_none.1 h r hmem (by simpa using ⟨beq_iff_eq.1 hty, hi⟩)

/-- Settles O42: the database keeps one advertisement of a device, the newest; origination and installation change the
fabric block, and the frames they send the core (`within_of_coreless`). -/
theorem fabricDatabaseAndClaims : Obligations.FabricDatabaseAndClaims := by
  unfold Obligations.FabricDatabaseAndClaims
  refine ⟨fun n l s ht hid => ⟨?_, ?_, fun hold hex => ?_, fun hnew => ?_⟩, fun n l a b s hrun ht hst => ?_,
    fun s hdue hlt => ?_, fun s hrun hnode hdue => ?_, fun id s hrun hid hex hclaim => ?_,
    fun s hrun hclaim => ⟨fun hl => ?_, fun hl => ?_⟩, fun s hrun hclaim => ?_, fun s hrun hnode hdue => ?_,
    fun src st s hrun => ?_⟩
  · rw [Becomes, exec_lsa_taken _ _ ht hid]
    rfl
  · rw [Becomes, exec_lsa_taken _ _ ht hid]
    rfl
  · rw [Becomes, exec_lsa_taken _ _ ht hid, if_neg (by decide), if_neg (by decide), older_of hold hex]
    rfl
  · rw [Becomes, exec_lsa_taken _ _ ht hid, if_neg (by decide), if_neg (by decide), newer_iff hnew]
    rfl
  · rw [Becomes, exec_lsa, execLsa, hrun, if_neg (by decide), ht, if_pos (by decide), State.strangerDrop, if_pos hst]
    rfl
  · rw [exec_lsaOriginate, execLsaOriginate, hdue, decide_eq_false (Nat.not_le.2 hlt), Bool.or_false, Bool.and_false]
    rfl
  · have hgo : (s.running && (s.tt.lsaDue || decide (s.fab.lsaAt + sec 30 ≤ s.sys.mono))) = true := by
      rw [hrun, Bool.true_and, Bool.or_eq_true, decide_eq_true_iff]
      exact hdue
    refine ⟨s.originate.settle, by rw [exec_lsaOriginate, execLsaOriginate, if_pos hgo]; rfl, ?_⟩
    rw [originate_eq hnode]
    generalize hu : State.mk .. = u
    have hflood := coreless_flood (u.dbPut u.ownLsa) u.ownLsa none
    have hfab := eq_of_coreless hflood State.fab (fun _ => rfl)
    have htt := eq_of_coreless hflood State.tt (fun _ => rfl)
    have hin : s.within [.fab, .tt, .sys, .host, .sw, .mem, .engs] ((u.dbPut u.ownLsa).flood u.ownLsa none).settle := by
      refine State.within.trans (t := u.dbPut u.ownLsa) ?_ (State.within.trans
        ((within_of_coreless hflood).mono (by decide)) ((within_settle _).mono (by decide)))
      subst hu
      intro b hb
      cases b <;> first | rfl | exact absurd hb (by decide)
    dsimp only at hin ⊢
    generalize (u.dbPut u.ownLsa).flood u.ownLsa none = t at hfab htt hin
    rw [settle_fab, settle_tt, hfab, htt]
    subst hu
    refine ⟨rfl, rfl, rfl, rfl, ⟨_, List.mem_append_right _ List.mem_cons_self, rfl, rfl, rfl, rfl⟩, fun l hl => mem_dbPut hl, hin⟩
  · have hgo : (s.running && decide (id ≠ Free.deviceKeyId) && s.fab.db.any (fun l => l.id == id)) = true := by
      simpa [hrun, hid] using hex
    rw [Becomes, exec_lsaAgeOut, execLsaAgeOut, if_pos hgo]
    exact if_neg (by rw [Bool.and_eq_true, decide_eq_true_iff]; exact fun h => hclaim h.1)
  · rw [Becomes, exec_claimHeld, execClaimHeld, if_pos (by rw [hrun, decide_eq_true hclaim]; rfl), if_pos hl]
    rfl
  · rw [Becomes, exec_claimHeld, execClaimHeld, if_pos (by rw [hrun, decide_eq_true hclaim]; rfl), hl]
    rfl
  · exact ⟨s, by rw [exec_claimHeld, execClaimHeld, decide_eq_false hclaim, Bool.and_false]; rfl, rfl⟩
  · obtain ⟨e, he⟩ := install_eq s
    refine ⟨s.install.settle, by rw [exec_pathComputation, execPathComputation, hrun, hnode, hdue]; rfl, ?_⟩
    rw [he]
    refine ⟨rfl, rfl, rfl, fun st hst => routes_none hst, ?_⟩
    intro b hb
    cases b <;> first | rfl | exact absurd hb (by decide)
  · rw [Becomes, exec_streamWindowFree, execStreamWindowFree, if_pos hrun]
    rfl

end Sys2Proof.Machine
end

section
/-! SUPPORT. Data and TIME frames of the Jabex fabric (R237, R238, R248 to R254). -/

namespace Sys2Proof.Machine

set_option Elab.async false

/-! ### A frame in transit -/

/-- The header of a data frame with its hop advanced. -/
def hopHeader (b : List Byte) : List Byte :=
  ((b.drop 14).take 22).take 6 ++ [BitVec.ofNat 8 (byteAt ((b.drop 14).take 22) 6 + 1)] ++ ((b.drop 14).take 22).drop 7

theorem length_hopHeader {b : List Byte} (h : 38 ≤ b.length) : (hopHeader b).length = 22 := by
  simp only [hopHeader, List.length_append, List.length_take, List.length_drop, List.length_singleton]
  omega

/-- The frame that goes on: the addresses of its link, the EtherType, the header, its check, the rest. -/
theorem jabForward_eq (s : State) (port : Nat) (b : List Byte) : ∃ a : List Byte, a.length = 14 ∧
    s.jabForward port b = a ++ (hopHeader b ++ (leBytes 2 (crc32c (hopHeader b)).toNat ++ b.drop 38)) :=
  ⟨leBytes 6 (s.fport port).peerMac.toNat ++ leBytes 6 (s.derivedAddr (64 + port)).toNat ++ [0x88, 0xB5], by simp,
    by simp [State.jabForward, hopHeader, splice]⟩

theorem byteAt_hopHeader (b : List Byte) (h : 38 ≤ b.length) (hb : byteAt b 20 < 255) :
    byteAt (hopHeader b) 6 = byteAt b 20 + 1 := by
  have hat : byteAt ((b.drop 14).take 22) 6 = byteAt b 20 := by
    simp [byteAt, List.getElem?_take, List.getElem?_drop]
  have hlen : (((b.drop 14).take 22).take 6).length = 6 := by
    simp only [List.length_take, List.length_drop]
    omega
  rw [hopHeader, List.append_assoc, byteAt_append_skip (Nat.le_of_eq hlen), hlen, hat]
  simp only [byteAt, Nat.sub_self, List.singleton_append, List.getD_cons_zero, BitVec.toNat_ofNat]
  exact Nat.mod_eq_of_lt (by unfold byteAt at hb; omega)

theorem hopHeader_tail (b : List Byte) (h : 38 ≤ b.length) : (hopHeader b).drop 7 = (b.drop 21).take 15 := by
  have hlen : (((b.drop 14).take 22).take 6).length = 6 := by
    simp only [List.length_take, List.length_drop]
    omega
  rw [hopHeader, List.drop_append, List.drop_of_length_le (by simp [hlen]), List.nil_append, List.length_append, hlen]
  simp [List.drop_take, List.drop_drop]

/-- What a frame in transit keeps and what it changes. -/
theorem jabForward_fields (port : Nat) (b : List Byte) (s : State) (h : 38 ≤ b.length) (hb : byteAt b 20 < 255) :
    let o := s.jabForward port b
    o.length = b.length ∧ o.drop 38 = b.drop 38 ∧ byteAt o 20 = byteAt b 20 + 1 ∧
    (o.drop 21).take 15 = (b.drop 21).take 15 ∧ rdLE o 36 2 = (crc32c ((o.drop 14).take 22)).toNat % 65536 := by
  obtain ⟨a, ha, ho⟩ := jabForward_eq s port b
  have hh := length_hopHeader h
  have h22 : ((s.jabForward port b).drop 14).take 22 = hopHeader b := by
    rw [ho, List.drop_append, List.drop_of_length_le (by omega), ha, List.nil_append, Nat.sub_self, List.drop_zero,
      List.take_append_of_le_length (by omega), List.take_of_length_le (by omega)]
  dsimp only
  rw [h22, ho]
  refine ⟨?_, ?_, ?_, ?_, ?_⟩
  · simp only [List.length_append, ha, hh, length_leBytes, List.length_drop]
    omega
  · rw [List.drop_append, List.drop_of_length_le (by omega), List.drop_append, List.drop_of_length_le (by omega),
      List.drop_append, List.drop_of_length_le (by simp [ha, hh])]
    simp [ha, hh]
  · rw [byteAt_append_skip (by omega), ha]
    rw [← byteAt_hopHeader b h hb, byteAt_append (by omega)]
  · rw [List.drop_append, List.drop_of_length_le (by omega), List.nil_append, ha, List.drop_append_of_le_length (by omega),
      hopHeader_tail b h, List.take_append_of_le_length (by simp; omega),
      List.take_of_length_le (List.length_take_le _ _)]
  · rw [rdLE_append_skip (by omega), ha, rdLE_append_skip (by omega), hh]
    exact rdLE_leBytes_append 2 _ _

/-! ### Counters of a port -/

theorem port_stat_rx (s : State) (n i k m : Nat) : ((s.stat n i k).port m).rx = (s.port m).rx := by
  unfold State.stat
  dsimp only
  rw [port_setPort]
  split
  · next h => rw [h]
  · rfl

theorem port_stats_rx (l : List Nat) (s : State) (n m : Nat) : ((s.stats n l).port m).rx = (s.port m).rx :=
  foldl_same (fun t : State => (t.port m).rx) _ (fun t i => port_stat_rx t n i 1 m) l s

theorem port_countGood_rx (s : State) (n len cls : Nat) (p : Parsed) (b : List Byte) (m : Nat) :
    ((s.countGood n len cls p b).port m).rx = (s.port m).rx := by
  unfold State.countGood
  dsimp only
  rw [port_stat_rx, port_stats_rx]

theorem frame_clearRx (s : State) (n fid i : Nat) : (s.clearRx n fid).frame i = s.frame i := rfl

/-! ### The window of a stream -/

/-- The judgement of the one window there is. -/
theorem windowJudge_one {s : State} {src : DWord} {st : Nat} {w : StreamWin} (inc : Byte) (seq : Word)
    (hw : s.fab.windows = [w]) (hsrc : w.src = src) (hst : w.stream = st) :
    s.windowJudge src st inc seq =
      let d := (seq - w.h).toInt
      let put : StreamWin → Bool × State := fun x => (true, { s with fab := { s.fab with windows := [{ x with at_ := s.time.t }] } })
      if inc ≠ w.inc then
        if (4000000 : Int) < (s.time.t.toNat : Int) - w.at_.toNat then put { w with inc := inc, h := seq, bitmap := 1 }
        else (false, s.fabLate)
      else if 0 < d then put { w with bitmap := (w.bitmap <<< d.toNat) ||| 1, h := seq }
      else if -64 < d then
        if w.bitmap.getLsbD d.natAbs then (false, { s with fab := { s.fab with dup := satInc s.fab.dup } })
        else put { w with bitmap := w.bitmap ||| BitVec.ofNat 64 (2 ^ d.natAbs) }
      else (false, s.fabLate) := by
  have hself : (w.src == src && w.stream == st) = true := by simp [hsrc, hst]
  unfold State.windowJudge
  rw [hw]
  simp only [List.find?_cons, hself, List.map_cons, List.map_nil, if_true]

/-! ### Reception of a fabric port -/

theorem running_of_fabTakes {s : State} {n : Nat} (h : s.fabTakes n = true) : s.running = true ∧ (s.port (64 + n)).up = true := by
  unfold State.fabTakes at h
  rw [Bool.and_eq_true, Bool.and_eq_true] at h
  exact h.1

/-- The header names this device as the last of its path. -/
abbrev atHome (s : State) (b : List Byte) : Prop :=
  byteAt ((b.drop 14).take 24) 6 = byteAt ((b.drop 14).take 24) 7 ∧
  rdLE ((b.drop 14).take 24) 2 2 % 4096 = s.fab.addr ∧ rdLE ((b.drop 14).take 24) 2 2 % 4096 ≠ 0

theorem and3_decide {a b c : Prop} [Decidable a] [Decidable b] [Decidable c] :
    (decide a && decide b && decide c) = decide (a ∧ b ∧ c) := by
  rw [Bool.eq_iff_iff]
  simp [and_assoc]

theorem jabexBad_eq (b : List Byte) :
    (decide ((crc32c (((b.drop 14).take 24).take 22)).toNat % 65536 ≠ rdLE ((b.drop 14).take 24) 0x16 2) ||
      decide (byteAt ((b.drop 14).take 24) 0 / 16 ≠ 1) || decide (6 ≤ byteAt ((b.drop 14).take 24) 0 % 16)) =
      decide (¬ jabexOk b) := by
  rw [Bool.eq_iff_iff]
  simp only [Bool.or_eq_true, decide_eq_true_iff, jabexOk]
  omega

/-- The end of a reception without codewords that no frame waits for, or that is one. -/
theorem fabEnd_plain {s : State} {n : Nat} {b : List Byte} {pcs : Pcs} (hf : s.fecOn (64 + n) = false) :
    s.fabEnd n b pcs =
      let o := rxOutcome b.length 9216 (fcsOk b) pcs.sym
      let body := (rxParts b).1
      let u := if o ≠ 0 then s.stat (64 + n) o
        else
          let u := s.countGood (64 + n) b.length (byteAt body 15 / 2 % 8) (parse body) body
          if (pauseOp (parse body) body).isSome then u.stat (64 + n) 6 else u
      match (u.port (64 + n)).rx with
      | none => u
      | some fid => if o = 0 then u.fabGood n fid body (rxParts b).2 else u.abandon (64 + n) fid (min 16383 b.length) 9216
          (match (u.frame fid).bind (·.jab) with
            | some x => if x.here then body else u.jabForward x.port body
            | none => body) (rxParts b).2 := by
  unfold State.fabEnd
  dsimp only
  rw [hf]
  simp only [Bool.false_and, Bool.not_false, Bool.and_true] <;> rfl

theorem length_of_rxOutcome_zero {len m : Nat} {fcs sym : Bool} (h : rxOutcome len m fcs sym = 0) : len ≤ 16383 := by
  unfold rxOutcome at h
  split at h
  · exact absurd h (by decide)
  · omega

/-- A servo delay of an even sum. -/
theorem setDelay_even {s : State} {n : Nat} {t1 t2 t3 t4 : DWord} {k : Int} (h : (t2 - t1).toInt + (t4 - t3).toInt = 2 * k) :
    s.setDelay n t1 t2 t3 t4 = { s with
      time := { s.time with linkDelay := s.time.linkDelay.set (64 + n) (BitVec.ofInt 32 k) } } := by
  have hw : s.whole ((t2 - t1).toInt + (t4 - t3).toInt) 2 = (k, s) := by
    rw [State.whole, h, if_pos (by omega)]
    exact Prod.ext (by omega) rfl
  unfold State.setDelay
  dsimp only
  rw [hw]

theorem exec_time_taken {s : State} {n : Fin 4} {m : TimeMsg} (h : s.fabTakes n = true) :
    exec (.time n false true m) s = s.fabAuthFail.done ∧
    exec (.time n true true m) s = match m with
      | .request => (s.ctlSend n.val 5 (ctlBody 5 [1, s.time.t.toNat])).done
      | .response t1 t2 t3 t4 => (s.setDelay n.val t1 t2 t3 t4).done
      | .sync i => if s.parentPort = some n.val then (s.setFport n.val { s.fport n with sync := some i }).done else s.done
      | .followUp e ofs =>
        match (s.fport n).sync with
        | none => s.done
        | some i =>
          let u := s.setFport n.val { s.fport n with sync := none, refOfs := ofs }
          if u.parentPort = some n.val then
            (State.servoSample { u with fab := { u.fab with parent := some (s.fport n).peerId } } 3 (u.jabexSample n.val i e)).done
          else u.done := by
  obtain ⟨hrun, -⟩ := running_of_fabTakes h
  refine ⟨?_, ?_⟩
  · rw [exec_time, execTime, hrun, if_neg (by decide), h, if_neg (by decide), if_neg (by decide), if_pos (by decide)]
  · rw [exec_time, execTime, hrun, if_neg (by decide), h, if_neg (by decide), if_neg (by decide), if_neg (by decide)] <;>
      cases m <;> rfl

theorem grow_setFport (s : State) (n : Nat) (p : FabPort) (k : Nat) (l : List DWord) :
    (s.setFport n p).grow k l = s.grow k l := by
  induction k generalizing l with
  | zero => rfl
  | succ k ih => exact ih _

/-- The time parent depends on a fabric port's state and peer alone. -/
theorem parentPort_setFport {s : State} {n : Nat} {p : FabPort} (hst : p.st = (s.fport n).st)
    (hpeer : p.peerId = (s.fport n).peerId) : (s.setFport n p).parentPort = s.parentPort := by
  have hport : ∀ m, ((s.setFport n p).fport m).st = (s.fport m).st ∧
      ((s.setFport n p).fport m).peerId = (s.fport m).peerId := by
    intro m
    rw [fport_setFport]
    split
    · next h => rw [h]; exact ⟨hst, hpeer⟩
    · exact ⟨rfl, rfl⟩
  have hadm : (s.setFport n p).admitted = s.admitted := by
    funext m
    unfold State.admitted
    rw [(hport m).1]
    rfl
  have hhops : ∀ a b, (s.setFport n p).hopsTo a b = s.hopsTo a b := by
    intro a b
    unfold State.hopsTo
    simp only [grow_setFport]
    rfl
  unfold State.parentPort
  rw [show (s.setFport n p).timeRef = s.timeRef from rfl, show (s.setFport n p).usesJabex = s.usesJabex from rfl, hadm]
  simp only [hhops, (hport _).2]

/-- Settles O43: a data frame's fate is read off its header, the copies of a stream off their window, and the end of a
reception off its outcome; TIME frames set one field each. -/
theorem fabricFramesAndTime : Obligations.FabricFramesAndTime := by
  unfold Obligations.FabricFramesAndTime
  refine ⟨fun n b c raw s ht hlen hrx => ?_, fun port b s hlen hb => jabForward_fields port b s hlen hb,
    fun n b pcs raw s ht => ?_, fun n fid f x body fcs s hf hx => ⟨fun hh => ?_, fun d hh hd => ?_⟩,
    fun n fid f x payload s => ?_, fun s src st inc seq w hw hsrc hst => ?_, fun n c x rest s hrun hq hbeg hold hk => ?_,
    fun n c s hall => ?_, fun st s hno => ?_, fun st s hrun hmay hdue hz => ?_, fun n t1 t2 t3 t4 s k ht hk => ⟨?_, ?_⟩,
    fun n s ht => ?_, fun n s ht => ⟨fun m => ?_, ?_, fun i hpar => ?_, fun e o hs => ?_, fun e o hs hpar => ?_⟩,
    fun n s hrun => ?_⟩
  · obtain ⟨hrun, hup⟩ := running_of_fabTakes ht
    have hgo : (!s.running || !(s.port (64 + n)).up || decide (b.length < 38) || (s.port (64 + n)).rx.isSome) = false := by
      rw [hrun, hup, hrx, decide_eq_false (Nat.not_lt.2 hlen)]
      rfl
    have hx := exec_dataFrame n b c raw s
    unfold execDataFrame at hx
    dsimp only at hx
    rw [hgo, if_neg (by decide), ht, if_neg (by decide)] at hx
    rw [jabexBad_eq, and3_decide] at hx
    dsimp only
    refine ⟨fun hbad => ?_, fun hok hk => ⟨fun hlt hadm => ?_, fun hlt hadm => ?_, fun hor => ?_, fun hh => ?_⟩⟩
    · rw [Becomes, hx, if_pos (decide_eq_true hbad)]
      rfl
    · have hno : ¬ atHome s b := fun h => Nat.ne_of_lt hlt h.1
      rw [Becomes, hx, if_neg (by simpa using hok), if_neg (Nat.not_le.2 hk), decide_eq_false hno, if_neg (by decide), hadm,
        Bool.and_false]
      rfl
    · have hno : ¬ atHome s b := fun h => Nat.ne_of_lt hlt h.1
      rw [Becomes, hx, if_neg (by simpa using hok), if_neg (Nat.not_le.2 hk), decide_eq_false hno, if_neg (by decide), hadm,
        decide_eq_true hlt]
      rfl
    · have hno : ¬ atHome s b := fun h => by
        rcases hor with hlt | ⟨-, hno⟩
        · exact Nat.ne_of_gt hlt h.1
        · exact hno h
      have hnlt : ¬ byteAt ((b.drop 14).take 24) 6 < byteAt ((b.drop 14).take 24) 7 := by omega
      rw [Becomes, hx, if_neg (by simpa using hok), if_neg (Nat.not_le.2 hk), decide_eq_false hno, if_neg (by decide),
        decide_eq_false hnlt]
      rfl
    · rw [Becomes, hx, if_neg (by simpa using hok), if_neg (Nat.not_le.2 hk), decide_eq_true hh, if_pos rfl]
      rfl
  · have hx : exec (.frameReceiveEnd (Fin.natAdd 64 n) b pcs raw) s = (s.fabEnd n b pcs).done := by
      rw [exec_frameReceiveEnd, execFrameReceiveEnd, if_pos (by exact ht), if_pos (by simp)]
      simp
    dsimp only
    refine ⟨fun hfec hrx ho => ?_, fun hfec hrx hlo hhi hsym hunc => ?_, fun fid hfec hrx ho hpause => ?_⟩
    · rw [Becomes, hx, fabEnd_plain hfec]
      dsimp only
      rw [if_pos ho, port_stat_rx, hrx]
      rfl
    · have ho : rxOutcome b.length 9216 (fcsOk b && !(true && pcs.unc != 0)) pcs.sym = 18 := by
        rw [rxOutcome, if_neg (by omega), if_neg (by omega), if_neg (by omega), hsym, bne_iff_ne.2 hunc]
        simp
      rw [Becomes, hx, State.fabEnd]
      dsimp only
      rw [hfec, ho, if_pos rfl, if_pos (by decide), port_stat_rx, port_setPort_self]
      dsimp only
      rw [hrx]
      rfl
    · have hle : b.length ≤ 16383 := length_of_rxOutcome_zero ho
      have hparts : rxParts b = (b.take (b.length - 4), b.drop (b.length - 4)) := if_neg (by omega)
      rw [Becomes, hx, fabEnd_plain hfec]
      dsimp only
      rw [if_neg (not_not_intro ho), hparts]
      dsimp only
      rw [hpause, if_neg (by decide), port_countGood_rx, hrx]
      dsimp only
      rw [if_pos ho]
      rfl
  · dsimp only
    rw [State.fabGood]
    dsimp only
    rw [frame_clearRx, hf]
    dsimp only
    rw [hx]
    dsimp only
    rw [hh]
    rfl
  · dsimp only
    rw [State.fabGood]
    dsimp only
    rw [frame_clearRx, hf]
    dsimp only
    rw [hx]
    dsimp only
    rw [hh, hd]
    rfl
  · dsimp only
    generalize hj : s.windowJudge _ x.stream x.inc x.seq = judged
    have hx : s.jabDeliver n fid f x payload = if !judged.1 then judged.2.setFrame fid { f with refused := [0x03] }
        else if x.kind = 1 then (judged.2.setFrame fid { f with delivered := true }).fabPnt x.src payload
        else if !judged.2.ctxImport x.src x.ctx then (judged.2.setFrame fid { f with refused := [0x03] }).grantViol
        else (judged.2.setFrame fid { f with ctx := some x.ctx }).judgeCluster fid { f with ctx := some x.ctx }
          { ctx := x.ctx, bytes := payload, port := 64 + n, cls := f.cls, jab := true, stamp := f.stamp } := by
      rw [← hj]
      rfl
    refine ⟨fun hno => ?_, fun hyes hk => ?_, fun hyes hk himp => ?_, fun hyes hk himp => ?_⟩
    · rw [hx, hno]
      rfl
    · rw [hx, hyes, if_neg (by decide), if_pos hk]
    · rw [hx, hyes, if_neg (by decide), if_neg hk, himp]
      rfl
    · rw [hx, hyes, if_neg (by decide), if_neg hk, himp]
      rfl
  · have hlate : ∀ inc seq, s.windowJudge src st inc seq = _ := fun inc seq => windowJudge_one inc seq hw hsrc hst
    dsimp only at hlate ⊢
    refine ⟨fun hi hd => ?_, fun hi hlo hhi hbit => ?_, fun hi hlo hhi hbit => ?_, fun hi hd => ?_, fun hi hold => ?_,
      fun hi hnew => ?_⟩
    · rw [hlate, if_neg (not_not_intro hi), if_pos hd]
    · rw [hlate, if_neg (not_not_intro hi), if_neg (by omega), if_pos hlo, if_pos hbit]
    · rw [hlate, if_neg (not_not_intro hi), if_neg (by omega), if_pos hlo, if_neg (by rw [hbit]; decide)]
    · rw [hlate, if_neg (not_not_intro hi), if_neg (by omega), if_neg (by omega)]
      rfl
    · rw [hlate, if_pos hi, if_neg (by omega)]
      rfl
    · rw [hlate, if_pos hi, if_pos (by omega)]
  · rw [Becomes, exec_fabricEgressDiscard, execFabricEgressDiscard]
    dsimp only
    rw [if_pos hrun, hq, List.find?_cons_of_pos (by rw [hbeg, decide_eq_true hold, hk]; rfl)]
    rfl
  · have hnone : (s.queue (64 + n) c).find? (fun x => !s.begun (64 + n) x && decide (x.since + ms 4 ≤ s.sys.mono) &&
        (s.frame x.fid).any (fun f => decide (jabexKind f.bytes < 2))) = none := by
      refine List.find?_eq_none.2 fun x hx => ?_
      rw [decide_eq_false (Nat.not_le.2 (hall x hx)), Bool.and_false, Bool.false_and]
      decide
    rw [exec_fabricEgressDiscard, execFabricEgressDiscard]
    rw [hnone]
    exact ite_self _
  · rw [exec_pntBatchSend, execPntBatchSend]
    rcases hno with hm | hd
    · rw [hm, Bool.and_false]
      rfl
    · rw [hd, Bool.and_false]
      rfl
  · rw [Becomes, exec_pntBatchSend, execPntBatchSend]
    rw [hrun, hmay, hdue, hz]
    rfl
  · rw [Becomes, exec_delayExchange, execDelayExchange, if_pos ht, setDelay_even hk]
    rfl
  · rw [Becomes, (exec_time_taken ht).2]
    dsimp only
    rw [setDelay_even hk]
    rfl
  · rw [Becomes, exec_syncSend, execSyncSend, if_pos ht]
    rfl
  · rw [Becomes, (exec_time_taken ht).1]
    rfl
  · rw [Becomes, (exec_time_taken ht).2]
    rfl
  · rw [Becomes, (exec_time_taken ht).2]
    exact if_pos hpar
  · rw [Becomes, (exec_time_taken ht).2]
    dsimp only
    rw [hs]
    rfl
  · obtain ⟨i, hi⟩ := Option.isSome_iff_exists.1 hs
    rw [Becomes, (exec_time_taken ht).2]
    dsimp only
    rw [hi]
    dsimp only
    rw [if_neg (by rw [parentPort_setFport (by rfl) (by rfl)]; exact hpar)]
    rfl
  · rw [Becomes, exec_followUpTimeout, execFollowUpTimeout, if_pos hrun]
    rfl

end Sys2Proof.Machine
end

section
/-! SUPPORT. The time island: steps, the servo, its sources and the reference clocks (R114 to R142). -/

namespace Sys2Proof.Machine

set_option Elab.async false

/-! ### Steps of device time -/

/-- A step by `i` quarter nanoseconds is a move of device time by the same value modulo 2^64. -/
theorem stepTime_eq_movedBy {s : State} {i : Int} {d : DWord} (h : BitVec.ofInt 64 i = d) : s.stepTime i = s.movedBy d := by
  have hsoe : ∀ u : State, u.soeStep i = u.soeStep d.toInt := by
    intro u
    rw [State.soeStep, State.soeStep, h, BitVec.ofInt_toInt]
  unfold State.stepTime State.movedBy
  dsimp only
  rw [h, hsoe]

theorem nearest_exact (s : State) (n : Int) (d : Nat) (hd : 0 < d) : s.nearest (d * n) d = (n, s) := by
  have h0 : (d : Int) * n / d = n := Int.mul_ediv_cancel_left n (by omega)
  have h1 : (d : Int) * n % d = 0 := Int.mul_emod_right _ _
  unfold State.nearest
  dsimp only
  rw [h0, h1, if_pos (by omega)]

@[simp] theorem ppsSettle_time (s : State) : s.ppsSettle.time = s.time := by
  unfold State.ppsSettle
  dsimp only
  split <;> rfl

@[simp] theorem qualUpdate_time (s : State) : s.qualUpdate.time = s.time := by
  unfold State.qualUpdate
  split <;> rfl

@[simp] theorem mbPost_time (s : State) (n : Nat) (home : Bool) (src : Nat) (w : Word) :
    (s.mbPost n home src w).time = s.time := by
  have h := congrArg (fun p => p.1.time) (postless_mbPost s n home src w)
  exact h

@[simp] theorem post62_time (s : State) (src : Nat) (w : Word) : (s.post62 src w).time = s.time := by
  unfold State.post62
  split
  · exact mbPost_time _ _ _ _ _
  · rfl

@[simp] theorem drain62_time (k : Nat) (s : State) : (s.drain62 k).time = s.time := by
  induction k generalizing s with
  | zero => rfl
  | succ k ih =>
    unfold State.drain62
    split
    · rfl
    · split
      · rw [ih, mbPost_time]
      · rfl

@[simp] theorem take62_time (s : State) (src : Nat) : (s.take62 src).time = s.time := by
  unfold State.take62
  dsimp only
  split
  · rw [drain62_time]
    rfl
  · split <;> rfl

theorem qualUpdate_wasQual (s : State) : s.qualUpdate.tt.wasQual = s.qualified := by
  unfold State.qualUpdate
  split
  · next h => exact h.symm
  · rfl

theorem qualUpdate_qualified (s : State) : s.qualUpdate.qualified = s.qualified := by
  unfold State.qualUpdate
  split <;> rfl

theorem within_qualUpdate (s : State) : s.within [.tt] s.qualUpdate := by
  unfold State.qualUpdate
  split
  · exact fun b _ => by cases b <;> rfl
  · intro b hb
    cases b <;> first | rfl | exact absurd hb (by decide)

/-- An update of the qualification, at the end of a command. -/
theorem qualUpdate_done (s : State) : s.qualUpdate.settle.tt.wasQual = s.qualified ∧
    s.qualUpdate.settle.qualified = s.qualified ∧ s.within [.tt, .sys, .host] s.qualUpdate.settle :=
  ⟨qualUpdate_wasQual s, qualUpdate_qualified s,
    ((within_qualUpdate s).mono (by decide)).trans ((within_settle _).mono (by decide))⟩

theorem exec_servoStepApply_posted {s : State} {n : Int} (hrun : s.running = true) (hp : s.time.posted = some (16384 * n)) :
    exec .servoStepApply s =
      let u := State.take62 { s with time := { s.time with posted := none } } 34
      if s.time.st == .freerun || s.time.st == .acquire then (u.movedBy (BitVec.ofInt 64 (-n))).done else u.done := by
  have hst : (State.take62 { s with time := { s.time with posted := none } } 34).time.st = s.time.st := by
    rw [take62_time]
  have hneg : -(16384 * n) = ((16384 : Nat) : Int) * -n := by omega
  rw [exec_servoStepApply, execServoStepApply, hp]
  dsimp only
  rw [if_pos hrun, hst, hneg, nearest_exact _ _ _ (by decide)]
  dsimp only
  rw [stepTime_eq_movedBy rfl]

/-- Settles O44: a step is `movedBy` the same value modulo 2^64; the alarms and the reference clocks are single updates
behind one comparison each. -/
theorem timeStepsAndReferenceClocks : Obligations.TimeStepsAndReferenceClocks := by
  unfold Obligations.TimeStepsAndReferenceClocks
  refine ⟨fun q s u h => ⟨fun hst => becomes_served (exec_timeStepRequest q s) h ?_,
      fun hst => becomes_refused (exec_timeStepRequest q s) h ?_⟩,
    fun q s u h => ⟨fun hst => becomes_served (exec_timeSetRequest q s) h ?_,
      fun hst => becomes_refused (exec_timeSetRequest q s) h ?_⟩,
    fun q s u h => ⟨fun hsrc => becomes_refused (exec_utcOffsetSet q s) h ?_,
      fun hsrc hw hboth => becomes_served (exec_utcOffsetSet q s) h ?_,
      fun hsrc h61 h59 => becomes_refused (exec_utcOffsetSet q s) h ?_⟩,
    fun s n hrun hp => ⟨fun hst => ?_, fun hst => ?_⟩, fun s hrun hl hm => ?_, fun s hrun h61 hl hm => ?_,
    fun s hrun h61 h59 => ?_, fun s hrun => ⟨fun hl => ?_, fun hl => ?_, fun hq hl hlate => ?_, fun hor => ?_⟩,
    fun s hrun => ⟨fun hst hno => ?_, fun hok => ?_, fun hclear => ?_, fun hno => ?_⟩,
    fun s hrun => ⟨fun hA hbad hB => ?_, fun hA hB => ?_, ?_, fun hB hon => ?_, fun hB hon hring => ?_, ?_⟩⟩
  · rw [if_pos (by simpa using hst), stepTime_eq_movedBy BitVec.ofInt_toInt]
  · rw [if_neg (by rcases hst with hl | hl <;> rw [hl] <;> decide)]
  · have hd : BitVec.ofInt 64 (((q.dword 1).toNat : Int) - u.time.t.toNat) = q.dword 1 - u.time.t := by
      apply BitVec.eq_of_toInt_eq
      rw [BitVec.toInt_ofInt, BitVec.toInt_sub, BitVec.toInt_eq_toNat_bmod, BitVec.toInt_eq_toNat_bmod,
        Int.bmod_sub_bmod, Int.sub_bmod_bmod]
    rw [hst, stepTime_eq_movedBy hd]
    rfl
  · rw [if_neg (by simpa using hst)]
  · dsimp only
    rw [if_pos (by rcases hsrc with hl | hl <;> rw [hl] <;> decide)]
  · dsimp only
    rw [if_neg (by rcases hsrc with hl | hl <;> rw [hl] <;> decide), if_neg]
    rw [Bool.or_eq_true, Bool.and_eq_true, decide_eq_true_iff]
    exact fun hor => hor.elim hboth (Nat.not_le.2 hw)
  · dsimp only
    rw [if_neg (by rcases hsrc with hl | hl <;> rw [hl] <;> decide), h61, h59]
    rfl
  · rw [Becomes, exec_servoStepApply_posted hrun hp]
    dsimp only
    rw [if_pos (by simpa using hst)]
    rfl
  · rw [Becomes, exec_servoStepApply_posted hrun hp]
    dsimp only
    rw [if_neg (by rcases hst with hl | hl <;> rw [hl] <;> decide)]
    rfl
  · rw [Becomes, exec_leapSecond, execLeapSecond, if_pos hrun]
    dsimp only
    rw [hl, hm]
    rfl
  · rw [Becomes, exec_leapSecond, execLeapSecond, if_pos hrun]
    dsimp only
    rw [h61, hl, hm]
    rfl
  · have no61 : ¬ ((s.time.leap61 && s.pastMidnight 1) = true) := fun hb => by
      rw [Bool.and_eq_true] at hb
      exact absurd (h61 hb.1) (by rw [hb.2]; decide)
    have no59 : ¬ ((s.time.leap59 && s.pastMidnight (-1)) = true) := fun hb => by
      rw [Bool.and_eq_true] at hb
      exact absurd (h59 hb.1) (by rw [hb.2]; decide)
    rw [Idles, Becomes, exec_leapSecond, execLeapSecond, if_pos hrun]
    dsimp only
    rw [if_neg no61, if_neg no59]
    rfl
  · rw [Becomes, exec_timeUnlockedAlarm, execTimeUnlockedAlarm, hrun, hl]
    rfl
  · rw [exec_timeUnlockedAlarm, execTimeUnlockedAlarm, hl, Bool.and_false]
    rfl
  · rw [Becomes, exec_ttUnqualifiedAlarm, execTtUnqualifiedAlarm, hrun, hl, hq, decide_eq_true hlate]
    rfl
  · have hno : (s.running && !s.qualified && s.longUp && decide (s.tt.qualAt + sec 120 < s.sys.mono)) = false := by
      rcases hor with hq | hle
      · rw [hq]
        simp
      · rw [decide_eq_false (Nat.not_lt.2 hle), Bool.and_false]
    rw [exec_ttUnqualifiedAlarm, execTtUnqualifiedAlarm, hno]
    rfl
  · have hq : s.qualified = (s.selfRef && s.stepClear) := by
      rw [State.qualified, hst, hno]
      rfl
    obtain ⟨hwas, hnow, hin⟩ := qualUpdate_done s
    exact ⟨s.qualUpdate.settle, by rw [exec_holdoverMaxExpiry, execHoldoverMaxExpiry, hrun, hst, hno]; rfl,
      hwas.trans hq, hnow.trans hq, hin⟩
  · rw [exec_holdoverMaxExpiry, execHoldoverMaxExpiry, hok, Bool.not_true, Bool.and_false]
    rfl
  · obtain ⟨hwas, hnow, hin⟩ := qualUpdate_done s
    refine ⟨s.qualUpdate.settle, by rw [exec_selfRefStepHoldEnd, execSelfRefStepHoldEnd, hrun, hclear]; rfl,
      hwas.trans hnow.symm, fun href => hnow.trans ?_, hin⟩
    rw [State.qualified, href, hclear]
    simp
  · rw [exec_selfRefStepHoldEnd, execSelfRefStepHoldEnd, hno, Bool.and_false]
    rfl
  · have hrun' : State.running { s with sys := { s.sys with refA := false } } = true := hrun
    rw [Becomes, exec_refclkALoss, execRefclkALoss, hA, if_neg (by decide)]
    dsimp only
    rw [hrun', if_neg (by decide), hbad, hB]
    rfl
  · have hrun' : State.running { s with sys := { s.sys with refA := false } } = true := hrun
    rw [Becomes, exec_refclkALoss, execRefclkALoss, hA, if_neg (by decide)]
    dsimp only
    rw [hrun', if_neg (by decide), if_pos (by simpa using hB)]
    rfl
  · rw [Becomes, exec_refclkARestore, execRefclkARestore]
    exact if_pos hrun
  · have hrun' : State.running { s with sys := { s.sys with refB := false } } = true := hrun
    rw [Becomes, exec_refclkBLoss, execRefclkBLoss, hB, if_neg (by decide)]
    dsimp only
    rw [hrun', if_neg (by decide), if_pos hon]
    rfl
  · have hrun' : State.running { s with sys := { s.sys with refB := false } } = true := hrun
    have hring' : (State.logFault { s with sys := { s.sys with refB := false } } 6 2 0xFF 0 0).tt.ring = false := hring
    rw [Becomes, exec_refclkBLoss, execRefclkBLoss, hB, if_neg (by decide)]
    dsimp only
    rw [hrun', if_neg (by decide), hon, if_neg (by decide), hring', if_neg (by decide)]
    rfl
  · rw [Becomes, exec_refclkBRestore, execRefclkBRestore]
    exact if_pos hrun

end Sys2Proof.Machine
end

section
/-! SUPPORT. The servo and its sources: what each of its operations leaves of the time island (R129 to R133, R140, R141). -/

namespace Sys2Proof.Machine

set_option Elab.async false

section
variable (s : State)

@[simp] theorem whole_time (n : Int) (d : Nat) : (s.whole n d).2.time = s.time := by
  unfold State.whole
  split <;> rfl

@[simp] theorem nearest_time (n : Int) (d : Nat) : (s.nearest n d).2.time = s.time := by
  unfold State.nearest
  dsimp only
  split
  · rfl
  · split <;> rfl

theorem whole_exact (n : Int) (d : Nat) (hd : 0 < d) : s.whole (d * n) d = (n, s) := by
  rw [State.whole, if_pos (Int.mul_emod_right _ _), Int.mul_ediv_cancel_left n (by omega)]

@[simp] theorem offsetRule_time (off : Int) (n : Nat) : (s.offsetRule off n).time = s.time := by
  unfold State.offsetRule
  split
  · rfl
  · dsimp only
    split
    · split
      · rfl
      · exact whole_time s _ _
    · split
      · split
        · rfl
        · split <;> rfl
      · rfl

/-- The offset that a sample leaves. -/
@[simp] theorem noteSample_time (m : Sample) : (s.noteSample m).time = { s.time with offset := m.offset } := by
  unfold State.noteSample
  exact foldl_same State.time _ (fun t n => offsetRule_time t _ n) _ _

/-- What the servo's law sets. -/
theorem servoLaw_time (m : Sample) : ∃ i r f, (s.servoLaw m).time =
    { s.time with entered := true, lastStamp := m.stamp, integ := i, intReset := r, freq := f } := by
  unfold State.servoLaw
  dsimp only
  split
  · exact ⟨_, _, _, rfl⟩
  · split
    · exact ⟨_, _, _, rfl⟩
    · generalize hp : State.nearest _ _ _ = p
      have ht := congrArg (fun x : Int × State => x.2.time) hp
      dsimp only at ht ⊢
      rw [nearest_time] at ht
      exact ⟨_, _, _, congrArg (fun t : TimeBlk => { t with freq := BitVec.ofInt 64 p.1 }) ht.symm⟩

theorem noteFreq_time : ∃ l, s.noteFreq.time = { s.time with freqs := l } := by
  unfold State.noteFreq
  split
  · exact ⟨_, rfl⟩
  · exact ⟨_, rfl⟩

/-- Entering ACQUIRE or LOCKED. -/
theorem enterServo_time {st : ServoState} (h : st = .acquire ∨ st = .locked) : (s.enterServo st).time =
    { s.time with st := st, holdoverS := s.holdoverSecs, runLow := 0, runMid := 0, runOut := 0 } := by
  rcases h with rfl | rfl
  · exact (qualUpdate_time _).trans (ppsSettle_time _)
  · exact (qualUpdate_time _).trans (ppsSettle_time _)

theorem enterServo_freerun_time : (s.enterServo .freerun).time =
    { s.time with st := .freerun, holdoverS := s.holdoverSecs, runLow := 0, runMid := 0, runOut := 0, entered := false } :=
  (qualUpdate_time _).trans (ppsSettle_time _)

end

/-- The fields of the time island that the sampling of a source leaves alone. -/
def TimeBlk.kept (t : TimeBlk) : TimeBlk :=
  { t with st := .freerun, offset := 0, freq := 0, outlier := 0, holdoverS := 0, holdAt := 0, runLow := 0, runMid := 0,
           runOut := 0, freqs := [], entered := false, posted := none, lastStamp := 0, integ := {}, intReset := true,
           validAt := 0, secAt := none, utc := 0, leap61 := false, leap59 := false, linkDelay := [] }

/-- The state in which the servo judges a sample of the active source. -/
def State.heard (s : State) : State := { s with time := { s.time with validAt := s.sys.mono, secAt := none } }

/-- The servo on a sample of the active source that it takes. -/
theorem servoSample_active {s : State} {k : Nat} {m : Sample} (u : Option UtcInfo) (hk : k ≠ 0) (hsrc : s.time.src = k)
    (hpost : s.time.posted = none) (hoff : m.offValid = true) (href : m.newRef = false) (hpd : m.pdValid = false) :
    s.servoSample k m u = (State.heard (match u with | some u => s.takeUtc u | none => s)).judgeSample m := by
  have h1 : (decide (k ≠ 0) && decide (k ≠ s.time.src)) = false := by
    rw [decide_eq_false (not_not_intro hsrc.symm), Bool.and_false]
  have h2 : (decide (k = 0) || decide (k ≠ s.time.src) || s.time.posted.isSome) = false := by
    rw [decide_eq_false hk, decide_eq_false (not_not_intro hsrc.symm), hpost]
    rfl
  cases u <;>
    simp only [State.servoSample, h1, h2, hpd, href, hoff, Bool.false_and, Bool.false_eq_true, if_false, if_true] <;> rfl

theorem exec_servoSample_sampled {s : State} {src : Fin 4} {m : Sample} (h : s.sampled src m) :
    exec (.servoSample src m none) s = .next (s.heard.judgeSample m).settle := by
  obtain ⟨hrun, hsrc, hne, hpost, hoff, href, hpd⟩ := h
  rw [exec_servoSample, execServoSample, if_pos hrun, servoSample_active none hne hsrc hpost hoff href hpd]
  rfl

/-! ### The judgement of a sample -/

theorem servoSteps_time (s : State) (m : Sample) : ∃ i r f l, ((s.noteSample m).servoLaw m).noteFreq.time =
    { s.time with offset := m.offset, entered := true, lastStamp := m.stamp, integ := i, intReset := r, freq := f, freqs := l } := by
  obtain ⟨l, hl⟩ := noteFreq_time ((s.noteSample m).servoLaw m)
  obtain ⟨i, r, f, hf⟩ := servoLaw_time (s.noteSample m) m
  exact ⟨i, r, f, l, by rw [hl, hf, noteSample_time]⟩

/-- The class of a sample by its offset. -/
def State.sampleClass (s : State) (m : Sample) : Nat :=
  if m.offset.toInt.natAbs < s.time.lockAt then 0 else if m.offset.toInt.natAbs < s.time.stepAt then 1 else 2

/-- The judgement of a sample in LOCKED, and in ACQUIRE. -/
theorem judgeSample_locked {s : State} (m : Sample) (hst : s.time.st = .locked) : s.judgeSample m =
    let u := s.countRun (s.sampleClass m)
    if s.sampleClass m = 2 then
      let v : State := { u with time := { u.time with outlier := satInc u.time.outlier } }
      if v.outlierN ≤ v.time.runOut then v.enterServo .acquire else v
    else
      let v := if 8 ≤ u.time.runMid then u.enterServo .acquire else u
      ((v.noteSample m).servoLaw m).noteFreq := by
  have h1 : (s.time.st == .freerun || s.time.st == .holdover) = false := by rw [hst]; rfl
  have h2 : ((s.countRun (s.sampleClass m)).time.st == .locked) = true := by
    rw [show (s.countRun (s.sampleClass m)).time.st = s.time.st from rfl, hst]
    rfl
  unfold State.judgeSample
  dsimp only
  rw [h1, if_neg Bool.false_ne_true, show (if m.offset.toInt.natAbs < s.time.lockAt then 0 else
    if m.offset.toInt.natAbs < s.time.stepAt then 1 else 2) = s.sampleClass m from rfl, h2, if_pos rfl]

theorem judgeSample_acquire {s : State} (m : Sample) (hst : s.time.st = .acquire) : s.judgeSample m =
    let u := s.countRun (s.sampleClass m)
    if s.sampleClass m = 2 then
      let v := u.noteSample m
      State.post62 { v.draw with time := { v.time with posted := some m.offset.toInt, lastStamp := m.stamp } } 34
        (Free.word v.sys.draws)
    else
      let v := if 8 ≤ u.time.runLow then u.enterServo .locked else u
      ((v.noteSample m).servoLaw m).noteFreq := by
  have h1 : (s.time.st == .freerun || s.time.st == .holdover) = false := by rw [hst]; rfl
  have h2 : ((s.countRun (s.sampleClass m)).time.st == .locked) = false := by
    rw [show (s.countRun (s.sampleClass m)).time.st = s.time.st from rfl, hst]
    rfl
  unfold State.judgeSample
  dsimp only
  rw [h1, if_neg Bool.false_ne_true, show (if m.offset.toInt.natAbs < s.time.lockAt then 0 else
    if m.offset.toInt.natAbs < s.time.stepAt then 1 else 2) = s.sampleClass m from rfl, h2, if_neg Bool.false_ne_true]

/-- Out of FREERUN the sample is judged in ACQUIRE, which it enters. -/
theorem judgeSample_entering {s : State} (m : Sample) (hst : s.time.st = .freerun ∨ s.time.st = .holdover) :
    s.judgeSample m = (s.enterServo .acquire).judgeSample m := by
  have h1 : (s.time.st == .freerun || s.time.st == .holdover) = true := by simpa using hst
  have htime := enterServo_time s (.inl rfl : ServoState.acquire = .acquire ∨ _)
  have hacq : (s.enterServo .acquire).time.st = .acquire := by rw [htime]
  have hcls : (s.enterServo .acquire).sampleClass m = s.sampleClass m := by
    unfold State.sampleClass
    rw [htime]
    rfl
  rw [judgeSample_acquire m hacq, hcls]
  have h2 : (((s.enterServo .acquire).countRun (s.sampleClass m)).time.st == .locked) = false := by
    rw [show ((s.enterServo .acquire).countRun (s.sampleClass m)).time.st = (s.enterServo .acquire).time.st from rfl, hacq]
    rfl
  unfold State.judgeSample
  dsimp only
  rw [h1, if_pos rfl, show (if m.offset.toInt.natAbs < s.time.lockAt then 0 else
    if m.offset.toInt.natAbs < s.time.stepAt then 1 else 2) = s.sampleClass m from rfl, h2, if_neg Bool.false_ne_true]

theorem sampleClass_low {s : State} {m : Sample} (h : m.offset.toInt.natAbs < s.time.lockAt) : s.sampleClass m = 0 :=
  if_pos h

theorem sampleClass_outlier {s : State} {m : Sample} (hlo : s.time.lockAt ≤ m.offset.toInt.natAbs)
    (hhi : s.time.stepAt ≤ m.offset.toInt.natAbs) : s.sampleClass m = 2 := by
  rw [State.sampleClass, if_neg (Nat.not_lt.2 hlo), if_neg (Nat.not_lt.2 hhi)]

/-- The sampling of a source leaves the fields of `TimeBlk.kept`. -/
theorem judgeSample_kept (s : State) (m : Sample) : (s.judgeSample m).time.kept = s.time.kept := by
  have steps : ∀ u : State, (((u.noteSample m).servoLaw m).noteFreq).time.kept = u.time.kept := by
    intro u
    obtain ⟨i, r, f, l, h⟩ := servoSteps_time u m
    rw [h]
    rfl
  have enter : ∀ (u : State) (st : ServoState), st = .acquire ∨ st = .locked → (u.enterServo st).time.kept = u.time.kept := by
    intro u st hst
    rw [enterServo_time u hst]
    rfl
  have acq : ∀ u : State, u.time.st = .acquire → (u.judgeSample m).time.kept = u.time.kept := by
    intro u hu
    rw [judgeSample_acquire m hu]
    dsimp only
    split
    · rw [post62_time]
      dsimp only
      rw [noteSample_time]
      rfl
    · rw [steps]
      split
      · exact enter _ _ (.inr rfl)
      · rfl
  cases hst : s.time.st with
  | freerun =>
    rw [judgeSample_entering m (.inl hst), acq _ (by rw [enterServo_time s (.inl rfl)]), enter _ _ (.inl rfl)]
  | holdover =>
    rw [judgeSample_entering m (.inr hst), acq _ (by rw [enterServo_time s (.inl rfl)]), enter _ _ (.inl rfl)]
  | acquire => exact acq s hst
  | locked =>
    rw [judgeSample_locked m hst]
    dsimp only
    split
    · split
      · exact enter _ _ (.inl rfl)
      · rfl
    · rw [steps]
      split
      · exact enter _ _ (.inl rfl)
      · rfl

theorem enterServo_time_settle {s : State} {st : ServoState} (h : st = .acquire ∨ st = .locked) :
    (s.enterServo st).settle.time =
    { s.time with st := st, holdoverS := s.holdoverSecs, runLow := 0, runMid := 0, runOut := 0 } := by
  rw [settle_time, enterServo_time s h]

/-- The clock's loss of its source in LOCKED: the mean of the corrections kept. -/
theorem enterServo_holdover_time {s : State} {n : Nat} {f : Int} (hf : s.time.freqs = List.replicate (n + 1) f) :
    (s.enterServo .holdover).time =
    { s.time with st := .holdover, freq := BitVec.ofInt 64 f, holdAt := s.sys.mono, holdoverS := 0, runLow := 0,
                  runMid := 0, runOut := 0 } := by
  have hsum : ∀ k (a : Int), (List.replicate k f).foldl (· + ·) a = a + k * f := by
    intro k
    induction k with
    | zero => intro a; simp
    | succ k ih =>
      intro a
      rw [List.replicate_succ, List.foldl_cons, ih, show ((k + 1 : Nat) : Int) = k + 1 from rfl, Int.add_mul]
      omega
  have hw : s.whole (s.time.freqs.foldl (· + ·) 0) s.time.freqs.length = (f, s) := by
    rw [hf, hsum, List.length_replicate, Int.zero_add]
    exact whole_exact s f (n + 1) (by omega)
  have he : s.time.freqs.isEmpty = false := by rw [hf]; rfl
  unfold State.enterServo
  dsimp only
  rw [he, if_neg Bool.false_ne_true, hw, qualUpdate_time]

/-- A sample that the servo does not take. -/
theorem servoSample_dropped {s : State} {k : Nat} {m : Sample} (u : Option UtcInfo)
    (h : k = 0 ∨ k = s.time.src ∧ s.time.posted ≠ none ∨ k ≠ s.time.src ∧ m.offValid = false) :
    s.servoSample k m u = s.dropSample := by
  have h1 : (decide (k ≠ 0) && decide (k ≠ s.time.src) && m.offValid) = false := by
    rcases h with hk | ⟨hk, -⟩ | ⟨-, hoff⟩
    · simp [hk]
    · simp [hk]
    · rw [hoff, Bool.and_false]
  have h2 : (decide (k = 0) || decide (k ≠ s.time.src) || s.time.posted.isSome) = true := by
    rcases h with hk | ⟨-, hp⟩ | ⟨hk, -⟩
    · simp [hk]
    · rw [Option.isSome_iff_ne_none.2 hp, Bool.or_true]
    · simp [hk]
  simp only [State.servoSample, h1, h2, Bool.false_eq_true, if_false, if_true]

theorem exec_sourceLossTimeout_lost {s : State} (hrun : s.running = true) (hsrc : s.time.src ≠ 0)
    (hle : s.time.validAt + s.lossTime ≤ s.sys.mono) : exec .sourceLossTimeout s =
      if s.time.src == s.primary && s.secondary != 0 && s.time.secAt.isSome then
        (State.enterServo { s with time := { s.time with src := s.secondary, secAt := none, priFrom := none } } .acquire).done
      else if s.time.st == .acquire then (s.enterServo .freerun).done
      else if s.time.st == .locked then (s.enterServo .holdover).done
      else s.done := by
  rw [exec_sourceLossTimeout, execSourceLossTimeout, hrun, decide_eq_true hle, bne_iff_ne.2 hsrc]
  rfl

theorem noSecondary {s : State} (h : s.time.src ≠ s.primary ∨ s.secondary = 0 ∨ s.time.secAt = none) :
    ¬ ((s.time.src == s.primary && s.secondary != 0 && s.time.secAt.isSome) = true) := by
  rcases h with h | h | h <;> simp [h]

theorem pulsesClean_iff {l : List (Nat × DWord)} : l.all (fun p => p.1 != 3) = true ↔ ∀ x ∈ l, x.1 ≠ 3 := by
  simp

/-- The time island once a valid IRIG-B frame in sequence has come. -/
def State.framed (s : State) (f : IrigFrame) : State :=
  { s with time := { s.time with
      irigPulses := s.time.irigPulses.drop (s.time.irigPulses.length - 1), irigLast := some f.second, irigBad := false,
      irigAt := s.sys.mono, irigZone := f.zone, irigDst := f.dst, irigQual := f.quality.toNat } }

/-- A good IRIG-B frame that is not the next second. -/
theorem exec_irigBFrame_gap {s : State} {f : IrigFrame} {l : Nat} (hrun : s.running = true) (hin : s.irigIn = true)
    (hgood : (f.valid && s.time.irigPulses.all (fun p => p.1 != 3)) = true) (hl : s.time.irigLast = some l)
    (hne : f.second ≠ l + 1) : exec (.irigBFrame f) s = State.done { s with time := { s.time with
      irigPulses := s.time.irigPulses.drop (s.time.irigPulses.length - 1), irigLast := some f.second
      irigErr := satInc s.time.irigErr } } := by
  rw [exec_irigBFrame, execIrigBFrame, if_pos (by rw [hrun, hin]; rfl)]
  dsimp only
  rw [hgood]
  simp only [hl, beq_eq_false_iff_ne.2 hne, Bool.and_false, Bool.false_eq_true, if_false, if_true]

/-- A good IRIG-B frame that is the next second, with IRIG-B the active source. -/
theorem exec_irigBFrame_next {s : State} {f : IrigFrame} (hrun : s.running = true) (hin : s.irigIn = true)
    (hgood : (f.valid && s.time.irigPulses.all (fun p => p.1 != 3)) = true)
    (hnext : ∀ l, s.time.irigLast = some l → f.second = l + 1) (hsrc : s.time.src = 2) :
    exec (.irigBFrame f) s = ((s.framed f).servoSample 2 (s.irigSample f) (some f.leap)).done := by
  rw [exec_irigBFrame, execIrigBFrame, if_pos (by rw [hrun, hin]; rfl)]
  dsimp only
  rw [hgood]
  cases hl : s.time.irigLast with
  | none => simp only [hsrc, Bool.and_self, BEq.rfl, if_true, State.framed]
  | some l => simp only [hnext l hl, hsrc, Bool.and_self, BEq.rfl, if_true, State.framed]

/-- The judgement of an edge of PPS_IN that lies a whole number of nanoseconds from the second. -/
theorem exec_ppsInEdge_judged {x : DWord} {s : State} {ns : Int} (hrun : s.running = true) (hmode : s.ppsMode = 1)
    (hns : ((x.toNat % 4000000000 : Nat) : Int) = 4 * ns ∨ ((x.toNat % 4000000000 : Nat) : Int) - 4000000000 = 4 * ns)
    (hlo : -500000000 < ns) (hhi : ns ≤ 500000000) : exec (.ppsInEdge x) s =
      (let bad := s.ppsLimit != 0 && s.ppsLimit < ns.natAbs
       let good := if bad then 0 else min 4 (s.time.ppsGood + 1)
       State.done { s with time := { s.time with
         ppsStamp := x, ppsAt := s.sys.mono, ppsOfs := BitVec.ofInt 32 ns, ppsGood := good
         ppsBad := bad || (s.time.ppsBad && good < 4) } }) := by
  have hd : (if 2000000000 < ((x.toNat % 4000000000 : Nat) : Int) then ((x.toNat % 4000000000 : Nat) : Int) - 4000000000
      else ((x.toNat % 4000000000 : Nat) : Int)) = ((4 : Nat) : Int) * ns := by
    split <;> omega
  rw [exec_ppsInEdge, execPpsInEdge, if_pos (by rw [hrun, hmode]; rfl)]
  dsimp only
  rw [if_pos (by exact beq_iff_eq.2 hmode), hd, whole_exact _ ns 4 (by decide)]
  rfl

/-- Settles O45: a sample's judgement is one path of its class and the servo's state; every other operation of the servo
leaves the fields that the statement reads. -/
theorem servoFollowsItsSource : Obligations.ServoFollowsItsSource := by
  unfold Obligations.ServoFollowsItsSource
  refine ⟨fun src m u s hrun hor => ?_, fun src m s h hst hhi hlo => ?_, fun src m s h hst hhi hlo => ?_,
    fun src m s h hst hlow => ?_, fun src m s h hst hlow => ?_, fun s hlt => ?_,
    fun s hrun hsrc hle => ⟨fun hpri hsec hat => ?_, fun hor => ⟨fun hst => ?_, fun hst n f hf => ?_, fun hst => ?_⟩⟩,
    fun f s hrun hin => ⟨fun hbad => ?_, fun l hval hclean hlast hne => ?_, fun hval hclean hnext hsrc hpost => ?_⟩,
    fun s hrun hin => ⟨fun hle => ?_, fun hlt => ?_⟩, fun x s ns hrun hmode hns hlo hhi => ?_, fun x s hrun hmode => ?_,
    fun s hrun hmode => ⟨fun hle => ?_, fun hlt => ?_⟩⟩
  · rw [Becomes, exec_servoSample, execServoSample, if_pos hrun, servoSample_dropped u hor]
    rfl
  · refine ⟨_, exec_servoSample_sampled h, ?_⟩
    have hcls : s.heard.sampleClass m = 2 := sampleClass_outlier hlo hhi
    dsimp only
    rw [settle_time, judgeSample_locked m (by exact hst), hcls]
    dsimp only
    rw [if_pos rfl]
    by_cases hn : s.outlierN ≤ s.time.runOut + 1
    · rw [if_pos hn, if_pos (by exact hn), enterServo_time _ (.inl rfl)]
      exact ⟨rfl, rfl, rfl, rfl, rfl⟩
    · rw [if_neg hn, if_neg (by exact hn)]
      exact ⟨rfl, rfl, rfl, rfl, hst⟩
  · refine ⟨_, exec_servoSample_sampled h, ?_⟩
    have hcls : s.heard.sampleClass m = 2 := sampleClass_outlier hlo hhi
    dsimp only
    rw [settle_time, judgeSample_acquire m (by exact hst), hcls]
    dsimp only
    rw [if_pos rfl, post62_time]
    dsimp only
    rw [noteSample_time]
    exact ⟨rfl, rfl, rfl, rfl, hst⟩
  · refine ⟨_, exec_servoSample_sampled h, ?_⟩
    have hcls : s.heard.sampleClass m = 0 := sampleClass_low hlow
    dsimp only
    rw [settle_time, judgeSample_acquire m (by exact hst), hcls]
    dsimp only
    rw [if_neg (by decide)]
    obtain ⟨i, r, f, l, ht⟩ := servoSteps_time
      (if 8 ≤ (s.heard.countRun 0).time.runLow then (s.heard.countRun 0).enterServo .locked else s.heard.countRun 0) m
    rw [ht]
    by_cases hn : 8 ≤ s.time.runLow + 1
    · rw [if_pos hn, if_pos (by exact hn), enterServo_time _ (.inr rfl)]
      exact ⟨rfl, rfl, h.2.2.2.1, rfl, rfl⟩
    · rw [if_neg hn, if_neg (by exact hn)]
      exact ⟨hst, rfl, h.2.2.2.1, rfl, rfl⟩
  · refine ⟨_, exec_servoSample_sampled h, ?_⟩
    have htime := enterServo_time s.heard (.inl rfl : ServoState.acquire = .acquire ∨ _)
    have hcls : (s.heard.enterServo .acquire).sampleClass m = 0 := sampleClass_low (by rw [htime]; exact hlow)
    have hlow0 : ¬ 8 ≤ ((s.heard.enterServo .acquire).countRun 0).time.runLow := by
      rw [show ((s.heard.enterServo .acquire).countRun 0).time.runLow = (s.heard.enterServo .acquire).time.runLow + 1 from rfl,
        htime]
      exact (by decide : ¬ 8 ≤ 0 + 1)
    dsimp only
    rw [settle_time, judgeSample_entering m (.inl (by exact hst)), judgeSample_acquire m (by rw [htime]), hcls]
    dsimp only
    rw [if_neg (by decide), if_neg hlow0]
    obtain ⟨i, r, f, l, ht⟩ := servoSteps_time ((s.heard.enterServo .acquire).countRun 0) m
    rw [ht, State.countRun, htime]
    exact ⟨rfl, rfl, rfl, rfl⟩
  · rw [exec_sourceLossTimeout, execSourceLossTimeout, decide_eq_false (Nat.not_le.2 hlt), Bool.and_false]
    rfl
  · refine ⟨_, by rw [exec_sourceLossTimeout_lost hrun hsrc hle, if_pos (by simp [hpri, hsec, hat])]; rfl, ?_⟩
    dsimp only
    rw [enterServo_time_settle (.inl rfl)]
    exact ⟨rfl, rfl, rfl⟩
  · refine ⟨_, by rw [exec_sourceLossTimeout_lost hrun hsrc hle, if_neg (noSecondary hor), hst]; rfl, ?_⟩
    dsimp only
    rw [settle_time, enterServo_freerun_time]
    exact ⟨rfl, rfl⟩
  · refine ⟨_, by rw [exec_sourceLossTimeout_lost hrun hsrc hle, if_neg (noSecondary hor), hst]; rfl, ?_⟩
    dsimp only
    rw [settle_time, enterServo_holdover_time hf]
    exact ⟨rfl, rfl, rfl⟩
  · rw [Idles, Becomes, exec_sourceLossTimeout_lost hrun hsrc hle, if_neg (noSecondary hor), hst]
    rfl
  · have hgood : (f.valid && s.time.irigPulses.all (fun p => p.1 != 3)) = false := by
      rcases hbad with hv | hc
      · rw [hv, Bool.false_and]
      · rw [Bool.eq_false_iff.2 (mt pulsesClean_iff.1 hc), Bool.and_false]
    rw [Becomes, exec_irigBFrame, execIrigBFrame, if_pos (by rw [hrun, hin]; rfl)]
    dsimp only
    rw [hgood]
    rfl
  · have hgood : (f.valid && s.time.irigPulses.all (fun p => p.1 != 3)) = true := by
      rw [hval, pulsesClean_iff.2 hclean]
      rfl
    exact exec_irigBFrame_gap hrun hin hgood hlast hne
  · have hgood : (f.valid && s.time.irigPulses.all (fun p => p.1 != 3)) = true := by
      rw [hval, pulsesClean_iff.2 hclean]
      rfl
    have htake : (s.framed f).servoSample 2 (s.irigSample f) (some f.leap) =
        (State.heard ((s.framed f).takeUtc f.leap)).judgeSample (s.irigSample f) :=
      servoSample_active (some f.leap) (by decide) hsrc hpost rfl rfl rfl
    refine ⟨((State.heard ((s.framed f).takeUtc f.leap)).judgeSample (s.irigSample f)).settle, ?_, ?_⟩
    · rw [← htake]
      exact exec_irigBFrame_next hrun hin hgood hnext hsrc
    · have hk := judgeSample_kept (State.heard ((s.framed f).takeUtc f.leap)) (s.irigSample f)
      dsimp only
      rw [settle_time]
      generalize ((State.heard ((s.framed f).takeUtc f.leap)).judgeSample (s.irigSample f)).time = t at hk ⊢
      have hz := congrArg TimeBlk.irigZone hk
      have hd := congrArg TimeBlk.irigDst hk
      have hb := congrArg TimeBlk.irigBad hk
      have hp := congrArg TimeBlk.irigPulses hk
      have hl := congrArg TimeBlk.irigLast hk
      have he := congrArg TimeBlk.irigErr hk
      have ha := congrArg TimeBlk.irigAt hk
      have hq := congrArg TimeBlk.irigQual hk
      exact ⟨hb, hp, hl, he, ha, hz, hd, hq⟩
  · rw [Becomes, exec_irigBLossTimeout, execIrigBLossTimeout, hrun, hin, decide_eq_true hle]
    rfl
  · rw [exec_irigBLossTimeout, execIrigBLossTimeout, decide_eq_false (Nat.not_le.2 hlt), Bool.and_false]
    rfl
  · refine ⟨_, exec_ppsInEdge_judged hrun hmode hns hlo hhi, ?_⟩
    dsimp only
    rw [settle_time]
    refine ⟨rfl, rfl, rfl, fun hbad => ?_, fun hgood => ?_, ?_⟩
    · have hb : (s.ppsLimit != 0 && decide (s.ppsLimit < ns.natAbs)) = true := by simp [hbad.1, hbad.2]
      rw [hb]
      exact ⟨rfl, rfl⟩
    · have hb : (s.ppsLimit != 0 && decide (s.ppsLimit < ns.natAbs)) = false :=
        Bool.eq_false_iff.2 fun h => hgood (by simpa using h)
      have hlt : decide (min 4 (s.time.ppsGood + 1) < 4) = decide (s.time.ppsGood < 3) :=
        decide_eq_decide.2 (by omega)
      rw [hb]
      exact congrArg (s.time.ppsBad && ·) hlt
    · refine State.within.trans ?_ ((within_settle _).mono (by decide))
      intro b hb
      cases b <;> first | rfl | exact absurd hb (by decide)
  · rw [Becomes, exec_ppsInEdge, execPpsInEdge, if_pos (by rw [hrun, hmode]; rfl)]
    exact if_neg (by rw [show State.ppsMode { s with time := { s.time with ppsStamp := x, ppsAt := s.sys.mono } } = s.ppsMode from rfl, hmode]; decide)
  · rw [Becomes, exec_ppsInTimeout, execPpsInTimeout, hrun, hmode, decide_eq_true hle]
    rfl
  · rw [exec_ppsInTimeout, execPpsInTimeout, decide_eq_false (Nat.not_le.2 hlt), Bool.and_false]
    rfl

end Sys2Proof.Machine
end

section
/-! SUPPORT. Schedules, their swaps and the guardian (R211, R216, R220 to R230). -/

namespace Sys2Proof.Machine

set_option Elab.async false

/-! ### What the CAN channels leave of the time-triggered unit -/

/-- The time-triggered unit without its channels, its log, its events and the words that wait for MB62. -/
def State.ttSolid (s : State) : TtBlk := { s.tt with chan := [], event := 0, log := [], logWr := 0, wait62 := [] }

section
variable (s : State)

@[simp] theorem ttSolid_setChan (c : Nat) (x : CanChan) : (s.setChan c x).ttSolid = s.ttSolid := rfl

@[simp] theorem ttSolid_setCobj (c k : Nat) (o : CanObj) : (s.setCobj c k o).ttSolid = s.ttSolid := rfl

@[simp] theorem ttSolid_canCount (c i : Nat) : (s.canCount c i).ttSolid = s.ttSolid := rfl

@[simp] theorem ttSolid_canEvent (c b : Nat) : (s.canEvent c b).ttSolid = s.ttSolid := rfl

@[simp] theorem ttSolid_setTchan (c : Nat) (x : TtChan) : (s.setTchan c x).ttSolid = s.ttSolid := rfl

@[simp] theorem ttSolid_ttLog (u code i : Nat) (v : Word) : (s.ttLog u code i v).ttSolid = s.ttSolid := rfl

@[simp] theorem ttSolid_draw : s.draw.ttSolid = s.ttSolid := rfl

@[simp] theorem ttSolid_attemptFails (c : Nat) : (s.attemptFails c).ttSolid = s.ttSolid := by
  unfold State.attemptFails
  dsimp only
  split
  · rfl
  · split
    · split <;> rfl
    · rfl

@[simp] theorem ttSolid_closeChans : s.closeChans.ttSolid = s.ttSolid := by
  refine foldl_same State.ttSolid _ (fun t c => ?_) _ s
  split
  · exact (ttSolid_attemptFails t c)
  · rfl

@[simp] theorem ttSolid_mbPost (n : Nat) (home : Bool) (src : Nat) (w : Word) :
    (s.mbPost n home src w).ttSolid = s.ttSolid :=
  congrArg (fun p => p.1.ttSolid) (postless_mbPost s n home src w)

@[simp] theorem ttSolid_post62 (src : Nat) (w : Word) : (s.post62 src w).ttSolid = s.ttSolid := by
  unfold State.post62
  split
  · exact ttSolid_mbPost s _ _ _ _
  · rfl

@[simp] theorem ttSolid_post62Free : s.post62Free.ttSolid = s.ttSolid := ttSolid_post62 s _ _

@[simp] theorem ttSolid_relayOne (c : Nat) : (s.relayOne c).ttSolid = s.ttSolid := by
  unfold State.relayOne
  dsimp only
  split
  · split <;> rfl
  · rfl

@[simp] theorem ttSolid_relayUpTo (c n : Nat) : (s.relayUpTo c n).ttSolid = s.ttSolid := by
  induction n generalizing s with
  | zero => rfl
  | succ n ih => exact (ih _).trans (ttSolid_relayOne s c)

@[simp] theorem ttSolid_holdNow (c : Nat) : (s.holdNow c).ttSolid = s.ttSolid := by
  unfold State.holdNow
  dsimp only
  split <;> rfl

@[simp] theorem ttSolid_canSettle : s.canSettle.ttSolid = s.ttSolid :=
  (foldl_same State.ttSolid State.holdNow ttSolid_holdNow _ _).trans
    (foldl_same State.ttSolid _ (fun t c => ttSolid_relayUpTo t c 8) _ s)

@[simp] theorem ttSolid_settle : s.settle.ttSolid = s.ttSolid := rfl

end

/-! ### Ports closed by the guardian -/

theorem cutTx_tt (s : State) (n : Nat) : (s.cutTx n).tt = s.tt := by
  unfold State.cutTx
  dsimp only
  split
  · split <;> rfl
  · rfl

theorem tport_cutTx (s : State) (n m : Nat) : (s.cutTx n).tport m = s.tport m := by
  rw [State.tport, cutTx_tt]
  rfl

/-- One port of `closePorts`. -/
def State.closePortAt (s : State) (n : Nat) : State := if s.guarded n then (s.cutTx n).listenPort n else s

theorem closePorts_eq (s : State) : s.closePorts = (List.range 64).foldl State.closePortAt s := rfl

theorem closePortAt_tt (s : State) (n : Nat) :
    (s.closePortAt n).tt = { s.tt with port := (s.closePortAt n).tt.port } := by
  unfold State.closePortAt
  split
  · rw [State.listenPort, State.setTport, cutTx_tt]
  · rfl

theorem guarded_closePortAt (s : State) (n m : Nat) : (s.closePortAt n).guarded m = s.guarded m := by
  rw [State.guarded, State.sched, State.ttBank, State.ttActive, closePortAt_tt]
  rfl

theorem listen_closePortAt {s : State} {n m : Nat} (h : (s.tport m).listen = true ∨ n = m ∧ s.guarded m = true) :
    ((s.closePortAt n).tport m).listen = true := by
  unfold State.closePortAt
  split
  · rw [State.listenPort, tport_setTport]
    split
    · rfl
    · next hne => exact h.elim (by rw [tport_cutTx]; exact id) (fun h => absurd h.1.symm hne)
  · next hg => exact h.elim id (fun h => absurd (h.1 ▸ h.2) hg)

theorem listen_closePorts {s : State} {p : Nat} (hp : p < 64) (hg : s.guarded p = true) :
    (s.closePorts.tport p).listen = true := by
  have fold : ∀ (l : List Nat) (t : State), t.guarded p = true → (t.tport p).listen = true ∨ p ∈ l →
      ((l.foldl State.closePortAt t).tport p).listen = true := by
    intro l
    induction l with
    | nil => intro t _ h; exact h.elim id (fun h => absurd h (by simp))
    | cons n l ih =>
      intro t ht h
      refine ih _ (by rw [guarded_closePortAt]; exact ht) ?_
      rcases h with h | h
      · exact .inl (listen_closePortAt (.inl h))
      · rcases List.mem_cons.1 h with rfl | h
        · exact .inl (listen_closePortAt (.inr ⟨rfl, ht⟩))
        · exact .inr h
  rw [closePorts_eq]
  exact fold _ s hg (.inr (List.mem_range.2 hp))

theorem closePorts_tt (s : State) : s.closePorts.tt = { s.tt with port := s.closePorts.tt.port } := by
  have fold : ∀ (l : List Nat) (t : State), (l.foldl State.closePortAt t).tt =
      { t.tt with port := (l.foldl State.closePortAt t).tt.port } := by
    intro l
    induction l with
    | nil => intro t; rfl
    | cons n l ih =>
      intro t
      rw [List.foldl_cons, ih, closePortAt_tt]
  rw [closePorts_eq]
  exact fold _ s

/-! ### The boundary of a swap -/

theorem crt_zero {m n : Nat} (hn : 0 < n) : crt (0, m) (0, n) = some (0, m / Nat.gcd m n * n) := by
  have hg : 0 < Nat.gcd m n := Nat.gcd_pos_of_pos_right m hn
  have hd : ((Nat.gcd m n = 0 || (((0 : Nat) : Int) - ((0 : Nat) : Int)) % (Nat.gcd m n : Int) ≠ 0) : Bool) = false := by
    simp; omega
  rw [crt]
  dsimp only
  rw [hd, if_neg Bool.false_ne_true]
  generalize bezout 200 m n 1 0 = z
  simp

/-- The common boundary of two schedules with one cycle and phase 0: the first multiple of the cycle from `lo` on. -/
theorem commonBoundary_pair {a b : List Byte} {c lo : Nat} (ha : a ≠ []) (hb : b ≠ []) (hca : gateCycle a = c)
    (hcb : gateCycle b = c) (hpa : gatePhase a = 0) (hpb : gatePhase b = 0) (hc : 0 < c) :
    ∃ x, commonBoundary lo [a, b] = some x ∧ x % c = 0 ∧ lo ≤ x ∧ x < lo + c := by
  have h1 : crt (0, 1) (0, c) = some (0, c) := by rw [crt_zero hc, Nat.gcd_one_left, Nat.div_one, Nat.one_mul]
  have h2 : crt (0, c) (0, c) = some (0, c) := by rw [crt_zero hc, Nat.gcd_self, Nat.div_self hc, Nat.one_mul]
  have hr : commonBoundary lo [a, b] = some (if lo ≤ 0 then 0 else 0 + roundUp (lo - 0) c) := by
    unfold commonBoundary
    have hea : a.isEmpty = false := by simpa using ha
    have heb : b.isEmpty = false := by simpa using hb
    simp only [List.filter_cons, List.filter_nil, hea, heb, Bool.not_false, if_true, List.foldl_cons, List.foldl_nil, hca, hcb,
      hpa, hpb, Nat.zero_mod, h1, h2]
  refine ⟨_, hr, ?_⟩
  by_cases hlo : lo = 0
  · subst hlo
    simp [hc]
  · rw [if_neg (by omega), roundUp, Nat.zero_add, Nat.sub_zero, Nat.mul_mod_left]
    have hdm := Nat.div_add_mod (lo + c - 1) c
    have hlt := Nat.mod_lt (lo + c - 1) hc
    rw [Nat.mul_comm] at hdm
    omega

/-! ### The operations on one unit -/

section
variable (s : State)

theorem mayReturn_setTport (n : Nat) (x : TtPort) (hl : x.listen = (s.tport n).listen) (hc : x.cutAt = (s.tport n).cutAt) :
    (s.setTport n x).mayReturn n = s.mayReturn n := by
  unfold State.mayReturn
  dsimp only
  rw [tport_setTport_self, hl, hc]
  rfl

theorem mayResume_setTport (n : Nat) (x : TtPort) (hs : x.stopped = (s.tport n).stopped) (hg : x.good = (s.tport n).good)
    (ha : x.goodAt = (s.tport n).goodAt) : (s.setTport n x).mayResume n = s.mayResume n := by
  unfold State.mayResume
  dsimp only
  rw [tport_setTport_self, hs, hg, ha]
  rfl

/-- A cut leaves the entry of the schedule. -/
theorem index_listenPort_cut (n : Nat) : ((((s.cutTx n).stat n 79).listenPort n).tport n).index = (s.tport n).index := by
  have h : ((s.cutTx n).tport n).index = (s.tport n).index := by rw [tport_cutTx]
  rw [State.listenPort, tport_setTport_self]
  exact h

theorem mayResume_returned (n i : Nat) :
    ((s.setTport n { s.tport n with listen := false }).ttLog n 4 i).mayResume n = s.mayResume n :=
  mayResume_setTport s n _ rfl rfl rfl

theorem mayReturn_reloaded (n : Nat) : (s.setTport n { s.tport n with ecc := false }).mayReturn n = s.mayReturn n :=
  mayReturn_setTport s n _ rfl rfl

theorem mayResume_reloaded (n : Nat) : (s.setTport n { s.tport n with ecc := false }).mayResume n = s.mayResume n :=
  mayResume_setTport s n _ rfl rfl rfl

theorem accept_tt (q : Req) (code : Nat) : (s.accept q code).tt = s.tt :=
  congrArg (fun p => p.1.tt) (postless_accept s q code)

theorem cutTx_time (n : Nat) : (s.cutTx n).time = s.time := by
  unfold State.cutTx
  dsimp only
  split
  · split <;> rfl
  · rfl

end

/-- TT_RESUME of a port whose guardian copy is sound or not yet reloaded. -/
theorem exec_ttResume_sound {s : State} {p : Fin 64} (hrun : s.running = true) (hg : s.guarded p = true)
    (h : ((s.tport p).ecc && decide (((s.tport p).reloadAt.toNat : Int) ≤ s.lastBoundary p)) = false) :
    exec (.ttResume p) s =
      let t := if s.mayReturn p then
        (s.setTport p { s.tport p with listen := false }).ttLog p 4 (s.tport p).index else s
      (if t.mayResume p then
        (t.setTport p { t.tport p with stopped := false, good := 0 }).ttLog p 4 (t.tport p).index else t).done := by
  rw [exec_ttResume, execTtResume]
  dsimp only
  rw [if_pos (by rw [hrun, hg]; rfl), h]
  rfl

theorem maskBits_two_pow {n k : Nat} (hk : k < n) : maskBits n (2 ^ k) = [k] := by
  have hf : tst (2 ^ k) = fun i => decide (k = i) := funext fun i => tst_two_pow k i
  rw [maskBits, hf, List.filter_congr (q := (· == k)) (fun i _ => by rw [Bool.eq_iff_iff, decide_eq_true_eq, beq_iff_eq, eq_comm]), List.filter_beq]
  simp [List.count_range, hk]

/-- The comparison of a difference of whole nanoseconds. -/
theorem exec_guardianCompare_exact {n : Int} {s : State} (hrun : s.running = true) : exec (.guardianCompare (4 * n)) s =
    if (4 * n).natAbs ≤ s.syncTol then
      State.done { s with tt := { s.tt with gOff := 0, gsync := BitVec.ofInt 32 n, cmpOk := true } }
    else
      let s' : State := { s with tt := { s.tt with gOff := 4 * n, gsync := BitVec.ofInt 32 n, cmpOk := false } }
      if s'.tt.disagree || s'.tt.guardFail then s'.done
      else
        let times := (s'.tt.disAt.filter (fun t => s'.sys.mono ≤ t + sec 10)) ++ [s'.sys.mono]
        let s' : State := { s' with tt := { s'.tt with
          disagree := true, disAt := times, guardFail := 3 ≤ times.length } }
        ((((s'.ttLog 0xF0 5 0 (BitVec.ofInt 32 n)).closePorts).closeChans).post62Free).canDone := by
  rw [exec_guardianCompare, execGuardianCompare, if_neg (by simp [hrun]), State.diffNs,
    show (4 * n : Int) = ((4 : Nat) : Int) * n from rfl, whole_exact s n 4 (by decide)]

/-- Settles O46: a swap is one boundary computation and one pass over its units; the guardian's operations are single
updates behind their conditions. -/
theorem schedulesAndTheGuardian : Obligations.SchedulesAndTheGuardian := by
  unfold Obligations.SchedulesAndTheGuardian
  refine ⟨fun q s u h ok => becomes_served (exec_scheduleLoad q s) h ?_,
    fun q s u h ok => becomes_served (exec_scheduleLoad q s) h ?_,
    fun q s u h bad => becomes_refused (exec_scheduleLoad q s) h ?_,
    fun q s u p c h hm hw hsw h0 h1 hc0 hc1 hpos hlt hp0 hp1 ht => ?_, fun s w k hw hlt => ?_,
    fun s w k hrun hw hle hu => ⟨fun hc hp hr => ?_, fun hor => ?_⟩, fun s w p hrun hw hle hu => ?_, fun s u hu => ?_,
    fun p s hrun hg => ?_, fun p s hrun hg hecc => ⟨fun hret hres => ?_, fun hret hres => ?_, fun hret hres => ?_⟩,
    fun p s hrun hg hecc hret hres => ⟨fun hle => ?_, fun hlt => ?_⟩,
    fun p s x hrun hg hx hcut => ⟨fun hdue => ?_, fun hdue => ?_⟩, fun s hrun => ⟨fun hre => ?_, fun hre => ?_⟩,
    fun n s hrun => ⟨fun hle => ?_, fun hlt hor => ?_, fun hlt hdis hgf hat => ?_⟩, fun p s hrun hg => ?_⟩
  · obtain ⟨hb, hu, hgate, hns⟩ := ok
    dsimp only
    rw [if_neg (by simp [hb, hu, hgate]), if_neg (by simpa using hns)]
    rfl
  · obtain ⟨hb, hlo, hhi, hbody, hns⟩ := ok
    dsimp only
    rw [if_neg (by simp [hb, hlo, hhi, hbody]), if_neg (by simpa using hns)]
    rfl
  · obtain ⟨hb, hu, hgate, hs⟩ := bad
    dsimp only
    rw [if_neg (by simp [hb, hu, hgate]), if_pos (by simpa using hs)]
  · have htt : u.ttBank p (1 - u.ttActive p) ≠ [] := by
      rcases Nat.eq_zero_or_pos (u.ttActive p) with ha | ha
      · rw [ha]
        exact h1
      · rw [Nat.sub_eq_zero_of_le ha]
        exact h0
    obtain ⟨b, hb, hmod, hle, hltb⟩ := commonBoundary_pair (lo := u.time.t.toNat + us 10) h0 h1 hc0 hc1 hp0 hp1 hpos
    have hus : us 10 < 2 ^ 20 := by decide
    have hnat : (BitVec.ofNat 64 b).toNat = b := by rw [BitVec.toNat_ofNat, Nat.mod_eq_of_lt (by omega)]
    have hacc := accept_tt { u with tt := { u.tt with
      swap := some { src := q.src.val, tag := q.tag, units := [p.val], at_ := BitVec.ofNat 64 b } } } q 0x502
    have hswap := congrArg TtBlk.swap hacc
    have hact := congrArg TtBlk.active hacc
    have hserved := becomes_served (exec_scheduleSwapRequest q s) h (t := State.accept { u with tt := { u.tt with
      swap := some { src := q.src.val, tag := q.tag, units := [p.val], at_ := BitVec.ofNat 64 b } } } q 0x502) (by
        dsimp only
        rw [hm, hw, maskBits_two_pow p.isLt, show maskBits 16 0 = [] from rfl]
        simp only [List.map_nil, List.append_nil, List.isEmpty_nil, if_true, List.flatMap_cons, List.flatMap_nil]
        rw [hb, hsw]
        dsimp only
        rw [if_neg (by simp), if_neg (by simp), if_neg (by simpa using htt), if_neg (by omega)])
    refine ⟨_, hserved, _, hswap, rfl, rfl, rfl, ?_, ?_, ?_, hact⟩
    · rw [hnat]
      exact hmod
    · rw [hnat]
      exact hle
    · rw [hnat]
      exact hltb
  · rw [exec_scheduleSwap, execScheduleSwap, hw]
    dsimp only
    rw [decide_eq_false (by simpa using hlt), Bool.and_false]
    rfl
  · rw [Becomes, exec_scheduleSwap, execScheduleSwap, hw]
    dsimp only
    rw [decide_eq_true hle, hrun, hu, hc, hp, decide_eq_true hr]
    simp only [Bool.and_self, decide_true, if_true, List.filter_cons, List.filter_nil, BEq.rfl, List.foldl_cons, List.foldl_nil,
      List.contains_cons, Bool.true_or, Bool.not_true, Bool.false_eq_true, if_false, List.isEmpty_nil]
    rfl
  · have hnow : (if (decide ((s.tchan k).count = 0) && (s.tchan k).prio.isSome && decide (w.at_ ≤ (s.tchan k).refAt)) = true
        then w.units.filter (· == 0x80 + k.val) else []) = [] := by
      refine if_neg fun h => ?_
      simp only [Bool.and_eq_true, decide_eq_true_eq] at h
      obtain ⟨⟨hc, hp⟩, hr⟩ := h
      rcases hor with ho | ho | ho
      · exact ho hc
      · rw [ho] at hp
        exact Bool.false_ne_true hp
      · exact absurd hr (by simpa using ho)
    rw [Idles, Becomes, exec_scheduleSwap, execScheduleSwap, hw]
    dsimp only
    rw [hnow, decide_eq_true hle, hrun, if_pos (show (true && true) = true from rfl), hu, if_neg (by simp)]
    rw [show [0x80 + k.val].filter (fun u => !([] : List Nat).contains u) = w.units by rw [hu]; rfl]
    exact congrArg (fun o => State.done { s with tt := { s.tt with swap := o } }) hw.symm
  · rw [Becomes, exec_scheduleSwap, execScheduleSwap, hw]
    dsimp only
    rw [decide_eq_true hle, hrun, hu]
    simp only [Bool.and_self, decide_true, if_true, List.filter_cons, List.filter_nil, p.isLt, List.foldl_cons, List.foldl_nil,
      List.contains_cons, BEq.rfl, Bool.true_or, Bool.not_true, Bool.false_eq_true, if_false, List.isEmpty_nil]
    rfl
  · refine ⟨?_, rfl, ?_, rfl, fun v hv => ?_⟩
    · exact Tab.get_set_self _ _ _ _
    · rw [State.swapUnit, if_pos hu]
      exact Tab.find?_set_self _ _ _
    · exact Tab.get_set_ne _ _ _ hv
  · rw [Becomes, exec_gateEntryBoundary, execGateEntryBoundary, if_pos (by rw [hrun, hg]; rfl)]
    rfl
  · rw [Becomes, exec_ttResume_sound hrun hg (by rw [hecc]; rfl)]
    dsimp only
    rw [if_pos hret, if_neg (by rw [mayResume_returned, hres]; exact Bool.false_ne_true)]
    rfl
  · rw [Becomes, exec_ttResume_sound hrun hg (by rw [hecc]; rfl)]
    dsimp only
    rw [hret, if_neg Bool.false_ne_true, if_pos hres]
    rfl
  · rw [Idles, Becomes, exec_ttResume_sound hrun hg (by rw [hecc]; rfl)]
    dsimp only
    rw [hret, if_neg Bool.false_ne_true, hres, if_neg Bool.false_ne_true]
    rfl
  · rw [Becomes, exec_ttResume, execTtResume]
    dsimp only
    rw [if_pos (by rw [hrun, hg]; rfl), hecc, decide_eq_true hle, if_pos (show (true && true) = true from rfl),
      mayReturn_reloaded, hret, if_neg Bool.false_ne_true, mayResume_reloaded, hres, if_neg Bool.false_ne_true]
    rfl
  · rw [Idles, Becomes, exec_ttResume_sound hrun hg (by rw [decide_eq_false (Int.not_le.2 hlt), Bool.and_false])]
    dsimp only
    rw [hret, if_neg Bool.false_ne_true, hres, if_neg Bool.false_ne_true]
    rfl
  · rw [Becomes, exec_guardCut, execGuardCut]
    dsimp only
    rw [if_pos (by simp [hrun, hg, hx, hcut, hdue])]
    exact congrArg (fun i => ((s.cutPort p).ttLog p 1 i).done) (index_listenPort_cut s p)
  · rw [exec_guardCut, execGuardCut]
    dsimp only
    rw [if_neg (by simp [hx, hdue])]
  · rw [Becomes, exec_guardianRearm, execGuardianRearm, if_pos (by rw [hrun, hre]; rfl)]
    rfl
  · rw [exec_guardianRearm, execGuardianRearm, if_neg (by simp [hre])]
  · rw [Becomes, exec_guardianCompare_exact hrun, if_pos hle]
    rfl
  · rw [Becomes, exec_guardianCompare_exact hrun, if_neg (Nat.not_le.2 hlt)]
    dsimp only
    rw [if_pos (by simpa using hor)]
    rfl
  · let v : State := { s with tt := { s.tt with
      gOff := 4 * n, gsync := BitVec.ofInt 32 n, cmpOk := false, disagree := true, disAt := [s.sys.mono], guardFail := false } }
    refine ⟨((((v.ttLog 0xF0 5 0 (BitVec.ofInt 32 n)).closePorts).closeChans).post62Free).canSettle.settle, ?_, ?_⟩
    · rw [exec_guardianCompare_exact hrun, if_neg (Nat.not_le.2 hlt)]
      dsimp only
      rw [if_neg (by simp [hdis, hgf]), hat]
      rfl
    · have hsolid : ((((v.ttLog 0xF0 5 0 (BitVec.ofInt 32 n)).closePorts).closeChans).post62Free).canSettle.settle.ttSolid =
          ((v.ttLog 0xF0 5 0 (BitVec.ofInt 32 n)).closePorts).ttSolid := by simp
      have hcl := closePorts_tt (v.ttLog 0xF0 5 0 (BitVec.ofInt 32 n))
      have hlis := @listen_closePorts (v.ttLog 0xF0 5 0 (BitVec.ofInt 32 n))
      dsimp only
      generalize ((((v.ttLog 0xF0 5 0 (BitVec.ofInt 32 n)).closePorts).closeChans).post62Free).canSettle.settle = t at hsolid ⊢
      generalize (v.ttLog 0xF0 5 0 (BitVec.ofInt 32 n)).closePorts = w at hsolid hcl hlis
      have hd := congrArg TtBlk.disagree hsolid
      have hf := congrArg TtBlk.guardFail hsolid
      have ha := congrArg TtBlk.disAt hsolid
      have hc := congrArg TtBlk.cmpOk hsolid
      have hp := congrArg TtBlk.port hsolid
      refine ⟨hd.trans (congrArg TtBlk.disagree hcl), hf.trans (congrArg TtBlk.guardFail hcl),
        ha.trans (congrArg TtBlk.disAt hcl), hc.trans (congrArg TtBlk.cmpOk hcl), fun p hg => ?_⟩
      have hport : t.tport p = w.tport p := by
        rw [State.tport, show t.tt.port = w.tt.port from hp]
        rfl
      rw [hport]
      exact hlis p.isLt hg
  · rw [Becomes, exec_guardEcc, execGuardEcc, if_pos hrun, State.unitEcc]
    dsimp only [Fin.val_castLE]
    rw [if_pos p.isLt, if_pos hg]
    rw [tport_cutTx, cutTx_time]
    rfl

end Sys2Proof.Machine
end

section
/-! SUPPORT. The channels' fields, what the settling of the channels leaves of them, frames and errors (R412 to R422). -/

namespace Sys2Proof.Machine

set_option Elab.async false

/-! ### A channel's own fields -/

section
variable (s : State) (c : Nat)

theorem cobj_setCobj (k j : Nat) (o : CanObj) : (s.setCobj c k o).cobj c j = if j = k then o else s.cobj c j := by
  rw [State.cobj, State.setCobj, chan_setChan_self, Tab.get_set]
  rfl

@[simp] theorem cobj_setCobj_self (k : Nat) (o : CanObj) : (s.setCobj c k o).cobj c k = o := by
  rw [cobj_setCobj, if_pos rfl]

theorem chan_setCobj (k j : Nat) (o : CanObj) :
    (s.setCobj c k o).chan j = if j = c then { s.chan c with obj := (s.chan c).obj.set k o } else s.chan j :=
  chan_setChan s c _ j

@[simp] theorem chan_setCobj_self (k : Nat) (o : CanObj) :
    (s.setCobj c k o).chan c = { s.chan c with obj := (s.chan c).obj.set k o } := chan_setChan_self s c _

@[simp] theorem chan_canCount_self (i : Nat) :
    (s.canCount c i).chan c = { s.chan c with cnt := (s.chan c).cnt.upd 0 i satInc } := chan_setChan_self s c _

@[simp] theorem chan_canEvent_self (b : Nat) :
    (s.canEvent c b).chan c = { s.chan c with event := (s.chan c).event ||| BitVec.ofNat 17 (2 ^ b) } :=
  chan_setChan_self s c _

@[simp] theorem cobj_canCount (i k : Nat) : (s.canCount c i).cobj c k = s.cobj c k := by
  rw [State.cobj, chan_canCount_self]
  rfl

@[simp] theorem cobj_canEvent (b k : Nat) : (s.canEvent c b).cobj c k = s.cobj c k := by
  rw [State.cobj, chan_canEvent_self]
  rfl

end

/-- The state without the channels. -/
def State.canless (s : State) : State := { s with can := [] }

theorem within_of_canless {s t : State} (h : t.canless = s.canless) : s.within [.can] t := by
  intro b hb
  have hb' : State.agrees s.canless t.canless b := by
    rw [h]
    cases b <;> rfl
  cases b <;> first | exact hb' | exact absurd hb (by decide)

/-- What the relays and the ends of local requests can change of a channel is left out: its relay queue, the note of its
local request, the counter and the event of relays, and which of its objects are pending. -/
def CanChan.calm (x : CanChan) : CanChan × (Nat → Word) × (Nat → CanObj) :=
  ({ x with relay := [], held := false, heldAt := 0, cnt := [], obj := [], event := x.event ||| BitVec.ofNat 17 (2 ^ 13) },
    fun i => if i = 15 then 0 else x.cnt.get 0 i, fun k => { x.obj.get {} k with pending := false })

/-- The state but for what `CanChan.calm` leaves out. -/
def State.canCalm (s : State) : State × (Nat → CanChan × (Nat → Word) × (Nat → CanObj)) :=
  (s.canless, fun c => (s.chan c).calm)

section
variable (s : State)

theorem canCalm_setChan {c : Nat} {x : CanChan} (h : x.calm = (s.chan c).calm) : (s.setChan c x).canCalm = s.canCalm := by
  refine Prod.ext rfl (funext fun d => ?_)
  show ((s.setChan c x).chan d).calm = (s.chan d).calm
  rw [chan_setChan]
  split
  · next hd => rw [h, hd]
  · rfl

theorem canCalm_setCobj (c k : Nat) : (s.setCobj c k { s.cobj c k with pending := false }).canCalm = s.canCalm := by
  refine canCalm_setChan s (Prod.ext rfl (Prod.ext rfl (funext fun j => ?_)))
  show ({ ((s.chan c).obj.set k { s.cobj c k with pending := false }).get {} j with pending := false } : CanObj) =
    { (s.chan c).obj.get {} j with pending := false }
  rw [Tab.get_set]
  split
  · next hj => rw [hj]; rfl
  · rfl

theorem canCalm_canCount (c : Nat) : (s.canCount c 15).canCalm = s.canCalm := by
  refine canCalm_setChan s (Prod.ext rfl (Prod.ext (funext fun i => ?_) rfl))
  show (if i = 15 then 0 else ((s.chan c).cnt.upd 0 15 satInc).get 0 i) = if i = 15 then 0 else (s.chan c).cnt.get 0 i
  split
  · rfl
  · next hi => rw [Tab.get_upd, if_neg hi]

theorem canCalm_canEvent (c : Nat) : (s.canEvent c 13).canCalm = s.canCalm := by
  refine canCalm_setChan s (Prod.ext ?_ rfl)
  show ({ (s.chan c) with relay := [], held := false, heldAt := 0, cnt := [], obj := []
                          event := (s.chan c).event ||| BitVec.ofNat 17 (2 ^ 13) ||| BitVec.ofNat 17 (2 ^ 13) } : CanChan) =
    { (s.chan c) with relay := [], held := false, heldAt := 0, cnt := [], obj := []
                      event := (s.chan c).event ||| BitVec.ofNat 17 (2 ^ 13) }
  rw [BitVec.or_assoc, BitVec.or_self]

theorem canCalm_relayOne (c : Nat) : (s.relayOne c).canCalm = s.canCalm := by
  unfold State.relayOne
  dsimp only
  split
  · split
    · rw [canCalm_canEvent, canCalm_canCount]
      refine (canCalm_setChan _ ?_).trans (canCalm_setCobj s c _)
      rfl
    · rfl
  · rfl

theorem canCalm_relayUpTo (c n : Nat) : (s.relayUpTo c n).canCalm = s.canCalm := by
  induction n generalizing s with
  | zero => rfl
  | succ n ih => exact (ih _).trans (canCalm_relayOne s c)

theorem canCalm_holdNow (c : Nat) : (s.holdNow c).canCalm = s.canCalm := by
  unfold State.holdNow
  dsimp only
  split
  · rfl
  · exact canCalm_setChan s rfl

theorem canCalm_canSettle : s.canSettle.canCalm = s.canCalm :=
  (foldl_same State.canCalm State.holdNow canCalm_holdNow _ _).trans
    (foldl_same State.canCalm _ (fun t c => canCalm_relayUpTo t c 8) _ s)

theorem canCalm_fst : s.canCalm.1 = s.canless := rfl

end

/-! ### No object becomes pending as the channels settle -/

/-- Object `k` of channel `c` is not pending. -/
def State.atRest (c k : Nat) (s : State) : Prop := (s.cobj c k).pending = false

theorem atRest_setChan {c k d : Nat} {s : State} {x : CanChan} (h : s.atRest c k) (hx : x.obj = (s.chan d).obj) :
    (s.setChan d x).atRest c k := by
  unfold State.atRest State.cobj
  rw [chan_setChan]
  split
  · next hc =>
    subst hc
    rw [hx]
    exact h
  · exact h

theorem atRest_setCobj {c k d j : Nat} {s : State} (h : s.atRest c k) :
    (s.setCobj d j { s.cobj d j with pending := false }).atRest c k := by
  unfold State.atRest State.cobj
  rw [chan_setCobj]
  split
  · next hc =>
    subst hc
    dsimp only
    rw [Tab.get_set]
    split
    · rfl
    · exact h
  · exact h

theorem atRest_relayOne {c k : Nat} {s : State} (d : Nat) (h : s.atRest c k) : (s.relayOne d).atRest c k := by
  unfold State.relayOne
  dsimp only
  split
  · split
    · exact atRest_setChan (atRest_setChan (atRest_setChan (atRest_setCobj h) rfl) rfl) rfl
    · exact h
  · exact h

theorem atRest_relayUpTo {c k : Nat} {s : State} (d n : Nat) (h : s.atRest c k) : (s.relayUpTo d n).atRest c k := by
  induction n generalizing s with
  | zero => exact h
  | succ n ih => exact ih (atRest_relayOne d h)

theorem atRest_holdNow {c k : Nat} {s : State} (d : Nat) (h : s.atRest c k) : (s.holdNow d).atRest c k := by
  unfold State.holdNow
  dsimp only
  split
  · exact h
  · exact atRest_setChan h rfl

theorem atRest_canSettle {c k : Nat} {s : State} (h : s.atRest c k) : s.canSettle.atRest c k := by
  have hrel : s.relayAll.atRest c k := by
    unfold State.relayAll
    exact foldl_keeps (State.atRest c k) _ (fun _ d h => atRest_relayUpTo d 8 h) _ s h
  unfold State.canSettle
  exact foldl_keeps (State.atRest c k) State.holdNow (fun _ d h => atRest_holdNow d h) _ _ hrel

/-! ### The end of a channel's command -/

/-- `u` is `v` once the channels and ALARM_N have settled. -/
structure State.Settled (v u : State) : Prop where
  calm : ∀ c, (u.chan c).calm = (v.chan c).calm
  rest : ∀ c k, v.atRest c k → u.atRest c k
  within : v.within [.can, .sys, .host] u

theorem settled_settle {v u : State} (hcalm : u.canCalm = v.canCalm) (hrest : ∀ c k, v.atRest c k → u.atRest c k) :
    v.Settled u.settle where
  calm c := congrFun (congrArg Prod.snd hcalm) c
  rest c k h := hrest c k h
  within := by
    have h := congrArg Prod.fst hcalm
    rw [canCalm_fst, canCalm_fst] at h
    exact ((within_of_canless h).mono (by decide)).trans ((within_settle u).mono (by decide))

theorem completes_settled {i : Instr} {s v : State} {P : State → Prop} (hx : exec i s = v.canDone)
    (hP : ∀ u, v.Settled u → P u) : Completes i s P :=
  ⟨v.canSettle.settle, hx, hP _ (settled_settle (canCalm_canSettle v) fun _ _ h => atRest_canSettle h)⟩

section
variable {v u : State} (h : v.Settled u) (c : Nat)
include h

/-- What depends only on what `CanChan.calm` keeps stays. -/
theorem State.Settled.keeps {α : Type} (g : CanChan → α) (hg : ∀ x : CanChan, g x.calm.1 = g x) :
    g (u.chan c) = g (v.chan c) := by
  rw [← hg (u.chan c), ← hg (v.chan c), h.calm c]

theorem State.Settled.cnt {i : Nat} (hi : i ≠ 15) : (u.chan c).cnt.get 0 i = (v.chan c).cnt.get 0 i := by
  have h := congrFun (congrArg (fun p => p.2.1) (h.calm c)) i
  simpa only [CanChan.calm, if_neg hi] using h

theorem State.Settled.event {i : Nat} (hi : i ≠ 13) : (u.chan c).event.getLsbD i = (v.chan c).event.getLsbD i := by
  have h := congrArg (fun p => p.1.event.getLsbD i) (h.calm c)
  have hb : (BitVec.ofNat 17 (2 ^ 13)).getLsbD i = false := by
    rw [BitVec.getLsbD_ofNat, Nat.testBit_two_pow, decide_eq_false (Ne.symm hi), Bool.and_false]
  simpa only [CanChan.calm, BitVec.getLsbD_or, hb, Bool.or_false] using h

theorem State.Settled.cobj (k : Nat) :
    ({ u.cobj c k with pending := false } : CanObj) = { v.cobj c k with pending := false } :=
  congrFun (congrArg (fun p => p.2.2) (h.calm c)) k

end

/-! ### The candidates of an arbitration -/

theorem CanCand.before_iff (a b : CanCand) : a.before b = true ↔
    a.msg.rank < b.msg.rank ∨ a.msg.rank = b.msg.rank ∧ (a.since < b.since ∨ a.since = b.since ∧ a.num < b.num) := by
  simp [CanCand.before]

theorem CanCand.before_irrefl (a : CanCand) : a.before a = false := by simp [CanCand.before]

theorem CanCand.before_trans {a b d : CanCand} (h : a.before b = true) (h' : b.before d = true) : a.before d = true := by
  rw [CanCand.before_iff] at h h' ⊢
  simp only [BitVec.lt_def, ← BitVec.toNat_inj] at h h' ⊢
  omega

/-- The choice among the candidates seen so far and the next one. -/
theorem CanCand.best_append_none {l : List CanCand} (h : CanCand.best l = none) (x : CanCand) :
    CanCand.best (l ++ [x]) = some x := by
  unfold CanCand.best at h ⊢
  rw [List.foldl_append, h]
  rfl

theorem CanCand.best_append_some {l : List CanCand} {a : CanCand} (h : CanCand.best l = some a) (x : CanCand) :
    CanCand.best (l ++ [x]) = if x.before a then some x else some a := by
  unfold CanCand.best at h ⊢
  rw [List.foldl_append, h]
  rfl

/-- Induction on a list from its end. -/
theorem snocInduction {α : Type} {p : List α → Prop} (nil : p []) (snoc : ∀ l x, p l → p (l ++ [x])) (l : List α) : p l := by
  have h : ∀ r : List α, p r.reverse := fun r => by
    induction r with
    | nil => exact nil
    | cons x r ih =>
      rw [List.reverse_cons]
      exact snoc _ x ih
  rw [← List.reverse_reverse l]
  exact h _

theorem CanCand.best_first (l : List CanCand) : (CanCand.best l = none → l = []) ∧
    ∀ a, CanCand.best l = some a → a ∈ l ∧ ∀ b ∈ l, b.before a = false := by
  induction l using snocInduction with
  | nil => exact ⟨fun _ => rfl, fun a h => absurd h (by simp [CanCand.best])⟩
  | snoc l x ih =>
    obtain ⟨hnil, hsome⟩ := ih
    cases hl : CanCand.best l with
    | none =>
      rw [CanCand.best_append_none hl, hnil hl]
      refine ⟨fun h => absurd h (Option.some_ne_none x), fun a h => ?_⟩
      rw [← Option.some.inj h]
      exact ⟨by simp, fun b hb => by rw [show b = x by simpa using hb, CanCand.before_irrefl]⟩
    | some d =>
      obtain ⟨hd, hmin⟩ := hsome d hl
      rw [CanCand.best_append_some hl]
      split
      · next hx =>
        refine ⟨fun h => absurd h (Option.some_ne_none x), fun a h => ?_⟩
        rw [← Option.some.inj h]
        refine ⟨by simp, fun b hb => ?_⟩
        rcases List.mem_append.1 hb with hb | hb
        · exact Bool.eq_false_iff.2 fun hbx => absurd (CanCand.before_trans hbx hx) (by rw [hmin b hb]; exact Bool.false_ne_true)
        · rw [List.mem_singleton.1 hb, CanCand.before_irrefl]
      · next hx =>
        refine ⟨fun h => absurd h (Option.some_ne_none d), fun a h => ?_⟩
        rw [← Option.some.inj h]
        refine ⟨List.mem_append_left _ hd, fun b hb => ?_⟩
        rcases List.mem_append.1 hb with hb | hb
        · exact hmin b hb
        · rw [List.mem_singleton.1 hb]
          exact Bool.eq_false_iff.2 hx

theorem relays_of {i : Instr} {s t : State} (h : exec i s = t.canDone) : Relays i s t := h

/-! ### Frames, errors and completions -/

theorem setCobj_time (s : State) (c k : Nat) (o : CanObj) : (s.setCobj c k o).time = s.time := rfl

theorem lastValue_some {s : State} {c k : Nat} {v : DWord} (h : (s.cobj c k).lastVal = some v) :
    s.lastValue c k = (v, s) := by
  rw [State.lastValue, h]

/-- The channel of an object whose transmission has completed. -/
theorem chan_objSent_own (s : State) (c k : Nat) (t : CanTx) : ∃ e, (s.objSent c k 2 true t).chan c =
    { s.chan c with
        obj := (s.chan c).obj.set k { s.cobj c k with status := 2, stamp := t.stamp, sent := t.val, clash := 0
                                                      pending := false, cancel := false }
        event := e } := by
  unfold State.objSent
  simp only [if_true]
  split
  · refine ⟨(s.chan c).event ||| BitVec.ofNat 17 (2 ^ 1), ?_⟩
    rw [chan_canEvent_self, chan_setCobj_self]
  · refine ⟨(s.chan c).event, ?_⟩
    rw [chan_setCobj_self]

theorem canless_objSent (s : State) (c k status : Nat) (own : Bool) (t : CanTx) :
    (s.objSent c k status own t).canless = s.canless := by
  unfold State.objSent
  dsimp only
  generalize (if own = true then _ else _ : CanObj) = o
  split <;> rfl

/-- The state in which a frame has left the bus. -/
def State.sentFrame (s : State) (c : Nat) (t : CanTx) : State :=
  (s.canSent c t.msg t.stamp).setChan c { (s.canSent c t.msg t.stamp).chan c with tx := none }

theorem chan_sentFrame (s : State) (c : Nat) (t : CanTx) : (s.sentFrame c t).chan c = { s.chan c with
    tec := (s.chan c).tec - 1, out := some (t.msg, t.stamp), cnt := (s.chan c).cnt.upd 0 1 satInc, tx := none } := by
  rw [State.sentFrame, chan_setChan_self, State.canSent, chan_canCount_self, chan_setChan_self]

theorem canless_sentFrame (s : State) (c : Nat) (t : CanTx) : (s.sentFrame c t).canless = s.canless := rfl

theorem exec_canTransmitComplete_obj {c : Fin 16} {d : BitVec 8} {k : Nat} {t : CanTx} {s : State} (hon : s.canOn c = true)
    (htx : (s.chan c).tx = some t) (hwhat : t.what = .obj k) (hfd : t.msg.fdf = false) (hrec : (s.chan c).recObj = none) :
    exec (.canTransmitComplete c d) s = ((s.sentFrame c t).objSent c k 2 true t).canDone := by
  have hrecov : ((s.sentFrame c t).objSent c k 2 true t).recovDone c k t = (s.sentFrame c t).objSent c k 2 true t := by
    obtain ⟨e, h⟩ := chan_objSent_own (s.sentFrame c t) c k t
    have hr : (((s.sentFrame c t).objSent c k 2 true t).chan c).recObj = none := by
      rw [h, chan_sentFrame]
      exact hrec
    rw [State.recovDone, hr]
    rfl
  rw [exec_canTransmitComplete, execCanTransmitComplete, hon, htx]
  dsimp only
  rw [hwhat, hfd]
  simp only [Bool.and_false, Bool.false_and, Bool.false_eq_true, if_false]
  exact congrArg State.canDone hrecov

theorem countersFrozen_awake {s : State} {c : Nat} (hmode : s.canMode c = 1) (hps : (s.chan c).ps = .awake) :
    s.countersFrozen c = false := by
  rw [State.countersFrozen, hmode, hps]
  rfl

/-- A change of the counters that enters neither warning nor error passive. -/
theorem canStates_level {s : State} {c : Nat} {old : CanChan} (hw : ((s.chan c).warn && !old.warn) = false)
    (hp : ((s.chan c).passive && !old.passive) = false) : s.canStates c old =
      if 255 < (s.chan c).tec && !(s.chan c).busOff then
        (((s.attemptFails c).setChan c { (s.attemptFails c).chan c with
          busOff := true, tec := 256, recovering := tst ((s.attemptFails c).chanFld c 1 1) 3 }).canEvent c 4).canCount c 10
      else s := by
  unfold State.canStates
  simp only [hw, hp, Bool.false_eq_true, if_false]

/-- The counters after a receiver's error far from the limits. -/
theorem errCounters_receiver {s : State} {c : Nat} {e : CanErr} (hmode : s.canMode c = 1) (hps : (s.chan c).ps = .awake)
    (hkind : e.kind ≠ .arbitration) (hsend : e.sending = false) (hspec : e.special = false) (hrec : (s.chan c).rec_ < 95)
    (htec : (s.chan c).tec < 96) : s.errCounters c e = s.setChan c { s.chan c with rec_ := (s.chan c).rec_ + 1 } := by
  have hmin : min 255 ((s.chan c).rec_ + 1) = (s.chan c).rec_ + 1 := by omega
  unfold State.errCounters
  dsimp only
  rw [countersFrozen_awake hmode hps, if_neg (by simpa using hkind), hsend, hspec, if_neg Bool.false_ne_true,
    if_neg Bool.false_ne_true, hmin]
  rw [canStates_level (by rw [chan_setChan_self]; simp [CanChan.warn]; omega)
    (by rw [chan_setChan_self]; simp [CanChan.passive]; omega), chan_setChan_self, if_neg (by simp; omega)]

/-- The counters after the error of a sender that ends on the bus. -/
theorem errCounters_busOff {s : State} {c : Nat} {e : CanErr} (hmode : s.canMode c = 1) (hps : (s.chan c).ps = .awake)
    (hkind : e.kind ≠ .arbitration) (hsend : e.sending = true) (hspec : e.special = false) (hlo : 248 ≤ (s.chan c).tec)
    (hoff : (s.chan c).busOff = false) (htx : (s.chan c).tx = none) : s.errCounters c e =
      ((s.setChan c { s.chan c with busOff := true, tec := 256, recovering := tst (s.chanFld c 1 1) 3 }).canEvent c 4).canCount
        c 10 := by
  unfold State.errCounters
  dsimp only
  rw [countersFrozen_awake hmode hps, if_neg (by simpa using hkind), hsend, hspec, if_pos rfl, if_neg Bool.false_ne_true]
  rw [canStates_level (by rw [chan_setChan_self]; simp [CanChan.warn]; omega)
    (by rw [chan_setChan_self]; simp [CanChan.passive]; omega), chan_setChan_self, if_pos (by simp [hoff]; omega)]
  have hfail : ∀ t : State, (t.chan c).tx = none → t.attemptFails c = t := by
    intro t ht
    rw [State.attemptFails, ht]
  rw [hfail _ (by rw [chan_setChan_self]; exact htx), chan_setChan_self, setChan_setChan]
  rfl

/-- An error that a receiver sees. -/
theorem canError_receiver {s : State} {c : Nat} {e : CanErr} (hps : (s.chan c).ps = .awake) (hoff : (s.chan c).busOff = false)
    (hmode : s.canMode c = 1) (htx : (s.chan c).tx = none) (hsend : e.sending = false) (hkind : e.kind ≠ .arbitration)
    (hspec : e.special = false) (hrec : (s.chan c).rec_ < 95) (htec : (s.chan c).tec < 96) :
    s.canError c e = (s.canCount c e.kind.cnt).setChan c { (s.canCount c e.kind.cnt).chan c with
      lec := e.kind.lec, dataPhase := e.dataPhase, rec_ := (s.chan c).rec_ + 1 } := by
  have hk : (e.kind == .arbitration) = false := by simpa using hkind
  unfold State.canError
  dsimp only
  rw [if_neg (by simp [hps, hoff]), htx, hk, hsend]
  simp only [Bool.false_eq_true, if_false, Bool.or_self]
  rw [errCounters_receiver (by exact hmode) (by rw [chan_setChan_self, chan_canCount_self]; exact hps) hkind hsend hspec
    (by rw [chan_setChan_self, chan_canCount_self]; exact hrec) (by rw [chan_setChan_self, chan_canCount_self]; exact htec),
    setChan_setChan, chan_setChan_self, chan_canCount_self]

/-- An attempt of an object that is not cancelled ends without a trace. -/
theorem attemptFails_kept {s : State} {c k : Nat} {t : CanTx} (htx : (s.chan c).tx = some t) (hwhat : t.what = .obj k)
    (hcan : (s.cobj c k).cancel = false) : s.attemptFails c = s.setChan c { s.chan c with tx := none } := by
  have ho : ((s.setChan c { s.chan c with tx := none }).cobj c k).cancel = false := by
    rw [State.cobj, chan_setChan_self]
    exact hcan
  unfold State.attemptFails
  dsimp only
  rw [htx]
  dsimp only
  rw [hwhat]
  dsimp only
  rw [ho, if_neg Bool.false_ne_true]

/-- A sender's error that takes the channel off the bus. -/
theorem canError_busOff {s : State} {c k : Nat} {e : CanErr} {t : CanTx} (hps : (s.chan c).ps = .awake)
    (hoff : (s.chan c).busOff = false) (hmode : s.canMode c = 1) (htx : (s.chan c).tx = some t) (hwhat : t.what = .obj k)
    (hcan : (s.cobj c k).cancel = false) (hsend : e.sending = true) (hkind : e.kind = .ack) (hspec : e.special = false)
    (hlo : 248 ≤ (s.chan c).tec) : ∃ n, (s.canError c e).chan c = { s.chan c with
      tx := none, busOff := true, tec := 256, recovering := tst (s.chanFld c 1 1) 3, lec := 3, dataPhase := e.dataPhase, cnt := n
      event := (s.chan c).event ||| BitVec.ofNat 17 (2 ^ 4) } := by
  let v := (s.canCount c 9).setChan c { (s.canCount c 9).chan c with lec := 3, dataPhase := e.dataPhase, tx := none }
  have hv : v.chan c = { s.chan c with cnt := (s.chan c).cnt.upd 0 9 satInc, lec := 3, dataPhase := e.dataPhase, tx := none } := by
    rw [show v.chan c = _ from chan_setChan_self _ _ _, chan_canCount_self]
  have herr : s.canError c e = v.errCounters c e := by
    unfold State.canError
    dsimp only
    rw [if_neg (by simp [hps, hoff]), htx, hkind, hsend]
    dsimp only
    rw [hwhat]
    dsimp only
    simp only [show (CanErrKind.ack == CanErrKind.arbitration) = false from rfl,
      show (CanErrKind.ack == CanErrKind.bitRecessive) = false from rfl, Bool.and_false, Bool.false_and, Bool.or_false,
      Bool.false_eq_true, if_false, if_true]
    rw [attemptFails_kept (t := t) (k := k)
      (by rw [chan_setChan_self, chan_canCount_self]; exact htx) hwhat
      (by rw [State.cobj, chan_setChan_self, chan_canCount_self]; exact hcan), chan_setChan_self, setChan_setChan]
    rfl
  rw [herr, errCounters_busOff (by exact hmode) (by rw [hv]; exact hps) (by rw [hkind]; decide) hsend hspec (by rw [hv]; exact hlo)
    (by rw [hv]; exact hoff) (by rw [hv]), chan_canCount_self, chan_canEvent_self, chan_setChan_self, hv]
  exact ⟨_, rfl⟩

/-- A frame that is only matched: neither FD nor remote, nothing being sent, no error count, no network management. -/
theorem canTake_plain {c : Nat} {m : CanMsg} {st : DWord} {s : State} (hfd : m.fdf = false) (htx : (s.chan c).tx = none)
    (hrec : (s.chan c).rec_ = 0) (hps : (s.chan c).ps = .awake) (hnm : s.canNm c = false) (htt : s.ttCan c = false)
    (hrtr : m.rtr = false) : (s.matchObj c m = none → s.canTake c m st = (s.canCount c 0).canCount c 2) ∧
    ∀ k, s.matchObj c m = some k → s.canTake c m st = (s.canCount c 0).placeFrame c k m st := by
  have hgood : s.recGood c = s := by
    unfold State.recGood
    dsimp only
    rw [if_pos (by simp [hrec])]
  have hwake : (s.canCount c 0).wakeEvent c 0 true st = s.canCount c 0 := by
    unfold State.wakeEvent
    rw [chan_canCount_self]
    dsimp only
    rw [hps]
  have hisnm : (s.canCount c 0).isNm c m = false := by
    rw [State.isNm, show (s.canCount c 0).canNm c = false from hnm]
    rfl
  have href : (s.canCount c 0).refOf c m = none := by
    rw [State.refOf]
    rw [show (s.canCount c 0).ttCan c = false from htt]
    rfl
  refine ⟨fun hm => ?_, fun k hm => ?_⟩
  · have hm' : (s.canCount c 0).matchObj c m = none := hm
    simp only [State.canTake, hfd, htx, hrtr, hgood, hisnm, hwake, href, hm', Bool.false_and, Bool.false_eq_true, if_false,
      Option.isSome_none, Bool.not_false, Bool.true_or, if_true]
  · have hm' : (s.canCount c 0).matchObj c m = some k := hm
    simp only [State.canTake, hfd, htx, hrtr, hgood, hisnm, hwake, href, hm', Bool.false_and, Bool.false_eq_true, if_false,
      Option.isSome_none, Bool.not_false, Bool.true_or, if_true]

section
variable (s : State) (c k : Nat)

theorem objFlag_setCobj (j b : Nat) (o : CanObj) : (s.setCobj c j o).objFlag c k b = s.objFlag c k b := rfl
theorem objFlag_canCount (i b : Nat) : (s.canCount c i).objFlag c k b = s.objFlag c k b := rfl
theorem objFlag_canEvent (i b : Nat) : (s.canEvent c i).objFlag c k b = s.objFlag c k b := rfl
theorem objPoint_setCobj (j : Nat) (o : CanObj) : (s.setCobj c j o).objPoint c k = s.objPoint c k := rfl
theorem objPoint_canCount (i : Nat) : (s.canCount c i).objPoint c k = s.objPoint c k := rfl
theorem objPoint_canEvent (i : Nat) : (s.canEvent c i).objPoint c k = s.objPoint c k := rfl

end

/-- A matched frame of an object without a point and without an interrupt of its own. -/
theorem placeFrame_plain {c k : Nat} {s : State} (m : CanMsg) (st : DWord) (hpt : s.objPoint c k = none)
    (hfl : s.objFlag c k 2 = false) : s.placeFrame c k m st =
      (let sel := (s.chan c).selValid && (s.chan c).sel.toNat == k
       let o := s.cobj c k
       let full := if sel then o.shadow.isSome else o.cur.isSome
       let o := if sel then { o with shadow := some (m, st) } else { o with cur := some (m, st) }
       let t := s.setCobj c k { o with timedOut := false, lastAt := s.sys.mono }
       if full then (t.canCount c 3).canEvent c 8 else t) := by
  unfold State.placeFrame
  dsimp only
  split
  · cases (s.cobj c k).shadow.isSome <;>
      simp only [objFlag_setCobj, objFlag_canCount, objFlag_canEvent, objPoint_setCobj, objPoint_canCount, objPoint_canEvent, hpt,
        hfl, Bool.false_eq_true, if_false, Option.isNone_none, if_true]
  · cases (s.cobj c k).cur.isSome <;>
      simp only [objFlag_setCobj, objFlag_canCount, objFlag_canEvent, objPoint_setCobj, objPoint_canCount, objPoint_canEvent, hpt,
        hfl, Bool.false_eq_true, if_false, Option.isNone_none, if_true]

/-- The buffer of object `k` is selected. -/
theorem selected_canCount (s : State) (c k : Nat) :
    (((s.canCount c 0).chan c).selValid && ((s.canCount c 0).chan c).sel.toNat == k) =
      decide ((s.chan c).selValid = true ∧ (s.chan c).sel.toNat = k) := by
  rw [chan_canCount_self]
  cases (s.chan c).selValid <;> simp [Bool.beq_eq_decide_eq]

/-- Settles O47: each command is one operation on its channel, followed by the settling of the channels, which moves only
relays and the notes of local requests. -/
theorem canFramesAndObjects : Obligations.CanFramesAndObjects := by
  unfold Obligations.CanFramesAndObjects
  refine ⟨fun c m x s hon hoff => ⟨fun hs hq => ?_, fun hps hg => ?_, fun hps hg => ?_⟩,
    fun c m st s hfd htx hrec hps hnm htt hrtr => ⟨fun hm => ?_, fun k hm hpt hfl =>
      ⟨fun hsel hcur => ?_, fun hsel hsh => ?_, fun hsel hcur => ?_⟩⟩,
    fun c m st s hfd hor => ⟨fun h4 => ?_, fun h4 => ?_⟩, fun c x a s hon htt hbest => ?_,
    fun l a h => (CanCand.best_first l).2 a h, fun c d k t s hon htx hwhat hfd hrec => ?_,
    fun c e s hon hps hoff hmode htx hsend hkind hspec hrec htec => ?_,
    fun c e s t k hon hps hoff hmode htx hwhat hcan hsend hkind hspec hlo hhi => ?_, fun c s hon hoff hrec => ?_,
    fun c s hup => ⟨fun hoff => ?_, fun hoff => ?_, ?_, fun k => ⟨fun hp => ?_, fun hp htx => ?_, fun t hp htx hwhat => ?_,
      fun hm ht => ?_, fun ht => ?_, fun v hsel => ?_⟩, fun i w hsel hdir => ⟨fun hp => ?_, fun hp => ?_⟩⟩,
    fun c k s hon => ⟨fun ht hdue => ?_, fun hor => ?_, fun v hps hdir hpt hfld hto hv hdue => ?_, fun hlt => ?_⟩⟩
  · refine relays_of ?_
    rw [exec_canFrameReceive, execCanFrameReceive, if_pos (by rw [hon, hoff]; rfl)]
    cases hp : (s.chan c).ps with
    | sleep => exact absurd hp hs
    | quiet => exact absurd hp hq
    | awake => rfl
    | prepare => rfl
    | waking => rfl
  · refine relays_of ?_
    rw [exec_canFrameReceive, execCanFrameReceive, if_pos (by rw [hon, hoff]; rfl), hps]
    dsimp only
    rw [hg]
    rfl
  · refine relays_of ?_
    rw [exec_canFrameReceive, execCanFrameReceive, if_pos (by rw [hon, hoff]; rfl), hps]
    dsimp only
    rw [hg]
    rfl
  · exact (canTake_plain hfd htx hrec hps hnm htt hrtr).1 hm
  · rw [(canTake_plain hfd htx hrec hps hnm htt hrtr).2 k hm, placeFrame_plain m st (by exact hpt) (by exact hfl),
      cobj_canCount, selected_canCount, decide_eq_false hsel]
    dsimp only
    rw [if_neg Bool.false_ne_true, if_neg Bool.false_ne_true, if_neg (by rw [hcur]; exact Bool.false_ne_true)]
    rfl
  · rw [(canTake_plain hfd htx hrec hps hnm htt hrtr).2 k hm, placeFrame_plain m st (by exact hpt) (by exact hfl),
      cobj_canCount, selected_canCount, decide_eq_true hsel]
    dsimp only
    rw [if_pos rfl, if_pos rfl, if_neg (by rw [hsh]; exact Bool.false_ne_true)]
    rfl
  · rw [(canTake_plain hfd htx hrec hps hnm htt hrtr).2 k hm, placeFrame_plain m st (by exact hpt) (by exact hfl),
      cobj_canCount, selected_canCount, decide_eq_false hsel]
    dsimp only
    rw [if_neg Bool.false_ne_true, if_neg Bool.false_ne_true, if_pos (Option.isSome_iff_ne_none.2 hcur)]
    rfl
  · rw [State.canTake]
    dsimp only
    rw [if_pos (by simpa [hfd] using hor), if_pos h4]
  · rw [State.canTake]
    dsimp only
    rw [if_pos (by simpa [hfd] using hor), if_neg (by simp [h4])]
  · refine relays_of ?_
    rw [exec_arbitration, execArbitration, if_pos hon, htt]
    dsimp only
    rw [if_neg Bool.false_ne_true, hbest]
  · refine completes_settled (exec_canTransmitComplete_obj hon htx hwhat hfd hrec) fun u hu => ?_
    obtain ⟨e, h⟩ := chan_objSent_own (s.sentFrame c t) c k t
    have hsent : s.within [.can, .sys, .host] ((s.sentFrame c t).objSent c k 2 true t) :=
      (within_of_canless ((canless_objSent _ _ _ _ _ _).trans (canless_sentFrame s c t))).mono (by decide)
    have hco : ((s.sentFrame c t).objSent c k 2 true t).cobj c k = { (s.sentFrame c t).cobj c k with
        status := 2, stamp := t.stamp, sent := t.val, clash := 0, pending := false, cancel := false } := by
      rw [State.cobj, h]
      exact Tab.get_set_self _ _ _ _
    rw [chan_sentFrame] at h
    have htx' := congrArg CanChan.tx h
    have hout := congrArg CanChan.out h
    have htec := congrArg CanChan.tec h
    have hcnt := congrArg (fun x : CanChan => x.cnt.get 0 1) h
    have hobj := hu.cobj c k
    rw [hco] at hobj
    have hst := congrArg CanObj.status hobj
    have hstamp := congrArg CanObj.stamp hobj
    have hval := congrArg CanObj.sent hobj
    exact ⟨(hu.keeps c CanChan.tx fun _ => rfl).trans htx', (hu.keeps c CanChan.out fun _ => rfl).trans hout,
      (hu.keeps c CanChan.tec fun _ => rfl).trans htec, hu.rest c k (by rw [State.atRest, hco]), hst, hstamp, hval,
      (hu.cnt c (by decide)).trans (hcnt.trans (Tab.get_upd_self _ _ _ _)), hsent.trans hu.within⟩
  · refine completes_settled (v := s.canError c e) (by rw [exec_canError, execCanError, if_pos hon]) fun u hu => ?_
    have hless : (s.canError c e).canless = s.canless := by
      rw [canError_receiver hps hoff hmode htx hsend hkind hspec hrec htec]
      rfl
    have hfirst : s.within [.can, .sys, .host] (s.canError c e) := (within_of_canless hless).mono (by decide)
    have hwith := hu.within
    have hcnt := hu.cnt c (i := e.kind.cnt) (by cases e.kind <;> decide)
    have hrec' := hu.keeps c CanChan.rec_ fun _ => rfl
    have htec' := hu.keeps c CanChan.tec fun _ => rfl
    have hlec := hu.keeps c CanChan.lec fun _ => rfl
    have hdp := hu.keeps c CanChan.dataPhase fun _ => rfl
    have hbo := hu.keeps c CanChan.busOff fun _ => rfl
    rw [canError_receiver hps hoff hmode htx hsend hkind hspec hrec htec] 
      at hcnt hrec' htec' hlec hdp hbo
    rw [chan_setChan_self, chan_canCount_self] at hcnt hrec' htec' hlec hdp hbo
    exact ⟨hrec', htec', hlec, hdp, hbo.trans hoff, hcnt.trans (Tab.get_upd_self _ _ _ _),
      hfirst.trans hwith⟩
  · refine completes_settled (v := s.canError c e) (by rw [exec_canError, execCanError, if_pos hon]) fun u hu => ?_
    obtain ⟨n, h⟩ := canError_busOff hps hoff hmode htx hwhat hcan hsend hkind hspec hlo
    have hbo := hu.keeps c CanChan.busOff fun _ => rfl
    have htec := hu.keeps c CanChan.tec fun _ => rfl
    have htx' := hu.keeps c CanChan.tx fun _ => rfl
    have hrec := hu.keeps c CanChan.recovering fun _ => rfl
    have hev := hu.event c (i := 4) (by decide)
    rw [h] at hbo htec htx' hrec hev
    refine ⟨hbo, htec, htx', hrec, hev.trans ?_⟩
    rw [BitVec.getLsbD_or]
    exact Bool.or_true _
  · refine relays_of ?_
    rw [exec_busOffRecoveryComplete, execBusOffRecoveryComplete]
    dsimp only
    rw [if_pos (by rw [hon, hoff, hrec]; rfl)]
  · refine relays_of ?_
    rw [exec_canRecover, execCanRecover, if_pos hup, State.canRecover]
    rw [if_pos hoff]
  · refine relays_of ?_
    rw [exec_canRecover, execCanRecover, if_pos hup, State.canRecover]
    rw [hoff]
    rfl
  · refine relays_of ?_
    rw [exec_canCounterClear, execCanCounterClear, if_pos hup]
    rfl
  · refine relays_of ?_
    rw [exec_canCancel, execCanCancel, if_pos hup, State.canCancel]
    rw [hp]
    rfl
  · refine relays_of ?_
    rw [exec_canCancel, execCanCancel, if_pos hup, State.canCancel]
    rw [hp, htx]
    rfl
  · refine relays_of ?_
    rw [exec_canCancel, execCanCancel, if_pos hup, State.canCancel]
    rw [hp, htx, if_neg (by simp), if_pos (by simp [hwhat])]
  · refine relays_of ?_
    rw [exec_canTxReq, execCanTxReq, if_pos hup, State.canTxReq, if_pos (by simp [hm, ht])]
  · refine relays_of ?_
    rw [exec_canTxReq, execCanTxReq, if_pos hup, State.canTxReq, if_neg (by simp [ht])]
  · refine relays_of ?_
    rw [exec_canObjSel, execCanObjSel, if_pos hup, State.canSelect, State.canRelease]
    dsimp only
    rw [hsel]
    rfl
  · refine relays_of ?_
    rw [exec_canObjDataWrite, execCanObjDataWrite, if_pos hup, State.canDataWrite]
    dsimp only
    rw [if_neg (by simp [hsel, hdir]), if_pos hp]
  · refine relays_of ?_
    rw [exec_canObjDataWrite, execCanObjDataWrite, if_pos hup, State.canDataWrite]
    dsimp only
    rw [if_neg (by simp [hsel, hdir]), if_neg (by simp [hp])]
  · refine relays_of ?_
    rw [exec_canPeriodTrigger, execCanPeriodTrigger]
    dsimp only
    rw [if_pos (by simp [hon, ht, hdue])]
  · rw [exec_canPeriodTrigger, execCanPeriodTrigger]
    dsimp only
    rw [if_neg (by rcases hor with h | h <;> simp [h])]
  · refine relays_of ?_
    rw [exec_canRxTimeout, execCanRxTimeout]
    dsimp only
    rw [if_pos (by simp only [hon, hps, hdir, hpt, hto, decide_eq_true hdue, decide_eq_true hfld]; rfl), lastValue_some hv]
    dsimp only
    rw [setCobj_time]
  · rw [exec_canRxTimeout, execCanRxTimeout]
    dsimp only
    rw [if_neg fun h => absurd (of_decide_eq_true (Bool.and_eq_true _ _ ▸ h).2) (Nat.not_le.2 hlt)]

end Sys2Proof.Machine
end

section
/-! SUPPORT. Network management and time-triggered channels (R225 to R228, R424 to R428). -/

namespace Sys2Proof.Machine

set_option Elab.async false

theorem canless_setChan (s : State) (c : Nat) (x : CanChan) : (s.setChan c x).canless = s.canless := rfl

theorem canless_canCount (s : State) (c i : Nat) : (s.canCount c i).canless = s.canless := rfl

theorem canless_canEvent (s : State) (c b : Nat) : (s.canEvent c b).canless = s.canless := rfl

/-! ### Network management -/

theorem ps_enterWaking (s : State) (c : Nat) : ((s.enterWaking c).chan c).ps = .waking := by
  rw [State.enterWaking, chan_canEvent_self, chan_setChan_self]

/-- A local request that held before, or that does not hold now, wakes nothing. -/
theorem localWake_same {s : State} {c : Nat} {was host : Bool} (h : was = true ∨ s.localReq c = false) :
    s.localWake c was host = s := by
  rw [State.localWake, if_neg (by rcases h with h | h <;> simp [h])]

theorem nmDue {s : State} {c : Nat} {d : Nat} (hon : s.canOn c = true) (hnm : s.canNm c = true)
    (h : ∀ t, (s.chan c).nmAt = some t → t + d ≤ s.sys.mono) :
    (s.canOn c && s.canNm c && (s.chan c).nmAt.all (fun t => decide (t + d ≤ s.sys.mono))) = true := by
  rw [hon, hnm]
  cases ht : (s.chan c).nmAt with
  | none => rfl
  | some t => exact decide_eq_true (h t ht)

/-- What the channel may send does not depend on keep_point. -/
theorem canSends_read (s : State) (c : Nat) (n : Option Nat) (b : Bool) :
    (s.setChan c { s.chan c with nmAt := n, keepNow := b }).canSends c = s.canSends c := by
  unfold State.canSends
  rw [chan_setChan_self]
  rfl

theorem chan_nmSend (s : State) (c b : Nat) (st : DWord) : ∃ o, (s.nmSend c b st).chan c = { s.chan c with
    tec := (s.chan c).tec - 1, out := o, cnt := (s.chan c).cnt.upd 0 1 satInc } := by
  rw [State.nmSend, State.canSent, chan_canCount_self, chan_setChan_self]
  exact ⟨_, rfl⟩

theorem chan_goPrepare (s : State) (c : Nat) (forced : Bool) (st : DWord) : ∃ o, (s.goPrepare c forced st).chan c =
    { s.chan c with
        tec := (s.chan c).tec - 1, out := o, cnt := (s.chan c).cnt.upd 0 1 satInc, ps := .prepare, forced := forced
        wakeDue := false, commitAt := st + BitVec.ofNat 64 (ms (s.nmFld c 8 4)) } := by
  obtain ⟨o, h⟩ := chan_nmSend s c (2 + 4 * bit forced) st
  refine ⟨o, ?_⟩
  unfold State.goPrepare
  dsimp only
  rw [chan_setChan_self, h]
  rfl

theorem canless_goPrepare (s : State) (c : Nat) (forced : Bool) (st : DWord) :
    (s.goPrepare c forced st).canless = s.canless := rfl

/-- The channel of a state that has woken. -/
def State.woken (s : State) (c : Nat) (st : DWord) : State :=
  let t := s.enterAwake c
  if t.canSends c && t.canNm c then t.nmSend c 9 (t.canStamp c st) else t

theorem exec_wakeSettleEnd_settled {s : State} {c : Fin 16} (st : DWord) (hon : s.canOn c = true)
    (hps : (s.chan c).ps = .waking) (hle : (s.chan c).wakingAt + ms (s.nmFld c 0x10 2) ≤ s.sys.mono) :
    exec (.wakeSettleEnd c st) s = (s.woken c st).canDone := by
  rw [exec_wakeSettleEnd, execWakeSettleEnd]
  dsimp only
  rw [if_pos (by rw [hon, hps, decide_eq_true hle]; rfl)]
  rfl

theorem chan_woken (s : State) (c : Nat) (st : DWord) : ((s.woken c st).chan c).ps = .awake ∧
    ((s.woken c st).chan c).awakeAt = s.sys.mono ∧ ((s.woken c st).chan c).forced = false := by
  unfold State.woken
  dsimp only
  split
  · obtain ⟨o, h⟩ := chan_nmSend (s.enterAwake c) c 9 ((s.enterAwake c).canStamp c st)
    rw [h, State.enterAwake, chan_setChan_self]
    exact ⟨rfl, rfl, rfl⟩
  · rw [State.enterAwake, chan_setChan_self]
    exact ⟨rfl, rfl, rfl⟩

theorem canless_woken (s : State) (c : Nat) (st : DWord) : (s.woken c st).canless = s.canless := by
  unfold State.woken
  dsimp only
  split <;> rfl

/-- Settles O48: each command is one operation behind its condition; the settling of the channels that follows leaves
the power state, the counters and the commit instant. -/
theorem canSleepAndReferences : Obligations.CanSleepAndReferences := by
  unfold Obligations.CanSleepAndReferences
  refine ⟨fun c s hup => ⟨?_, ?_⟩,
    fun c b hard st s => ⟨fun hps => ?_, fun hps hf => ?_, fun hps hf hlt => ?_, fun hps hf hle => ?_, fun hps hg => ?_,
      fun hps => ?_⟩,
    fun c x s hon hnm => ⟨fun t ht hlt => ?_, fun ht hloc => ⟨fun hsend hps => ?_, fun hna hnp => ?_⟩,
      fun hsend hco hps hdue => ?_, fun hdue => ?_, fun hlt => ?_, fun hsend hco hps hmax hk hle => ?_⟩,
    fun c s hon => ⟨fun hps hle hq hw => ?_, fun hps hle hq => ?_, fun hps hg hle => ⟨fun hw => ?_, fun hw => ?_⟩,
      fun hlt => ?_, fun hlt => ?_, fun nm st => ?_, fun nm st hnq hns => ?_, fun st hlt => ?_, fun st hps hle => ?_⟩,
    fun c x s hlead => ⟨fun hp hdue => ?_, fun hdue => ?_, fun hp hle => ?_, fun hlt => ?_⟩,
    fun c s hon htt => ⟨fun hle => ?_, fun hp hm hst hlt => ?_, fun hw => ?_, fun htx hw => ?_,
      fun k n hk => ⟨fun hlt => ?_, fun hle => ?_⟩⟩⟩
  · exact relays_of (by rw [exec_wakeReq, execWakeReq, if_pos hup]; rfl)
  · exact relays_of (by rw [exec_sleepOk, execSleepOk, if_pos hup]; rfl)
  · rw [State.wakeEvent]
    rcases hps with h | h <;> rw [h]
  · rw [State.wakeEvent]
    rw [hps]
    dsimp only
    rw [if_pos (by rw [hf]; rfl)]
  · rw [State.wakeEvent]
    rw [hps]
    dsimp only
    rw [if_neg (by rcases hf with h | h <;> simp [h]), if_pos hlt, chan_canEvent_self, chan_canCount_self, State.enterAwake, chan_setChan_self]
  · rw [State.wakeEvent]
    rw [hps]
    dsimp only
    rw [if_neg (by rcases hf with h | h <;> simp [h]), if_neg (by simpa using hle)]
  · rw [State.wakeEvent]
    rw [hps]
    dsimp only
    rw [if_pos hg]
  · rcases hps with ⟨h, hg⟩ | h
    · rw [State.wakeEvent, h]
      dsimp only
      rw [hg, if_neg Bool.false_ne_true, ps_enterWaking]
    · rw [State.wakeEvent, h]
      exact ps_enterWaking _ c
  · rw [exec_nmFrameSend, execNmFrameSend]
    dsimp only
    rw [ht, Option.all_some, decide_eq_false (Nat.not_le.2 hlt), Bool.and_false]
    rfl
  · refine relays_of ?_
    rw [exec_nmFrameSend, execNmFrameSend]
    dsimp only
    rw [if_pos (nmDue hon hnm ht), localWake_same hloc, chan_setChan_self]
    dsimp only
    rw [canSends_read, hsend, hps]
    rfl
  · refine relays_of ?_
    rw [exec_nmFrameSend, execNmFrameSend]
    dsimp only
    rw [if_pos (nmDue hon hnm ht), localWake_same hloc, chan_setChan_self]
    dsimp only
    rw [beq_eq_false_iff_ne.2 hna, beq_eq_false_iff_ne.2 hnp, Bool.or_false, Bool.and_false]
    rfl
  · refine completes_settled (v := s.goPrepare c false (s.canStamp c x)) ?_ fun u hu => ?_
    · rw [exec_sleepCommand, execSleepCommand]
      rw [if_pos (by rw [hsend, hnm, hco, hps, hdue]; rfl)]
    · obtain ⟨o, h⟩ := chan_goPrepare s c false (s.canStamp c x)
      have hp := hu.keeps c CanChan.ps fun _ => rfl
      have hf := hu.keeps c CanChan.forced fun _ => rfl
      have hc := hu.keeps c CanChan.commitAt fun _ => rfl
      have ht := hu.keeps c CanChan.tec fun _ => rfl
      rw [h] at hp hf hc ht
      exact ⟨hp, hf, hc, ht, State.within.trans ((within_of_canless (canless_goPrepare s c false _)).mono (by decide)) hu.within⟩
  · rw [exec_sleepCommand, execSleepCommand]
    rw [if_neg (by simp [hdue])]
  · rw [exec_maxAwakeExpiry, execMaxAwakeExpiry]
    dsimp only
    rw [decide_eq_false (Nat.not_le.2 hlt), Bool.and_false]
    rfl
  · let v : State := s.setChan c { s.chan c with
      keeper := BitVec.ofNat 64 (fields ((s.keepers c).map (fun n => (1, n)))), nmFirst := (s.keepers c).head? }
    refine completes_settled (v := ((v.canEvent c 12).goPrepare c true (s.canStamp c x)).canCount c 17) ?_ fun u hu => ?_
    · rw [exec_maxAwakeExpiry, execMaxAwakeExpiry]
      dsimp only
      rw [if_pos (by
        rw [hsend, hnm, hco, hps, decide_eq_true hmax, decide_eq_true hle, List.isEmpty_eq_false_iff.2 hk]
        rfl)]
      rfl
    · have hv : v.chan c = { s.chan c with
          keeper := BitVec.ofNat 64 (fields ((s.keepers c).map (fun n => (1, n)))), nmFirst := (s.keepers c).head? } :=
        chan_setChan_self _ _ _
      obtain ⟨o, h⟩ := chan_goPrepare (v.canEvent c 12) c true (s.canStamp c x)
      have hless : (((v.canEvent c 12).goPrepare c true (s.canStamp c x)).canCount c 17).canless = s.canless := by
        rw [canless_canCount, canless_goPrepare, canless_canEvent]
        exact canless_setChan _ _ _
      have hp := hu.keeps c CanChan.ps fun _ => rfl
      have hf := hu.keeps c CanChan.forced fun _ => rfl
      have hn := hu.keeps c CanChan.nmFirst fun _ => rfl
      have hk := hu.keeps c CanChan.keeper fun _ => rfl
      have he := hu.event c (i := 12) (by decide)
      rw [chan_canCount_self, h, chan_canEvent_self, hv] at hp hf hn hk he
      refine ⟨hp, hf, hn, he.trans ?_, hk, State.within.trans ((within_of_canless hless).mono (by decide)) hu.within⟩
      exact (BitVec.getLsbD_or ..).trans (Bool.or_true _)
  · refine relays_of ?_
    rw [exec_sleepCommit, execSleepCommit]
    dsimp only
    rw [if_pos (by simp [hon, hps, hle]), if_pos hq, hw, if_neg Bool.false_ne_true]
  · refine relays_of ?_
    rw [exec_sleepCommit, execSleepCommit]
    dsimp only
    rw [if_pos (by simp [hon, hps, hle]), if_neg hq]
  · refine relays_of ?_
    rw [exec_sleepPatternEnd, execSleepPatternEnd]
    rw [if_pos (by rw [hon, hps, hg, decide_eq_true hle]; rfl), hw, if_neg Bool.false_ne_true]
  · refine relays_of ?_
    rw [exec_sleepPatternEnd, execSleepPatternEnd]
    rw [if_pos (by rw [hon, hps, hg, decide_eq_true hle]; rfl), if_pos hw]
  · rw [exec_sleepPatternEnd, execSleepPatternEnd]
    rw [decide_eq_false (Nat.not_le.2 hlt), Bool.and_false]
    rfl
  · rw [exec_sleepCommit, execSleepCommit]
    dsimp only
    rw [if_neg (by simpa using fun _ _ => hlt)]
  · refine relays_of ?_
    rw [exec_wakeEvent, execWakeEvent]
    rw [if_pos (by rw [hon]; rfl)]
    rfl
  · refine relays_of ?_
    rw [exec_wakeEvent, execWakeEvent]
    rw [if_pos (by rw [hon]; cases h : (s.chan c).ps <;> simp_all)]
    rfl
  · rw [exec_wakeSettleEnd, execWakeSettleEnd]
    dsimp only
    rw [decide_eq_false (Nat.not_le.2 hlt), Bool.and_false]
    rfl
  · have hset := exec_wakeSettleEnd_settled st hon hps hle
    obtain ⟨h1, h2, h3⟩ := chan_woken s c st
    refine completes_settled hset fun u hu => ?_
    exact ⟨(hu.keeps c CanChan.ps fun _ => rfl).trans h1, (hu.keeps c CanChan.awakeAt fun _ => rfl).trans h2,
      (hu.keeps c CanChan.forced fun _ => rfl).trans h3,
      State.within.trans ((within_of_canless (canless_woken s c st)).mono (by decide)) hu.within⟩
  · refine relays_of ?_
    rw [exec_referenceMessageSend, execReferenceMessageSend]
    dsimp only
    rw [if_pos (by rw [hlead, hp, hdue]; rfl)]
  · rw [exec_referenceMessageSend, execReferenceMessageSend]
    dsimp only
    rw [hdue, Bool.and_false]
    rfl
  · refine relays_of ?_
    rw [exec_coldStart, execColdStart]
    rw [if_pos (by rw [hlead, hp, decide_eq_true hle]; rfl)]
  · rw [exec_coldStart, execColdStart]
    rw [decide_eq_false (Nat.not_le.2 hlt), Bool.and_false]
    rfl
  · rw [exec_refLost, execRefLost]
    rw [decide_eq_false (Nat.not_lt.2 hle), Bool.and_false]
    rfl
  · refine relays_of ?_
    rw [exec_refLost, execRefLost]
    rw [if_pos (by rw [hon, htt, hp, hm, hst, decide_eq_true hlt]; rfl)]
  · rw [exec_canGuardCut, execCanGuardCut]
    dsimp only
    rw [if_neg (by simp [hw])]
  · refine relays_of ?_
    rw [exec_canGuardCut, execCanGuardCut]
    dsimp only
    rw [if_pos (by rw [hon, htt, htx, hw]; rfl)]
  · refine relays_of ?_
    rw [exec_timeMark, execTimeMark]
    dsimp only
    rw [if_pos (by simp [hon, htt, hk]), if_pos (by exact hlt), State.diffNs,
      show (4 * n : Int) = ((4 : Nat) : Int) * n from rfl, whole_exact _ n 4 (by decide)]
  · refine relays_of ?_
    rw [exec_timeMark, execTimeMark]
    dsimp only
    rw [if_pos (by simp [hon, htt, hk]), if_neg (by exact Nat.not_lt.2 hle)]

end Sys2Proof.Machine
end

section
/-! SUPPORT. Requests to the point engine (R265, R272, R274, R275, R277, R284, R287, R288). -/

namespace Sys2Proof.Machine

set_option Elab.async false

/-- A request to the point engine while it is disabled. -/
theorem becomes_pntDisabled {i : Instr} {s u : State} {q : Req} {code words : Nat} {f : State → State ⊕ Nat}
    (hx : exec i s = if s.running then (s.pntServe q code words f).done else .next s) (h : s.asked q code words u)
    (hoff : u.pnt.enabled = false) : Becomes i s (u.refuse q code 0x15) :=
  becomes_refused hx h (by rw [hoff]; rfl)

/-- A request to the point engine that is done or accepted. -/
theorem becomes_pntServed {i : Instr} {s u t : State} {q : Req} {code words : Nat} {f : State → State ⊕ Nat}
    (hx : exec i s = if s.running then (s.pntServe q code words f).done else .next s) (h : s.asked q code words u)
    (hon : u.pnt.enabled = true) (hf : f u = .inl t) : Becomes i s t :=
  becomes_served hx h (by rw [if_pos hon, hf])

/-- A request to the point engine that its operation refuses. -/
theorem becomes_pntRefused {i : Instr} {s u : State} {q : Req} {code words st : Nat} {f : State → State ⊕ Nat}
    (hx : exec i s = if s.running then (s.pntServe q code words f).done else .next s) (h : s.asked q code words u)
    (hon : u.pnt.enabled = true) (hf : f u = .inr st) : Becomes i s (u.refuse q code st) :=
  becomes_refused hx h (by rw [if_pos hon, hf])

theorem sageFree_of_postless {s t : State} (h : t.postless = s.postless) (p : Nat) : t.sageFree p = s.sageFree p :=
  congrArg (fun x => x.1.sageFree p) h

theorem pnt_of_postless {s t : State} (h : t.postless = s.postless) : t.pnt = s.pnt := congrArg (fun x => x.1.pnt) h

/-- A fetched request leaves the point engine's state alone. -/
theorem fetchReq_sageFree (s : State) (q : Req) (code p : Nat) : (s.fetchReq q code).sageFree p = s.sageFree p := by
  unfold State.fetchReq
  dsimp only
  split
  · exact sageFree_of_postless (postless_mbTakeN s (reqMb q.src.val) true _) p
  · rfl

theorem fetchReq_pnt (s : State) (q : Req) (code : Nat) : (s.fetchReq q code).pnt = s.pnt := by
  unfold State.fetchReq
  dsimp only
  split
  · exact pnt_of_postless (postless_mbTakeN s (reqMb q.src.val) true _)
  · rfl

/-- POINT_SUBSTITUTE_END once nothing of Sage's FIFO names its point. -/
theorem exec_pointSubstituteEnd_free {q : Req} {s u : State} (h : s.asked q 0x804 1 u)
    (hf : u.pnt.enabled = false ∨ u.sageFree (q.word 1) = true) : exec (.pointSubstituteEnd q) s =
      if s.running then (s.pntServe q 0x804 1 (fun s =>
        if 2 ^ 23 ≤ q.word 1 || !(s.point (q.word 1)).subst then .inr 0x12
        else .inl ((s.substEnd (q.word 1)).finish q 0x804))).done else .next s := by
  obtain ⟨hrun, -, rfl, -⟩ := h
  rw [fetchReq_sageFree, fetchReq_pnt] at hf
  have hfree : (s.running && (!s.pnt.enabled || s.sageFree (q.word 1))) = true := by
    rcases hf with hf | hf <;> simp [hrun, hf]
  rw [exec_pointSubstituteEnd, execPointSubstituteEnd, if_pos hfree, if_pos hrun]

theorem soeAppend_time (s : State) (kind p : Nat) (st v : DWord) (q : Word) (source : Nat) :
    (s.soeAppend kind p st v q source).time = s.time := by
  unfold State.soeAppend
  split <;> rfl

/-- A substitution written and delivered, all at one device time. -/
theorem substitute_eq (s : State) (p : Nat) (v0 : DWord) (w0 : Word) : s.substitute p v0 w0 =
    (let u := s.counted
     let r := u.point p
     let v := normValue r.typ v0
     let w := storeQuality ((w0 &&& 0x3FFF) ||| 0x400) 4
     let x : Point := { r with value := v, quality := w, stamp := u.time.t, subst := true, postSub := false }
     let t := (u.setPoint p x).soeAppend 7 p u.time.t v w 0
     State.fanOut { t with pnt := { t.pnt with changes := satInc t.pnt.changes } } p true (qlow w != qlow r.quality) w v
       u.time.t) := by
  exact congrArg (State.fanOut _ p true _ _ _) (congrArg TimeBlk.t (soeAppend_time _ _ _ _ _ _ _))

/-- The read count after a write of one half of it. -/
theorem soeRd_soeRdWrite (s : State) (hi : Bool) (w : Word) : (s.soeRdWrite hi w).pnt.soeRd.toNat =
    min (if hi then s.pnt.soeRd.toNat % 2 ^ 32 + w.toNat * 2 ^ 32 else s.pnt.soeRd.toNat / 2 ^ 32 * 2 ^ 32 + w.toNat)
      s.pnt.soeWr.toNat :=
  (BitVec.toNat_ofNat _ _).trans (Nat.mod_eq_of_lt (Nat.lt_of_le_of_lt (Nat.min_le_right _ _) s.pnt.soeWr.isLt))

/-- Settles O49: a request that its checks pass is one update of the point engine, one that they turn away is answered; a
substitution at the head of Sage's FIFO is written and delivered at once. -/
theorem pointRequests : Obligations.PointRequests := by
  unfold Obligations.PointRequests
  refine ⟨⟨fun q s u h hoff => becomes_pntDisabled (exec_pointGrantSet q s) h hoff,
      fun q s u h ok => becomes_pntServed (exec_pointGrantSet q s) h ok.1 ?_⟩,
    ⟨fun q s u h hoff => becomes_pntDisabled (exec_pointGrantRemove q s) h hoff,
      fun q s u h ok => becomes_pntServed (exec_pointGrantRemove q s) h ok.1 ?_⟩,
    fun q s u h bad => becomes_pntRefused (exec_pointGrantRemove q s) h bad.1 ?_,
    ⟨fun q s u h hoff => becomes_pntDisabled (exec_pointSubstitute q s) h hoff,
      fun q s u h ok => becomes_pntServed (exec_pointSubstitute q s) h ok.1 ?_⟩,
    fun s p rq tag v0 w0 rest hrun hq hready => ?_,
    fun q s u h bad => becomes_pntRefused (exec_pointSubstitute q s) h bad.1 ?_,
    fun q s hon hfree => ?_,
    ⟨fun q s u h hoff => becomes_pntDisabled (exec_pointSubstituteEnd_free h (.inl hoff)) h hoff,
      fun q s u h ok => becomes_pntServed (exec_pointSubstituteEnd_free h (.inr ok.2.1)) h ok.1 ?_⟩,
    fun q s u h bad => becomes_pntRefused (exec_pointSubstituteEnd_free h (.inr bad.2.1)) h bad.1 ?_,
    fun q s u h hon hit => ⟨fun hall => ?_, fun hall hnone => ?_, fun t hall hsome => ?_⟩,
    fun s t e h => ?_,
    fun q s u h hon hit => ⟨fun hnone => ?_, fun t hsome => ?_⟩,
    fun hi w s hup => ?_, fun h w s hup => ?_, fun s hrun hthr => ?_⟩
  · obtain ⟨-, hn, ⟨hb, hlen⟩, hok⟩ := ok
    rw [hlen] at hb
    dsimp only
    rw [hlen, hb, hok, if_neg (by simp; omega)]
  · rw [if_neg (by rw [Option.isNone_iff_eq_none]; exact Option.isSome_iff_ne_none.1 ok.2)]
  · rw [if_pos (by simp [bad.2])]
  · rw [if_neg (by simp [State.unusedPoint, ok.2.2]; exact ok.2.1)]
  · have htake : s.fifoTake 35 = some (.subst p v0 w0 rq tag, rest) := by
      rw [State.fifoTake, hq, takeFirst_cons (by exact hready)]
    rw [Becomes, exec_pointUpdate, execPointUpdate, hrun]
    rw [show ((35 : Fin 36) : Nat) = 35 from rfl, htake]
    exact congrArg (fun t : State => (t.final rq 0x803 tag 0 []).pntSettle.done) (substitute_eq _ p v0 w0)
  · rw [if_pos (by simp [State.unusedPoint, bad.2])]
  · rw [exec_pointSubstituteEnd, execPointSubstituteEnd, hon, hfree, if_neg (by simp)]
  · rw [if_neg (by simp [ok.2.2.2]; exact ok.2.2.1)]
    rfl
  · rw [if_pos (by simp [bad.2])]
  · refine becomes_pntRefused (exec_subscriptionAppend q s) h hon ?_
    dsimp only
    rw [hit, hall]
    rfl
  · refine becomes_pntRefused (exec_subscriptionAppend q s) h hon ?_
    dsimp only
    rw [hit, hall, hnone]
    rfl
  · refine becomes_pntServed (exec_subscriptionAppend q s) h hon ?_
    dsimp only
    rw [hit, hall, hsome]
    rfl
  · unfold State.subAppend at h
    dsimp only at h
    split at h
    · exact absurd h (by simp)
    · next hno =>
      simp only [Bool.or_eq_true, decide_eq_true_eq, not_or, Nat.not_le] at hno
      obtain rfl := Option.some.inj h
      exact ⟨Tab.get_set_self _ _ _ _, Tab.find?_set_self _ _ _, hno.1.2, fun p hp => Tab.get_set_ne _ _ _ hp⟩
  · refine becomes_pntRefused (exec_subscriptionRemove q s) h hon ?_
    dsimp only
    rw [hit, hnone]
    rfl
  · refine becomes_pntServed (exec_subscriptionRemove q s) h hon ?_
    dsimp only
    rw [hit, hsome]
    rfl
  · refine ⟨(s.soeRdWrite hi w).settle, by rw [exec_pntSoeRdWrite, execPntSoeRdWrite, if_pos hup]; rfl, ?_, ?_, ?_, rfl, rfl, ?_⟩
    · exact Nat.le_trans (Nat.le_of_eq (soeRd_soeRdWrite s hi w)) (Nat.min_le_right _ _)
    · intro hlo hle
      subst hlo
      exact (soeRd_soeRdWrite s false w).trans (Nat.min_eq_left hle)
    · intro hlo hle
      subst hlo
      exact (soeRd_soeRdWrite s true w).trans (Nat.min_eq_left hle)
    · refine State.within.trans (State.within.mono (l := [.pnt]) ?_ (by decide)) ((within_settle _).mono (by decide))
      intro b hb
      cases b <;> first | rfl | exact absurd hb (by decide)
  · rw [Becomes, exec_pntHqRdWrite, execPntHqRdWrite, if_pos hup]
    rfl
  · rw [Becomes, exec_throttleAlarm, execThrottleAlarm, if_pos (by rw [hrun, hthr]; rfl)]
    rfl

end Sys2Proof.Machine
end

section
/-! SUPPORT. Updates judged, deliveries and the timers of points (R267 to R272, R275 to R282). -/

namespace Sys2Proof.Machine

set_option Elab.async false

/-! ### What a change leaves of the points -/

/-- The points, the count of changes and the configuration. -/
def State.pointView (s : State) : Tab Point × Word × Config := (s.pnt.points, s.pnt.changes, s.cfg)

section
variable (s : State)

theorem pointView_coalesce (i q : Nat) : (s.coalesce i q).pointView = s.pointView := rfl

theorem pointView_deliver (i : Nat) (e : SubEntry) (q : Word) (v st : DWord) (w : Nat) (c : Bool) :
    (s.deliver i e q v st w c).pointView = s.pointView := by
  unfold State.deliver
  split
  · rfl
  · split
    · rfl
    · dsimp only
      split
      · split <;> rfl
      · rfl

theorem pointView_slotFill (i : Nat) (e : SubEntry) (q : Word) (v st : DWord) :
    (s.slotFill i e q v st).pointView = s.pointView := by
  unfold State.slotFill
  dsimp only
  split
  · rfl
  · split
    · rfl
    · split
      · rfl
      · split <;> rfl

theorem pointView_fanOut (p : Nat) (a b : Bool) (q : Word) (v st : DWord) :
    (s.fanOut p a b q v st).pointView = s.pointView := by
  refine foldl_same State.pointView _ (fun t i => ?_) _ s
  split
  · split
    · split
      · exact pointView_deliver t _ _ _ _ _ _ _
      · exact pointView_slotFill t _ _ _ _ _
    · rfl
  · rfl

theorem pointView_soeAppend (kind p : Nat) (st v : DWord) (q : Word) (source : Nat) :
    (s.soeAppend kind p st v q source).pointView = s.pointView := by
  unfold State.soeAppend
  split <;> rfl

theorem pointView_soeKind (prof kind p : Nat) (st v : DWord) (q : Word) (f : PntSrc) :
    (s.soeKind prof kind p st v q f).pointView = s.pointView := by
  unfold State.soeKind
  dsimp only
  split
  · exact pointView_soeAppend s _ _ _ _ _ _
  · rfl

theorem point_of_pointView {s t : State} (h : t.pnt.points = s.pnt.points) (hc : t.cfg = s.cfg) (p : Nat) :
    t.point p = s.point p := by
  have hi : t.initPoint p = s.initPoint p := by
    unfold State.initPoint State.pntRange State.recsOf
    rw [hc]
  unfold State.point
  rw [h, hi]

end

/-- A delivered change: the point written, one change counted. -/
theorem pointView_deliverChange (s : State) (p : Nat) (a b : Bool) (v : DWord) (q : Word) (st : DWord) (k : Nat) (f : PntSrc) :
    (s.deliverChange p a b v q st k f).pointView =
      ((s.setPoint p { s.point p with value := v, quality := q, stamp := st, postSub := false }).pnt.points, satInc s.pnt.changes,
        s.cfg) := by
  unfold State.deliverChange
  dsimp only
  rw [pointView_fanOut]
  have h := pointView_soeKind (s.setPoint p { s.point p with value := v, quality := q, stamp := st, postSub := false })
    (s.point p).profile k p st v q f
  have hp := congrArg Prod.fst h
  have hc := congrArg (fun x => satInc x.2.1) h
  have hg := congrArg (fun x => x.2.2) h
  exact Prod.ext hp (Prod.ext hc hg)

/-! ### The judgement of an update -/

theorem countUpdate_eq (s : State) : s.countUpdate = s.counted := rfl

theorem counted_filt (s : State) (f off n : Nat) : s.counted.filt f off n = s.filt f off n := rfl

theorem counted_point (s : State) (p : Nat) : s.counted.point p = s.point p := point_of_pointView rfl rfl p

theorem qlow_storeQuality (q : Word) (src : Nat) : qlow (storeQuality q src) = qlow q := by
  have h : BitVec.ofNat 32 (src * 2 ^ 16) &&& 0x3FFF = 0 := by
    refine BitVec.eq_of_toNat_eq ?_
    rw [BitVec.toNat_and, BitVec.toNat_ofNat]
    rw [show ((0x3FFF : Word).toNat) = 2 ^ 14 - 1 from rfl, Nat.and_two_pow_sub_one_eq_mod, Nat.mod_mod_of_dvd _ (by decide),
      show src * 2 ^ 16 = 2 ^ 14 * (src * 4) by omega, Nat.mul_mod_right]
    rfl
  unfold qlow storeQuality
  rw [BitVec.and_or_distrib_right, h, BitVec.and_assoc]
  exact BitVec.or_zero

theorem takeFirst_none {α : Type} {p : α → Bool} {l : List α} (h : ∀ x ∈ l, p x = false) : takeFirst p l = none := by
  induction l with
  | nil => rfl
  | cons a l ih =>
    rw [takeFirst, if_neg (by rw [h a (by simp)]; exact Bool.false_ne_true), ih fun x hx => h x (List.mem_cons_of_mem a hx)]

/-- The judgement of an update that needs no admission. -/
theorem judge_plain {s : State} {u : Update} (h1 : u.from_.src ≠ 1) (h2 : u.from_.src ≠ 2) : s.judge u =
    if !s.pnt.enabled || (s.point u.point).typ = 0 then
      (.unused, { s.counted with pnt := { s.counted.pnt with unused := satInc s.pnt.unused } })
    else if (s.point u.point).subst && u.from_.src ≠ 4 then
      (.blocked, { s.counted with pnt := { s.counted.pnt with blockedC := satInc s.pnt.blockedC } })
    else if tst (s.filt (s.point u.point).profile 20 1) 0 && u.stamp.toNat < (s.point u.point).stamp.toNat then
      (.stale, { s.counted with pnt := { s.counted.pnt with stale := satInc s.pnt.stale } })
    else
      let u := { u with value := normValue (s.point u.point).typ u.value }
      if (s.point u.point).typ = 11 || u.force then
        let q := storeQuality u.quality u.from_.src
        (.change, s.counted.deliverChange u.point true (qlow q != qlow (s.point u.point).quality || (s.point u.point).postSub)
          u.value q u.stamp 0 u.from_)
      else if (s.point u.point).typ = 2 then s.counted.judgeDp u.point u
      else s.counted.judgeRest u.point u := by
  have ha : s.admitQuality u = u := if_neg (by simp [h1, h2])
  unfold State.judge
  rw [ha]
  rfl

theorem judge_goes {s : State} {u : Update} (h1 : u.from_.src ≠ 1) (h2 : u.from_.src ≠ 2)
    (h : s.pnt.enabled = true ∧ (s.point u.point).typ ≠ 0 ∧ (s.point u.point).subst = false ∧
      (s.point u.point).stamp.toNat ≤ u.stamp.toNat) : s.judge u =
      let u := { u with value := normValue (s.point u.point).typ u.value }
      if (s.point u.point).typ = 11 || u.force then
        let q := storeQuality u.quality u.from_.src
        (.change, s.counted.deliverChange u.point true (qlow q != qlow (s.point u.point).quality || (s.point u.point).postSub)
          u.value q u.stamp 0 u.from_)
      else if (s.point u.point).typ = 2 then s.counted.judgeDp u.point u
      else s.counted.judgeRest u.point u := by
  obtain ⟨hon, htyp, hsub, hst⟩ := h
  rw [judge_plain h1 h2, if_neg (by simp [hon, htyp]), if_neg (by simp [hsub]), if_neg (by simp [hst])]

/-- A change of value within an open chatter window whose count stays below the limit. -/
theorem chatter_counted {s : State} {p : Nat} {u : Update} {qc : Bool} {kind : Nat} (hbl : (s.point p).blocked = false)
    (hcc : 0 < (s.point p).chatCount)
    (hco : chatterOpens (s.point p) (s.filt (s.point p).profile 12 2) u.stamp = false)
    (hlt : (s.point p).chatCount + 1 < min 256 (s.filt (s.point p).profile 10 1)) : s.chatter p u true qc kind =
      (.change, (s.setPoint p { s.point p with chatCount := (s.point p).chatCount + 1 }).deliverChange p true qc u.value
        (storeQuality u.quality u.from_.src) u.stamp kind u.from_) := by
  have hopen : (decide ((s.point p).chatCount = 0) ||
      chatterOpens (s.point p) (s.filt (s.point p).profile 12 2) u.stamp) = false := by
    rw [decide_eq_false (by omega), hco]
    rfl
  have hmin : min 255 ((s.point p).chatCount + 1) = (s.point p).chatCount + 1 := by omega
  have hn : ¬ s.filt (s.point p).profile 10 1 = 0 := by omega
  have hcnt : (s.point p).chatCount + 1 < s.filt (s.point p).profile 10 1 := by omega
  simp only [State.chatter, hn, hbl, hopen, hmin, hcnt, if_false, if_true, Bool.false_eq_true, Bool.not_true]

theorem getBytes_fifoPut (s : State) (src : Nat) (l : List PntOp) (p : Nat) : (s.fifoPut src l).getBytes p =
    if s.pnt.enabled = false ∨ (s.point p).typ = 0 then leBytes 4 1 ++ leBytes 16 0 ++ leBytes 1 5
    else leBytes 4 (s.point p).quality.toNat ++ leBytes 8 (s.point p).value.toNat ++ leBytes 8 (s.point p).stamp.toNat ++
      [Free.byte s.sys.draws 0] := by
  unfold State.getBytes
  rw [point_of_pointView (s := s) (t := s.fifoPut src l) rfl rfl p]
  dsimp only [State.fifoPut]
  simp

theorem dpExpire_due {s : State} {p : Nat} {t : PTimer} (ht : s.heldTimer p = some t) (hle : t.deadline ≤ s.time.t)
    (hready : s.pointReady p = true) (hsub : (s.point p).subst = false) : s.dpExpire p =
      (((s.counted.delTimer (2 * p)).setPoint p { s.point p with held := false }).chatter p
        { point := p, value := t.value, quality := t.quality, stamp := t.stamp, from_ := { src := 5 } }
        (t.value != (s.point p).value) (qlow t.quality != qlow (s.point p).quality || (s.point p).postSub) 2).2 := by
  rw [State.dpExpire, ht]
  dsimp only
  rw [if_neg (by simpa [State.due, hready] using hle), if_neg (by rw [hsub]; exact Bool.false_ne_true), State.releaseHeld,
    countUpdate_eq, show s.counted.heldTimer p = some t from ht]
  dsimp only
  rw [counted_point]

/-- Settles O50: the first reachable update is judged along one path; each timer that has run is one call of the
judgement's tail. -/
theorem pointUpdatesAndDeliveries : Obligations.PointUpdatesAndDeliveries := by
  unfold Obligations.PointUpdatesAndDeliveries
  refine ⟨fun src s u rest hrun htake => ⟨fun htag h34 h32 => ?_, fun htag h34 => ?_, fun htag h32 => ?_, fun tag htag hlt => ?_⟩,
    fun src s o rest hq => ⟨fun hr => ?_, fun hr hall => ?_⟩,
    fun s u h1 h2 => ⟨fun hor => ?_, fun hon htyp hsub hsrc => ?_, fun hon htyp hsub hf hlt => ?_,
      fun hgo h11 hforce hdp hval hqual => ?_, fun hgo h11 hforce hdp hchg hn => ?_, fun hgo hor => ?_⟩,
    fun s p a b v q st k f => ?_, fun src s e tag p rest hrun htake => ?_,
    fun p s hrun hon hsub hready => ⟨fun t ht hle hn => ?_, fun t ht hle hbl hne hcc hco hlt => ?_, fun ht => ?_,
      fun t ht hlt => ?_, fun t ht hlt => ?_, fun t ht hle => ?_⟩,
    fun w s hrun hon hrec => ?_, fun q s d rest hopen hw hd => ⟨fun hp hf => ?_, fun hor => ?_⟩,
    fun q s i e hopen hpend hfull hsub hready hno => ?_⟩
  · rw [Becomes, exec_pointUpdate, execPointUpdate, hrun, htake]
    dsimp only
    rw [htag, if_neg h34, if_neg h32]
    rfl
  · rw [Becomes, exec_pointUpdate, execPointUpdate, hrun, htake]
    dsimp only
    rw [htag, if_pos h34]
    rfl
  · rw [Becomes, exec_pointUpdate, execPointUpdate, hrun, htake]
    dsimp only
    rw [htag, if_neg (by omega), if_pos h32]
    rfl
  · rw [Becomes, exec_pointUpdate, execPointUpdate, hrun, htake]
    dsimp only
    rw [htag, if_neg (by omega), if_neg (by omega)]
    dsimp only
    rw [if_pos hlt]
    rfl
  · rw [State.fifoTake, hq, takeFirst_cons (by exact hr)]
  · rw [State.fifoTake, hq]
    exact takeFirst_none fun x hx => by
      rcases List.mem_cons.1 hx with rfl | hx
      · exact hr
      · exact hall x hx
  · rw [judge_plain h1 h2, if_pos (by simpa using hor)]
    rfl
  · rw [judge_plain h1 h2, if_neg (by simp [hon, htyp]), if_pos (by simp [hsub, hsrc])]
    rfl
  · rw [judge_plain h1 h2, if_neg (by simp [hon, htyp]), if_neg (by simp [hsub]), if_pos (by simp [hf, hlt])]
    rfl
  · rw [judge_goes h1 h2 hgo, if_neg (by simp [h11, hforce]), if_neg hdp, State.judgeRest]
    dsimp only
    rw [counted_point, counted_filt, hval, hqual]
    rfl
  · rw [judge_goes h1 h2 hgo, if_neg (by simp [h11, hforce]), if_neg hdp, State.judgeRest]
    dsimp only
    rw [counted_point, counted_filt, if_neg (by rcases hchg with h | h <;> simp [h]), State.chatter]
    dsimp only
    rw [counted_point, if_pos (by exact hn)]
  · rw [judge_goes h1 h2 hgo, if_pos (by simpa using hor)]
    dsimp only
    rw [qlow_storeQuality]
  · dsimp only
    have h := pointView_deliverChange s p a b v q st k f
    have hp := congrArg Prod.fst h
    have hc := congrArg (fun x => x.2.1) h
    have hg := congrArg (fun x => x.2.2) h
    have hpt := point_of_pointView (s := s.setPoint p { s.point p with value := v, quality := q, stamp := st, postSub := false }) hp hg
    have hself := hpt p
    rw [point_setPoint_self] at hself
    refine ⟨by rw [hself], by rw [hself], by rw [hself], by rw [hself], by rw [hself], fun x hx => ?_, hc⟩
    rw [hpt x, point_setPoint, if_neg hx]
  · refine ⟨Free.byte s.sys.draws 0, ?_⟩
    rw [Becomes, exec_pointGet, execPointGet, hrun, htake]
    dsimp only
    rw [getBytes_fifoPut]
    rfl
  · rw [Becomes, exec_dpHoldExpiry, execDpHoldExpiry, if_pos (by rw [hrun, hon]; rfl), dpExpire_due ht hle hready hsub,
      State.chatter]
    dsimp only
    rw [point_setPoint_self, if_pos (by exact hn)]
    rfl
  · rw [Becomes, exec_dpHoldExpiry, execDpHoldExpiry, if_pos (by rw [hrun, hon]; rfl), dpExpire_due ht hle hready hsub,
      bne_iff_ne.2 hne, chatter_counted (by rw [point_setPoint_self]; exact hbl) (by rw [point_setPoint_self]; exact hcc)
        (by rw [point_setPoint_self]; exact hco) (by rw [point_setPoint_self]; exact hlt), point_setPoint_self,
      setPoint_setPoint]
    rfl
  · rw [Becomes, exec_dpHoldExpiry, execDpHoldExpiry, if_pos (by rw [hrun, hon]; rfl), State.dpExpire, ht]
    rfl
  · rw [Becomes, exec_dpHoldExpiry, execDpHoldExpiry, if_pos (by rw [hrun, hon]; rfl), State.dpExpire, ht]
    dsimp only
    rw [if_pos (by simpa [State.due] using .inl hlt)]
    rfl
  · rw [Becomes, exec_chatterRelease, execChatterRelease, if_pos (by rw [hrun, hon]; rfl), State.chatterExpire, ht]
    dsimp only
    rw [if_pos (by simpa [State.due] using .inl hlt)]
    rfl
  · rw [Becomes, exec_chatterRelease, execChatterRelease, if_pos (by rw [hrun, hon]; rfl), State.chatterExpire, ht]
    dsimp only
    rw [if_neg (by simpa [State.due, hready] using hle), if_neg (by rw [hsub]; exact Bool.false_ne_true), State.releaseChatter,
      countUpdate_eq, show s.counted.relTimer p = some t from ht]
    dsimp only
    rw [counted_point]
    rfl
  · rw [Becomes, exec_windowClose, execWindowClose, if_pos (by rw [hrun, hon, hrec]; rfl)]
    rfl
  · rw [Becomes, exec_deliveryWrite, execDeliveryWrite, if_pos hopen, State.deliveryWrite, hw, takeFirst_cons (by simpa using hd)]
    dsimp only
    rw [if_neg (by simpa using ⟨hp, hf⟩)]
    rfl
  · rw [Becomes, exec_deliveryWrite, execDeliveryWrite, if_pos hopen, State.deliveryWrite, hw, takeFirst_cons (by simpa using hd)]
    dsimp only
    rw [if_pos (by simpa using hor)]
    rfl
  · rw [Becomes, exec_pendingDeliveryWrite, execPendingDeliveryWrite]
    dsimp only [Fin.val_castLE]
    rw [if_pos hopen, State.pendWrite, hpend, hfull]
    dsimp only
    rw [hsub]
    dsimp only
    rw [if_neg (by simpa [hready] using hno), if_neg (by omega)]
    rfl

end Sys2Proof.Machine
end

section
/-! SUPPORT. A port's link going down: its receptions, its queues and its own fields (R148, R149, R151). -/

namespace Sys2Proof.Machine

set_option Elab.async false

theorem port_of_coreless {s t : State} (h : t.coreless = s.coreless) (n : Nat) : t.port n = s.port n :=
  eq_of_coreless h (fun s => s.port n) (fun _ => rfl)

/-- A port without its receptions and with its statistics but for those of lost frames. -/
def Port.plain (x : Port) : Port × (Nat → Word) :=
  ({ x with rx := none, rxp := none, stat := [], half := 0 }, fun i => if i = 55 then 0 else x.stat.get 0 i)

/-- Every port in that view. -/
def State.portsPlain (s : State) : Nat → Port × (Nat → Word) := fun n => (s.port n).plain

section
variable (s : State)

theorem portsPlain_of_coreless {s t : State} (h : t.coreless = s.coreless) : t.portsPlain = s.portsPlain :=
  funext fun n => congrArg Port.plain (port_of_coreless h n)

theorem portsPlain_setPort {n : Nat} {x : Port} (h : x.plain = (s.port n).plain) : (s.setPort n x).portsPlain = s.portsPlain := by
  funext m
  show ((s.setPort n x).port m).plain = (s.port m).plain
  rw [port_setPort]
  split
  · next hm => rw [h, hm]
  · rfl

theorem portsPlain_clearRx (n fid : Nat) : (s.clearRx n fid).portsPlain = s.portsPlain := portsPlain_setPort s rfl

theorem portsPlain_stat (n k : Nat) : (s.stat n 55 k).portsPlain = s.portsPlain := by
  refine portsPlain_setPort s (Prod.ext rfl (funext fun i => ?_))
  show (if i = 55 then 0 else ((s.port n).stat.set 55 _).get 0 i) = if i = 55 then 0 else (s.port n).stat.get 0 i
  split
  · rfl
  · next hi => rw [Tab.get_set_ne _ _ _ hi]

theorem coreless_withdraw (fid : Nat) : (s.withdraw fid).coreless = s.coreless := by
  refine foldl_same State.coreless _ (fun t i => ?_) _ s
  dsimp only
  split
  · exact coreless_dropCopy _ _ _ _ _
  · rfl

theorem coreless_creditCt (fid cells : Nat) : (s.creditCt fid cells).coreless = s.coreless := by
  unfold State.creditCt
  dsimp only
  split <;> rfl

theorem portsPlain_abandon (n fid len m : Nat) (b f : List Byte) : (s.abandon n fid len m b f).portsPlain = s.portsPlain := by
  unfold State.abandon
  split
  · rfl
  · dsimp only
    rw [portsPlain_of_coreless (coreless_tryRelease _ _), portsPlain_clearRx]
    split
    · exact portsPlain_of_coreless ((coreless_setFrame _ _ _).trans ((coreless_creditCt _ _ _).trans (coreless_withdraw _ _)))
    · exact portsPlain_of_coreless ((coreless_creditCt _ _ _).trans (coreless_withdraw _ _))

theorem portsPlain_dropRx (n : Nat) (o : Option Nat) : (s.dropRx n o).portsPlain = s.portsPlain := by
  unfold State.dropRx
  split
  · rfl
  · split
    · exact portsPlain_abandon s _ _ _ _ _ _
    · exact portsPlain_clearRx s _ _

theorem coreless_fabFlush (n : Nat) : (s.fabFlush n).coreless = s.coreless :=
  foldl_same State.coreless _ (fun t c => foldl_same State.coreless _ (fun u x => coreless_dropCopy _ _ _ _ _) _ t) _ s

theorem portsPlain_originate : s.originate.portsPlain = s.portsPlain := by
  unfold State.originate
  split
  · refine (portsPlain_of_coreless (coreless_flood _ _ _)).trans ?_
    rfl
  · rfl

theorem portsPlain_fabLoss (n : Nat) : (s.fabLoss n).portsPlain = s.portsPlain := by
  unfold State.fabLoss
  dsimp only
  split
  · rw [portsPlain_originate, portsPlain_of_coreless (coreless_fabFlush _ _)]
    rfl
  · rfl

end

/-! ### The queues of a port that goes down -/

/-- One frame of a queue lost with the link. -/
def State.loseCopy (n c : Nat) (s : State) (x : Copy) : State := (s.stat n 55).dropCopy n c x (some 0x0A)

/-- The frames of one class lost with the link. -/
def State.loseClass (n : Nat) (s : State) (c : Nat) : State := (s.queue n c).foldl (State.loseCopy n c) s

theorem flushPort_eq (s : State) (n : Nat) : s.flushPort n =
    (List.range 8).foldl (State.loseClass n) (s.setPort n { s.port n with tx := none, held := none }) := rfl

section
variable (s : State)

theorem swQueue_capWrite (b : List Byte) : (s.capWrite b).sw.queue = s.sw.queue := by
  unfold State.capWrite
  dsimp only
  split
  · rfl
  · split <;> rfl

theorem swQueue_capture (f : Frame) : (s.capture f).sw.queue = s.sw.queue := by
  unfold State.capture
  split
  · rfl
  · dsimp only
    have hd : (if 1 < f.refused.length then s.draw else s).sw.queue = s.sw.queue := by split <;> rfl
    generalize (if 1 < f.refused.length then s.draw else s) = u at hd ⊢
    split
    · rw [swQueue_capWrite]
      exact hd
    · exact hd

theorem swQueue_tryRelease (fid : Nat) : (s.tryRelease fid).sw.queue = s.sw.queue := by
  unfold State.tryRelease
  split
  · rfl
  · split
    · dsimp only
      split
      · split
        · exact swQueue_capture s _
        · exact swQueue_capture s _
      · exact swQueue_capture s _
    · rfl

theorem swQueue_copyGone (fid : Nat) (why : Option Nat) : (s.copyGone fid why).sw.queue = s.sw.queue := by
  unfold State.copyGone
  split
  · rfl
  · dsimp only
    rw [swQueue_tryRelease]
    split <;> rfl

theorem queue_dropCopy (n c : Nat) (x : Copy) (why : Option Nat) (n' c' : Nat) : (s.dropCopy n c x why).queue n' c' =
    if 8 * n' + c' = 8 * n + c then (s.queue n c).filter (fun y => y.fid != x.fid) else s.queue n' c' := by
  unfold State.dropCopy State.queue
  rw [swQueue_copyGone]
  exact Tab.get_set _ _ _ _ _

theorem queue_loseCopy (n c : Nat) (x : Copy) (n' c' : Nat) : (s.loseCopy n c x).queue n' c' =
    if 8 * n' + c' = 8 * n + c then (s.queue n c).filter (fun y => y.fid != x.fid) else s.queue n' c' :=
  queue_dropCopy _ n c x _ n' c'

theorem port_loseCopy (n c : Nat) (x : Copy) : (State.loseCopy n c s x).port n = (s.stat n 55).port n :=
  port_of_coreless (coreless_dropCopy _ _ _ _ _) n

theorem stat55_stat (n : Nat) : ((s.stat n 55).port n).stat.get 0 55 = (s.port n).stat.get 0 55 + 1 := by
  rw [State.stat, port_setPort_self]
  exact Tab.get_set_self _ _ _ _

end

/-- One class lost: its queue is empty, the queues of other classes stay, each frame counts. -/
theorem loseCopies_spec (n c : Nat) (l : List Copy) (s : State) :
    (l.foldl (State.loseCopy n c) s).queue n c = (s.queue n c).filter (fun y => l.all fun x => y.fid != x.fid) ∧
    (∀ c', c' ≠ c → (l.foldl (State.loseCopy n c) s).queue n c' = s.queue n c') ∧
    ((l.foldl (State.loseCopy n c) s).port n).stat.get 0 55 = (s.port n).stat.get 0 55 + BitVec.ofNat 32 l.length := by
  induction l generalizing s with
  | nil =>
    exact ⟨(List.filter_eq_self.2 fun _ _ => rfl).symm, fun _ _ => rfl, (BitVec.add_zero _).symm⟩
  | cons x l ih =>
    obtain ⟨hq, hother, hstat⟩ := ih (s.loseCopy n c x)
    refine ⟨?_, fun c' hc => ?_, ?_⟩
    · rw [List.foldl_cons, hq, queue_loseCopy, if_pos rfl, List.filter_filter]
      refine List.filter_congr fun y _ => ?_
      rw [List.all_cons, Bool.and_comm]
    · rw [List.foldl_cons, hother c' hc, queue_loseCopy, if_neg (by omega)]
    · rw [List.foldl_cons, hstat, port_loseCopy, stat55_stat, List.length_cons, BitVec.add_assoc]
      congr 1
      rw [Nat.add_comm, BitVec.ofNat_add]
      rfl

theorem loseClass_spec (n c : Nat) (s : State) : (s.loseClass n c).queue n c = [] ∧
    (∀ c', c' ≠ c → (s.loseClass n c).queue n c' = s.queue n c') ∧
    ((s.loseClass n c).port n).stat.get 0 55 = (s.port n).stat.get 0 55 + BitVec.ofNat 32 (s.queue n c).length := by
  obtain ⟨hq, hother, hstat⟩ := loseCopies_spec n c (s.queue n c) s
  refine ⟨?_, hother, hstat⟩
  rw [State.loseClass, hq, List.filter_eq_nil_iff]
  intro y hy hall
  exact absurd (List.all_eq_true.1 hall y hy) (by simp)

/-- Several classes lost. -/
theorem loseClasses_spec (n : Nat) (l : List Nat) (hl : l.Nodup) (s : State) :
    (∀ c ∈ l, (l.foldl (State.loseClass n) s).queue n c = []) ∧
    (∀ c, c ∉ l → (l.foldl (State.loseClass n) s).queue n c = s.queue n c) ∧
    ((l.foldl (State.loseClass n) s).port n).stat.get 0 55 = (s.port n).stat.get 0 55 +
      BitVec.ofNat 32 (l.map fun c => (s.queue n c).length).sum := by
  induction l generalizing s with
  | nil => exact ⟨by simp, fun _ _ => rfl, (BitVec.add_zero _).symm⟩
  | cons c l ih =>
    obtain ⟨hc, hl⟩ := List.nodup_cons.1 hl
    obtain ⟨hempty, hother, hstat⟩ := ih hl (s.loseClass n c)
    obtain ⟨hq, hkeep, hcount⟩ := loseClass_spec n c s
    refine ⟨fun d hd => ?_, fun d hd => ?_, ?_⟩
    · rw [List.foldl_cons]
      rcases List.mem_cons.1 hd with rfl | hd
      · rw [hother d hc, hq]
      · exact hempty d hd
    · rw [List.foldl_cons, hother d fun h => hd (List.mem_cons_of_mem c h), hkeep d fun h => hd (h ▸ List.mem_cons_self)]
    · have hmap : (l.map fun d => ((s.loseClass n c).queue n d).length) = l.map fun d => (s.queue n d).length :=
        List.map_congr_left fun d hd => by rw [hkeep d fun h => hc (h ▸ hd)]
      rw [List.foldl_cons, hstat, hcount, hmap, List.map_cons, List.sum_cons, BitVec.ofNat_add, BitVec.add_assoc]

/-- The state without the ports, the core and what the core's frames touch. -/
def State.linkless (s : State) : State := { s with ports := {}, sw := {}, mem := {}, engs := {}, sys := {} }

theorem linkless_of_coreless {s t : State} (h : t.coreless = s.coreless) : t.linkless = s.linkless :=
  eq_of_coreless h State.linkless (fun _ => rfl)

theorem within_of_linkless {s t : State} (h : t.linkless = s.linkless) : s.within [.ports, .sw, .mem, .engs, .sys] t := by
  intro b hb
  have hb' : State.agrees s.linkless t.linkless b := by
    rw [h]
    cases b <;> rfl
  cases b <;> first | exact hb' | exact absurd hb (by decide)

theorem linkless_stat (s : State) (n i k : Nat) : (s.stat n i k).linkless = s.linkless := rfl

theorem linkless_flushPort (s : State) (n : Nat) : (s.flushPort n).linkless = s.linkless := by
  rw [flushPort_eq]
  exact foldl_same State.linkless _ (fun t c => foldl_same State.linkless _
    (fun u x => (linkless_of_coreless (coreless_dropCopy _ _ _ _ _)).trans (linkless_stat u n 55 1)) _ t) _ _

theorem portsPlain_flushPort (s : State) (n : Nat) : (s.flushPort n).portsPlain =
    (s.setPort n { s.port n with tx := none, held := none }).portsPlain := by
  rw [flushPort_eq]
  exact foldl_same State.portsPlain _ (fun t c => foldl_same State.portsPlain _
    (fun u x => (portsPlain_of_coreless (coreless_dropCopy _ _ _ _ _)).trans (portsPlain_stat u n 1)) _ t) _ _

/-- The state in which the link of a port is noted as lost. -/
def State.linkLost (s : State) (n : Nat) : State :=
  (((s.dropRx n (s.port n).rx).dropRx n (s.port n).rxp).stat n 92).portEvent n 0

/-- A link loss noted: the event, and one count. -/
def Port.lossNoted (x : Port × (Nat → Word)) : Port × (Nat → Word) :=
  ({ x.1 with event := x.1.event ||| 1 }, fun i => if i = 92 then x.2 92 + 1 else x.2 i)

/-- A port flushed and closed. -/
def Port.closed (x : Port) : Port :=
  { x with tx := none, held := none, up := false, anDone := false, verify := .off, verifyTries := 0, frag := none, paused := 0 }

theorem plain_linkLost (s : State) (n : Nat) : ((s.linkLost n).port n).plain = Port.lossNoted (s.port n).plain := by
  have ha : ((s.dropRx n (s.port n).rx).dropRx n (s.port n).rxp).portsPlain = s.portsPlain := by
    rw [portsPlain_dropRx, portsPlain_dropRx]
  have hn := congrFun ha n
  unfold State.linkLost
  generalize (s.dropRx n (s.port n).rx).dropRx n (s.port n).rxp = a at hn ⊢
  have hstat : ((a.stat n 92).portEvent n 0).port n = { (a.stat n 92).port n with event := ((a.stat n 92).port n).event ||| 1 } :=
    port_setPort_self _ _ _
  rw [hstat, show (a.stat n 92).port n = _ from port_setPort_self _ _ _, ← show (a.port n).plain = (s.port n).plain from hn]
  refine Prod.ext rfl (funext fun i => ?_)
  show (if i = 55 then 0 else ((a.port n).stat.set 92 ((a.port n).stat.get 0 92 + BitVec.ofNat 32 1)).get 0 i) =
    if i = 92 then (if (92 : Nat) = 55 then 0 else (a.port n).stat.get 0 92) + 1 else if i = 55 then 0 else (a.port n).stat.get 0 i
  rw [Tab.get_set]
  by_cases hi : i = 92
  · rw [if_pos hi, if_pos hi, if_neg (by omega), if_neg (by decide)]
    rfl
  · rw [if_neg hi, if_neg hi]

/-- A port whose link has gone down, in the view of its own fields. -/
theorem plain_linkDown {s : State} {n : Nat} (hup : (s.port n).up = true) : ((s.linkDown n).port n).plain =
    (Port.closed (Port.lossNoted (s.port n).plain).1, (Port.lossNoted (s.port n).plain).2) := by
  have hflush := congrFun (portsPlain_flushPort (s.linkLost n) n) n
  have hlost := plain_linkLost s n
  have hset : ∀ t : State, (t.setPort n { t.port n with tx := none, held := none }).portsPlain n =
      ({ (t.port n).plain.1 with tx := none, held := none }, (t.port n).plain.2) := by
    intro t
    rw [State.portsPlain, port_setPort_self]
    rfl
  rw [hset, hlost] at hflush
  have hclose : ∀ t : State, (t.setPort n { t.port n with
      up := false, anDone := false, verify := .off, verifyTries := 0, frag := none, paused := 0 }).portsPlain n =
      ({ (t.portsPlain n).1 with
        up := false, anDone := false, verify := .off, verifyTries := 0, frag := none, paused := 0 }, (t.portsPlain n).2) := by
    intro t
    rw [State.portsPlain, port_setPort_self]
    rfl
  show (s.linkDown n).portsPlain n = _
  unfold State.linkDown
  rw [if_neg (by rw [hup]; exact Bool.false_ne_true)]
  dsimp only
  have hfinal : ∀ t : State, (if 64 ≤ n then t.fabLoss (n - 64) else t).portsPlain = t.portsPlain := by
    intro t
    split
    · exact portsPlain_fabLoss t _
    · rfl
  rw [hfinal, hclose]
  rw [show (((s.dropRx n (s.port n).rx).dropRx n (s.port n).rxp).stat n 92).portEvent n 0 = s.linkLost n from rfl, hflush]
  rfl

/-- The link of a port below 64 that receives nothing goes down. -/
theorem linkDown_quiet {s : State} {n : Nat} (hn : n < 64) (hup : (s.port n).up = true) (hrx : (s.port n).rx = none)
    (hrxp : (s.port n).rxp = none) : s.linkDown n =
      (((s.stat n 92).portEvent n 0).flushPort n).setPort n { (((s.stat n 92).portEvent n 0).flushPort n).port n with
        up := false, anDone := false, verify := .off, verifyTries := 0, frag := none, paused := 0 } := by
  unfold State.linkDown
  rw [if_neg (by rw [hup]; exact Bool.false_ne_true), hrx, hrxp]
  dsimp only [State.dropRx]
  rw [if_neg (by omega)]

end Sys2Proof.Machine
end

section
/-! SUPPORT. Links, lanes, pause and PFC, verification, fragments, supervision and instants (R147 to R167, R218). -/

namespace Sys2Proof.Machine

set_option Elab.async false

theorem exec_linkUp_at {p : Fin 68} {a b : BitVec 16} {s : State} {code : Nat} (hrun : s.running = true)
    (hpres : s.portPresent p = true) (hen : (s.port p).enabled = true) (hup : (s.port p).up = false)
    (hmd : (s.port p).mdioFail = false) (hok : ((s.port p).anDone || !s.negotiates p) = true)
    (hcode : (if 64 ≤ p.val then bits (s.port p).cfg.toNat 1 1 else if 1 ≤ (s.port p).sel then (s.port p).sel - 1
      else if s.negotiates p then (s.port p).speed else 3) = code) :
    Becomes (.linkUp p a b) s (s.linkedUp p code a b) := by
  rw [Becomes, exec_linkUp, execLinkUp]
  dsimp only
  rw [if_pos (by rw [hrun, hpres, hen, hup, hmd, hok]; rfl), hcode]
  rfl

theorem laneCovered_iff (s : State) (l : Fin 20) : s.laneCovered l = true ↔ s.lanePaired l := by
  unfold State.laneCovered State.lanePaired
  split
  · simp only [List.all_eq_true, List.mem_filter, Bool.and_eq_true]
    exact ⟨fun h n hn hp he => h n ⟨hn, hp, he⟩, fun h n hn => h n hn.1 hn.2.1 hn.2.2⟩
  · simp only [List.all_eq_true, Bool.or_eq_true, bne_iff_ne, Bool.not_eq_true', List.isEmpty_eq_false_iff]
    exact ⟨fun h r hr ha => (h r hr).resolve_left (not_not_intro ha),
      fun h r hr => (Classical.em _).elim (fun ha => .inr (h r hr ha)) .inl⟩

theorem laneCovered_of_paired {s : State} {l : Fin 20} (h : s.lanePaired l) : s.laneCovered l = true :=
  (laneCovered_iff s l).2 h

theorem not_laneCovered {s : State} {l : Fin 20} (h : ¬ s.lanePaired l) : s.laneCovered l = false :=
  Bool.eq_false_iff.2 (mt (laneCovered_iff s l).1 h)

theorem verifyBytes_stat (s : State) (n i : Nat) : (s.stat n i).verifyBytes n = s.verifyBytes n := by
  have h : (s.stat n i).ownAddr n = s.ownAddr n := by
    unfold State.ownAddr State.stat
    dsimp only
    rw [port_setPort_self]
    rfl
  unfold State.verifyBytes
  rw [h]

theorem verifyTries_stat (s : State) (n i : Nat) : ((s.stat n i).port n).verifyTries = (s.port n).verifyTries := by
  unfold State.stat
  dsimp only
  rw [port_setPort_self]

theorem exec_verifyAttempt_due {s : State} (p : Fin 64) (responds : Bool) (hrun : s.running = true)
    (hver : (s.port p).verify = .verifying) : exec (.verifyAttempt p responds) s =
      (let t := s.stat p 74
       let w : Port := { t.port p with out := s.verifyBytes p }
       if responds then (t.setPort p { w with verify := .active, verifyTries := (s.port p).verifyTries + 1 }).done
       else if 2 ≤ (s.port p).verifyTries then
         ((t.setPort p { w with verify := .failed, verifyTries := (s.port p).verifyTries + 1 }).portEvent p 3).done
       else (t.setPort p { w with verifyTries := (s.port p).verifyTries + 1 }).done) := by
  rw [exec_verifyAttempt, execVerifyAttempt]
  dsimp only
  rw [if_pos (by rw [hrun, hver]; rfl), verifyBytes_stat, verifyTries_stat]

/-! ### Pause and PFC -/

/-- A port but for its statistics. -/
def Port.bare (x : Port) : Port := { x with stat := [], half := 0 }

/-- The state of a port's pauses: all of it but the statistics of that port. -/
def State.bareAt (n : Nat) (s : State) : State := s.setPort n (s.port n).bare

theorem bareAt_stat (s : State) (n i k : Nat) : (s.stat n i k).bareAt n = s.bareAt n := by
  unfold State.bareAt State.stat
  dsimp only
  rw [port_setPort_self, setPort_setPort]
  rfl

theorem bareAt_stats (s : State) (n : Nat) (l : List Nat) : (s.stats n l).bareAt n = s.bareAt n :=
  foldl_same (State.bareAt n) _ (fun t i => bareAt_stat t n i 1) l s

theorem bareAt_pauseCount (s : State) (n : Nat) : (s.pauseCount n).bareAt n = s.bareAt n :=
  (bareAt_stat _ n 1 64).trans (bareAt_stats s n _)

section
variable {s t : State} {n : Nat} (h : t.bareAt n = s.bareAt n)
include h

theorem bare_of_bareAt : (t.port n).bare = (s.port n).bare := by
  have hp := congrArg (fun u : State => u.port n) h
  simpa only [State.bareAt, port_setPort_self] using hp

theorem mono_of_bareAt : t.sys.mono = s.sys.mono := by
  have hm := congrArg (fun u : State => u.sys.mono) h
  exact hm

theorem within_of_bareAt : s.within [.ports] t := by
  intro b hb
  have hb' : State.agrees (s.bareAt n) (t.bareAt n) b := by
    rw [h]
    cases b <;> rfl
  cases b <;> first | exact hb' | exact absurd hb (by decide)

theorem pauseTill_of_bareAt (q : BitVec 16) : t.pauseTill n q = s.pauseTill n q := by
  have hs := congrArg Port.speed (bare_of_bareAt h)
  unfold State.pauseTill State.byteTime
  rw [mono_of_bareAt h, show (t.port n).speed = (s.port n).speed from hs]

end

section
variable {s t : State} {n : Nat} (h : t.bareAt n = s.bareAt n)
include h

theorem rxPause_of_bareAt : (t.port n).rxPause = (s.port n).rxPause := by
  have hb := congrArg Port.rxPause (bare_of_bareAt h)
  exact hb

theorem pfcEn_of_bareAt : (t.port n).pfcEn = (s.port n).pfcEn := by
  have hb := congrArg Port.pfcEn (bare_of_bareAt h)
  exact hb

end

/-- A pause taken or ignored: counted, and what the port does with it. -/
theorem pauseTaken_counts {s t : State} {n : Nat} (h : t.bareAt n = s.bareAt n) (honoured : Bool) :
    t.pauseTaken n honoured = (honoured && !(s.port n).holdoff,
      t.stats n ([5] ++ (if honoured then [] else [6]) ++ (if (s.port n).holdoff then [95] else []))) := by
  have hb := congrArg Port.holdoff (bare_of_bareAt h)
  have hh : (t.port n).holdoff = (s.port n).holdoff := hb
  unfold State.pauseTaken
  rw [hh]

/-- The classes of a port set as paused. -/
theorem setPaused_spec (s : State) (n : Nat) (m : BitVec 8) : ((s.setPaused n m).port n).paused = m ∧
    ((s.setPaused n m).port n).till = (s.port n).till ∧ s.within [.ports] (s.setPaused n m) := by
  let u : State := s.setPort n { s.port n with
    paused := m, pausedAt := if (s.port n).paused = 0 then s.sys.mono else (s.port n).pausedAt }
  have hbare : (s.setPaused n m).bareAt n = u.bareAt n := by
    unfold State.setPaused
    dsimp only
    have hfold := foldl_same (State.bareAt n) (fun t c => t.stat n (pauseIndex c)) (fun t c => bareAt_stat t n _ 1)
      ((maskBits 8 m.toNat).filter (fun c => !(s.port n).paused.getLsbD c)) u
    split
    · exact (bareAt_stat _ n 80 1).trans hfold
    · exact hfold
  have hb := bare_of_bareAt hbare
  have hu : (u.port n) = _ := port_setPort_self _ _ _
  rw [hu] at hb
  have hp := congrArg Port.paused hb
  have ht := congrArg Port.till hb
  refine ⟨hp, ht, State.within.trans ?_ (within_of_bareAt hbare)⟩
  intro b hb
  cases b <;> first | rfl | exact absurd hb (by decide)

/-- What a taken pause leaves: the classes paused, their ends, and the rest of the device. -/
theorem taken_spec {s t : State} {n : Nat} (h : t.bareAt n = s.bareAt n) (tab : Tab Nat) (m : BitVec 8) :
    let u := ((t.setPort n { t.port n with till := tab }).setPaused n m).settle
    (u.port n).paused = m ∧ (u.port n).till = tab ∧ s.within [.ports, .sys, .host] u := by
  obtain ⟨hp, ht, hw⟩ := setPaused_spec (t.setPort n { t.port n with till := tab }) n m
  rw [port_setPort_self] at ht
  refine ⟨hp, ht, ?_⟩
  have hset : t.within [.ports] (t.setPort n { t.port n with till := tab }) := by
    intro b hb
    cases b <;> first | rfl | exact absurd hb (by decide)
  exact State.within.mono (((within_of_bareAt h).trans hset).trans hw) (by decide) |>.trans ((within_settle _).mono (by decide))

theorem pauseAct_taken {s t : State} {n : Nat} (h : t.bareAt n = s.bareAt n) (hrx : (s.port n).rxPause = true)
    (hh : (s.port n).holdoff = false) (quanta : BitVec 16) : t.pauseAct n quanta =
      (let u := t.stats n [5]
       (u.setPort n { u.port n with till := (List.range 8).map (fun c => (c, s.pauseTill n quanta)) }).setPaused n
        (if quanta = 0 then (s.port n).paused &&& ~~~ (~~~ BitVec.ofNat 8 (s.port n).exempt)
         else (s.port n).paused ||| ~~~ BitVec.ofNat 8 (s.port n).exempt)) := by
  have hu : (t.stats n [5]).bareAt n = s.bareAt n := (bareAt_stats t n [5]).trans h
  have hp := congrArg Port.paused (bare_of_bareAt hu)
  have he := congrArg Port.exempt (bare_of_bareAt hu)
  unfold State.pauseAct
  rw [rxPause_of_bareAt h, hrx, pauseTaken_counts h, hh]
  dsimp only
  rw [if_pos (by rfl)]
  rw [show (t.stats n ([5] ++ (if true = true then [] else [6]) ++ (if false = true then [95] else []))) = t.stats n [5] from rfl,
    pauseTill_of_bareAt hu, show ((t.stats n [5]).port n).paused = (s.port n).paused from hp,
    show ((t.stats n [5]).port n).exempt = (s.port n).exempt from he]

theorem get_foldl_set {α : Type} (d : α) (g : Nat → α) (l : List Nat) (t : Tab α) (c : Nat) :
    (l.foldl (fun t c => t.set c (g c)) t).get d c = if c ∈ l then g c else t.get d c := by
  induction l generalizing t with
  | nil => rfl
  | cons a l ih =>
    rw [List.foldl_cons, ih, Tab.get_set]
    by_cases hc : c ∈ l
    · rw [if_pos hc, if_pos (List.mem_cons_of_mem a hc)]
    · rw [if_neg hc]
      by_cases ha : c = a
      · rw [if_pos ha, if_pos (ha ▸ List.mem_cons_self), ha]
      · rw [if_neg ha, if_neg (by simp [ha, hc])]

/-- A sum of the bits of the members of a list that pass a test. -/
theorem fields_filter (b : Nat → Bool) (l : List Nat) :
    fields ((l.filter b).map fun c => (1, c)) = fields (l.map fun c => (bit (b c), c)) := by
  unfold fields
  generalize 0 = a
  induction l generalizing a with
  | nil => rfl
  | cons c l ih =>
    cases hb : b c with
    | true => rw [List.filter_cons_of_pos hb, List.map_cons, List.map_cons, List.foldl_cons, List.foldl_cons, ih, hb]; rfl
    | false =>
      rw [List.filter_cons_of_neg (by rw [hb]; exact Bool.false_ne_true), List.map_cons, List.foldl_cons, hb, ih]
      simp [bit]

/-- The mask of the classes of a mask that pass a test. -/
theorem getLsbD_classes (m : BitVec 8) (f : Nat → Bool) (c : Fin 8) :
    (BitVec.ofNat 8 (fields (((maskBits 8 m.toNat).filter f).map fun c => (1, c)))).getLsbD c = (m.getLsbD c && f c) := by
  have hbits := (fields_bits (fun i => f i && tst m.toNat i) 8).2 c c.isLt
  rw [maskBits, List.filter_filter, fields_filter, BitVec.getLsbD_ofNat, decide_eq_true c.isLt, Bool.true_and, hbits,
    tst_toNat, Bool.and_comm]

/-- The classes of a PFC frame that the port does not exempt, by whether their quanta are 0. -/
def pfcMask (m : BitVec 8) (l : List (BitVec 16)) (exempt : Nat) (z : Bool) : BitVec 8 :=
  BitVec.ofNat 8 (fields (((maskBits 8 m.toNat).filter (fun c => !tst exempt c && ((l.getD c 0 == 0) == z))).map
    (fun c => (1, c))))

theorem pfcMask_bit (m : BitVec 8) (l : List (BitVec 16)) (exempt : Nat) (z : Bool) (c : Fin 8) :
    (pfcMask m l exempt z).getLsbD c = (m.getLsbD c && (!tst exempt c && ((l.getD c 0 == 0) == z))) :=
  getLsbD_classes m _ c

theorem pfcAct_taken {s t : State} {n : Nat} (h : t.bareAt n = s.bareAt n) (hpfc : (s.port n).pfcEn = true)
    (hh : (s.port n).holdoff = false) (m : BitVec 8) (l : List (BitVec 16)) : ∃ v : State, v.bareAt n = s.bareAt n ∧
      t.pfcAct n m l = (v.setPort n { v.port n with
        till := (maskBits 8 m.toNat).foldl (fun t c => t.set c (s.pauseTill n (l.getD c 0))) (s.port n).till }).setPaused n
        (((s.port n).paused &&& ~~~ pfcMask m l (s.port n).exempt true) ||| pfcMask m l (s.port n).exempt false) := by
  have hu : (t.stats n [5]).bareAt n = s.bareAt n := (bareAt_stats t n [5]).trans h
  have hv : ((maskBits 8 m.toNat).foldl (fun s c => s.stat n (32 + c)) (t.stats n [5])).bareAt n = s.bareAt n :=
    (foldl_same (State.bareAt n) _ (fun t c => bareAt_stat t n (32 + c) 1) _ _).trans hu
  refine ⟨_, hv, ?_⟩
  have hp := congrArg Port.paused (bare_of_bareAt hu)
  have he := congrArg Port.exempt (bare_of_bareAt hu)
  have ht := congrArg Port.till (bare_of_bareAt hu)
  unfold State.pfcAct
  rw [pfcEn_of_bareAt h, hpfc, pauseTaken_counts h, hh]
  dsimp only
  rw [if_pos (by rfl)]
  rw [show (t.stats n ([5] ++ (if true = true then [] else [6]) ++ (if false = true then [95] else []))) = t.stats n [5] from rfl,
    show ((t.stats n [5]).port n).paused = (s.port n).paused from hp,
    show ((t.stats n [5]).port n).exempt = (s.port n).exempt from he,
    show ((t.stats n [5]).port n).till = (s.port n).till from ht]
  simp only [pauseTill_of_bareAt hv]
  rfl

/-- A port whose link loss is noted and whose transmission is given up. -/
def State.linkNoted (s : State) (n : Nat) : State :=
  ((s.stat n 92).portEvent n 0).setPort n { ((s.stat n 92).portEvent n 0).port n with tx := none, held := none }

theorem stat55_linkNoted (s : State) (n : Nat) : ((s.linkNoted n).port n).stat.get 0 55 = (s.port n).stat.get 0 55 := by
  rw [State.linkNoted, port_setPort_self, State.portEvent, port_setPort_self, State.stat, port_setPort_self]
  exact Tab.get_set_ne _ _ _ (by decide)

theorem get_eq_find? {α : Type} (d : α) (t : Tab α) (k : Nat) : t.get d k = (t.find? k).getD d := by
  induction t with
  | nil => rfl
  | cons a t ih =>
    rw [Tab.get, Tab.find?, ih, apply_ite (Option.getD · d)]
    rfl

theorem queue_settle (s : State) (n c : Nat) : s.settle.queue n c = s.queue n c := rfl

theorem queue_setPort (s : State) (i : Nat) (x : Port) (n c : Nat) : (s.setPort i x).queue n c = s.queue n c := rfl

/-- The queues of a port flushed after the loss of its link: empty, each frame of them counted. -/
theorem flushed_spec (s : State) (n : Nat) : ∃ t : State, ((s.stat n 92).portEvent n 0).flushPort n = t ∧
    (∀ c, c < 8 → t.queue n c = []) ∧ (t.port n).stat.get 0 55 = (s.port n).stat.get 0 55 +
      BitVec.ofNat 32 ((List.range 8).map fun c => (s.queue n c).length).sum ∧ t.linkless = s.linkless := by
  obtain ⟨hempty, -, hstat⟩ := loseClasses_spec n (List.range 8) List.nodup_range (s.linkNoted n)
  rw [stat55_linkNoted] at hstat
  exact ⟨_, flushPort_eq _ _, fun c hc => hempty c (List.mem_range.2 hc), hstat, linkless_flushPort ((s.stat n 92).portEvent n 0) n⟩

theorem pair_supervised {s : State} (i : Nat) (x : Pair) (l : List (Frame × Dest)) :
    ((s.setPair i x).sendFrames l).settle.pair i = x := by
  have h := eq_of_coreless (coreless_sendFrames (s.setPair i x) l) (fun s => s.pair i) (fun _ => rfl)
  rw [settle_pair, show ((s.setPair i x).sendFrames l).pair i = (s.setPair i x).pair i from h, pair_setPair_self]

theorem within_supervised (s : State) (i : Nat) (x : Pair) (l : List (Frame × Dest)) :
    s.within [.pairs, .sw, .mem, .engs, .sys, .host] ((s.setPair i x).sendFrames l).settle := by
  have hp : s.within [.pairs, .sw, .mem, .engs, .sys] (s.setPair i x) := by
    intro b hb
    cases b <;> first | rfl | exact absurd hb (by decide)
  have hs : (s.setPair i x).within [.pairs, .sw, .mem, .engs, .sys] ((s.setPair i x).sendFrames l) :=
    State.within.mono (within_of_coreless (coreless_sendFrames _ l)) (by decide)
  exact (State.within.mono (hp.trans hs) (by decide)).trans ((within_settle _).mono (by decide))

theorem stepTo_free {v : DWord} {o : Option DWord} (h : o.all (fun t => decide (t < v)) = true) :
    o.any (fun t => decide (v ≤ t)) = false := by
  cases o with
  | none => rfl
  | some t => exact decide_eq_false (BitVec.not_le.2 (of_decide_eq_true h))

/-- Settles O51: each command by the branch its hypotheses name; what a pause leaves of a port is read off the port
without its statistics (`bareAt`), what a lost link leaves off the flush of its queues (`flushed_spec`). -/
theorem portsLinksAndPause : Obligations.PortsLinksAndPause := by
  unfold Obligations.PortsLinksAndPause
  refine ⟨fun p v s hrun hpres hen hneg hup hmd => ⟨?_, fun hv => ?_, fun hv => ?_⟩, fun p v full s hor => ?_,
    fun p a b s hrun hpres hen hup hmd => ⟨fun hp => ?_, fun hp hsel => ?_, fun hp hsel hmode => ?_,
      fun hp hsel hmode han => ?_, fun hp hsel hmode han => ?_⟩,
    fun p s hrun hup => ?_, fun p s hrun hup => ?_, fun p s hrun hup hrx hrxp => ?_, fun l s hrun => ⟨fun hl => ?_, fun hl => ?_⟩,
    fun p s hrun => ?_,
    fun p quanta s htake =>
      have hcount := bareAt_pauseCount s p
      ⟨fun hrx => ?_, fun hrx hh => ?_, fun hrx hh => ?_, fun m l hor => ?_, fun m l hpfc hh => ?_⟩,
    fun p m s hrun => ⟨?_, fun hp hdog => ?_, fun hor => ?_, fun hle => ?_, fun hlt => ?_,
      fun hver => ⟨?_, fun htry => ?_, fun htry => ?_⟩, ?_, ?_⟩,
    fun p b r s htake => ⟨fun hfr => ⟨?_, ?_, ?_⟩, fun a r0 hfr => ⟨?_, ?_, ?_⟩, ?_, ?_, ?_⟩,
    fun i r s hrun hrec => ⟨fun hle => ?_, fun hlt => ?_⟩,
    fun j r s hrun hrec => ⟨fun hk hl hst => ?_, fun last n hk hl hlt hst => ?_, fun t ht hle => ?_, fun last n hl hle => ?_⟩⟩
  · rw [Becomes, exec_autonegotiationAttempt, execAutonegotiationAttempt]
    rw [if_pos (by rw [hrun, hpres, hen, hneg, hup, hmd]; rfl)]
    rfl
  · rw [Becomes, exec_autonegotiationAttempt, execAutonegotiationAttempt]
    rw [if_pos (by rw [hrun, hpres, hen, hneg, hup, hmd]; rfl), if_neg (by decide), if_pos (by simpa using hv)]
    rfl
  · rw [Becomes, exec_autonegotiationAttempt, execAutonegotiationAttempt]
    rw [if_pos (by rw [hrun, hpres, hen, hneg, hup, hmd]; rfl), if_neg (by decide), if_neg (by simpa using hv)]
    rfl
  · rw [exec_autonegotiationAttempt, execAutonegotiationAttempt]
    rw [if_neg (by rcases hor with h | h <;> simp [h])]
  · exact exec_linkUp_at hrun hpres hen hup hmd (by simp [State.negotiates]; omega) (if_pos hp)
  · exact exec_linkUp_at hrun hpres hen hup hmd (by simp [State.negotiates]; omega)
      ((if_neg (by omega)).trans (if_pos hsel))
  · have hneg : s.negotiates p = false := by simp [State.negotiates, hmode]
    exact exec_linkUp_at hrun hpres hen hup hmd (by rw [hneg]; exact Bool.or_true _) (by rw [if_neg (by omega), hsel, hneg]; rfl)
  · have hneg : s.negotiates p = true := by simp [State.negotiates, hmode, hsel, hp]
    exact exec_linkUp_at hrun hpres hen hup hmd (by rw [han]; rfl) (by rw [if_neg (by omega), hsel, hneg]; rfl)
  · have hneg : s.negotiates p = true := by simp [State.negotiates, hmode, hsel, hp]
    rw [exec_linkUp, execLinkUp]
    dsimp only
    rw [if_neg (by simp [han, hneg])]
  · rw [Idles, Becomes, exec_linkDown, execLinkDown, if_pos hrun, State.linkDown, if_pos (by rw [hup]; rfl)]
    rfl
  · refine ⟨(s.linkDown p).settle, by rw [exec_linkDown, execLinkDown, if_pos hrun]; rfl, ?_⟩
    have hplain := plain_linkDown hup
    have hx := congrArg Prod.fst hplain
    have hs := congrFun (congrArg Prod.snd hplain) 92
    dsimp only
    rw [settle_port]
    generalize (s.linkDown p).port p = x at hx hs ⊢
    have h1 := congrArg Port.up hx
    have h2 := congrArg Port.tx hx
    have h3 := congrArg Port.held hx
    have h4 := congrArg Port.paused hx
    have h5 := congrArg Port.frag hx
    have h6 := congrArg Port.anDone hx
    have h7 := congrArg Port.verify hx
    have h8 := congrArg Port.event hx
    exact ⟨h1, h2, h3, h4, h5, h6, h7, h8, hs⟩
  · have hdown := linkDown_quiet p.isLt hup hrx hrxp
    obtain ⟨t, ht, hempty, hstat, hless⟩ := flushed_spec s p
    refine ⟨(s.linkDown p).settle, by rw [exec_linkDown, execLinkDown, if_pos hrun]; rfl, fun c hc => ?_, ?_, ?_⟩
    · rw [hdown, ht, queue_settle, queue_setPort]
      exact hempty c hc
    · rw [settle_port, hdown, ht, port_setPort_self, ← List.sum_eq_foldl]
      exact hstat
    · refine State.within.trans (State.within.mono (within_of_linkless ?_) (by decide)) ((within_settle _).mono (by decide))
      rw [hdown, ht]
      exact hless
  · rw [Becomes, exec_laneFault, execLaneFault, if_pos hrun, laneCovered_of_paired hl]
    rfl
  · rw [Becomes, exec_laneFault, execLaneFault, if_pos hrun, not_laneCovered hl]
    rfl
  · rw [Becomes, exec_highBer, execHighBer]
    dsimp only
    rw [if_pos (by rw [hrun, State.portPresent, if_pos (by omega), decide_eq_true (by omega)]; rfl)]
    rfl
  · rw [Becomes, exec_pauseFrame, execPauseFrame, if_pos htake, State.pauseAct, rxPause_of_bareAt hcount, hrx,
      pauseTaken_counts hcount]
    rfl
  · rw [Becomes, exec_pauseFrame, execPauseFrame, if_pos htake, State.pauseAct, rxPause_of_bareAt hcount, hrx,
      pauseTaken_counts hcount, hh]
    rfl
  · have hu : ((s.pauseCount p).stats p [5]).bareAt p = s.bareAt p := (bareAt_stats _ p [5]).trans hcount
    obtain ⟨hpaused, htill, hw⟩ := taken_spec hu ((List.range 8).map (fun c => (c, s.pauseTill p quanta)))
      (if quanta = 0 then (s.port p).paused &&& ~~~ (~~~ BitVec.ofNat 8 (s.port p).exempt)
       else (s.port p).paused ||| ~~~ BitVec.ofNat 8 (s.port p).exempt)
    refine ⟨_, by rw [exec_pauseFrame, execPauseFrame, if_pos htake, pauseAct_taken hcount hrx hh]; rfl, hpaused, fun c hc => ?_, hw⟩
    rw [htill]
    obtain rfl | rfl | rfl | rfl | rfl | rfl | rfl | rfl :
      c = 0 ∨ c = 1 ∨ c = 2 ∨ c = 3 ∨ c = 4 ∨ c = 5 ∨ c = 6 ∨ c = 7 := by omega
    all_goals rfl
  · rw [Becomes, exec_pfcFrame, execPfcFrame, if_pos htake, State.pfcAct, pfcEn_of_bareAt hcount,
      pauseTaken_counts hcount]
    dsimp only
    rw [if_neg (by rcases hor with h | h <;> simp [h])]
    rfl
  · obtain ⟨v, hv, hact⟩ := pfcAct_taken hcount hpfc hh m l
    obtain ⟨hpaused, htill, hw⟩ := taken_spec hv
      ((maskBits 8 m.toNat).foldl (fun t c => t.set c (s.pauseTill p (l.getD c 0))) (s.port p).till)
      (((s.port p).paused &&& ~~~ pfcMask m l (s.port p).exempt true) ||| pfcMask m l (s.port p).exempt false)
    refine ⟨_, by rw [exec_pfcFrame, execPfcFrame, if_pos htake, hact]; rfl, fun c => ?_, fun c hm => ?_, hw⟩
    · rw [hpaused, BitVec.getLsbD_or, BitVec.getLsbD_and, BitVec.getLsbD_not, pfcMask_bit, pfcMask_bit]
      cases hm : m.getLsbD c <;> cases he : tst (s.port p).exempt c <;> cases hz : l.getD c 0 == 0 <;> simp_all
    · rw [htill, get_foldl_set, if_pos]
      · rfl
      · rw [maskBits, List.mem_filter, tst_toNat]
        exact ⟨List.mem_range.2 c.isLt, hm⟩
  · obtain ⟨hp, -, hw⟩ := setPaused_spec s p ((s.port p).paused &&& ~~~ BitVec.ofNat 8 (fields
      (((maskBits 8 m.toNat).filter fun c => decide ((s.port p).till.get 0 c ≤ s.sys.mono)).map fun c => (1, c))))
    refine ⟨_, by rw [exec_pauseQuantaExpiry, execPauseQuantaExpiry, if_pos hrun]; rfl,
      State.within.trans (State.within.mono hw (by decide)) ((within_settle _).mono (by decide)), fun c => ?_⟩
    rw [settle_port, hp, BitVec.getLsbD_and, BitVec.getLsbD_not, getLsbD_classes, decide_eq_true c.isLt, Bool.true_and]
  · rw [Becomes, exec_pauseWatchdog, execPauseWatchdog]
    rw [if_pos (by rw [hrun, decide_eq_true hp, decide_eq_true hdog]; rfl)]
    rfl
  · rw [exec_pauseWatchdog, execPauseWatchdog]
    rw [if_neg]
    intro h
    simp only [Bool.and_eq_true, decide_eq_true_eq] at h
    obtain ⟨⟨-, hp⟩, hle⟩ := h
    rcases hor with h | h
    · exact hp h
    · exact absurd hle (Nat.not_le.2 h)
  · rw [Becomes, exec_pauseHoldoffEnd, execPauseHoldoffEnd]
    rw [if_pos (by rw [hrun, decide_eq_true hle]; rfl)]
    rfl
  · rw [exec_pauseHoldoffEnd, execPauseHoldoffEnd]
    rw [decide_eq_false (Nat.not_le.2 hlt), Bool.and_false]
    rfl
  · rw [Becomes, exec_verifyAttempt_due p true hrun hver, if_pos rfl]
    rfl
  · rw [Becomes, exec_verifyAttempt_due p false hrun hver, if_neg Bool.false_ne_true, if_neg (by omega)]
    rfl
  · rw [Becomes, exec_verifyAttempt_due p false hrun hver, if_neg Bool.false_ne_true, if_pos htry]
    rfl
  · rw [State.verifyBytes]
    simp [length_leBytes]
  · rw [State.verifyBytes]
    simp [List.drop_append, List.take_append, length_leBytes]
  · rw [Becomes, exec_fragmentReceive, execFragmentReceive]
    dsimp only
    rw [if_pos htake, hfr]
    rfl
  · rw [Becomes, exec_fragmentReceive, execFragmentReceive]
    dsimp only
    rw [if_pos htake, hfr]
    rfl
  · rw [Becomes, exec_fragmentReceive, execFragmentReceive]
    dsimp only
    rw [if_pos htake, hfr]
    rfl
  · rw [Becomes, exec_fragmentReceive, execFragmentReceive]
    dsimp only
    rw [if_pos htake, hfr]
    rfl
  · rw [Becomes, exec_fragmentReceive, execFragmentReceive]
    dsimp only
    rw [if_pos htake, hfr]
    rfl
  · rw [Becomes, exec_fragmentReceive, execFragmentReceive]
    dsimp only
    rw [if_pos htake, hfr]
    rfl
  · rw [Becomes, exec_fragmentReceive, execFragmentReceive]
    dsimp only
    rw [if_pos htake]
    rfl
  · rw [Becomes, exec_fragmentReceive, execFragmentReceive]
    dsimp only
    rw [if_pos htake]
    rfl
  · rw [Becomes, exec_fragmentReceive, execFragmentReceive]
    dsimp only
    rw [if_pos htake]
    rfl
  · refine ⟨_, by rw [exec_supervisionFrameSend, execSupervisionFrameSend, hrec]; dsimp only; rw [if_pos (by rw [hrun, decide_eq_true hle]; rfl)]; rfl, ?_⟩
    dsimp only
    rw [pair_supervised]
    exact ⟨rfl, rfl, rfl, within_supervised s i _ _⟩
  · rw [exec_supervisionFrameSend, execSupervisionFrameSend, hrec]
    dsimp only
    rw [decide_eq_false (Nat.not_le.2 hlt), Bool.and_false]
    rfl
  · refine relays_of ?_
    rw [exec_instantIssue, execInstantIssue, hrun, hrec]
    dsimp only
    rw [get_eq_find?, hl, if_neg (by
      rw [decide_eq_false hk, stepTo_free hst]
      exact Bool.false_ne_true)]
    rfl
  · refine relays_of ?_
    rw [exec_instantIssue, execInstantIssue, hrun, hrec]
    dsimp only
    rw [get_eq_find?, hl, if_neg (by
      rw [decide_eq_false hk, stepTo_free hst]
      simpa using hlt)]
    rfl
  · rw [exec_instantIssue, execInstantIssue, hrun, hrec]
    dsimp only
    rw [ht, if_pos (by simp [hle])]
  · rw [exec_instantIssue, execInstantIssue, hrun, hrec]
    dsimp only
    rw [get_eq_find?, hl, if_pos (by simp [hle])]

end Sys2Proof.Machine
end

section
/-! SUPPORT. A fatal error, its dump, and the dump's slot and window (R396 to R403). -/

namespace Sys2Proof.Machine

set_option Elab.async false

/-- The memory after an abandoned job comes from the job, the directory, the draws and the memory. -/
theorem cutJob_mem_congr {s t : State} (hj : t.sage.job = s.sage.job) (hc : t.cfg = s.cfg) (hm : t.mem = s.mem)
    (hd : t.sys.draws = s.sys.draws) : t.cutJob.mem = s.cutJob.mem := by
  have hprog : ∀ (l : List (Nat × Byte)) (u v : State), u.mem = v.mem →
      (l.foldl (fun s b => s.nvmWrite b.1 [b.2]) u).mem = (l.foldl (fun s b => s.nvmWrite b.1 [b.2]) v).mem := by
    intro l
    induction l with
    | nil => exact fun _ _ h => h
    | cons b l ih =>
      intro u v h
      exact ih _ _ (congrArg (fun m : Mems => { m with nvm := Mem.writeBytes 0xFF m.nvm b.1 [b.2] }) h)
  have hpart : ∀ j, State.jobPart { t with sage := { t.sage with job := none } } j =
      State.jobPart { s with sage := { s.sage with job := none } } j := by
    intro j
    unfold State.jobPart State.region?
    dsimp only
    rw [hc]
  unfold State.cutJob
  rw [hj]
  cases s.sage.job with
  | none => exact hm
  | some j =>
    have hp : t.jobPart j = s.jobPart j := hpart j
    dsimp only
    unfold State.cutWrite
    dsimp only
    rw [hd, hp]
    exact hprog _ _ _ (congrArg (fun m : Mems => { m with
      nvm := Mem.clearRange m.nvm (s.jobPart j).at_ ((s.jobPart j).at_ + (Free.word s.sys.draws).toNat % ((s.jobPart j).size + 1)) }) hm)

theorem cutJob_none {s : State} (h : s.sage.job = none) : s.cutJob = s := by
  unfold State.cutJob
  rw [h]

theorem port_closeOutputs (s : State) (n : Nat) :
    s.closeOutputs.port n = { s.port n with tx := none, held := none } :=
  Tab.get_map (portDefault n) (fun p => { p with tx := none, held := none }) (by unfold portDefault; split <;> rfl) s.ports n

/-- The state in which a fatal error has logged its fault, stopped the engines and closed the outputs. -/
def State.felled (s : State) (reason island cls eng : Nat) (detail : Word) : State :=
  (s.logFault cls island eng 5 detail).stopEngines.closeOutputs

theorem fatal_eq {s : State} (h : s.sys.stage ≠ .fatalSeq) (r i c e : Nat) (d : Word) :
    ∃ t, t = (s.felled r i c e d).cutJob ∧ s.fatal r i c e d = { t with
      rmy := { t.rmy with
        fatal := some { reason := r, island := i, stamp := t.time.t, rst := t.sys.rstCount }, fatalAt := t.sys.mono }
      sys := { t.sys with stage := .fatalSeq, ready := false, faultPin := true }
      engs := { t.engs with append := none }
      host := { t.host with img := none } } := by
  refine ⟨_, rfl, ?_⟩
  have h' : (s.sys.stage == .fatalSeq) = false := by simpa using h
  unfold State.fatal
  rw [h', if_neg Bool.false_ne_true]
  rfl

/-- What a fatal error leaves: its outputs closed, its record one more, the memory as the abandoned job leaves it. -/
theorem fatal_leaves {s : State} (h : s.sys.stage ≠ .fatalSeq) (r i c e : Nat) (d : Word) :
    (∀ n, ((s.fatal r i c e d).port n).tx = none ∧ ((s.fatal r i c e d).port n).held = none) ∧
    (s.fatal r i c e d).rmy.logWr = s.rmy.logWr + 1 ∧ (s.fatal r i c e d).rmy.dumpState = s.rmy.dumpState ∧
    (s.fatal r i c e d).host.img = none ∧ (s.fatal r i c e d).mem = s.cutJob.mem ∧ (s.fatal r i c e d).cfg = s.cfg := by
  obtain ⟨t, ht, heq⟩ := fatal_eq h r i c e d
  obtain ⟨m, k, j, hcut⟩ := cutJob_eq (s.felled r i c e d)
  have hmem : t.mem = s.cutJob.mem := ht ▸ cutJob_mem_congr rfl rfl rfl rfl
  have hport : ∀ n, t.port n = (s.felled r i c e d).port n := fun n => by rw [ht, hcut]; rfl
  have hrmy : t.rmy = (s.felled r i c e d).rmy := by rw [ht, hcut]
  have hcfg : t.cfg = s.cfg := by rw [ht, hcut]; rfl
  rw [heq]
  refine ⟨fun n => ?_, by dsimp only; rw [hrmy]; rfl, by dsimp only; rw [hrmy]; rfl, rfl, hmem, hcfg⟩
  have hn : t.port n = _ := (hport n).trans (port_closeOutputs _ n)
  exact ⟨congrArg Port.tx hn, congrArg Port.held hn⟩

/-- What a command of a fatal error does after the error: the dump is offered, unless its record is of the image checks
or a dump is offered already. -/
def State.fatalDump (s : State) : Out :=
  match s.sys.stage == .fatalSeq, s.rmy.fatal with
  | true, some f => if f.reason = 4 || s.rmy.dumpState = 1 then s.done else (s.offerDump f).done
  | _, _ => .next s

theorem exec_fatalError_alwaysOn {s : State} (h : s.running = true) :
    exec (.fatalError (some .alwaysOn)) s = (s.fatal 0x08 0 10).fatalDump := by
  rw [exec_fatalError]
  unfold execFatalError
  rw [h]
  rfl

theorem exec_fatalError_none (s : State) : exec (.fatalError none) s = s.fatalDump := by
  rw [exec_fatalError]
  unfold execFatalError
  cases s.running <;> rfl

theorem fatalDump_of {s : State} {f : FatalRec} (hs : s.sys.stage = .fatalSeq) (hf : s.rmy.fatal = some f) :
    s.fatalDump = if f.reason = 4 || s.rmy.dumpState = 1 then s.done else (s.offerDump f).done := by
  rw [State.fatalDump, hs, hf]
  rfl

theorem stage_of_running {s : State} (h : s.running = true) : s.sys.stage ≠ .fatalSeq := by
  intro hs
  rw [State.running, hs] at h
  exact absurd h (by decide)

theorem getLsbD_or_bit (n : Nat) (x y : BitVec n) (i : Nat) (h : y.getLsbD i = true) : (x ||| y).getLsbD i = true := by
  rw [BitVec.getLsbD_or, h, Bool.or_true]

/-- Settles O60: the fatal error by what it leaves (`fatal_begins`, `fatal_stops`, `fatal_leaves`), the dump's commands
by the branch their hypotheses name. -/
theorem fatalErrorsLeaveADump : Obligations.FatalErrorsLeaveADump := by
  unfold Obligations.FatalErrorsLeaveADump
  refine ⟨fun s r i c e d h => ?_, fun s hrun hd => ?_, fun s f hst hf => ⟨fun hr hd => ?_, fun hor => ?_⟩,
    fun s f => ⟨rfl, rfl, rfl, rfl, getLsbD_or_bit _ _ _ _ (by decide), rfl, rfl⟩,
    fun s r hreg hst hd => ⟨fun hw hb => ?_, fun hb => ?_⟩, fun s r hrun hreg hp hd => ?_,
    fun s hup => ⟨fun hd => ?_, fun hd => ?_, fun hd => ?_, fun hd => ?_⟩, fun s hrun he => ?_,
    fun s f r hrun hl hreg => ⟨fun hb => ?_, fun hb => ?_⟩⟩
  · obtain ⟨hstage, hready, hpin, hfatal⟩ := fatal_begins s r i c e d h
    obtain ⟨hat, hjob, hstop⟩ := fatal_stops s r i c e d h
    obtain ⟨hport, hlog, -, himg, hmem, hcfg⟩ := fatal_leaves h r i c e d
    exact ⟨hstage, hpin, hready, hstop, hport, hfatal, hat, hlog, hjob, himg, hmem,
      fun hj => by rw [hmem, cutJob_none hj], hcfg⟩
  · have h := stage_of_running hrun
    obtain ⟨hstage, -, -, hfatal⟩ := fatal_begins s 0x08 0 10 0xFF 0 h
    obtain ⟨-, -, hds, -⟩ := fatal_leaves h 0x08 0 10 0xFF 0
    refine ⟨?_, by rw [hfatal]; rfl⟩
    rw [Becomes, exec_fatalError_alwaysOn hrun, fatalDump_of hstage hfatal, hfatal, if_neg (by rw [hds]; simpa using hd)]
    rfl
  · rw [Becomes, exec_fatalError_none, fatalDump_of hst hf, if_neg (fun h => (by simpa using h : f.reason = 4 ∨ s.rmy.dumpState = 1).elim hr hd)]
    rfl
  · rw [Idles, Becomes, exec_fatalError_none, fatalDump_of hst hf, if_pos (by simpa using hor)]
    rfl
  · rw [Becomes, exec_dumpNvmWriteComplete, execDumpNvmWriteComplete, hreg]
    dsimp only
    rw [if_pos (by simp [hst, hd, hw, hb])]
    rfl
  · rw [exec_dumpNvmWriteComplete, execDumpNvmWriteComplete, hreg]
    dsimp only
    rw [if_neg (by simp [hb])]
  · refine ⟨_, by
      rw [exec_dumpCopyComplete, execDumpCopyComplete, hreg]
      dsimp only
      rw [if_pos (by simp [hrun, hp, hd])]
      rfl, ?_⟩
    exact ⟨rfl, rfl, getLsbD_or_bit 3 s.rmy.dumpEvent 2 1 (by decide), rfl, fun hf => if_pos hf⟩
  · refine ⟨_, by
      rw [exec_dumpClear, execDumpClear, if_pos hup, State.dumpClear, if_pos hd]
      rfl, ?_⟩
    exact ⟨rfl, rfl, rfl, show fields [(0, 16), (0, 3), (0, 2), (3, 0)] = 3 by decide, rfl⟩
  · rw [Idles, Becomes, exec_dumpClear, execDumpClear, if_pos hup, State.dumpClear, if_neg hd]
    rfl
  · rw [Becomes, exec_dumpRelease, execDumpRelease, if_pos hup, State.dumpRelease, if_pos hd]
    rfl
  · rw [Idles, Becomes, exec_dumpRelease, execDumpRelease, if_pos hup, State.dumpRelease, if_neg hd]
    rfl
  · refine ⟨_, by
      rw [exec_dumpEraseComplete, execDumpEraseComplete, if_pos (by rw [hrun, he]; rfl)]
      rfl, ?_⟩
    exact ⟨rfl, rfl, getLsbD_or_bit _ _ 4 _ (by decide), rfl⟩
  · rw [Becomes, exec_reasonOnlyDumpWrite, execReasonOnlyDumpWrite, hrun, hl]
    dsimp only
    rw [show State.region? { s with rmy := { s.rmy with latched := none } } 5 0 = some r from hreg]
    dsimp only
    rw [if_pos (show State.dumpBlocked { s with rmy := { s.rmy with latched := none } } = true from hb)]
    rfl
  · refine ⟨_, by
      rw [exec_reasonOnlyDumpWrite, execReasonOnlyDumpWrite, hrun, hl]
      dsimp only
      rw [show State.region? { s with rmy := { s.rmy with latched := none } } 5 0 = some r from hreg]
      dsimp only
      rw [if_neg (show ¬ State.dumpBlocked { s with rmy := { s.rmy with latched := none } } = true from
        fun h => Bool.false_ne_true (hb.symm.trans h))]
      rfl, ?_⟩
    exact ⟨rfl, rfl, rfl⟩

end Sys2Proof.Machine
end

section
/-! SUPPORT. Age: steps, rails, the planning cycle, the fast guard and the ledger (R22, R456 to R468). -/

namespace Sys2Proof.Machine

set_option Elab.async false

/-! ### Device time through a planning cycle -/

section
variable (s : State)

theorem time_draw : s.draw.time = s.time := rfl

theorem time_setIsland (i : Nat) (x : AgeIsland) : (s.setIsland i x).time = s.time := rfl

theorem time_ageEvent (b : Nat) : (s.ageEvent b).time = s.time := rfl

theorem time_setStep (i n : Nat) : (s.setStep i n).time = s.time := by
  unfold State.setStep
  split
  · rfl
  · split <;> rfl

theorem time_latch (x : Sentinel) : (s.latch x).time = s.time := by
  have hw := whole_time s (x.tjHigh.toInt + 160) 4
  unfold State.latch
  dsimp only
  generalize s.whole (x.tjHigh.toInt + 160) 4 = w at hw ⊢
  obtain ⟨hot, t⟩ := w
  dsimp only at hw ⊢
  repeat' split
  all_goals exact hw

theorem time_latchEye (l : Nat) (h : Byte) (v : BitVec 16) : (s.latchEye l h v).time = s.time := by
  unfold State.latchEye
  dsimp only
  split <;> rfl

theorem time_wear (i : Nat) : (s.wear i).time = s.time := by
  unfold State.wear
  dsimp only
  split
  · rfl
  · split <;> rfl

theorem time_lifeOf (i : Nat) : (s.lifeOf i).time = s.time := by
  unfold State.lifeOf
  dsimp only
  rw [time_setIsland, whole_time, whole_time]

theorem time_deviceLife : s.deviceLife.time = s.time := by
  unfold State.deviceLife
  dsimp only
  split <;> rfl

theorem time_raiseSteps (r : Nat) : (s.raiseSteps r).time = s.time := by
  unfold State.raiseSteps
  refine foldl_same State.time _ (fun t i => ?_) _ s
  split
  · exact time_setStep _ _ _
  · rfl

theorem time_moveRail (r v : Nat) : (s.moveRail r v).time = s.time := rfl

theorem time_planRail (r : Nat) : (s.planRail r).time = s.time := by
  unfold State.planRail
  dsimp only
  split
  · refine (foldl_same State.time _ (fun t i => time_setStep t i 0) _ _).trans ?_
    split <;> rfl
  · have hsteps : ∀ (l : List (Nat × Nat)) (t : State), (l.foldl (fun s p =>
        if p.2 < (s.island p.1).step then s.setStep p.1 p.2
        else s.setIsland p.1 { s.island p.1 with stepNext := if (s.island p.1).step < p.2 then some p.2 else none }) t).time =
        t.time := by
      refine foldl_same State.time _ (fun t p => ?_)
      split
      · exact time_setStep _ _ _
      · rfl
    rw [apply_ite State.time, time_raiseSteps, time_moveRail, ite_self, hsteps, apply_ite State.time, time_ageEvent, ite_self]
    rfl

end

/-! ### Steps -/

/-- A state but for the islands' steps, the deferred ones and the clusters. -/
def State.stepless (s : State) : State := { s with age := { s.age with island := [], stepDefer := 0 }, rmy := {} }

theorem stepless_setIsland (s : State) (i : Nat) (x : AgeIsland) : (s.setIsland i x).stepless = s.stepless := rfl

theorem stepless_setStep (s : State) (i n : Nat) : (s.setStep i n).stepless = s.stepless := by
  unfold State.setStep
  split
  · rfl
  · split <;> rfl

/-- The islands of a rail held at step 0 leave the rails. -/
theorem stepless_heldIslands (s : State) (r : Nat) : ((railIslands r).foldl
    (fun s i => (s.setIsland i { s.island i with stepNext := none }).setStep i 0) s).stepless = s.stepless :=
  foldl_same State.stepless _ (fun t i => stepless_setStep (t.setIsland i { t.island i with stepNext := none }) i 0) _ s

/-- A rail that fails. -/
theorem freezeRail_spec (s : State) (r : Nat) (b : Byte) :
    (s.freezeRail r b).age.rail = (s.setRail r { s.rail r with frozen := true, target := none, status := b }).age.rail ∧
    (s.freezeRail r b).age.railFail = satInc s.age.railFail ∧ (s.freezeRail r b).age.event = s.age.event ||| 4 := by
  have h := stepless_heldIslands (s.setRail r { s.rail r with frozen := true, target := none, status := b }) r
  have hrail := congrArg (fun t : State => t.age.rail) h
  have hfail := congrArg (fun t : State => t.age.railFail) h
  have hev := congrArg (fun t : State => t.age.event) h
  exact ⟨hrail, congrArg satInc hfail, congrArg (· ||| 4#9) hev⟩

theorem rail_freezeRail (s : State) (r : Nat) (b : Byte) :
    (s.freezeRail r b).rail r = { s.rail r with frozen := true, target := none, status := b } := by
  unfold State.rail
  rw [(freezeRail_spec s r b).1]
  exact Tab.get_set_self _ _ _ _

theorem cycleDone_keeps (s : State) : s.cycleDone.age.rail = s.age.rail ∧ s.cycleDone.age.railFail = s.age.railFail ∧
    s.cycleDone.age.event = s.age.event := by
  unfold State.cycleDone
  split
  · split <;> exact ⟨rfl, rfl, rfl⟩
  · exact ⟨rfl, rfl, rfl⟩

/-! ### Increments -/

theorem next_of_eq {x : AgeRail} {v : Nat} (h : x.target = some v) (hv : v = x.set) : x.next = { x with target := none } := by
  unfold AgeRail.next
  rw [h]
  dsimp only
  rw [if_pos (by omega)]

/-- An increment moves the setpoint towards the target by at most 10 mV. -/
theorem next_of_ne {x : AgeRail} {v : Nat} (h : x.target = some v) (hv : v ≠ x.set) : x.next =
    { x with set := if x.set < v then min v (x.set + 10) else max v (x.set - 10) } := by
  unfold AgeRail.next
  rw [h]
  dsimp only
  rw [if_neg (by omega)]
  congr 1
  repeat' split
  all_goals omega

/-! ### The fast guard -/

/-- A guard trip noted: counted, the event, the island's flag, and no step increase waits on its rail. -/
def State.tripped (s : State) (i : Nat) : State :=
  let s : State := { s with age := { s.age with guardTrip := satInc s.age.guardTrip } }
  let s := s.ageEvent 0
  let s := s.setIsland i { s.island i with guard := true }
  match railOf i with
  | some r => (railIslands r).foldl (fun (s : State) j => s.setIsland j { s.island j with stepNext := none }) s
  | none => s

theorem exec_fastGuardTrip_tripped {i : Fin 46} {slack : Int} {s : State} (hrun : s.running = true)
    (h : slack < (s.guardPs : Int)) : exec (.fastGuardTrip i slack) s =
      (let t := s.tripped i
       let above := decide (0 < (t.island i).step)
       let u := if (30 ≤ i.val && (t.cl (i.val - 30)).st.recovers) || !above then t.guardRail i above else t
       (if above then u.setStep i 0 else u).done) := by
  rw [exec_fastGuardTrip, execFastGuardTrip, if_neg]
  · rfl
  · rw [hrun, decide_eq_false (Int.not_le.2 h)]
    exact Bool.false_ne_true

/-- What a noted trip leaves: all but the islands, the count and the event. -/
theorem tripped_spec (s : State) (i : Nat) :
    (s.tripped i).stepless = ({ s with age := { s.age with
      guardTrip := satInc s.age.guardTrip, event := s.age.event ||| 1 } } : State).stepless ∧
    (s.tripped i).rmy = s.rmy ∧ ((s.tripped i).island i).guard = true ∧ ((s.tripped i).island i).step = (s.island i).step := by
  let u : State := State.setIsland { s with age := { s.age with
    guardTrip := satInc s.age.guardTrip, event := s.age.event ||| 1 } } i { s.island i with guard := true }
  have hkeep : ∀ {α : Type} (f : State → α), (∀ t j, f (t.setIsland j { t.island j with stepNext := none }) = f t) →
      f (s.tripped i) = f u := by
    intro α f hf
    unfold State.tripped
    dsimp only
    split
    · exact foldl_same f _ hf _ _
    · rfl
  have hisland : u.island i = { s.island i with guard := true } := island_setIsland_self _ _ _
  have hguard := hkeep (fun t => ((t.island i).guard, (t.island i).step)) (fun t j => by
    rw [island_setIsland]
    split
    · next h => rw [h]
    · rfl)
  have hg := congrArg Prod.fst hguard
  have hs := congrArg Prod.snd hguard
  dsimp only at hg hs
  rw [hisland] at hg hs
  exact ⟨hkeep State.stepless (fun t j => stepless_setIsland t _ _), hkeep State.rmy (fun _ _ => rfl), hg, hs⟩

theorem cycleDone_planned {s : State} {t : DWord} (h : s.age.cycle = some t) : s.cycleDone.age.began = s.age.began ∧
    (s.cycleDone.age.cycle = some t ∨ s.cycleDone.age.cycle = none ∧ s.cycleDone.age.write.isSome = true) := by
  unfold State.cycleDone
  rw [h]
  dsimp only
  split
  · exact ⟨rfl, .inl h⟩
  · exact ⟨rfl, .inr ⟨rfl, rfl⟩⟩

/-- A state as the checks of a rail's increment leave it: its readback, and the supplies of its islands. -/
def State.railRead (s : State) (r : Nat) (x : RailCheck) : State :=
  (x.islands.filter (fun p => railOf p.1 == some r)).foldl
    (fun s p => s.setIsland p.1 { s.island p.1 with supply := p.2.1 })
    (s.setRail r { s.rail r with readback := if x.ack then x.readback else (s.rail r).readback })

theorem stepless_railRead (s : State) (r : Nat) (x : RailCheck) : (s.railRead r x).stepless =
    (s.setRail r { s.rail r with readback := if x.ack then x.readback else (s.rail r).readback }).stepless :=
  foldl_same State.stepless _ (fun t (p : Fin 46 × BitVec 16 × Int) =>
    stepless_setIsland t p.1 { t.island p.1 with supply := p.2.1 }) _ _

theorem rail_cycleDone (s : State) (r : Nat) : s.cycleDone.rail r = s.rail r := by
  unfold State.rail
  rw [(cycleDone_keeps s).1]

section
variable {s t : State} (h : t.stepless = s.stepless)
include h

theorem rail_of_stepless (r : Nat) : t.rail r = s.rail r := by
  have hr := congrArg (fun u : State => u.rail r) h
  exact hr

theorem event_of_stepless : t.age.event = s.age.event := by
  have he := congrArg (fun u : State => u.age.event) h
  exact he

theorem railFail_of_stepless : t.age.railFail = s.age.railFail := by
  have he := congrArg (fun u : State => u.age.railFail) h
  exact he

theorem guardTrip_of_stepless : t.age.guardTrip = s.age.guardTrip := by
  have he := congrArg (fun u : State => u.age.guardTrip) h
  exact he

theorem mono_of_stepless : t.sys.mono = s.sys.mono := by
  have he := congrArg (fun u : State => u.sys.mono) h
  exact he

theorem ceilingMv_of_stepless (r : Nat) : t.ceilingMv r = s.ceilingMv r := by
  have he := congrArg (fun u : State => u.ceilingMv r) h
  exact he

end

theorem guardRail_keeps (s : State) (i : Nat) (quiet : Bool) : (s.guardRail i quiet).age.island = s.age.island ∧
    (s.guardRail i quiet).age.guardTrip = s.age.guardTrip ∧
    (s.age.event.getLsbD 0 = true → (s.guardRail i quiet).age.event.getLsbD 0 = true) := by
  unfold State.guardRail
  split
  · exact ⟨rfl, rfl, id⟩
  · dsimp only
    split
    · split
      · exact ⟨rfl, rfl, id⟩
      · exact ⟨rfl, rfl, fun h => by rw [State.ageEvent, BitVec.getLsbD_or, h]; rfl⟩
    · exact ⟨rfl, rfl, id⟩

/-- A rail that the guard raises. -/
theorem guardRail_raises {s : State} {i r : Nat} {quiet : Bool} (hr : railOf i = some r) (hf : (s.rail r).frozen = false)
    (hset : (s.rail r).set < s.ceilingMv r) : ∃ x : AgeRail, x.set = min ((s.rail r).set + 10) (s.ceilingMv r) ∧
      s.guardRail i quiet = s.setRail r x := by
  refine ⟨_, ?_, by
    unfold State.guardRail
    rw [hr]
    dsimp only
    rw [if_neg (by rw [hf, decide_eq_false (Nat.not_le.2 hset)]; exact Bool.false_ne_true)]⟩
  rfl

theorem setStep_zero_guard (s : State) (i : Nat) : ((s.setStep i 0).island i).guard = (s.island i).guard := by
  unfold State.setStep
  split
  · rfl
  · dsimp only
    split
    · rfl
    · rw [island_setIsland_self]

/-- Settles O59: a failed check goes through the frozen rail (`freezeRail_spec`), an increment through `next_of_ne`, a trip
of the guard through the state in which it is noted (`tripped_spec`), and a cycle keeps device time. -/
theorem agePlansAndGuards : Obligations.AgePlansAndGuards := by
  unfold Obligations.AgePlansAndGuards
  refine ⟨fun l eyes s hrun => ⟨fun hc hw hp => ?_, fun hor => ?_⟩, fun s => ⟨fun hb => ?_, fun b hb => ?_⟩,
    fun r x s hrun ht => ⟨fun hlt => ?_, fun hle hbad => ?_, fun v hle ha hl hn hi hv hne => ?_⟩,
    fun x v hx => ⟨fun hv => next_of_eq hx hv, fun hlt => ?_, fun hlt => ?_⟩,
    fun i slack s hrun => ⟨fun hle => ?_, fun hlt => ?_⟩, fun i slack r s hrun hlt hr hst hfr hset => ?_,
    fun i slack s hrun hlt hst hrec => ?_, fun r f b s hrun => ⟨fun hp => ?_, fun hp hf hfr => ?_⟩,
    fun k n s hrun hst hd => ?_, fun b s hrun hw => ⟨fun r hr => ?_, ?_⟩⟩
  · have htime : ((List.range 3).foldl State.planRail ((List.range 46).foldl State.lifeOf ((List.range 46).foldl State.wear
        (eyes.foldl (fun s x => s.latchEye x.1 x.2.1 x.2.2) (l.foldl State.latch s)))).deviceLife).time = s.time := by
      rw [foldl_same State.time _ time_planRail, time_deviceLife, foldl_same State.time _ time_lifeOf,
        foldl_same State.time _ time_wear, foldl_same State.time _ (fun t x => time_latchEye t _ _ _),
        foldl_same State.time _ time_latch]
    refine ⟨_, by
      rw [exec_planningCycle, execPlanningCycle, if_pos (by simp [hrun, hc, hw, hp])]
      rfl, ?_⟩
    dsimp only [settle_age]
    generalize ((List.range 3).foldl State.planRail _) = u at htime ⊢
    rw [← htime]
    exact cycleDone_planned rfl
  · rw [exec_planningCycle, execPlanningCycle, if_neg]
    rcases hor with h | h
    · cases hw : s.age.write with
      | none => rw [hw] at h; exact absurd h (by decide)
      | some b => simp
    · simp [h]
  · unfold State.planDue
    rw [hb]
    exact decide_eq_true_iff
  · unfold State.planDue
    rw [hb]
    exact decide_eq_true_iff
  · rw [exec_railSettle, execRailSettle]
    dsimp only
    rw [if_pos (by rw [decide_eq_false (Nat.not_le.2 hlt), Bool.and_false]; rfl)]
  · have hu := stepless_railRead s r x
    obtain ⟨-, hfail, hev⟩ := freezeRail_spec (s.railRead r x) r x.status
    obtain ⟨-, hcfail, hcev⟩ := cycleDone_keeps ((s.railRead r x).freezeRail r x.status)
    refine ⟨((s.railRead r x).freezeRail r x.status).cycleDone.settle, by
      rw [exec_railSettle, execRailSettle]
      dsimp only
      rw [if_neg (by simp [hrun, ht, hle]), if_pos]
      · rfl
      · rcases hbad with h | ⟨h1, h2⟩
        · simp [h]
        · simp [h1, h2], ?_⟩
    dsimp only
    rw [settle_rail, rail_cycleDone, rail_freezeRail, settle_age, hcfail, hfail, hcev, hev, rail_of_stepless hu,
      rail_setRail_self, railFail_of_stepless hu]
    exact ⟨rfl, rfl, rfl, rfl, rfl, getLsbD_or_bit _ _ _ _ (by decide)⟩
  · have hnext : (({ s.rail r with readback := x.readback } : AgeRail).next).target = some v := by
      rw [next_of_ne (x := { s.rail r with readback := x.readback }) hv hne]
      exact hv
    have hok : (!(true && (x.linear || !s.pmbus r) && near15 x.readback.toNat (s.rail r).set && true)) = false := by
      rcases hl with h | h <;> simp [h, hn]
    refine ⟨State.settle ((s.setRail r { s.rail r with readback := x.readback }).setRail r
        { ({ s.rail r with readback := x.readback } : AgeRail).next with incrAt := s.sys.mono }), by
      rw [exec_railSettle, execRailSettle]
      dsimp only
      rw [if_neg (by simp [hrun, ht, hle]), hi, ha]
      dsimp only [List.filter_nil, List.foldl_nil, List.all_nil]
      rw [if_pos rfl]
      refine (if_neg (fun h => Bool.false_ne_true (hok.symm.trans h))).trans ?_
      refine (if_neg ?_).trans ?_
      · rw [rail_setRail_self, rail_setRail_self]
        dsimp only
        rw [hnext]
        exact Bool.false_ne_true
      · rw [rail_setRail_self]
        rfl, ?_, ?_, rfl, rfl⟩
    · rw [settle_rail, rail_setRail_self]
    · intro q hq
      rw [settle_rail, rail_setRail, if_neg hq, rail_setRail, if_neg hq]
  · rw [next_of_ne hx (by omega), if_pos hlt]
    exact ⟨rfl, hx⟩
  · rw [next_of_ne hx (by omega), if_neg (by omega)]
    exact ⟨rfl, hx⟩
  · rw [exec_fastGuardTrip, execFastGuardTrip, if_pos (by rw [decide_eq_true hle, Bool.or_true])]
  · obtain ⟨hu, -, hguard, -⟩ := tripped_spec s i
    have hev : (s.tripped i).age.event.getLsbD 0 = true := by
      rw [event_of_stepless hu]
      exact getLsbD_or_bit _ _ _ _ (by decide)
    refine ⟨_, exec_fastGuardTrip_tripped hrun hlt, ?_⟩
    dsimp only
    have hraised : ∀ b : Bool, ((s.tripped i).guardRail i b).age.guardTrip = satInc s.age.guardTrip ∧
        ((s.tripped i).guardRail i b).age.event.getLsbD 0 = true ∧ (((s.tripped i).guardRail i b).island i).guard = true := by
      intro b
      obtain ⟨hi, ht, he⟩ := guardRail_keeps (s.tripped i) i b
      refine ⟨ht.trans (guardTrip_of_stepless hu), he hev, ?_⟩
      rw [State.island, hi]
      exact hguard
    generalize decide (0 < ((s.tripped i).island i).step) = above
    have hmid : ∀ (c : Bool), ∃ t : State, t = (if c then (s.tripped i).guardRail i above else s.tripped i) ∧
        t.age.guardTrip = satInc s.age.guardTrip ∧ t.age.event.getLsbD 0 = true ∧ (t.island i).guard = true := by
      intro c
      cases c with
      | true => exact ⟨_, rfl, hraised above⟩
      | false => exact ⟨_, rfl, guardTrip_of_stepless hu, hev, hguard⟩
    obtain ⟨t, ht, htrip, hevt, hgt⟩ := hmid
      ((decide (30 ≤ i.val) && ((s.tripped i).cl (i.val - 30)).st.recovers) || !above)
    rw [← ht]
    cases above with
    | false => exact ⟨htrip, hevt, hgt⟩
    | true =>
      have hs := stepless_setStep t i 0
      exact ⟨(guardTrip_of_stepless hs).trans htrip,
        (congrArg (fun e : BitVec 9 => e.getLsbD 0) (event_of_stepless hs)).trans hevt, (setStep_zero_guard t i).trans hgt⟩
  · obtain ⟨hu, -, -, hstep⟩ := tripped_spec s i
    have hrail : ∀ q, (s.tripped i).rail q = s.rail q := fun q => rail_of_stepless hu q
    obtain ⟨x, hx, hraise⟩ := guardRail_raises (s := s.tripped i) (quiet := false) hr (by rw [hrail]; exact hfr)
      (by rw [hrail, ceilingMv_of_stepless hu]; exact hset)
    rw [hrail, ceilingMv_of_stepless hu] at hx
    refine ⟨State.settle ((s.tripped i).setRail r x), ?_, ?_, ?_, fun q hq => ?_⟩
    · rw [exec_fastGuardTrip_tripped hrun hlt]
      dsimp only
      rw [hstep, hst]
      rw [show decide (0 < 0) = false from rfl, Bool.not_false, Bool.or_true, if_pos rfl, hraise]
      rfl
    · rw [settle_rail, rail_setRail_self]
      exact hx
    · exact hstep.trans hst
    · rw [settle_rail, rail_setRail, if_neg hq]
      exact hrail q
  · obtain ⟨hu, hrmy, -, hstep⟩ := tripped_spec s i
    have hcl : ∀ k, (s.tripped i).cl k = s.cl k := fun k => by rw [State.cl, hrmy]; rfl
    have hno : (decide (30 ≤ i.val) && ((s.tripped i).cl (i.val - 30)).st.recovers) = false := by
      rw [hcl]
      rcases hrec with h | h
      · rw [decide_eq_false (by omega), Bool.false_and]
      · rw [h, Bool.and_false]
    refine ⟨State.settle ((s.tripped i).setIsland i { (s.tripped i).island i with step := 0 }), ?_, ?_, ?_⟩
    · rw [exec_fastGuardTrip_tripped hrun hlt]
      dsimp only
      rw [hstep, hno, decide_eq_true hst, Bool.not_true, Bool.or_false, if_neg Bool.false_ne_true, if_pos rfl, State.setStep,
        if_neg (by rw [hstep]; omega)]
      refine congrArg State.done (if_neg ?_)
      rw [hno]
      exact Bool.false_ne_true
    · rw [settle_island, island_setIsland_self]
    · have hr := congrArg (fun t : State => t.age.rail) hu
      exact hr
  · rw [Becomes, exec_pmbAlert, execPmbAlert, if_neg (by rw [hrun]; exact Bool.false_ne_true)]
    dsimp only [List.foldl_cons, List.foldl_nil]
    rw [if_pos (by simpa [State.pmbus] using hp)]
    rfl
  · let t := s.setRail r { s.rail r with alert := true, status := b }
    have hr : (t.freezeRail r b).cycleDone.rail r = { t.rail r with frozen := true, target := none, status := b } := by
      rw [rail_cycleDone, rail_freezeRail]
    rw [rail_setRail_self] at hr
    refine ⟨(t.freezeRail r b).cycleDone.settle, ?_, ?_⟩
    · rw [exec_pmbAlert, execPmbAlert, if_neg (by rw [hrun]; exact Bool.false_ne_true)]
      dsimp only [List.foldl_cons, List.foldl_nil]
      rw [if_neg (by simpa [State.pmbus] using hp), if_pos]
      · rfl
      · rw [rail_setRail_self, hf]
        exact congrArg Bool.not hfr
    · dsimp only
      rw [settle_rail, hr]
      exact ⟨rfl, rfl, rfl, rfl⟩
  · refine ⟨_, by
      rw [exec_stepDeferApply]
      unfold execStepDeferApply
      dsimp only
      rw [hrun, hst, hd]
      rfl, ?_⟩
    refine ⟨?_, ?_, ?_, ?_⟩
    · rw [settle_island, island_setIsland_self]
    · rw [settle_cl, cl_setIsland, cl_setCl_self]
    · intro j hj
      rw [settle_island, island_setIsland, if_neg hj]
      rfl
    · intro b hb
      cases b <;> first | rfl | exact absurd hb (by decide)
  · refine ⟨_, by
      rw [exec_ledgerWriteComplete]
      unfold execLedgerWriteComplete
      rw [hrun, hw]
      dsimp only
      rw [show State.ledger? { s with age := { s.age with write := none, nextSeq := s.age.nextSeq + 1, planned := true, planCount := satInc s.age.planCount } } = some r from hr]
      rfl, ?_⟩
    exact ⟨rfl, rfl, rfl, rfl, rfl⟩
  · refine ⟨_, by
      rw [exec_ledgerWriteComplete]
      unfold execLedgerWriteComplete
      rw [hrun, hw]
      rfl, ?_⟩
    exact ⟨rfl, rfl, rfl, rfl, getLsbD_or_bit _ _ _ _ (by decide)⟩

end Sys2Proof.Machine
end

section
/-! SUPPORT. Instances at run time and the personality store (R300 to R302, Table 10-9). -/

namespace Sys2Proof.Machine

set_option Elab.async false

section
variable {q : Req} {s u : State} {code : Nat} (h : s.asked q code 1 u)
include h

/-- A request about a personality that is free. -/
theorem becomes_instServed {c : Instr} {f : State → Nat → State ⊕ Nat} {t : State}
    (hx : exec c s = if s.running then (s.instServe q code f).done else .next s) (hfree : InstFree q u)
    (hf : f u (q.word 1) = .inl t) : Becomes c s t := by
  obtain ⟨hlt, hhas, hpend⟩ := hfree
  refine becomes_served hx h ?_
  dsimp only
  rw [if_neg (by omega), hhas, hpend]
  exact hf

/-- A request about a personality that is free, turned away. -/
theorem becomes_instRefused {c : Instr} {f : State → Nat → State ⊕ Nat} {st : Nat}
    (hx : exec c s = if s.running then (s.instServe q code f).done else .next s) (hfree : InstFree q u)
    (hf : f u (q.word 1) = .inr st) : Becomes c s (u.refuse q code st) := by
  obtain ⟨hlt, hhas, hpend⟩ := hfree
  refine becomes_refused hx h ?_
  dsimp only
  rw [if_neg (by omega), hhas, hpend]
  exact hf

end

/-- An engine's registers at its release read 0. -/
theorem EngCore.r_zero (pc : Word) (k : Nat) : ({ pc := pc } : EngCore).r k = 0 := by
  unfold EngCore.r
  split <;> rfl

/-- The restart request with the checks of its personality in view. -/
theorem exec_personalityRestart_serve (q : Req) (s : State) : exec (.personalityRestart q) s =
    if s.running then (s.serve q 0x601 1 (fun s =>
      if 32 ≤ q.word 1 then .inr 0x12 else if !s.hasInstance (q.word 1) then .inr 0x12
      else if s.instPending (q.word 1) then .inr 0x14
      else .inl ((s.hold q 0x601).schedule (q.word 1) .restart (some (q.src.val, q.tag))))).done else .next s := rfl

/-- The state in which a due personality request is taken: it waits no longer, and its engine has stopped. -/
def State.haltedFor (s : State) (e : Fin 32) : State :=
  let c := s.cl (e.val / 2)
  let t := s.setCl (e.val / 2) { c with instReq := c.instReq.filter (fun x => x.1 != e.val) }
  if (s.eng e).status = 1 then t else t.haltInstance e 1

theorem exec_instanceRestart_due {s : State} {e : Fin 32} {k : InstReq} {src : Nat} {tag : Byte} (hrun : s.running = true)
    (hdue : s.restartDue e = some (e.val, k, some (src, tag))) (ok : Bool) : exec (.instanceRestart e ok) s =
      (let u := s.haltedFor e
       let good := ok && (!u.sys.dramFail || !(u.engs.placed.any (fun p => p.eng == e.val)))
       ((if good then u.restartInstance e else u.failInstance e).final src k.code tag (if good then 0 else 0x1A) []).done) := by
  rw [exec_instanceRestart]
  unfold execInstanceRestart
  rw [hrun, hdue]
  rfl

/-- A due restart with the DRAM at work. -/
theorem instanceRestart_good {s : State} {e : Fin 32} {k : InstReq} {src : Nat} {tag : Byte} (hrun : s.running = true)
    (hdue : s.restartDue e = some (e.val, k, some (src, tag))) (hd : (s.haltedFor e).sys.dramFail = false) :
    Becomes (.instanceRestart e true) s (((s.haltedFor e).restartInstance e).final src k.code tag 0 []) := by
  rw [Becomes, exec_instanceRestart_due hrun hdue true]
  generalize s.haltedFor e = u at hd ⊢
  dsimp only
  rw [hd, Bool.not_false, Bool.true_or, Bool.and_self, if_pos rfl, if_pos rfl]
  rfl

/-- Settles O53: each request by the branch of its operation that its hypotheses name (`becomes_instServed` for the
requests about a personality), the due restart by the state in which it is taken (`haltedFor`). -/
theorem instancesAndTheStore : Obligations.InstancesAndTheStore := by
  unfold Obligations.InstancesAndTheStore
  refine ⟨fun q s u h hf => becomes_instServed h (exec_personalityRestart q s) hf rfl,
    fun q s u h hf => becomes_instServed h (exec_personalityStop q s) hf.1 (by rw [hf.2]; rfl),
    fun q s u h hf => becomes_instServed h (exec_personalityStop q s) hf.1 (by rw [hf.2]; rfl),
    fun q s u h hf => becomes_instServed h (exec_personalityStart q s) hf.1 (by rw [hf.2]; rfl),
    fun q s u h hf => becomes_instRefused h (exec_personalityStart q s) hf.1 (by rw [hf.2]; rfl),
    fun q s u h hw => becomes_refused (exec_personalityRestart_serve q s) h (if_pos hw),
    fun q s u h hw => becomes_refused (exec_personalityRestart_serve q s) h ?_,
    fun e s k src tag hrun hdue => ⟨fun hd => ?_, ?_⟩, fun e s hdue ok => ?_, fun s e he => ⟨?_, ?_, ?_, ?_, ?_, ?_, ?_⟩,
    fun q s u r h hb hlc hex hr => ⟨fun hle hroom => becomes_served (exec_storeAppendOpen q s) h ?_,
      fun hroom => becomes_refused (exec_storeAppendOpen q s) h ?_⟩,
    fun q s u a h hb hlen ha hc => ⟨fun hle hroom => becomes_served (exec_storeAppendWrite q s) h ?_,
      fun hlt => becomes_refused (exec_storeAppendWrite q s) h ?_⟩,
    fun q v k s u a r h ha hr hc hj => ⟨becomes_served (exec_storeAppendCommit q v k false s) h ?_,
      fun st hst => becomes_served (exec_storeAppendCommit q v k true s) h ?_,
      fun hst => becomes_served (exec_storeAppendCommit q v k true s) h ?_⟩,
    fun q s u a h hb ha => ⟨fun hno => becomes_served (exec_storeEntryRemove q s) h ?_,
      fun hyes => becomes_refused (exec_storeEntryRemove q s) h ?_⟩,
    fun v q s u h hok => becomes_served (exec_storeErase q v s) h ?_⟩
  · obtain ⟨hlt, hhas, hpend⟩ := hw
    rw [if_neg (by omega), hhas, hpend]
    rfl
  · exact instanceRestart_good hrun hdue hd
  · exact exec_instanceRestart_due hrun hdue false
  · rw [exec_instanceRestart]
    unfold execInstanceRestart
    rw [hdue]
    cases s.running <;> rfl
  · rw [State.release, eng_setEng_self]
  · rw [State.release, State.core, eng_setEng_self]
    rfl
  · rw [State.release, State.core, eng_setEng_self]
    rfl
  · rw [State.release, State.core, eng_setEng_self]
    have hr := EngCore.r_setR (({ pc := 0x100 } : EngCore).setR 1 0x5FF00) 2 e 2
    rw [if_pos ⟨rfl, by decide⟩, Nat.mod_eq_of_lt (by omega)] at hr
    exact congrArg (fun n : Nat => (n : BitVec 32)) hr
  · intro k h1 h2
    rw [State.release, State.core, eng_setEng_self]
    exact (EngCore.r_setR _ _ _ _).trans ((if_neg (fun h => h2 h.1)).trans
      ((EngCore.r_setR _ _ _ _).trans ((if_neg (fun h => h1 h.1)).trans (EngCore.r_zero _ _))))
  · rw [State.release, State.core, eng_setEng_self]
    rfl
  · intro x hx
    rw [State.release, eng_setEng, if_neg hx]
  · obtain ⟨hok, h256⟩ := hb
    dsimp only
    rw [hok, if_neg (by simpa using h256), if_neg hlc, hex, if_neg Bool.false_ne_true, hr]
    dsimp only
    rw [if_neg (by simp; omega)]
  · obtain ⟨hok, h256⟩ := hb
    dsimp only
    rw [hok, if_neg (by simpa using h256), if_neg hlc, hex, if_neg Bool.false_ne_true, hr]
    dsimp only
    rw [if_pos (by simp; omega)]
  · dsimp only
    rw [hb, if_neg (by simpa using hlen), ha]
    dsimp only
    rw [if_neg (by simp [hc]; omega)]
  · dsimp only
    rw [hb, if_neg (by simpa using hlen), ha]
    dsimp only
    rw [if_pos (by simp; omega)]
  · rw [ha, hr]
    dsimp only
    rw [hc, hj]
    rfl
  · rw [ha, hr]
    dsimp only
    rw [hc, hj, hst]
    rfl
  · rw [ha, hr]
    dsimp only
    rw [hc, hj, hst]
    rfl
  · dsimp only
    rw [if_neg (by simpa using hb), ha]
    dsimp only
    rw [if_neg]
    simpa using hno
  · dsimp only
    rw [if_neg (by simpa using hb), ha]
    dsimp only
    rw [if_pos]
    simpa using hyes
  · obtain ⟨hb, hlc, hex, hauth, hreg⟩ := hok
    obtain ⟨r, hr⟩ := Option.isSome_iff_exists.1 hreg
    dsimp only
    rw [lcCheck_of_ok (lc := u.sys.lc) (by rcases hlc with h | h <;> rw [h] <;> rfl) ⟨hb, rfl, hex, hauth⟩, hr]
    rfl

end Sys2Proof.Machine
end

section
/-! SUPPORT. Image writes and the NVM jobs that complete (R502 to R504, Table 18-9). -/

namespace Sys2Proof.Machine

set_option Elab.async false

/-- A state whose open image write has been heard from. -/
theorem imgTouch_of {u : State} {w : ImgWrite} (h : u.host.img = some w) :
    u.imgTouch = { u with host := { u.host with img := some { w with at_ := u.sys.mono } } } := by
  unfold State.imgTouch
  rw [h]
  rfl

theorem imgClose_imgTouch (u : State) : u.imgTouch.imgClose = u.imgClose := rfl

/-- Settles O54: each request by the branch that its hypotheses name, on the state in which the open write has been heard
from (`imgTouch_of`); a job's completion by its kind. -/
theorem imagesAreWritten : Obligations.ImagesAreWritten := by
  unfold Obligations.ImagesAreWritten
  refine ⟨fun q s u r h hlc hex hb hr hsize => ?_, fun q s u w r h hb h4 hlen hw hr hc => ?_,
    fun q v p ok s u w r h hw hr hc hj hb hd => ?_, fun q s u h hok => ?_, fun q s u h hno => ?_, fun q s u h hno => ?_,
    fun q s u w h hw => becomes_served (exec_imageWriteStatus q s) h ?_, fun s w hw hor => ?_, fun s w nvm hrun hw hor => ?_,
    fun s j hrun hj => ⟨fun hk => ?_, fun hk => ?_, fun hk => ⟨?_, ?_⟩, fun hk => ?_⟩⟩
  · obtain ⟨hok, h64⟩ := hb
    refine ⟨fun hbad => becomes_refused (exec_imageWriteOpen q s) h ?_,
      fun hgood hle => becomes_refused (exec_imageWriteOpen q s) h ?_,
      fun hgood hlt => becomes_served (exec_imageWriteOpen q s) h ?_⟩
    all_goals
      dsimp only
      rw [if_neg hlc, hex, if_neg Bool.false_ne_true, hok, if_neg (by simpa using h64), hr]
      dsimp only
      rw [if_neg (Nat.not_lt.2 hsize)]
    · rw [if_pos]
      rw [Decidable.not_and_iff_or_not] at hbad
      simpa using hbad
    · rw [if_neg (by simp [hgood.1, hgood.2]), if_pos hle]
    · rw [if_neg (by simp [hgood.1, hgood.2]), if_neg (Nat.not_le.2 hlt)]
  · have hgate : (!bulkOk q.src.val (q.word 2) (q.word 3) || decide (q.word 3 < 4) || decide (0x8000 < q.word 3)) = false := by
      rw [hb, decide_eq_false (by omega), decide_eq_false (by omega)]
      rfl
    have himg : u.imgTouch.host.img = some { w with at_ := u.sys.mono } := by rw [imgTouch_of hw]
    have hdata : q.word 1 = w.done → q.word 1 + q.word 3 ≤ w.total - 128 →
        (u.bulkRead q.src.val (q.word 2) (q.word 3)).take ((w.header.drop (q.word 1)).take (q.word 3)).length =
          (w.header.drop (q.word 1)).take (q.word 3) →
        ¬ (decide (q.word 1 ≠ w.done) || decide (w.total - 128 < q.word 1 + q.word 3) ||
          decide ((u.imgTouch.bulkRead q.src.val (q.word 2) (q.word 3)).take
            ((w.header.drop (q.word 1)).take (q.word 3)).length ≠ (w.header.drop (q.word 1)).take (q.word 3))) = true := by
      intro hat hroom hhead
      rw [show u.imgTouch.bulkRead q.src.val (q.word 2) (q.word 3) = u.bulkRead q.src.val (q.word 2) (q.word 3) from rfl,
        hhead, decide_eq_false (not_not_intro hat), decide_eq_false (Nat.not_lt.2 hroom), decide_eq_false (not_not_intro rfl)]
      exact Bool.false_ne_true
    refine ⟨fun he ok => becomes_served (exec_imageWriteData q ok s) h ?_,
      fun he hne ok => becomes_served (exec_imageWriteData q ok s) h ?_, fun he hat hroom hhead =>
      ⟨becomes_served (exec_imageWriteData q false s) h ?_, becomes_served (exec_imageWriteData q true s) h ?_⟩⟩
    all_goals
      dsimp only
      rw [hgate, if_neg Bool.false_ne_true, himg, show u.imgTouch.imgSlot = some r from hr]
      dsimp only
    · rw [if_pos (by rw [he]; rfl), imgTouch_of hw]
    · rw [if_neg (by rw [he, hc]; decide), if_pos (by simp [hne]), imgTouch_of hw]
    · rw [if_neg (by rw [he, hc]; decide), if_neg (hdata hat hroom hhead)]
      rfl
    · rw [if_neg (by rw [he, hc]; decide), if_neg (hdata hat hroom hhead), imgTouch_of hw]
      rfl
  · obtain ⟨hbulk, h128⟩ := hb
    have himg : u.imgTouch.host.img = some { w with at_ := u.sys.mono } := by rw [imgTouch_of hw]
    have hopen : ¬ (w.commit || u.imgTouch.sage.job.isSome) = true := by
      rw [hc, show u.imgTouch.sage.job = none from hj]
      decide
    have hread : ¬ (!bulkOk q.src.val (q.word 1) (q.word 2) || decide (q.word 2 ≠ 128) ||
        decide (w.done ≠ w.total - 128)) = true := by
      rw [hbulk, decide_eq_false (not_not_intro h128), decide_eq_false (not_not_intro hd)]
      decide
    have hreason : (if (!ok) = true then 0x12 else u.imgTouch.imageReason (u.imgTouch.nvmBytes r.off (w.total - 128) ++
        u.imgTouch.bulkRead q.src.val (q.word 1) 128) r.size v p) = (if ok = true then
          State.imageReason { u with host := { u.host with img := some { w with at_ := u.sys.mono } } }
            (u.nvmBytes r.off (w.total - 128) ++ u.bulkRead q.src.val (q.word 1) 128) r.size v p else 0x12) := by
      rw [← imgTouch_of hw]
      cases ok <;> rfl
    refine ⟨fun hne => becomes_served (exec_imageWriteCommit q v p ok s) h ?_,
      fun heq => becomes_served (exec_imageWriteCommit q v p ok s) h ?_⟩
    all_goals
      dsimp only
      rw [himg, show u.imgTouch.imgSlot = some r from hr]
      dsimp only
      rw [if_neg hopen, if_neg hread, hreason]
    · rw [if_pos hne]
      rfl
    · rw [if_neg (not_not_intro heq)]
      rfl
  · obtain ⟨w, hw, hc⟩ := hok
    refine becomes_served (exec_imageWriteClose q s) h ?_
    dsimp only
    rw [hw]
    dsimp only
    rw [hc]
    rfl
  · refine becomes_refused (exec_imageWriteClose q s) h ?_
    rw [hno]
  · refine becomes_served (exec_imageWriteStatus q s) h ?_
    rw [hno]
  · rw [hw]
  · rw [exec_imageWriteAbandon]
    unfold execImageWriteAbandon
    rw [hw]
    cases s.running with
    | false => rfl
    | true => exact if_pos (by rcases hor with h | h <;> simp [h])
  · rw [Becomes, exec_imageWriteAbandon]
    unfold execImageWriteAbandon
    rw [hrun, hw]
    dsimp only
    rw [if_neg]
    · rfl
    · rcases hor with h | ⟨hc, hle⟩
      · simp [h]
      · rw [hc, decide_eq_false (Nat.not_lt.2 hle)]
        simp
  all_goals
    rw [Becomes, exec_nvmWriteComplete]
    unfold execNvmWriteComplete State.jobApply State.jobAfter
    rw [hrun, hj]
    dsimp only
    rw [hk]
    rfl

end Sys2Proof.Machine
end

section
/-! SUPPORT. The host's mailboxes, locks and resets, and the memory events of the host island (R352 to R370, R172). -/

namespace Sys2Proof.Machine

set_option Elab.async false

section
variable (s : State)

theorem mbx_raiseIpend (e b : Nat) : (s.raiseIpend e b).mbx = s.mbx := by
  unfold State.raiseIpend State.input
  split <;> rfl

/-- A mailbox but for its events. -/
def Mbox.mute (m : Mbox) : Mbox := { m with event := 0 }

/-- The mailboxes, the events of one of them left out. -/
def State.boxes (n : Nat) (s : State) (k : Nat) : Mbox := if k = n then (s.mb k).mute else s.mb k

theorem boxes_mbIrq (n m b : Nat) : (s.mbIrq n m b).boxes n = s.boxes n := by
  unfold State.mbIrq
  split
  · unfold State.boxes State.mb
    rw [mbx_raiseIpend]
  · split
    · funext k
      unfold State.boxes
      split
      · next hk => rw [hk, mb_setMb_self]; rfl
      · next hk => rw [mb_setMb, if_neg hk]
    · rfl

theorem boxes_mbIrqAll (n b : Nat) (l : List Nat) : (s.mbIrqAll n b l).boxes n = s.boxes n :=
  foldl_same (State.boxes n) _ (fun t m => boxes_mbIrq t n m b) l s

variable {s} {t : State} {n : Nat} (h : t.boxes n = s.boxes n)
include h

theorem mute_of_boxes : (t.mb n).mute = (s.mb n).mute := by
  have hn := congrFun h n
  rwa [State.boxes, State.boxes, if_pos rfl, if_pos rfl] at hn

theorem mb_of_boxes {k : Nat} (hk : k ≠ n) : t.mb k = s.mb k := by
  have hn := congrFun h k
  rwa [State.boxes, State.boxes, if_neg hk, if_neg hk] at hn

end

theorem mb_countRefused (s : State) (k : Nat) : s.countRefused.mb k = s.mb k := rfl

theorem satAdd_zero {w : Nat} (x : BitVec w) : satAdd x 0 = x := by
  unfold satAdd
  rw [if_pos (by omega)]
  simp

theorem setQ_q (m : Mbox) (home : Bool) : m.setQ home (m.q home) = m := by cases home <;> rfl

theorem q_setQ (m : Mbox) (home : Bool) (l : List MbWord) : (m.setQ home l).q home = l := by cases home <;> rfl

/-- A queue whose head is good has no bad word to drop. -/
theorem dropBad_good {m : Mbox} {home : Bool} (h : ((m.q home).takeWhile (·.bad)).length = 0) : m.dropBad home = m := by
  unfold Mbox.dropBad
  dsimp only
  rw [h, List.drop_zero, satAdd_zero, setQ_q]

/-- One mailbox at the reset of a master. -/
def State.resetBox (id : Nat) (s : State) (n : Nat) : State :=
  let m := s.mb n
  let s := if m.home.toNat = id then s.mbFlush n true else s
  let s := if m.farReader.toNat = id then s.mbFlush n false else s
  if (s.mb n).lock = some id then s.breakLock n else s

theorem resetMaster_eq (s : State) (id : Nat) : s.resetMaster id = (List.range 64).foldl (State.resetBox id) s := rfl

theorem mb_mbFlush_ne (s : State) {n k : Nat} (home : Bool) (h : k ≠ n) : (s.mbFlush n home).mb k = s.mb k := by
  unfold State.mbFlush
  dsimp only
  rw [mb_of_boxes (boxes_mbIrqAll _ n 6 _) h, mb_setMb, if_neg h]

theorem mb_breakLock_ne (s : State) {n k : Nat} (h : k ≠ n) : (s.breakLock n).mb k = s.mb k := by
  unfold State.breakLock State.dropIncomplete
  dsimp only
  split
  · split
    · rw [mb_setMb, if_neg h]
    · rw [mb_countRefused, mb_setMb, if_neg h, mb_setMb, if_neg h]
  · rw [mb_setMb, if_neg h]

theorem mb_resetBox_ne (s : State) {id n k : Nat} (h : k ≠ n) : (s.resetBox id n).mb k = s.mb k := by
  unfold State.resetBox
  dsimp only
  rw [apply_ite (fun t : State => t.mb k), mb_breakLock_ne _ h, ite_self, apply_ite (fun t : State => t.mb k),
    mb_mbFlush_ne _ _ h, ite_self, apply_ite (fun t : State => t.mb k), mb_mbFlush_ne _ _ h, ite_self]

/-- The mailbox that a master reads as its home, at its reset. -/
theorem resetBox_home {s : State} {id n : Nat} (hh : (s.mb n).home.toNat = id) (hf : (s.mb n).farReader.toNat ≠ id)
    (hl : (s.mb n).lock ≠ some id) : ((s.resetBox id n).mb n).toHome = [] ∧
      ((s.resetBox id n).mb n).discard = satAdd (s.mb n).discard (s.mb n).toHome.length := by
  have hm := mute_of_boxes (boxes_mbIrqAll (s.setMb n { (((s.mb n).setQ true []).setPosters true []) with
    discard := satAdd (s.mb n).discard ((s.mb n).q true).length }) n 6 ((s.mb n).posters true))
  rw [mb_setMb_self] at hm
  have hlock := congrArg Mbox.lock hm
  have hto := congrArg Mbox.toHome hm
  have hdis := congrArg Mbox.discard hm
  have hno : ((s.mbFlush n true).mb n).lock ≠ some id := fun h => hl (Eq.trans hlock.symm h)
  unfold State.resetBox
  dsimp only
  rw [if_pos hh, if_neg hf, if_neg hno]
  exact ⟨hto, hdis⟩

theorem foldl_resetBox_ne (s : State) {id k : Nat} {l : List Nat} (h : k ∉ l) :
    (l.foldl (State.resetBox id) s).mb k = s.mb k := by
  induction l generalizing s with
  | nil => rfl
  | cons n l ih =>
    rw [List.mem_cons, not_or] at h
    exact (ih _ h.2).trans (mb_resetBox_ne s h.1)

/-- A reset acts on each mailbox once. -/
theorem mb_resetMaster (s : State) {id n : Nat} (h : n < 64) : ∃ t : State, t.mb n = s.mb n ∧
    (s.resetMaster id).mb n = (t.resetBox id n).mb n := by
  have hsplit : List.range 64 = List.range n ++ n :: (List.range (63 - n)).map (n + 1 + ·) := by
    rw [show 64 = n + (64 - n) by omega, List.range_add, show 64 - n = (63 - n) + 1 by omega, List.range_succ_eq_map]
    simp [Function.comp_def, Nat.add_assoc, Nat.add_comm 1]
  refine ⟨(List.range n).foldl (State.resetBox id) s, foldl_resetBox_ne s (by simp), ?_⟩
  rw [resetMaster_eq, hsplit, List.foldl_append, List.foldl_cons]
  exact foldl_resetBox_ne _ (by simp; omega)

theorem breakLock_spec (s : State) (n : Nat) : ((s.breakLock n).mb n).lock = none ∧
    ((s.breakLock n).mb n).event = (s.mb n).event ||| 4 := by
  unfold State.breakLock State.dropIncomplete
  dsimp only
  split
  · split
    · rw [mb_setMb_self]
      exact ⟨rfl, rfl⟩
    · rw [mb_countRefused, mb_setMb_self, mb_setMb_self]
      exact ⟨rfl, rfl⟩
  · rw [mb_setMb_self]
    exact ⟨rfl, rfl⟩

/-- A word posted to a reader that runs. -/
theorem mbPost_spec {s : State} (n : Nat) (home : Bool) (src : Nat) (w : Word)
    (h : s.readerDown ((s.mb n).reader home) = false) : ((s.mbPost n home src w).mb n).q home = s.posted n home src w ∧
      ((s.mbPost n home src w).mb n).lock = (s.mb n).lock ∧ ((s.mbPost n home src w).mb n).ovf = (s.mb n).ovf := by
  have hmute : ((s.mbPost n home src w).mb n).mute = Mbox.mute ((((s.mb n).setQ home (s.posted n home src w))).setPosters home
      (if ((s.mb n).posters home).contains src then (s.mb n).posters home else (s.mb n).posters home ++ [src])) := by
    unfold State.mbPost
    dsimp only
    rw [if_neg (by rw [h]; exact Bool.false_ne_true)]
    split
    · rw [mute_of_boxes (boxes_mbIrq _ n _ 5), mb_setMb_self]
      cases home <;> rfl
    · rw [mb_setMb_self]
      cases home <;> rfl
  have hq := congrArg (fun m : Mbox => m.q home) hmute
  have hl := congrArg Mbox.lock hmute
  have ho := congrArg Mbox.ovf hmute
  refine ⟨?_, ?_, ?_⟩
  · cases home <;> exact hq
  · cases home <;> exact hl
  · cases home <;> exact ho

/-- The longest wait of a bank, after one more. -/
theorem starve_wait (t : Tab Word) (n : Nat) (k : Word) :
    ((if (t.get 0 n).toNat < k.toNat then t.set n k else t).get 0 n).toNat = max (t.get 0 n).toNat k.toNat := by
  split
  · next h => rw [Tab.get_set_self, Nat.max_eq_right (Nat.le_of_lt h)]
  · next h => rw [Nat.max_eq_left (Nat.not_lt.1 h)]

/-- Settles O56: the queues by the words they hold (`dropBad_good`), a post by the mailbox without its events
(`mbPost_spec`), a master's reset by its act on each mailbox (`mb_resetMaster`). -/
theorem mailboxesOfTheHost : Obligations.MailboxesOfTheHost := by
  unfold Obligations.MailboxesOfTheHost
  refine ⟨fun n w s home hup hq => ⟨fun hroom hread => ?_, fun hroom => ?_⟩, fun n w s hup hn hq => ?_,
    fun n s home x y rest hup hq hl hx hy => ?_, fun n s home hup hq hl => ?_,
    fun n s hup hg => ⟨fun hl => ?_, fun o ho hl => ?_, fun hl => ?_, fun hl => ?_⟩, fun s hup => ?_,
    fun s n id hn hid hh hf hl => ?_, fun n s hrun h58 h61 hl => ⟨fun hle => ?_, fun hlt => ?_⟩,
    fun m s => ⟨_, rfl, rfl⟩, fun s => ⟨_, rfl, rfl⟩, fun n k s => ?_, fun n s hup ha => ⟨?_, ?_⟩, fun w s hup => ?_⟩
  · obtain ⟨hqueue, hlock, hovf⟩ := mbPost_spec n home 32 w hread
    refine ⟨(s.mbPost n home 32 w).settle, ?_, hqueue, hlock, hovf⟩
    rw [exec_mbnTxWrite, execMbnTxWrite, if_pos hup, State.hostPost, hq]
    dsimp only
    rw [if_pos hroom]
    rfl
  · rw [Becomes, exec_mbnTxWrite, execMbnTxWrite, if_pos hup, State.hostPost, hq]
    dsimp only
    rw [if_neg (by rw [hroom]; exact Bool.false_ne_true)]
    rfl
  · rw [Becomes, exec_mbnTxWrite, execMbnTxWrite, if_pos hup, State.hostPost, hq]
    dsimp only
    rw [State.hostRefusedWrite, if_neg (by omega)]
    rfl
  · have hm : (s.mb n).dropBad home = s.mb n := dropBad_good (by rw [hl, List.takeWhile_cons, if_neg (by rw [hx]; decide)]; rfl)
    have hm' : ((s.mb n).setQ home (y :: rest)).dropBad home = (s.mb n).setQ home (y :: rest) :=
      dropBad_good (by rw [q_setQ, List.takeWhile_cons, if_neg (by rw [hy]; decide)]; rfl)
    rw [Becomes, exec_mbnPop, execMbnPop, if_pos hup, State.hostPop, hq]
    dsimp only
    unfold State.mbTake
    rw [hm]
    dsimp only
    rw [hl]
    dsimp only
    rw [hm', q_setQ]
    rfl
  · have hm : (s.mb n).dropBad home = s.mb n := dropBad_good (by rw [hl]; rfl)
    refine ⟨(s.setMb n (s.mb n)).settle, ?_, mb_setMb_self _ _ _⟩
    rw [exec_mbnPop, execMbnPop, if_pos hup, State.hostPop, hq]
    dsimp only
    unfold State.mbTake
    rw [hm]
    dsimp only
    rw [hl]
    rfl
  · refine ⟨_, by
      rw [exec_mbnLockRead, execMbnLockRead, if_pos hup, State.hostLockRead, if_pos hg, State.lockRead, hl], ?_⟩
    exact ⟨congrArg Mbox.lock (mb_setMb_self s _ _), rfl, fun k hk => (mb_setMb s _ _ k).trans (if_neg hk)⟩
  · have hr : s.hostLockRead n = (o + 1, s) := by
      rw [State.hostLockRead, if_pos hg, State.lockRead, hl]
      exact if_neg ho
    refine ⟨_, by rw [exec_mbnLockRead, execMbnLockRead, if_pos hup, hr], ?_⟩
    exact ⟨rfl, rfl⟩
  · rw [Becomes, exec_mbnLockRelease, execMbnLockRelease, if_pos hup, State.hostLockRelease, if_pos hg, State.lockRelease,
      if_pos hl]
    rfl
  · rw [Becomes, exec_mbnLockRelease, execMbnLockRelease, if_pos hup, State.hostLockRelease, if_pos hg, State.lockRelease,
      if_neg hl]
    rfl
  · rw [Becomes, exec_hostReset, execHostReset, if_pos hup]
    rfl
  · obtain ⟨t, ht, hreset⟩ := mb_resetMaster s (id := id) hn
    rw [hreset, ← ht]
    exact resetBox_home (by rw [ht]; exact hh) (by rw [ht]; exact hf) (by rw [ht]; exact hl)
  · obtain ⟨hlock, hev⟩ := breakLock_spec s n
    refine ⟨(s.breakLock n).countRefused.settle, ?_, hlock, ?_⟩
    · rw [exec_mailboxLockBreak, execMailboxLockBreak, if_pos]
      · rfl
      · rw [hrun, decide_eq_true h58, decide_eq_true h61, decide_eq_true hle, Option.isSome_iff_ne_none.2 hl]
        rfl
    · refine (congrArg (fun e : BitVec 4 => e.getLsbD 2) hev).trans ?_
      exact getLsbD_or_bit _ _ _ _ (by decide)
  · rw [exec_mailboxLockBreak, execMailboxLockBreak, if_neg]
    rw [decide_eq_false (Nat.not_le.2 hlt), Bool.and_false]
    exact Bool.false_ne_true
  · have hwithin : ∀ m : MbxBlk, s.within [.mbx] { s with mbx := m } := by
      intro m b hb
      cases b <;> first | rfl | exact absurd hb (by decide)
    rcases Nat.lt_or_ge k.toNat 2048 with hk | hk
    · refine ⟨_, by
        rw [exec_bankStarve, execBankStarve]
        dsimp only
        rw [if_neg (Nat.not_le.2 hk)], ?_⟩
      exact ⟨starve_wait s.mbx.wait n k, fun h => absurd hk (Nat.not_lt.2 h), fun _ => ⟨rfl, rfl⟩, hwithin _⟩
    · refine ⟨_, by
        rw [exec_bankStarve, execBankStarve]
        dsimp only
        rw [if_pos hk], ?_⟩
      exact ⟨starve_wait s.mbx.wait n k, fun _ => ⟨Tab.get_set_self _ _ _ _, rfl⟩,
        fun h => absurd h (Nat.not_lt.2 hk), hwithin _⟩
  · rw [Becomes, exec_portStatSnap, execPortStatSnap, if_pos (by rw [hup, ha]; rfl)]
    rfl
  · rw [Becomes, exec_portStatClear, execPortStatClear, if_pos (by rw [hup, ha]; rfl)]
    rfl
  · rw [Becomes, exec_captureReadAdvance, execCaptureReadAdvance, if_pos hup]
    rfl

end Sys2Proof.Machine
end

section
/-! SUPPORT. Uncorrectable words, the recovery of a cluster, its watchdogs, the DRAM and the outbox (R36, R37, R357,
R376, R386 to R395). -/

namespace Sys2Proof.Machine

set_option Elab.async false

/-! ### Uncorrectable words -/

theorem countEcc_spec (w : EccAt) (s : State) :
    (∀ m, w.index = some m → (s.countEcc w).mbx.eccUnc.get 0 m = satInc (s.mbx.eccUnc.get 0 m) ∧
      (s.countEcc w).mbx.event.getLsbD 2 = true) ∧
    (w.index = none → s.countEcc w = s) ∧ s.within [.mbx] (s.countEcc w) := by
  unfold State.countEcc
  cases w.index with
  | none => exact ⟨fun m hm => absurd hm (by simp), fun _ => rfl, fun b _ => by cases b <;> rfl⟩
  | some m =>
    refine ⟨fun k hk => ?_, fun hn => absurd hn (by simp), fun b hb => ?_⟩
    · obtain rfl := Option.some.inj hk
      exact ⟨Tab.get_set_self _ _ _ _, getLsbD_or_bit 4 _ 4 2 (by decide)⟩
    · cases b <;> first | rfl | exact absurd hb (by decide)

theorem exec_eccUncorrectable_running {w : EccAt} {s : State} {o : Out} (hrun : s.running = true)
    (h : execEccUncorrectable w s = if !s.running then .next s else o) : exec (.eccUncorrectable w) s = o := by
  rw [exec_eccUncorrectable, h, hrun]
  rfl

theorem stat_zeroed (u : State) (n i : Nat) :
    ((u.setPort n { u.port n with stat := (u.port n).stat.set i 0 }).port n).stat.get 0 i = 0 ∧
    ((u.setPort n { u.port n with stat := (u.port n).stat.set i 0 }).port n).snap = (u.port n).snap := by
  rw [port_setPort_self]
  exact ⟨Tab.get_set_self _ _ _ _, rfl⟩

theorem snap_zeroed (u : State) (n i : Nat) :
    ((u.setPort n { u.port n with snap := (u.port n).snap.set i 0 }).port n).snap.get 0 i = 0 ∧
    ((u.setPort n { u.port n with snap := (u.port n).snap.set i 0 }).port n).stat = (u.port n).stat := by
  rw [port_setPort_self]
  exact ⟨Tab.get_set_self _ _ _ _, rfl⟩

/-- The words of every memory but a bank's and Sage's bank's. -/
theorem uncorrectableWordsAreHandled : UncorrectableWordsAreHandled := by
  unfold UncorrectableWordsAreHandled
  refine ⟨countEcc_spec, fun s hrun => ⟨?_, fun f => ?_, fun k => ?_, fun k => ?_, fun a v => ?_, fun d => ?_, ?_, fun i => ?_,
    fun p i => ?_, fun p i => ?_, fun i => ?_, fun n home i => ?_, fun u => ?_, fun off hwf => ?_, fun p => ?_⟩⟩
  · exact exec_eccUncorrectable_running hrun rfl
  · exact exec_eccUncorrectable_running hrun rfl
  · refine ⟨_, exec_eccUncorrectable_running hrun rfl, ?_⟩
    refine ⟨?_, getLsbD_or_bit _ _ 16 _ (by decide), rfl, ?_⟩
    · exact congrArg Cluster.jdamage (cl_setCl_self (s.outsideFault 3 0 0) k.val _)
    · exact fun j hj => (cl_setCl (s.outsideFault 3 0 0) k.val _ j).trans (if_neg hj)
  · refine ⟨_, exec_eccUncorrectable_running hrun rfl, ?_⟩
    exact ⟨rfl, rfl⟩
  · refine ⟨_, exec_eccUncorrectable_running hrun rfl, ?_⟩
    exact ⟨rfl, rfl⟩
  · refine ⟨_, exec_eccUncorrectable_running hrun rfl, ?_⟩
    exact ⟨rfl, rfl, rfl, rfl⟩
  · refine ⟨_, exec_eccUncorrectable_running hrun rfl, ?_⟩
    exact ⟨rfl, rfl⟩
  · refine ⟨_, exec_eccUncorrectable_running hrun rfl, ?_⟩
    exact ⟨rfl, fun x => Mem.read_clearRange 0 s.mem.cap _ _ x⟩
  · refine ⟨_, exec_eccUncorrectable_running hrun rfl, ?_⟩
    obtain ⟨hget, hsnap⟩ := stat_zeroed ((s.countEcc (.portStat p false i)).outsideFault 4 4 0) p i
    exact ⟨hget, hsnap, rfl⟩
  · refine ⟨_, exec_eccUncorrectable_running hrun rfl, ?_⟩
    exact snap_zeroed ((s.countEcc (.portStat p true i)).outsideFault 4 4 0) p i
  · refine ⟨_, exec_eccUncorrectable_running hrun rfl, ?_⟩
    exact ⟨rfl, rfl⟩
  · exact exec_eccUncorrectable_running hrun rfl
  · refine ⟨_, exec_eccUncorrectable_running hrun rfl, ?_⟩
    exact ⟨rfl, rfl⟩
  · refine ⟨_, exec_eccUncorrectable_running hrun rfl, ?_⟩
    simp only [Mems.wf, Bool.and_eq_true] at hwf
    obtain ⟨⟨⟨-, hsvc⟩, -⟩, -⟩ := hwf
    intro x hx
    refine Mem.read_writeBytes_out hsvc _ x _ ?_
    rw [Free.bytes, List.length_map, List.length_range]
    exact hx
  · exact exec_eccUncorrectable_running hrun rfl

/-! ### Recovery -/

/-- A fatal error keeps Rosemary's counts and the mailboxes. -/
theorem fatal_keeps {s : State} (h : s.sys.stage ≠ .fatalSeq) (r i c e : Nat) (d : Word) :
    (s.fatal r i c e d).rmy.outside = s.rmy.outside ∧ (s.fatal r i c e d).mbx = s.mbx := by
  obtain ⟨t, ht, heq⟩ := fatal_eq h r i c e d
  obtain ⟨m, k, j, hcut⟩ := cutJob_eq (s.felled r i c e d)
  have hrmy : t.rmy.outside = s.rmy.outside := by rw [ht, hcut]; rfl
  have hmbx : t.mbx = s.mbx := by rw [ht, hcut]; rfl
  rw [heq]
  exact ⟨hrmy, hmbx⟩

theorem exec_restoreComplete_due {k : Fin 16} {s : State} (hrun : s.running = true) (hst : (s.cl k).st = .restore) (lo hi : Bool) :
    exec (.restoreComplete k lo hi) s = (s.judgeFault k lo hi).done := by
  rw [exec_restoreComplete, execRestoreComplete, hrun, hst]
  rfl

theorem restore_spec (s : State) (k : Nat) :
    ((s.restore k).cl k).st = .replay ∧ ((s.restore k).cl k).awaiting = false ∧ ((s.restore k).cl k).jCur = [] := by
  unfold State.restore
  dsimp only
  rw [cl_setCl_self]
  exact ⟨rfl, rfl, rfl⟩

/-- An engine fenced, before its status point is written. -/
def State.fencedOff (s : State) (e : Nat) : State :=
  let c := s.cl (e / 2)
  let s := s.setCl (e / 2) (if e % 2 = 1 then { c with fencedHi := true } else { c with fencedLo := true })
  { s with rmy := { s.rmy with fence := satInc s.rmy.fence, event := s.rmy.event ||| 2 } }

theorem fencedOff_spec (s : State) (e : Nat) : (s.fencedOff e).fenced e = true ∧
    (∀ k, k ≠ e / 2 → (s.fencedOff e).cl k = s.cl k) ∧ s.within [.rmy] (s.fencedOff e) := by
  have hcl : ∀ k, (s.fencedOff e).cl k = if k = e / 2 then
      (if e % 2 = 1 then { s.cl (e / 2) with fencedHi := true } else { s.cl (e / 2) with fencedLo := true }) else s.cl k :=
    fun k => cl_setCl s (e / 2) _ k
  refine ⟨?_, fun k hk => (hcl k).trans (if_neg hk), ?_⟩
  · unfold State.fenced
    rw [hcl, if_pos rfl]
    split <;> rfl
  · intro b hb
    cases b <;> first | rfl | exact absurd hb (by decide)

/-- A personality restarted for a fault: logged, and a restart is due. -/
theorem restartFault_spec (s : State) (e cls : Nat) (d : Word) : (s.restartFault e cls d).engs = s.engs ∧
    (∀ k, ((s.restartFault e cls d).cl k).st = (s.cl k).st) ∧ (s.restartFault e cls d).rmy.rollback = s.rmy.rollback := by
  unfold State.restartFault
  dsimp only
  split
  · refine ⟨rfl, fun k => ?_, rfl⟩
    unfold State.schedule
    dsimp only
    rw [cl_setCl]
    split
    · next hk => rw [hk]; rfl
    · rfl
  · exact ⟨rfl, fun _ => rfl, rfl⟩

/-! ### The banks -/

/-- A bank word of a pair that fails for the first time is repaired from the partner. -/
theorem bankEcc_pair {s : State} {e line : Nat} (hf : s.fenced e = false) (hl : s.failedLately e line = false)
    (hp : s.paired (e / 2) = true) : (s.bankEcc e line).rmy.repair = satInc s.rmy.repair ∧ (s.bankEcc e line).mem = s.mem ∧
      (s.bankEcc e line).mbx = s.mbx := by
  have hpair : (s.noteFail e line).paired (e / 2) = true := by
    have hcl := cl_setCl_self s (e / 2) { s.cl (e / 2) with
      lineFails := (s.cl (e / 2)).lineFails.filter (fun f => !(f.1 == e && f.2.1 == line)) ++ [(e, line, s.sys.mono)] }
    unfold State.paired State.noteFail
    dsimp only
    rw [hcl]
    exact hp
  unfold State.bankEcc
  rw [if_neg (by rw [hf]; exact Bool.false_ne_true), hl]
  dsimp only
  rw [if_pos (by rfl), State.repairLine, if_pos hpair]
  exact ⟨rfl, rfl, rfl⟩

theorem lead_of_single {s : State} {e : Nat} (h : s.twin (e / 2) = false) : s.lead e = e := by
  unfold State.lead
  rw [h]
  rfl

/-- Settles O58: each event by the branch that its hypotheses name; a fatal error by `fatal_begins` and `fatal_keeps`, a
fenced engine by the state before its status point is written (`fencedOff`), an uncorrectable word by its memory. -/
theorem recoveryRunsItsCourse : Obligations.RecoveryRunsItsCourse := by
  unfold Obligations.RecoveryRunsItsCourse
  refine ⟨uncorrectableWordsAreHandled, fun k lo hi s hrun hst => ⟨fun hj => ?_, fun hj hp => ⟨?_, ?_, ?_⟩, fun hj hor => ?_⟩,
    fun s k => restore_spec s k, fun s e => ?_, fun k busy s hrun hst hd => ?_,
    fun e s hrun htw hi hst hrec => ⟨fun hu => ?_, fun hu => ?_⟩,
    fun s at_ hrun hd => ⟨fun hf => ?_, fun hf => ?_, fun hf hlt => ?_, fun hf hle => ?_⟩,
    fun e line s hrun hf hl hp => ?_, fun s hrun => ⟨?_, ?_⟩, fun e bad s hrun ho => ?_,
    fun e bad s u o rest hrun ho => ⟨fun hl => ?_, fun hl => ⟨fun hc => ?_, fun hc => ?_⟩⟩, fun s e o rest ho hc => ?_⟩
  · rw [Becomes, exec_restoreComplete_due hrun hst, State.judgeFault, if_pos hj]
    rfl
  · rw [Becomes, exec_restoreComplete_due hrun hst, State.judgeFault, hj, hp]
    rfl
  · rw [Becomes, exec_restoreComplete_due hrun hst, State.judgeFault, hj, hp]
    rfl
  · rw [Becomes, exec_restoreComplete_due hrun hst, State.judgeFault, hj, hp]
    rfl
  · rw [Becomes, exec_restoreComplete_due hrun hst, State.judgeFault, hj, if_neg Bool.false_ne_true]
    rcases hor with ⟨rfl, rfl⟩ | hp
    · rw [if_neg (by simp), if_neg (by simp)]
      rfl
    · rw [hp, if_neg (by simp), if_neg (by simp)]
      rfl
  · obtain ⟨hfenced, hcl, hw⟩ := fencedOff_spec s e
    exact ⟨s.fencedOff e, rfl, hfenced, rfl, getLsbD_or_bit _ _ _ _ (by decide), hcl, hw⟩
  · rw [Becomes, exec_replayEnd, execReplayEnd, if_pos (by rw [hrun, hst, hd]; rfl)]
    rfl
  · let u := s.setEng e { s.eng e with wdog := satInc (s.eng e).wdog, wdsAt := s.sys.mono }
    obtain ⟨hengs, hcl, hroll⟩ := restartFault_spec u e 8 0
    have heng : ∀ j, (u.restartFault e 8 0).eng j = u.eng j := fun j => by rw [State.eng, hengs]; rfl
    have hself : u.eng e = _ := eng_setEng_self s e _
    refine ⟨(u.restartFault e 8 0).settle, ?_, ?_⟩
    · rw [exec_watchdogExpiry, execWatchdogExpiry]
      rw [lead_of_single htw, if_pos (by rw [hrun, hi, hst, hrec, hu]; rfl)]
      rfl
    · dsimp only
      rw [settle_eng, settle_core, State.core, heng, hself]
      exact ⟨rfl, rfl, rfl, hcl (e.val / 2), hroll⟩
  · rw [exec_watchdogExpiry, execWatchdogExpiry]
    rw [lead_of_single htw, if_neg (by rw [hu, Bool.and_false]; exact Bool.false_ne_true)]
  · rw [Becomes, exec_dramIslandFailure]
    unfold execDramIslandFailure
    rw [if_neg (by rw [hrun, hd]; decide), hf]
    rfl
  · rw [Becomes, exec_dramIslandFailure]
    unfold execDramIslandFailure
    rw [if_neg (by rw [hrun, hd]; decide), hf]
    rfl
  · rw [exec_dramIslandFailure]
    unfold execDramIslandFailure
    rw [if_neg (by rw [hrun, hd]; decide), hf]
    exact if_pos hlt
  · have h := stage_of_running hrun
    obtain ⟨hstage, -, -, hfatal⟩ := fatal_begins s 0x0A 6 10 0xFF 0 h
    obtain ⟨hout, -⟩ := fatal_keeps h 0x0A 6 10 0xFF 0
    refine ⟨_, by
      rw [exec_dramIslandFailure]
      unfold execDramIslandFailure
      rw [if_neg (by rw [hrun, hd]; decide), hf]
      dsimp only
      rw [if_neg (Nat.not_lt.2 hle)]
      rfl, ?_⟩
    exact ⟨hstage, congrArg satInc hout, congrArg (Option.map FatalRec.reason) hfatal⟩
  · obtain ⟨hcount, -, -⟩ := countEcc_spec (.bank e line) s
    obtain ⟨hunc, hev⟩ := hcount e rfl
    obtain ⟨hrep, hmem, hmbx⟩ := bankEcc_pair (s := s.countEcc (.bank e line)) (e := e) (line := line) hf hl hp
    refine ⟨_, exec_eccUncorrectable_running hrun rfl, ?_⟩
    exact ⟨hrep, hmem, (congrArg (fun m : MbxBlk => m.eccUnc.get 0 e.val) hmbx).trans hunc,
      (congrArg (fun m : MbxBlk => m.event.getLsbD 2) hmbx).trans hev⟩
  · refine ⟨_, exec_eccUncorrectable_running hrun rfl, ?_⟩
    exact ⟨rfl, Tab.get_set_self _ _ _ _⟩
  · refine ⟨_, exec_eccUncorrectable_running hrun rfl, ?_⟩
    have h : ({ s.countEcc (.sageBank true) with rmy := { s.rmy with
      outside := satInc s.rmy.outside, event := s.rmy.event ||| 8 } } : State).sys.stage ≠ .fatalSeq := stage_of_running hrun
    obtain ⟨hstage, -, -, hfatal⟩ := fatal_begins _ 0x0B 3 10 0xFF 0 h
    exact ⟨hstage, congrArg (Option.map FatalRec.reason) hfatal⟩
  · rw [Idles, Becomes, exec_outboxRelease, execOutboxRelease, if_pos hrun]
    unfold State.outLeave
    rw [ho]
    rfl
  · rw [Becomes, exec_outboxRelease, execOutboxRelease, if_pos hrun]
    unfold State.outLeave
    rw [ho]
    dsimp only
    rw [if_pos hl]
    rfl
  · rw [Becomes, exec_outboxRelease, execOutboxRelease, if_pos hrun]
    unfold State.outLeave
    rw [ho]
    dsimp only
    rw [if_neg (by rw [hl]; exact Bool.false_ne_true), hc]
    rfl
  · rw [Idles, Becomes, exec_outboxRelease, execOutboxRelease, if_pos hrun]
    unfold State.outLeave
    rw [ho]
    dsimp only
    rw [if_neg (by rw [hl]; exact Bool.false_ne_true), hc]
    rfl
  · unfold State.outReady at ho
    dsimp only at ho
    split at ho
    · split at ho
      · exact absurd ho (by simp)
      · next h =>
        obtain ⟨rfl, -⟩ := Prod.mk.inj (Option.some.inj ho)
        rw [hc, Bool.true_and] at h
        exact Bool.eq_false_iff.2 fun hlive => h (by rw [hlive]; rfl)
    · exact absurd ho (by simp)

end Sys2Proof.Machine
end

section
/-! SUPPORT. The host's address windows and interrupts (R9 to R13, R55, R290, R486, R490 to R498). -/

namespace Sys2Proof.Machine

set_option Elab.async false

/-! ### Writes of BAR0 -/

theorem exec_registerWrite_bar0 (a : BitVec 26) (b : List Byte) (s : State) :
    Becomes (.registerWrite (.bar0 a) b) s (s.barWrite a.toNat b).canSettle := rfl

theorem writeWords_leBytes (s : State) (a : Nat) (w : Word) : s.writeWords a (leBytes 4 w.toNat) = s.writeWord a w.toNat := by
  have h : s.writeWords a (leBytes 4 w.toNat) = s.writeWord a (leNat (leBytes 4 w.toNat)) := rfl
  rw [h, leNat_leBytes, Nat.mod_eq_of_lt (show w.toNat < 256 ^ 4 from w.isLt)]

theorem msixWords_leBytes (s : State) (a : Nat) (w : Word) : s.msixWords a (leBytes 4 w.toNat) = s.msixWrite a w.toNat := by
  have h : s.msixWords a (leBytes 4 w.toNat) = s.msixWrite a (leNat (leBytes 4 w.toNat)) := rfl
  rw [h, leNat_leBytes, Nat.mod_eq_of_lt (show w.toNat < 256 ^ 4 from w.isLt)]

/-- IRQ_EN, and IRQ_RAW, which is read only. -/
theorem reg_irqEn (s : State) : s.reg (0x10004 : BitVec 26).toNat = .rw s.host.irqEn.toNat
    (fun w => { s with host := { s.host with irqEn := BitVec.ofNat 14 w } }) := by
  simp [State.reg, State.irqReg]

theorem reg_irqRaw (s : State) : s.reg (0x10000 : BitVec 26).toNat = .ro s.irqRaw := by
  simp [State.reg, State.irqReg]

/-- The data word of a vector written. -/
theorem barWrite_data (s : State) (v : Fin 64) (w : Word) :
    s.barWrite (0x18000 + 16 * v.val + 8) (leBytes 4 w.toNat) = { s with host := { s.host with
      msix := s.host.msix.set v { s.host.msix.get {} v with data := w } } } := by
  have hm : msixSpan (0x18000 + 16 * v.val + 8) = true := by
    unfold msixSpan
    rw [decide_eq_true (by omega), decide_eq_true (by omega)]
    rfl
  have hword : s.msixWrite (16 * v.val + 8) w.toNat = { s with host := { s.host with
      msix := s.host.msix.set v { s.host.msix.get {} v with data := w } } } := by
    unfold State.msixWrite
    dsimp only
    rw [show (16 * v.val + 8) / 16 = v.val by omega, show (16 * v.val + 8) % 16 / 4 = 2 by omega]
    simp [MsixEntry.setWord]
  unfold State.barWrite
  rw [hm, if_pos rfl, if_pos (by rw [length_leBytes]; simp; omega), show 0x18000 + 16 * v.val + 8 - 0x18000 = 16 * v.val + 8 by omega,
    msixWords_leBytes, hword]

/-- A write of one word outside the MSI-X structures. -/
theorem barWrite_word {s : State} {a : Nat} (hup : s.sys.up = true) (ha : a % 4 = 0) (hm : msixSpan a = false) (w : Word) :
    s.barWrite a (leBytes 4 w.toNat) = match (s.reg a).act with
      | none => s
      | some f => if (s.reg a).cfg && (s.sys.lc == .operational || s.sys.lc == .retired) then s.wrViol a else f w.toNat := by
  unfold State.barWrite
  rw [hm, if_neg Bool.false_ne_true, if_pos (by rw [ha, length_leBytes]; rfl), writeWords_leBytes, State.writeWord, hup,
    if_neg (by decide)] <;> rfl

theorem writeWords_down {s : State} (hup : s.sys.up = false) (a : Nat) (b : List Byte) : s.writeWords a b = s := by
  have hword : ∀ k w, s.writeWord k w = s := fun k w => by
    rw [State.writeWord, hup]
    rfl
  fun_induction State.writeWords s a b with
  | case1 t a b0 b1 b2 b3 l ih => rw [hword] at ih ⊢; exact ih hup hword
  | case2 => rfl

/-! ### Reads -/

/-- A read of one whole word. -/
theorem exec_wideRegisterRead_word (a : BitVec 26) (s : State) (ha : a.toNat % 4 = 0) :
    ∃ t, exec (.wideRegisterRead (.bar0 a) 4) s = .next t ∧ t.host.readData = leBytes 4 (s.readWord a.toNat).1 ∧
      t.host.capture = (s.readWord a.toNat).2.host.capture := by
  have hr : s.barRead a.toNat 4 = (leBytes 4 (s.readWord a.toNat).1, (s.readWord a.toNat).2) := by
    have h4 : a.toNat / 4 * 4 = a.toNat := by omega
    unfold State.barRead
    rw [if_neg (by decide), h4, ha]
    rfl
  refine ⟨_, rfl, ?_, ?_⟩
  · exact congrArg Prod.fst hr
  · exact congrArg (fun r => r.2.host.capture) hr

theorem viewByte_getD (s : State) {a n i : Nat} (h : i < n) : byteAt (s.viewBytes a n) i = (s.viewByte (a + i)).toNat := by
  unfold byteAt State.viewBytes
  simp [h]

/-! ### Vectors -/

/-- A word of IRQ_VARM arms the vectors of its half. -/
theorem varm_word (s : State) (hi : Bool) (w : Word) : s.varm (bit hi) w.toNat = { s with host := { s.host with
    armed := s.host.armed ||| (w.setWidth 64 <<< (if hi = true then 32 else 0)) } } := by
  have h : BitVec.ofNat 64 (w.toNat % 2 ^ 32 * 2 ^ (32 * bit hi)) = w.setWidth 64 <<< (if hi = true then 32 else 0) := by
    apply BitVec.eq_of_toNat_eq
    have hw := w.isLt
    cases hi
    · simp [bit, Nat.mod_eq_of_lt hw]
    · simp [bit, Nat.shiftLeft_eq, Nat.mod_eq_of_lt hw]
  unfold State.varm
  rw [h]

theorem getLsbD_clear (x : BitVec 64) (v u : Fin 64) :
    (x &&& ~~~ BitVec.ofNat 64 (2 ^ v.val)).getLsbD u = (x.getLsbD u && !decide (u = v)) := by
  rw [BitVec.getLsbD_and, BitVec.getLsbD_not, BitVec.getLsbD_ofNat, Nat.testBit_two_pow, decide_eq_true u.isLt, Bool.true_and,
    Bool.true_and, decide_eq_decide.2 (Fin.ext_iff.trans eq_comm)]

/-- Settles O55: a write by its words and the access code of its register (`barWrite_word`), a read of BAR0 by its one
word, a read of BAR2 byte by byte, a vector by the bit of it that is armed. -/
theorem hostRegistersAndInterrupts : Obligations.HostRegistersAndInterrupts := by
  unfold Obligations.HostRegistersAndInterrupts
  refine ⟨fun a w s hup ha hm => ⟨fun hact => ?_, fun f hact hcfg => ?_, fun f hact hcfg hlc => ?_, fun f hact hcfg hlc => ?_⟩,
    fun a b s hm hor => ?_, fun w s hup => ⟨?_, ?_⟩, fun v w s => ?_, fun a s ha => ?_, fun a b s => rfl,
    fun a n s => ⟨_, rfl, ?_, ?_, fun i hi => ⟨fun hor => ?_, fun hen d hd => ?_⟩⟩, fun s r i hr => ?_, fun hi w s hup => ?_,
    fun v s => ⟨fun hp ha hb => ?_, fun hor => ?_⟩, fun d m f b s => ⟨⟨_, rfl, rfl⟩, ⟨_, rfl, rfl⟩⟩⟩
  · rw [Becomes, exec_registerWrite_bar0, barWrite_word hup ha hm, hact]
  · rw [Becomes, exec_registerWrite_bar0, barWrite_word hup ha hm, hact, hcfg]
    rfl
  · rw [Becomes, exec_registerWrite_bar0, barWrite_word hup ha hm, hact, hcfg]
    rcases hlc with h | h <;> rw [h] <;> rfl
  · rw [Becomes, exec_registerWrite_bar0, barWrite_word hup ha hm, hact, hcfg]
    rcases hlc with h | h | h <;> rw [h] <;> rfl
  · have hb : s.barWrite a.toNat b = s := by
      unfold State.barWrite
      rw [hm, if_neg Bool.false_ne_true]
      split
      · next h =>
        simp only [Bool.and_eq_true, decide_eq_true_eq] at h
        exact writeWords_down (hor.resolve_right (by omega)) _ _
      · rfl
    rw [Becomes, exec_registerWrite_bar0, hb]
  · rw [Becomes, exec_registerWrite_bar0, barWrite_word hup (by decide) (by decide), reg_irqEn]
    rw [← BitVec.ofNat_toNat]
    rfl
  · rw [Becomes, exec_registerWrite_bar0, barWrite_word hup (by decide) (by decide), reg_irqRaw]
    rfl
  · have hv : (BitVec.ofNat 26 (0x18000 + 16 * v.val + 8)).toNat = 0x18000 + 16 * v.val + 8 := by
      rw [BitVec.toNat_ofNat, Nat.mod_eq_of_lt (by omega)]
    rw [Becomes, exec_registerWrite_bar0, hv, barWrite_data]
  · obtain ⟨t, ht, hdata, hcap⟩ := exec_wideRegisterRead_word a s ha
    refine ⟨t, ht, fun hw => ?_, fun hw h0 => ?_, fun v hw h0 hv => ?_⟩
    · rw [hdata, State.readWord]
      dsimp only
      rw [hw]
      rfl
    · rw [hdata, hcap, State.readWord]
      dsimp only
      rw [hw, if_pos rfl, if_pos h0]
      exact ⟨rfl, Tab.find?_set_self _ _ _⟩
    · rw [hdata, State.readWord]
      dsimp only
      rw [hw, if_pos rfl, if_neg h0, hv]
      rfl
  · rw [State.viewBytes, List.length_map, List.length_range]
  · intro b hb
    cases b <;> first | rfl | exact absurd hb (by decide)
  · refine (viewByte_getD s hi).trans ?_
    unfold State.viewByte
    rcases hor with h | h
    · rw [h]
      rfl
    · rw [h]
      cases s.pnt.enabled <;> rfl
  · refine (viewByte_getD s hi).trans ?_
    unfold State.viewByte
    rw [hen, show s.viewAddr (a.toNat + i) = some d from hd]
  · unfold State.viewAddr
    rw [hr]
    dsimp only [List.findSome?_cons, List.findSome?_nil]
    by_cases hi : i < rdLE r.body 0xC 4
    · rw [if_pos hi, if_pos (by simp; omega)]
      unfold viewBase
      rw [Nat.add_sub_cancel_left]
    · rw [if_neg hi, if_neg (by simp; omega)]
  · refine ⟨_, by rw [exec_irqVarm, execIrqVarm, if_pos hup], ?_⟩
    dsimp only
    rw [varm_word]
  · refine ⟨_, by rw [exec_msiXMessage, execMsiXMessage, if_pos (by rw [hp, ha, hb]; rfl)], ?_⟩
    refine ⟨rfl, ?_, rfl, fun u hu => ?_, ?_⟩
    · exact (getLsbD_clear s.host.armed v v).trans (by simp)
    · exact (getLsbD_clear s.host.armed v u).trans (by rw [decide_eq_false hu]; exact Bool.and_true _)
    · intro b hb
      cases b <;> first | rfl | exact absurd hb (by decide)
  · refine ⟨_, by rw [exec_msiXMessage, execMsiXMessage, if_neg (by rcases hor with h | h | h <;> simp [h])], rfl⟩

end Sys2Proof.Machine
end

section
/-! SUPPORT. Frames of the switch core, the transmission of an idle port, cells and planes (R156 to R158, R165, R169,
R179, R181, R189 to R194, R214). -/

namespace Sys2Proof.Machine

set_option Elab.async false

/-! ### Reception -/

/-- A frame on a VLAN its port does not know: taken with verdict 0x08. -/
theorem classify_unknown {s : State} {n len : Nat} {b : List Byte} {prp pre : Bool} {raw : DWord}
    (htag : (parse b).tags = []) (hhsr : (parse b).hsr = none) (hpause : pauseOp (parse b) b = none)
    (hv : s.vlan (s.swPort n).pvid = none) : ∃ red, s.classify n b len prp raw pre =
      (let f : Frame := { src := n, stamp := s.inStamp n raw, gen := s.sw.gen, bytes := b, len := len,
                          cls := (s.swPort n).defClass, colour := 0, vid := (s.swPort n).pvid, red := red, refused := [0x08] }
       (s.newFrame f).2.setPort n (((s.newFrame f).2.port n).fill pre (s.sw.nextFid + 1))) := by
  refine ⟨(s.pairMode n).isSome && (prp || (parse b).hsr.isSome), ?_⟩
  unfold State.classify
  dsimp only
  rw [htag, hhsr, hpause]
  dsimp only [List.isEmpty_nil]
  rw [if_neg (by simp), if_pos]
  · rfl
  · rw [if_neg (by simp), hv]
    rfl

theorem receiveEnd_eq (s : State) (n : Nat) (b : List Byte) (sym : Bool) (raw : DWord) (pre : Bool) : s.receiveEnd n b sym raw pre =
    (let ps := parse (rxParts b).1
     let k := if ((s.port n).slot pre).isNone && 64 ≤ b.length then
       s.classify n ((rxParts b).1.take 128) b.length (prpOf (rxParts b).1).isSome raw pre else s
     let m := k.rxLimit n ps.tags.length ((prpOf (rxParts b).1).isSome || ps.hsr.isSome) raw
     let o := rxOutcome b.length m (fcsOk b) sym
     match (k.port n).slot pre with
     | none => if o = 0 then k.countGood n b.length 0 ps (rxParts b).1 else k.stat n o
     | some fid => if o = 0 then k.receiveGood n fid (rxParts b).1 (rxParts b).2
       else (k.stat n o).abandon n fid (min 16383 b.length) m (rxParts b).1 (rxParts b).2) := by
  rfl

theorem exec_frameReceiveEnd_station {p : Fin 64} {s : State} (h : s.takesPort p = true) (b : List Byte) (pcs : Pcs) (raw : DWord) :
    exec (.frameReceiveEnd (p.castLE (by decide)) b pcs raw) s = (s.receiveEnd p b pcs.sym raw false).done := by
  rw [exec_frameReceiveEnd, execFrameReceiveEnd]
  exact (if_pos h).trans (congrArg State.done (if_neg (Nat.not_le.2 p.isLt)))

theorem slot_fill (q : Port) (pre : Bool) (fid : Nat) : (q.fill pre fid).slot pre = some fid := by
  cases pre <;> rfl

/-! ### Transmission -/

/-- A class of an idle port with nothing queued is passed over. -/
theorem startTx_empty {s : State} {n : Nat} (hheld : (s.port n).held = none) (l : List Nat) (hq : ∀ c ∈ l, s.queue n c = []) :
    s.startTx n l = s := by
  induction l with
  | nil => rfl
  | cons c l ih =>
    have hc : s.candidate n c = none := by
      unfold State.candidate
      rw [hheld, hq c List.mem_cons_self]
      rfl
    rw [State.startTx, hc, ih fun k hk => hq k (List.mem_cons_of_mem c hk)]
    exact ite_self _

theorem startTx_skip {s : State} {n : Nat} (hheld : (s.port n).held = none) (l r : List Nat) (hq : ∀ c ∈ l, s.queue n c = []) :
    s.startTx n (l ++ r) = s.startTx n r := by
  induction l with
  | nil => rfl
  | cons c l ih =>
    have hc : s.candidate n c = none := by
      unfold State.candidate
      rw [hheld, hq c List.mem_cons_self]
      rfl
    rw [List.cons_append, State.startTx, hc, ih fun k hk => hq k (List.mem_cons_of_mem c hk)]
    exact ite_self _

/-- The one waiting class of an idle port. -/
theorem startTx_head {s : State} {n c : Nat} {x : Copy} {rest : List Copy} {f : Frame} (hheld : (s.port n).held = none)
    (hq : s.queue n c = x :: rest) (hopen : s.classOpen n c = true) (hf : s.frame x.fid = some f)
    (hgate : s.gateFits n c (s.sendTime f n 0) = true) (r : List Nat) (hr : ∀ k ∈ r, s.queue n k = []) :
    s.startTx n (c :: r) = if s.guardFits n c (s.sendTime f n 0) then
      s.beginTx n { fid := x.fid, cls := c, stamp := 0 } f else s.guardHold n := by
  have hc : s.candidate n c = some { fid := x.fid, cls := c, stamp := 0 } := by
    unfold State.candidate
    rw [hheld, hq]
    rfl
  have hhold : (s.guardHold n).startTx n r = s.guardHold n :=
    startTx_empty (s := s.guardHold n) hheld r hr
  rw [State.startTx, hopen, hc, if_neg (by decide)]
  dsimp only
  rw [hf]
  dsimp only
  rw [hgate, hhold]
  rfl

/-- A frame that begins on an idle port: it is on the wire, or longer than the port may send. -/
theorem beginTx_head {s : State} {n c : Nat} {x : Copy} {rest : List Copy} {f : Frame} (hheld : (s.port n).held = none)
    (hq : s.queue n c = x :: rest) (hgate : s.gateFits n c (s.sendTime f n 0) = true) :
    let long := s.limitM n (parse (s.egressBody f n 0)).tags.length (s.sendsRed f n).isSome < s.handedLen f n
    (long → s.beginTx n { fid := x.fid, cls := c, stamp := 0 } f = (s.stat n 54).dropCopy n c x (some 0x10)) ∧
    (¬ long → ∃ g, s.beginTx n { fid := x.fid, cls := c, stamp := 0 } f =
      (s.setFrame x.fid g).setPort n { (s.setFrame x.fid g).port n with
        tx := some { fid := x.fid, cls := c, stamp := s.outStamp n s.time.t, from_ := s.time.t, bank := s.ttActive n },
        held := (s.port n).held }) := by
  have hlim : s.fragLim n c (s.sendTime f n 0) = none := by
    unfold State.fragLim
    rw [hgate, if_neg (by simp)]
  have hcopy : (s.queue n c).find? (fun y => y.fid == x.fid) = some x := by
    rw [hq, List.find?_cons_of_pos (by simp)]
  have hresumed : (s.port n).held.any (fun h => h.fid == x.fid) = false := by
    rw [hheld]
    rfl
  refine ⟨fun hl => ?_, fun hl => ?_⟩
  · unfold State.beginTx
    dsimp only
    rw [hcopy, hresumed, if_pos (by rw [decide_eq_true hl]; rfl)]
  · refine ⟨{ f with
      edge := f.edge || s.guarded n && gateEdge (s.sched n) c
        (if 64 ≤ n then 4 else match (s.port n).speed with | 0 => 200 | 1 => 32 | _ => 8) (s.outStamp n s.time.t).toNat
      ctUsed := f.ctUsed || x.ct }, ?_⟩
    unfold State.beginTx
    dsimp only
    rw [hlim, ite_self, hcopy, hresumed, if_neg (by rw [decide_eq_false hl]; decide)]
    rfl

/-- The classes of a port in strict priority, around one of them. -/
theorem classes_around (c : Fin 8) : ∃ l r : List Nat, [7, 6, 5, 4, 3, 2, 1, 0] = l ++ c.val :: r ∧
    (∀ k ∈ l, k < 8 ∧ k ≠ c.val) ∧ (∀ k ∈ r, k < 8 ∧ k ≠ c.val) := by
  refine ⟨([7, 6, 5, 4, 3, 2, 1, 0] : List Nat).take (7 - c.val), ([7, 6, 5, 4, 3, 2, 1, 0] : List Nat).drop (8 - c.val), ?_⟩
  revert c
  decide

theorem exec_frameTransmitStart_head {p : Fin 68} {s : State} {c : Fin 8} {x : Copy} {rest : List Copy} {f : Frame}
    (ht : s.takesPort p = true) (htx : (s.port p).tx = none) (hheld : (s.port p).held = none)
    (hother : ∀ k, k < 8 → k ≠ c.val → s.queue p k = []) (hq : s.queue p c = x :: rest) (hopen : s.classOpen p c = true)
    (hf : s.frame x.fid = some f) (hgate : s.gateFits p c (s.sendTime f p 0) = true) : exec (.frameTransmitStart p) s =
      (if s.guardFits p c (s.sendTime f p 0) then s.beginTx p { fid := x.fid, cls := c, stamp := 0 } f
        else s.guardHold p).done := by
  obtain ⟨l, r, hlr, hl, hr⟩ := classes_around c
  rw [exec_frameTransmitStart, execFrameTransmitStart, if_pos (by rw [ht, htx]; rfl), hlr,
    startTx_skip hheld l _ fun k hk => hother k (hl k hk).1 (hl k hk).2,
    startTx_head hheld hq hopen hf hgate r fun k hk => hother k (hr k hk).1 (hr k hk).2]

/-! ### Cells and planes -/

theorem all_tried_iff (w : BitVec 5) (l : List Nat) : (maskBits 5 w.toNat).all (fun p => l.contains p) = true ↔
    ∀ p, p < 5 → tst w.toNat p = true → p ∈ l := by
  simp only [maskBits, List.all_eq_true, List.mem_filter, List.mem_range, List.contains_iff_mem]
  exact ⟨fun h p hp hw => h p ⟨hp, hw⟩, fun h p hp => h p hp.1 hp.2⟩

/-- The next plane of a core that has a working one works. -/
theorem nextPlane_works {s : State} (p : Nat) (h : s.sw.working ≠ 0) : tst s.sw.working.toNat (s.nextPlane p) = true := by
  have hmem : ∃ q ∈ (List.range 5).map (fun k => (p + 1 + k) % 5), tst s.sw.working.toNat q = true := by
    obtain ⟨q, hq, hw⟩ : ∃ q, q < 5 ∧ tst s.sw.working.toNat q = true := by
      refine Classical.byContradiction fun hno => ?_
      refine h (BitVec.eq_of_getLsbD_eq fun i hi => ?_)
      rw [← tst_toNat, show BitVec.getLsbD (0 : BitVec 5) i = false from BitVec.getLsbD_zero]
      exact Bool.eq_false_iff.2 fun hb => hno ⟨i, hi, hb⟩
    refine ⟨q, List.mem_map.2 ⟨(q + 4 * (p + 1)) % 5, List.mem_range.2 (Nat.mod_lt _ (by decide)), ?_⟩, hw⟩
    omega
  unfold State.nextPlane
  obtain ⟨q, hq⟩ := Option.isSome_iff_exists.1 (List.find?_isSome.2 hmem)
  rw [hq]
  exact List.find?_some hq

/-- A plane in service that is retired: the working planes that are left, with the spare in its place. -/
theorem retirePlane_eq {s : State} {p : Fin 5} (hr : tst s.sw.retired.toNat p = false) : s.retirePlane p =
    (let left := s.sw.working &&& ~~~ BitVec.ofNat 5 (2 ^ p.val)
     let w := if tst s.sw.working.toNat p = true ∧ s.sw.spare < 5 then left ||| BitVec.ofNat 5 (2 ^ s.sw.spare) else left
     let k : State := { s with sw := { s.sw with
       working := w, retired := s.sw.retired ||| BitVec.ofNat 5 (2 ^ p.val), spare := 7
       planeRetire := satInc s.sw.planeRetire, event := s.sw.event ||| 1 } }
     let t : State := { k with sw := { k.sw with cells := s.sw.cells.map (fun c =>
       if c.plane = p.val then { c with plane := k.nextPlane p } else c) } }
     if (maskBits 5 w.toNat).length < 3 then t.fatal 0x07 9 4 else t.logFault 4 9 0xFF 0 0) := by
  unfold State.retirePlane
  dsimp only
  rw [hr, if_neg (by simp)]
  simp only [Bool.and_eq_true, decide_eq_true_eq]

/-- Settles O52: a decision is taken in the order of the checks of `State.classify`; the head of the one waiting class of
an idle port is the candidate of its transmission; the planes that a cell may still take are the working ones that it
has not tried. -/
theorem switchFramesAndPlanes : Obligations.SwitchFramesAndPlanes := by
  unfold Obligations.SwitchFramesAndPlanes
  refine ⟨fun p b len prp raw s ht hlen hslot => ⟨?_, fun htag hhsr hpause hv => ?_⟩,
    fun p b pcs raw s ht => ⟨fun hrx hlt hle => ?_, fun fid hrx => ?_, fun hrx hle fid hk => ?_⟩,
    fun a v s hrun hage => ?_, fun i a q s hrun => ?_,
    fun p s ht htx hheld => ⟨fun hq => ?_, fun c x rest f hother hq hopen hf hgate => ⟨fun hg hl => ?_, fun hg hl => ?_, fun hg => ?_⟩⟩,
    fun p s x hrun htx => ⟨fun hor => ?_, fun hlim hcut => ?_, fun k hp hcut hfr => ?_, fun k hor => ?_⟩,
    fun p c s x rest hrun hg hm hq hb => ⟨fun hle => ?_, fun hlt => ?_⟩,
    fun i o seq s hrun => ⟨fun c hc => ⟨?_, ?_, ?_⟩, fun hc => ⟨fun hlt => ?_, ?_, ?_⟩⟩,
    fun s c => ⟨fun ⟨p, hp, hw, hno⟩ => ?_, fun hall => ?_⟩, fun s p h => nextPlane_works p h,
    fun p s hrun => ⟨fun hr => ?_, fun hr => ⟨fun hle => ?_, fun hlt => ?_⟩⟩⟩
  · rw [Becomes, exec_frameClassify, execFrameClassify]
    rw [if_pos (by rw [ht, hslot, decide_eq_true hlen]; rfl)]
    rfl
  · obtain ⟨red, hcl⟩ := classify_unknown (n := p) (len := len) (prp := prp) 
      (pre := (s.port p).frag.any (fun x => x.2 == raw)) (raw := raw) htag hhsr hpause hv
    refine ⟨(s.classify p b len prp raw ((s.port p).frag.any (fun x => x.2 == raw))).settle, ?_, ?_⟩
    · rw [exec_frameClassify, execFrameClassify]
      rw [if_pos (by rw [ht, hslot, decide_eq_true hlen]; rfl)]
      rfl
    · rw [hcl]
      refine ⟨_, Tab.find?_set_self _ _ _, ?_, rfl, rfl, rfl, rfl, rfl, rfl, rfl, rfl, rfl, ?_⟩
      · rw [settle_port, port_setPort_self, slot_fill]
      · intro b hb
        cases b <;> first | rfl | exact absurd hb (by decide)
  · have hrx' : (s.port p).slot false = none := hrx
    have hlen : ¬ 16383 < b.length := by omega
    rw [Becomes, exec_frameReceiveEnd_station ht, receiveEnd_eq]
    dsimp only
    rw [decide_eq_false (Nat.not_le.2 hlt), Bool.and_false, if_neg Bool.false_ne_true, hrx', rxOutcome, if_neg hlen,
      if_neg (Nat.not_lt.2 hle), if_pos hlt]
    dsimp only
    rw [if_neg (by split <;> decide)]
    rfl
  · have hrx' : (s.port p).slot false = some fid := hrx
    rw [Becomes, exec_frameReceiveEnd_station ht, receiveEnd_eq]
    dsimp only
    rw [hrx', if_neg (by simp), hrx']
    rfl
  · have hrx' : (s.port p).slot false = none := hrx
    have hk' : (State.port (s.classify p ((rxParts b).1.take 128) b.length (prpOf (rxParts b).1).isSome raw false) p).slot
      false = some fid := hk
    rw [Becomes, exec_frameReceiveEnd_station ht, receiveEnd_eq]
    dsimp only
    rw [hrx', if_pos (by rw [decide_eq_true hle]; rfl), hk']
    rfl
  · rw [Becomes, exec_fdbAgeOut, execFdbAgeOut, if_pos (by rw [hrun]; simpa using hage)]
    rfl
  · rw [Becomes, exec_ddEntryAgeOut, execDdEntryAgeOut, if_pos hrun]
    rfl
  · rw [Idles, Becomes, exec_frameTransmitStart, execFrameTransmitStart, if_pos (by rw [ht, htx]; rfl),
      startTx_empty hheld _ fun c hc => hq c (by
        simp only [List.mem_cons, List.not_mem_nil, or_false] at hc
        omega)]
    rfl
  · obtain ⟨g, hbegin⟩ := (beginTx_head hheld hq hgate).2 hl
    refine ⟨_, by
      rw [exec_frameTransmitStart_head ht htx hheld hother hq hopen hf hgate, if_pos hg, hbegin]
      rfl, ?_, ?_⟩
    · rw [settle_port, port_setPort_self]
    · intro b hb
      cases b <;> first | rfl | exact absurd hb (by decide)
  · rw [Becomes, exec_frameTransmitStart_head ht htx hheld hother hq hopen hf hgate, if_pos hg,
      (beginTx_head hheld hq hgate).1 hl]
    rfl
  · rw [Becomes, exec_frameTransmitStart_head ht htx hheld hother hq hopen hf hgate,
      if_neg (by rw [hg]; exact Bool.false_ne_true)]
    rfl
  · rw [Becomes, exec_frameTransmitEnd, execFrameTransmitEnd]
    dsimp only
    rw [htx]
    dsimp only
    rw [if_neg (by rw [hrun]; decide), if_neg (by rcases hor with h | h <;> simp [h])]
    rfl
  · rw [exec_frameTransmitEnd, execFrameTransmitEnd]
    dsimp only
    rw [htx]
    dsimp only
    rw [if_neg (by rw [hrun]; decide), if_pos (by rw [hcut, Option.isSome_iff_ne_none.2 hlim]; rfl)]
  · rw [Becomes, exec_frameTransmitEnd, execFrameTransmitEnd]
    dsimp only
    rw [htx]
    dsimp only
    rw [if_neg (by rw [hrun]; decide), if_pos (by rw [hp, hcut, hfr]; rfl)]
    rfl
  · rw [exec_frameTransmitEnd, execFrameTransmitEnd]
    dsimp only
    rw [htx]
    dsimp only
    rw [if_neg (by rw [hrun]; decide), if_neg (by rcases hor with h | h <;> simp [h])]
  · rw [Becomes, exec_guardianDeadlineDrop, execGuardianDeadlineDrop]
    dsimp only
    rw [if_pos (by rw [hrun, hg, hm]; rfl), hq, List.find?_cons_of_pos (by rw [hb]; rfl)]
    dsimp only
    rw [if_pos hle]
    rfl
  · rw [exec_guardianDeadlineDrop, execGuardianDeadlineDrop]
    dsimp only
    rw [if_pos (by rw [hrun, hg, hm]; rfl), hq, List.find?_cons_of_pos (by rw [hb]; rfl)]
    dsimp only
    rw [if_neg (Nat.not_le.2 hlt)]
  · rw [Becomes, exec_cellArrival, execCellArrival, if_pos hrun, hc]
    rfl
  · rw [Becomes, exec_cellArrival, execCellArrival, if_pos hrun, hc]
    rfl
  · rw [Becomes, exec_cellAckTimeout, execCellAckTimeout, hc]
    dsimp only
    rw [if_pos hrun]
    rfl
  · rw [Becomes, exec_cellArrival, execCellArrival, if_pos hrun, hc]
    dsimp only
    rw [if_pos (by rw [decide_eq_true hlt]; rfl)]
    rfl
  · rw [exec_cellArrival, execCellArrival, if_pos hrun, hc]
    rfl
  · rw [exec_cellAckTimeout, execCellAckTimeout, hc]
  · unfold State.cellRetry
    dsimp only
    rw [if_neg fun h => hno ((all_tried_iff _ _).1 h p hp hw)]
  · unfold State.cellRetry
    dsimp only
    rw [if_pos ((all_tried_iff _ _).2 hall)]
  · rw [Idles, Becomes, exec_planeTestFail, execPlaneTestFail, if_pos hrun, State.retirePlane]
    dsimp only
    rw [if_pos (by rw [hr]; rfl)]
    rfl
  · rw [Becomes, exec_planeTestFail, execPlaneTestFail, if_pos hrun, retirePlane_eq hr, if_neg (Nat.not_lt.2 hle)]
    rfl
  · rw [Becomes, exec_planeTestFail, execPlaneTestFail, if_pos hrun, retirePlane_eq hr, if_pos hlt]
    rfl

end Sys2Proof.Machine
end
